-- ==== Sys2Proof/Word.lean ====
section
/-!
DEFINITION. The word types of the device: registers are 32 bits (R98), memory is bytes (R8).
-/
namespace Sys2Proof

/-- A register word. -/
abbrev Word := BitVec 32

/-- A byte of SRAM or MRAM. -/
abbrev Byte := BitVec 8

end Sys2Proof
end

