-- ==== Sys2Proof/Syntax.lean ====
section
/-!
DEFINITION. The commands of the block: one constructor per row of spec/opcode_table.json, and the plain data their
operands carry.  An operand names what the command is about (an instance, an address, a written value) or what the
world shows at that instant (a level, a measured sample): the table gives the rows no operands of their own, so the
operands are the model's reading of each row's rule (DESIGN CHOICE, log entry 7).
-/
namespace Sys2Proof

/-- The two host ports (R109, R112). -/
inductive Port where
  | tw0 | spt
  deriving DecidableEq, Repr

/-- The commit groups (R62): a tile, and the STAGED groups of the fixed-map blocks. -/
inductive Group where
  | tile (n : Nat) | ldgAssign | cnvRack | cnvGroup (g : Nat) | chg (s : Nat) | sct | flt | rtc | zone (h : Nat)
  deriving DecidableEq, Repr

/-- One staged word: the bits written and their values. -/
structure Staged where
  group : Group
  addr : Nat
  mask : Nat
  value : Word
  deriving DecidableEq, Repr


/-- The commands, in the order of the table. -/
inductive Instr where
  /-- `TW0_WRITE` (R117). A whole TW0 write transaction (S, address, data, PEC, P) is received, checked and executed word by word. -/
  | tw0Write (sa : Nat) (addr : Nat) (data : List Byte) (pec : Nat) (endSr : Bool) (vpp : Bool)
  /-- `TW0_READ` (R117). A TW0 read transaction is accepted at its read address and returns data, STATUS and PEC. -/
  | tw0Read (sa : Nat) (addr : Nat) (cnt : Nat) (late : Bool) (bad : List Nat) (clocks : Nat)
  /-- `TW0_TIMEOUT` (R120). SCL held low for 25 ms to 35 ms with TMO_EN set makes TW0 release the bus and discard the transaction. -/
  | tw0Timeout
  /-- `SPT_WRITE` (R123). An SPT write frame is received, its CRC-16 judged, and its words executed. -/
  | sptWrite (cmd : Nat) (addr : Nat) (cnt : Nat) (data : List Byte) (crc : Nat) (mode3 : Bool) (vpp : Bool)
  /-- `SPT_READ` (R123). An SPT read frame is received and answered with token, data, STATUS and CRC-16. -/
  | sptRead (addr : Nat) (cnt : Nat) (crc : Nat) (mode3 : Bool) (late : Bool) (bad : List Nat)
  /-- `SPT_FRAME_ABANDON` (R126). SPT_CS_N rises before the check phase ends and the frame is abandoned with no effect. -/
  | sptFrameAbandon
  /-- `READ_FETCH_COMPLETE` (R110). A read fetch that missed its 2 ms bound completes, so a repeated read of the same address returns the data. -/
  | readFetchComplete (p : Port) (bad : List Nat)
  /-- `REGISTER_WRITE` (R554). A host write to a register word that has no behaviour of its own is judged and applied under its access codes and classes. -/
  | registerWrite (p : Port) (addr : Nat) (v : Word) (vpp : Bool)
  /-- `RC_REGISTER_READ` (R9). A host read of a read-clears register returns the value and clears the bits it returned. -/
  | rcRegisterRead (p : Port) (addr : Nat)
  /-- `LO_WORD_READ` (R162). A read of an accumulator, totals, ACC_LO or FLT_STAT_LO word captures its upper word for the next read. -/
  | loWordRead (p : Port) (addr : Nat)
  /-- `PWR_REQ_AUTO` (R24). A write of AUTO to SYS_PWR_REQ lets the device move between WATCH, READY and FLOW, and wakes it from DORMANT. -/
  | pwrReqAuto (p : Port)
  /-- `PWR_REQ_HOLD_READY` (R24). A write of HOLD_READY to SYS_PWR_REQ keeps the device out of WATCH and wakes it from WATCH or DORMANT. -/
  | pwrReqHoldReady (p : Port)
  /-- `PWR_REQ_DORMANT` (R29). A write of DORMANT to SYS_PWR_REQ requests DORMANT, refused with HELD while an entry condition fails. -/
  | pwrReqDormant (p : Port)
  /-- `PROFILE_WRITE` (R35). A write to SYS_PROFILE selects a new operating profile whose parameters apply each at its own boundary. -/
  | profileWrite (p : Port) (profile : Fin 4)
  /-- `QUEUE_CFG_WRITE` (R137). A write to SYS_Qq_CFG enables, disables or re-sizes a queue ring under the geometry checks. -/
  | queueCfgWrite (p : Port) (q : Fin 64) (v : Word)
  /-- `OQ_DOORBELL` (R134). A doorbell on a submission queue advances TAIL and makes the covered entries SUBMITTED. -/
  | oqDoorbell (p : Port) (q : Fin 32) (index : Nat)
  /-- `HEAD_DOORBELL` (R134). A doorbell on a device-produced queue advances HEAD, freeing consumed entries. -/
  | headDoorbell (p : Port) (q : Fin 32) (index : Nat)
  /-- `MAILBOX_NOP` (R138). A mailbox GO with code 0x0000 completes at once with RESULT OK. -/
  | mailboxNop (p : Port) (m : Fin 4)
  /-- `LDG_KEY_EXPORT` (R188). Keeper service 0x0110 programs a contract's export fuse and then returns its verification key once. -/
  | ldgKeyExport (m : Fin 4) (programOk : Bool)
  /-- `PRP_KEY_EXPORT` (R440). Keeper service 0x0120 programs the propolis export fuse and then returns k_prp once. -/
  | prpKeyExport (m : Fin 4) (programOk : Bool)
  /-- `MAILBOX_UNKNOWN_CODE` (R138). A mailbox GO with a code no chapter defines completes with RESULT UNKNOWN. -/
  | mailboxUnknownCode (p : Port) (m : Fin 4) (code : BitVec 16)
  /-- `MAILBOX_TIMEOUT` (R138). A keeper service not complete within 500 ms returns RESULT TIMEOUT. -/
  | mailboxTimeout (m : Fin 4)
  /-- `TILE_COMMIT` (R63). A write of COMMIT to CMB_Tn_CTL checks the tile's staged fields and accepts or refuses them. -/
  | tileCommit (p : Port) (t : Fin 64)
  /-- `TILE_ABORT` (R64). A write of ABORT to CMB_Tn_CTL empties the tile's staging. -/
  | tileAbort (p : Port) (t : Fin 64)
  /-- `TILE_CLR_STATE` (R42). A write of CLR_STATE zeroes a tile's state, returning an FSM tile to INIT. -/
  | tileClrState (p : Port) (t : Fin 64)
  /-- `STAGED_APPLY` (R63). At the update boundary after an accepted COMMIT the group's staged values apply together and the staging empties. -/
  | stagedApply (g : Group)
  /-- `JOINT_COMMIT_GO` (R67). A write of GO to CMB_JC_CTL checks every named member and, if all pass, picks a tick T. -/
  | jointCommitGo (p : Port)
  /-- `JOINT_COMMIT_ABORT` (R64). A write of ABORT to CMB_JC_CTL empties the staging of every named member. -/
  | jointCommitAbort (p : Port)
  /-- `JOINT_COMMIT_APPLY` (R67). At fabric tick T every member of an accepted joint commit takes its new values. -/
  | jointCommitApply (sub : Nat)
  /-- `WIN_CLR` (R54). A write of CLR to a WIN tile releases a latched state to MID at its next update. -/
  | winClr (p : Port) (t : Fin 64)
  /-- `MAC_ACC_CLR` (R58). A write of ACC_CLR zeroes a MAC tile's accumulator. -/
  | macAccClr (p : Port) (t : Fin 64)
  /-- `TILE_UPDATE` (R44). A tile reaches an update instant of its domain and computes its outputs and state for that fabric tick. -/
  | tileUpdate (t : Fin 64) (sense : List Int) (balls : List Nat)
  /-- `IMAGE_VERIFY` (R93). CMB_LOAD_CTL operation VERIFY copies and checks an image without loading it. -/
  | imageVerify (p : Port) (src : Fin 4) (run : Bool)
  /-- `IMAGE_LOAD` (R94). CMB_LOAD_CTL operation LOAD copies, checks and installs a comb image, stopping and restarting the tiles. -/
  | imageLoad (p : Port) (src : Fin 4) (run : Bool)
  /-- `IMAGE_PROGRAM_A` (R96). CMB_LOAD_CTL operation PROGRAM_A verifies an image and writes it with its record into slot A. -/
  | imageProgramA (p : Port) (src : Fin 4) (run : Bool)
  /-- `IMAGE_PROGRAM_B` (R96). CMB_LOAD_CTL operation PROGRAM_B verifies an image and writes it with its record into slot B. -/
  | imageProgramB (p : Port) (src : Fin 4) (run : Bool)
  /-- `BOOT_IMAGE_LOAD` (R89). After firmware boot the device loads an image from the slots under IMG_POLICY, or runs unconfigured. -/
  | bootImageLoad
  /-- `INTEGRITY_SCRUB_PASS` (R97). A background pass recomputes the configuration store CRC against the reference. -/
  | integrityScrubPass (mismatch : Bool)
  /-- `SAMPLE_STROBE` (R160). At each meter strobe all channels latch results and the sets convert them to charge and energy and decide their class. -/
  | sampleStrobe (codes : List Int) (ofs : List Int) (off : Option Int)
  /-- `SNAP_REQUEST` (R162). A write of SNAP to MTR_CTL requests a snapshot at the next strobe, refused with BUSY while one waits. -/
  | snapRequest (p : Port)
  /-- `SNAPSHOT_TAKEN` (R162). At the next strobe, ACLK edge or handover strobe every accumulator, MTR_CLASS and the strobe count are copied and SNAPRDY sets. -/
  | snapshotTaken
  /-- `SYNC_EDGE_LOSS` (R151). SYNC edges stop for 8 strobe periods and the worker free-runs, clearing LOCK and setting LOSS. -/
  | syncEdgeLoss
  /-- `RATE_SWITCH` (R147). At the first strobe of the new rate after the ledger boundary the meter switches to the new decimator. -/
  | rateSwitch
  /-- `CALIBRATION_SEQUENCE_END` (R153). At the end of each PRBS-11 sequence the meter correlates a gain estimate and accepts or rejects it. -/
  | calibrationSequenceEnd (ch : Fin 20) (est : Nat) (se : Nat)
  /-- `REFERENCE_CROSS_CHECK` (R156). Once per second the secondary reference is measured against the primary and WARN or FAIL set. -/
  | referenceCrossCheck (ratio : Word)
  /-- `DIVIDER_TRACKING_UPDATE` (R158). Once per tracking sequence the divider bottom leg is measured and the ratio in force corrected or DIVFLT set. -/
  | dividerTrackingUpdate (ch : Fin 20) (rpar : Nat)
  /-- `TRK_RESTART` (R159). A write to MTR_TRK_RST discards a channel's baseline and DIVFLT. -/
  | trkRestart (p : Port) (mask : BitVec 20)
  /-- `SLOW_COUNT_INCREMENT` (R163). In WATCH a slow-counter increment advances the string's charge and energy accumulators. -/
  | slowCountIncrement (n : Fin 8) (dv : Int) (sat : Bool)
  /-- `WATCH_VOLTAGE_BURST` (R163). Every 10 s in WATCH an HFRC burst converts and averages the string voltage channels. -/
  | watchVoltageBurst (codes : List Int)
  /-- `WATCH_ENTRY` (R165). With the entry conditions held for the entry delay the device runs the slow-counter overlap and handover into WATCH. -/
  | watchEntry (slow : List Int) (sub : Nat)
  /-- `WATCH_WAKE` (R166). A wake condition in WATCH starts HFRC and the modulators and hands metering back to the full-rate meter in READY. -/
  | watchWake (dq : List Int) (current : Bool) (sub : Nat)
  /-- `DORMANT_ENTRY` (R29). With request DORMANT and the entry conditions holding, the device opens every contactor and enters DORMANT. -/
  | dormantEntry (sub : Nat)
  /-- `DORMANT_WAKE` (R30). A DORMANT wake condition returns the device to READY and resamples event conditions. -/
  | dormantWake (sub : Nat)
  /-- `WAKE_TIMER` (R27). The wake timer fires the profile's wake lead time before an accepted order's start. -/
  | wakeTimer
  /-- `LEDGER_BOUNDARY` (R175). At a regular interval boundary the ledger checks the ring and closes every contract's interval or defers. -/
  | ledgerBoundary
  /-- `LEDGER_EARLY_CLOSE` (R176). A CLOSE write, RTC write, DORMANT entry, MTR reset or LOAD closes every open interval early at its closing instant. -/
  | ledgerEarlyClose (sub : Nat)
  /-- `LEDGER_CLOSE_REQUEST` (R176). A write of CLOSE to LDG_CTL makes the next strobe a closing boundary, or does nothing while the ledger is not started. -/
  | ledgerCloseRequest (p : Port)
  /-- `ASSIGN_COMMIT` (R172). A write of COMMIT to LDG_CTL accepts the staged LDG_ASSIGN for the next close. -/
  | assignCommit (p : Port)
  /-- `ASSIGN_ABORT` (R64). A write of ABORT to LDG_CTL empties the LDG_ASSIGN staging. -/
  | assignAbort (p : Port)
  /-- `LEDGER_RECORD_WRITTEN` (R190). A tagged ledger record and its totals slot are written to MRAM in commit order. -/
  | ledgerRecordWritten
  /-- `LQ_DELIVERY` (R193). A pending ledger record is written as an LQ entry once its queue is enabled and has room. -/
  | lqDelivery (q : Fin 4)
  /-- `LEDGER_START` (R191). After an image load the ledger restores its totals, recovers an unsummed record and starts. -/
  | ledgerStart
  /-- `ORDER_ENGINE_START` (R227). After a device-wide reset the order engine stores the highest valid epoch plus 1 before copying entries. -/
  | orderEngineStart
  /-- `ORDER_COPY` (R203). The order engine copies a SUBMITTED entry from its OQ, advances HEAD, and makes the order PENDING. -/
  | orderCopy
  /-- `ADMISSION_DECISION` (R212). K0 decides a PENDING order against the schedule, caps and estimates and accepts or rejects it. -/
  | admissionDecision
  /-- `DECISION_OVERLOAD` (R211). An order whose decision has not completed 1.9 s after its doorbell is rejected with cause OVERLOAD. -/
  | decisionOverload
  /-- `ORDER_START` (R205). An accepted order's first plan slot begins and the order becomes ACTIVE. -/
  | orderStart (id : Nat)
  /-- `ORDER_DEADLINE` (R217). An order's DEADLINE passes: REST and HOLD end DONE, an unmet ACTIVE order ends SHORTFALL. -/
  | orderDeadline (id : Nat)
  /-- `CONTROL_PERIOD` (R218). Every 1 ms the order engine sets group setpoints for ACTIVE orders and credits metered energy. -/
  | controlPeriod
  /-- `CQ_RECORD_WRITE` (R202). A held-back completion record is written to its CQ once the queue is enabled and has room. -/
  | cqRecordWrite (cq : Fin 16)
  /-- `ORDER_CANCEL` (R221). A write of GO to ORD_CANCEL_CTL cancels the order named in ORD_CANCEL_ID. -/
  | orderCancel (p : Port)
  /-- `ORDER_QUERY` (R204). A write to ORD_QRY_ID captures that order's state and delivered energy. -/
  | orderQuery (p : Port) (id : Word)
  /-- `CAP_WRITE` (R222). A write to a bus, AC, contract cap or brood reserve register applies it and cancels resident orders that no longer fit. -/
  | capWrite (p : Port) (r : Fin 20) (v : Word)
  /-- `RESOURCE_REMOVAL` (R225). A removal reaching the order engine discards, re-plans or installs a shadow plan for the orders that need it. -/
  | resourceRemoval
  /-- `REPLAN_COMPLETE` (R225). K0 finishes re-planning the RESILIENT orders after a removal, or discards those no plan fits. -/
  | replanComplete
  /-- `DISCARD_ALL` (R228). A declared fault or ORD reset withdraws all setpoints, advances the epoch, flushes OQs and discards every order. -/
  | discardAll
  /-- `SCOUT_UPDATE` (R240). Every 1 ms Scout updates ACMON quantities, predictors, confidence and its pre-position level. -/
  | scoutUpdate (ac : List Int) (balls : List (Nat × Nat)) (share : Nat)
  /-- `SCOUT_TIMEOUT` (R253). TMO passes since the level left P0 without confirmation and Scout squashes to P0. -/
  | scoutTimeout
  /-- `HANDBACK_START` (R261). After the dwell and 2 s of stable AC the rectifier trims ramp back to their sharing codes. -/
  | handbackStart
  /-- `HANDBACK_COMPLETE` (R264). Group currents fall below 2 % for 100 ms, or 1 s passes after the ramp, and the episode ends. -/
  | handbackComplete
  /-- `SCOUT_ENABLE_WRITE` (R253). A write to SCT_CTL.EN enables Scout, or with 0 squashes to P0 and holds C at 0. -/
  | scoutEnableWrite (p : Port) (en : Bool)
  /-- `SCOUT_LEVEL_COMMIT` (R242). A write of COMMIT to SCT_CTL checks and accepts the staged level thresholds. -/
  | scoutLevelCommit (p : Port)
  /-- `SCOUT_LEVEL_ABORT` (R64). A write of ABORT to SCT_CTL empties the level-threshold staging. -/
  | scoutLevelAbort (p : Port)
  /-- `SCOUT_SQUASH` (R253). A write of SQUASH to SCT_CTL squashes Scout to P0 with cause HOST. -/
  | scoutSquash (p : Port)
  /-- `SHADOW_PLAN_RECOMPUTE` (R265). K1 recomputes the shadow plan of each string after a schedule change or every 10 s. -/
  | shadowPlanRecompute
  /-- `PWM_PERIOD_START` (R272). At each group period start the device latches every phase's on-time from its inner tile and trim. -/
  | pwmPeriodStart (g : Fin 12) (cs : List (List Int)) (bus : Int) (edges : List Nat)
  /-- `GROUP_START` (R281). An owner sets a group's mode and DRVENg is asserted with outputs still in high impedance. -/
  | groupStart (g : Fin 12) (mode : Fin 5)
  /-- `SENSE_CHECK` (R281). After BIAS the phase current sense is checked and PWM released at the next period, or the group returns OFF with CSERR. -/
  | senseCheck (g : Fin 12) (cs : List (List Int))
  /-- `GROUP_STOP` (R283). An owner withdraws a group and PREF ramps to 0 over STOPT. -/
  | groupStop (g : Fin 12)
  /-- `GROUP_STOP_COMPLETE` (R283). With PREF at 0 and current low, or 20 ms after the ramp, outputs go to high impedance and DRVENg is released. -/
  | groupStopComplete (g : Fin 12) (late : Bool)
  /-- `PHASE_OVERCURRENT` (R287). A phase sense sample beyond ±OCP on 2 consecutive samples stops the group and sets OCP. -/
  | phaseOvercurrent (g : Fin 12) (a b : Int)
  /-- `PREF_RENEWAL_TIMEOUT` (R280). Setpoints not renewed for a control period hold one more period, then PREF ramps to 0. -/
  | prefRenewalTimeout (g : Fin 12)
  /-- `BRAKE_START` (R292). The overshoot comparator reports an overshoot and qualifying type 1 groups start braking. -/
  | brakeStart (mv : Int)
  /-- `SYNC_IN_LOSS` (R290). No SYNC_IN edge arrives within 1.5 intervals and the group sets SYNCLOSS and slews to its own period. -/
  | syncInLoss (g : Fin 12)
  /-- `SYNC_IN_REACQUIRE` (R290). 16 consecutive valid SYNC_IN edges make the group re-acquire synchronisation. -/
  | syncInReacquire (g : Fin 12)
  /-- `SHARE_UPDATE` (R296). Every 10 ms while Scout is IDLE the rectifier trims are updated towards equal shares. -/
  | shareUpdate (imon : List Int)
  /-- `SPARE_CAPACITY_CHECK` (R298). Every 10 ms spare rectifier capacity is computed and bus charging limited or the resource restored. -/
  | spareCapacityCheck
  /-- `TRIM_STEP` (R295). Every millisecond a rectifier trim code moves one step along its ramp. -/
  | trimStep (rt : Fin 6)
  /-- `CNV_RACK_COMMIT` (R299). A write of COMMIT to CNV_CTL checks and accepts the braking and trim limit group. -/
  | cnvRackCommit (p : Port)
  /-- `CNV_RACK_ABORT` (R64). A write of ABORT to CNV_CTL empties the rack group's staging. -/
  | cnvRackAbort (p : Port)
  /-- `DUTY_LIMIT_COMMIT` (R299). A write of COMMIT to CNV_CGg_CTL checks and accepts DMIN and DMAX. -/
  | dutyLimitCommit (p : Port) (g : Fin 12)
  /-- `DUTY_LIMIT_ABORT` (R64). A write of ABORT to CNV_CGg_CTL empties the duty-limit staging. -/
  | dutyLimitAbort (p : Port) (g : Fin 12)
  /-- `SHARE_ENABLE` (R296). A write enabling SHARE_EN starts sharing with every trim from TNOM. -/
  | shareEnable (p : Port)
  /-- `PV_GROUP_START` (R305). MC18 above VSTART for 10 s records VOC and starts a waiting PV group in CHARGE. -/
  | pvGroupStart (g : Fin 12)
  /-- `PV_GROUP_STOP` (R306). Demand ends or PV power stays below 1 % for 60 s and the PV group returns to WAIT. -/
  | pvGroupStop (g : Fin 12)
  /-- `PV_GROUP_FAULT` (R307). OUT_OV or PV_REV stops a PV group without ramp and latches the fault. -/
  | pvGroupFault (g : Fin 12) (rev : Bool)
  /-- `MPPT_STEP` (R309). Every TSTEP the charger updates the MPPT voltage reference by incremental conductance. -/
  | mpptStep (g : Fin 12)
  /-- `MPPT_SCAN_STEP` (R310). A full-scan step ends, its power is measured, and at the last step vref takes the best point. -/
  | mpptScanStep (g : Fin 12)
  /-- `CC_RETURN` (R312). String voltage more than 1 % below VCV_eff for 10 s returns the episode to CC. -/
  | ccReturn (n : Fin 8)
  /-- `CHARGE_TERMINATION` (R313). In CV a current below ITERM for TTERM completes the episode and the string is FULL. -/
  | chargeTermination (n : Fin 8)
  /-- `CHARGE_POWER_HELD` (R314). Charge power held below plan for 10 s is reported as a removal. -/
  | chargePowerHeld (n : Fin 8)
  /-- `CELL_OV` (R315). The highest cell above VCELL + 50 mV for 1 s latches CELL_OV and stops charging. -/
  | cellOv (n : Fin 8)
  /-- `SAFETY_TIMER_EXPIRY` (R317). The charge safety timer expires, TMR_EXP latches and charging ramps to zero. -/
  | safetyTimerExpiry (n : Fin 8)
  /-- `STRING_LOSS_CHARGING` (R319). A charging string is lost: groups go to zero duty, clamps assert and BATT_LOST latches. -/
  | stringLossCharging (n : Fin 8)
  /-- `CLAMP_RELEASE` (R319). 100 ms after the group is OFF the clamp ball function is released. -/
  | clampRelease (g : Fin 12)
  /-- `CHARGE_LIMIT_COMMIT` (R312). A write of COMMIT to a string's CHG CTL checks and accepts ICC, ITERM, VCV and VCELL. -/
  | chargeLimitCommit (p : Port) (n : Fin 8)
  /-- `CHARGE_LIMIT_ABORT` (R64). A write of ABORT to a string's CHG CTL empties its staging. -/
  | chargeLimitAbort (p : Port) (n : Fin 8)
  /-- `CAN_ENABLE` (R324). A write of EN to a CAN controller enables it, refused when the bit timing is out of range. -/
  | canEnable (p : Port) (c : Fin 2) (en : Bool)
  /-- `CAN_FRAME_RECEIVED` (R331). A received CAN data frame is matched against every format entry, decoded and delivered. -/
  | canFrameReceived (c : Fin 2) (frame : Word) (esi : Bool) (remote : Bool) (data : List Byte) (sub : Nat)
  /-- `CAN_POLL` (R326). A format entry's poll frame falls due and is sent on its buses. -/
  | canPoll (i : Fin 64)
  /-- `CAN_WATCH_BURST` (R325). In WATCH a burst starts every WPOLL and the controllers listen for WLISTEN. -/
  | canWatchBurst
  /-- `BUS_OFF_RECOVERY` (R323). A bus-off controller recovers after 128 occurrences of 11 recessive bits. -/
  | busOffRecovery (c : Fin 2)
  /-- `PRESENCE_TIMEOUT` (R337). A module's presence timer runs out and the module becomes absent. -/
  | presenceTimeout (m : Fin 128)
  /-- `ESTIMATOR_START` (R359). At estimator start each module restores its learned values or takes nameplate defaults. -/
  | estimatorStart
  /-- `ESTIMATOR_UPDATE` (R346). Once per second, or at each WATCH burst end, the estimator updates every module's SoC, uncertainty and the admission values. -/
  | estimatorUpdate (sub : Nat)
  /-- `ESTIMATOR_NV_WRITE` (R358). A persistence trigger writes the estimator state to the older learned-values slot. -/
  | estimatorNvWrite
  /-- `EST_SAVE` (R358). A write of SAVE to EST_CTL triggers an NV write, ignored in VOLATILE. -/
  | estSave (p : Port)
  /-- `PERS_VOLATILE_WRITE` (R356). A write of PERS = 0 to EST_CFG stops NV writing and invalidates both slots. -/
  | persVolatileWrite (p : Port)
  /-- `MODULE_VALUE_WRITE` (R356). A host write to LCAP or HLTH sets a module's capacity or resistance within range. -/
  | moduleValueWrite (p : Port) (m : Fin 128) (hlth : Bool) (v : Word)
  /-- `EFUSE_TICK` (R365). At each e-fuse tick the channel evaluates its limit, fault timer and SOA integrator. -/
  | efuseTick (c : Fin 8) (uv : Int) (vi : Nat) (vo : Nat)
  /-- `HARD_SHORT` (R366). The analogue comparator sees current above 3 × ILIM for 200 ns and starts gate discharge. -/
  | hardShort (c : Fin 8) (uv : Int)
  /-- `GATE_OFF_CHECK` (R367). The gate is verified off, or GOFF_FAIL sets after 200 µs. -/
  | gateOffCheck (c : Fin 8) (mv : Int)
  /-- `EFUSE_ENABLE_WRITE` (R363). A write to a channel's EN sets its register enable, refused when RSNS or ILIM is out of range. -/
  | efuseEnableWrite (p : Port) (c : Fin 8) (en : Bool)
  /-- `EFUSE_ENABLE_BALL` (R363). The EFc_EN ball changes level and the channel's combined enable follows. -/
  | efuseEnableBall (c : Fin 8) (level : Bool)
  /-- `CAP_GRACE_EXPIRY` (R369). The grace timer expires and the cap is enforced as the channel's limit. -/
  | capGraceExpiry (c : Fin 8)
  /-- `FEED_CHANGEOVER` (R371). The selected member stops being healthy and the feed discharges it and starts a changeover. -/
  | feedChangeover (f : Fin 3)
  /-- `FEED_RETURN` (R371). A higher-priority member healthy for RETQ starts a changeover back to it. -/
  | feedReturn (f : Fin 3)
  /-- `DEAD_TIME_ELAPSED` (R371). The feed dead time elapses and the incoming member enters START. -/
  | deadTimeElapsed (f : Fin 3)
  /-- `CONTACTOR_CLOSE_REQUEST` (R376). A write of REQ = 1 to KCTL starts precharge, or is refused. -/
  | contactorCloseRequest (p : Port) (n : Fin 8)
  /-- `CONTACTOR_OPEN_REQUEST` (R379). A write of REQ = 0 to KCTL releases the drives and opens the string, or is refused with HELD. -/
  | contactorOpenRequest (p : Port) (n : Fin 8)
  /-- `PRECHARGE_COMPLETE` (R377). Precharge current falls below PCEND for 20 ms and KM is asserted. -/
  | prechargeComplete (n : Fin 8)
  /-- `PRECHARGE_TIMEOUT` (R377). Precharge exceeds the TOPOLOGY time limit and PC_TMO latches. -/
  | prechargeTimeout (n : Fin 8)
  /-- `KF_CLOSED` (R377). KF reads closed and the 10 ms overlap starts. -/
  | kfClosed (n : Fin 8)
  /-- `KF_FAIL` (R377). KF does not close within KFT and KF_FAIL latches. -/
  | kfFail (n : Fin 8)
  /-- `OVERLAP_END` (R377). The overlap ends, KP is released and the contactor is CLOSED. -/
  | overlapEnd (n : Fin 8)
  /-- `KF_DROP` (R378). KF reads open on two samples while CLOSED, latching KF_DROP and removing the string. -/
  | kfDrop (n : Fin 8)
  /-- `KF_WELD` (R378). KF reads closed for 100 ms while OPEN, or does not open within KFT, and KF_WELD latches. -/
  | kfWeld (n : Fin 8)
  /-- `KF_OPENED` (R379). KF reads open during OPENING and the contactor is OPEN. -/
  | kfOpened (n : Fin 8)
  /-- `KFLAG_READ` (R380). A read of KFLAG clears the latched flags and returns the contactor to OPEN or FAULT. -/
  | kflagRead (p : Port) (n : Fin 8)
  /-- `ESTOP_ASSERT` (R382). ESTOP_N low for more than 2 µs releases every KM and KP drive and opens every string. -/
  | estopAssert
  /-- `ESTOP_RELEASE` (R382). ESTOP_N rises, closes nothing, and wakes the device from DORMANT. -/
  | estopRelease
  /-- `SEQUENCER_TICK` (R390). Every 10 µs the sequencer compares every supervised rail against its levels. -/
  | sequencerTick (mv : List Nat) (vsys : Nat) (ilim : Nat)
  /-- `RAIL_FAULT_SET` (R392). A UV or OV fault sets after 3 ticks and takes the rail's ACT action. -/
  | railFaultSet (k : Fin 32) (ov : Bool)
  /-- `RAIL_WARNING_SET` (R390). A UV or OV warning sets after 10 ticks and latches its flag. -/
  | railWarningSet (k : Fin 32) (ov : Bool)
  /-- `RAIL_OVERCURRENT` (R387). A rail at its current limit for 1 ms is switched off with OC latched. -/
  | railOvercurrent (k : Fin 8)
  /-- `POWER_UP_SEQUENCE` (R394). A power-up sequence starts from SEQ_CTL.UP, AUTOUP, a barrier or REUP. -/
  | powerUpSequence (src : Option Port)
  /-- `POWER_DOWN_SEQUENCE` (R397). A power-down sequence starts from SEQ_CTL.DOWN, a barrier, a fault, a collapse or DORMANT entry. -/
  | powerDownSequence (src : Option Port)
  /-- `SEQUENCE_STEP_COMPLETE` (R395). A sequence step's completion condition holds and its DELAY starts. -/
  | sequenceStepComplete
  /-- `SEQUENCE_DELAY_ELAPSED` (R395). A step's DELAY elapses and the next step starts, or the sequence completes. -/
  | sequenceDelayElapsed
  /-- `POWER_UP_STEP_TIMEOUT` (R396). A power-up step misses TIMEOUT, latches SEQ_PUF and starts the power-down sequence. -/
  | powerUpStepTimeout
  /-- `POWER_DOWN_STEP_TIMEOUT` (R398). A power-down step's wait ends by TIMEOUT, latching DTMO and SEQ_PDF. -/
  | powerDownStepTimeout
  /-- `RESET_STRETCH_END` (R393). STRETCH elapses after the last assert cause and the reset output is released. -/
  | resetStretchEnd (n : Fin 4)
  /-- `SYSTEM_INPUT_COLLAPSE` (R399). VSYS_SNS below SYSUV for 3 ticks collapses the system input, acting by the COMPAT rule. -/
  | systemInputCollapse
  /-- `SYSTEM_INPUT_RECOVER` (R403). VSYS_SNS above 1.03 × SYSUV for 100 ms recovers the input, with REUP starting a power-up. -/
  | systemInputRecover
  /-- `LINK_ENABLE` (R409). A write of EN to WGL_CFG starts listening for beacons and joining. -/
  | linkEnable (p : Port) (en : Bool)
  /-- `QUEEN_START` (R409). Position 0 hears no beacon for 10 cycles and starts sending beacons as queen. -/
  | queenStart
  /-- `LINK_CYCLE` (R406). The queen begins a link cycle at a strobe and sends its beacon and any command frame. -/
  | linkCycle (missed : Nat)
  /-- `WORKER_CYCLE_MARKER` (R407). A worker sees a 4 µs cycle marker and sends its STATUS in its slot. -/
  | workerCycleMarker (missed : Bool)
  /-- `BEACON_RECEIVED` (R413). A valid beacon reaches a rack, which takes its barriers, rate and membership. -/
  | beaconReceived (frame : List Byte)
  /-- `STATUS_RECEIVED` (R414). The queen receives a worker's STATUS and updates its presence and acknowledgements. -/
  | statusReceived (frame : List Byte)
  /-- `ITEM_QUOTE` (R414). A STATUS item QUOTE gives a worker's energy and power quote. -/
  | itemQuote (r : Fin 16) (id : Nat) (energy : Nat) (power : Nat)
  /-- `ITEM_PART_RESULT` (R414). A STATUS item PART_RESULT reports a worker's decision on its part. -/
  | itemPartResult (r : Fin 16) (id : Nat) (cause : Nat)
  /-- `ITEM_PART_REACHED` (R418). A STATUS item PART_REACHED reports that a worker's part reached its target. -/
  | itemPartReached (r : Fin 16) (id : Nat)
  /-- `ITEM_PART_ENDED` (R418). A STATUS item PART_ENDED reports a part that ended, and the queen announces PART_END. -/
  | itemPartEnded (r : Fin 16) (id : Nat) (cause : Nat)
  /-- `ITEM_PART_STRING` (R418). A STATUS item PART_STRING reports a string's delivered energy for the queen's records. -/
  | itemPartString (r : Fin 16) (id : Nat) (str : Fin 8) (deliv : Int)
  /-- `ITEM_PART_HELD` (R412). A STATUS item PART_HELD reports a part held after waking, ended if no order holds it. -/
  | itemPartHeld (id : Nat)
  /-- `QUOTE_REQ_RECEIVED` (R415). A worker receives QUOTE_REQ and prepares a quote item. -/
  | quoteReqReceived (record : List Byte)
  /-- `PART_RECEIVED` (R415). A worker receives PART and decides its part under admission. -/
  | partReceived (record : List Byte)
  /-- `WITHDRAW_RECEIVED` (R415). A worker receives WITHDRAW and removes the part without trace. -/
  | withdrawReceived (id : Nat)
  /-- `RESET_FRAME_RECEIVED` (R419). A worker named by a valid RESET frame resets with cause QUEEN if RRST_EN is set. -/
  | resetFrameReceived (mask : BitVec 16) (code : BitVec 16)
  /-- `QUOTE_ANSWER_TIMEOUT` (R415). A worker's answer missing 500 ms after QUOTE_REQ or PART counts as a refusal. -/
  | quoteAnswerTimeout (id : Nat)
  /-- `LINK_LOSS` (R411). A worker misses beacons for 20 cycles, withdraws its swarm parts and rejoins. -/
  | linkLoss
  /-- `WORKER_ABSENT` (R411). A worker's slot is silent for 20 cycles and its swarm orders end PART_FAILED. -/
  | workerAbsent (r : Fin 16)
  /-- `BARRIER_ANNOUNCE` (R416). A write of GO to WGL_BAR_CTL announces a host barrier in the beacons. -/
  | barrierAnnounce (p : Port) (racks : BitVec 16) (action : Fin 8)
  /-- `BARRIER_PART_START` (R417). At barrier cycle AT the parts of the named order become ACTIVE. -/
  | barrierPartStart
  /-- `BARRIER_PART_END` (R417). At barrier cycle AT the parts of the named order end and setpoints are withdrawn. -/
  | barrierPartEnd
  /-- `BARRIER_SEQ_UP` (R417). At barrier cycle AT the named racks start power-up. -/
  | barrierSeqUp
  /-- `BARRIER_SEQ_DOWN` (R417). At barrier cycle AT the named racks start power-down. -/
  | barrierSeqDown
  /-- `BARRIER_LDG_CLOSE` (R417). At barrier cycle AT the named racks close their ledger intervals. -/
  | barrierLdgClose
  /-- `SEND_RESET` (R419). A write to WGL_RST with code 0x5AA5 sends RESET in 3 command windows. -/
  | sendReset (p : Port) (targets : BitVec 16) (code : BitVec 16)
  /-- `ERROR_LINE_ASSERT` (R424). A block's error line asserts, latching its status bit and declaring or recording a fault. -/
  | errorLineAssert (src : Fin 64)
  /-- `FAULT_PULSE_END` (R429). The FAULT_N pulse ends and the ball follows FLT_PIN.DRIVE. -/
  | faultPulseEnd
  /-- `FAULT_CLASS_COMMIT` (R422). A write of COMMIT to FLT_CTL checks and accepts the staged source classes. -/
  | faultClassCommit (p : Port)
  /-- `FAULT_CLASS_ABORT` (R64). A write of ABORT to FLT_CTL empties the class staging. -/
  | faultClassAbort (p : Port)
  /-- `FAULT_INJECT` (R428). A write of GO to FLT_INJ asserts a source's error line, or completes LOCKED in field life. -/
  | faultInject (p : Port) (src : Fin 64)
  /-- `POWER_ON_RESET` (R534). VIN rises above 7.6 V with VCORE in regulation and POR releases after 2 ms. -/
  | powerOnReset
  /-- `AO_POWER_UP` (R536). VAO rises from below 1.6 V, clearing RST_CAUSE and setting AO_POR, POR and OSF. -/
  | aoPowerUp
  /-- `RESET_PIN` (R431). RESET_N low past its glitch filter asserts a device-wide reset with cause PIN. -/
  | resetPin
  /-- `SOFTWARE_RESET` (R430). A write of SWRST with KEY 0xC0DE to RST_CTL resets the device with cause SW. -/
  | softwareReset (p : Port) (v : Word)
  /-- `CRITICAL_ECC_ERROR` (R430). A double-bit or parity error in critical state resets the device with cause ECC. -/
  | criticalEccError
  /-- `DEVICE_RESET` (R433). A device-wide reset lets a word write finish, then resets every block through the wrappers. -/
  | deviceReset (causes : BitVec 12)
  /-- `RESET_RELEASE` (R550). At release of device-wide reset the device samples balls, reads OTP and starts in order. -/
  | resetRelease (compat : Bool) (imgSel : Bool)
  /-- `BOOT_FIRMWARE_SELECT` (R525). The boot ROM checks the valid banks by SEQ and runs the first that passes, or runs nothing. -/
  | bootFirmwareSelect
  /-- `BLOCK_RESET` (R436). A write to RST_BLK isolates a resettable block and holds it in reset. -/
  | blockReset (p : Port) (mask : Word)
  /-- `BLOCK_RESET_RELEASE` (R436). A block reset completes, RST_BSTAT clears and the block answers normally. -/
  | blockResetRelease (n : Fin 32) (sub : Nat)
  /-- `ISOLATION_TIMEOUT` (R436). An isolation wrapper misses its 1 ms bound and asserts FS3. -/
  | isolationTimeout
  /-- `RING_FRAME_WRITE` (R438). Every 250 µs the propolis ring writes one frame and advances WIDX. -/
  | ringFrameWrite
  /-- `EVENT_ENTRY_WRITE` (R441). A propolis event entry is written and tagged within 100 ms of its cause. -/
  | eventEntryWrite
  /-- `BQ_DELIVERY` (R441). An event entry is written to its BQ once the queue has room. -/
  | bqDelivery
  /-- `EVENT_LOG_SCAN` (R442). At PRP start the device scans the event log for the highest valid SEQ. -/
  | eventLogScan
  /-- `WAVEFORM_SEAL` (R445). Once post-trigger frames are complete the waveform record is written and committed. -/
  | waveformSeal
  /-- `WAVEFORM_HOST_TRIGGER` (R443). A write of TRIG to PRP_CTL is a HOST waveform trigger. -/
  | waveformHostTrigger (p : Port)
  /-- `HOST_MARK` (R441). A write of MARK to PRP_CTL writes a HOST_MARK event entry with PRP_MARK. -/
  | hostMark (p : Port)
  /-- `HFXO_CHECK_WINDOW` (R451). A 1,024-cycle ACLK check window counts HFXO cycles towards confirmation or loss. -/
  | hfxoCheckWindow (count : Nat) (amp : Bool)
  /-- `HFXO_START_TIMEOUT` (R451). HFXO not confirmed within 2 s latches HFXO_FAIL and asserts FS12. -/
  | hfxoStartTimeout
  /-- `HFXO_RESTART` (R451). 10 s after a failed start HFXO restarts while HFXO_EN is set. -/
  | hfxoRestart
  /-- `HFXO_LOSS` (R452). HFXO edges stop or a window is out of range and meter and PLL move to HFRC. -/
  | hfxoLoss
  /-- `HFXO_STOP` (R556). A write of 0 to HFXO_EN stops HFXO in order after moving its users to HFRC. -/
  | hfxoStop (p : Port)
  /-- `HFXO_START` (R556). A write of 1 to HFXO_EN starts HFXO for confirmation. -/
  | hfxoStart (p : Port)
  /-- `PLL_LOSS_OF_LOCK` (R453). The PLL loses lock, the system clock moves to HFRC and every converter group stops. -/
  | pllLossOfLock
  /-- `PLL_RELOCK` (R453). The PLL relocks within 1 ms and the system clock and tiles resume. -/
  | pllRelock
  /-- `PLL_RELOCK_TIMEOUT` (R453). No relock within 1 ms causes a device-wide reset with cause CLKMON. -/
  | pllRelockTimeout
  /-- `SYSCLK_MONITOR_TRIP` (R454). No system-clock edge within 2 ACLK cycles causes a CLKMON reset. -/
  | sysclkMonitorTrip
  /-- `ACLK_CRYSTAL_FAIL` (R455). No crystal edge for 1 ms moves ACLK to LFRC and sets OSF. -/
  | aclkCrystalFail
  /-- `ACLK_CRYSTAL_RETURN` (R455). After 32,768 clean crystal cycles ACLK returns to the crystal. -/
  | aclkCrystalReturn
  /-- `HFRC_TRIM` (R448). Once per second HFRC is trimmed against the ACLK crystal. -/
  | hfrcTrim (trim : BitVec 10) (err : Int)
  /-- `CDC_TIMEOUT` (R458). A crossing transfer not taken within 32 destination cycles times out with an error. -/
  | cdcTimeout (group : Fin 8) (overrun : Bool)
  /-- `RTC_SECOND` (R460). The RTC cycle count completes a second and the second count advances. -/
  | rtcSecond
  /-- `RTC_CAPTURE` (R462). A read of RTC_SEC_LO captures the time into the shadow for the following words. -/
  | rtcCapture (p : Port)
  /-- `RTC_TIME_COMMIT` (R463). A write of COMMIT to RTC_CTL accepts the staged time or refuses it with RANGE. -/
  | rtcTimeCommit (p : Port)
  /-- `RTC_TIME_ABORT` (R64). A write of ABORT to RTC_CTL empties the time staging. -/
  | rtcTimeAbort (p : Port)
  /-- `RTC_TIME_APPLY` (R463). At the second ACLK edge after the commit the new second count applies. -/
  | rtcTimeApply (sub : Nat)
  /-- `OSF_CLEAR` (R464). A write of 1 to OSF clears it only while ACLK runs from its crystal. -/
  | osfClear (p : Port)
  /-- `TMR_START` (R470). A write to TMR_START starts or arms the named timers. -/
  | tmrStart (p : Port) (mask : BitVec 16)
  /-- `TMR_STOP` (R470). A write to TMR_STOP halts and disarms the named timers. -/
  | tmrStop (p : Port) (mask : BitVec 16)
  /-- `TMR_RESET` (R470). A write to TMR_RESET returns the named timers' counts to 0. -/
  | tmrReset (p : Port) (mask : BitVec 16)
  /-- `TIMER_CLOCK_EDGE` (R468). A timer-clock edge increments a running timer's count. -/
  | timerClockEdge (n : Fin 16)
  /-- `TIMER_CAPTURE` (R472). A selected TIOn edge copies CNT into CAP. -/
  | timerCapture (n : Fin 8)
  /-- `WATCHDOG_ENABLE` (R478). A write of EN to WDG_H_CTL enables WD_H and starts its first period. -/
  | watchdogEnable (p : Port) (en : Bool)
  /-- `WATCHDOG_SERVICE` (R475). A write to WDG_H_SVC is timestamped and accepted, or is a violation that resets the device. -/
  | watchdogService (p : Port) (v : Word) (stamp : Nat)
  /-- `WATCHDOG_WINDOW_OPEN` (R474). The watchdog count reaches O and the window opens. -/
  | watchdogWindowOpen (w : Fin 3)
  /-- `WATCHDOG_EXPIRY` (R475). A watchdog count reaches P without service and the device resets. -/
  | watchdogExpiry (w : Fin 3)
  /-- `WATCHDOG_CLOCK_TRIP` (R479). A watchdog's monitor sees no edge for 100 µs and causes a CLKMON reset. -/
  | watchdogClockTrip
  /-- `EVIN_BALL_EVENT` (R486). A filtered EVIN ball change meets its mode and sets the source pending. -/
  | evinBallEvent (n : Fin 8) (level : Bool)
  /-- `COALESCE_TIMEOUT` (R490). A host target's coalescing timer reaches TIME and its IRQ ball asserts. -/
  | coalesceTimeout (h : Fin 2)
  /-- `INTC_MASK_SET` (R488). A write to INTC_MASK_SETi masks sources. -/
  | intcMaskSet (p : Port) (i : Fin 8) (v : Word)
  /-- `INTC_MASK_CLR` (R488). A write to INTC_MASK_CLRi unmasks sources. -/
  | intcMaskClr (p : Port) (i : Fin 8) (v : Word)
  /-- `INTC_PEND_SET` (R488). A write to INTC_PEND_SETi sets sources pending. -/
  | intcPendSet (p : Port) (i : Fin 8) (v : Word)
  /-- `INTC_PEND_CLR` (R485). A write to INTC_PEND_CLRi clears pending, and the IRQ ball is released when none is signalled. -/
  | intcPendClr (p : Port) (i : Fin 8) (v : Word)
  /-- `INTC_ROUTE_WRITE` (R489). A write to INTC_ROUTEi moves sources to their new target at the end of the write. -/
  | intcRouteWrite (p : Port) (i : Fin 8) (v : Word)
  /-- `DIE_CONVERSION` (R495). The die sensors are converted and the die throttle evaluated. -/
  | dieConversion (t : List Int)
  /-- `REMOTE_CONVERSION` (R496). A round of remote sensor conversions updates inputs, groups, zones and derating. -/
  | remoteConversion (res : List (Nat × Int))
  /-- `THROTTLE_GRACE_EXPIRY` (R502). GRACE elapses with the temperature still high and the throttle is enforced. -/
  | throttleGraceExpiry (h : Fin 5)
  /-- `THROTTLE_RELEASE` (R502). Temperature below THR − 5 °C for 60 s clears REQ and ENF. -/
  | throttleRelease (h : Fin 5)
  /-- `ZONE_SHUTDOWN_CLEAR` (R503). Every shutdown input below SD − 10 °C for 60 s ends the zone's zero derating. -/
  | zoneShutdownClear (h : Fin 4)
  /-- `DIE_SHUTDOWN` (R503). A die sensor at 135 °C releases every drive and PWM output and declares FS4. -/
  | dieShutdown
  /-- `DIE_SHUTDOWN_RESET` (R503). 100 ms after a DIE shutdown device-wide reset is asserted with rails off. -/
  | dieShutdownReset
  /-- `THERMAL_RESTART` (R503). Every die sensor below 115 °C for 1 s releases reset with cause THERMAL. -/
  | thermalRestart (compat : Bool) (imgSel : Bool) (pinLow : Bool)
  /-- `SENSOR_DISABLE` (R505). A write of TYPE OFF to an input's CFG turns it off at its next conversion slot. -/
  | sensorDisable (p : Port) (n : Fin 16) (group : Fin 8)
  /-- `THM_FLAG_READ` (R498). A read of an input's FLAG clears it and ends exclusion unless it still deviates. -/
  | thmFlagRead (p : Port) (n : Fin 16)
  /-- `ZONE_POINT_COMMIT` (R500). A write of COMMIT to a zone's CTL checks and accepts its derating points. -/
  | zonePointCommit (p : Port) (h : Fin 4)
  /-- `ZONE_POINT_ABORT` (R64). A write of ABORT to a zone's CTL empties its point staging. -/
  | zonePointAbort (p : Port) (h : Fin 4)
  /-- `OTP_WORD_READ` (R510). A host read of the OTP window returns a word, 0 LOCKED for the device key, or DECODE_ERR on a double-bit error. -/
  | otpWordRead (p : Port) (w : Fin 1024) (bad : Bool)
  /-- `OTP_PROGRAM` (R512). OTP_PCTL operation PROGRAM sets the given bits of one OTP word. -/
  | otpProgram (p : Port) (vpp : Bool)
  /-- `OTP_SEAL` (R512). OTP_PCTL operation SEAL programs both region CRCs and then LIFE. -/
  | otpSeal (p : Port) (vpp : Bool)
  /-- `OTP_REVOKE` (R512). OTP_PCTL operation REVOKE sets an image or firmware key revocation bit. -/
  | otpRevoke (p : Port) (vpp : Bool)
  /-- `OTP_ROLLBACK` (R512). OTP_PCTL operation ROLLBACK raises the rollback count to the running SVN. -/
  | otpRollback (p : Port) (vpp : Bool)
  /-- `OTP_OPERATION_END` (R513). An OTP programming operation ends with its result and raises EV194. -/
  | otpOperationEnd (n : Nat) (part : Word) (res : Fin 3)
  /-- `NVC_WRITE` (R522). NVC operation WRITE copies a chunk from scratch into the non-running firmware bank. -/
  | nvcWrite (p : Port)
  /-- `NVC_COMMIT` (R522). NVC operation COMMIT checks the bank's image and writes its bank record. -/
  | nvcCommit (p : Port)
  /-- `NVC_CLEAR` (R522). NVC operation CLEAR invalidates and zeros a firmware bank. -/
  | nvcClear (p : Port)
  /-- `NVC_OPERATION_END` (R522). A host NVC operation ends with its result and raises EV193. -/
  | nvcOperationEnd
  /-- `MRAM_WORD_WRITE` (R514). The MRAM controller serves the next writer's word, writing and verifying it. -/
  | mramWordWrite (aged : List Nat) (fail : Bool)
  /-- `TW1_TRANSFER_GO` (R128). A write of GO to TWI_TW1_CTL starts a controller transfer. -/
  | tw1TransferGo (p : Port) (v : Word)
  /-- `TW1_TRANSFER_DONE` (R128). A TW1 controller transfer ends and DONE and its flags set. -/
  | tw1TransferDone (nack : Option Nat) (rx : List Byte)
  /-- `TW1_ARBITRATION_LOST` (R129). TW1 loses arbitration and retries after STOP, or ends with ARB or ARB_COND. -/
  | tw1ArbitrationLost (stop : Bool) (own : Option (Sum (List Byte) Nat))
  /-- `TW1_TARGET_WRITE` (R130). A controller writes TW1's own address and the bytes are stored with RXFULL set. -/
  | tw1TargetWrite (data : List Byte)
  /-- `TW1_TARGET_READ` (R130). A controller reads TW1's own address and receives the transmit buffer. -/
  | tw1TargetRead (n : Nat)
  /-- `TW1_TIMEOUT` (R421). An SMBus timeout on TW1 sets TMO. -/
  | tw1Timeout
  /-- `VIN_LOSS` (R534). VIN falls below the core buck's dropout and on below about 1.2 V, so the logic runs undefined, then stops and POR re-arms, losing SRAM-only state. -/
  | vinLoss
  /-- `VAO_LOSS` (R536). VAO falls below 1.6 V, so the AO domain with the RTC, RST_CAUSE and RST_LAST stops, and the next rise is an AO power-up. -/
  | vaoLoss
  /-- `CAN_BUS_ERROR` (R323). A CAN controller detects a protocol error on the bus and updates its error counters, possibly moving between error-active, error-passive and bus-off. -/
  | canBusError (c : Fin 2) (kind : Fin 3)
  /-- `OVERSHOOT_END` (R291). The overshoot comparator reports the end of a bus overshoot once MC16 is below BUS_NOMINAL plus BRK_OFF, re-arming braking after BRKLIM. -/
  | overshootEnd (mv : Int)
  deriving DecidableEq, Repr

end Sys2Proof
end

