-- ==== Sys2Proof/Decode.lean ====
section
/-!
DEFINITION. The decoder of the opcode table's words. Commands reach this block as bus transactions, ball events and the
passing of time, and spec/opcode_table.json gives no row any bits: no word spells a command.
-/
namespace Sys2Proof

/-- The command that a table word of `nbits` bits spells: none, as no row of the table has bits. -/
def decodeTableWord (_nbits _w : Nat) : Option Instr := none

end Sys2Proof
end

