-- ==== Sys2Proof/Machine/RegMap.lean ====
section
/-!
DEFINITION. The register map of spec/ (R98, and the field tables of the register sections of chapters 03 to 17): for
every register word its access masks (R9), its class masks (R11) and its reset value (R13), and the bit fields that
the meanings name.  Reset entries IMG, OTP and undef stand as 0 here; an image load, the fuse load of reset release
and the boot firmware write them (DESIGN CHOICE, log entries 2 and 7).
-/
namespace Sys2Proof.Machine

/-- One register or array of registers: its first address, up to two strides with counts (R98: address = base + offset
+ stride × n), its reset word and its masks by access code and class. -/
structure RegRow where
  base : Nat
  dims : List (Nat × Nat)
  reset : Nat
  rw : Nat
  staged : Nat
  held : Nat
  w1c : Nat
  w1s : Nat
  wo : Nat
  rc : Nat
  deriving DecidableEq, Repr

/-- A bit field of one register word: its address, lowest bit and width. -/
structure Fld where
  addr : Nat
  lo : Nat
  width : Nat
  deriving DecidableEq, Repr

/-- Does `off` name one word of an array with these strides and counts? -/
def dimsCover : List (Nat × Nat) → Nat → Bool
  | [], off => off == 0
  | (st, n) :: ds, off => decide (off / st < n) && dimsCover ds (off % st)

def RegRow.covers (r : RegRow) (a : Nat) : Bool :=
  decide (r.base ≤ a) && dimsCover r.dims (a - r.base)

/-- Register words of slot 0x00 (03_host_access.md). -/
def regRows00 : List RegRow := [
  ⟨0x000000, [], 0xB17600, 0x0, 0x0, 0x0, 0x0, 0x0, 0x0, 0x0⟩ /- ID_DEVICE -/,
  ⟨0x000004, [(4, 2)], 0x0, 0x0, 0x0, 0x0, 0x0, 0x0, 0x0, 0x0⟩ /- ID_UID -/,
  ⟨0x00000C, [], 0x0, 0x0, 0x0, 0x0, 0x0, 0x0, 0x0, 0x0⟩ /- ID_FW_VER -/,
  ⟨0x000010, [], 0x0, 0x0, 0x0, 0x0, 0x0, 0x0, 0x0, 0x0⟩ /- ID_FUSE -/,
  ⟨0x000100, [], 0x2, 0x0, 0x0, 0x0, 0x0, 0x0, 0x0, 0x0⟩ /- SYS_PWR_STAT -/,
  ⟨0x000104, [], 0x0, 0x3, 0x0, 0x0, 0x0, 0x0, 0x0, 0x0⟩ /- SYS_PWR_REQ -/,
  ⟨0x000108, [], 0x0, 0x3, 0x0, 0x0, 0x0, 0x0, 0x0, 0x0⟩ /- SYS_PROFILE -/,
  ⟨0x00010C, [], 0x0, 0x0, 0x0, 0x0, 0x0, 0x0, 0x0, 0x0⟩ /- SYS_XSTAT -/,
  ⟨0x000110, [], 0x0, 0x3, 0x0, 0x0, 0x0, 0x0, 0x0, 0x0⟩ /- SYS_MWIN -/,
  ⟨0x001000, [(32, 64)], 0x200000, 0xF7FFC1, 0x0, 0x0, 0x0, 0x0, 0x0, 0x0⟩ /- SYS_Q_CFG -/,
  ⟨0x001004, [(32, 64)], 0x0, 0x0, 0x0, 0x0, 0x0, 0x0, 0x0, 0x0⟩ /- SYS_Q_PTR -/,
  ⟨0x001008, [(32, 64)], 0x0, 0x0, 0x0, 0x0, 0x0, 0x0, 0x1FF, 0x0⟩ /- SYS_Q_DB -/,
  ⟨0x00100C, [(32, 64)], 0x0, 0x0, 0x0, 0x0, 0x200, 0x0, 0x0, 0xFFFF0000⟩ /- SYS_Q_STAT -/]

/-- Register words of slot 0x01 (13_faults_resets.md). -/
def regRows01 : List RegRow := [
  ⟨0x010000, [], 0x0, 0x0, 0x0, 0x0, 0xFFFFFFFF, 0x0, 0x0, 0x0⟩ /- FLT_STAT_LO -/,
  ⟨0x010004, [], 0x0, 0x0, 0x0, 0x0, 0xFFFFFFFF, 0x0, 0x0, 0x0⟩ /- FLT_STAT_HI -/,
  ⟨0x010008, [], 0x0, 0x0, 0x0, 0x0, 0x0, 0x0, 0x3, 0x0⟩ /- FLT_CTL -/,
  ⟨0x01000C, [], 0x0, 0x0, 0x0, 0x0, 0x8, 0x0, 0x0, 0xFF0000⟩ /- FLT_HSTAT -/,
  ⟨0x010010, [(4, 4)], 0x0, 0x0, 0xFFFFFFFF, 0x0, 0x0, 0x0, 0x0, 0x0⟩ /- FLT_CLASS -/,
  ⟨0x010020, [], 0x0, 0x1, 0x0, 0x0, 0x0, 0x0, 0x0, 0x0⟩ /- FLT_PIN -/,
  ⟨0x010024, [], 0x0, 0x0, 0x0, 0x0, 0x0, 0x0, 0x13F, 0x0⟩ /- FLT_INJ -/]

/-- Register words of slot 0x02 (13_faults_resets.md). -/
def regRows02 : List RegRow := [
  ⟨0x020000, [], 0x0, 0x0, 0x0, 0x0, 0xFFF, 0x0, 0x0, 0x0⟩ /- RST_CAUSE -/,
  ⟨0x020004, [], 0x0, 0x0, 0x0, 0x0, 0x0, 0x0, 0xFFFF0001, 0x0⟩ /- RST_CTL -/,
  ⟨0x020008, [], 0x0, 0x0, 0x0, 0x0, 0x0, 0x0, 0xFFFFFFFF, 0x0⟩ /- RST_BLK -/,
  ⟨0x02000C, [], 0x0, 0x0, 0x0, 0x0, 0x0, 0x0, 0x0, 0x0⟩ /- RST_BSTAT -/,
  ⟨0x020010, [], 0x0, 0x0, 0x0, 0x0, 0x0, 0x0, 0x0, 0x0⟩ /- RST_LAST -/]

/-- Register words of slot 0x03 (14_time_watchdogs.md). -/
def regRows03 : List RegRow := [
  ⟨0x030000, [], 0x1, 0xF, 0x0, 0x0, 0x0, 0x0, 0x0, 0x0⟩ /- CLK_CFG -/,
  ⟨0x030004, [], 0x0, 0x0, 0x0, 0x0, 0x700, 0x0, 0x0, 0x0⟩ /- CLK_STAT -/,
  ⟨0x030008, [], 0x0, 0x0, 0x0, 0x0, 0x0, 0x0, 0x0, 0x0⟩ /- CLK_HFXO_CHK -/,
  ⟨0x03000C, [], 0x0, 0x0, 0x0, 0x0, 0x0, 0x0, 0x0, 0x0⟩ /- CLK_HFRC_TRIM -/,
  ⟨0x030010, [], 0x0, 0x0, 0x0, 0x0, 0xFF, 0x0, 0x0, 0xFF0000⟩ /- CLK_CDC -/]

/-- Register words of slot 0x04 (15_interrupts.md). -/
def regRows04 : List RegRow := [
  ⟨0x040100, [], 0x2000000, 0xFFFFFFFF, 0x0, 0x0, 0x0, 0x0, 0x0, 0x0⟩ /- INTC_BCFG -/,
  ⟨0x040110, [(4, 2)], 0x1, 0xFFFF00FF, 0x0, 0x0, 0x0, 0x0, 0x0, 0x0⟩ /- INTC_COAL_H -/,
  ⟨0x040118, [(4, 2)], 0x100, 0x0, 0x0, 0x0, 0x0, 0x0, 0x0, 0x0⟩ /- INTC_NEXT_H -/,
  ⟨0x040120, [], 0x0, 0x0, 0x0, 0x0, 0x0, 0x0, 0x0, 0x0⟩ /- INTC_IRQ_STAT -/,
  ⟨0x040000, [(4, 8)], 0xFFFFFFFF, 0x0, 0x0, 0x0, 0x0, 0xFFFFFFFF, 0x0, 0x0⟩ /- INTC_MASK_SET -/,
  ⟨0x040020, [(4, 8)], 0xFFFFFFFF, 0x0, 0x0, 0x0, 0xFFFFFFFF, 0x0, 0x0, 0x0⟩ /- INTC_MASK_CLR -/,
  ⟨0x040040, [(4, 8)], 0x0, 0x0, 0x0, 0x0, 0x0, 0xFFFFFFFF, 0x0, 0x0⟩ /- INTC_PEND_SET -/,
  ⟨0x040060, [(4, 8)], 0x0, 0x0, 0x0, 0x0, 0xFFFFFFFF, 0x0, 0x0, 0x0⟩ /- INTC_PEND_CLR -/,
  ⟨0x040080, [(4, 8)], 0x0, 0xFFFFFFFF, 0x0, 0x0, 0x0, 0x0, 0x0, 0x0⟩ /- INTC_ROUTE -/,
  ⟨0x0400A0, [(4, 8)], 0x0, 0xFFFFFFFF, 0x0, 0x0, 0x0, 0x0, 0x0, 0x0⟩ /- INTC_WAKE -/,
  ⟨0x0400C0, [(4, 8)], 0x0, 0xFFFFFFFF, 0x0, 0x0, 0x0, 0x0, 0x0, 0x0⟩ /- INTC_URG -/]

/-- Register words of slot 0x05 (14_time_watchdogs.md). -/
def regRows05 : List RegRow := [
  ⟨0x050000, [], 0x0, 0x0, 0x0, 0x0, 0x0, 0x0, 0xFFFF, 0x0⟩ /- TMR_START -/,
  ⟨0x050004, [], 0x0, 0x0, 0x0, 0x0, 0x0, 0x0, 0xFFFF, 0x0⟩ /- TMR_STOP -/,
  ⟨0x050008, [], 0x0, 0x0, 0x0, 0x0, 0x0, 0x0, 0xFFFF, 0x0⟩ /- TMR_RESET -/,
  ⟨0x05000C, [], 0x0, 0x0, 0x0, 0x0, 0x0, 0x0, 0x0, 0x0⟩ /- TMR_RUN -/,
  ⟨0x050100, [(64, 16)], 0x0, 0xFF7F, 0x0, 0xFF7F, 0x0, 0x0, 0x0, 0x0⟩ /- TMR_TM_CFG -/,
  ⟨0x050104, [(64, 16)], 0xFFFFFFFF, 0xFFFFFFFF, 0x0, 0x0, 0x0, 0x0, 0x0, 0x0⟩ /- TMR_TM_PERIOD -/,
  ⟨0x050108, [(64, 16)], 0x0, 0xFFFFFFFF, 0x0, 0x0, 0x0, 0x0, 0x0, 0x0⟩ /- TMR_TM_CMP0 -/,
  ⟨0x05010C, [(64, 16)], 0x0, 0xFFFFFFFF, 0x0, 0x0, 0x0, 0x0, 0x0, 0x0⟩ /- TMR_TM_CMP1 -/,
  ⟨0x050110, [(64, 16)], 0x0, 0x0, 0x0, 0x0, 0x0, 0x0, 0x0, 0x0⟩ /- TMR_TM_CNT -/,
  ⟨0x050114, [(64, 16)], 0x0, 0x0, 0x0, 0x0, 0x0, 0x0, 0x0, 0x0⟩ /- TMR_TM_CAP -/,
  ⟨0x050118, [(64, 16)], 0x0, 0x1F, 0x0, 0x1F, 0x0, 0x0, 0x0, 0x0⟩ /- TMR_TM_IO -/,
  ⟨0x05011C, [(64, 16)], 0x0, 0x0, 0x0, 0x0, 0x1F, 0x0, 0x0, 0x0⟩ /- TMR_TM_FLAG -/]

/-- Register words of slot 0x06 (14_time_watchdogs.md). -/
def regRows06 : List RegRow := [
  ⟨0x060000, [], 0x0, 0x0, 0x0, 0x0, 0x0, 0x0, 0x0, 0x0⟩ /- RTC_SEC_LO -/,
  ⟨0x060004, [], 0x0, 0x0, 0x0, 0x0, 0x0, 0x0, 0x0, 0x0⟩ /- RTC_SEC_HI -/,
  ⟨0x060008, [], 0x0, 0x0, 0x0, 0x0, 0x0, 0x0, 0x0, 0x0⟩ /- RTC_SUB -/,
  ⟨0x06000C, [], 0x7D06101, 0x0, 0x0, 0x0, 0x0, 0x0, 0x0, 0x0⟩ /- RTC_DATE -/,
  ⟨0x060010, [], 0x0, 0x0, 0x0, 0x0, 0x0, 0x0, 0x0, 0x0⟩ /- RTC_TIME -/,
  ⟨0x060014, [], 0x1, 0x0, 0x0, 0x0, 0x13, 0x0, 0x0, 0x0⟩ /- RTC_STAT -/,
  ⟨0x060018, [], 0x0, 0x0, 0xFFFFFFFF, 0x0, 0x0, 0x0, 0x0, 0x0⟩ /- RTC_SET_LO -/,
  ⟨0x06001C, [], 0x0, 0x0, 0xFF, 0x0, 0x0, 0x0, 0x0, 0x0⟩ /- RTC_SET_HI -/,
  ⟨0x060020, [], 0x0, 0x0, 0x0, 0x0, 0x0, 0x0, 0x3, 0x0⟩ /- RTC_CTL -/,
  ⟨0x060024, [], 0x0, 0xFFFFFFFF, 0x0, 0x0, 0x0, 0x0, 0x0, 0x0⟩ /- RTC_ALM_LO -/,
  ⟨0x060028, [], 0x0, 0x800000FF, 0x0, 0x0, 0x0, 0x0, 0x0, 0x0⟩ /- RTC_ALM_HI -/,
  ⟨0x06002C, [], 0x0, 0x1FF, 0x0, 0x0, 0x0, 0x0, 0x0, 0x0⟩ /- RTC_CALIB -/]

/-- Register words of slot 0x07 (14_time_watchdogs.md). -/
def regRows07 : List RegRow := [
  ⟨0x070000, [], 0x400, 0x1FFFF, 0x0, 0x1FFFF, 0x0, 0x0, 0x0, 0x0⟩ /- WDG_H_CFG -/,
  ⟨0x070004, [], 0x0, 0x1, 0x0, 0x0, 0x0, 0x0, 0x0, 0x0⟩ /- WDG_H_CTL -/,
  ⟨0x070008, [], 0x0, 0x0, 0x0, 0x0, 0x0, 0x0, 0xFFFF, 0x0⟩ /- WDG_H_SVC -/,
  ⟨0x07000C, [], 0x0, 0x0, 0x0, 0x0, 0x0, 0x0, 0x0, 0x0⟩ /- WDG_H_STAT -/,
  ⟨0x070010, [(4, 2)], 0x0, 0x0, 0x0, 0x0, 0x0, 0x0, 0x0, 0x0⟩ /- WDG_K_STAT -/]

/-- Register words of slot 0x08 (17_nonvolatile.md). -/
def regRows08 : List RegRow := [
  ⟨0x080000, [], 0x0, 0x0, 0x0, 0x0, 0x14, 0x0, 0x0, 0x0⟩ /- OTP_STAT -/,
  ⟨0x080004, [], 0x0, 0x0, 0x0, 0x0, 0x0, 0x0, 0xFFFF0007, 0x0⟩ /- OTP_PCTL -/,
  ⟨0x080008, [], 0x0, 0x3FF, 0x0, 0x0, 0x0, 0x0, 0x0, 0x0⟩ /- OTP_PADDR -/,
  ⟨0x08000C, [], 0x0, 0xFFFFFFFF, 0x0, 0x0, 0x0, 0x0, 0x0, 0x0⟩ /- OTP_PDATA -/]

/-- Register words of slot 0x09 (17_nonvolatile.md). -/
def regRows09 : List RegRow := [
  ⟨0x090000, [], 0x0, 0x6, 0x0, 0x0, 0x0, 0x0, 0x1, 0x0⟩ /- NVC_CTL -/,
  ⟨0x090004, [], 0x0, 0x801FFFFF, 0x0, 0x0, 0x0, 0x0, 0x0, 0x0⟩ /- NVC_ARG -/,
  ⟨0x090008, [], 0x0, 0x7FFFF, 0x0, 0x0, 0x0, 0x0, 0x0, 0x0⟩ /- NVC_LEN -/,
  ⟨0x09000C, [], 0x0, 0x0, 0x0, 0x0, 0x0, 0x0, 0x0, 0x0⟩ /- NVC_STAT -/,
  ⟨0x090010, [], 0xFF, 0x0, 0x0, 0x0, 0x0, 0x0, 0x0, 0x0⟩ /- NVC_BANK -/,
  ⟨0x090014, [], 0x0, 0x0, 0x0, 0x0, 0x0, 0x0, 0x0, 0xFFFFFF⟩ /- NVC_ERR -/]

/-- Register words of slot 0x0A (16_thermal.md). -/
def regRows0A : List RegRow := [
  ⟨0x0A0000, [], 0x0, 0x0, 0x0, 0x0, 0x0, 0x0, 0x0, 0x0⟩ /- THM_STAT -/,
  ⟨0x0A0004, [], 0x1F4047E, 0x3FF0FFF, 0x0, 0x0, 0x0, 0x0, 0x0, 0x0⟩ /- THM_DIECFG -/,
  ⟨0x0A0008, [(4, 2)], 0x0, 0x0, 0x0, 0x0, 0x0, 0x0, 0x0, 0x0⟩ /- THM_DIE -/,
  ⟨0x0A0010, [], 0xA32, 0xFFFF, 0x0, 0x0, 0x0, 0x0, 0x0, 0x0⟩ /- THM_XCHK -/,
  ⟨0x0A0100, [(32, 16)], 0x0, 0x1F, 0x0, 0x1F, 0x0, 0x0, 0x0, 0x0⟩ /- THM_TS_CFG -/,
  ⟨0x0A0104, [(32, 16)], 0xF3C2710, 0xFFFFFFFF, 0x0, 0xFFFFFFFF, 0x0, 0x0, 0x0, 0x0⟩ /- THM_TS_PARAM -/,
  ⟨0x0A0108, [(32, 16)], 0x0, 0xFFF, 0x0, 0xFFF, 0x0, 0x0, 0x0, 0x0⟩ /- THM_TS_SD -/,
  ⟨0x0A010C, [(32, 16)], 0x0, 0x0, 0x0, 0x0, 0x0, 0x0, 0x0, 0x0⟩ /- THM_TS_TEMP -/,
  ⟨0x0A0110, [(32, 16)], 0x0, 0x0, 0x0, 0x0, 0x0, 0x0, 0x0, 0x1F⟩ /- THM_TS_FLAG -/,
  ⟨0x0A0400, [(64, 4)], 0xA3C0000, 0xFFFF0FFF, 0x0, 0x0, 0x0, 0x0, 0x0, 0x0⟩ /- THM_Z_THR -/,
  ⟨0x0A0404, [(64, 4)], 0x0, 0x0, 0x0, 0x0, 0x0, 0x0, 0x3, 0x0⟩ /- THM_Z_CTL -/,
  ⟨0x0A0408, [(64, 4)], 0x0, 0x0, 0x0, 0x0, 0x40000, 0x0, 0x0, 0x0⟩ /- THM_Z_STAT -/,
  ⟨0x0A0410, [(64, 4)], 0xC8FF38, 0x0, 0xFFFFFFFF, 0x0, 0x0, 0x0, 0x0, 0x0⟩ /- THM_Z_PT0 -/,
  ⟨0x0A0414, [(64, 4)], 0x1F40000, 0x0, 0xFFFFFFFF, 0x0, 0x0, 0x0, 0x0, 0x0⟩ /- THM_Z_PT1 -/,
  ⟨0x0A0418, [(64, 4)], 0x3E80064, 0x0, 0xFFFFFFFF, 0x0, 0x0, 0x0, 0x0, 0x0⟩ /- THM_Z_PT2 -/,
  ⟨0x0A041C, [(64, 4)], 0x3E80190, 0x0, 0xFFFFFFFF, 0x0, 0x0, 0x0, 0x0, 0x0⟩ /- THM_Z_PT3 -/,
  ⟨0x0A0420, [(64, 4)], 0x2EE01C2, 0x0, 0xFFFFFFFF, 0x0, 0x0, 0x0, 0x0, 0x0⟩ /- THM_Z_PT4 -/,
  ⟨0x0A0424, [(64, 4)], 0x1F401F4, 0x0, 0xFFFFFFFF, 0x0, 0x0, 0x0, 0x0, 0x0⟩ /- THM_Z_PT5 -/,
  ⟨0x0A0428, [(64, 4)], 0xC80226, 0x0, 0xFFFFFFFF, 0x0, 0x0, 0x0, 0x0, 0x0⟩ /- THM_Z_PT6 -/,
  ⟨0x0A042C, [(64, 4)], 0x258, 0x0, 0xFFFFFFFF, 0x0, 0x0, 0x0, 0x0, 0x0⟩ /- THM_Z_PT7 -/]

/-- Register words of slot 0x0B (03_host_access.md). -/
def regRows0B : List RegRow := [
  ⟨0x0B0000, [], 0x5, 0x7, 0x0, 0x0, 0x0, 0x0, 0x0, 0x0⟩ /- TWI_TW0_CFG -/,
  ⟨0x0B0004, [], 0x0, 0xFFFFFFFF, 0x0, 0x0, 0x0, 0x0, 0x0, 0x0⟩ /- TWI_TW0_ADDR -/,
  ⟨0x0B0008, [], 0x0, 0x0, 0x0, 0x0, 0x0, 0x0, 0x0, 0xFFFF⟩ /- TWI_TW0_STAT -/,
  ⟨0x0B0100, [], 0xA0, 0x7FFF, 0x0, 0x7FFE, 0x0, 0x0, 0x0, 0x0⟩ /- TWI_TW1_CFG -/,
  ⟨0x0B0104, [], 0x0, 0x3F3FFF, 0x0, 0x0, 0x0, 0x0, 0x1000000, 0x0⟩ /- TWI_TW1_CTL -/,
  ⟨0x0B0108, [], 0x0, 0x0, 0x0, 0x0, 0xFE, 0x0, 0x0, 0x0⟩ /- TWI_TW1_STAT -/,
  ⟨0x0B0140, [(4, 8)], 0x0, 0xFFFFFFFF, 0x0, 0x0, 0x0, 0x0, 0x0, 0x0⟩ /- TWI_TW1_TX -/,
  ⟨0x0B0160, [(4, 8)], 0x0, 0x0, 0x0, 0x0, 0x0, 0x0, 0x0, 0x0⟩ /- TWI_TW1_RX -/]

/-- Register words of slot 0x0C (03_host_access.md). -/
def regRows0C : List RegRow := [
  ⟨0x0C0000, [], 0x0, 0x0, 0x0, 0x0, 0x0, 0x0, 0x0, 0xFFFF⟩ /- SPT_STAT -/]

/-- Register words of slot 0x0D (10_module_estimation.md). -/
def regRows0D : List RegRow := [
  ⟨0x0D0000, [(256, 2)], 0xC, 0xFF, 0x0, 0xFE, 0x0, 0x0, 0x0, 0x0⟩ /- CAN_C_CFG -/,
  ⟨0x0D0004, [(256, 2)], 0xF0F3E00, 0x7F7FFF1F, 0x0, 0x7F7FFF1F, 0x0, 0x0, 0x0, 0x0⟩ /- CAN_C_NBT -/,
  ⟨0x0D0008, [(256, 2)], 0x3030E00, 0xF0F1F1F, 0x0, 0xF0F1F1F, 0x0, 0x0, 0x0, 0x0⟩ /- CAN_C_DBT -/,
  ⟨0x0D000C, [(256, 2)], 0x0, 0x0, 0x0, 0x0, 0x40000, 0x0, 0x0, 0x0⟩ /- CAN_C_STAT -/,
  ⟨0x0D0010, [(256, 2)], 0x0, 0x0, 0x0, 0x0, 0x0, 0x0, 0x0, 0x0⟩ /- CAN_C_CNT -/,
  ⟨0x0D0014, [(256, 2)], 0x0, 0x0, 0x0, 0x0, 0x0, 0x0, 0x0, 0xFFFF⟩ /- CAN_C_ERR -/,
  ⟨0x0D0200, [], 0x320A, 0xFFFF, 0x0, 0x0, 0x0, 0x0, 0x0, 0x0⟩ /- CAN_WATCH -/,
  ⟨0x0D0210, [(4, 4)], 0x0, 0x0, 0x0, 0x0, 0x0, 0x0, 0x0, 0x0⟩ /- CAN_PRES -/]

/-- Register words of slot 0x0E (12_housekeeping_power.md). -/
def regRows0E : List RegRow := [
  ⟨0x0E0000, [], 0x0, 0x3, 0x0, 0x2, 0x0, 0x0, 0x0, 0x0⟩ /- WGL_CFG -/,
  ⟨0x0E0004, [], 0x0, 0x0, 0x0, 0x0, 0x8, 0x0, 0x0, 0x0⟩ /- WGL_STAT -/,
  ⟨0x0E0008, [], 0x0, 0x0, 0x0, 0x0, 0x0, 0x0, 0x0, 0x0⟩ /- WGL_PRES -/,
  ⟨0x0E000C, [], 0x0, 0x0, 0x0, 0x0, 0xFFFF, 0x0, 0x0, 0x0⟩ /- WGL_DUP -/,
  ⟨0x0E0010, [], 0x0, 0x7FFFF, 0x0, 0x0, 0x0, 0x0, 0x1000000, 0x0⟩ /- WGL_BAR_CTL -/,
  ⟨0x0E0014, [], 0x0, 0x0, 0x0, 0x0, 0xFFFF0000, 0x0, 0x0, 0x0⟩ /- WGL_BAR_STAT -/,
  ⟨0x0E0018, [], 0x0, 0x0, 0x0, 0x0, 0x0, 0x0, 0xFFFFFFFF, 0x0⟩ /- WGL_RST -/,
  ⟨0x0E001C, [], 0x0, 0x0, 0x0, 0x0, 0x0, 0x0, 0x0, 0xFFFF⟩ /- WGL_ERR -/]

/-- Register words of slot 0x10 (04_metering.md). -/
def regRows10 : List RegRow := [
  ⟨0x100000, [], 0x0, 0x0, 0x0, 0x0, 0x0, 0x0, 0x1, 0x0⟩ /- MTR_CTL -/,
  ⟨0x100004, [], 0x0, 0x0, 0x0, 0x0, 0x100, 0x0, 0x0, 0x0⟩ /- MTR_STAT -/,
  ⟨0x100008, [], 0x0, 0x0, 0x0, 0x0, 0xC0000, 0x0, 0x0, 0x0⟩ /- MTR_REF -/,
  ⟨0x10000C, [], 0xFFFFF, 0x0, 0x0, 0x0, 0x0, 0x0, 0x0, 0x0⟩ /- MTR_CLASS -/,
  ⟨0x100010, [], 0x0, 0xFFFFF, 0x0, 0x0, 0x0, 0x0, 0x0, 0x0⟩ /- MTR_TONE -/,
  ⟨0x100014, [], 0x0, 0x0, 0x0, 0x0, 0x20000, 0x0, 0x0, 0x0⟩ /- MTR_ALIGN -/,
  ⟨0x100018, [], 0x0, 0x0, 0x0, 0x0, 0x0, 0x0, 0x0, 0x0⟩ /- MTR_STRB_CNT -/,
  ⟨0x10001C, [], 0x0, 0x0, 0x0, 0x0, 0x0, 0x0, 0x0, 0x0⟩ /- MTR_SNAP_CNT -/,
  ⟨0x100024, [], 0xFFFFF, 0x0, 0x0, 0x0, 0x0, 0x0, 0x0, 0x0⟩ /- MTR_SNAP_CLASS -/,
  ⟨0x100020, [], 0x0, 0x0, 0x0, 0x0, 0x0, 0x0, 0xFFFFF, 0x0⟩ /- MTR_TRK_RST -/,
  ⟨0x100100, [(32, 20)], 0x0, 0x0, 0x0, 0x0, 0x0, 0x0, 0x0, 0x0⟩ /- MTR_CH_DATA -/,
  ⟨0x100104, [(32, 20)], 0x0, 0x0, 0x0, 0x0, 0x0, 0x0, 0x0, 0x0⟩ /- MTR_CH_GAIN -/,
  ⟨0x100108, [(32, 20)], 0x0, 0x0, 0x0, 0x0, 0x0, 0x0, 0x0, 0x0⟩ /- MTR_CH_OFS -/,
  ⟨0x10010C, [(32, 20)], 0x0, 0x0, 0x0, 0x0, 0x0, 0x0, 0x0, 0x0⟩ /- MTR_CH_CAL -/,
  ⟨0x100110, [(32, 20)], 0x0, 0x0, 0x0, 0x0, 0x0, 0x0, 0x0, 0x0⟩ /- MTR_CH_TRK -/,
  ⟨0x100114, [(32, 20)], 0x0, 0x0, 0x0, 0x0, 0x0, 0x0, 0x0, 0x0⟩ /- MTR_CH_DRIFT -/,
  ⟨0x100118, [(32, 20)], 0x0, 0x0, 0x0, 0x0, 0x3, 0x0, 0x0, 0x0⟩ /- MTR_CH_FLAG -/,
  ⟨0x100400, [(64, 10)], 0x0, 0x0, 0x0, 0x0, 0x0, 0x0, 0x0, 0x0⟩ /- MTR_SET_QIN_LO -/,
  ⟨0x100420, [(64, 10)], 0x0, 0x0, 0x0, 0x0, 0x0, 0x0, 0x0, 0x0⟩ /- MTR_SET_SQIN_LO -/,
  ⟨0x100404, [(64, 10)], 0x0, 0x0, 0x0, 0x0, 0x0, 0x0, 0x0, 0x0⟩ /- MTR_SET_QIN_HI -/,
  ⟨0x100424, [(64, 10)], 0x0, 0x0, 0x0, 0x0, 0x0, 0x0, 0x0, 0x0⟩ /- MTR_SET_SQIN_HI -/,
  ⟨0x100408, [(64, 10)], 0x0, 0x0, 0x0, 0x0, 0x0, 0x0, 0x0, 0x0⟩ /- MTR_SET_QOUT_LO -/,
  ⟨0x100428, [(64, 10)], 0x0, 0x0, 0x0, 0x0, 0x0, 0x0, 0x0, 0x0⟩ /- MTR_SET_SQOUT_LO -/,
  ⟨0x10040C, [(64, 10)], 0x0, 0x0, 0x0, 0x0, 0x0, 0x0, 0x0, 0x0⟩ /- MTR_SET_QOUT_HI -/,
  ⟨0x10042C, [(64, 10)], 0x0, 0x0, 0x0, 0x0, 0x0, 0x0, 0x0, 0x0⟩ /- MTR_SET_SQOUT_HI -/,
  ⟨0x100410, [(64, 10)], 0x0, 0x0, 0x0, 0x0, 0x0, 0x0, 0x0, 0x0⟩ /- MTR_SET_EIN_LO -/,
  ⟨0x100430, [(64, 10)], 0x0, 0x0, 0x0, 0x0, 0x0, 0x0, 0x0, 0x0⟩ /- MTR_SET_SEIN_LO -/,
  ⟨0x100414, [(64, 10)], 0x0, 0x0, 0x0, 0x0, 0x0, 0x0, 0x0, 0x0⟩ /- MTR_SET_EIN_HI -/,
  ⟨0x100434, [(64, 10)], 0x0, 0x0, 0x0, 0x0, 0x0, 0x0, 0x0, 0x0⟩ /- MTR_SET_SEIN_HI -/,
  ⟨0x100418, [(64, 10)], 0x0, 0x0, 0x0, 0x0, 0x0, 0x0, 0x0, 0x0⟩ /- MTR_SET_EOUT_LO -/,
  ⟨0x100438, [(64, 10)], 0x0, 0x0, 0x0, 0x0, 0x0, 0x0, 0x0, 0x0⟩ /- MTR_SET_SEOUT_LO -/,
  ⟨0x10041C, [(64, 10)], 0x0, 0x0, 0x0, 0x0, 0x0, 0x0, 0x0, 0x0⟩ /- MTR_SET_EOUT_HI -/,
  ⟨0x10043C, [(64, 10)], 0x0, 0x0, 0x0, 0x0, 0x0, 0x0, 0x0, 0x0⟩ /- MTR_SET_SEOUT_HI -/]

/-- Register words of slot 0x11 (05_ledger.md). -/
def regRows11 : List RegRow := [
  ⟨0x110000, [], 0x3, 0x7, 0x0, 0x0, 0x0, 0x0, 0x0, 0x0⟩ /- LDG_CFG -/,
  ⟨0x110004, [], 0x0, 0x0, 0x0, 0x0, 0xA, 0x0, 0x0, 0x0⟩ /- LDG_STAT -/,
  ⟨0x110008, [], 0x0, 0x0, 0x0, 0x0, 0x0, 0x0, 0x7, 0x0⟩ /- LDG_CTL -/,
  ⟨0x11000C, [], 0x0, 0x0, 0xFFFFFFFF, 0x0, 0x0, 0x0, 0x0, 0x0⟩ /- LDG_ASSIGN -/,
  ⟨0x110010, [], 0x0, 0xFFFFFFFF, 0x0, 0x0, 0x0, 0x0, 0x0, 0x0⟩ /- LDG_ROUTE -/,
  ⟨0x110014, [], 0x0, 0xFFFF, 0x0, 0x0, 0x0, 0x0, 0x0, 0x0⟩ /- LDG_DELIV -/,
  ⟨0x110018, [], 0x0, 0x0, 0x0, 0x0, 0x0, 0x0, 0x0, 0x0⟩ /- LDG_RING -/,
  ⟨0x11001C, [], 0x0, 0x0, 0x0, 0x0, 0x0, 0x0, 0x0, 0x0⟩ /- LDG_KEYX -/,
  ⟨0x110100, [(64, 16)], 0x0, 0x0, 0x0, 0x0, 0x0, 0x0, 0x0, 0x0⟩ /- LDG_LC_SEQ -/,
  ⟨0x110108, [(64, 16)], 0x0, 0x0, 0x0, 0x0, 0x0, 0x0, 0x0, 0x0⟩ /- LDG_LC_EIN_LO -/,
  ⟨0x110600, [(32, 8)], 0x0, 0x0, 0x0, 0x0, 0x0, 0x0, 0x0, 0x0⟩ /- LDG_S_EIN_LO -/,
  ⟨0x11010C, [(64, 16)], 0x0, 0x0, 0x0, 0x0, 0x0, 0x0, 0x0, 0x0⟩ /- LDG_LC_EIN_HI -/,
  ⟨0x110604, [(32, 8)], 0x0, 0x0, 0x0, 0x0, 0x0, 0x0, 0x0, 0x0⟩ /- LDG_S_EIN_HI -/,
  ⟨0x110110, [(64, 16)], 0x0, 0x0, 0x0, 0x0, 0x0, 0x0, 0x0, 0x0⟩ /- LDG_LC_EOUT_LO -/,
  ⟨0x110608, [(32, 8)], 0x0, 0x0, 0x0, 0x0, 0x0, 0x0, 0x0, 0x0⟩ /- LDG_S_EOUT_LO -/,
  ⟨0x110114, [(64, 16)], 0x0, 0x0, 0x0, 0x0, 0x0, 0x0, 0x0, 0x0⟩ /- LDG_LC_EOUT_HI -/,
  ⟨0x11060C, [(32, 8)], 0x0, 0x0, 0x0, 0x0, 0x0, 0x0, 0x0, 0x0⟩ /- LDG_S_EOUT_HI -/,
  ⟨0x110118, [(64, 16)], 0x0, 0x0, 0x0, 0x0, 0x0, 0x0, 0x0, 0x0⟩ /- LDG_LC_QIN_LO -/,
  ⟨0x110610, [(32, 8)], 0x0, 0x0, 0x0, 0x0, 0x0, 0x0, 0x0, 0x0⟩ /- LDG_S_QIN_LO -/,
  ⟨0x11011C, [(64, 16)], 0x0, 0x0, 0x0, 0x0, 0x0, 0x0, 0x0, 0x0⟩ /- LDG_LC_QIN_HI -/,
  ⟨0x110614, [(32, 8)], 0x0, 0x0, 0x0, 0x0, 0x0, 0x0, 0x0, 0x0⟩ /- LDG_S_QIN_HI -/,
  ⟨0x110120, [(64, 16)], 0x0, 0x0, 0x0, 0x0, 0x0, 0x0, 0x0, 0x0⟩ /- LDG_LC_QOUT_LO -/,
  ⟨0x110618, [(32, 8)], 0x0, 0x0, 0x0, 0x0, 0x0, 0x0, 0x0, 0x0⟩ /- LDG_S_QOUT_LO -/,
  ⟨0x110124, [(64, 16)], 0x0, 0x0, 0x0, 0x0, 0x0, 0x0, 0x0, 0x0⟩ /- LDG_LC_QOUT_HI -/,
  ⟨0x11061C, [(32, 8)], 0x0, 0x0, 0x0, 0x0, 0x0, 0x0, 0x0, 0x0⟩ /- LDG_S_QOUT_HI -/]

/-- Register words of slot 0x12 (06_orders.md). -/
def regRows12 : List RegRow := [
  ⟨0x120000, [], 0x1, 0x1, 0x0, 0x0, 0x0, 0x0, 0x0, 0x0⟩ /- ORD_CTL -/,
  ⟨0x120004, [], 0x0, 0x3, 0x0, 0x3, 0x0, 0x0, 0x0, 0x0⟩ /- ORD_CFG -/,
  ⟨0x120008, [], 0x0, 0x0, 0x0, 0x0, 0x6000, 0x0, 0x0, 0x0⟩ /- ORD_STAT -/,
  ⟨0x12000C, [], 0x0, 0x0, 0x0, 0x0, 0x0, 0x0, 0x0, 0x0⟩ /- ORD_EPOCH -/,
  ⟨0x120010, [], 0x0, 0xFFFFFFFF, 0x0, 0x0, 0x0, 0x0, 0x0, 0x0⟩ /- ORD_BUS_CAP -/,
  ⟨0x120014, [], 0x0, 0xFFFFFFFF, 0x0, 0x0, 0x0, 0x0, 0x0, 0x0⟩ /- ORD_AC_CAP -/,
  ⟨0x120018, [], 0x0, 0xFFFFFFFF, 0x0, 0x0, 0x0, 0x0, 0x0, 0x0⟩ /- ORD_BROOD_E -/,
  ⟨0x12001C, [], 0x0, 0xFFFFFFFF, 0x0, 0x0, 0x0, 0x0, 0x0, 0x0⟩ /- ORD_BROOD_P -/,
  ⟨0x120020, [], 0x0, 0xFFFFFFFF, 0x0, 0x0, 0x0, 0x0, 0x0, 0x0⟩ /- ORD_CANCEL_ID -/,
  ⟨0x120024, [], 0x0, 0x0, 0x0, 0x0, 0x0, 0x0, 0x1, 0x0⟩ /- ORD_CANCEL_CTL -/,
  ⟨0x120028, [], 0x0, 0x0, 0x0, 0x0, 0x0, 0x0, 0x0, 0x0⟩ /- ORD_CANCEL_STAT -/,
  ⟨0x120030, [], 0x0, 0xFFFFFFFF, 0x0, 0x0, 0x0, 0x0, 0x0, 0x0⟩ /- ORD_QRY_ID -/,
  ⟨0x120034, [], 0x0, 0x0, 0x0, 0x0, 0x0, 0x0, 0x0, 0x0⟩ /- ORD_QRY_STAT -/,
  ⟨0x120038, [], 0x0, 0x0, 0x0, 0x0, 0x0, 0x0, 0x0, 0x0⟩ /- ORD_QRY_DELIV -/,
  ⟨0x120040, [(4, 4)], 0x0, 0xFFFFFFFF, 0x0, 0x0, 0x0, 0x0, 0x0, 0x0⟩ /- ORD_ROUTE -/,
  ⟨0x120100, [(4, 16)], 0xFFFFFFFF, 0xFFFFFFFF, 0x0, 0x0, 0x0, 0x0, 0x0, 0x0⟩ /- ORD_LC_CAP -/,
  ⟨0x120200, [(16, 8)], 0x0, 0x0, 0x0, 0x0, 0x0, 0x0, 0x0, 0x0⟩ /- ORD_S_EADM -/,
  ⟨0x120204, [(16, 8)], 0x0, 0x0, 0x0, 0x0, 0x0, 0x0, 0x0, 0x0⟩ /- ORD_S_RADM -/,
  ⟨0x120208, [(16, 8)], 0x0, 0xFFFFFFFF, 0x0, 0x0, 0x0, 0x0, 0x0, 0x0⟩ /- ORD_S_DRAWMIN -/,
  ⟨0x12020C, [(16, 8)], 0x0, 0x0, 0x0, 0x0, 0x0, 0x0, 0x0, 0x0⟩ /- ORD_S_DRAW -/]

/-- Register words of slot 0x13 (07_scout.md). -/
def regRows13 : List RegRow := [
  ⟨0x130000, [], 0x1, 0x1, 0x0, 0x0, 0x0, 0x0, 0xE, 0x0⟩ /- SCT_CTL -/,
  ⟨0x130004, [], 0x132028F, 0x1FFFFFF, 0x0, 0x1FFFFFF, 0x0, 0x0, 0x0, 0x0⟩ /- SCT_CFG -/,
  ⟨0x130008, [], 0x60, 0x0, 0x0, 0x0, 0x0, 0x0, 0x0, 0x0⟩ /- SCT_STAT -/,
  ⟨0x13000C, [], 0x0, 0x0, 0x0, 0x0, 0xF, 0x0, 0x0, 0x0⟩ /- SCT_FLAG -/,
  ⟨0x130010, [], 0x0, 0x0, 0x0, 0x0, 0x0, 0x0, 0x0, 0x0⟩ /- SCT_CAUSE -/,
  ⟨0x130020, [(4, 3)], 0x10002000, 0x0, 0xFFFFFFFF, 0x0, 0x0, 0x0, 0x0, 0x0⟩ /- SCT_LVL -/,
  ⟨0x130030, [], 0x0, 0x0, 0x0, 0x0, 0x0, 0x0, 0x0, 0x0⟩ /- SCT_COST -/,
  ⟨0x130034, [], 0x141E012C, 0xFFFF0FFF, 0x0, 0xFFFF0FFF, 0x0, 0x0, 0x0, 0x0⟩ /- SCT_HU_CFG -/,
  ⟨0x130038, [], 0x3E81E00, 0xFFFFFF01, 0x0, 0xFFFFFF01, 0x0, 0x0, 0x0, 0x0⟩ /- SCT_AC_CFG -/,
  ⟨0x13003C, [], 0x0, 0x0, 0x0, 0x0, 0x0, 0x0, 0x0, 0x0⟩ /- SCT_AC_STAT -/,
  ⟨0x130040, [(4, 2)], 0x0, 0xFFFFFFFF, 0x0, 0x0, 0x0, 0x0, 0x0, 0x0⟩ /- SCT_ANN -/,
  ⟨0x130048, [], 0x0, 0x0, 0x0, 0x0, 0x0, 0x0, 0x0, 0x0⟩ /- SCT_HU_E -/,
  ⟨0x13004C, [], 0x0, 0x0, 0x0, 0x0, 0x0, 0x0, 0x0, 0x0⟩ /- SCT_HU_ALLOW -/,
  ⟨0x130050, [], 0x0, 0x0, 0x0, 0x0, 0x0, 0x0, 0x0, 0x0⟩ /- SCT_PLAN -/,
  ⟨0x130100, [(8, 32)], 0x0, 0xFFFFFF3F, 0x0, 0xFFFFFF3F, 0x0, 0x0, 0x0, 0x0⟩ /- SCT_PRED_SRC -/,
  ⟨0x130104, [(8, 32)], 0x0, 0xFFFFFFFF, 0x0, 0xFFFFFFFF, 0x0, 0x0, 0x0, 0x0⟩ /- SCT_PRED_WT -/]

/-- Register words of slot 0x14 (08_converters.md). -/
def regRows14 : List RegRow := [
  ⟨0x140000, [], 0x4, 0xC, 0x0, 0x8, 0x0, 0x0, 0x3, 0x0⟩ /- CNV_CTL -/,
  ⟨0x140004, [], 0x81428, 0xFF0000, 0xFFFF, 0xFF0000, 0x0, 0x0, 0x0, 0x0⟩ /- CNV_BRK -/,
  ⟨0x140008, [], 0x5F080800, 0xFFFFFFFF, 0x0, 0x0, 0x0, 0x0, 0x0, 0x0⟩ /- CNV_SHARE -/,
  ⟨0x14000C, [], 0x0, 0x0, 0x0, 0x0, 0xA000, 0x0, 0x0, 0x0⟩ /- CNV_STAT -/,
  ⟨0x140010, [], 0x0, 0x0, 0x0, 0x0, 0x0, 0x0, 0x0, 0x0⟩ /- CNV_ACDRAW -/,
  ⟨0x140014, [], 0x0, 0xF1, 0x0, 0x0, 0x0, 0x0, 0x0, 0x0⟩ /- CNV_SYNCOUT -/,
  ⟨0x140100, [(64, 12)], 0x0, 0x0, 0x0, 0x0, 0x0, 0x0, 0x0, 0x0⟩ /- CNV_CG_CFG -/,
  ⟨0x140104, [(64, 12)], 0x106, 0x3F07, 0x0, 0x3F05, 0x0, 0x0, 0x30000, 0x0⟩ /- CNV_CG_CTL -/,
  ⟨0x140108, [(64, 12)], 0xF3330000, 0x0, 0xFFFFFFFF, 0x0, 0x0, 0x0, 0x0, 0x0⟩ /- CNV_CG_DLIM -/,
  ⟨0x14010C, [(64, 12)], 0x1F4320A, 0xFFFFFFFF, 0x0, 0xFFFF, 0x0, 0x0, 0x0, 0x0⟩ /- CNV_CG_TIME -/,
  ⟨0x140110, [(64, 12)], 0x3C960A40, 0xFFFFFFFF, 0x0, 0xFFFF0000, 0x0, 0x0, 0x0, 0x0⟩ /- CNV_CG_SNS -/,
  ⟨0x140114, [(64, 12)], 0x0, 0x0, 0x0, 0x0, 0x0, 0x0, 0x0, 0x0⟩ /- CNV_CG_STAT -/,
  ⟨0x140118, [(64, 12)], 0x0, 0x0, 0x0, 0x0, 0x7F, 0x0, 0x0, 0x0⟩ /- CNV_CG_FLAG -/,
  ⟨0x14011C, [(64, 12)], 0x0, 0x0, 0x0, 0x0, 0x0, 0x0, 0x0, 0xFF000000⟩ /- CNV_CG_PER -/,
  ⟨0x140800, [(16, 32)], 0x0, 0x0, 0x0, 0x0, 0x0, 0x0, 0x0, 0x0⟩ /- CNV_PH_ON -/,
  ⟨0x140804, [(16, 32)], 0x0, 0x0, 0x0, 0x0, 0x0, 0x0, 0x0, 0x0⟩ /- CNV_PH_OFS -/,
  ⟨0x140808, [(16, 32)], 0x0, 0x0, 0x0, 0x0, 0x0, 0x0, 0x0, 0x0⟩ /- CNV_PH_TRIM -/,
  ⟨0x14080C, [(16, 32)], 0x0, 0x0, 0x0, 0x0, 0x0, 0x0, 0x0, 0x0⟩ /- CNV_PH_ISNS -/,
  ⟨0x140C00, [(32, 6)], 0x0, 0x0, 0xFFF, 0x0, 0x0, 0x0, 0x0, 0x0⟩ /- CNV_RT_TMIN -/,
  ⟨0x140C04, [(32, 6)], 0x800, 0x0, 0xFFF, 0x0, 0x0, 0x0, 0x0, 0x0⟩ /- CNV_RT_TNOM -/,
  ⟨0x140C08, [(32, 6)], 0xFFF, 0x0, 0xFFF, 0x0, 0x0, 0x0, 0x0, 0x0⟩ /- CNV_RT_TMAX -/,
  ⟨0x140C0C, [(32, 6)], 0x7D0, 0xFFFFFFFF, 0x0, 0xFFFFFFFF, 0x0, 0x0, 0x0, 0x0⟩ /- CNV_RT_IMSCALE -/,
  ⟨0x140C10, [(32, 6)], 0x0, 0x0, 0x0, 0x0, 0x0, 0x0, 0x0, 0x0⟩ /- CNV_RT_TRIM -/,
  ⟨0x140C14, [(32, 6)], 0x0, 0x0, 0x0, 0x0, 0x0, 0x0, 0x0, 0x0⟩ /- CNV_RT_IMON -/,
  ⟨0x140C18, [(32, 6)], 0x0, 0x0, 0x0, 0x0, 0x1, 0x0, 0x0, 0x0⟩ /- CNV_RT_FLAG -/]

/-- Register words of slot 0x15 (12_housekeeping_power.md). -/
def regRows15 : List RegRow := [
  ⟨0x150000, [], 0x0, 0x0, 0x0, 0x0, 0x0, 0x0, 0x0, 0x0⟩ /- RGL_STAT -/,
  ⟨0x150100, [(16, 8)], 0x0, 0xFFFF, 0x0, 0xFFFF, 0x0, 0x0, 0x0, 0x0⟩ /- RGL_R_SET -/,
  ⟨0x150104, [(16, 8)], 0x10A, 0x1FF, 0x0, 0x1FF, 0x0, 0x0, 0x0, 0x0⟩ /- RGL_R_CFG -/,
  ⟨0x150108, [(16, 8)], 0x0, 0x0, 0x0, 0x0, 0x0, 0x0, 0x0, 0x0⟩ /- RGL_R_STAT -/,
  ⟨0x15010C, [(16, 8)], 0x0, 0x0, 0x0, 0x0, 0x0, 0x0, 0x0, 0x1⟩ /- RGL_R_FLAG -/]

/-- Register words of slot 0x16 (12_housekeeping_power.md). -/
def regRows16 : List RegRow := [
  ⟨0x160000, [], 0x0, 0x0, 0x0, 0x0, 0x0, 0x0, 0x3, 0x0⟩ /- SEQ_CTL -/,
  ⟨0x160004, [], 0x0, 0x0, 0x0, 0x0, 0x58, 0x0, 0x0, 0x0⟩ /- SEQ_STAT -/,
  ⟨0x160008, [], 0x2EE0003, 0xFFFF0003, 0x0, 0xFFFF0003, 0x0, 0x0, 0x0, 0x0⟩ /- SEQ_CFG -/,
  ⟨0x16000C, [], 0x0, 0x0, 0x0, 0x0, 0x0, 0x0, 0x0, 0x0⟩ /- SEQ_OUT -/,
  ⟨0x160100, [(16, 48)], 0x0, 0x0, 0x0, 0x0, 0x0, 0x0, 0x0, 0x0⟩ /- SEQ_UP_STEP -/,
  ⟨0x160104, [(16, 48)], 0x0, 0xFFFFFFFF, 0x0, 0xFFFFFFFF, 0x0, 0x0, 0x0, 0x0⟩ /- SEQ_UP_TIME -/,
  ⟨0x160108, [(16, 48)], 0x0, 0xFFFF, 0x0, 0xFFFF, 0x0, 0x0, 0x0, 0x0⟩ /- SEQ_UP_THR -/,
  ⟨0x160400, [(16, 48)], 0x0, 0x0, 0x0, 0x0, 0x0, 0x0, 0x0, 0x0⟩ /- SEQ_DN_STEP -/,
  ⟨0x160404, [(16, 48)], 0x0, 0xFFFFFFFF, 0x0, 0xFFFFFFFF, 0x0, 0x0, 0x0, 0x0⟩ /- SEQ_DN_TIME -/,
  ⟨0x160408, [(16, 48)], 0x0, 0xFFFF, 0x0, 0xFFFF, 0x0, 0x0, 0x0, 0x0⟩ /- SEQ_DN_THR -/,
  ⟨0x160800, [(32, 32)], 0x0, 0xFFFFFFFF, 0x0, 0xFFFFFFFF, 0x0, 0x0, 0x0, 0x0⟩ /- SEQ_R_UV -/,
  ⟨0x160804, [(32, 32)], 0x0, 0xFFFFFFFF, 0x0, 0xFFFFFFFF, 0x0, 0x0, 0x0, 0x0⟩ /- SEQ_R_OV -/,
  ⟨0x160808, [(32, 32)], 0x0, 0xF, 0x0, 0xF, 0x0, 0x0, 0x0, 0x0⟩ /- SEQ_R_ACT -/,
  ⟨0x16080C, [(32, 32)], 0x0, 0x0, 0x0, 0x0, 0x0, 0x0, 0x0, 0x0⟩ /- SEQ_R_STAT -/,
  ⟨0x160810, [(32, 32)], 0x0, 0x0, 0x0, 0x0, 0x0, 0x0, 0x0, 0x1F⟩ /- SEQ_R_FLAG -/,
  ⟨0x160C00, [(16, 4)], 0x64, 0x103FF, 0x0, 0x3FF, 0x0, 0x0, 0x0, 0x0⟩ /- SEQ_RSTO_CFG -/,
  ⟨0x160C04, [(16, 4)], 0x1, 0x0, 0x0, 0x0, 0x0, 0x0, 0x0, 0x0⟩ /- SEQ_RSTO_STAT -/]

/-- Register words of slot 0x17 (11_protection.md). -/
def regRows17 : List RegRow := [
  ⟨0x170000, [], 0x0, 0x0, 0x0, 0x0, 0x2, 0x0, 0x0, 0x0⟩ /- EFU_STAT -/,
  ⟨0x170004, [], 0x320000, 0xFF0000, 0x0, 0x0, 0x0, 0x0, 0x0, 0x0⟩ /- EFU_THR -/,
  ⟨0x170100, [(64, 8)], 0x0, 0x1, 0x0, 0x0, 0x0, 0x0, 0x0, 0x0⟩ /- EFU_CH_EN -/,
  ⟨0x170104, [(64, 8)], 0x0, 0xFFFF, 0x0, 0xFFFF, 0x0, 0x0, 0x0, 0x0⟩ /- EFU_CH_RSNS -/,
  ⟨0x170108, [(64, 8)], 0x0, 0xFFFFFFFF, 0x0, 0xFFFFFFFF, 0x0, 0x0, 0x0, 0x0⟩ /- EFU_CH_LIM -/,
  ⟨0x17010C, [(64, 8)], 0x0, 0xFFFFFFFF, 0x0, 0xFFFFFFFF, 0x0, 0x0, 0x0, 0x0⟩ /- EFU_CH_SOA -/,
  ⟨0x170110, [(64, 8)], 0xA0014, 0xFFFFFFFF, 0x0, 0xFFFFFFFF, 0x0, 0x0, 0x0, 0x0⟩ /- EFU_CH_PWR -/,
  ⟨0x170114, [(64, 8)], 0xA00050, 0xFFFFFFFF, 0x0, 0xFFFFFFFF, 0x0, 0x0, 0x0, 0x0⟩ /- EFU_CH_VWIN -/,
  ⟨0x170118, [(64, 8)], 0xFFFF, 0xFFFF, 0x0, 0x0, 0x0, 0x0, 0x0, 0x0⟩ /- EFU_CH_CAP -/,
  ⟨0x17011C, [(64, 8)], 0x0, 0x0, 0x0, 0x0, 0x0, 0x0, 0x0, 0x0⟩ /- EFU_CH_STAT -/,
  ⟨0x170120, [(64, 8)], 0x0, 0x0, 0x0, 0x0, 0x0, 0x0, 0x0, 0x0⟩ /- EFU_CH_VMON -/,
  ⟨0x170124, [(64, 8)], 0x0, 0x0, 0x0, 0x0, 0x0, 0x0, 0x0, 0x0⟩ /- EFU_CH_SOAX -/,
  ⟨0x170128, [(64, 8)], 0x0, 0x0, 0x0, 0x0, 0x0, 0x0, 0x0, 0x7⟩ /- EFU_CH_FLAG -/,
  ⟨0x170400, [(32, 3)], 0x3203E8, 0xFFFFFF, 0x0, 0x0, 0x0, 0x0, 0x0, 0x0⟩ /- EFU_F_CFG -/,
  ⟨0x170404, [(32, 3)], 0x0, 0x0, 0x0, 0x0, 0x0, 0x0, 0x0, 0x0⟩ /- EFU_F_MEMB -/,
  ⟨0x170408, [(32, 3)], 0x0, 0x0, 0x0, 0x0, 0x0, 0x0, 0x0, 0x0⟩ /- EFU_F_DEAD -/,
  ⟨0x17040C, [(32, 3)], 0x0, 0x0, 0x0, 0x0, 0x0, 0x0, 0x0, 0x0⟩ /- EFU_F_STAT -/,
  ⟨0x170410, [(32, 3)], 0x0, 0x0, 0x0, 0x0, 0x0, 0x0, 0x0, 0x3⟩ /- EFU_F_FLAG -/,
  ⟨0x170600, [(16, 8)], 0x0, 0x1, 0x0, 0x0, 0x0, 0x0, 0x0, 0x0⟩ /- EFU_S_KCTL -/,
  ⟨0x170604, [(16, 8)], 0x64000A, 0xFFFF00FF, 0x0, 0xFFFF00FF, 0x0, 0x0, 0x0, 0x0⟩ /- EFU_S_KCFG -/,
  ⟨0x170608, [(16, 8)], 0x0, 0x0, 0x0, 0x0, 0x0, 0x0, 0x0, 0x0⟩ /- EFU_S_KSTAT -/,
  ⟨0x17060C, [(16, 8)], 0x0, 0x0, 0x0, 0x0, 0x0, 0x0, 0x0, 0x3F⟩ /- EFU_S_KFLAG -/]

/-- Register words of slot 0x18 (09_solar_charging.md). -/
def regRows18 : List RegRow := [
  ⟨0x180000, [], 0x0, 0x1, 0x0, 0x0, 0x0, 0x0, 0x0, 0x0⟩ /- CHG_CTL -/,
  ⟨0x180004, [], 0x50608, 0xFFFF0F, 0x0, 0xFF0F, 0x0, 0x0, 0x0, 0x0⟩ /- CHG_CFG -/,
  ⟨0x180008, [], 0x0, 0x0, 0x0, 0x0, 0x0, 0x0, 0x0, 0x0⟩ /- CHG_STAT -/,
  ⟨0x18000C, [], 0x0, 0x0, 0x0, 0x0, 0x0, 0x0, 0x0, 0xFFFFFF⟩ /- CHG_FAULT -/,
  ⟨0x180010, [], 0x0, 0x0, 0x0, 0x0, 0x0, 0x0, 0x0, 0xFFF0FFF⟩ /- CHG_PVFLT -/,
  ⟨0x180100, [(32, 8)], 0xFFFF, 0x0, 0xFFFFFFFF, 0x0, 0x0, 0x0, 0x0, 0x0⟩ /- CHG_S_LIM -/,
  ⟨0x180104, [(32, 8)], 0x0, 0x0, 0xFFFFFFFF, 0x0, 0x0, 0x0, 0x0, 0x0⟩ /- CHG_S_VLIM -/,
  ⟨0x180108, [(32, 8)], 0x0, 0x0, 0x0, 0x0, 0x0, 0x0, 0x3, 0x0⟩ /- CHG_S_CTL -/,
  ⟨0x18010C, [(32, 8)], 0x0, 0x0, 0x0, 0x0, 0x8, 0x0, 0x0, 0x0⟩ /- CHG_S_STAT -/,
  ⟨0x180110, [(32, 8)], 0x0, 0x0, 0x0, 0x0, 0x0, 0x0, 0x0, 0x0⟩ /- CHG_S_TIMER -/,
  ⟨0x180114, [(32, 8)], 0x0, 0x0, 0x0, 0x0, 0x0, 0x0, 0x0, 0x0⟩ /- CHG_S_ICMD -/,
  ⟨0x180400, [(32, 12)], 0x140A0A05, 0xFFFFFFFF, 0x0, 0xFFFFFFFF, 0x0, 0x0, 0x0, 0x0⟩ /- CHG_CG_MPPT -/,
  ⟨0x180404, [(32, 12)], 0x0, 0xFFFFFFFF, 0x0, 0xFFFFFFFF, 0x0, 0x0, 0x0, 0x0⟩ /- CHG_CG_VWIN -/,
  ⟨0x180408, [(32, 12)], 0x0, 0x0, 0x0, 0x0, 0x0, 0x0, 0x0, 0x0⟩ /- CHG_CG_STAT -/,
  ⟨0x18040C, [(32, 12)], 0x0, 0x0, 0x0, 0x0, 0x0, 0x0, 0x0, 0x0⟩ /- CHG_CG_VOC -/]

/-- Register words of slot 0x19 (10_module_estimation.md). -/
def regRows19 : List RegRow := [
  ⟨0x190000, [], 0xA1E0A01, 0xFFFFFF01, 0x0, 0x0, 0x0, 0x0, 0x0, 0x0⟩ /- EST_CFG -/,
  ⟨0x190004, [], 0x14053232, 0xFFFFFFFF, 0x0, 0x0, 0x0, 0x0, 0x0, 0x0⟩ /- EST_CFG2 -/,
  ⟨0x190008, [], 0x0, 0x0, 0x0, 0x0, 0x0, 0x0, 0x1, 0x0⟩ /- EST_CTL -/,
  ⟨0x19000C, [], 0x0, 0x0, 0x0, 0x0, 0x0, 0x0, 0x0, 0x0⟩ /- EST_STAT -/,
  ⟨0x190010, [], 0x0, 0x0, 0x0, 0x0, 0x4000000, 0x0, 0x0, 0x0⟩ /- EST_NV -/,
  ⟨0x190014, [], 0x0, 0x0, 0x0, 0x0, 0xFF, 0x0, 0x0, 0x0⟩ /- EST_DISAGREE -/,
  ⟨0x190018, [], 0x0, 0x0, 0x0, 0x0, 0x0, 0x0, 0x0, 0x0⟩ /- EST_UPDCNT -/,
  ⟨0x190100, [(32, 8)], 0x0, 0x0, 0x0, 0x0, 0x0, 0x0, 0x0, 0x0⟩ /- EST_S_EEST -/,
  ⟨0x190104, [(32, 8)], 0x0, 0x0, 0x0, 0x0, 0x0, 0x0, 0x0, 0x0⟩ /- EST_S_REST -/,
  ⟨0x190108, [(32, 8)], 0x0, 0x0, 0x0, 0x0, 0x0, 0x0, 0x0, 0x0⟩ /- EST_S_SIGE -/,
  ⟨0x19010C, [(32, 8)], 0x0, 0x0, 0x0, 0x0, 0x0, 0x0, 0x0, 0x0⟩ /- EST_S_SIGR -/,
  ⟨0x190110, [(32, 8)], 0x0, 0x0, 0x0, 0x0, 0x0, 0x0, 0x0, 0x0⟩ /- EST_S_ILIM -/,
  ⟨0x190114, [(32, 8)], 0x0, 0x0, 0x0, 0x0, 0x0, 0x0, 0x0, 0x0⟩ /- EST_S_PLIM -/,
  ⟨0x190118, [(32, 8)], 0x0, 0x0, 0x0, 0x0, 0x0, 0x0, 0x0, 0x0⟩ /- EST_S_SOC -/,
  ⟨0x19011C, [(32, 8)], 0x0, 0x0, 0x0, 0x0, 0x0, 0x0, 0x0, 0x0⟩ /- EST_S_STAT -/,
  ⟨0x191000, [(32, 128)], 0x0, 0x0, 0x0, 0x0, 0x0, 0x0, 0x0, 0x0⟩ /- EST_M_SOC -/,
  ⟨0x191004, [(32, 128)], 0x0, 0x0, 0x0, 0x0, 0x0, 0x0, 0x0, 0x0⟩ /- EST_M_SIG -/,
  ⟨0x191008, [(32, 128)], 0x0, 0xFFFFFFFF, 0x0, 0x0, 0x0, 0x0, 0x0, 0x0⟩ /- EST_M_LCAP -/,
  ⟨0x19100C, [(32, 128)], 0x0, 0x0, 0x0, 0x0, 0x0, 0x0, 0x0, 0x0⟩ /- EST_M_CELL -/,
  ⟨0x191010, [(32, 128)], 0x0, 0x0, 0x0, 0x0, 0x0, 0x0, 0x0, 0x0⟩ /- EST_M_TEMP -/,
  ⟨0x191014, [(32, 128)], 0x0, 0x0, 0x0, 0x0, 0x0, 0x0, 0x0, 0x0⟩ /- EST_M_SERIAL -/,
  ⟨0x191018, [(32, 128)], 0x0, 0xFFFF0000, 0x0, 0x0, 0x0, 0x0, 0x0, 0x0⟩ /- EST_M_HLTH -/,
  ⟨0x19101C, [(32, 128)], 0x0, 0x0, 0x0, 0x0, 0x56, 0x0, 0x0, 0xFF0000⟩ /- EST_M_FLAG -/]

/-- Register words of slot 0x1A (13_faults_resets.md). -/
def regRows1A : List RegRow := [
  ⟨0x1A0000, [], 0x2801, 0x7F0F, 0x0, 0x7F00, 0x0, 0x0, 0x0, 0x0⟩ /- PRP_CFG -/,
  ⟨0x1A0004, [], 0x7F, 0x7F, 0x0, 0x0, 0x0, 0x0, 0x0, 0x0⟩ /- PRP_TRIG -/,
  ⟨0x1A0008, [], 0x0, 0x0, 0x0, 0x0, 0x0, 0x0, 0x3, 0x0⟩ /- PRP_CTL -/,
  ⟨0x1A000C, [], 0x0, 0xFFFFFFFF, 0x0, 0x0, 0x0, 0x0, 0x0, 0x0⟩ /- PRP_MARK -/,
  ⟨0x1A0010, [], 0x0, 0x0, 0x0, 0x0, 0x0, 0x0, 0x0, 0x0⟩ /- PRP_STAT -/,
  ⟨0x1A0014, [], 0x0, 0x0, 0x0, 0x0, 0x0, 0x0, 0x0, 0x0⟩ /- PRP_FCNT -/,
  ⟨0x1A0018, [], 0x0, 0x0, 0x0, 0x0, 0x0, 0x0, 0x0, 0x0⟩ /- PRP_EVSEQ -/,
  ⟨0x1A001C, [], 0x0, 0x7, 0x0, 0x0, 0x0, 0x0, 0x0, 0x0⟩ /- PRP_REC_LOCK -/]

/-- Register words of slot 0x1B (03_host_access.md). -/
def regRows1B : List RegRow := [
  ⟨0x1B0000, [(256, 4)], 0x0, 0xFFFF, 0x0, 0x0, 0x0, 0x0, 0x10000, 0x0⟩ /- KPR_MB_CTL -/,
  ⟨0x1B0004, [(256, 4)], 0x0, 0x0, 0x0, 0x0, 0x0, 0x0, 0x0, 0x0⟩ /- KPR_MB_STAT -/,
  ⟨0x1B0080, [(256, 4), (4, 32)], 0x0, 0xFFFFFFFF, 0x0, 0x0, 0x0, 0x0, 0x0, 0x0⟩ /- KPR_MB_DATA -/]

/-- Register words of slot 0x1C (02_comb_fabric.md). -/
def regRows1C : List RegRow := [
  ⟨0x1C0000, [], 0x0, 0x0, 0x0, 0x0, 0x0, 0x0, 0x0, 0x0⟩ /- CMB_STAT -/,
  ⟨0x1C0004, [], 0x0, 0x0, 0x0, 0x0, 0x0, 0x0, 0x0, 0x0⟩ /- CMB_IMG_SERIAL -/,
  ⟨0x1C0008, [], 0x0, 0x0, 0x0, 0x0, 0x0, 0x0, 0x0, 0x0⟩ /- CMB_IMG_VER -/,
  ⟨0x1C0010, [], 0x0, 0x330, 0x0, 0x0, 0x0, 0x0, 0x1, 0x0⟩ /- CMB_LOAD_CTL -/,
  ⟨0x1C0014, [], 0x0, 0x0, 0x0, 0x0, 0x0, 0x0, 0x0, 0x0⟩ /- CMB_LOAD_STAT -/,
  ⟨0x1C0018, [], 0x0, 0x0, 0x0, 0x0, 0x0, 0x0, 0x0, 0x0⟩ /- CMB_BOOT_STAT -/,
  ⟨0x1C001C, [], 0x0, 0x0, 0x0, 0x0, 0x0, 0x0, 0x0, 0x0⟩ /- CMB_SLOTA_SEQ -/,
  ⟨0x1C0024, [], 0x0, 0x0, 0x0, 0x0, 0x0, 0x0, 0x0, 0x0⟩ /- CMB_SLOTB_SEQ -/,
  ⟨0x1C0020, [], 0x0, 0xFFFFFFFF, 0x0, 0x0, 0x0, 0x0, 0x0, 0x0⟩ /- CMB_JC_TILE_LO -/,
  ⟨0x1C0028, [], 0x0, 0xFFFFFFFF, 0x0, 0x0, 0x0, 0x0, 0x0, 0x0⟩ /- CMB_JC_TILE_HI -/,
  ⟨0x1C0030, [], 0x0, 0xFFFFFFFF, 0x0, 0x0, 0x0, 0x0, 0x0, 0x0⟩ /- CMB_JC_BLK -/,
  ⟨0x1C002C, [], 0x0, 0x0, 0x0, 0x0, 0x0, 0x0, 0x3, 0x0⟩ /- CMB_JC_CTL -/,
  ⟨0x1C0034, [], 0x0, 0x0, 0x0, 0x0, 0x6, 0x0, 0x0, 0x0⟩ /- CMB_JC_STAT -/,
  ⟨0x1C0038, [], 0x0, 0x0, 0x0, 0x0, 0x0, 0x0, 0x0, 0x0⟩ /- CMB_REF_CRC -/]

/-- Register words of slot 0x20 (02_comb_fabric.md). -/
def regRows20 : List RegRow := [
  ⟨0x200000, [(4096, 64)], 0x0, 0x0, 0x0, 0x0, 0x0, 0x0, 0x0, 0x0⟩ /- CMB_T_ID -/,
  ⟨0x200004, [(4096, 64)], 0x0, 0x0, 0x0, 0x4, 0x0, 0x0, 0x7, 0x0⟩ /- CMB_T_CTL -/,
  ⟨0x200008, [(4096, 64)], 0x0, 0x0, 0x0, 0x0, 0x300, 0x0, 0x0, 0x0⟩ /- CMB_T_STAT -/,
  ⟨0x20000C, [(4096, 64)], 0x0, 0x0, 0x0, 0x0, 0x0, 0x0, 0x0, 0x0⟩ /- CMB_T_IN -/,
  ⟨0x200010, [(4096, 64)], 0x0, 0x0, 0x0, 0x0, 0x0, 0x0, 0x0, 0x0⟩ /- CMB_T_IN2 -/,
  ⟨0x200014, [(4096, 64)], 0x0, 0x0, 0x0, 0x0, 0x0, 0x0, 0x0, 0x0⟩ /- CMB_T_OUT0 -/,
  ⟨0x200018, [(4096, 64)], 0x0, 0x0, 0x0, 0x0, 0x0, 0x0, 0x0, 0x0⟩ /- CMB_T_OUT1 -/]

/-- The register words of one 64 KB slot (R98), the tile windows by their first slots. -/
def regRows (slot : Nat) : List RegRow :=
  match slot with
  | 0x00 => regRows00
  | 0x01 => regRows01
  | 0x02 => regRows02
  | 0x03 => regRows03
  | 0x04 => regRows04
  | 0x05 => regRows05
  | 0x06 => regRows06
  | 0x07 => regRows07
  | 0x08 => regRows08
  | 0x09 => regRows09
  | 0x0A => regRows0A
  | 0x0B => regRows0B
  | 0x0C => regRows0C
  | 0x0D => regRows0D
  | 0x0E => regRows0E
  | 0x10 => regRows10
  | 0x11 => regRows11
  | 0x12 => regRows12
  | 0x13 => regRows13
  | 0x14 => regRows14
  | 0x15 => regRows15
  | 0x16 => regRows16
  | 0x17 => regRows17
  | 0x18 => regRows18
  | 0x19 => regRows19
  | 0x1A => regRows1A
  | 0x1B => regRows1B
  | 0x1C => regRows1C
  | _ => if 0x20 ≤ slot ∧ slot < 0x24 then regRows20 else []

/-- The row of a register word, when the map defines it (R99). -/
def rowOf (a : Nat) : Option RegRow := (regRows (a / 65536)).find? (·.covers a)

/-- Reset words that differ between the instances of one array: URG3 and URG5 (chapter 15), the default fault classes
(chapter 13), the default levels and predictor entries (R242). -/
def resetSpecial : List (Nat × Nat) := [
  (0x0400CC, 0x10), (0x0400D4, 0x1000), (0x010010, 0x100116AA), (0x010014, 0x4005010),
  (0x010018, 0x0), (0x01001C, 0x0), (0x130020, 0x10002000), (0x130024, 0x40006000),
  (0x130028, 0xA000C000), (0x130100, 0x3520201), (0x130104, 0x64012C), (0x130108, 0x104),
  (0x13010C, 0x280258), (0x130110, 0x1F41403), (0x130114, 0x1F40064), (0x130118, 0x50E),
  (0x13011C, 0xC800C8), (0x130120, 0x640110), (0x130124, 0x320190), (0x130128, 0x118),
  (0x13012C, 0x96)]

/-- R13: the value of a register word after its block's reset. An undefined place reads 0 (R99). -/
def resetWord (a : Nat) : Word :=
  match resetSpecial.lookup a with
  | some v => BitVec.ofNat 32 v
  | none => match rowOf a with
    | some r => BitVec.ofNat 32 r.reset
    | none => 0

def Fld.CMB_T_ID_KIND (i : Nat) : Fld := ⟨0x200000 + 4096 * i, 0, 4⟩
def Fld.CMB_T_ID_DOMAIN (i : Nat) : Fld := ⟨0x200000 + 4096 * i, 4, 2⟩
def Fld.CMB_T_ID_DSEL (i : Nat) : Fld := ⟨0x200000 + 4096 * i, 8, 8⟩
def Reg.CMB_T_CTL (i : Nat) : Nat := 0x200004 + 4096 * i
def Fld.CMB_T_STAT_RUN (i : Nat) : Fld := ⟨0x200008 + 4096 * i, 0, 1⟩
def Fld.CMB_T_STAT_PEND (i : Nat) : Fld := ⟨0x200008 + 4096 * i, 1, 1⟩
def Fld.CMB_T_STAT_CPEND (i : Nat) : Fld := ⟨0x200008 + 4096 * i, 2, 1⟩
def Fld.CMB_T_STAT_JPEND (i : Nat) : Fld := ⟨0x200008 + 4096 * i, 3, 1⟩
def Fld.CMB_T_STAT_SAT (i : Nat) : Fld := ⟨0x200008 + 4096 * i, 8, 1⟩
def Fld.CMB_T_STAT_CERR (i : Nat) : Fld := ⟨0x200008 + 4096 * i, 9, 1⟩
def Fld.CMB_T_STAT_ERRCODE (i : Nat) : Fld := ⟨0x200008 + 4096 * i, 12, 4⟩
def Fld.CMB_T_STAT_UPDCNT (i : Nat) : Fld := ⟨0x200008 + 4096 * i, 16, 16⟩
def Reg.CMB_T_IN (i : Nat) : Nat := 0x20000C + 4096 * i
def Reg.CMB_T_IN2 (i : Nat) : Nat := 0x200010 + 4096 * i
def Reg.CMB_T_OUT0 (i : Nat) : Nat := 0x200014 + 4096 * i
def Reg.CMB_T_OUT1 (i : Nat) : Nat := 0x200018 + 4096 * i
def Fld.CMB_STAT_STATE : Fld := ⟨0x1C0000, 0, 2⟩
def Fld.CMB_STAT_SOURCE : Fld := ⟨0x1C0000, 2, 2⟩
def Fld.CMB_STAT_TILES : Fld := ⟨0x1C0000, 8, 7⟩
def Reg.CMB_IMG_SERIAL : Nat := 0x1C0004
def Reg.CMB_IMG_VER : Nat := 0x1C0008
def Reg.CMB_LOAD_CTL : Nat := 0x1C0010
def Fld.CMB_LOAD_CTL_OP : Fld := ⟨0x1C0010, 4, 2⟩
def Fld.CMB_LOAD_CTL_SRC : Fld := ⟨0x1C0010, 8, 2⟩
def Fld.CMB_LOAD_STAT_BUSY : Fld := ⟨0x1C0014, 0, 1⟩
def Fld.CMB_LOAD_STAT_RESULT : Fld := ⟨0x1C0014, 4, 4⟩
def Fld.CMB_LOAD_STAT_SECTION : Fld := ⟨0x1C0014, 8, 5⟩
def Fld.CMB_LOAD_STAT_MISSING : Fld := ⟨0x1C0014, 13, 1⟩
def Fld.CMB_LOAD_STAT_DETAIL : Fld := ⟨0x1C0014, 16, 16⟩
def Fld.CMB_BOOT_STAT_RES_A : Fld := ⟨0x1C0018, 0, 4⟩
def Fld.CMB_BOOT_STAT_RES_B : Fld := ⟨0x1C0018, 4, 4⟩
def Fld.CMB_BOOT_STAT_CHOSEN : Fld := ⟨0x1C0018, 8, 2⟩
def Reg.CMB_SLOTA_SEQ : Nat := 0x1C001C
def Reg.CMB_SLOTB_SEQ : Nat := 0x1C0024
def Reg.CMB_JC_TILE_LO : Nat := 0x1C0020
def Reg.CMB_JC_TILE_HI : Nat := 0x1C0028
def Reg.CMB_JC_BLK : Nat := 0x1C0030
def Reg.CMB_JC_CTL : Nat := 0x1C002C
def Fld.CMB_JC_STAT_PEND : Fld := ⟨0x1C0034, 0, 1⟩
def Fld.CMB_JC_STAT_ERR : Fld := ⟨0x1C0034, 1, 1⟩
def Fld.CMB_JC_STAT_ABANDONED : Fld := ⟨0x1C0034, 2, 1⟩
def Fld.CMB_JC_STAT_FIRST : Fld := ⟨0x1C0034, 8, 8⟩
def Fld.CMB_JC_STAT_ERRCODE : Fld := ⟨0x1C0034, 16, 4⟩
def Reg.CMB_REF_CRC : Nat := 0x1C0038
def Reg.ID_UID (i : Nat) : Nat := 0x000004 + 4 * i
def Reg.ID_FW_VER : Nat := 0x00000C
def Fld.ID_FW_VER_BANK : Fld := ⟨0x00000C, 31, 1⟩
def Reg.ID_FUSE : Nat := 0x000010
def Fld.ID_FUSE_LIFE : Fld := ⟨0x000010, 0, 1⟩
def Fld.ID_FUSE_WDF : Fld := ⟨0x000010, 3, 4⟩
def Fld.ID_FUSE_ADDR_LOCK : Fld := ⟨0x000010, 7, 1⟩
def Fld.ID_FUSE_SPT_OFF : Fld := ⟨0x000010, 8, 1⟩
def Reg.SYS_PWR_STAT : Nat := 0x000100
def Fld.SYS_PWR_STAT_STATE : Fld := ⟨0x000100, 0, 2⟩
def Fld.SYS_PWR_STAT_COMPAT : Fld := ⟨0x000100, 2, 1⟩
def Fld.SYS_PWR_STAT_HFXO : Fld := ⟨0x000100, 3, 1⟩
def Fld.SYS_PWR_STAT_TRANS : Fld := ⟨0x000100, 4, 1⟩
def Reg.SYS_PWR_REQ : Nat := 0x000104
def Fld.SYS_PWR_REQ_REQ : Fld := ⟨0x000104, 0, 2⟩
def Reg.SYS_PROFILE : Nat := 0x000108
def Fld.SYS_PROFILE_PROFILE : Fld := ⟨0x000108, 0, 2⟩
def Reg.SYS_XSTAT : Nat := 0x00010C
def Fld.SYS_XSTAT_TW0_ST : Fld := ⟨0x00010C, 0, 4⟩
def Fld.SYS_XSTAT_TW0_WORD : Fld := ⟨0x00010C, 4, 6⟩
def Fld.SYS_XSTAT_SPT_ST : Fld := ⟨0x00010C, 16, 4⟩
def Fld.SYS_XSTAT_SPT_WORD : Fld := ⟨0x00010C, 20, 6⟩
def Reg.SYS_MWIN : Nat := 0x000110
def Fld.SYS_MWIN_BANK_TW0 : Fld := ⟨0x000110, 0, 1⟩
def Fld.SYS_MWIN_BANK_SPT : Fld := ⟨0x000110, 1, 1⟩
def Reg.SYS_Q_CFG (i : Nat) : Nat := 0x001000 + 32 * i
def Fld.SYS_Q_CFG_EN (i : Nat) : Fld := ⟨0x001000 + 32 * i, 0, 1⟩
def Fld.SYS_Q_CFG_BASE (i : Nat) : Fld := ⟨0x001000 + 32 * i, 6, 13⟩
def Fld.SYS_Q_CFG_DEPTHLOG (i : Nat) : Fld := ⟨0x001000 + 32 * i, 20, 4⟩
def Reg.SYS_Q_PTR (i : Nat) : Nat := 0x001004 + 32 * i
def Fld.SYS_Q_PTR_HEAD (i : Nat) : Fld := ⟨0x001004 + 32 * i, 0, 9⟩
def Fld.SYS_Q_PTR_TAIL (i : Nat) : Fld := ⟨0x001004 + 32 * i, 16, 9⟩
def Reg.SYS_Q_DB (i : Nat) : Nat := 0x001008 + 32 * i
def Fld.SYS_Q_STAT_COUNT (i : Nat) : Fld := ⟨0x00100C + 32 * i, 0, 9⟩
def Fld.SYS_Q_STAT_OVF (i : Nat) : Fld := ⟨0x00100C + 32 * i, 9, 1⟩
def Fld.SYS_Q_STAT_DROP (i : Nat) : Fld := ⟨0x00100C + 32 * i, 16, 8⟩
def Fld.SYS_Q_STAT_FLUSH (i : Nat) : Fld := ⟨0x00100C + 32 * i, 24, 8⟩
def Fld.TWI_TW0_CFG_TMO_EN : Fld := ⟨0x0B0000, 2, 1⟩
def Reg.TWI_TW0_ADDR : Nat := 0x0B0004
def Fld.TWI_TW0_STAT_PECERR : Fld := ⟨0x0B0008, 0, 8⟩
def Fld.TWI_TW0_STAT_TMOCNT : Fld := ⟨0x0B0008, 8, 8⟩
def Fld.TWI_TW0_STAT_LASTADDR : Fld := ⟨0x0B0008, 16, 2⟩
def Fld.TWI_TW1_CFG_EN : Fld := ⟨0x0B0100, 0, 1⟩
def Fld.TWI_TW1_CFG_TGT_EN : Fld := ⟨0x0B0100, 1, 1⟩
def Fld.TWI_TW1_CFG_RETRY : Fld := ⟨0x0B0100, 4, 3⟩
def Fld.TWI_TW1_CFG_TMO_EN : Fld := ⟨0x0B0100, 7, 1⟩
def Reg.TWI_TW1_CTL : Nat := 0x0B0104
def Reg.TWI_TW1_STAT : Nat := 0x0B0108
def Fld.TWI_TW1_STAT_BUSY : Fld := ⟨0x0B0108, 0, 1⟩
def Fld.TWI_TW1_STAT_DONE : Fld := ⟨0x0B0108, 1, 1⟩
def Fld.TWI_TW1_STAT_NACK : Fld := ⟨0x0B0108, 2, 1⟩
def Fld.TWI_TW1_STAT_ARB : Fld := ⟨0x0B0108, 3, 1⟩
def Fld.TWI_TW1_STAT_ARB_COND : Fld := ⟨0x0B0108, 4, 1⟩
def Fld.TWI_TW1_STAT_TMO : Fld := ⟨0x0B0108, 5, 1⟩
def Fld.TWI_TW1_STAT_PECFAIL : Fld := ⟨0x0B0108, 6, 1⟩
def Fld.TWI_TW1_STAT_RXFULL : Fld := ⟨0x0B0108, 7, 1⟩
def Fld.TWI_TW1_STAT_RXCNT : Fld := ⟨0x0B0108, 8, 6⟩
def Reg.TWI_TW1_TX (i : Nat) : Nat := 0x0B0140 + 4 * i
def Reg.TWI_TW1_RX (i : Nat) : Nat := 0x0B0160 + 4 * i
def Fld.SPT_STAT_CRCERR : Fld := ⟨0x0C0000, 0, 8⟩
def Fld.SPT_STAT_ABORT : Fld := ⟨0x0C0000, 8, 8⟩
def Fld.SPT_STAT_MODE3 : Fld := ⟨0x0C0000, 16, 1⟩
def Reg.KPR_MB_CTL (i : Nat) : Nat := 0x1B0000 + 256 * i
def Fld.KPR_MB_CTL_CODE (i : Nat) : Fld := ⟨0x1B0000 + 256 * i, 0, 16⟩
def Fld.KPR_MB_STAT_BUSY (i : Nat) : Fld := ⟨0x1B0004 + 256 * i, 0, 1⟩
def Fld.KPR_MB_STAT_RESULT (i : Nat) : Fld := ⟨0x1B0004 + 256 * i, 4, 4⟩
def Reg.KPR_MB_DATA (i : Nat) (j : Nat) : Nat := 0x1B0080 + 256 * i + 4 * j
def Reg.MTR_CTL : Nat := 0x100000
def Reg.MTR_STAT : Nat := 0x100004
def Fld.MTR_STAT_RATE : Fld := ⟨0x100004, 0, 3⟩
def Fld.MTR_STAT_TB : Fld := ⟨0x100004, 3, 2⟩
def Fld.MTR_STAT_FULL : Fld := ⟨0x100004, 5, 1⟩
def Fld.MTR_STAT_SLOW : Fld := ⟨0x100004, 6, 1⟩
def Fld.MTR_STAT_HAND : Fld := ⟨0x100004, 7, 1⟩
def Fld.MTR_STAT_SNAPRDY : Fld := ⟨0x100004, 8, 1⟩
def Fld.MTR_STAT_SNAPPEND : Fld := ⟨0x100004, 9, 1⟩
def Fld.MTR_STAT_WORKER : Fld := ⟨0x100004, 10, 1⟩
def Fld.MTR_REF_DEV : Fld := ⟨0x100008, 0, 16⟩
def Fld.MTR_REF_WARN : Fld := ⟨0x100008, 16, 1⟩
def Fld.MTR_REF_FAIL : Fld := ⟨0x100008, 17, 1⟩
def Fld.MTR_REF_WSTK : Fld := ⟨0x100008, 18, 1⟩
def Fld.MTR_REF_FSTK : Fld := ⟨0x100008, 19, 1⟩
def Reg.MTR_CLASS : Nat := 0x10000C
def Fld.MTR_CLASS_CLS : Fld := ⟨0x10000C, 0, 20⟩
def Reg.MTR_TONE : Nat := 0x100010
def Fld.MTR_TONE_TRK_EN : Fld := ⟨0x100010, 0, 20⟩
def Fld.MTR_ALIGN_OFS : Fld := ⟨0x100014, 0, 16⟩
def Fld.MTR_ALIGN_LOCK : Fld := ⟨0x100014, 16, 1⟩
def Fld.MTR_ALIGN_LOSS : Fld := ⟨0x100014, 17, 1⟩
def Reg.MTR_STRB_CNT : Nat := 0x100018
def Reg.MTR_SNAP_CNT : Nat := 0x10001C
def Reg.MTR_SNAP_CLASS : Nat := 0x100024
def Reg.MTR_TRK_RST : Nat := 0x100020
def Reg.MTR_CH_DATA (i : Nat) : Nat := 0x100100 + 32 * i
def Reg.MTR_CH_GAIN (i : Nat) : Nat := 0x100104 + 32 * i
def Reg.MTR_CH_OFS (i : Nat) : Nat := 0x100108 + 32 * i
def Fld.MTR_CH_CAL_STATE (i : Nat) : Fld := ⟨0x10010C + 32 * i, 0, 2⟩
def Fld.MTR_CH_CAL_SNR (i : Nat) : Fld := ⟨0x10010C + 32 * i, 8, 8⟩
def Fld.MTR_CH_CAL_AGE (i : Nat) : Fld := ⟨0x10010C + 32 * i, 16, 16⟩
def Reg.MTR_CH_TRK (i : Nat) : Nat := 0x100110 + 32 * i
def Fld.MTR_CH_DRIFT_DELTA (i : Nat) : Fld := ⟨0x100114 + 32 * i, 0, 16⟩
def Fld.MTR_CH_DRIFT_T0 (i : Nat) : Fld := ⟨0x100114 + 32 * i, 16, 16⟩
def Fld.MTR_CH_FLAG_OVR (i : Nat) : Fld := ⟨0x100118 + 32 * i, 0, 1⟩
def Fld.MTR_CH_FLAG_CALLOST (i : Nat) : Fld := ⟨0x100118 + 32 * i, 1, 1⟩
def Fld.MTR_CH_FLAG_CALFAIL (i : Nat) : Fld := ⟨0x100118 + 32 * i, 2, 1⟩
def Fld.MTR_CH_FLAG_DIVFLT (i : Nat) : Fld := ⟨0x100118 + 32 * i, 3, 1⟩
def Fld.MTR_CH_FLAG_TRKAGE (i : Nat) : Fld := ⟨0x100118 + 32 * i, 4, 1⟩
def Fld.MTR_CH_FLAG_BASE (i : Nat) : Fld := ⟨0x100118 + 32 * i, 5, 1⟩
def Fld.LDG_CFG_IVL : Fld := ⟨0x110000, 0, 3⟩
def Reg.LDG_STAT : Nat := 0x110004
def Fld.LDG_STAT_RUN : Fld := ⟨0x110004, 0, 1⟩
def Fld.LDG_STAT_DEFER : Fld := ⟨0x110004, 1, 1⟩
def Fld.LDG_STAT_FRESH : Fld := ⟨0x110004, 2, 1⟩
def Fld.LDG_STAT_RECOV : Fld := ⟨0x110004, 3, 1⟩
def Fld.LDG_STAT_CPEND : Fld := ⟨0x110004, 4, 1⟩
def Fld.LDG_STAT_CLOSING : Fld := ⟨0x110004, 5, 1⟩
def Fld.LDG_STAT_PENDING : Fld := ⟨0x110004, 16, 13⟩
def Reg.LDG_CTL : Nat := 0x110008
def Reg.LDG_ASSIGN : Nat := 0x11000C
def Reg.LDG_ROUTE : Nat := 0x110010
def Fld.LDG_DELIV_EN : Fld := ⟨0x110014, 0, 16⟩
def Fld.LDG_RING_NEXT : Fld := ⟨0x110018, 0, 13⟩
def Fld.LDG_RING_OLDEST : Fld := ⟨0x110018, 16, 13⟩
def Fld.LDG_KEYX_DONE : Fld := ⟨0x11001C, 0, 16⟩
def Fld.LDG_KEYX_XPOL : Fld := ⟨0x11001C, 16, 1⟩
def Reg.LDG_LC_SEQ (i : Nat) : Nat := 0x110100 + 64 * i
def Fld.ORD_CTL_ADMIT : Fld := ⟨0x120000, 0, 1⟩
def Fld.ORD_CFG_SWARM_EN : Fld := ⟨0x120004, 0, 1⟩
def Fld.ORD_CFG_NOTE_ALL : Fld := ⟨0x120004, 1, 1⟩
def Fld.ORD_STAT_RESIDENT : Fld := ⟨0x120008, 0, 11⟩
def Fld.ORD_STAT_DISCARDING : Fld := ⟨0x120008, 11, 1⟩
def Fld.ORD_STAT_BROOD_SHORT : Fld := ⟨0x120008, 12, 1⟩
def Fld.ORD_STAT_GFAIL : Fld := ⟨0x120008, 13, 1⟩
def Fld.ORD_STAT_OVERLOAD : Fld := ⟨0x120008, 14, 1⟩
def Fld.ORD_STAT_HELDREC : Fld := ⟨0x120008, 16, 12⟩
def Reg.ORD_EPOCH : Nat := 0x12000C
def Reg.ORD_BUS_CAP : Nat := 0x120010
def Reg.ORD_AC_CAP : Nat := 0x120014
def Reg.ORD_BROOD_E : Nat := 0x120018
def Reg.ORD_BROOD_P : Nat := 0x12001C
def Reg.ORD_CANCEL_ID : Nat := 0x120020
def Reg.ORD_CANCEL_CTL : Nat := 0x120024
def Fld.ORD_CANCEL_STAT_BUSY : Fld := ⟨0x120028, 0, 1⟩
def Fld.ORD_CANCEL_STAT_RESULT : Fld := ⟨0x120028, 1, 2⟩
def Reg.ORD_QRY_ID : Nat := 0x120030
def Fld.ORD_QRY_STAT_STATE : Fld := ⟨0x120034, 0, 4⟩
def Fld.ORD_QRY_STAT_CAUSE : Fld := ⟨0x120034, 8, 8⟩
def Fld.ORD_QRY_STAT_FLAGS : Fld := ⟨0x120034, 16, 8⟩
def Reg.ORD_QRY_DELIV : Nat := 0x120038
def Reg.ORD_ROUTE (i : Nat) : Nat := 0x120040 + 4 * i
def Reg.ORD_LC_CAP (i : Nat) : Nat := 0x120100 + 4 * i
def Reg.SCT_CTL : Nat := 0x130000
def Fld.SCT_CTL_EN : Fld := ⟨0x130000, 0, 1⟩
def Fld.SCT_CFG_DECAY : Fld := ⟨0x130004, 0, 16⟩
def Fld.SCT_CFG_TMO : Fld := ⟨0x130004, 16, 8⟩
def Fld.SCT_CFG_HU_EN : Fld := ⟨0x130004, 24, 1⟩
def Fld.SCT_STAT_LEVEL : Fld := ⟨0x130008, 0, 2⟩
def Fld.SCT_STAT_PHASE : Fld := ⟨0x130008, 2, 3⟩
def Fld.SCT_STAT_LOCK : Fld := ⟨0x130008, 5, 2⟩
def Fld.SCT_STAT_H : Fld := ⟨0x130008, 8, 8⟩
def Fld.SCT_STAT_CONF : Fld := ⟨0x130008, 16, 16⟩
def Fld.SCT_FLAG_CONFIRM : Fld := ⟨0x13000C, 0, 1⟩
def Fld.SCT_FLAG_SQUASH : Fld := ⟨0x13000C, 1, 1⟩
def Fld.SCT_FLAG_EXHAUST : Fld := ⟨0x13000C, 2, 1⟩
def Fld.SCT_FLAG_REHOLD : Fld := ⟨0x13000C, 3, 1⟩
def Fld.SCT_CAUSE_CONF : Fld := ⟨0x130010, 0, 4⟩
def Fld.SCT_CAUSE_SQ : Fld := ⟨0x130010, 4, 4⟩
def Fld.SCT_CAUSE_SUPP : Fld := ⟨0x130010, 8, 1⟩
def Fld.SCT_LVL_UP (i : Nat) : Fld := ⟨0x130020 + 4 * i, 0, 16⟩
def Fld.SCT_LVL_DN (i : Nat) : Fld := ⟨0x130020 + 4 * i, 16, 16⟩
def Fld.SCT_COST_COST : Fld := ⟨0x130030, 0, 16⟩
def Fld.SCT_COST_CAP : Fld := ⟨0x130030, 16, 16⟩
def Fld.SCT_HU_CFG_THR : Fld := ⟨0x130034, 0, 12⟩
def Fld.SCT_HU_CFG_SP : Fld := ⟨0x130034, 16, 8⟩
def Fld.SCT_HU_CFG_HBRAMP : Fld := ⟨0x130034, 24, 8⟩
def Fld.SCT_AC_CFG_F60 : Fld := ⟨0x130038, 0, 1⟩
def Fld.SCT_AC_CFG_LOSS : Fld := ⟨0x130038, 8, 8⟩
def Fld.SCT_AC_CFG_NOMPK : Fld := ⟨0x130038, 16, 16⟩
def Fld.SCT_AC_STAT_RMS : Fld := ⟨0x13003C, 0, 16⟩
def Fld.SCT_AC_STAT_FDEV : Fld := ⟨0x13003C, 16, 16⟩
def Reg.SCT_ANN (i : Nat) : Nat := 0x130040 + 4 * i
def Reg.SCT_HU_E : Nat := 0x130048
def Reg.SCT_HU_ALLOW : Nat := 0x13004C
def Fld.SCT_PLAN_VALID : Fld := ⟨0x130050, 0, 8⟩
def Fld.SCT_PLAN_GAP : Fld := ⟨0x130050, 8, 8⟩
def Fld.SCT_PRED_SRC_SRC (i : Nat) : Fld := ⟨0x130100 + 8 * i, 0, 6⟩
def Fld.SCT_PRED_SRC_PERSIST (i : Nat) : Fld := ⟨0x130100 + 8 * i, 8, 8⟩
def Fld.SCT_PRED_SRC_THRESH (i : Nat) : Fld := ⟨0x130100 + 8 * i, 16, 16⟩
def Fld.SCT_PRED_WT_WEIGHT (i : Nat) : Fld := ⟨0x130104 + 8 * i, 0, 16⟩
def Fld.SCT_PRED_WT_HOLD (i : Nat) : Fld := ⟨0x130104 + 8 * i, 16, 16⟩
def Reg.CNV_CTL : Nat := 0x140000
def Fld.CNV_CTL_SHARE_EN : Fld := ⟨0x140000, 2, 1⟩
def Fld.CNV_CTL_SHARE_DRV : Fld := ⟨0x140000, 3, 1⟩
def Fld.CNV_BRK_BRK_ON : Fld := ⟨0x140004, 0, 8⟩
def Fld.CNV_BRK_BRK_OFF : Fld := ⟨0x140004, 8, 8⟩
def Fld.CNV_BRK_BRK_MAX : Fld := ⟨0x140004, 16, 8⟩
def Fld.CNV_SHARE_KS : Fld := ⟨0x140008, 0, 16⟩
def Fld.CNV_SHARE_TSLEW : Fld := ⟨0x140008, 16, 8⟩
def Fld.CNV_SHARE_ACLOAD : Fld := ⟨0x140008, 24, 8⟩
def Reg.CNV_STAT : Nat := 0x14000C
def Fld.CNV_STAT_RUN : Fld := ⟨0x14000C, 0, 12⟩
def Fld.CNV_STAT_ACLIM : Fld := ⟨0x14000C, 12, 1⟩
def Fld.CNV_STAT_ACLIMS : Fld := ⟨0x14000C, 13, 1⟩
def Fld.CNV_STAT_CPEND : Fld := ⟨0x14000C, 14, 1⟩
def Fld.CNV_STAT_CERR : Fld := ⟨0x14000C, 15, 1⟩
def Fld.CNV_STAT_ERRCODE : Fld := ⟨0x14000C, 16, 4⟩
def Reg.CNV_ACDRAW : Nat := 0x140010
def Reg.CNV_CG_CFG (i : Nat) : Nat := 0x140100 + 64 * i
def Fld.CNV_CG_CFG_PER (i : Nat) : Fld := ⟨0x140100 + 64 * i, 16, 16⟩
def Reg.CNV_CG_CTL (i : Nat) : Nat := 0x140104 + 64 * i
def Fld.CNV_CG_CTL_SYNC_EN (i : Nat) : Fld := ⟨0x140104 + 64 * i, 0, 1⟩
def Fld.CNV_CG_CTL_BAL_EN (i : Nat) : Fld := ⟨0x140104 + 64 * i, 1, 1⟩
def Fld.CNV_CG_CTL_BRK_EN (i : Nat) : Fld := ⟨0x140104 + 64 * i, 2, 1⟩
def Fld.CNV_CG_DLIM_DMIN (i : Nat) : Fld := ⟨0x140108 + 64 * i, 0, 16⟩
def Fld.CNV_CG_DLIM_DMAX (i : Nat) : Fld := ⟨0x140108 + 64 * i, 16, 16⟩
def Fld.CNV_CG_TIME_SSTIME (i : Nat) : Fld := ⟨0x14010C + 64 * i, 8, 8⟩
def Fld.CNV_CG_TIME_STOPT (i : Nat) : Fld := ⟨0x14010C + 64 * i, 16, 16⟩
def Fld.CNV_CG_SNS_KB (i : Nat) : Fld := ⟨0x140110 + 64 * i, 0, 8⟩
def Fld.CNV_CG_SNS_OCP (i : Nat) : Fld := ⟨0x140110 + 64 * i, 16, 8⟩
def Fld.CNV_CG_SNS_CSGAIN (i : Nat) : Fld := ⟨0x140110 + 64 * i, 24, 8⟩
def Fld.CNV_CG_CTL_SYNCDIV (i : Nat) : Fld := ⟨0x140104 + 64 * i, 8, 6⟩
def Fld.CNV_SYNCOUT_EN : Fld := ⟨0x140014, 0, 1⟩
def Fld.CNV_SYNCOUT_GROUP : Fld := ⟨0x140014, 4, 4⟩
def Fld.CNV_CG_SNS_BALMIN (i : Nat) : Fld := ⟨0x140110 + 64 * i, 8, 8⟩
def Fld.CNV_CG_STAT_MODE (i : Nat) : Fld := ⟨0x140114 + 64 * i, 0, 3⟩
def Fld.CNV_CG_STAT_SOFT (i : Nat) : Fld := ⟨0x140114 + 64 * i, 3, 1⟩
def Fld.CNV_CG_STAT_BRAKE (i : Nat) : Fld := ⟨0x140114 + 64 * i, 4, 1⟩
def Fld.CNV_CG_STAT_SYNCLOCK (i : Nat) : Fld := ⟨0x140114 + 64 * i, 5, 1⟩
def Fld.CNV_CG_STAT_CPEND (i : Nat) : Fld := ⟨0x140114 + 64 * i, 6, 1⟩
def Fld.CNV_CG_STAT_ERRCODE (i : Nat) : Fld := ⟨0x140114 + 64 * i, 8, 8⟩
def Fld.CNV_CG_STAT_ISUM (i : Nat) : Fld := ⟨0x140114 + 64 * i, 16, 16⟩
def Fld.CNV_CG_FLAG_OCP (i : Nat) : Fld := ⟨0x140118 + 64 * i, 0, 1⟩
def Fld.CNV_CG_FLAG_CSERR (i : Nat) : Fld := ⟨0x140118 + 64 * i, 1, 1⟩
def Fld.CNV_CG_FLAG_SYNCLOSS (i : Nat) : Fld := ⟨0x140118 + 64 * i, 2, 1⟩
def Fld.CNV_CG_FLAG_SYNCERR (i : Nat) : Fld := ⟨0x140118 + 64 * i, 3, 1⟩
def Fld.CNV_CG_FLAG_BRKLIM (i : Nat) : Fld := ⟨0x140118 + 64 * i, 4, 1⟩
def Fld.CNV_CG_FLAG_BALLIM (i : Nat) : Fld := ⟨0x140118 + 64 * i, 5, 1⟩
def Fld.CNV_CG_FLAG_CERR (i : Nat) : Fld := ⟨0x140118 + 64 * i, 6, 1⟩
def Fld.CNV_CG_PER_P (i : Nat) : Fld := ⟨0x14011C + 64 * i, 0, 24⟩
def Fld.CNV_CG_PER_BRKCNT (i : Nat) : Fld := ⟨0x14011C + 64 * i, 24, 8⟩
def Fld.CHG_CTL_BUSFEED : Fld := ⟨0x180000, 0, 1⟩
def Fld.CHG_CFG_TSAFE : Fld := ⟨0x180004, 0, 4⟩
def Fld.CHG_CFG_TTERM : Fld := ⟨0x180004, 8, 8⟩
def Fld.CHG_CFG_BFOFS : Fld := ⟨0x180004, 16, 8⟩
def Fld.CHG_STAT_CHARGING : Fld := ⟨0x180008, 0, 8⟩
def Fld.CHG_STAT_FULL : Fld := ⟨0x180008, 8, 8⟩
def Fld.CHG_STAT_LOST : Fld := ⟨0x180008, 16, 8⟩
def Reg.CHG_FAULT : Nat := 0x18000C
def Fld.CHG_FAULT_BATT_LOST : Fld := ⟨0x18000C, 0, 8⟩
def Fld.CHG_FAULT_TMR_EXP : Fld := ⟨0x18000C, 8, 8⟩
def Fld.CHG_FAULT_CELL_OV : Fld := ⟨0x18000C, 16, 8⟩
def Reg.CHG_PVFLT : Nat := 0x180010
def Fld.CHG_PVFLT_OUT_OV : Fld := ⟨0x180010, 0, 12⟩
def Fld.CHG_PVFLT_PV_REV : Fld := ⟨0x180010, 16, 12⟩
def Reg.CAN_C_CFG (i : Nat) : Nat := 0x0D0000 + 256 * i
def Fld.CAN_C_CFG_EN (i : Nat) : Fld := ⟨0x0D0000 + 256 * i, 0, 1⟩
def Fld.CAN_C_CFG_LISTEN (i : Nat) : Fld := ⟨0x0D0000 + 256 * i, 1, 1⟩
def Fld.CAN_C_CFG_FDEN (i : Nat) : Fld := ⟨0x0D0000 + 256 * i, 2, 1⟩
def Fld.CAN_C_CFG_BRSEN (i : Nat) : Fld := ⟨0x0D0000 + 256 * i, 3, 1⟩
def Fld.CAN_C_CFG_DEFMQ (i : Nat) : Fld := ⟨0x0D0000 + 256 * i, 4, 3⟩
def Fld.CAN_C_CFG_DEFEN (i : Nat) : Fld := ⟨0x0D0000 + 256 * i, 7, 1⟩
def Fld.CAN_C_NBT_BRP (i : Nat) : Fld := ⟨0x0D0004 + 256 * i, 0, 5⟩
def Fld.CAN_C_NBT_TSEG1 (i : Nat) : Fld := ⟨0x0D0004 + 256 * i, 8, 8⟩
def Fld.CAN_C_NBT_TSEG2 (i : Nat) : Fld := ⟨0x0D0004 + 256 * i, 16, 7⟩
def Fld.CAN_C_DBT_BRP (i : Nat) : Fld := ⟨0x0D0008 + 256 * i, 0, 5⟩
def Fld.CAN_C_DBT_TSEG1 (i : Nat) : Fld := ⟨0x0D0008 + 256 * i, 8, 5⟩
def Fld.CAN_C_DBT_TSEG2 (i : Nat) : Fld := ⟨0x0D0008 + 256 * i, 16, 4⟩
def Fld.CAN_C_STAT_TEC (i : Nat) : Fld := ⟨0x0D000C + 256 * i, 0, 8⟩
def Fld.CAN_C_STAT_REC (i : Nat) : Fld := ⟨0x0D000C + 256 * i, 8, 8⟩
def Fld.CAN_C_STAT_ESTATE (i : Nat) : Fld := ⟨0x0D000C + 256 * i, 16, 2⟩
def Fld.CAN_C_STAT_BOFF (i : Nat) : Fld := ⟨0x0D000C + 256 * i, 18, 1⟩
def Fld.CAN_C_CNT_RX (i : Nat) : Fld := ⟨0x0D0010 + 256 * i, 0, 16⟩
def Fld.CAN_C_CNT_MATCH (i : Nat) : Fld := ⟨0x0D0010 + 256 * i, 16, 16⟩
def Fld.CAN_C_ERR_SHORT (i : Nat) : Fld := ⟨0x0D0014 + 256 * i, 0, 8⟩
def Fld.CAN_C_ERR_BADMOD (i : Nat) : Fld := ⟨0x0D0014 + 256 * i, 8, 8⟩
def Reg.CAN_PRES (i : Nat) : Nat := 0x0D0210 + 4 * i
def Reg.EST_CFG : Nat := 0x190000
def Fld.EST_CFG_PERS : Fld := ⟨0x190000, 0, 1⟩
def Fld.EST_CFG_RATE : Fld := ⟨0x190000, 8, 8⟩
def Fld.EST_CFG_RESTT : Fld := ⟨0x190000, 16, 8⟩
def Fld.EST_CFG_RESTI : Fld := ⟨0x190000, 24, 8⟩
def Fld.EST_CFG2_DISTHR : Fld := ⟨0x190004, 0, 8⟩
def Fld.EST_CFG2_VMARG : Fld := ⟨0x190004, 8, 8⟩
def Fld.EST_CFG2_ULOSS : Fld := ⟨0x190004, 16, 8⟩
def Fld.EST_CFG2_OCVSIG : Fld := ⟨0x190004, 24, 8⟩
def Reg.EST_CTL : Nat := 0x190008
def Fld.EST_STAT_RUN : Fld := ⟨0x19000C, 0, 1⟩
def Fld.EST_STAT_RESTORED : Fld := ⟨0x19000C, 1, 1⟩
def Fld.EST_STAT_STALE : Fld := ⟨0x19000C, 8, 8⟩
def Fld.EST_STAT_REST : Fld := ⟨0x19000C, 16, 8⟩
def Fld.EST_NV_SEQ : Fld := ⟨0x190010, 0, 24⟩
def Fld.EST_NV_SLOT : Fld := ⟨0x190010, 24, 1⟩
def Fld.EST_NV_WRITING : Fld := ⟨0x190010, 25, 1⟩
def Fld.EST_NV_WERR : Fld := ⟨0x190010, 26, 1⟩
def Fld.EST_NV_WEAR : Fld := ⟨0x190010, 27, 1⟩
def Reg.EST_DISAGREE : Nat := 0x190014
def Fld.EST_DISAGREE_STR : Fld := ⟨0x190014, 0, 8⟩
def Reg.EST_UPDCNT : Nat := 0x190018
def Fld.EFU_STAT_ESTOP : Fld := ⟨0x170000, 0, 1⟩
def Fld.EFU_STAT_ESTOPS : Fld := ⟨0x170000, 1, 1⟩
def Fld.EFU_STAT_TRIPPED : Fld := ⟨0x170000, 8, 8⟩
def Fld.EFU_STAT_FEEDLOST : Fld := ⟨0x170000, 16, 3⟩
def Fld.EFU_THR_REQ : Fld := ⟨0x170004, 0, 8⟩
def Fld.EFU_THR_GRACE : Fld := ⟨0x170004, 16, 8⟩
def Fld.EFU_S_KCFG_PCEND (i : Nat) : Fld := ⟨0x170604 + 16 * i, 0, 8⟩
def Fld.EFU_THR_ENF : Fld := ⟨0x170004, 8, 8⟩
def Fld.RGL_STAT_ON : Fld := ⟨0x150000, 0, 8⟩
def Reg.SEQ_CTL : Nat := 0x160000
def Reg.SEQ_STAT : Nat := 0x160004
def Fld.SEQ_STAT_RUN : Fld := ⟨0x160004, 0, 1⟩
def Fld.SEQ_STAT_UPDONE : Fld := ⟨0x160004, 1, 1⟩
def Fld.SEQ_STAT_DNDONE : Fld := ⟨0x160004, 2, 1⟩
def Fld.SEQ_STAT_SEQ_PDF : Fld := ⟨0x160004, 3, 1⟩
def Fld.SEQ_STAT_SEQ_PUF : Fld := ⟨0x160004, 4, 1⟩
def Fld.SEQ_STAT_COLLAPSE : Fld := ⟨0x160004, 5, 1⟩
def Fld.SEQ_STAT_COLLS : Fld := ⟨0x160004, 6, 1⟩
def Fld.SEQ_STAT_DIR : Fld := ⟨0x160004, 7, 1⟩
def Fld.SEQ_STAT_STEP : Fld := ⟨0x160004, 8, 6⟩
def Fld.SEQ_CFG_AUTOUP : Fld := ⟨0x160008, 0, 1⟩
def Fld.SEQ_CFG_REUP : Fld := ⟨0x160008, 1, 1⟩
def Fld.SEQ_CFG_SYSUV : Fld := ⟨0x160008, 16, 16⟩
def Fld.SEQ_OUT_NUP : Fld := ⟨0x16000C, 0, 6⟩
def Fld.SEQ_OUT_NDN : Fld := ⟨0x16000C, 8, 6⟩
def Fld.SEQ_OUT_SQE : Fld := ⟨0x16000C, 16, 16⟩
def Reg.WGL_CFG : Nat := 0x0E0000
def Fld.WGL_CFG_EN : Fld := ⟨0x0E0000, 0, 1⟩
def Fld.WGL_CFG_RRST_EN : Fld := ⟨0x0E0000, 1, 1⟩
def Fld.WGL_CFG_POS : Fld := ⟨0x0E0000, 4, 4⟩
def Fld.WGL_CFG_QUEEN : Fld := ⟨0x0E0000, 8, 1⟩
def Fld.WGL_STAT_JOINED : Fld := ⟨0x0E0004, 0, 1⟩
def Fld.WGL_STAT_DUP : Fld := ⟨0x0E0004, 1, 1⟩
def Fld.WGL_STAT_RATEMIS : Fld := ⟨0x0E0004, 2, 1⟩
def Fld.WGL_STAT_LINKLOSS : Fld := ⟨0x0E0004, 3, 1⟩
def Fld.WGL_STAT_QDOZE : Fld := ⟨0x0E0004, 4, 1⟩
def Fld.WGL_STAT_CYCLE : Fld := ⟨0x0E0004, 16, 16⟩
def Fld.WGL_PRES_PRESENT : Fld := ⟨0x0E0008, 0, 16⟩
def Fld.WGL_PRES_DOZING : Fld := ⟨0x0E0008, 16, 16⟩
def Fld.WGL_DUP_POS : Fld := ⟨0x0E000C, 0, 16⟩
def Reg.WGL_BAR_CTL : Nat := 0x0E0010
def Fld.WGL_BAR_CTL_RACKS : Fld := ⟨0x0E0010, 0, 16⟩
def Fld.WGL_BAR_CTL_ACTION : Fld := ⟨0x0E0010, 16, 3⟩
def Fld.WGL_BAR_STAT_LAST : Fld := ⟨0x0E0014, 0, 16⟩
def Fld.WGL_BAR_STAT_MISS : Fld := ⟨0x0E0014, 16, 16⟩
def Reg.WGL_RST : Nat := 0x0E0018
def Fld.WGL_ERR_CRCERR : Fld := ⟨0x0E001C, 0, 8⟩
def Fld.WGL_ERR_SLOTMISS : Fld := ⟨0x0E001C, 8, 8⟩
def Fld.WGL_ERR_TDIFF : Fld := ⟨0x0E001C, 16, 16⟩
def Reg.FLT_STAT_LO : Nat := 0x010000
def Reg.FLT_STAT_HI : Nat := 0x010004
def Reg.FLT_CTL : Nat := 0x010008
def Reg.FLT_HSTAT : Nat := 0x01000C
def Fld.FLT_HSTAT_HANDLING : Fld := ⟨0x01000C, 0, 1⟩
def Fld.FLT_HSTAT_FATAL : Fld := ⟨0x01000C, 1, 1⟩
def Fld.FLT_HSTAT_CPEND : Fld := ⟨0x01000C, 2, 1⟩
def Fld.FLT_HSTAT_CERR : Fld := ⟨0x01000C, 3, 1⟩
def Fld.FLT_HSTAT_ERRCODE : Fld := ⟨0x01000C, 4, 4⟩
def Fld.FLT_HSTAT_FIRST : Fld := ⟨0x01000C, 8, 6⟩
def Fld.FLT_HSTAT_MERGED : Fld := ⟨0x01000C, 16, 8⟩
def Reg.FLT_CLASS (i : Nat) : Nat := 0x010010 + 4 * i
def Reg.FLT_PIN : Nat := 0x010020
def Fld.FLT_PIN_DRIVE : Fld := ⟨0x010020, 0, 1⟩
def Fld.FLT_PIN_PULSE : Fld := ⟨0x010020, 1, 1⟩
def Reg.FLT_INJ : Nat := 0x010024
def Reg.RST_CAUSE : Nat := 0x020000
def Reg.RST_CTL : Nat := 0x020004
def Reg.RST_BLK : Nat := 0x020008
def Reg.RST_BSTAT : Nat := 0x02000C
def Reg.RST_LAST : Nat := 0x020010
def Fld.PRP_CFG_RUN : Fld := ⟨0x1A0000, 0, 1⟩
def Fld.PRP_CFG_BQEN : Fld := ⟨0x1A0000, 1, 1⟩
def Fld.PRP_CFG_BQ : Fld := ⟨0x1A0000, 2, 2⟩
def Fld.PRP_CFG_PRE : Fld := ⟨0x1A0000, 8, 7⟩
def Fld.PRP_TRIG_EN : Fld := ⟨0x1A0004, 0, 7⟩
def Reg.PRP_CTL : Nat := 0x1A0008
def Reg.PRP_MARK : Nat := 0x1A000C
def Fld.PRP_STAT_WIDX : Fld := ⟨0x1A0010, 0, 16⟩
def Fld.PRP_STAT_CAPT : Fld := ⟨0x1A0010, 16, 1⟩
def Fld.PRP_STAT_SLOT : Fld := ⟨0x1A0010, 17, 2⟩
def Reg.PRP_FCNT : Nat := 0x1A0014
def Reg.PRP_EVSEQ : Nat := 0x1A0018
def Fld.PRP_REC_LOCK_LOCK : Fld := ⟨0x1A001C, 0, 3⟩
def Fld.PRP_REC_LOCK_VALID : Fld := ⟨0x1A001C, 4, 3⟩
def Reg.CLK_CFG : Nat := 0x030000
def Fld.CLK_CFG_HFXO_EN : Fld := ⟨0x030000, 0, 1⟩
def Fld.CLK_CFG_PLLREF : Fld := ⟨0x030000, 1, 1⟩
def Reg.CLK_STAT : Nat := 0x030004
def Fld.CLK_STAT_ACLK_SRC : Fld := ⟨0x030004, 0, 1⟩
def Fld.CLK_STAT_HFRC_ON : Fld := ⟨0x030004, 1, 1⟩
def Fld.CLK_STAT_HFXO_ON : Fld := ⟨0x030004, 2, 1⟩
def Fld.CLK_STAT_HFXO_OK : Fld := ⟨0x030004, 3, 1⟩
def Fld.CLK_STAT_PLL_LOCK : Fld := ⟨0x030004, 4, 1⟩
def Fld.CLK_STAT_PLL_REF : Fld := ⟨0x030004, 5, 1⟩
def Fld.CLK_STAT_SYSCLK : Fld := ⟨0x030004, 6, 1⟩
def Fld.CLK_STAT_XT32_FAIL : Fld := ⟨0x030004, 8, 1⟩
def Fld.CLK_STAT_HFXO_FAIL : Fld := ⟨0x030004, 9, 1⟩
def Fld.CLK_STAT_PLL_LOL : Fld := ⟨0x030004, 10, 1⟩
def Fld.CLK_HFXO_CHK_COUNT : Fld := ⟨0x030008, 0, 20⟩
def Fld.CLK_HFRC_TRIM_TRIM : Fld := ⟨0x03000C, 0, 10⟩
def Fld.CLK_HFRC_TRIM_ERR : Fld := ⟨0x03000C, 16, 16⟩
def Fld.CLK_CDC_OVR : Fld := ⟨0x030010, 0, 8⟩
def Fld.CLK_CDC_TMO : Fld := ⟨0x030010, 16, 8⟩
def Reg.RTC_SEC_LO : Nat := 0x060000
def Reg.RTC_SEC_HI : Nat := 0x060004
def Reg.RTC_SUB : Nat := 0x060008
def Reg.RTC_DATE : Nat := 0x06000C
def Reg.RTC_TIME : Nat := 0x060010
def Reg.RTC_STAT : Nat := 0x060014
def Fld.RTC_STAT_OSF : Fld := ⟨0x060014, 0, 1⟩
def Fld.RTC_STAT_ALMF : Fld := ⟨0x060014, 1, 1⟩
def Fld.RTC_STAT_SETPEND : Fld := ⟨0x060014, 2, 1⟩
def Fld.RTC_STAT_CPEND : Fld := ⟨0x060014, 3, 1⟩
def Fld.RTC_STAT_CERR : Fld := ⟨0x060014, 4, 1⟩
def Fld.RTC_STAT_ERRCODE : Fld := ⟨0x060014, 8, 4⟩
def Reg.RTC_SET_LO : Nat := 0x060018
def Fld.RTC_SET_HI_SEC : Fld := ⟨0x06001C, 0, 8⟩
def Reg.RTC_CTL : Nat := 0x060020
def Reg.RTC_ALM_LO : Nat := 0x060024
def Fld.RTC_ALM_HI_SEC : Fld := ⟨0x060028, 0, 8⟩
def Fld.RTC_ALM_HI_EN : Fld := ⟨0x060028, 31, 1⟩
def Fld.RTC_CALIB_TRIM : Fld := ⟨0x06002C, 0, 9⟩
def Reg.TMR_START : Nat := 0x050000
def Reg.TMR_STOP : Nat := 0x050004
def Reg.TMR_RESET : Nat := 0x050008
def Fld.TMR_RUN_RUN : Fld := ⟨0x05000C, 0, 16⟩
def Fld.TMR_RUN_ARMED : Fld := ⟨0x05000C, 16, 16⟩
def Fld.WDG_H_CFG_PERIOD : Fld := ⟨0x070000, 0, 16⟩
def Fld.WDG_H_CFG_CLKSEL : Fld := ⟨0x070000, 16, 1⟩
def Reg.WDG_H_CTL : Nat := 0x070004
def Fld.WDG_H_CTL_EN : Fld := ⟨0x070004, 0, 1⟩
def Reg.WDG_H_SVC : Nat := 0x070008
def Reg.WDG_H_STAT : Nat := 0x07000C
def Fld.WDG_H_STAT_EN : Fld := ⟨0x07000C, 0, 1⟩
def Fld.WDG_H_STAT_OPEN : Fld := ⟨0x07000C, 1, 1⟩
def Fld.WDG_H_STAT_CLKSEL : Fld := ⟨0x07000C, 2, 1⟩
def Fld.WDG_H_STAT_F : Fld := ⟨0x07000C, 4, 4⟩
def Fld.WDG_H_STAT_COUNT : Fld := ⟨0x07000C, 16, 16⟩
def Reg.WDG_K_STAT (i : Nat) : Nat := 0x070010 + 4 * i
def Fld.WDG_K_STAT_EN (i : Nat) : Fld := ⟨0x070010 + 4 * i, 0, 1⟩
def Fld.WDG_K_STAT_OPEN (i : Nat) : Fld := ⟨0x070010 + 4 * i, 1, 1⟩
def Fld.WDG_K_STAT_CLKSEL (i : Nat) : Fld := ⟨0x070010 + 4 * i, 2, 1⟩
def Fld.WDG_K_STAT_F (i : Nat) : Fld := ⟨0x070010 + 4 * i, 4, 4⟩
def Fld.WDG_K_STAT_PERIOD (i : Nat) : Fld := ⟨0x070010 + 4 * i, 16, 16⟩
def Reg.INTC_BCFG : Nat := 0x040100
def Reg.INTC_COAL_H (i : Nat) : Nat := 0x040110 + 4 * i
def Fld.INTC_COAL_H_COUNT (i : Nat) : Fld := ⟨0x040110 + 4 * i, 0, 8⟩
def Reg.INTC_NEXT_H (i : Nat) : Nat := 0x040118 + 4 * i
def Reg.INTC_IRQ_STAT : Nat := 0x040120
def Fld.THM_STAT_REQ : Fld := ⟨0x0A0000, 0, 4⟩
def Fld.THM_STAT_ENF : Fld := ⟨0x0A0000, 4, 4⟩
def Fld.THM_STAT_SDZ : Fld := ⟨0x0A0000, 8, 4⟩
def Fld.THM_STAT_DREQ : Fld := ⟨0x0A0000, 12, 1⟩
def Fld.THM_STAT_DENF : Fld := ⟨0x0A0000, 13, 1⟩
def Fld.THM_STAT_SUSPECT : Fld := ⟨0x0A0000, 16, 16⟩
def Fld.THM_DIECFG_TDTHR : Fld := ⟨0x0A0004, 0, 12⟩
def Fld.THM_DIECFG_DIEPCT : Fld := ⟨0x0A0004, 16, 10⟩
def Fld.THM_DIE_T0 (i : Nat) : Fld := ⟨0x0A0008 + 4 * i, 0, 16⟩
def Fld.THM_DIE_T1 (i : Nat) : Fld := ⟨0x0A0008 + 4 * i, 16, 16⟩
def Fld.THM_XCHK_XDEV : Fld := ⟨0x0A0010, 0, 8⟩
def Fld.THM_XCHK_XCNT : Fld := ⟨0x0A0010, 8, 8⟩
def Reg.NVC_CTL : Nat := 0x090000
def Fld.NVC_CTL_OP : Fld := ⟨0x090000, 1, 2⟩
def Fld.NVC_ARG_OFS : Fld := ⟨0x090004, 0, 21⟩
def Fld.NVC_ARG_BANK : Fld := ⟨0x090004, 31, 1⟩
def Reg.NVC_LEN : Nat := 0x090008
def Fld.NVC_STAT_BUSY : Fld := ⟨0x09000C, 0, 1⟩
def Fld.NVC_STAT_RESULT : Fld := ⟨0x09000C, 4, 4⟩
def Reg.NVC_BANK : Nat := 0x090010
def Fld.NVC_BANK_RES_A : Fld := ⟨0x090010, 0, 4⟩
def Fld.NVC_BANK_RES_B : Fld := ⟨0x090010, 4, 4⟩
def Fld.NVC_BANK_VALID_A : Fld := ⟨0x090010, 8, 1⟩
def Fld.NVC_BANK_VALID_B : Fld := ⟨0x090010, 9, 1⟩
def Fld.NVC_ERR_CE : Fld := ⟨0x090014, 0, 8⟩
def Fld.NVC_ERR_UE : Fld := ⟨0x090014, 8, 8⟩
def Fld.NVC_ERR_REFUSED : Fld := ⟨0x090014, 16, 8⟩
def Fld.OTP_STAT_FACT_ALM : Fld := ⟨0x080000, 0, 1⟩
def Fld.OTP_STAT_KEY_ALM : Fld := ⟨0x080000, 1, 1⟩
def Fld.OTP_STAT_RDERR : Fld := ⟨0x080000, 2, 1⟩
def Fld.OTP_STAT_VPPOK : Fld := ⟨0x080000, 3, 1⟩
def Fld.OTP_STAT_VPPERR : Fld := ⟨0x080000, 4, 1⟩
def Fld.OTP_STAT_BUSY : Fld := ⟨0x080000, 5, 1⟩
def Fld.OTP_STAT_RESULT : Fld := ⟨0x080000, 8, 4⟩
def Reg.OTP_PCTL : Nat := 0x080004
def Fld.OTP_PADDR_WORD : Fld := ⟨0x080008, 0, 10⟩
def Reg.OTP_PDATA : Nat := 0x08000C
def Reg.MTR_SET_QIN_LO (i : Nat) : Nat := 0x100400 + 64 * i
def Reg.MTR_SET_SQIN_LO (i : Nat) : Nat := 0x100420 + 64 * i
def Reg.MTR_SET_QIN_HI (i : Nat) : Nat := 0x100404 + 64 * i
def Reg.MTR_SET_QOUT_LO (i : Nat) : Nat := 0x100408 + 64 * i
def Reg.MTR_SET_QOUT_HI (i : Nat) : Nat := 0x10040C + 64 * i
def Reg.MTR_SET_EIN_LO (i : Nat) : Nat := 0x100410 + 64 * i
def Reg.MTR_SET_EIN_HI (i : Nat) : Nat := 0x100414 + 64 * i
def Reg.MTR_SET_EOUT_LO (i : Nat) : Nat := 0x100418 + 64 * i
def Reg.MTR_SET_EOUT_HI (i : Nat) : Nat := 0x10041C + 64 * i
def Reg.LDG_LC_EIN_LO (i : Nat) : Nat := 0x110108 + 64 * i
def Reg.LDG_S_EIN_LO (i : Nat) : Nat := 0x110600 + 32 * i
def Reg.ORD_S_EADM (i : Nat) : Nat := 0x120200 + 16 * i
def Reg.ORD_S_RADM (i : Nat) : Nat := 0x120204 + 16 * i
def Reg.ORD_S_DRAWMIN (i : Nat) : Nat := 0x120208 + 16 * i
def Reg.ORD_S_DRAW (i : Nat) : Nat := 0x12020C + 16 * i
def Reg.CNV_PH_ON (i : Nat) : Nat := 0x140800 + 16 * i
def Reg.CNV_PH_OFS (i : Nat) : Nat := 0x140804 + 16 * i
def Reg.CNV_PH_TRIM (i : Nat) : Nat := 0x140808 + 16 * i
def Reg.CNV_PH_ISNS (i : Nat) : Nat := 0x14080C + 16 * i
def Reg.CNV_RT_TMIN (i : Nat) : Nat := 0x140C00 + 32 * i
def Fld.CNV_RT_TMIN_TMIN (i : Nat) : Fld := ⟨0x140C00 + 32 * i, 0, 12⟩
def Fld.CNV_RT_TNOM_TNOM (i : Nat) : Fld := ⟨0x140C04 + 32 * i, 0, 12⟩
def Fld.CNV_RT_TMAX_TMAX (i : Nat) : Fld := ⟨0x140C08 + 32 * i, 0, 12⟩
def Fld.CNV_RT_IMSCALE_IMSCALE (i : Nat) : Fld := ⟨0x140C0C + 32 * i, 0, 32⟩
def Fld.CNV_RT_TRIM_TRIM (i : Nat) : Fld := ⟨0x140C10 + 32 * i, 0, 32⟩
def Reg.CNV_RT_IMON (i : Nat) : Nat := 0x140C14 + 32 * i
def Fld.CNV_RT_FLAG_IMERR (i : Nat) : Fld := ⟨0x140C18 + 32 * i, 0, 1⟩
def Reg.CHG_S_LIM (i : Nat) : Nat := 0x180100 + 32 * i
def Fld.CHG_S_LIM_ICC (i : Nat) : Fld := ⟨0x180100 + 32 * i, 0, 16⟩
def Fld.CHG_S_LIM_ITERM (i : Nat) : Fld := ⟨0x180100 + 32 * i, 16, 16⟩
def Fld.CHG_S_VLIM_VCV (i : Nat) : Fld := ⟨0x180104 + 32 * i, 0, 16⟩
def Fld.CHG_S_VLIM_VCELL (i : Nat) : Fld := ⟨0x180104 + 32 * i, 16, 16⟩
def Reg.CHG_S_CTL (i : Nat) : Nat := 0x180108 + 32 * i
def Fld.CHG_S_STAT_PHASE (i : Nat) : Fld := ⟨0x18010C + 32 * i, 0, 2⟩
def Fld.CHG_S_STAT_CPEND (i : Nat) : Fld := ⟨0x18010C + 32 * i, 2, 1⟩
def Fld.CHG_S_STAT_CERR (i : Nat) : Fld := ⟨0x18010C + 32 * i, 3, 1⟩
def Fld.CHG_S_STAT_ERRCODE (i : Nat) : Fld := ⟨0x18010C + 32 * i, 4, 4⟩
def Fld.CHG_S_STAT_VCVEFF (i : Nat) : Fld := ⟨0x18010C + 32 * i, 16, 16⟩
def Fld.CHG_S_TIMER_ELAPSED (i : Nat) : Fld := ⟨0x180110 + 32 * i, 0, 16⟩
def Fld.CHG_S_TIMER_HALF (i : Nat) : Fld := ⟨0x180110 + 32 * i, 16, 1⟩
def Fld.CHG_S_ICMD_ISET (i : Nat) : Fld := ⟨0x180114 + 32 * i, 0, 16⟩
def Fld.CHG_S_ICMD_ICMD (i : Nat) : Fld := ⟨0x180114 + 32 * i, 16, 16⟩
def Reg.CHG_CG_MPPT (i : Nat) : Nat := 0x180400 + 32 * i
def Fld.CHG_CG_MPPT_STEP (i : Nat) : Fld := ⟨0x180400 + 32 * i, 0, 8⟩
def Fld.CHG_CG_MPPT_TSTEP (i : Nat) : Fld := ⟨0x180400 + 32 * i, 8, 8⟩
def Fld.CHG_CG_MPPT_SCANIVL (i : Nat) : Fld := ⟨0x180400 + 32 * i, 16, 8⟩
def Fld.CHG_CG_MPPT_SCANT (i : Nat) : Fld := ⟨0x180400 + 32 * i, 24, 8⟩
def Fld.CHG_CG_VWIN_VMIN (i : Nat) : Fld := ⟨0x180404 + 32 * i, 0, 16⟩
def Fld.CHG_CG_VWIN_VSTART (i : Nat) : Fld := ⟨0x180404 + 32 * i, 16, 16⟩
def Fld.CHG_CG_STAT_STATE (i : Nat) : Fld := ⟨0x180408 + 32 * i, 0, 3⟩
def Fld.CHG_CG_STAT_VREF (i : Nat) : Fld := ⟨0x180408 + 32 * i, 16, 16⟩
def Fld.CHG_CG_VOC_VOC (i : Nat) : Fld := ⟨0x18040C + 32 * i, 0, 16⟩
def Fld.CHG_CG_VOC_LASTMPP (i : Nat) : Fld := ⟨0x18040C + 32 * i, 16, 16⟩
def Reg.EST_S_EEST (i : Nat) : Nat := 0x190100 + 32 * i
def Reg.EST_S_REST (i : Nat) : Nat := 0x190104 + 32 * i
def Reg.EST_S_SIGE (i : Nat) : Nat := 0x190108 + 32 * i
def Reg.EST_S_SIGR (i : Nat) : Nat := 0x19010C + 32 * i
def Fld.EST_S_ILIM_IDIS (i : Nat) : Fld := ⟨0x190110 + 32 * i, 0, 16⟩
def Fld.EST_S_ILIM_ICHG (i : Nat) : Fld := ⟨0x190110 + 32 * i, 16, 16⟩
def Fld.EST_S_PLIM_PDIS (i : Nat) : Fld := ⟨0x190114 + 32 * i, 0, 16⟩
def Fld.EST_S_PLIM_PCHG (i : Nat) : Fld := ⟨0x190114 + 32 * i, 16, 16⟩
def Fld.EST_S_SOC_SOC (i : Nat) : Fld := ⟨0x190118 + 32 * i, 0, 16⟩
def Fld.EST_S_SOC_SPREAD (i : Nat) : Fld := ⟨0x190118 + 32 * i, 16, 16⟩
def Fld.EST_S_STAT_STALE (i : Nat) : Fld := ⟨0x19011C + 32 * i, 0, 1⟩
def Fld.EST_S_STAT_ATREST (i : Nat) : Fld := ⟨0x19011C + 32 * i, 1, 1⟩
def Fld.EST_S_STAT_RESTMIN (i : Nat) : Fld := ⟨0x19011C + 32 * i, 16, 16⟩
def Reg.EST_M_SOC (i : Nat) : Nat := 0x191000 + 32 * i
def Fld.EST_M_SOC_REP (i : Nat) : Fld := ⟨0x191000 + 32 * i, 0, 16⟩
def Fld.EST_M_SOC_SOC (i : Nat) : Fld := ⟨0x191000 + 32 * i, 16, 16⟩
def Fld.EST_M_SIG_SIGS (i : Nat) : Fld := ⟨0x191004 + 32 * i, 0, 16⟩
def Fld.EST_M_SIG_SIGC (i : Nat) : Fld := ⟨0x191004 + 32 * i, 16, 16⟩
def Reg.EST_M_LCAP (i : Nat) : Nat := 0x191008 + 32 * i
def Fld.EST_M_LCAP_CAP (i : Nat) : Fld := ⟨0x191008 + 32 * i, 0, 24⟩
def Fld.EST_M_LCAP_SIGC (i : Nat) : Fld := ⟨0x191008 + 32 * i, 24, 8⟩
def Fld.EST_M_CELL_LOW (i : Nat) : Fld := ⟨0x19100C + 32 * i, 0, 16⟩
def Fld.EST_M_CELL_HIGH (i : Nat) : Fld := ⟨0x19100C + 32 * i, 16, 16⟩
def Fld.EST_M_TEMP_TEMP (i : Nat) : Fld := ⟨0x191010 + 32 * i, 0, 16⟩
def Fld.EST_M_TEMP_SPREAD (i : Nat) : Fld := ⟨0x191010 + 32 * i, 16, 16⟩
def Reg.EST_M_SERIAL (i : Nat) : Nat := 0x191014 + 32 * i
def Reg.EST_M_HLTH (i : Nat) : Nat := 0x191018 + 32 * i
def Fld.EST_M_HLTH_SOH (i : Nat) : Fld := ⟨0x191018 + 32 * i, 0, 12⟩
def Fld.EST_M_HLTH_RCELL (i : Nat) : Fld := ⟨0x191018 + 32 * i, 16, 16⟩
def Reg.EST_M_FLAG (i : Nat) : Nat := 0x19101C + 32 * i
def Fld.EST_M_FLAG_STALE (i : Nat) : Fld := ⟨0x19101C + 32 * i, 0, 1⟩
def Fld.EST_M_FLAG_REJ (i : Nat) : Fld := ⟨0x19101C + 32 * i, 16, 8⟩
def Reg.EFU_CH_EN (i : Nat) : Nat := 0x170100 + 64 * i
def Fld.EFU_CH_EN_EN (i : Nat) : Fld := ⟨0x170100 + 64 * i, 0, 1⟩
def Fld.EFU_CH_RSNS_RSNS (i : Nat) : Fld := ⟨0x170104 + 64 * i, 0, 16⟩
def Reg.EFU_CH_LIM (i : Nat) : Nat := 0x170108 + 64 * i
def Fld.EFU_CH_LIM_ILIM (i : Nat) : Fld := ⟨0x170108 + 64 * i, 0, 16⟩
def Fld.EFU_CH_LIM_FT (i : Nat) : Fld := ⟨0x170108 + 64 * i, 16, 16⟩
def Reg.EFU_CH_SOA (i : Nat) : Nat := 0x17010C + 64 * i
def Fld.EFU_CH_SOA_SOA (i : Nat) : Fld := ⟨0x17010C + 64 * i, 0, 32⟩
def Fld.EFU_CH_PWR_PLEAK (i : Nat) : Fld := ⟨0x170110 + 64 * i, 0, 16⟩
def Fld.EFU_CH_VWIN_UVIN (i : Nat) : Fld := ⟨0x170114 + 64 * i, 0, 16⟩
def Fld.EFU_CH_VWIN_OVIN (i : Nat) : Fld := ⟨0x170114 + 64 * i, 16, 16⟩
def Fld.EFU_CH_CAP_CAP (i : Nat) : Fld := ⟨0x170118 + 64 * i, 0, 16⟩
def Fld.EFU_CH_STAT_STATE (i : Nat) : Fld := ⟨0x17011C + 64 * i, 0, 3⟩
def Fld.EFU_CH_STAT_I (i : Nat) : Fld := ⟨0x17011C + 64 * i, 16, 16⟩
def Fld.EFU_CH_VMON_VI (i : Nat) : Fld := ⟨0x170120 + 64 * i, 0, 16⟩
def Fld.EFU_CH_VMON_VO (i : Nat) : Fld := ⟨0x170120 + 64 * i, 16, 16⟩
def Reg.EFU_CH_SOAX (i : Nat) : Nat := 0x170124 + 64 * i
def Fld.EFU_CH_FLAG_CAUSE (i : Nat) : Fld := ⟨0x170128 + 64 * i, 0, 2⟩
def Fld.EFU_CH_FLAG_GOFF (i : Nat) : Fld := ⟨0x170128 + 64 * i, 2, 1⟩
def Reg.EFU_F_CFG (i : Nat) : Nat := 0x170400 + 32 * i
def Fld.EFU_F_CFG_RETQ (f : Nat) : Fld := ⟨Reg.EFU_F_CFG f, 0, 16⟩
def Fld.EFU_F_CFG_QUAL (i : Nat) : Fld := ⟨0x170400 + 32 * i, 16, 8⟩
def Reg.EFU_F_MEMB (i : Nat) : Nat := 0x170404 + 32 * i
def Reg.EFU_F_DEAD (i : Nat) : Nat := 0x170408 + 32 * i
def Fld.EFU_F_STAT_SEL (i : Nat) : Fld := ⟨0x17040C + 32 * i, 0, 2⟩
def Fld.EFU_F_STAT_LOST (i : Nat) : Fld := ⟨0x17040C + 32 * i, 2, 1⟩
def Fld.EFU_F_STAT_CHG (i : Nat) : Fld := ⟨0x17040C + 32 * i, 3, 1⟩
def Fld.EFU_F_STAT_COUNT (i : Nat) : Fld := ⟨0x17040C + 32 * i, 16, 16⟩
def Fld.EFU_F_FLAG_FEEDLOST (i : Nat) : Fld := ⟨0x170410 + 32 * i, 0, 1⟩
def Fld.EFU_F_FLAG_GOFF (i : Nat) : Fld := ⟨0x170410 + 32 * i, 1, 1⟩
def Reg.EFU_S_KCTL (i : Nat) : Nat := 0x170600 + 16 * i
def Fld.EFU_S_KCTL_REQ (i : Nat) : Fld := ⟨0x170600 + 16 * i, 0, 1⟩
def Fld.EFU_S_KSTAT_STATE (i : Nat) : Fld := ⟨0x170608 + 16 * i, 0, 3⟩
def Fld.EFU_S_KSTAT_KF (i : Nat) : Fld := ⟨0x170608 + 16 * i, 3, 1⟩
def Fld.EFU_S_KSTAT_KM (i : Nat) : Fld := ⟨0x170608 + 16 * i, 4, 1⟩
def Fld.EFU_S_KSTAT_KP (i : Nat) : Fld := ⟨0x170608 + 16 * i, 5, 1⟩
def Reg.EFU_S_KFLAG (i : Nat) : Nat := 0x17060C + 16 * i
def Reg.RGL_R_SET (i : Nat) : Nat := 0x150100 + 16 * i
def Fld.RGL_R_SET_SET (i : Nat) : Fld := ⟨0x150100 + 16 * i, 0, 16⟩
def Reg.RGL_R_STAT (i : Nat) : Nat := 0x150108 + 16 * i
def Fld.RGL_R_STAT_ON (i : Nat) : Fld := ⟨0x150108 + 16 * i, 0, 1⟩
def Fld.RGL_R_STAT_SOFT (i : Nat) : Fld := ⟨0x150108 + 16 * i, 1, 1⟩
def Fld.RGL_R_STAT_ILIM (i : Nat) : Fld := ⟨0x150108 + 16 * i, 2, 1⟩
def Fld.RGL_R_FLAG_OC (i : Nat) : Fld := ⟨0x15010C + 16 * i, 0, 1⟩
def Reg.SEQ_UP_STEP (i : Nat) : Nat := 0x160100 + 16 * i
def Fld.SEQ_UP_STEP_TARGET (i : Nat) : Fld := ⟨0x160100 + 16 * i, 0, 8⟩
def Fld.SEQ_UP_STEP_CHECK (i : Nat) : Fld := ⟨0x160100 + 16 * i, 8, 8⟩
def Reg.SEQ_UP_TIME (i : Nat) : Nat := 0x160104 + 16 * i
def Reg.SEQ_DN_STEP (i : Nat) : Nat := 0x160400 + 16 * i
def Fld.SEQ_DN_STEP_TARGET (i : Nat) : Fld := ⟨0x160400 + 16 * i, 0, 8⟩
def Fld.SEQ_DN_STEP_CHECK (i : Nat) : Fld := ⟨0x160400 + 16 * i, 8, 8⟩
def Reg.SEQ_DN_TIME (i : Nat) : Nat := 0x160404 + 16 * i
def Fld.SEQ_DN_THR_THR (i : Nat) : Fld := ⟨0x160408 + 16 * i, 0, 16⟩
def Reg.SEQ_R_UV (i : Nat) : Nat := 0x160800 + 32 * i
def Fld.SEQ_R_UV_FAULT (i : Nat) : Fld := ⟨0x160800 + 32 * i, 0, 16⟩
def Fld.SEQ_R_UV_WARN (i : Nat) : Fld := ⟨0x160800 + 32 * i, 16, 16⟩
def Reg.SEQ_R_OV (i : Nat) : Nat := 0x160804 + 32 * i
def Fld.SEQ_R_OV_WARN (i : Nat) : Fld := ⟨0x160804 + 32 * i, 0, 16⟩
def Fld.SEQ_R_OV_FAULT (i : Nat) : Fld := ⟨0x160804 + 32 * i, 16, 16⟩
def Fld.SEQ_R_ACT_ACT (i : Nat) : Fld := ⟨0x160808 + 32 * i, 0, 2⟩
def Fld.SEQ_R_ACT_RSTSEL (i : Nat) : Fld := ⟨0x160808 + 32 * i, 2, 2⟩
def Reg.SEQ_R_STAT (i : Nat) : Nat := 0x16080C + 32 * i
def Fld.SEQ_R_STAT_UVF (i : Nat) : Fld := ⟨0x16080C + 32 * i, 1, 1⟩
def Fld.SEQ_R_STAT_OVF (i : Nat) : Fld := ⟨0x16080C + 32 * i, 3, 1⟩
def Fld.SEQ_R_STAT_PG (i : Nat) : Fld := ⟨0x16080C + 32 * i, 4, 1⟩
def Fld.SEQ_R_STAT_EXP (i : Nat) : Fld := ⟨0x16080C + 32 * i, 5, 1⟩
def Fld.SEQ_R_STAT_MV (i : Nat) : Fld := ⟨0x16080C + 32 * i, 16, 16⟩
def Reg.SEQ_R_FLAG (i : Nat) : Nat := 0x160810 + 32 * i
def Fld.SEQ_R_FLAG_DTMO (i : Nat) : Fld := ⟨0x160810 + 32 * i, 4, 1⟩
def Fld.SEQ_RSTO_CFG_STRETCH (i : Nat) : Fld := ⟨0x160C00 + 16 * i, 0, 10⟩
def Fld.RGL_R_CFG_SST (i : Nat) : Fld := ⟨0x150104 + 16 * i, 0, 8⟩
def Fld.RGL_R_CFG_DISCH (i : Nat) : Fld := ⟨0x150104 + 16 * i, 8, 1⟩
def Fld.SEQ_UP_TIME_TIMEOUT (i : Nat) : Fld := ⟨0x160104 + 16 * i, 0, 16⟩
def Fld.SEQ_UP_TIME_DELAY (i : Nat) : Fld := ⟨0x160104 + 16 * i, 16, 16⟩
def Fld.SEQ_DN_TIME_TIMEOUT (i : Nat) : Fld := ⟨0x160404 + 16 * i, 0, 16⟩
def Fld.SEQ_DN_TIME_DELAY (i : Nat) : Fld := ⟨0x160404 + 16 * i, 16, 16⟩
def Fld.SEQ_RSTO_CFG_HOLD (i : Nat) : Fld := ⟨0x160C00 + 16 * i, 16, 1⟩
def Fld.SEQ_RSTO_STAT_ASSERTED (i : Nat) : Fld := ⟨0x160C04 + 16 * i, 0, 1⟩
def Fld.SEQ_RSTO_STAT_STRETCHING (i : Nat) : Fld := ⟨0x160C04 + 16 * i, 1, 1⟩
def Fld.TMR_TM_CFG_SRC (i : Nat) : Fld := ⟨0x050100 + 64 * i, 0, 2⟩
def Fld.TMR_TM_CFG_PRE (i : Nat) : Fld := ⟨0x050100 + 64 * i, 2, 4⟩
def Fld.TMR_TM_CFG_ONESHOT (i : Nat) : Fld := ⟨0x050100 + 64 * i, 6, 1⟩
def Fld.TMR_TM_CFG_SLV (i : Nat) : Fld := ⟨0x050100 + 64 * i, 8, 2⟩
def Fld.TMR_TM_CFG_MSEL (i : Nat) : Fld := ⟨0x050100 + 64 * i, 10, 4⟩
def Fld.TMR_TM_CFG_SLEEP (i : Nat) : Fld := ⟨0x050100 + 64 * i, 14, 1⟩
def Reg.TMR_TM_PERIOD (i : Nat) : Nat := 0x050104 + 64 * i
def Reg.TMR_TM_CMP0 (i : Nat) : Nat := 0x050108 + 64 * i
def Reg.TMR_TM_CMP1 (i : Nat) : Nat := 0x05010C + 64 * i
def Reg.TMR_TM_CNT (i : Nat) : Nat := 0x050110 + 64 * i
def Reg.TMR_TM_CAP (i : Nat) : Nat := 0x050114 + 64 * i
def Fld.TMR_TM_IO_FUNC (i : Nat) : Fld := ⟨0x050118 + 64 * i, 0, 2⟩
def Fld.TMR_TM_IO_INV (i : Nat) : Fld := ⟨0x050118 + 64 * i, 4, 1⟩
def Reg.TMR_TM_FLAG (i : Nat) : Nat := 0x05011C + 64 * i
def Fld.TMR_TM_FLAG_LAP (i : Nat) : Fld := ⟨0x05011C + 64 * i, 0, 1⟩
def Fld.TMR_TM_FLAG_CMP0 (i : Nat) : Fld := ⟨0x05011C + 64 * i, 1, 1⟩
def Fld.TMR_TM_FLAG_CMP1 (i : Nat) : Fld := ⟨0x05011C + 64 * i, 2, 1⟩
def Fld.TMR_TM_FLAG_CAP (i : Nat) : Fld := ⟨0x05011C + 64 * i, 3, 1⟩
def Fld.TMR_TM_FLAG_OVR (i : Nat) : Fld := ⟨0x05011C + 64 * i, 4, 1⟩
def Reg.INTC_MASK_SET (i : Nat) : Nat := 0x040000 + 4 * i
def Reg.INTC_MASK_CLR (i : Nat) : Nat := 0x040020 + 4 * i
def Reg.INTC_PEND_SET (i : Nat) : Nat := 0x040040 + 4 * i
def Reg.INTC_PEND_CLR (i : Nat) : Nat := 0x040060 + 4 * i
def Reg.INTC_ROUTE (i : Nat) : Nat := 0x040080 + 4 * i
def Reg.INTC_WAKE (i : Nat) : Nat := 0x0400A0 + 4 * i
def Reg.INTC_URG (i : Nat) : Nat := 0x0400C0 + 4 * i
def Reg.THM_TS_CFG (i : Nat) : Nat := 0x0A0100 + 32 * i
def Fld.THM_TS_CFG_TYPE (i : Nat) : Fld := ⟨0x0A0100 + 32 * i, 0, 2⟩
def Fld.THM_TS_CFG_GROUP (i : Nat) : Fld := ⟨0x0A0100 + 32 * i, 2, 3⟩
def Fld.THM_TS_SD_SD (i : Nat) : Fld := ⟨0x0A0108 + 32 * i, 0, 12⟩
def Fld.THM_TS_TEMP_TEMP (i : Nat) : Fld := ⟨0x0A010C + 32 * i, 0, 16⟩
def Reg.THM_TS_FLAG (i : Nat) : Nat := 0x0A0110 + 32 * i
def Fld.THM_TS_FLAG_OPEN (i : Nat) : Fld := ⟨0x0A0110 + 32 * i, 0, 1⟩
def Fld.THM_TS_FLAG_SHORT (i : Nat) : Fld := ⟨0x0A0110 + 32 * i, 1, 1⟩
def Fld.THM_TS_FLAG_SUSPECT (i : Nat) : Fld := ⟨0x0A0110 + 32 * i, 2, 1⟩
def Fld.THM_TS_FLAG_DISAGREE (i : Nat) : Fld := ⟨0x0A0110 + 32 * i, 3, 1⟩
def Fld.THM_TS_FLAG_STALE (i : Nat) : Fld := ⟨0x0A0110 + 32 * i, 4, 1⟩
def Reg.THM_Z_THR (i : Nat) : Nat := 0x0A0400 + 64 * i
def Fld.THM_Z_THR_THR (i : Nat) : Fld := ⟨0x0A0400 + 64 * i, 0, 12⟩
def Fld.THM_Z_THR_ENFPCT (i : Nat) : Fld := ⟨0x0A0400 + 64 * i, 24, 8⟩
def Reg.THM_Z_CTL (i : Nat) : Nat := 0x0A0404 + 64 * i
def Fld.THM_Z_STAT_TEMP (i : Nat) : Fld := ⟨0x0A0408 + 64 * i, 0, 16⟩
def Fld.THM_Z_STAT_NOSENSE (i : Nat) : Fld := ⟨0x0A0408 + 64 * i, 16, 1⟩
def Fld.THM_Z_STAT_CPEND (i : Nat) : Fld := ⟨0x0A0408 + 64 * i, 17, 1⟩
def Fld.THM_Z_STAT_CERR (i : Nat) : Fld := ⟨0x0A0408 + 64 * i, 18, 1⟩
def Fld.THM_Z_STAT_FRAC (i : Nat) : Fld := ⟨0x0A0408 + 64 * i, 20, 10⟩
def Fld.THM_Z_PT0_T (i : Nat) : Fld := ⟨0x0A0410 + 64 * i, 0, 16⟩

end Sys2Proof.Machine
end

