-- ==== Sys2Proof/Config.lean ====
section
/-!
DEFINITION. What an implementation fixes and the values the spec leaves open: opaque constants, of which no statement
can know more than their type.
-/
namespace Sys2Proof.Config

/-- A fresh open value per use (DESIGN CHOICE, log entry 1): applied to the counter `State.free`. -/
opaque freeValue : Nat → Nat

/-- R555: the firmware image and bank record that MRAM holds as shipped (DESIGN CHOICE, log entry 5). -/
opaque shippedByte : Nat → Byte

/-- The bytes of firmware bank A and of its bank record (R104, R518, R555). -/
def shippedArea (a : Nat) : Bool := decide (a < 0x140000 ∨ (0x740000 ≤ a ∧ a < 0x740030))

/-- R97: the reference CRC-32 of the configuration store of an image, whose layout is internal (DESIGN CHOICE, log entry 8). -/
opaque refCrc : List Byte → Word

/-- R218: the power of an order on a string, W, where its metered energy has left its plan: a function of the planned
power, of the energy still owed (0.1 Wh) and of the seconds the plan still has (DESIGN CHOICE, log entry 16). -/
opaque corrected : Rat → Rat → Rat → Rat

/-- A quotient by zero where the spec's formula states no result (DESIGN CHOICE, log entry 18). -/
opaque divZero : Rat → Rat

/-- R311: the setpoint of a type 1 group, W, that holds a string in CV at VCV_eff: a function of the setpoint before, of
the string voltage and of VCV_eff, V (DESIGN CHOICE, log entry 19). -/
opaque cvPower : Rat → Rat → Rat → Rat

end Sys2Proof.Config
end

