-- ==== Sys2Proof/Machine/State.lean ====
section
/-!
DEFINITION. The state of the block, as plain data.  Every register word the host can read lives in `regs`; the other
fields hold what the spec gives the device beside its registers.
-/
namespace Sys2Proof.Machine

/-- Sparse data by key, kept in one canonical form (Machine/Ops.lean). -/
abbrev KV (α : Type) := List (Nat × α)

/-- Why a command stops the machine. No rule of the spec stops this block, so no meaning raises one. -/
inductive Fault where
  /-- Raised by no meaning; it stands so that the type has an inhabitant (safe). -/
  | unused
  deriving DecidableEq, Repr

/-- Why a command has no meaning. -/
inductive Refusal where
  /-- A row of the table whose arm has no meaning yet (safe: nothing can be proved of it). -/
  | notModelled (mnemonic : String)
  deriving DecidableEq, Repr

/-- One host interrupt target (R490): its signal count and whether its ball is asserted. -/
structure IrqTarget where
  n : Nat
  ball : Bool
  deriving DecidableEq, Repr

/-- The event controller beside its registers (chapter 15). -/
structure Irq where
  /-- Edge sources pending, bit ev; software sets too (R485, R488). -/
  latch : Nat
  /-- Level sources whose condition held at the last sample. -/
  level : Nat
  /-- The filtered levels of EVIN0 to EVIN7 (R486), and the levels that the event logic saw last. -/
  evinLevel : Nat
  evinSeen : Nat
  /-- The sources signalled at H0 and at H1 when the targets were last evaluated. -/
  sig0 : Nat
  sig1 : Nat
  t0 : IrqTarget
  t1 : IrqTarget
  /-- A WATCH wake condition of R492 has arisen. -/
  wake : Bool
  deriving DecidableEq, Repr

/-- What one host port last returned, and a fetch under R110. -/
structure PortState where
  data : List Word
  status : Nat
  check : Nat
  /-- Start address and word count of a read that missed its bound, and its status and the words fetched with OK once
  the fetch has completed. -/
  fetch : Option (Nat × Nat × Option (Nat × List Word))
  /-- The bytes that the device has sent in the last transaction (R117, R123), and the bytes of it that TW0 acknowledged
  (R119). -/
  sent : List Byte
  acks : Nat
  deriving DecidableEq, Repr

/-- The comb image in force: header values and the bytes of each section by type (R70 to R86). -/
structure Image where
  serial : Nat
  verMinor : Nat
  verMajor : Nat
  tiles : Nat
  secs : List (Nat × List Byte)
  deriving DecidableEq, Repr

/-- Tile state that no window shows: CMP e[k−1], e[k−2], u[k−2]; WIN direction and pending CLR. -/
structure TileHid where
  e1 : Int
  e2 : Int
  u2 : Int
  dir : Nat
  clr : Bool
  deriving DecidableEq, Repr

/-- A removal on its way to the order engine (R21). -/
inductive Removal where
  | string (n : Nat)
  | group (g : Nat)
  /-- The AC-draw resource at a reduced value, W (R298), or gone at a confirmation (R252). -/
  | acDraw (watts : Nat)
  /-- Charge power below plan (R314), or 0 at the expiry of the safety timer (R317). -/
  | charge (n : Nat) (watts : Nat)
  /-- A FULL string, for orders other than CHARGE_PV (R313). -/
  | full (n : Nat)
  /-- A thermal derating of a zone below its committed power (R501). -/
  | zone (h : Nat)
  /-- An e-fuse channel that has tripped (R21, R368). No order's plan rests on a single channel. -/
  | channel (c : Nat)
  deriving DecidableEq, Repr

/-- A propolis event entry that waits to be written, stamped at its cause (R441, R442). -/
structure EvEntry where
  code : Nat
  merged : Bool
  arg0 : Nat
  arg1 : Nat
  sec : Nat
  ticks : Nat
  ttrust : Bool
  deriving DecidableEq, Repr

/-- A waveform capture in progress (R443, R444). -/
structure Capture where
  slot : Nat
  trig : Nat
  trigCnt : Nat
  sec : Nat
  ticks : Nat
  ttrust : Bool
  epoch : Nat
  cls : Nat
  arg : Nat
  /-- Frame count of the ring at the trigger, and at an early end (R446). -/
  fcnt : Nat
  ended : Option Nat
  deriving DecidableEq, Repr

/-- The propolis log beside its registers and the ring. -/
structure Prp where
  /-- Entries not yet written, in the order of their causes. -/
  queue : List EvEntry
  /-- Written entries, as 32 bytes each, that wait for room in the report queue (R441). -/
  deliver : List (List Byte)
  capt : Option Capture
  /-- WIDX and frame count of the ring before the last reset, for the RESET record of R443. -/
  preReset : Option (Nat × Nat)
  /-- The scan of R442 has run since the block started. -/
  scanned : Bool
  /-- The slot after that of the last entry (R441). -/
  evSlot : Nat
  deriving DecidableEq, Repr

/-- One converter group beside its registers (chapter 08). -/
structure Grp where
  /-- 0 off; 1 driver bias (R281 step 1); 2 sense checked; 3 past the period start of step 3. -/
  stage : Nat
  /-- ENV, Q2.30. -/
  env : Nat
  /-- PWM released (R281, R282). -/
  released : Bool
  /-- A stop without ramp at the next period start (R282). -/
  shadowStop : Bool
  /-- The owner has withdrawn the group (R283). -/
  stopping : Bool
  /-- PREF at the start of its ramp to 0, and the fine units of the whole ramp, STOPT at its start, and of the part
  elapsed (R280, R283). -/
  ramp : Option (Int × Nat × Nat)
  /-- By phase number `k` of the group: the fine units by which its pulse of the period before runs into this one
  (R271). -/
  tails : List Nat
  /-- Periods braked so far, and braking withheld until the overshoot ends (R292). -/
  brakeN : Nat
  brakeBlocked : Bool
  /-- Consecutive periods within ±32 fine units; SYNC_IN lost and the next period held (R289, R290). -/
  syncN : Nat
  lost : Bool
  /-- SYNC_IN counts as absent until it is re-acquired (R290). -/
  absent : Bool
  /-- SYNC_IN as the group has seen it up to its last period start, in fine units: since the last edge, none before the
  first; the last interval, 0 before the second edge; the edges since the last that counts for SYNCDIV; and since that one
  (R288, R289). -/
  edgeAge : Option Nat
  ivl : Nat
  divN : Nat
  refAge : Option Nat
  /-- Consecutive periods that the trim of each phase or cell has been at the same limit, and with low current (R286,
  R283). -/
  balN : List Nat
  lowN : Nat
  /-- Consecutive periods in SHADOW with more than 5 % of the rating out of the string (R251). -/
  outN : Nat
  deriving DecidableEq, Repr

/-- A rectifier trim ramp (R295): from, to, its length and the milliseconds done. -/
structure TrimRamp where
  start : Nat
  target : Nat
  total : Nat
  done : Nat
  deriving DecidableEq, Repr

/-- Converter control beside its registers. -/
structure Cnv where
  grp : KV Grp
  /-- The overshoot comparator reports an overshoot (R291). -/
  overshoot : Bool
  /-- Consecutive 10 ms checks with negative and with ample spare capacity (R298). -/
  deficitN : Nat
  ampleN : Nat
  trim : KV (Option TrimRamp)
  /-- Trim codes that sharing works out and the 1 ms steps move towards (R295, R296). -/
  share : KV Nat
  /-- The level driven on SHARE, mV, while SHARE_DRV is set (R297). -/
  shareOut : Nat
  /-- R298: the present limit on the power of the groups that charge from the bus, its final value, and one tenth of
  the way between them, W. -/
  acLim : Option (Rat × Rat × Rat)
  /-- Ports whose IMON reads out of range at present (R294). -/
  imonBad : List Nat
  /-- Ports whose trim is on its way to TNOM, from where sharing starts (R296). -/
  fromNom : List Nat
  deriving DecidableEq, Repr

/-- One e-fuse channel beside its registers (chapter 11). Times in µs. -/
structure Efu where
  /-- The level of the EFc_EN ball function; true while the pin map does not place it (R363). -/
  ball : Bool
  /-- ft and x of R365. -/
  ft : Rat
  x : Rat
  /-- VI within its window: time so far, ticks outside, qualified (R364, R370). -/
  okFor : Rat
  outN : Nat
  vOk : Bool
  /-- Time healthy without a break (R371). -/
  healthFor : Rat
  /-- The gate is verified off, and a rise of the enable that waits for it (R367). -/
  gateOff : Bool
  rise : Bool
  /-- The current's integral, A·µs, and the time, µs, of the millisecond in progress and of the last hundred, newest first;
  their mean, A; and the time since a throttle was requested (R369). -/
  part : Rat × Rat
  parts : List (Rat × Rat)
  mean : Rat
  reqFor : Rat
  deriving DecidableEq, Repr

/-- Feeds, e-fuses and the emergency stop beside their registers. -/
structure Prot where
  efu : KV Efu
  /-- Changeover step of each feed: 0 none, 1 gate discharging, 2 dead time, 3 incoming member starting (R371). -/
  feed : KV Nat
  /-- Modulator clocks that each string has been in its contactor state, and of them without a break with a current below
  PCEND, while it pre-charges (R377). -/
  pre : KV (Nat × Nat)
  deriving DecidableEq, Repr

/-- A stretch of slots in which an order has committed power on a string, W, positive into the string (R207). -/
structure Seg where
  first : Nat
  stop : Nat
  str : Nat
  power : Rat
  deriving DecidableEq, Repr

/-- One energy order the engine has copied (R198, R204). Times on the monotonic count, s. -/
structure Order where
  id : Nat
  ty : Nat
  prio : Nat
  flags : Nat
  smask : Nat
  dmask : Nat
  contract : Nat
  scope : Nat
  racks : Nat
  /-- 0.1 Wh, signed. -/
  energy : Int
  pmax : Nat
  pmin : Nat
  start : Nat
  deadline : Nat
  htag : Nat
  holdId : Nat
  /-- Reserved bytes were 0 (R199). -/
  clean : Bool
  cq : Nat
  /-- PENDING 2, ACCEPTED 3, ACTIVE 4. -/
  state : Nat
  /-- Final state and cause of an order whose flow is ramping down (R221, R225). -/
  ending : Option (Nat × Nat)
  /-- FLAGS of R200 so far. -/
  outFlags : Nat
  plan : List Seg
  /-- Planned energy not yet moved and energy credited, per string, 0.1 Wh, magnitudes and signed credits. -/
  owed : KV Rat
  credit : KV Rat
  /-- A HOLD's reserved energy per string, 0.1 Wh. -/
  reserve : KV Rat
  /-- A part of a swarm order that has met its share and waits for its barrier (R418). -/
  reached : Bool
  /-- Order of acceptance. -/
  seq : Nat
  /-- RTC second at which the state was entered (R200). -/
  since : Nat
  /-- SYS_PROFILE when the decision of a swarm order began (R35). -/
  prof : Nat
  deriving DecidableEq, Repr

/-- A completion record before its EPOCH is stamped (R200). -/
structure CqRec where
  id : Nat
  kind : Nat
  state : Nat
  cause : Nat
  flags : Nat
  /-- An EPOCH record keeps the epoch it announces. -/
  epoch : Option Nat
  time : Nat
  deliv : Int
  rack : Nat
  str : Nat
  npart : Nat
  htag : Nat
  hint : Nat
  deriving DecidableEq, Repr

/-- A part of a swarm order on one rack (R231, R418). -/
structure Part where
  rack : Nat
  /-- Quote: energy 0.1 Wh and power W. -/
  quote : Option (Nat × Nat)
  energy : Int
  pmax : Nat
  pmin : Nat
  /-- 0 asked for a quote, 1 part sent, 2 accepted, 3 refused, 4 reached its target, 5 ended. -/
  st : Nat
  strings : KV Int
  deriving DecidableEq, Repr

/-- A shadow plan (R265): the schedule version it was computed from, the trial copy of the schedule, and the RESILIENT
orders, as id and order of acceptance, that it could not fit. -/
structure ShadowPlan where
  ver : Nat
  trial : List Order
  gap : List (Nat × Nat)
  deriving DecidableEq, Repr

/-- The order engine (chapter 06) beside its registers. -/
structure Ord where
  /-- Epoch stored and engine started (R227). -/
  started : Bool
  /-- Monotonic seconds (R207). -/
  mono : Nat
  /-- The queue of each entry under an accepted doorbell and not yet copied, oldest first (R203). -/
  submitted : List Nat
  orders : List Order
  nextSeq : Nat
  /-- The last 1,024 orders that have ended: id, state, cause, flags, delivered energy. -/
  ended : List (Nat × Nat × Nat × Nat × Int)
  /-- Completion records held back, by completion queue; a FINAL stands with its PART records (R201, R202). -/
  held : List (Nat × List CqRec)
  /-- Cancel accepted and waiting until these entries have been copied (R221). -/
  cancel : Option (Nat × Nat)
  /-- Net energy of each string at the last credit, 0.1 mWh (R219). -/
  lastNet : KV Int
  /-- The parts of a swarm order at the queen, by order id (R231). -/
  parts : KV (List Part)
  /-- K0 owes a re-plan after a removal (R225): the order ids and the strings removed. -/
  replan : Option (List Nat × List Nat)
  /-- Standing draw (R209): the slot in progress, the net energy of each string at its start (0.1 mWh), and per string
  the net outflow of each unplanned slot of the last 24 h, newest first. -/
  slotNo : Nat
  slotNet : KV Int
  drawH : KV (List (Nat × Int))
  /-- The strings on which an order has been planned in the slot in progress (R209). -/
  slotUsed : Nat
  /-- Admission works with class-U and confirmed AC losses: the AC-draw resource is out (R252). -/
  acOut : Bool
  /-- The schedule version (R265, R267). -/
  ver : Nat
  /-- K1's shadow plan of each string (R265). -/
  plans : KV (Option ShadowPlan)
  deriving DecidableEq, Repr

/-- One predictor entry beside its registers (R239, R253): updates the condition has held, updates since it last
held, active, masked, and updates the condition has been clear while masked. -/
structure Pred where
  heldN : Nat
  since : Nat
  active : Bool
  masked : Bool
  clearN : Nat
  deriving DecidableEq, Repr

/-- An input function behind its glitch filter (R532): the level of its ball, how long it has held, µs, and the level that
the function sees. -/
structure Glitch where
  level : Bool
  held : Nat
  seen : Bool
  deriving DecidableEq, Repr

/-- Scout (chapter 07) beside its registers. -/
structure Sct where
  /-- ACMON samples, mV, newest first, one nominal cycle (R234); whether the low-power front end gave them; and the time
  since the last rising zero crossing, in samples. -/
  ac : List Int
  acWatch : Bool
  cross : Option Rat
  /-- RTp_ALM, then RTp_ACF, by 8 × kind + port (R235). -/
  balls : KV Glitch
  /-- SHARE at the last 1,000 updates, mV, newest first (R238). -/
  share : List Nat
  /-- MC16: the sum, mV, and the number of its results since the last update; its 1 ms means of the last second, newest
  first (R238, R244). -/
  busNow : Rat × Nat
  busHist : List Rat
  pred : KV Pred
  /-- Updates since the level left P0 (R253), and the update in WATCH at which it did (R246). -/
  sinceP0 : Nat
  fromWatch : Bool
  /-- Vref, mV (R244), and the offset of the bus setpoint below it, 0.01 % (R244, R260). -/
  vref : Nat
  offs : Nat
  /-- Consecutive strobes with the bus low; whether two in a row have come since the last update, and whether a shadowing
  group has conducted for two periods in a row since then (R251). -/
  busLowN : Nat
  busLow : Bool
  conducts : Bool
  /-- A squash that its trigger asks of the next update: its target and cause (R253, R255). -/
  want : Option (Nat × Nat)
  /-- The standby cost of each update of the last second, W, newest first, and the net energy of each string at the last
  update, 0.1 mWh (R246). -/
  cost : List Rat
  costNet : KV Rat
  /-- Hold-up: brood and free parts of the allowance, energy taken, 0.1 Wh; net energy at the last update, 0.1 mWh. -/
  b0 : KV Rat
  f0 : KV Rat
  taken : KV Rat
  lastNet : KV Int
  /-- Hold-up strings at confirmation, and those that have stopped with the milliseconds of their ramp left (R257). -/
  hold : List Nat
  stopped : KV (Option Nat)
  /-- Milliseconds: since confirmation or restart of the dwell, the dwell in force, of stable AC, of low group current,
  since the hand-back ramp ended (R261 to R264). -/
  dwellN : Nat
  dwell : Nat
  stableN : Nat
  lowN : Nat
  rampN : Nat
  /-- Trim codes held at confirmation (R295). -/
  held : KV Nat
  deriving DecidableEq, Repr

/-- The fault collector beside its registers: error lines driven in this step (R423, R424), a declaration whose actions
wait for READY (R32), and lines of this step that hold no DORMANT entry back (R29). -/
structure Flt where
  lines : List Nat
  waiting : List Nat
  quiet : List Nat
  deriving DecidableEq, Repr

/-- Clocks beside their registers (chapter 14). -/
structure Clk where
  /-- The tiles hold after a PLL loss (R453). -/
  tilesHeld : Bool
  /-- Good check windows in a row (R451). -/
  okN : Nat
  /-- HFXO has failed to start and waits for its restart (R451). -/
  waiting : Bool
  deriving DecidableEq, Repr

/-- Power states beside their registers. -/
structure Pwr where
  /-- A wake condition of the present state has arisen (R27, R30). -/
  wake : Bool
  /-- DORMANT entry (R29, R397): 0 not begun, 1 the learned values are being written, 2 the contactors are opening, 3 the
  power-down sequence runs. -/
  dorm : Nat
  /-- A power-up sequence of the device's own is due: at the image load, or at the wake from DORMANT (R394). -/
  upDue : Bool
  /-- The power-down sequence ran at the last DORMANT entry (R394). -/
  downRan : Bool
  deriving DecidableEq, Repr

/-- Consecutive ticks of one supervised rail beyond, and inside by 1 %, each level in the order UV warning, UV fault,
OV warning, OV fault (R390). -/
structure RailCnt where
  beyond : List Nat
  inside : List Nat
  deriving DecidableEq, Repr

/-- The sequencer beside its registers (R390 to R403). -/
structure Seqr where
  /-- Of the present step: 0 its action is due, 1 it waits for its completion, 2 it waits for DELAY. -/
  stage : Nat
  /-- A sequence is in progress: from a power-up start to the end of the power-down that follows it. -/
  inProgress : Bool
  rail : KV RailCnt
  /-- Consecutive ticks for which the checked rail is above its UV warning level, or below the threshold. -/
  checkN : Nat
  /-- Reset outputs held since the image load, and by a power-down step or its end (R393). -/
  boot : Nat
  down : Nat
  /-- Ticks of VSYS_SNS below SYSUV (R399). -/
  lowN : Nat
  /-- A collapse has ended, or is ending, a sequence (R403). -/
  ended : Bool
  /-- The outputs are released to their pull-downs (R401). -/
  released : Bool
  /-- No propolis log write starts until the power-down completes (R400). -/
  noLog : Bool
  /-- In ticks of 10 µs: each integrated rail since it was switched on and at its current limit (R386, R387); the present
  step since its action, or since its completion (R395 to R397); the stretch of each reset output (R393); VSYS_SNS above
  1.03 × SYSUV and above SYSUV without a break (R394, R399); and since the voltages were last shown. -/
  railN : KV (Nat × Nat)
  stepN : Nat
  stretchN : KV Nat
  recN : Nat
  okN : Nat
  msN : Nat
  deriving DecidableEq, Repr

/-- One announced barrier (R413, R416). -/
structure Barrier where
  num : Nat
  action : Nat
  arg : Nat
  at_ : Nat
  ref : Nat
  /-- Times its AT has been moved (R418). -/
  moves : Nat
  deriving DecidableEq, Repr

/-- A swarm item a worker has waiting (R414): kind, order id, A, B. -/
structure Item where
  kind : Nat
  id : Nat
  a : Nat
  b : Int
  deriving DecidableEq, Repr

/-- The Waggle link beside its registers (R404 to R419). -/
structure Wgl where
  /-- Full cycle number. -/
  cycle : Nat
  /-- Valid beacons heard in a row while joining, and cycles listened to without one (R409). -/
  heard : Nat
  /-- Queen: the UID recorded for each position, and the BARACK it last gave. -/
  uids : KV (Option Nat)
  barack : KV Nat
  /-- Barriers pending, as announced or received. -/
  bars : List Barrier
  lastBar : Nat
  /-- Worker: items waiting, oldest first. -/
  items : List Item
  /-- Queen: command frames waiting, with the windows each still needs: type, destination, payload. -/
  cmds : List (Nat × Nat × List Byte)
  /-- The frames that the device has sent in the present cycle, and those sent with QDOZE or DOZE since it began to leave
  READY (R412). -/
  out : List (List Byte)
  dozeN : Nat
  deriving DecidableEq, Repr

/-- Divider tracking of one channel (R158, R159): the baseline (RDB in Ω, T in 0.1 °C), the filtered δ, seconds since the
last update, and whether its set stays class U until a new baseline passes. -/
structure Trk where
  base : Option (Rat × Int)
  delta : Rat
  age : Nat
  bad : Bool
  deriving DecidableEq, Repr

/-- Running totals over the sample strobes of MC18, MC19 and their product, in V, A and W, of the strobes and of their
modulator clocks (R305, R309, R310). -/
structure PvSums where
  v : Rat
  i : Rat
  p : Rat
  n : Nat
  t : Nat
  deriving DecidableEq, Repr

/-- The meter beside its registers (chapter 04). -/
structure Mtr where
  /-- Fractional residues in 2^-32 units, by 4 × set + accumulator (R161). -/
  resid : KV Nat
  /-- Rejections in a row that count towards CALFAIL (R153). -/
  rejects : KV Nat
  /-- Channels that have accepted an estimate since their block reset or image load (R154). -/
  known : List Nat
  trk : KV Trk
  /-- String voltages of the latest burst or the last strobe, V (R163). -/
  volt : KV Rat
  /-- Slow counter: gain, and the strings saturated (R164, R167). -/
  gain : KV Rat
  slowSat : List Nat
  /-- Net full-rate charge of each string when the overlap began, 2^-32 µAh (R164). -/
  q0 : KV Int
  /-- A rate that waits for the closing-interval boundary (R147). -/
  newRate : Option Nat
  /-- The strobe period in progress contains a loss of HFXO, or a switch of the time base (R168). -/
  lossNow : Bool
  switchNow : Bool
  /-- The latest full-rate result of each channel (R46, class 0x2), and the strobes' results that no ring frame has taken
  yet, oldest first (R148). -/
  full : KV Int
  feed : List (List Int)
  /-- Strings with a strobe of class B since the last control period (R220). -/
  clsB : List Nat
  /-- Modulator clocks by which the next strobe period is longer (R150), and those credited since the ACLK cycle count
  was last brought up to date. -/
  adj : Int
  since : Nat
  /-- MC18 and MC19 over the strobes (R305, R309, R310). -/
  pv : PvSums
  deriving DecidableEq, Repr

/-- One remote temperature input beside its registers (R496 to R503). Temperatures in 0.1 °C. -/
structure ThmIn where
  /-- Invalid since an open or short conversion, with the good conversions counted since. -/
  bad : Bool
  goodN : Nat
  /-- The last valid conversion since the block started. -/
  last : Option Int
  /-- The present reading, when the last conversion was valid. -/
  valid : Bool
  /-- Consecutive rounds beyond XDEV, within half of it, and in a pair that disagrees (R497, R498). -/
  devN : Nat
  calmN : Nat
  pairN : Nat
  sdN : Nat
  /-- The round of the last conversion that was not below SD − 10 °C (R503). -/
  hotAt : Nat
  deriving DecidableEq, Repr

/-- One thermal zone: its temperatures of the last 60 s with their times, newest first, and conversions at or above THR. -/
structure ThmZone where
  hist : List (Nat × Int)
  thrN : Nat
  /-- The round in which the throttle was requested, and the last at or above THR − 5 °C (R502). -/
  reqAt : Nat
  warmAt : Nat
  deriving DecidableEq, Repr

/-- Temperature sensing beside its registers (chapter 16). -/
structure Thm where
  ins : KV ThmIn
  zones : KV ThmZone
  /-- Time of the conversion rounds, 0.1 s. -/
  clock : Nat
  dieN : Nat
  /-- Time of the die conversions, 10 ms, and the last at or above TDTHR − 5 °C (R502). -/
  dieClk : Nat
  dieWarm : Nat
  /-- Inputs turned off at their next conversion slot, with the GROUP written (R505). -/
  off : KV (Option Nat)
  /-- A DIE shutdown is under way, and holds device-wide reset (R503). -/
  dieSd : Bool
  dieHeld : Bool
  deriving DecidableEq, Repr

/-- The ledger beside its registers (chapter 05). -/
structure Ldg where
  /-- IVL in force (R175), and the RTC second at which the open interval opened. -/
  ivl : Nat
  start : Nat
  /-- By 4 × string + quantity (EIN, EOUT, QIN, QOUT): the meter accumulators at the opening, and the carries (R182). -/
  opened : KV Nat
  carry : KV Nat
  /-- By 4 × contract + class: time in modulator clocks, with the remainders carried (R183; one ACLK cycle is 250). -/
  dur : KV Nat
  /-- SMASK of each contract's last record since ledger start; 0 while there is none (R181). -/
  prevMask : KV Nat
  /-- In the open interval: OSF was set, an RTC write fell inside, a close was deferred (R178, R184). -/
  osf : Bool
  tset : Bool
  deferred : Bool
  /-- A CLOSE waits for its instant (R176). -/
  closeReq : Bool
  /-- Records formed and tagged, not yet written, with the report queue each goes to (R193, R195). -/
  formed : List (List Byte × Option Nat)
  /-- Pending records, oldest first: ring slot and report queue (R193). -/
  pend : List (Nat × Nat)
  /-- Closing instants that wait for step 3 of an earlier close: whether early, and whether by an RTC write (R195). -/
  late : List (Bool × Bool)
  deriving DecidableEq, Repr

/-- A charge episode (R312, R316): VCV_eff in 0.1 V, the timer in half milliseconds, milliseconds without current; and
the held charge power, W, that CHG has reported of it (R314). -/
structure ChgS where
  vcv : Rat
  half : Nat
  idle : Nat
  held : Option Nat
  /-- Consecutive milliseconds in CV more than 1 % below VCV_eff and with a current below ITERM; with the charge power held
  below the plan; and with the highest cell above VCELL + 50 mV (R312 to R315). -/
  ccMs : Nat
  termMs : Nat
  heldMs : Nat
  ovMs : Nat
  deriving DecidableEq, Repr

/-- A PV group's tracking (R309, R310), in V and A: reference, open-circuit voltage, previous means; the step of a scan
with the best power and its reference so far; ms since the previous scan began; whether CLMPg is asserted (R319). -/
structure ChgG where
  vref : Rat
  voc : Rat
  vPrev : Rat
  iPrev : Rat
  scan : Option (Nat × Option (Rat × Rat))
  scanAge : Option Nat
  clamp : Bool
  /-- The strobe totals at the last TSTEP or at the begin of the scan step, and half way through the scan step. -/
  base : PvSums
  mid : Option PvSums
  /-- Consecutive milliseconds of a waiting group with MC18 above VSTART, and of a running one with less than 1 % of its
  rating and with MC19 below −2 % of its current rating; and periods with the target voltage above OVLIM by more than 3 %
  (R305 to R307). -/
  upMs : Nat
  lowMs : Nat
  revMs : Nat
  ovN : Nat
  deriving DecidableEq, Repr

structure Chg where
  strs : KV ChgS
  grps : KV ChgG
  /-- MC18 and strobes, as totals, at each control period of the last 100 ms, newest first (R305). -/
  hist : List (Rat × Nat)
  /-- Net energy of set 9 at the last control period, 0.1 mWh, and the PV power over it, W (R302, R306). -/
  pvNet : Option Rat
  pvW : Rat
  deriving DecidableEq, Repr

/-- A decoded value (R334): the value, its arrival on ACLK, and the presence timeout of its entry in ms. -/
structure Dec where
  v : Int
  t : Nat
  pres : Nat
  deriving DecidableEq, Repr

/-- One module of the estimator (R346 to R353), SoC values as fractions, capacity in Ah, r in 10 µΩ. -/
structure EMod where
  /-- Decoded values by quantity code; CELLV of cell c at 0x100 + c, CELLT of sensor t at 0x200 + t (R329). -/
  dec : KV Dec
  soc : Rat
  sigS : Rat
  rep : Rat
  cap : Rat
  sigC : Rat
  r : Rat
  /-- A first reading or a restored record has set soc (R350, R359). -/
  known : Bool
  /-- A cell voltage has been reported since estimator start (R338). -/
  celled : Bool
  serial : Option Nat
  /-- Replaced, and waiting for its first OCV value (R339). -/
  swapped : Bool
  /-- The floor disagreement of this discharge has been counted (R349). -/
  dipped : Bool
  /-- soc and σS at the last rest anchor, and at the last update of the present rest (R345, R351). -/
  anchor : Option (Rat × Rat)
  cand : Option (Rat × Rat)
  /-- Bursts in WATCH since a qualifying frame, and whether one came in this burst (R337). -/
  miss : Nat
  hit : Bool
  /-- RELEARN as it stood at the last update at rest, before a disagreement of that update (R361). -/
  relearn : Bool
  deriving DecidableEq, Repr

/-- A span between rest anchors (R351): net charge (µAh) and ACLK time at its start, class U seen, charge in class C (Ah),
worst class. -/
structure Span where
  q : Int
  t : Nat
  u : Bool
  cq : Rat
  worst : Nat
  deriving DecidableEq, Repr

/-- One string of the estimator: net charge at the last update, ms of the rest count, worst class and class-C time
(modulator clocks) since the last update, the open span and its state at the last rest update, and the mean currents of
the last updates, newest first (R353). -/
structure EStr where
  q : Int
  restMs : Nat
  worst : Nat
  cClk : Nat
  span : Option Span
  cand : Option Span
  ih : List Rat
  deriving DecidableEq, Repr

/-- The estimator beside its registers (chapter 10). -/
structure Est where
  /-- ACLK time of the last update, and the time before which a trigger of rest or of FULL is deferred (R358). -/
  last : Nat
  lastNv : Nat
  mods : KV EMod
  strs : KV EStr
  /-- Host writes to LCAP and HLTH that wait for the next update (R356). -/
  host : List (Nat × Word)
  /-- A persistence trigger waits for its write, or was deferred; and one that R358 does not defer has come while a write
  runs. -/
  nvReq : Bool
  nvNow : Bool
  /-- A WATCH burst listens, and another has fallen due meanwhile (R325). -/
  burst : Bool
  burstDue : Bool
  deriving DecidableEq, Repr

/-- The frame each CAN controller sent last: identifier with IDE, and data; and the polls that have fallen due and are not
yet sent, by 2 × entry + controller (R326). -/
structure Can where
  tx : KV (Option (Nat × List Byte))
  due : KV (Option (Nat × List Byte))
  deriving DecidableEq, Repr

/-- Working copies of a timer (R468) and its prescaler count under CASCADE (R467). -/
structure TmrW where
  per : Nat
  cmp0 : Nat
  cmp1 : Nat
  pre : Nat
  deriving DecidableEq, Repr

/-- TW1 beside its registers: TWI_TW1_CTL as the transfer in progress found it, the retries it has left (R128, R129), and
the bytes that the last target read returned (R130). -/
structure Tw1 where
  ctl : Word
  left : Nat
  sent : List Byte
  /-- The bytes that the last controller transfer sent, addresses and PEC among them (R128). -/
  out : List Byte
  deriving DecidableEq, Repr

/-- Non-volatile memory operations (chapter 17). -/
structure Nvm where
  /-- Words that writers have waiting: writer of R516, MRAM offset, value; each writer's in its order. -/
  words : List (Nat × Nat × Word)
  /-- The result that the host operation in progress will end with (R523). -/
  res : Nat
  /-- The OTP words to program, with the bits to set (R512). -/
  otp : List (Nat × Nat)
  /-- The PROGRAM in progress (R96): target slot, and the image whose read-back is due; empty once its record waits. -/
  prog : Option (Nat × List Byte)
  /-- Writers of R516 whose write has been issued and has not completed. -/
  busy : List Nat
  /-- The image operation of CMB_LOAD_CTL in progress (R91, R94): OP and SRC; and for a LOAD whose tiles have stopped, the
  image that its checks passed. -/
  load : Option (Nat × Nat × Option (List Byte))
  deriving DecidableEq, Repr

/-- The calendar (R460): the second count and the ACLK cycles within the second. -/
structure Rtc where
  sec : Nat
  ticks : Nat
  /-- ACLK cycles since power-up, which no time setting moves. -/
  cycles : Nat
  deriving DecidableEq, Repr

/-- Device-wide reset (chapter 13): asserted or not. -/
structure Rst where
  asserted : Bool
  /-- R525: firmware runs. -/
  firmware : Bool
  /-- The assertion in force, or the last one, came with POR or AO_POR (R434, R443). -/
  power : Bool
  /-- The level of IMG_SEL at the last release (R89). -/
  imgSel : Bool
  /-- VAO has fallen below the level that the AO domain needs (R536). -/
  aoLost : Bool
  deriving DecidableEq, Repr

structure State where
  /-- The commands that wait, first in first out. -/
  pending : List Instr
  regs : KV Word
  sram : KV Byte
  mram : KV Byte
  otp : KV Word
  staging : List Staged
  /-- Groups with an accepted COMMIT not yet applied (CPEND, R63). -/
  commits : List Group
  /-- The members of a pending joint commit (R67). -/
  joint : Option (List Group)
  /-- The model's own counter of free values (DESIGN CHOICE, log entry 1). -/
  free : Nat
  irq : Irq
  port0 : PortState
  port1 : PortState
  /-- Upper words captured by a read of their lower word (R58, R162), by address. -/
  caps : KV (Option Word)
  image : Option Image
  tiles : KV TileHid
  /-- Published values of class 0x4, Q2.30, by index (R46, R149, R277, R308). -/
  pub : KV Int
  rst : Rst
  prp : Prp
  cnv : Cnv
  prot : Prot
  ord : Ord
  sct : Sct
  flt : Flt
  clk : Clk
  pwr : Pwr
  rtc : Rtc
  seqr : Seqr
  wgl : Wgl
  mtr : Mtr
  thm : Thm
  ldg : Ldg
  chg : Chg
  est : Est
  can : Can
  tmr : KV TmrW
  /-- ACLK time at which each watchdog's period began: WD_H, WD_K0, WD_K1 (R474). -/
  wdg : KV Nat
  nvm : Nvm
  tw1 : Tw1
  /-- Mailboxes whose DATA0 to DATA7 hold an exported key (R188). -/
  keyed : List Nat
  /-- Removals that have not reached the order engine yet (R21). -/
  removals : List Removal
  deriving DecidableEq, Repr

/-- Every field at its value while device-wide reset is asserted after a first power-up: registers at their reset values,
nothing listed in any memory, nothing pending anywhere. -/
def State.blank : State where
  pending := []
  regs := []
  sram := []
  mram := []
  otp := []
  staging := []
  commits := []
  joint := none
  free := 0
  irq := ⟨0, 0, 0, 0, 0, 0, ⟨0, false⟩, ⟨0, false⟩, false⟩
  port0 := ⟨[], 0, 0, none, [], 0⟩
  port1 := ⟨[], 0, 0, none, [], 0⟩
  caps := []
  image := none
  tiles := []
  pub := []
  rst := ⟨true, false, true, false, false⟩
  prp := ⟨[], [], none, none, false, 0⟩
  cnv := ⟨[], false, 0, 0, [], [], 0, none, [], []⟩
  prot := ⟨[], [], []⟩
  ord := ⟨false, 0, [], [], 0, [], [], none, [], [], none, 0, [], [], 0, false, 0, []⟩
  sct := ⟨[], false, none, [], [], (0, 0), [], [], 0, false, 0, 0, 0, false, false, none, [], [], [], [], [], [], [], [], 0, 0, 0,
    0, 0, []⟩
  flt := ⟨[], [], []⟩
  clk := ⟨false, 0, false⟩
  pwr := ⟨false, 0, false, false⟩
  rtc := ⟨0, 0, 0⟩
  seqr := ⟨0, false, [], 0, 0, 0, 0, false, false, false, [], 0, [], 0, 0, 0⟩
  wgl := ⟨0, 0, [], [], [], 0, [], [], [], 0⟩
  mtr := ⟨[], [], [], [], [], [], [], [], none, false, false, [], [], [], 0, 0, ⟨0, 0, 0, 0, 0⟩⟩
  thm := ⟨[], [], 0, 0, 0, 0, [], false, false⟩
  ldg := ⟨0, 0, [], [], [], [], false, false, false, false, [], [], []⟩
  chg := ⟨[], [], [], none, 0⟩
  est := ⟨0, 0, [], [], [], false, false, false, false⟩
  can := ⟨[], []⟩
  tmr := []
  wdg := []
  nvm := ⟨[], 0, [], none, [], none⟩
  tw1 := ⟨0, 0, [], []⟩
  keyed := []
  removals := []

/-- The machine right after the release of its first device-wide reset (R550 step 2): an AO power-up with the core
power-up (R430: RST_CAUSE reads POR and AO_POR; OSF set, so that EV106 is pending), the clocks of READY with the PLL on
HFRC (CLK_STAT 0x56, DEDUCED, log entry 6), READY with request AUTO, no firmware selected yet (R525) and no command waiting. -/
def State.reset : State :=
  { State.blank with
    regs := [(0x020000, 0x3), (0x030004, 0x56)]
    irq := { State.blank.irq with level := 2 ^ 106 }
    rst := ⟨false, false, true, false, false⟩ }

end Sys2Proof.Machine
end

