-- ==== Sys2Proof/Machine/Ops.lean ====
section
/-!
DEFINITION. The named operations every block uses: the canonical sparse maps, registers and their fields, SRAM, MRAM
and OTP words, free values, staging (R63 to R65) and little-endian byte forms (R8).
-/
namespace Sys2Proof.Machine

/-! ### Sorting -/

/-- `x` before the first entry that it may stand before. -/
def insertBy {α : Type} (le : α → α → Bool) (x : α) : List α → List α
  | [] => [x]
  | y :: r => if le x y then x :: y :: r else y :: insertBy le x r

/-- The list in rising order; entries that compare equal keep their order. -/
def sortBy {α : Type} (le : α → α → Bool) : List α → List α
  | [] => []
  | x :: r => insertBy le x (sortBy le r)

/-! ### One field at a time -/

def State.setPending (s : State) (v : List Instr) : State := { s with pending := v }
def State.setRegs (s : State) (v : KV Word) : State := { s with regs := v }
def State.setSram (s : State) (v : KV Byte) : State := { s with sram := v }
def State.setMram (s : State) (v : KV Byte) : State := { s with mram := v }
def State.setOtp (s : State) (v : KV Word) : State := { s with otp := v }
def State.setStaging (s : State) (v : List Staged) : State := { s with staging := v }
def State.setCommits (s : State) (v : List Group) : State := { s with commits := v }
def State.setJoint (s : State) (v : Option (List Group)) : State := { s with joint := v }
def State.setFree (s : State) (v : Nat) : State := { s with free := v }
def State.setIrq (s : State) (v : Irq) : State := { s with irq := v }
def State.setPort0 (s : State) (v : PortState) : State := { s with port0 := v }
def State.setPort1 (s : State) (v : PortState) : State := { s with port1 := v }
def State.setCaps (s : State) (v : KV (Option Word)) : State := { s with caps := v }
def State.setImage (s : State) (v : Option Image) : State := { s with image := v }
def State.setTiles (s : State) (v : KV TileHid) : State := { s with tiles := v }
def State.setPub (s : State) (v : KV Int) : State := { s with pub := v }
def State.setRst (s : State) (v : Rst) : State := { s with rst := v }
def State.setPrp (s : State) (v : Prp) : State := { s with prp := v }
def State.setCnv (s : State) (v : Cnv) : State := { s with cnv := v }
def State.setProt (s : State) (v : Prot) : State := { s with prot := v }
def State.setOrd (s : State) (v : Ord) : State := { s with ord := v }
def State.setSct (s : State) (v : Sct) : State := { s with sct := v }
def State.setFlt (s : State) (v : Flt) : State := { s with flt := v }
def State.setClk (s : State) (v : Clk) : State := { s with clk := v }
def State.setPwr (s : State) (v : Pwr) : State := { s with pwr := v }
def State.setRtc (s : State) (v : Rtc) : State := { s with rtc := v }
def State.setSeqr (s : State) (v : Seqr) : State := { s with seqr := v }
def State.setWgl (s : State) (v : Wgl) : State := { s with wgl := v }
def State.setMtr (s : State) (v : Mtr) : State := { s with mtr := v }
def State.setThm (s : State) (v : Thm) : State := { s with thm := v }
def State.setLdg (s : State) (v : Ldg) : State := { s with ldg := v }
def State.setChg (s : State) (v : Chg) : State := { s with chg := v }
def State.setEst (s : State) (v : Est) : State := { s with est := v }
def State.setCan (s : State) (v : Can) : State := { s with can := v }
def State.setTmr (s : State) (v : KV TmrW) : State := { s with tmr := v }
def State.setWdg (s : State) (v : KV Nat) : State := { s with wdg := v }
def State.setNvm (s : State) (v : Nvm) : State := { s with nvm := v }
def State.setTw1 (s : State) (v : Tw1) : State := { s with tw1 := v }
def State.setKeyed (s : State) (v : List Nat) : State := { s with keyed := v }
def State.setRemovals (s : State) (v : List Removal) : State := { s with removals := v }

/-! ### Canonical sparse maps -/

/-- The value at `k`; a key that is not listed holds `d k`. -/
def kvGet {α : Type} (d : Nat → α) : KV α → Nat → α
  | [], k => d k
  | (a, v) :: r, k => if a = k then v else kvGet d r k

def kvErase {α : Type} (m : KV α) (k : Nat) : KV α := m.filter (fun c => decide (c.1 ≠ k))

/-- Insertion in rising key order, replacing an entry of the same key. -/
def kvInsert {α : Type} (k : Nat) (v : α) : KV α → KV α
  | [] => [(k, v)]
  | (a, w) :: r =>
    if k < a then (k, v) :: (a, w) :: r
    else if a = k then (k, v) :: r
    else (a, w) :: kvInsert k v r

/-- Write `v` at `k`; writing the value an unlisted key holds removes the entry, so equal maps are equal data. -/
def kvSet {α : Type} [DecidableEq α] (d : Nat → α) (m : KV α) (k : Nat) (v : α) : KV α :=
  if v = d k then kvErase m k else kvInsert k v m

/-- The canonical form: keys strictly rising, and no entry equal to what an unlisted key holds. -/
def kvWf {α : Type} [DecidableEq α] (d : Nat → α) : KV α → Bool
  | [] => true
  | (a, v) :: r => decide (v ≠ d a) && r.all (fun c => decide (a < c.1)) && kvWf d r

/-- Every entry whose key lies in `lo ≤ k < hi` returns to the value of an unlisted key. -/
def kvClear {α : Type} (m : KV α) (lo hi : Nat) : KV α :=
  m.filter (fun c => decide (c.1 < lo ∨ hi ≤ c.1))

/-! ### Registers -/

/-- The stored value of a register word: its reset value until something writes it (R13). -/
def State.rd (s : State) (a : Nat) : Word := kvGet resetWord s.regs a

def State.wr (s : State) (a : Nat) (v : Word) : State := s.setRegs (kvSet resetWord s.regs a v)

/-- A block reset returns every register of an address range to its reset value (R436). -/
def State.resetRegs (s : State) (lo hi : Nat) : State := s.setRegs (kvClear s.regs lo hi)

def fldOf (w : Word) (lo width : Nat) : Nat := w.toNat / 2 ^ lo % 2 ^ width

/-- `w` with the `width` bits from `lo` replaced by the low bits of `v`. -/
def fldPut (w : Word) (lo width v : Nat) : Word :=
  BitVec.ofNat 32 (w.toNat - fldOf w lo width * 2 ^ lo + v % 2 ^ width * 2 ^ lo)

def State.fg (s : State) (f : Fld) : Nat := fldOf (s.rd f.addr) f.lo f.width

def State.fs (s : State) (f : Fld) (v : Nat) : State := s.wr f.addr (fldPut (s.rd f.addr) f.lo f.width v)

/-- Is the one-bit field set? -/
def State.fb (s : State) (f : Fld) : Bool := s.fg f != 0

def boolNat (b : Bool) : Nat := if b then 1 else 0

/-- Set a counter field to at most its largest value (the saturating counters of the register sections). -/
def State.fsat (s : State) (f : Fld) (v : Nat) : State := s.fs f (min v (2 ^ f.width - 1))

/-- Add one to a saturating counter field. -/
def State.finc (s : State) (f : Fld) : State := s.fsat f (s.fg f + 1)

/-- The signed value of an `n`-bit two's complement number. -/
def toSigned (n v : Nat) : Int :=
  let x := v % 2 ^ n
  if x < 2 ^ (n - 1) then (x : Int) else (x : Int) - 2 ^ n

/-- The `n` low bits of an integer in two's complement. -/
def ofSigned (n : Nat) (v : Int) : Nat := (v % (2 ^ n : Int)).toNat

def State.fgs (s : State) (f : Fld) : Int := toSigned f.width (s.fg f)

def State.fss (s : State) (f : Fld) (v : Int) : State := s.fs f (ofSigned f.width v)

/-- Clamp to a signed range of `n` bits. -/
def satSigned (n : Nat) (v : Int) : Int := max (-(2 ^ (n - 1) : Int)) (min v (2 ^ (n - 1) - 1 : Int))

/-- A two-word register pair read as one unsigned number, the upper word at `hi`. -/
def State.rd64 (s : State) (lo hi : Nat) : Nat := (s.rd lo).toNat + (s.rd hi).toNat * 2 ^ 32

def State.wr64 (s : State) (lo hi : Nat) (v : Nat) : State :=
  (s.wr lo (BitVec.ofNat 32 v)).wr hi (BitVec.ofNat 32 (v / 2 ^ 32))

/-- Bit `i` of a mask held as a number. -/
def bitOf (m i : Nat) : Bool := m / 2 ^ i % 2 == 1

def setBit (m i : Nat) (b : Bool) : Nat :=
  if bitOf m i then (if b then m else m - 2 ^ i) else (if b then m + 2 ^ i else m)

/-- The mask of the indices below `n` that satisfy `p`. -/
def maskOf (n : Nat) (p : Nat → Bool) : Nat := (List.range n).foldl (fun m i => if p i then m + 2 ^ i else m) 0

/-- The indices below `n` that a mask names. -/
def bitsOf (n m : Nat) : List Nat := (List.range n).filter (bitOf m)

/-! ### Free values -/

/-- A value the spec leaves open: an opaque function of a counter that no statement constrains (DESIGN CHOICE, log entry 1). -/
def State.fresh (s : State) : Nat × State := (Config.freeValue s.free, s.setFree (s.free + 1))

/-! ### Memories -/

/-- What an unlisted SRAM byte reads as (DESIGN CHOICE, log entry 4). -/
def sramDefault (_ : Nat) : Byte := 0

/-- What an unlisted MRAM byte reads as: the content as shipped (R555, DESIGN CHOICE, log entry 5). -/
def mramDefault (a : Nat) : Byte := if Config.shippedArea a then Config.shippedByte a else 0

/-- A blank OTP word (DESIGN CHOICE, log entry 3). -/
def otpDefault (_ : Nat) : Word := 0

def State.sramByte (s : State) (a : Nat) : Byte := kvGet sramDefault s.sram a
def State.setSramByte (s : State) (a : Nat) (v : Byte) : State := s.setSram (kvSet sramDefault s.sram a v)
def State.mramByte (s : State) (a : Nat) : Byte := kvGet mramDefault s.mram a
def State.setMramByte (s : State) (a : Nat) (v : Byte) : State := s.setMram (kvSet mramDefault s.mram a v)
def State.otpWord (s : State) (a : Nat) : Word := kvGet otpDefault s.otp a
def State.setOtpWord (s : State) (a : Nat) (v : Word) : State := s.setOtp (kvSet otpDefault s.otp a v)

/-- The number that bytes stand for, least significant first (R8). -/
def leNat : List Byte → Nat
  | [] => 0
  | b :: r => b.toNat + 256 * leNat r

/-- The `n` bytes of a number, least significant first (R8). -/
def leBytes : Nat → Nat → List Byte
  | 0, _ => []
  | n + 1, v => BitVec.ofNat 8 v :: leBytes n (v / 256)

def State.sramBytes (s : State) (a n : Nat) : List Byte := (List.range n).map (fun i => s.sramByte (a + i))
def State.mramBytes (s : State) (a n : Nat) : List Byte := (List.range n).map (fun i => s.mramByte (a + i))

def State.setSramBytes (s : State) (a : Nat) : List Byte → State
  | [] => s
  | b :: r => (s.setSramByte a b).setSramBytes (a + 1) r

def State.setMramBytes (s : State) (a : Nat) : List Byte → State
  | [] => s
  | b :: r => (s.setMramByte a b).setMramBytes (a + 1) r

def State.sramWord (s : State) (a : Nat) : Word := BitVec.ofNat 32 (leNat (s.sramBytes a 4))
def State.setSramWord (s : State) (a : Nat) (v : Word) : State := s.setSramBytes a (leBytes 4 v.toNat)
def State.mramWord (s : State) (a : Nat) : Word := BitVec.ofNat 32 (leNat (s.mramBytes a 4))
def State.setMramWord (s : State) (a : Nat) (v : Word) : State := s.setMramBytes a (leBytes 4 v.toNat)

/-- The memories keep their canonical form. -/
def Memory.wf (s : State) : Bool :=
  kvWf resetWord s.regs && kvWf sramDefault s.sram && kvWf mramDefault s.mram && kvWf otpDefault s.otp

/-! ### Staging (R63, R64) -/

/-- Put the masked bits of a word into a group's staging; a later write of the same word replaces its bits. -/
def State.stage (s : State) (g : Group) (a mask : Nat) (v : Word) : State :=
  let old := (s.staging.find? (fun e => e.group == g && e.addr == a)).getD ⟨g, a, 0, 0⟩
  let e : Staged := ⟨g, a, old.mask ||| mask, (old.value &&& BitVec.ofNat 32 (0xFFFFFFFF - mask)) ||| (v &&& BitVec.ofNat 32 mask)⟩
  s.setStaging (s.staging.filter (fun x => !(x.group == g && x.addr == a)) ++ [e])

def State.stagedOf (s : State) (g : Group) : List Staged := s.staging.filter (·.group == g)

def State.unstage (s : State) (g : Group) : State := s.setStaging (s.staging.filter (fun x => !(x.group == g)))

/-- The word a commit would put in force: the value in force with the staged bits over it. -/
def State.wouldBe (s : State) (g : Group) (a : Nat) : Word :=
  match (s.stagedOf g).find? (·.addr == a) with
  | some e => (s.rd a &&& BitVec.ofNat 32 (0xFFFFFFFF - e.mask)) ||| e.value
  | none => s.rd a

/-- A field as a commit would leave it. -/
def State.wouldFg (s : State) (g : Group) (f : Fld) : Nat := fldOf (s.wouldBe g f.addr) f.lo f.width

def State.applyEntry (s : State) (e : Staged) : State :=
  s.wr e.addr ((s.rd e.addr &&& BitVec.ofNat 32 (0xFFFFFFFF - e.mask)) ||| e.value)

/-- R63: the staged values of a group take effect together and its staging empties. -/
def State.applyStaged (s : State) (g : Group) : State := ((s.stagedOf g).foldl State.applyEntry s).unstage g

def State.cpend (s : State) (g : Group) : Bool := s.commits.contains g

end Sys2Proof.Machine
end

