-- ==== Sys2Proof/Machine/Crypto.lean ====
section
/-!
DEFINITION. The algorithms the spec takes from its cited standards: CRC-32 (R73), SHA-256 (FIPS 180-4), HMAC (FIPS
198-1, R187) and ECDSA P-256 with SHA-256 (FIPS 186-5, R86).
-/
namespace Sys2Proof.Machine

/-! ### CRC-32 (R73) -/

/-- One bit of the reflected CRC: 0xEDB8_8320 is 0x04C1_1DB7 with its bits reversed. -/
def crcBit (c : Nat) : Nat := if c % 2 = 1 then (c / 2) ^^^ 0xEDB88320 else c / 2

def crcByte (c : Nat) (b : Byte) : Nat :=
  crcBit (crcBit (crcBit (crcBit (crcBit (crcBit (crcBit (crcBit (c ^^^ b.toNat))))))))

/-- R73: initial value and final XOR 0xFFFF_FFFF, input and output reflected. -/
def crc32 (b : List Byte) : Nat := (b.foldl crcByte 0xFFFFFFFF) ^^^ 0xFFFFFFFF

/-! ### SHA-256 -/

def shaK : List Word :=
  [0x428a2f98, 0x71374491, 0xb5c0fbcf, 0xe9b5dba5, 0x3956c25b, 0x59f111f1, 0x923f82a4, 0xab1c5ed5] ++
  [0xd807aa98, 0x12835b01, 0x243185be, 0x550c7dc3, 0x72be5d74, 0x80deb1fe, 0x9bdc06a7, 0xc19bf174] ++
  [0xe49b69c1, 0xefbe4786, 0x0fc19dc6, 0x240ca1cc, 0x2de92c6f, 0x4a7484aa, 0x5cb0a9dc, 0x76f988da] ++
  [0x983e5152, 0xa831c66d, 0xb00327c8, 0xbf597fc7, 0xc6e00bf3, 0xd5a79147, 0x06ca6351, 0x14292967] ++
  [0x27b70a85, 0x2e1b2138, 0x4d2c6dfc, 0x53380d13, 0x650a7354, 0x766a0abb, 0x81c2c92e, 0x92722c85] ++
  [0xa2bfe8a1, 0xa81a664b, 0xc24b8b70, 0xc76c51a3, 0xd192e819, 0xd6990624, 0xf40e3585, 0x106aa070] ++
  [0x19a4c116, 0x1e376c08, 0x2748774c, 0x34b0bcb5, 0x391c0cb3, 0x4ed8aa4a, 0x5b9cca4f, 0x682e6ff3] ++
  [0x748f82ee, 0x78a5636f, 0x84c87814, 0x8cc70208, 0x90befffa, 0xa4506ceb, 0xbef9a3f7, 0xc67178f2]

def shaInit : List Word :=
  [0x6a09e667, 0xbb67ae85, 0x3c6ef372, 0xa54ff53a, 0x510e527f, 0x9b05688c, 0x1f83d9ab, 0x5be0cd19]

def rotr (x : Word) (n : Nat) : Word := x.rotateRight n

/-- The number that big-endian bytes stand for. -/
def beNat (b : List Byte) : Nat := b.foldl (fun a x => 256 * a + x.toNat) 0

/-- The `n` bytes of a number, most significant first. -/
def beBytes (n v : Nat) : List Byte := (leBytes n v).reverse

/-- The message schedule, newest word first. -/
def shaExtend : Nat → List Word → List Word
  | 0, w => w
  | k + 1, w =>
    let x := w.getD 14 0
    let y := w.getD 1 0
    let s0 := rotr x 7 ^^^ rotr x 18 ^^^ (x >>> 3)
    let s1 := rotr y 17 ^^^ rotr y 19 ^^^ (y >>> 10)
    shaExtend k ((w.getD 15 0 + s0 + w.getD 6 0 + s1) :: w)

/-- One round on the eight working variables. -/
def shaRound (v : List Word) (kw : Word × Word) : List Word :=
  match v with
  | [a, b, c, d, e, f, g, h] =>
    let t1 := h + (rotr e 6 ^^^ rotr e 11 ^^^ rotr e 25) + ((e &&& f) ^^^ (~~~e &&& g)) + kw.1 + kw.2
    let t2 := (rotr a 2 ^^^ rotr a 13 ^^^ rotr a 22) + ((a &&& b) ^^^ (a &&& c) ^^^ (b &&& c))
    [t1 + t2, a, b, c, d + t1, e, f, g]
  | v => v

def shaWords (b : List Byte) (n : Nat) : List Word :=
  (List.range n).map (fun i => BitVec.ofNat 32 (beNat ((b.drop (4 * i)).take 4)))

def shaBlock (h : List Word) (b : List Byte) : List Word :=
  let w := (shaExtend 48 (shaWords b 16).reverse).reverse
  let v := (shaK.zip w).foldl shaRound h
  (h.zip v).map (fun x => x.1 + x.2)

def shaBlocks : Nat → List Word → List Byte → List Word
  | 0, h, _ => h
  | n + 1, h, b => shaBlocks n (shaBlock h (b.take 64)) (b.drop 64)

def shaPad (b : List Byte) : List Byte :=
  b ++ [(0x80 : Byte)] ++ List.replicate ((119 - b.length % 64) % 64) (0 : Byte) ++ beBytes 8 (8 * b.length)

def sha256 (b : List Byte) : List Byte :=
  let m := shaPad b
  (shaBlocks (m.length / 64) shaInit m).flatMap (fun w => beBytes 4 w.toNat)

/-! ### HMAC-SHA-256 -/

def hmac256 (key msg : List Byte) : List Byte :=
  let k := if 64 < key.length then sha256 key else key
  let k := k ++ List.replicate (64 - k.length) (0 : Byte)
  let pad := fun (x : Byte) => k.map (fun b => b ^^^ x)
  sha256 (pad 0x5C ++ sha256 (pad 0x36 ++ msg))

/-- ASCII text without a terminator (R187). -/
def ascii (t : String) : List Byte := t.toList.map (fun c => BitVec.ofNat 8 c.toNat)

/-! ### ECDSA P-256 -/

abbrev p256 : Nat := 0xFFFFFFFF00000001000000000000000000000000FFFFFFFFFFFFFFFFFFFFFFFF
abbrev n256 : Nat := 0xFFFFFFFF00000000FFFFFFFFFFFFFFFFBCE6FAADA7179E84F3B9CAC2FC632551
abbrev b256 : Nat := 0x5AC635D8AA3A93E7B3EBBD55769886BC651D06B0CC53B0F63BCE3C3E27D2604B
abbrev g256 : Nat × Nat := (0x6B17D1F2E12C4247F8BCE6E563A440F277037D812DEB33A0F4A13945D898C296,
  0x4FE342E2FE1A7F9B8EE7EB4A7C0F9E162BCE33576B315ECECBB6406837BF51F5)

/-- `a ^ e mod m` over the `k` low bits of `e`. -/
def powMod (m : Nat) : Nat → Nat → Nat → Nat
  | 0, _, _ => 1 % m
  | k + 1, a, e => let r := powMod m k (a * a % m) (e / 2)
    if e % 2 = 1 then a * r % m else r

/-- The inverse modulo a prime below 2^256. -/
def invMod (m a : Nat) : Nat := powMod m 256 (a % m) (m - 2)

/-- Point addition; none is the point at infinity. -/
def ecAdd (a b : Option (Nat × Nat)) : Option (Nat × Nat) :=
  match a, b with
  | none, q => q
  | q, none => q
  | some (x1, y1), some (x2, y2) =>
    if x1 = x2 ∧ (y1 + y2) % p256 = 0 then none
    else
      let m := if x1 = x2 then (3 * x1 * x1 + (p256 - 3)) * invMod p256 (2 * y1) % p256
        else (y2 + p256 - y1) * invMod p256 (x2 + p256 - x1) % p256
      let x3 := (m * m + 2 * p256 - x1 - x2) % p256
      some (x3, (m * (x1 + p256 - x3) + p256 - y1) % p256)

/-- Scalar multiplication over the `k` low bits. -/
def ecMul : Nat → Nat → Option (Nat × Nat) → Option (Nat × Nat)
  | 0, _, _ => none
  | k + 1, e, q => let r := ecMul k (e / 2) (ecAdd q q)
    if e % 2 = 1 then ecAdd q r else r

/-- A public point on the curve. -/
def onCurve (x y : Nat) : Bool :=
  decide (x < p256 ∧ y < p256) && (y * y) % p256 == (x * x * x + (p256 - 3) * x + b256) % p256

/-- R86: `key` and `sig` are 64 bytes each, big-endian halves. -/
def ecdsaOk (key sig msg : List Byte) : Bool :=
  let qx := beNat (key.take 32)
  let qy := beNat (key.drop 32)
  let r := beNat (sig.take 32)
  let t := beNat (sig.drop 32)
  let e := beNat (sha256 msg)
  let w := invMod n256 t
  onCurve qx qy && decide (1 ≤ r ∧ r < n256 ∧ 1 ≤ t ∧ t < n256) &&
  (match ecAdd (ecMul 256 (e * w % n256) (some g256)) (ecMul 256 (r * w % n256) (some (qx, qy))) with
   | some (x, _) => x % n256 == r
   | none => false)

end Sys2Proof.Machine
end

