-- ==== Sys2Proof/Machine/Operands.lean ====
section
/-!
DEFINITION. Operand forms: fields of the comb image's sections (R75 to R86), numbers of the spec's fixed-point formats
and their rounding (R8, R47), and the codes of statuses (R106).
-/
namespace Sys2Proof.Machine

/-! ### Status codes (R106) -/

abbrev stOk : Nat := 0
abbrev stBusy : Nat := 1
abbrev stHeld : Nat := 2
abbrev stCommitErr : Nat := 3
abbrev stDecodeErr : Nat := 4
abbrev stIsolated : Nat := 5
abbrev stPecErr : Nat := 6
abbrev stLocked : Nat := 7

/-! ### Bytes of structures -/

def byteAt (b : List Byte) (i : Nat) : Nat := (b.getD i 0).toNat
def u16At (b : List Byte) (i : Nat) : Nat := byteAt b i + 256 * byteAt b (i + 1)
def u32At (b : List Byte) (i : Nat) : Nat := u16At b i + 65536 * u16At b (i + 2)

/-! ### The image in force -/

/-- The bytes of a section of the image in force; none while no image is loaded or the section is absent (R74). -/
def State.sec (s : State) (ty : Nat) : List Byte :=
  match s.image with
  | some im => (im.secs.lookup ty).getD []
  | none => []

abbrev secPinmap : Nat := 1
abbrev secTopology : Nat := 2
abbrev secConverter : Nat := 3
abbrev secMeter : Nat := 4
abbrev secFeeds : Nat := 5
abbrev secSequence : Nat := 6
abbrev secTiles : Nat := 7
abbrev secFsm : Nat := 8
abbrev secCanfmt : Nat := 9
abbrev secCurves : Nat := 10
abbrev secProfile : Nat := 11
abbrev secSignature : Nat := 127

/-! R76: TOPOLOGY. -/
def State.nstr (s : State) : Nat := byteAt (s.sec secTopology) 0
def State.nshelf (s : State) : Nat := byteAt (s.sec secTopology) 1
def State.swarmPos (s : State) : Nat := byteAt (s.sec secTopology) 2
/-- R553: string `n` is in use. -/
def State.strUsed (s : State) (n : Nat) : Bool := decide (n < s.nstr)
def State.strModules (s : State) (n : Nat) : Nat := byteAt (s.sec secTopology) (4 + 16 * n)
def State.strShelf (s : State) (n : Nat) : Nat := byteAt (s.sec secTopology) (5 + 16 * n)
def State.strContract (s : State) (n : Nat) : Nat := byteAt (s.sec secTopology) (6 + 16 * n)
def State.strCarries (s : State) (n : Nat) : Bool := bitOf (byteAt (s.sec secTopology) (7 + 16 * n)) 0
/-- Nominal current, 0.1 A. -/
def State.strInom (s : State) (n : Nat) : Nat := u16At (s.sec secTopology) (8 + 16 * n)
/-- R377: the precharge time limit, ms. -/
def State.strPrecharge (s : State) (n : Nat) : Nat := u16At (s.sec secTopology) (12 + 16 * n)
/-- Nominal voltage, 0.1 V. -/
def State.strVnom (s : State) (n : Nat) : Nat := u16At (s.sec secTopology) (10 + 16 * n)
def State.shelfFeed (s : State) (h : Nat) : Nat := byteAt (s.sec secTopology) (132 + 8 * h)
def State.shelfZone (s : State) (h : Nat) : Nat := u16At (s.sec secTopology) (134 + 8 * h)
def State.modCells (s : State) (m : Nat) : Nat := byteAt (s.sec secTopology) (164 + 4 * m)
def State.modCurve (s : State) (m : Nat) : Nat := byteAt (s.sec secTopology) (165 + 4 * m)
/-- Nameplate capacity, 0.1 Ah. -/
def State.modCapacity (s : State) (m : Nat) : Nat := u16At (s.sec secTopology) (166 + 4 * m)
/-- Module `m` is present in the topology: its position lies in its string (R16, R17). -/
def State.modUsed (s : State) (m : Nat) : Bool := s.strUsed (m / 16) && decide (m % 16 < s.strModules (m / 16))
def State.strMods (s : State) (n : Nat) : List Nat := (List.range (s.strModules n)).map (16 * n + ·)
def State.strings (s : State) : List Nat := List.range (min 8 s.nstr)

/-! R77: CONVERTER. -/
def State.grpType (s : State) (g : Nat) : Nat := byteAt (s.sec secConverter) (32 * g)
def State.grpTarget (s : State) (g : Nat) : Nat := byteAt (s.sec secConverter) (32 * g + 1)
def State.grpPhases (s : State) (g : Nat) : Nat := byteAt (s.sec secConverter) (32 * g + 2)
def State.grpMask (s : State) (g : Nat) : Nat := u32At (s.sec secConverter) (32 * g + 4)
def State.grpFsw (s : State) (g : Nat) : Nat := u32At (s.sec secConverter) (32 * g + 8)
def State.grpRating (s : State) (g : Nat) : Nat := u32At (s.sec secConverter) (32 * g + 12)
def State.grpInner (s : State) (g : Nat) : Nat := byteAt (s.sec secConverter) (32 * g + 17)
def State.grpSyncIn (s : State) (g : Nat) : Bool := bitOf (byteAt (s.sec secConverter) (32 * g + 18)) 0
/-- Phase current rating, mA. -/
def State.grpPhRating (s : State) (g : Nat) : Nat := u32At (s.sec secConverter) (32 * g + 20)
def State.rtUsed (s : State) (p : Nat) : Bool := bitOf (byteAt (s.sec secConverter) (384 + 8 * p)) 0
/-- Rated current of a rectifier port, 0.1 A. -/
def State.rtRated (s : State) (p : Nat) : Nat := u16At (s.sec secConverter) (386 + 8 * p)
/-- The string–bus group of a string (R19). -/
def State.strGroup (s : State) (n : Nat) : Option Nat :=
  (List.range 12).find? (fun g => s.grpType g == 1 && s.grpTarget g == n)

/-! R78: METER; R79: FEEDS; R85: PROFILE. -/
def State.chUsed (s : State) (n : Nat) : Bool := byteAt (s.sec secMeter) (16 * n) == 1
def State.chTs (s : State) (n : Nat) : Nat := byteAt (s.sec secMeter) (16 * n + 1)
def State.chNominal (s : State) (n : Nat) : Nat := u32At (s.sec secMeter) (16 * n + 4)
def State.chRdb (s : State) (n : Nat) : Nat := u32At (s.sec secMeter) (16 * n + 8)
def State.feedCount (s : State) (f : Nat) : Nat := byteAt (s.sec secFeeds) (8 * f)
def State.feedMembers (s : State) (f : Nat) : List Nat :=
  (List.range (min 3 (s.feedCount f))).map (fun i => byteAt (s.sec secFeeds) (8 * f + 1 + i))
def State.feedDead (s : State) (f : Nat) : Nat := u16At (s.sec secFeeds) (8 * f + 4)
def State.efuLimit (s : State) (c : Nat) : Nat := u16At (s.sec secFeeds) (24 + 8 * c)
def State.efuTimer (s : State) (c : Nat) : Nat := u16At (s.sec secFeeds) (26 + 8 * c)
def State.efuSoa (s : State) (c : Nat) : Nat := u32At (s.sec secFeeds) (28 + 8 * c)
def State.busRating (s : State) : Nat := u32At (s.sec secProfile) 4
def State.acRating (s : State) : Nat := u32At (s.sec secProfile) 8
def State.busNominal (s : State) : Nat := u32At (s.sec secProfile) 12
def State.broodEnergy (s : State) : Nat := u32At (s.sec secProfile) 16
def State.broodPower (s : State) : Nat := u32At (s.sec secProfile) 20

/-- R75: the first ball that the pin function map in force gives a function code. -/
def State.ballOf (s : State) (func : Nat) : Option Nat :=
  let b := s.sec secPinmap
  ((List.range (u32At b 0)).find? (fun i => u16At b (6 + 8 * i) == func)).map (fun i => u16At b (4 + 8 * i))

/-! ### Numbers -/

/-- Rounded division of an integer, ties away from zero (R47). -/
def divRound (n : Int) (d : Nat) : Int :=
  let q := (2 * n.natAbs + d) / (2 * d)
  if n < 0 then -(q : Int) else q

/-- Rounding of an exact quotient to an integer, ties away from zero. -/
def ratRound (r : Rat) : Int := divRound r.num r.den

abbrev oneQ30 : Int := 1073741824
def q30Min : Int := -2147483648
def q30Max : Int := 2147483647

/-- Saturation at the limits of Q2.30, with whether it happened (R47). -/
def satQ30 (v : Int) : Int × Bool :=
  if v < q30Min then (q30Min, true) else if q30Max < v then (q30Max, true) else (v, false)

/-! ### Measured quantities (R140, R160) -/

def State.code (s : State) (n : Nat) : Int := (s.rd (Reg.MTR_CH_DATA n)).toInt
/-- Full scale of a current channel, A: 0.320 V over the shunt in force (nΩ). -/
def State.ampFs (s : State) (n : Nat) : Rat := (320000000 : Rat) / (s.rd (Reg.MTR_CH_TRK n)).toNat
/-- Full scale of a voltage channel, V: 1.200 V times the ratio in force (UQ16.16). -/
def State.voltFs (s : State) (n : Nat) : Rat := (12 : Rat) / 10 * (s.rd (Reg.MTR_CH_TRK n)).toNat / 65536
def State.amps (s : State) (n : Nat) : Rat := s.code n * s.ampFs n / 8388608
def State.volts (s : State) (n : Nat) : Rat := s.code n * s.voltFs n / 8388608
/-- The channels of an accumulator set: current, voltage (R142, R160). -/
def setChannels (a : Nat) : Nat × Nat := if a < 8 then (a, a + 8) else if a = 8 then (17, 16) else (19, 18)
/-- The power product's full scale of a set, W (R149). -/
def State.wattFs (s : State) (a : Nat) : Rat := s.ampFs (setChannels a).1 * s.voltFs (setChannels a).2
/-- Net metered energy of a set, EIN − EOUT, in 0.1 mWh (R160). -/
def State.netEnergy (s : State) (a : Nat) : Int :=
  (s.rd64 (Reg.MTR_SET_EIN_LO a) (Reg.MTR_SET_EIN_HI a) : Int) - s.rd64 (Reg.MTR_SET_EOUT_LO a) (Reg.MTR_SET_EOUT_HI a)

/-- Net energy of a set with the residues of its accumulators, 0.1 mWh (R161). -/
def State.netFine (s : State) (a : Nat) : Rat :=
  let r : Nat → Rat := fun k => ((kvGet (fun _ => 0) s.mtr.resid (4 * a + k) : Nat) : Rat) / 4294967296
  (s.netEnergy a : Rat) + r 2 - r 3

/-- Class of an accumulator set: 0 A, 1 B, 2 C, 3 U (R168). -/
def State.setClass (s : State) (a : Nat) : Nat := fldOf (s.rd Reg.MTR_CLASS) (2 * a) 2
abbrev classU : Nat := 3

/-- A quotient; the spec states none by zero (DESIGN CHOICE, log entry 18). -/
def openDiv (a b : Rat) : Rat := if b = 0 then Config.divZero a else a / b

def clampI (v lo hi : Int) : Int := max lo (min v hi)

end Sys2Proof.Machine
end

