-- ==== Sys2Proof/Machine/Flags.lean ====
section
/-!
DEFINITION. Event sources and the interrupt controller (chapter 15): the level conditions of R487, pending and
signalled sources (R485, R488), routes (R483, R489), coalescing and the IRQ balls (R490, R491).
-/
namespace Sys2Proof.Machine

/-- R487: the reserved sources, and the keeper banks R484 closes to the host. -/
def reservedEvents : List (Nat × Nat) :=
  [(34, 47), (50, 63), (97, 99), (108, 111), (143, 143), (153, 155), (167, 167), (195, 223)]

def eventReserved (ev : Nat) : Bool := reservedEvents.any (fun r => decide (r.1 ≤ ev ∧ ev ≤ r.2))

/-- R133: entries held by queue `q`. -/
def State.qDepth (s : State) (q : Nat) : Nat := 2 ^ s.fg (Fld.SYS_Q_CFG_DEPTHLOG q)

def State.qCount (s : State) (q : Nat) : Nat :=
  (s.fg (Fld.SYS_Q_PTR_TAIL q) + 2 * s.qDepth q - s.fg (Fld.SYS_Q_PTR_HEAD q)) % (2 * s.qDepth q)

/-- R486: the sensing mode of ball source n. -/
def State.evinMode (s : State) (n : Nat) : Nat := fldOf (s.rd Reg.INTC_BCFG) (3 * n) 3

/-- R487: the condition of each level source. -/
def levelCond (s : State) (ev : Nat) : Bool :=
  if 64 ≤ ev ∧ ev ≤ 95 then s.qCount (ev - 32) != 0
  else if 112 ≤ ev ∧ ev ≤ 127 then s.rd (Reg.TMR_TM_FLAG (ev - 112)) != 0
  else if 128 ≤ ev ∧ ev ≤ 135 then
    (s.ballOf (0x78 + (ev - 128))).isSome &&
      ((s.evinMode (ev - 128) == 3 && bitOf s.irq.evinLevel (ev - 128)) ||
       (s.evinMode (ev - 128) == 4 && !bitOf s.irq.evinLevel (ev - 128)))
  else match ev with
  | 96 => (List.range 64).any (fun q => s.fb (Fld.SYS_Q_STAT_OVF q))
  | 103 => s.fb Fld.CLK_STAT_XT32_FAIL || s.fb Fld.CLK_STAT_HFXO_FAIL || s.fb Fld.CLK_STAT_PLL_LOL
  | 104 => s.fb Fld.CLK_CDC_OVR
  | 105 => s.fb Fld.RTC_STAT_ALMF
  | 106 => s.fb Fld.RTC_STAT_OSF
  | 136 => s.fb Fld.MTR_STAT_SNAPRDY
  | 139 => s.fb Fld.MTR_REF_WSTK
  | 141 => s.fb Fld.LDG_STAT_DEFER
  | 142 => s.fb Fld.LDG_STAT_RECOV
  | 144 => s.fb Fld.ORD_STAT_GFAIL
  | 145 => s.fb Fld.ORD_STAT_OVERLOAD
  | 146 => s.fb Fld.ORD_STAT_BROOD_SHORT
  | 148 => s.fb Fld.SCT_FLAG_CONFIRM
  | 149 => s.fb Fld.SCT_FLAG_SQUASH
  | 150 => s.fb Fld.SCT_FLAG_EXHAUST
  | 156 => (List.range 12).any (fun g => s.fb (Fld.CNV_CG_FLAG_OCP g))
  | 157 => (List.range 12).any (fun g => s.fb (Fld.CNV_CG_FLAG_SYNCLOSS g) || s.fb (Fld.CNV_CG_FLAG_SYNCERR g))
  | 158 => s.fb Fld.CNV_STAT_ACLIMS
  | 159 => (List.range 12).any (fun g =>
      s.fb (Fld.CNV_CG_FLAG_CSERR g) || s.fb (Fld.CNV_CG_FLAG_BRKLIM g) || s.fb (Fld.CNV_CG_FLAG_BALLIM g))
  | 163 => s.rd Reg.EST_DISAGREE != 0
  | 166 => s.fb Fld.EST_NV_WERR || s.fb Fld.EST_NV_WEAR
  | 168 => s.fb Fld.EFU_THR_REQ
  | 169 => s.fb Fld.EFU_STAT_TRIPPED
  | 170 => s.fb Fld.EFU_STAT_FEEDLOST
  | 172 => s.fb Fld.EFU_STAT_ESTOPS
  | 175 => s.fb Fld.SEQ_STAT_SEQ_PDF || s.fb Fld.SEQ_STAT_SEQ_PUF
  | 178 => s.fb Fld.SEQ_STAT_COLLS
  | 181 => s.fb Fld.TWI_TW1_STAT_DONE
  | 182 => s.fb Fld.TWI_TW1_STAT_RXFULL
  | 183 => s.fb Fld.TWI_TW1_STAT_NACK || s.fb Fld.TWI_TW1_STAT_ARB || s.fb Fld.TWI_TW1_STAT_ARB_COND ||
      s.fb Fld.TWI_TW1_STAT_TMO || s.fb Fld.TWI_TW1_STAT_PECFAIL
  | 186 => s.fb Fld.WGL_STAT_LINKLOSS || s.fb Fld.WGL_STAT_DUP
  | 188 => s.fb Fld.WGL_BAR_STAT_MISS
  | _ => false

/-- The level sources that the register map shows, for the sampling of R485. -/
def levelEvents : List Nat :=
  (List.range 32).map (· + 64) ++ [96, 103, 104, 105, 106] ++ (List.range 24).map (· + 112) ++
  [136, 139, 141, 142, 144, 145, 146, 148, 149, 150, 156, 157, 158, 159, 163, 166, 168, 169, 170, 172, 175, 178,
   181, 182, 183, 186, 188]

def levelMask (s : State) : Nat := levelEvents.foldl (fun m ev => if levelCond s ev then m + 2 ^ ev else m) 0

/-- R485: set an edge source pending (a set that meets its clear leaves it set, R10). -/
def State.raise (s : State) (ev : Nat) : State :=
  if eventReserved ev then s else s.setIrq { s.irq with latch := s.irq.latch ||| 2 ^ ev }

/-- Pending sources: the edge latches, and the level conditions as last sampled (R485). -/
def State.pendMask (s : State) : Nat := s.irq.latch ||| s.irq.level

/-- The masks of EV0 to EV255, from the eight MASK words (R488). -/
def State.maskWords (s : State) : Nat :=
  (List.range 8).foldl (fun m i => m + (s.rd (Reg.INTC_MASK_SET i)).toNat * 2 ^ (32 * i)) 0

/-- R483: the sources that go to host target `h`, as a mask. -/
def State.routeMask (s : State) (h : Nat) : Nat :=
  [2, 3, 4, 5, 6].foldl (fun m i =>
    let r := (s.rd (Reg.INTC_ROUTE i)).toNat
    m + (if h = 1 then r else 0xFFFFFFFF - r) * 2 ^ (32 * i)) (if h = 0 then 0xFFFF * 2 ^ 32 else 0xFFFF * 2 ^ 48)

/-- R488: the sources signalled at host target `h`: pending, unmasked and routed to it, as a mask. -/
def State.signalledAt (s : State) (h : Nat) : Nat :=
  s.pendMask &&& (2 ^ 256 - 1 - s.maskWords) &&& s.routeMask h

def State.urgent (s : State) (ev : Nat) : Bool := bitOf (s.rd (Reg.INTC_URG (ev / 32))).toNat (ev % 32)
def State.wakes (s : State) (ev : Nat) : Bool := bitOf (s.rd (Reg.INTC_WAKE (ev / 32))).toNat (ev % 32)

/-- The sources of a mask, rising. -/
def sourcesOf (m : Nat) : List Nat := if m = 0 then [] else bitsOf 256 m

/-- The sources of `new` that are not among `old`. -/
def newlyIn (old new : Nat) : List Nat := sourcesOf (new &&& (2 ^ 256 - 1 - old))

/-- One host target after its signalled sources changed from `old` to `new` (R490, R491, R494): the signal count n
saturating at 255 as INTC_IRQ_STAT shows it, and whether the IRQ ball is asserted. -/
def targetAfter (t : IrqTarget) (count : Nat) (old new : Nat) (urgent : Nat → Bool) : IrqTarget :=
  let added := newlyIn old new
  let swapped := old != 0 && (old &&& new) == 0
  if new = 0 then ⟨0, false⟩
  else
    let n := if swapped && t.ball then t.n else min 255 (t.n + added.length)
    ⟨n, t.ball || (decide (count ≤ n) && !added.isEmpty) || added.any urgent⟩

/-- R486: ball source n has met the edge that its mode names since the event logic saw it last. -/
def State.evinEdge (s : State) (n : Nat) : Bool :=
  let now := bitOf s.irq.evinLevel n
  let was := bitOf s.irq.evinSeen n
  now != was && (s.ballOf (0x78 + n)).isSome &&
    (s.evinMode n == 2 || (s.evinMode n == 0 && now) || (s.evinMode n == 1 && was))

/-- R485, R486: the ball sources and the level conditions as sampled now. -/
def senseEvents (s : State) : State :=
  let s := if s.irq.evinLevel = s.irq.evinSeen then s
    else ((List.range 8).filter s.evinEdge).foldl (fun s n => s.raise (128 + n)) s
  s.setIrq { s.irq with level := levelMask s, evinSeen := s.irq.evinLevel }

/-- R31, R165: the way into WATCH is abandoned; the slow counter stops and its count is discarded. -/
def abandonWatch (s : State) : State :=
  if s.fg Fld.SYS_PWR_STAT_STATE = 2 ∧ s.fb Fld.SYS_PWR_STAT_TRANS ∧ s.fg Fld.SYS_PWR_REQ_REQ ≠ 2 then
    ((s.fs Fld.SYS_PWR_STAT_TRANS 0).fs Fld.MTR_STAT_SLOW 0).fs Fld.MTR_STAT_HAND 0
  else s

def abandonIf (wake : Bool) (s : State) : State := if wake then abandonWatch s else s

/-- Sample the event conditions (R485), and re-evaluate both host targets against what they showed last: newly signalled
sources count (R490), an empty target releases its ball (R491), and a newly signalled source with its WAKE bit set is a
WATCH wake condition (R492). In DORMANT the controller senses nothing and holds the balls, and what it missed shows at
the transition to READY (R493); both balls are released while device-wide reset is asserted (R491). -/
def settle (s : State) : State :=
  if s.rst.asserted then s.setIrq { s.irq with t0 := ⟨0, false⟩, t1 := ⟨0, false⟩ }
  else if s.fg Fld.SYS_PWR_STAT_STATE = 0 then s
  else
    let s1 := senseEvents s
    let b0 := s1.signalledAt 0
    let b1 := s1.signalledAt 1
    let wake := (newlyIn s.irq.sig0 b0 ++ newlyIn s.irq.sig1 b1).any s1.wakes
    (abandonIf wake s1).setIrq { s1.irq with
      sig0 := b0, sig1 := b1,
      t0 := targetAfter s1.irq.t0 (s1.fg (Fld.INTC_COAL_H_COUNT 0)) s.irq.sig0 b0 s1.urgent,
      t1 := targetAfter s1.irq.t1 (s1.fg (Fld.INTC_COAL_H_COUNT 1)) s.irq.sig1 b1 s1.urgent,
      wake := s1.irq.wake || (wake && s1.fg Fld.SYS_PWR_STAT_STATE == 1) }

end Sys2Proof.Machine
end

