-- ==== Sys2Proof/Machine/Comb.lean ====
section
/-!
DEFINITION. The comb tiles (R42 to R59): their windows, what they read, and what one update of each kind computes.
-/
namespace Sys2Proof.Machine

/-- R98: WB(n), the window of tile n. -/
def tileBase (n : Nat) : Nat := 0x200000 + 0x1000 * n

def State.tileKind (s : State) (n : Nat) : Nat := s.fg (Fld.CMB_T_ID_KIND n)
def State.tileUsed (s : State) (n : Nat) : Bool := s.tileKind n != 0
def State.groupRuns (s : State) (g : Nat) : Bool := s.fg (Fld.CNV_CG_STAT_MODE g) != 0

/-- R453: the system clock runs; while the PLL re-locks after a loss, the tiles hold (R453). -/
def State.sysclkOk (s : State) : Bool := !s.clk.tilesHeld

/-- R94 step 3: a LOAD has stopped the tiles, and its image has not taken effect yet. -/
def State.loadStopped (s : State) : Bool := match s.nvm.load with
  | some (_, _, some _) => true
  | _ => false

/-- READY or FLOW (R22). -/
def State.awake (s : State) : Bool := decide (2 ≤ s.fg Fld.SYS_PWR_STAT_STATE)

/-- R45: a TICK or STROBE tile runs in READY and FLOW with an image loaded; a PWM tile while its group runs. -/
def State.tileRuns (s : State) (n : Nat) : Bool :=
  s.tileUsed n && s.image.isSome && s.awake && s.sysclkOk && !s.loadStopped &&
  (s.fg (Fld.CMB_T_ID_DOMAIN n) != 1 || s.groupRuns (s.fg (Fld.CMB_T_ID_DSEL n)))

/-- How a parameter word of a window is accessed (the tables of R50 to R59). -/
inductive TParam where
  /-- Read-only. -/
  | ro
  /-- Live or held, with its range check. -/
  | rw (held : Bool) (mask : Nat) (ok : Nat → Bool)
  /-- Staged, with its range check. -/
  | staged (ok : Nat → Bool)
  /-- Write-only control. -/
  | wo

def anyValue (_ : Nat) : Bool := true

/-- The parameter words each kind defines, by offset in the window (R48, R49). -/
def tileParam (kind off : Nat) : Option TParam :=
  let q : Option TParam := some (.staged anyValue)
  let step : Nat → Bool := fun v => decide (1 ≤ v ∧ v ≤ 0x7FFFFFFF)
  let deb : Nat → Bool := fun v => decide (1 ≤ v ∧ v ≤ 65535)
  match kind with
  | 1 => if off = 0x40 then some (.rw true 0xFFFFFFFF (fun v => decide (v ≤ 1)))
         else if 0x44 ≤ off ∧ off ≤ 0x64 then q
         else if off = 0x68 then some (.rw false 0xFFFFFFFF anyValue)
         else if off = 0x6C ∨ off = 0x70 then some .ro else none
  | 2 => if off = 0x40 ∨ off = 0x44 then q
         else if off = 0x48 ∨ off = 0x4C then some (.staged step)
         else if off = 0x50 ∨ off = 0x54 then some .ro else none
  | 3 => if off = 0x40 ∨ off = 0x44 then q
         else if off = 0x48 then some (.staged (fun v => decide (v ≤ 0x3FFFFFFF)))
         else if off = 0x4C ∨ off = 0x50 then some (.rw false 0xFFFFFFFF deb)
         else if off = 0x54 then some (.rw false 1 anyValue)
         else if off = 0x58 then some .wo
         else if off = 0x5C then some .ro else none
  | 4 => if off = 0x40 ∨ off = 0x44 ∨ off = 0x4C then some .ro
         else if off = 0x48 then some (.rw false 0xFFFF anyValue)
         else if 0x800 ≤ off ∧ off < 0xCE0 then some .ro else none
  | 5 => if off = 0x40 ∨ off = 0x50 ∨ off = 0x54 ∨ off = 0x58 then some .ro
         else if 0x44 ≤ off ∧ off ≤ 0x4C then q
         else if off = 0x5C then some .wo else none
  | 6 => if off = 0x40 ∨ off = 0x4C then some .ro
         else if off = 0x44 then some (.rw false 0xFFFFFFFF (fun v => decide (v ≤ 3)))
         else if off = 0x48 then some (.rw false 0xF anyValue) else none
  | _ => none

/-- A parameter word as a signed number. -/
def State.tp (s : State) (n off : Nat) : Int := (s.rd (tileBase n + off)).toInt
def State.tn (s : State) (n off : Nat) : Nat := (s.rd (tileBase n + off)).toNat
def State.tput (s : State) (n off : Nat) (v : Int) : State := s.wr (tileBase n + off) (BitVec.ofInt 32 v)

/-- R83: byte `i` of the FSM record of tile `n`, 0 when it has none. -/
def State.fsmByte (s : State) (n i : Nat) : Nat :=
  let b := s.sec secFsm
  match (List.range (b.length / 1252)).find? (fun k => byteAt b (1252 * k) == n) with
  | some k => byteAt b (1252 * k + i)
  | none => 0

def thmIn0 : ThmIn := ⟨false, 0, none, false, 0, 0, 0, 0, 0⟩
def State.thmIn (s : State) (n : Nat) : ThmIn := kvGet (fun _ => thmIn0) s.thm.ins n
def thmZone0 : ThmZone := ⟨[], 0, 0, 0⟩
def State.thmZone (s : State) (h : Nat) : ThmZone := kvGet (fun _ => thmZone0) s.thm.zones h

/-- R496: the temperature an input supplies, 0.1 °C; none while it is OFF or has given none. -/
def State.tempOf (s : State) (n : Nat) : Option Int :=
  if 15 < n ∨ s.fg (Fld.THM_TS_CFG_TYPE n) = 0 then none else (s.thmIn n).last

/-- R285: a sample of PHn_CS against CSREF, µV, as Q2.30 of the phase current rating of the group; the input saturates at
±1.6 V (R542). -/
def State.csQ (s : State) (g : Nat) (uv : Int) : Int :=
  ratRound ((clampI uv (-1600000) 1600000 : Rat) * 1073741824 / (max 1 (s.fg (Fld.CNV_CG_SNS_CSGAIN g)) * 10000 : Nat))

/-- R271: the group that a phase belongs to. -/
def State.phaseGroup (s : State) (n : Nat) : Option Nat :=
  (List.range 12).find? (fun g => s.grpType g != 0 && bitOf (s.grpMask g) n)

/-- R46, class 0x3: the current of a phase; one of no group has no rating, and reads 0. -/
def State.phaseSense (s : State) (sense : List Int) (n : Nat) : Int :=
  match s.phaseGroup n with
  | some g => s.csQ g (sense.getD n 0)
  | none => 0

/-- R46: the value a source code shows to a tile. `sense` holds the CS samples of PH0 to PH31, µV against CSREF, and
`balls` the codes of the balls that are high after their attributes. -/
def srcValue (s : State) (sense : List Int) (balls : List Nat) (code : Nat) : Int :=
  let i := code % 4096
  match code / 4096 with
  | 1 => (s.rd (if i % 2 = 0 then Reg.CMB_T_OUT0 (i / 2) else Reg.CMB_T_OUT1 (i / 2))).toInt
  | 2 => 128 * kvGet (fun _ => 0) s.mtr.full i
  | 3 => s.phaseSense sense i
  | 4 => kvGet (fun _ => 0) s.pub i
  | 5 => if balls.contains i then oneQ30 else 0
  | 6 => let t : Int := if i < 16 then (s.tempOf i).getD 0
           else if i % 2 = 0 then s.fgs (Fld.THM_DIE_T0 ((i - 16) / 2)) else s.fgs (Fld.THM_DIE_T1 ((i - 16) / 2))
         divRound (t * oneQ30) 2560
  | 7 => if bitOf (s.rd (Reg.CMB_T_OUT0 (i / 8))).toNat (i % 8) then oneQ30 else 0
  | _ => 0

def tileHid0 : TileHid := ⟨0, 0, 0, 0, false⟩
def State.hid (s : State) (n : Nat) : TileHid := kvGet (fun _ => tileHid0) s.tiles n
def State.setHid (s : State) (n : Nat) (h : TileHid) : State := s.setTiles (kvSet (fun _ => tileHid0) s.tiles n h)

def State.tileSat (s : State) (n : Nat) (b : Bool) : State := if b then s.fs (Fld.CMB_T_STAT_SAT n) 1 else s

def State.outputs (s : State) (n : Nat) (o0 o1 : Int) : State :=
  (s.wr (Reg.CMB_T_OUT0 n) (BitVec.ofInt 32 o0)).wr (Reg.CMB_T_OUT1 n) (BitVec.ofInt 32 o1)

/-- R34: the profile's outer-loop gain scale, in tenths. -/
def gainTenths (profile : Nat) : Int := match profile with | 1 => 7 | 2 => 14 | 3 => 7 | _ => 10

/-- A sum of Q4.28 × Q2.30 products held in units of 2^-58 / 10, rounded to the units of Q2.30 (R47; DEDUCED, log
entry 9). What is stored is clamped to UMIN and UMAX, so it never saturates. -/
def divQ (v : Int) : Int := divRound v 2684354560

/-- R50: one CMP update; e[k] is as OUT1 and the state hold it. -/
def updateCmp (s : State) (n : Nat) (in0 in1 in2 : Int) : State :=
  let (e, se) := satQ30 (in0 - in1)
  let h := s.hid n
  let g := if s.tn n 0x6C = 1 then gainTenths (s.fg Fld.SYS_PROFILE_PROFILE) else 10
  let umax := s.tp n 0x60
  let umin := s.tp n 0x64
  let ff := 10 * s.tp n 0x68 * in2
  if s.tn n 0x40 = 0 then
    let u1 := s.tp n 0x70
    let u := clampI (divQ (g * s.tp n 0x44 * e + g * s.tp n 0x48 * h.e1 + g * s.tp n 0x4C * h.e2
      - 10 * s.tp n 0x50 * u1 - 10 * s.tp n 0x54 * h.u2 + ff)) umin umax
    (((s.outputs n u e).tput n 0x70 u).setHid n { h with e1 := e, e2 := h.e1, u2 := u1 }).tileSat n se
  else
    let i := clampI (divQ (2684354560 * s.tp n 0x70 + g * s.tp n 0x5C * e)) umin umax
    let u := clampI (divQ (g * s.tp n 0x58 * e + 2684354560 * i + ff)) umin umax
    (((s.outputs n u e).tput n 0x70 i).setHid n { h with e1 := e, e2 := h.e1, u2 := 0 }).tileSat n se

/-- R52: one LIM update. -/
def updateLim (s : State) (n : Nat) (in0 in1 in2 : Int) : State :=
  let dyn := s.tn n 0x50
  let hi := if 1 ≤ dyn then min (s.tp n 0x40) in1 else s.tp n 0x40
  let lo := if dyn = 2 then max (s.tp n 0x44) in2 else s.tp n 0x44
  let target := if hi < lo then lo else clampI in0 lo hi
  let p := s.tp n 0x54
  let q := if p ≤ target then min target (p + s.tp n 0x48) else max target (p - s.tp n 0x4C)
  (s.outputs n q (if q = in0 then 0 else oneQ30)).tput n 0x54 q

/-- R54: the state and debounce count of a WIN tile after one update, with the direction being counted. -/
def winNext (hi lo hys : Int) (debSet debClr st cnt dir : Nat) (latch clr : Bool) (x : Int) : Nat × Nat × Nat :=
  let count := fun (cond : Bool) (d lim dest : Nat) =>
    if cond then
      let c := if dir = d then cnt + 1 else 1
      if lim ≤ c then (dest, 0, 0) else (st, c, d)
    else (st, 0, 0)
  if latch && clr && st != 0 then (0, 0, 0)
  else if st = 0 then
    if x > hi then count true 1 debSet 1 else count (decide (x < lo)) 2 debSet 2
  else if latch then (st, 0, 0)
  else if st = 1 then count (decide (x < hi - hys)) 3 debClr 0
  else count (decide (x > lo + hys)) 3 debClr 0

def updateWin (s : State) (n : Nat) (in0 : Int) : State :=
  let h := s.hid n
  let w := s.tn n 0x5C
  let (st, cnt, dir) := winNext (s.tp n 0x40) (s.tp n 0x44) (s.tp n 0x48) (s.tn n 0x4C) (s.tn n 0x50)
    (w % 4) (w / 65536) h.dir (bitOf (s.tn n 0x54) 0) h.clr in0
  ((s.outputs n (if st = 1 then oneQ30 else if st = 2 then -oneQ30 else 0) (if st = 0 then 0 else oneQ30)).tput n 0x5C
    ((st + 65536 * (min cnt 65535) : Nat) : Int)).setHid n { h with dir := dir, clr := false }

/-- R56: the input vector of an FSM tile. -/
def fsmVector (s : State) (n : Nat) (value : Nat → Int) : Nat :=
  let m := s.tn n 0x48
  let st := s.tn n 0x40
  let tmo := s.fsmByte n (36 + 2 * st) + 256 * s.fsmByte n (37 + 2 * st)
  maskOf 16 (fun i => bitOf m i &&
    (if i < 15 then decide (0 < value (s.fsmByte n (4 + 2 * i) + 256 * s.fsmByte n (5 + 2 * i)))
     else tmo != 0 && decide (tmo ≤ s.tn n 0x44)))

def updateFsm (s : State) (n : Nat) (value : Nat → Int) : State :=
  let st := s.tn n 0x40
  let v := fsmVector s n value
  let take := (List.range 16).find? (fun i => bitOf v i && bitOf (s.fsmByte n (228 + 16 * st + i)) 6)
  let (st', time) := match take with
    | some i => (s.fsmByte n (228 + 16 * st + i) % 64, 0)
    | none => (st, min 0xFFFFFFFF (s.tn n 0x44 + 1))
  ((s.outputs n (s.fsmByte n (164 + st')) st').tput n 0x40 st').tput n 0x44 time

/-- R58: one MAC update. The accumulator is 64 bits; a sum beyond it is a value the spec does not state (DEDUCED, log entry 9). -/
def updateMac (s : State) (n : Nat) (in0 in1 in2 : Int) : State :=
  let c0 := s.tp n 0x44
  let c1 := s.tp n 0x48
  let ofs := s.tp n 0x4C
  let mode := s.tn n 0x40
  if mode = 0 then
    let (o, b) := satQ30 (divRound (c0 * in0 * in1 + c1 * in2 * oneQ30 + ofs * 2 ^ 58) (2 ^ 58))
    (s.outputs n o 0).tileSat n b
  else if mode = 1 then
    let (o, b) := satQ30 (divRound (c0 * in0 + c1 * in1 + ofs * 2 ^ 28) (2 ^ 28))
    (s.outputs n o 0).tileSat n b
  else
    let (p, b) := satQ30 (divRound (c0 * in0 * in1) (2 ^ 58))
    let sum := toSigned 64 (s.rd64 (tileBase n + 0x54) (tileBase n + 0x58)) + p
    let (acc, s1) := if -(2 ^ 63 : Int) ≤ sum ∧ sum < 2 ^ 63 then (ofSigned 64 sum, s)
      else let (f, s1) := s.fresh; (f % 2 ^ 64, s1)
    let (o1, b1) := satQ30 (divRound (toSigned 64 acc) (2 ^ (s.tn n 0x50 % 32)))
    ((s1.outputs n p o1).wr64 (tileBase n + 0x54) (tileBase n + 0x58) acc).tileSat n (b || b1)

/-- R59: the input an RTE tile chooses, if any. -/
def rteChoice (s : State) (n : Nat) (ins : List Int) (value : Nat → Int) : Option Nat :=
  let en := s.tn n 0x48
  let best := fun (better : Int → Int → Bool) => (List.range 4).foldl (fun (b : Option Nat) i =>
    if bitOf en i then
      match b with
      | none => some i
      | some j => if better (ins.getD i 0) (ins.getD j 0) then some i else some j
    else b) none
  match s.tn n 0x40 with
  | 0 => some (if s.tn n 0x4C = 0 then s.tn n 0x44 % 4
               else (clampI (4 * value (s.tn n 0x4C) / oneQ30) 0 3).toNat)
  | 1 => best (fun a b => decide (b < a))
  | _ => best (fun a b => decide (a < b))

/-- R59. With no input enabled OUT1 is 0 too (DEDUCED, log entry 26). -/
def updateRte (s : State) (n : Nat) (ins : List Int) (value : Nat → Int) : State :=
  match rteChoice s n ins value with
  | some i => s.outputs n (ins.getD i 0) (268435456 * i)
  | none => s.outputs n 0 0

/-- R44: one update of tile `n`; a commit accepted before it applies first (R63). -/
def tileUpdate (n : Nat) (sense : List Int) (balls : List Nat) (s : State) : State :=
  if !s.tileRuns n then s
  else
    let s := if s.cpend (.tile n) then
        ((s.applyStaged (.tile n)).setCommits (s.commits.filter (fun g => !(g == .tile n)))) else s
    let value := srcValue s sense balls
    let a := s.rd (Reg.CMB_T_IN n)
    let b := s.rd (Reg.CMB_T_IN2 n)
    let ins := [value (fldOf a 0 16), value (fldOf a 16 16), value (fldOf b 0 16), value (fldOf b 16 16)]
    let i0 := ins.getD 0 0
    let i1 := ins.getD 1 0
    let i2 := ins.getD 2 0
    let t := match s.tileKind n with
      | 1 => updateCmp s n i0 i1 i2
      | 2 => updateLim s n i0 i1 i2
      | 3 => updateWin s n i0
      | 4 => updateFsm s n value
      | 5 => updateMac s n i0 i1 i2
      | _ => updateRte s n ins value
    t.fs (Fld.CMB_T_STAT_UPDCNT n) (t.fg (Fld.CMB_T_STAT_UPDCNT n) + 1)

/-- The words that hold a tile's state: zeroed by CLR_STATE and, for a PWM tile, as its group starts (R45). An FSM
returns to INIT. -/
def tileClear (n : Nat) (s : State) : State :=
  let s := s.setHid n tileHid0
  match s.tileKind n with
  | 1 => s.tput n 0x70 0
  | 2 => s.tput n 0x54 0
  | 3 => s.tput n 0x5C 0
  | 4 => (s.tput n 0x40 (s.tn n 0x4C)).tput n 0x44 0
  | 5 => s.wr64 (tileBase n + 0x54) (tileBase n + 0x58) 0
  | _ => s

end Sys2Proof.Machine
end

