-- ==== Sys2Proof/Machine/Signal.lean ====
section
/-!
DEFINITION. What one block tells another: error lines (R421, R424), removals (R21), propolis entries and waveform
triggers (R441, R443), wake conditions (R27, R30).
-/
namespace Sys2Proof.Machine

def State.powerState (s : State) : Nat := s.fg Fld.SYS_PWR_STAT_STATE

/-- A block drives its error line; the collector takes it at the end of the step (Machine/Fault.lean). -/
def State.driveLine (s : State) (n : Nat) : State := s.setFlt { s.flt with lines := s.flt.lines ++ [n] }

def State.removal (s : State) (r : Removal) : State :=
  if s.removals.contains r then s else s.setRemovals (s.removals ++ [r])

/-- R460: RTC seconds modulo 2^32. -/
def State.now (s : State) : Nat := s.rtc.sec % 2 ^ 32

/-- TTRUST: OSF is clear (R441). -/
def State.ttrust (s : State) : Bool := !s.fb Fld.RTC_STAT_OSF

/-- R441: an event entry, stamped at its cause (DEDUCED, log entry 10). -/
def State.logEvent (s : State) (code arg0 arg1 : Nat) (merged : Bool) : State :=
  s.setPrp { s.prp with queue := s.prp.queue ++ [⟨code, merged, arg0, arg1, s.now, s.rtc.ticks, s.ttrust⟩] }

/-- R434: a waveform slot's commit word marks it written; VALID mirrors R445. -/
def State.waveSeq (s : State) (w : Nat) : Nat :=
  if bitOf (s.fg Fld.PRP_REC_LOCK_VALID) w then (s.mramWord (0x400004 + 0x80000 * w)).toNat else 0

/-- R443: the unlocked slot that is empty or holds the oldest record. -/
def State.waveSlot (s : State) : Option Nat :=
  ((List.range 3).filter (fun w => !bitOf (s.fg Fld.PRP_REC_LOCK_LOCK) w)).foldl
    (fun (b : Option Nat) w => match b with
      | none => some w
      | some v => if s.waveSeq w < s.waveSeq v then some w else some v) none

/-- R443, R446: a waveform trigger. An enabled one starts a capture, or merges into the one that runs. -/
def State.waveTrigger (s : State) (trig arg : Nat) : State :=
  if !bitOf (s.fg Fld.PRP_TRIG_EN) trig then s
  else match s.prp.capt with
  | some c => (s.setPrp { s.prp with capt := some { c with trigCnt := min 65535 (c.trigCnt + 1) } }).logEvent
      0x08 c.slot trig false
  | none => match s.waveSlot with
    | none => s.logEvent 0x08 0xFF trig false
    | some w =>
      let c : Capture := ⟨w, trig, 0, s.now, s.rtc.ticks, s.ttrust, (s.rd Reg.ORD_EPOCH).toNat,
        s.fg Fld.MTR_CLASS_CLS, arg, (s.rd Reg.PRP_FCNT).toNat, none⟩
      let s := s.setPrp { s.prp with capt := some c }
      ((s.fs Fld.PRP_STAT_CAPT 1).fs Fld.PRP_STAT_SLOT w).logEvent 0x08 w trig false

/-- A wake condition of WATCH (R27): it also abandons a way into WATCH that has begun (R31). -/
def State.wakeWatch (s : State) : State :=
  if s.powerState = 1 then s.setPwr { s.pwr with wake := true } else abandonWatch s

/-- A wake condition of DORMANT (R30): it also abandons a way into DORMANT that has begun, and the request field then
reads AUTO (R31). -/
def State.wakeDormant (s : State) : State :=
  if s.powerState = 0 then s.setPwr { s.pwr with wake := true }
  else if s.fb Fld.SYS_PWR_STAT_TRANS ∧ s.fg Fld.SYS_PWR_REQ_REQ = 2 then
    ((s.fs Fld.SYS_PWR_STAT_TRANS 0).fs Fld.SYS_PWR_REQ_REQ 0).setPwr { s.pwr with dorm := 0 }
  else s

/-- R25: READY to FLOW. -/
def State.flowEnter (s : State) : State := if s.powerState = 2 then s.fs Fld.SYS_PWR_STAT_STATE 3 else s

/-! ### The writers of MRAM (R515, R516) -/

abbrev wEpoch : Nat := 1
abbrev wLedger : Nat := 2
abbrev wLog : Nat := 3
abbrev wLearned : Nat := 4
abbrev wWave : Nat := 5
abbrev wProgram : Nat := 6
abbrev wHost : Nat := 7

/-- The words of a run of bytes at an MRAM offset. -/
def byteWords (base : Nat) (b : List Byte) : List (Nat × Word) :=
  (List.range (b.length / 4)).map (fun i => (base + 4 * i, BitVec.ofNat 32 (u32At b (4 * i))))

/-- A write of the writer runs: it has been issued and has not completed. -/
def State.nvBusy (s : State) (w : Nat) : Bool := s.nvm.busy.contains w

/-- Words of the writer wait for the MRAM controller. -/
def State.nvWaits (s : State) (w : Nat) : Bool := s.nvm.words.any (fun x => x.1 == w)

/-- R515: the writer issues its words, in their order. -/
def nvIssue (w : Nat) (ws : List (Nat × Word)) (s : State) : State :=
  s.setNvm { s.nvm with
    words := s.nvm.words ++ ws.map (fun x => (w, x.1, x.2)), busy := s.nvm.busy.filter (· != w) ++ [w] }

/-- The writer's write is complete, or has ended. -/
def nvEnd (w : Nat) (s : State) : State := s.setNvm { s.nvm with busy := s.nvm.busy.filter (· != w) }

/-- The writer is reset: what it has not written yet is lost. -/
def nvDrop (w : Nat) (s : State) : State :=
  nvEnd w (s.setNvm { s.nvm with words := s.nvm.words.filter (fun x => x.1 != w) })

/-- One write of a writer: its first command issues it, and once every word has been written and verified the next one
completes it. -/
def nvRun (w : Nat) (issue complete : State → State) (s : State) : State :=
  if s.nvWaits w then s
  else if !s.nvBusy w then issue s
  else complete (nvEnd w s)

/-- R358: a trigger of a write of learned values that is not deferred. -/
def nvNow (s : State) : State :=
  if s.fb Fld.EST_CFG_PERS ∧ s.fb Fld.EST_STAT_RUN then
    (s.setEst { s.est with nvReq := true, nvNow := true }).fs Fld.EST_NV_WRITING 1
  else s

/-! ### Watchdogs (R473, R474) -/

/-- The watchdogs: 0 WD_H, 1 WD_K0, 2 WD_K1. -/
def State.wdEnabled (s : State) (w : Nat) : Bool := if w = 0 then s.fb Fld.WDG_H_CTL_EN else s.fb (Fld.WDG_K_STAT_EN (w - 1))

/-- R474, R38: the window fraction F in force. -/
def State.wdFraction (s : State) (w : Nat) : Nat :=
  if w = 0 ∧ s.fb Fld.SYS_PWR_STAT_COMPAT then 8 else s.fg Fld.ID_FUSE_WDF

def wdOpenFld (w : Nat) : Fld := if w = 0 then Fld.WDG_H_STAT_OPEN else Fld.WDG_K_STAT_OPEN (w - 1)

/-- R474: the window of an enabled watchdog opens; EV107 is WD_H's. -/
def wdOpen (w : Nat) (s : State) : State :=
  if !s.wdEnabled w || s.fb (wdOpenFld w) then s
  else
    let s := s.fs (wdOpenFld w) 1
    if w = 0 then s.raise 107 else s

/-- A watchdog's period starts at ACLK time `t`; with F = 0 its window is open from there (R476). -/
def wdStart (w t : Nat) (s : State) : State :=
  let s := (s.fs (wdOpenFld w) 0).setWdg (kvSet (fun _ => 0) s.wdg w t)
  if s.wdFraction w = 0 then wdOpen w s else s

end Sys2Proof.Machine
end

