-- ==== Sys2Proof/Machine/Conv.lean ====
section
/-!
DEFINITION. Converter groups (chapter 08): start, shadow and stop (R281 to R284), the PWM period (R271, R272), phase
balancing (R286), synchronisation (R289, R290), braking (R292) and rectifier trims (R295 to R298).
-/
namespace Sys2Proof.Machine

abbrev modeOff : Nat := 0
abbrev modePower : Nat := 1
abbrev modeBus : Nat := 2
abbrev modeShadow : Nat := 3
abbrev modeCharge : Nat := 4

def grp0 : Grp := ⟨0, 0, false, false, false, none, [], 0, false, 0, false, false, none, 0, 0, none, [], 0, 0⟩
def State.grp (s : State) (g : Nat) : Grp := kvGet (fun _ => grp0) s.cnv.grp g
def State.setGrp (s : State) (g : Nat) (v : Grp) : State :=
  s.setCnv { s.cnv with grp := kvSet (fun _ => grp0) s.cnv.grp g v }

def State.pubGet (s : State) (i : Nat) : Int := kvGet (fun _ => 0) s.pub i
def State.pubSet (s : State) (i : Nat) (v : Int) : State := s.setPub (kvSet (fun _ => 0) s.pub i v)

def State.mode (s : State) (g : Nat) : Nat := s.fg (Fld.CNV_CG_STAT_MODE g)

/-- R276: a group runs, for R25, R26 and R29. -/
def State.groupRunning (s : State) (g : Nat) : Bool :=
  s.mode g == modePower || s.mode g == modeBus || s.mode g == modeCharge

def State.anyGroupRunning (s : State) : Bool := (List.range 12).any s.groupRunning

/-- R25: FLOW to READY once the last running group has stopped. -/
def State.flowExit (s : State) : State :=
  if s.powerState = 3 ∧ !s.anyGroupRunning then s.fs Fld.SYS_PWR_STAT_STATE 2 else s

/-- R277: BUSSEL follows the mode; HLIM is 0 outside BUS. -/
def State.setMode (s : State) (g m : Nat) : State :=
  let s := s.fs (Fld.CNV_CG_STAT_MODE g) m
  let s := s.pubSet (0x060 + g) (if m = modeBus ∨ m = modeShadow then oneQ30 else 0)
  if m = modeBus then s else s.pubSet (0x080 + g) 0

/-- R284: a stop without a ramp: outputs in high impedance, DRVENg released. A PV group is no longer in CHARGE (R304). -/
def groupHardStop (g : Nat) (s : State) : State :=
  let s := if 2 ≤ s.fg (Fld.CHG_CG_STAT_STATE g) then s.fs (Fld.CHG_CG_STAT_STATE g) 0 else s
  let s := (s.setMode g modeOff).setGrp g { grp0 with syncN := 0 }
  let s := ((s.pubSet (0x040 + g) 0).pubSet (0x070 + g) 0).pubSet (0x0A0 + g) 0
  let s := ((s.fs (Fld.CNV_CG_STAT_SOFT g) 0).fs (Fld.CNV_CG_STAT_BRAKE g) 0).fs (Fld.CNV_CG_STAT_SYNCLOCK g) 0
  s.flowExit

/-- R284 where the group was not off. -/
def groupHardStopIf (g : Nat) (s : State) : State := if s.mode g = modeOff then s else groupHardStop g s

def allGroupsHardStop (s : State) : State := (List.range 12).foldl (fun s g => groupHardStopIf g s) s

def State.isPv (s : State) (g : Nat) : Bool := decide (2 ≤ s.grpType g)

/-- The groups that carry current into string `n` (R301). -/
def State.chargers (s : State) (n : Nat) : List Nat :=
  (List.range 12).filter (fun g =>
    (s.grpType g == 1 && s.grpTarget g == n && s.mode g == modePower && decide (0 < s.pubGet (0x040 + g))) ||
    (s.isPv g && s.grpTarget g == n && s.mode g == modeCharge && decide ((s.grp g).stage = 3)))

def State.charging (s : State) (n : Nat) : Bool := !(s.chargers n).isEmpty

/-- R61: the outer-loop tile of a group. -/
def State.grpOuter (s : State) (g : Nat) : Nat := byteAt (s.sec secConverter) (32 * g + 16)

/-- R63, R312: at an update of the outer-loop tile of a group that charges a string, an accepted commit of the string's
charge limits applies. -/
def chgApply (t : Nat) (s : State) : State :=
  if !s.tileRuns t then s
  else ((List.range 8).filter (fun n => s.cpend (.chg n) && (s.chargers n).any (fun g => s.grpOuter g == t))).foldl
    (fun s n => (s.applyStaged (.chg n)).setCommits (s.commits.filter (fun g => !(g == .chg n)))) s

/-- R281: the contactor condition of a type 1 group: its string CLOSED with KF confirming. -/
def State.contactorConfirmed (s : State) (n : Nat) : Bool :=
  s.fg (Fld.EFU_S_KSTAT_STATE n) == 3 && s.fb (Fld.EFU_S_KSTAT_KF n)

/-- R281 step 1 with the refusals of R281 and R287: an owner sets the mode of a group that is OFF. A type 1 group takes
POWER, BUS and SHADOW, a PV group CHARGE alone (R275, R301). -/
def groupStart (g m : Nat) (s : State) : State :=
  let ty := s.grpType g
  if ty = 0 ∨ ((2 ≤ ty) ≠ (m = modeCharge)) ∨ s.mode g ≠ modeOff then s
  else if s.fb (Fld.CNV_CG_FLAG_OCP g) ∨ (ty = 1 ∧ !s.contactorConfirmed (s.grpTarget g)) then s.removal (.group g)
  else
    let s := ((s.setMode g m).setGrp g { grp0 with stage := 1 }).fs (Fld.CNV_CG_STAT_SOFT g) 1
    let s := s.fs (Fld.CNV_CG_PER_P g) (32 * s.fg (Fld.CNV_CG_CFG_PER g))
    if m = modeShadow then s else s.flowEnter

/-- Fine units in a millisecond: 1 ms ÷ 78.125 ps (R269). -/
abbrev finePerMs : Nat := 12800000

/-- R280, R283: PREF starts to fall to 0 over the STOPT now set; a ramp under way goes on. -/
def State.newRamp (s : State) (g : Nat) : Option (Int × Nat × Nat) := match (s.grp g).ramp with
  | some r => some r
  | none => some (s.pubGet (0x040 + g), s.fg (Fld.CNV_CG_TIME_STOPT g) * finePerMs, 0)

/-- R283: the owner withdraws a group. Before PWM is released it stops at once. -/
def groupStop (g : Nat) (s : State) : State :=
  let x := s.grp g
  if s.mode g = modeOff then s
  else if x.stage < 3 then groupHardStop g s
  else s.setGrp g { x with stopping := true, ramp := s.newRamp g }

/-- Phases of a group, ascending (R271). -/
def State.phases (s : State) (g : Nat) : List Nat := bitsOf 32 (s.grpMask g)

/-- R271, R274: the offset of phase `k` of `n`; both legs of a type 3 cell share one. -/
def phaseOffset (ty n k p : Nat) : Nat :=
  if ty = 3 then (divRound (k / 2 * p : Nat) (max 1 (n / 2))).toNat else (divRound (k * p : Nat) (max 1 n)).toNat

/-- R272: the on-time that a duty `u` and a trim `t` (both Q2.30) give in a period of `p` fine units. -/
def onTime (u t : Int) (dmin dmax p : Nat) : Nat :=
  let d := clampI u (dmin * 16384 : Nat) (dmax * 16384 : Nat)
  let x : Rat := (d : Rat) / 1073741824 * (1 + (t : Rat) / 1073741824)
  (ratRound (max 0 (min 1 x) * p)).toNat

/-- R286: 0.03 in Q2.30. -/
abbrev trimLimit : Nat := 32212255

/-- R286: the trims of the phases after one period, from the period means (Q2.30). -/
def balance (kb balmin : Nat) (trims means : List Int) : List Int :=
  let n := means.length
  if n < 2 then trims
  else
    let m : Rat := (means.foldl (· + ·) 0 : Int) / (n : Rat)
    if |m| < (balmin : Rat) / 100 * 1073741824 then trims
    else
      let raw : List Rat := (trims.zip means).map (fun x => (x.1 : Rat) + (kb : Rat) / 65536 * (m - x.2))
      let mt : Rat := raw.foldl (· + ·) 0 / n
      let lim : Rat := 3 / 100 * 1073741824
      raw.map (fun t => ratRound (max (-lim) (min lim (t - mt))))

/-- R289: the period after one slew step of at most 1 % of the image frequency per millisecond, towards `tgt`. -/
def slewPeriod (per p tgt : Nat) : Nat :=
  if p = 0 ∨ tgt = 0 ∨ per = 0 then p
  else
    let df : Rat := (p : Rat) / (100 * (32 * per) * finePerMs)
    let f : Rat := 1 / (p : Rat)
    let ft : Rat := 1 / (tgt : Rat)
    let f' := if f < ft then min ft (f + df) else max ft (f - df)
    if f' = ft then tgt else (ratRound (1 / f')).toNat

/-- R280, R283: one period of the linear PREF ramp to 0 over its STOPT. -/
def rampPref (g p : Nat) (s : State) : State :=
  let x := s.grp g
  match x.ramp with
  | none => s
  | some (v0, total, t) =>
    let t := min total (t + p)
    let v := if total = 0 then 0 else divRound (v0 * (total - t : Int)) total
    (s.pubSet (0x040 + g) v).setGrp g { x with ramp := some (v0, total, t) }

/-- Zero the state of the group's PWM tiles (R45). -/
def zeroPwmTiles (g : Nat) (s : State) : State :=
  (List.range 64).foldl (fun s n =>
    if s.tileUsed n && s.fg (Fld.CMB_T_ID_DOMAIN n) == 1 && s.fg (Fld.CMB_T_ID_DSEL n) == g then tileClear n s else s) s

/-- The summed phase current of the last period, Q2.30 of the phase rating, from the published ISUM inputs. -/
def sumMeans (means : List Int) : Int := means.foldl (· + ·) 0

/-- R281 step 4 and 5: the envelope rises by P ÷ SSTIME a period and ends soft start at 1.0. -/
def envelopeStep (g p : Nat) (s : State) : State :=
  let x := s.grp g
  let ss := s.fg (Fld.CNV_CG_TIME_SSTIME g) * (finePerMs / 10)
  let env := if ss = 0 then 1073741824 else min 1073741824 (x.env + (divRound (p * 1073741824 : Nat) ss).toNat)
  let s := ((s.setGrp g { x with env := env }).pubSet (0x070 + g) env).pubSet (0x0A0 + g) (-(env : Int))
  if env = 1073741824 then s.fs (Fld.CNV_CG_STAT_SOFT g) 0 else s

/-- R292: the end of braking at a period start. -/
def brakeEnd (g : Nat) (sum : Int) (s : State) : State :=
  let x := s.grp g
  if !s.fb (Fld.CNV_CG_STAT_BRAKE g) then s
  else
    let n := x.brakeN + 1
    let byMax := decide (s.fg Fld.CNV_BRK_BRK_MAX ≤ n)
    if !s.cnv.overshoot || decide (sum ≤ 0) then
      (s.setGrp g { x with brakeN := 0 }).fs (Fld.CNV_CG_STAT_BRAKE g) 0
    else if byMax then
      ((s.setGrp g { x with brakeN := 0, brakeBlocked := true }).fs (Fld.CNV_CG_STAT_BRAKE g) 0).fs
        (Fld.CNV_CG_FLAG_BRKLIM g) 1
    else s.setGrp g { x with brakeN := n }

/-- R288: a group follows SYNC_IN. -/
def State.follows (s : State) (g : Nat) : Bool := s.fb (Fld.CNV_CG_CTL_SYNC_EN g) && s.grpSyncIn g

/-- R288: one rising edge of SYNC_IN, `e` fine units after the period start at which the ages stood. -/
def syncEdge (x : Grp) (div e : Nat) : Grp :=
  let x := match x.edgeAge with
    | none => x
    | some a => { x with ivl := a + e }
  let n := x.divN + 1
  let x := if n < div then { x with divN := n, refAge := x.refAge.map (· + e) } else { x with divN := 0, refAge := some 0 }
  { x with edgeAge := some 0 }

/-- R288: the edges of SYNC_IN of a period of `p` fine units, each in fine units after the period start, and the rest of
the period after the last of them. -/
def syncEdges (div p : Nat) (edges : List Nat) (x : Grp) : Grp :=
  let r := edges.foldl (fun (a : Grp × Nat) e => (syncEdge a.1 div (e - a.2), max a.2 e)) (x, 0)
  { r.1 with edgeAge := r.1.edgeAge.map (· + (p - r.2)), refAge := r.1.refAge.map (· + (p - r.2)) }

/-- R288, R289: the period that SYNC_IN sets, SYNCDIV of its intervals, and the distance of a period start from the
nearest edge that it aligns with, positive when the start is late. None before two edges, and below 50 kHz or above
2 MHz. -/
def Grp.sync (x : Grp) (div : Nat) : Option (Nat × Int) :=
  match x.refAge with
  | none => none
  | some r =>
    let tgt := x.ivl * div
    if x.ivl < 6400 ∨ 256000 < x.ivl ∨ tgt = 0 then none
    else
      let e := r % tgt
      some (tgt, if 2 * e ≤ tgt then (e : Int) else (e : Int) - tgt)

/-- R289, R290: the period in force moves, by what the slew allows, towards the one whose end falls on its SYNC_IN edge,
or towards the group's own; the phase error feeds SYNCLOCK. How fast the phase error closes within the slew is the model's
reading (DEDUCED, log entry 31). -/
def syncStep (g : Nat) (edges : List Nat) (s : State) : State :=
  let per := s.fg (Fld.CNV_CG_CFG_PER g)
  let p := s.fg (Fld.CNV_CG_PER_P g)
  let div := s.fg (Fld.CNV_CG_CTL_SYNCDIV g)
  let x := syncEdges div p edges (s.grp g)
  let follow := s.follows g && !s.fb (Fld.CNV_CG_STAT_SOFT g) && !x.absent
  if x.lost then s.setGrp g { x with lost := false }
  else match (if follow then x.sync div else none) with
  | none => (s.fs (Fld.CNV_CG_PER_P g) (slewPeriod per p (32 * per))).setGrp g { x with syncN := 0 }
  | some (tgt, err) =>
    if 9 * tgt ≤ 320 * per ∧ 320 * per ≤ 11 * tgt then
      let n := if err.natAbs ≤ 32 then min 16 (x.syncN + 1) else 0
      let s := (s.fs (Fld.CNV_CG_PER_P g) (slewPeriod per p ((tgt : Int) - err).toNat)).setGrp g { x with syncN := n }
      if 16 ≤ n then s.fs (Fld.CNV_CG_STAT_SYNCLOCK g) 1 else s
    else
      ((s.fs (Fld.CNV_CG_FLAG_SYNCERR g) 1).fs (Fld.CNV_CG_PER_P g) (slewPeriod per p (32 * per))).setGrp g
        { x with syncN := 0 }

/-- R286: the trims of one period, with BALLIM after 1,000 periods at the limit. -/
def balanceStep (g : Nat) (means : List Int) (s : State) : State :=
  let ty := s.grpType g
  let ph := s.phases g
  let legs := if ty = 3 then (List.range (ph.length / 2)).map (2 * ·) else List.range ph.length
  let old := legs.map (fun k => (s.rd (Reg.CNV_PH_TRIM (ph.getD k 0))).toInt)
  let new := if s.fb (Fld.CNV_CG_CTL_BAL_EN g) then
      balance (s.fg (Fld.CNV_CG_SNS_KB g)) (s.fg (Fld.CNV_CG_SNS_BALMIN g)) old (legs.map (fun k => means.getD k 0))
    else old
  let x := s.grp g
  let stayed : Nat → Nat := fun k =>
    let t := new.getD k 0
    if t.natAbs < trimLimit then 0 else if t = old.getD k 0 then min 1000 (x.balN.getD k 0 + 1) else 1
  let balN := (List.range new.length).map stayed
  let s := (List.range ph.length).foldl (fun s k =>
    s.wr (Reg.CNV_PH_TRIM (ph.getD k 0)) (BitVec.ofInt 32 (new.getD (if ty = 3 then k / 2 else k) 0))) s
  let s := s.setGrp g { s.grp g with balN := balN }
  if balN.any (fun n => decide (1000 ≤ n)) then s.fs (Fld.CNV_CG_FLAG_BALLIM g) 1 else s

/-- R271: how far the pulses of the period that ends, `p` fine units long, run into the next one. -/
def State.pulseTails (s : State) (g p : Nat) : List Nat :=
  (s.phases g).map (fun n =>
    let t := (s.rd (Reg.CNV_PH_ON n)).toNat
    if t = 0 then 0 else (s.rd (Reg.CNV_PH_OFS n)).toNat + t - p)

/-- R272: every phase latches its on-time and offset. -/
def latchDuties (g : Nat) (s : State) : State :=
  let ph := s.phases g
  let p := s.fg (Fld.CNV_CG_PER_P g)
  (List.range ph.length).foldl (fun s k =>
    let n := ph.getD k 0
    let u := (s.rd (Reg.CMB_T_OUT0 (s.grpInner g + k))).toInt
    let t := (s.rd (Reg.CNV_PH_TRIM n)).toInt
    (s.wr (Reg.CNV_PH_ON n) (BitVec.ofNat 32 (onTime u t (s.fg (Fld.CNV_CG_DLIM_DMIN g))
      (s.fg (Fld.CNV_CG_DLIM_DMAX g)) p))).wr (Reg.CNV_PH_OFS n)
      (BitVec.ofNat 32 (phaseOffset (s.grpType g) ph.length k p))) s

/-- R285: the mean of a phase's samples of one period, µV, in Q2.30 of its rating. -/
def State.csMean (s : State) (g : Nat) (l : List Int) : Int :=
  if l.isEmpty then 0 else divRound ((l.map (s.csQ g)).foldl (· + ·) 0) l.length

/-- Sense registers: each phase's mean in 0.01 A and the group's sum in 0.1 A. -/
def senseRegs (g : Nat) (means : List Int) (s : State) : State :=
  let ph := s.phases g
  let r := s.grpPhRating g
  let s := (List.range ph.length).foldl (fun s k =>
    s.wr (Reg.CNV_PH_ISNS (ph.getD k 0)) (BitVec.ofInt 32 (divRound (means.getD k 0 * r) (10 * 1073741824)))) s
  s.fss (Fld.CNV_CG_STAT_ISUM g) (divRound (sumMeans means * r) (100 * 1073741824))

def pvSums0 : PvSums := ⟨0, 0, 0, 0, 0⟩
def chgG0 : ChgG := ⟨0, 0, 0, 0, none, none, false, pvSums0, none, 0, 0, 0, 0⟩
def State.chgG (s : State) (g : Nat) : ChgG := kvGet (fun _ => chgG0) s.chg.grps g
def State.setChgG (s : State) (g : Nat) (v : ChgG) : State :=
  s.setChg { s.chg with grps := kvSet (fun _ => chgG0) s.chg.grps g v }

/-- The voltage channel of a group's target: its string, or the bus (R308). -/
def State.targetCh (s : State) (g : Nat) : Nat := if s.grpTarget g = 0xFF then 16 else 8 + s.grpTarget g

/-- R307: consecutive periods of a running PV group with its target voltage above OVLIM by more than 3 %. -/
def ovStep (g : Nat) (s : State) : State :=
  if !s.isPv g then s
  else
    let ch := s.targetCh g
    let high := decide (s.pubGet (0x0E0 + g) * s.voltFs ch * 103 < s.volts ch * 1073741824 * 100)
    s.setChgG g { s.chgG g with ovN := if high then min 2 ((s.chgG g).ovN + 1) else 0 }

/-- R305, R309, R310: a sample strobe of `clocks` modulator clocks, at 8.192 MHz, enters the totals; a scan step that has
reached its half notes them. -/
def pvStrobe (clocks : Nat) (s : State) : State :=
  let a := s.mtr.pv
  let b : PvSums := ⟨a.v + s.volts 18, a.i + s.amps 19, a.p + s.volts 18 * s.amps 19, a.n + 1, a.t + clocks⟩
  let s := s.setMtr { s.mtr with pv := b }
  ((List.range 12).filter (fun g => s.isPv g && (s.chgG g).scan.isSome && (s.chgG g).mid.isNone)).foldl (fun s g =>
    let x := s.chgG g
    if 6400 * s.fg (Fld.CHG_CG_MPPT_SCANT g) ≤ b.t - x.base.t then s.setChgG g { x with mid := some b } else s) s

/-- R273: the output of the group's phases is in high impedance. -/
def State.outputsOff (s : State) (g : Nat) : Bool :=
  s.mode g == modeOff || decide ((s.grp g).stage < 3) || !(s.grp g).released || s.fb (Fld.CNV_CG_STAT_BRAKE g)

/-- R282: the comparator's MC16, mV, is at or below the group's VREF. -/
def State.atVref (s : State) (g : Nat) (bus : Int) : Bool :=
  decide ((bus : Rat) / 1000 * 1073741824 ≤ s.pubGet (0x050 + g) * s.voltFs 16)

/-- R272 and the rules a period start serves: the commit of the duty limits, release, envelope, PREF ramp, braking,
synchronisation, balancing and the latched duties. `cs` holds each phase's CS samples since the last period start, µV
(R285); `bus` is MC16 as the comparator reads it, mV (R282, R291); `edges` are the rising edges of SYNC_IN since the last
period start, in fine units after it. -/
def periodStart (g : Nat) (cs : List (List Int)) (bus : Int) (edges : List Nat) (s : State) : State :=
  let s := if s.cpend (.cnvGroup g) then
      ((s.applyStaged (.cnvGroup g)).setCommits (s.commits.filter (fun x => !(x == .cnvGroup g)))) else s
  let x := s.grp g
  if s.mode g = modeOff ∨ !s.sysclkOk then s
  else if x.shadowStop then groupHardStop g s
  else if x.stage < 2 then s
  else
    let means := (List.range (s.phases g).length).map (fun k => s.csMean g (cs.getD k []))
    let first := x.stage == 2
    let p := s.fg (Fld.CNV_CG_PER_P g)
    let tails := if first ∨ s.outputsOff g then [] else s.pulseTails g p
    let s := if first then
        let s := zeroPwmTiles g (s.setGrp g { x with stage := 3, env := 0, released := s.mode g != modeShadow })
        (s.phases g).foldl (fun s n => s.wr (Reg.CNV_PH_TRIM n) 0) s
      else s
    let x := s.grp g
    let s := if s.mode g = modeShadow ∧ !x.released ∧ s.atVref g bus then s.setGrp g { x with released := true } else s
    let s := ovStep g (senseRegs g means s)
    let s := if first then s else envelopeStep g p s
    let s := rampPref g p s
    let s := brakeEnd g (sumMeans means) s
    let s := syncStep g edges s
    let s := if first then s else balanceStep g means s
    let x := s.grp g
    let low := decide ((sumMeans means).natAbs * 50 < 1073741824 * s.grpPhases g)
    let out := s.mode g == modeShadow && decide (1073741824 * s.grpPhases g < sumMeans means * 20)
    let n := if out then min 2 (x.outN + 1) else 0
    let s := if 2 ≤ n then s.setSct { s.sct with conducts := true } else s
    latchDuties g (s.setGrp g { x with
      tails := tails
      lowN := if low then min 8 (x.lowN + 1) else 0
      outN := n })

/-- R292: a group that qualifies for braking. -/
def State.brakes (s : State) (g : Nat) : Bool :=
  s.grpType g == 1 && s.fb (Fld.CNV_CG_CTL_BRK_EN g) && (s.mode g == modePower || s.mode g == modeBus) &&
  !s.fb (Fld.CNV_CG_STAT_BRAKE g) && !(s.grp g).brakeBlocked && decide ((s.grp g).stage = 3) &&
  decide ((s.phases g).length * s.grpPhRating g < 50 * ((s.phases g).foldl
    (fun a n => a + (s.rd (Reg.CNV_PH_ISNS n)).toInt) 0 * 10))

/-- R291: BUS_NOMINAL and a threshold in 0.1 % of it, in µV. -/
def State.busPlus (s : State) (f : Fld) : Int := s.busNominal * (1000 + s.fg f)

/-- R291, R292: MC16, mV, exceeds BUS_NOMINAL by more than BRK_ON: the comparator reports an overshoot, and braking begins
at the fabric tick after it. -/
def brakeStart (mv : Int) (s : State) : State :=
  if 1000 * mv ≤ s.busPlus Fld.CNV_BRK_BRK_ON then s
  else (List.range 12).foldl (fun s g =>
    if s.brakes g then
      ((s.fs (Fld.CNV_CG_STAT_BRAKE g) 1).setGrp g { s.grp g with brakeN := 0, tails := [] }).finc (Fld.CNV_CG_PER_BRKCNT g)
    else s) (s.setCnv { s.cnv with overshoot := true })

/-- The setpoint of a group in W, positive into its string (R277). -/
def State.prefWatts (s : State) (g : Nat) : Rat := s.pubGet (0x040 + g) * s.wattFs (s.grpTarget g) / 1073741824

/-- The type 1 groups that charge from the bus. -/
def State.busCharging (s : State) : List Nat :=
  (List.range 12).filter (fun g => s.grpType g == 1 && s.mode g == modePower && decide (0 < s.pubGet (0x040 + g)))

/-! ### Rectifier trims -/

def State.trimCode (s : State) (p : Nat) : Nat := s.fg (Fld.CNV_RT_TRIM_TRIM p)

def State.setRamp (s : State) (p : Nat) (r : Option TrimRamp) : State :=
  s.setCnv { s.cnv with trim := kvSet (fun _ => none) s.cnv.trim p r }

/-- Start a ramp of every port in use from its present code (R295). -/
def trimRampAll (target : Nat → Nat) (ms : Nat) (s : State) : State :=
  ((List.range 6).filter s.rtUsed).foldl (fun s p => s.setRamp p (some ⟨s.trimCode p, target p, ms, 0⟩)) s

def State.setShare (s : State) (p v : Nat) : State :=
  s.setCnv { s.cnv with share := kvInsert p v s.cnv.share }

/-! SCT_STAT.PHASE (R252). -/
abbrev phIdle : Nat := 0
abbrev phHandover : Nat := 1
abbrev phHoldup : Nat := 2
abbrev phHandback : Nat := 3

def State.phase (s : State) : Nat := s.fg Fld.SCT_STAT_PHASE

/-- Sharing runs (R296). -/
def State.sharing (s : State) : Bool := s.phase == phIdle && s.fb Fld.CNV_CTL_SHARE_EN

/-- R295: one millisecond of a trim code's movement: a hand-over ramp; else by at most TSLEW codes, towards the shared
target while sharing runs, and in any case back within TMIN and TMAX (DEDUCED, log entry 31). -/
def trimStep (p : Nat) (s : State) : State :=
  let lo := s.fg (Fld.CNV_RT_TMIN_TMIN p)
  let hi := s.fg (Fld.CNV_RT_TMAX_TMAX p)
  let c := s.trimCode p
  match kvGet (fun _ => none) s.cnv.trim p with
  | some r =>
    let d := min r.total (r.done + 1)
    let v : Int := r.start + divRound (((r.target : Int) - r.start) * d) (max 1 r.total)
    let s := s.fs (Fld.CNV_RT_TRIM_TRIM p) (clampI v lo hi).toNat
    s.setRamp p (if d = r.total then none else some { r with done := d })
  | none =>
    let t := (clampI (if s.sharing then kvGet (fun _ => c) s.cnv.share p else c : Nat) lo hi).toNat
    let slew := s.fg Fld.CNV_SHARE_TSLEW
    let v := if c ≤ t then min t (c + slew) else max t (c - slew)
    let s := s.fs (Fld.CNV_RT_TRIM_TRIM p) v
    if v = t then s.setCnv { s.cnv with fromNom := s.cnv.fromNom.filter (· != p) } else s

/-- R295, R296: a trim goes to TNOM, from where sharing starts on the port. -/
def shareFromNominal (p : Nat) (s : State) : State :=
  let s := s.setShare p (s.fg (Fld.CNV_RT_TNOM_TNOM p))
  s.setCnv { s.cnv with fromNom := s.cnv.fromNom.filter (· != p) ++ [p] }

/-- Sharing begins on the ports in use that `which` names (R296). -/
def shareBegin (which : Nat → Bool) (s : State) : State :=
  if s.fb Fld.CNV_CTL_SHARE_EN then
    ((List.range 6).filter (fun p => s.rtUsed p && which p)).foldl (fun s p => shareFromNominal p s) s
  else s

/-- R294: the port currents from the sampled IMON voltages, mV, with IMERR outside −50 mV to 2.5 V. -/
def sampleImon (imon : List Int) (s : State) : State :=
  ((List.range 6).filter s.rtUsed).foldl (fun s p =>
    let v := imon.getD p 0
    if v > 2500 ∨ v < -50 then
      let s := s.fs (Fld.CNV_RT_FLAG_IMERR p) 1
      (s.setCnv { s.cnv with imonBad := s.cnv.imonBad.filter (· != p) ++ [p] })
    else
      let s := s.wr (Reg.CNV_RT_IMON p) (BitVec.ofInt 32 (divRound (s.rtRated p * v) (max 1 (s.fg (Fld.CNV_RT_IMSCALE_IMSCALE p)))))
      (s.setCnv { s.cnv with imonBad := s.cnv.imonBad.filter (· != p) })) s

end Sys2Proof.Machine
end

