-- ==== Sys2Proof/Machine/Protect.lean ====
section
/-!
DEFINITION. E-fuse channels, feeds and string contactors (chapter 11).
-/
namespace Sys2Proof.Machine

/-! ### Contactors (R374 to R382) -/

abbrev kOpen : Nat := 0
abbrev kPrecharge : Nat := 1
abbrev kClosing : Nat := 2
abbrev kClosed : Nat := 3
abbrev kOpening : Nat := 4
abbrev kFault : Nat := 5

def State.kState (s : State) (n : Nat) : Nat := s.fg (Fld.EFU_S_KSTAT_STATE n)

def setK (n st km kp : Nat) (s : State) : State :=
  let s := s.setProt { s.prot with pre := kvSet (fun _ => (0, 0)) s.prot.pre n (0, 0) }
  ((s.fs (Fld.EFU_S_KSTAT_STATE n) st).fs (Fld.EFU_S_KSTAT_KM n) km).fs (Fld.EFU_S_KSTAT_KP n) kp

/-- R377: the times of a pre-charge, in modulator clocks of 8.192 MHz. -/
def State.preTimes (s : State) (n : Nat) : Nat × Nat := kvGet (fun _ => (0, 0)) s.prot.pre n

/-- R377: a sample strobe of `clocks` modulator clocks sees the precharge currents on MCs. -/
def prechargeStrobe (clocks : Nat) (s : State) : State :=
  ((List.range 8).filter (fun n => s.kState n == kPrecharge)).foldl (fun s n =>
    let p := s.preTimes n
    let low := decide (10000 * |s.amps n| < (s.fg (Fld.EFU_S_KCFG_PCEND n) * s.strInom n : Nat))
    s.setProt { s.prot with
      pre := kvSet (fun _ => (0, 0)) s.prot.pre n (p.1 + clocks, if low then p.2 + clocks else 0) }) s

/-- Latch a KFLAG bit: EV171 and a CONTACTOR entry (R441). -/
def latchK (n bit : Nat) (s : State) : State :=
  let w := (s.rd (Reg.EFU_S_KFLAG n)).toNat
  let s := s.wr (Reg.EFU_S_KFLAG n) (BitVec.ofNat 32 (setBit w bit true))
  (if bitOf w bit then s else s.raise 171).logEvent 0x06 n (setBit w bit true) false

/-- Stop the group of a string whose contactor opens (R284, R379), and the PV groups that charge it (R318). -/
def stopStringGroup (n : Nat) (s : State) : State :=
  let s := match s.strGroup n with
    | some g => groupHardStopIf g s
    | none => s
  (s.chargers n).foldl (fun s g => groupHardStopIf g s) s

/-- R379: every opening releases both drives, clears REQ and waits for KF. A string that is OPEN, OPENING or in FAULT
has its drives released already. -/
def contactorOpen (n : Nat) (s : State) : State :=
  if s.kState n = kPrecharge ∨ s.kState n = kClosing ∨ s.kState n = kClosed then
    stopStringGroup n ((setK n kOpening 0 0 s).fs (Fld.EFU_S_KCTL_REQ n) 0)
  else s

def allContactorsOpen (s : State) : State := (List.range 8).foldl (fun s n => contactorOpen n s) s

/-- R29, R91: some contactor is in PRECHARGE, CLOSING, CLOSED or OPENING. -/
def State.contactorBusy (s : State) : Bool :=
  (List.range 8).any (fun n => decide (1 ≤ s.kState n ∧ s.kState n ≤ 4))

/-- The contactor's part of a failure: FAULT with both drives released, and the flag latched (R377, R378). -/
def contactorFault (n bit : Nat) (s : State) : State :=
  (latchK n bit ((setK n kFault 0 0 s).fs (Fld.EFU_S_KCTL_REQ n) 0)).driveLine 22

/-- A failure that latches a flag and ends in FAULT, with the string's groups stopped (R377, R378, R284). -/
def contactorFail (n bit : Nat) (s : State) : State := contactorFault n bit (stopStringGroup n s)

/-- R380: the read of KFLAG clears the bits it returned; FAULT then ends when KF reads open. -/
def kflagRead (n : Nat) (s : State) : State :=
  let s := s.wr (Reg.EFU_S_KFLAG n) 0
  if s.kState n ≠ kFault then s
  else if s.fb (Fld.EFU_S_KSTAT_KF n) then latchK n 3 s
  else s.fs (Fld.EFU_S_KSTAT_STATE n) kOpen

/-- R382: ESTOP_N recognised low. Without a pin function map the pin acts on no ball (R549). -/
def estopAssert (s : State) : State :=
  let s := (s.fs Fld.EFU_STAT_ESTOP 1).wakeDormant
  if s.image.isNone then s
  else
    let mask := maskOf 8 (fun n => s.kState n != kOpen)
    let s := s.fs Fld.EFU_STAT_ESTOPS 1
    let s := s.logEvent 0x04 mask 0 false
    let s := s.waveTrigger 1 mask
    let s := (bitsOf 8 mask).foldl (fun s n => contactorOpen n (latchK n 4 s)) s
    (if mask = 0 then s else (bitsOf 8 mask).foldl (fun s n => s.removal (.string n)) s).driveLine 22

/-! ### E-fuse channels (R362 to R369) -/

abbrev eOff : Nat := 0
abbrev eStandby : Nat := 1
abbrev eStart : Nat := 2
abbrev eOn : Nat := 3
abbrev eLimit : Nat := 4
abbrev eTripped : Nat := 5

def efu0 : Efu := ⟨true, 0, 0, 0, 0, false, 0, true, false, (0, 0), [], 0, 0⟩
def State.efu (s : State) (c : Nat) : Efu := kvGet (fun _ => efu0) s.prot.efu c
def State.setEfu (s : State) (c : Nat) (v : Efu) : State :=
  s.setProt { s.prot with efu := kvSet (fun _ => efu0) s.prot.efu c v }
def State.eState (s : State) (c : Nat) : Nat := s.fg (Fld.EFU_CH_STAT_STATE c)
def State.setEState (s : State) (c st : Nat) : State :=
  (s.fs (Fld.EFU_CH_STAT_STATE c) st).fs Fld.EFU_STAT_TRIPPED
    (setBit (s.fg Fld.EFU_STAT_TRIPPED) c (st == eTripped))

/-- R363: the combined enable. -/
def State.efuEnabled (s : State) (c : Nat) : Bool := s.fb (Fld.EFU_CH_EN_EN c) && (s.efu c).ball
/-- The gate is driven: START, ON or LIMIT. -/
def State.gateOn (s : State) (c : Nat) : Bool := decide (eStart ≤ s.eState c ∧ s.eState c ≤ eLimit)

def State.feedStep (s : State) (f : Nat) : Nat := kvGet (fun _ => 0) s.prot.feed f
def State.setFeedStep (s : State) (f v : Nat) : State :=
  s.setProt { s.prot with feed := kvSet (fun _ => 0) s.prot.feed f v }
/-- The feed a channel serves (R79). -/
def State.feedOf (s : State) (c : Nat) : Option Nat := (List.range 3).find? (fun f => (s.feedMembers f).contains c)
/-- R370: a healthy member. -/
def State.healthy (s : State) (c : Nat) : Bool := s.efuEnabled c && s.eState c != eTripped && (s.efu c).vOk
/-- The selected member's channel, when SEL names one (R371). -/
def State.selected (s : State) (f : Nat) : Option Nat := (s.feedMembers f)[s.fg (Fld.EFU_F_STAT_SEL f)]?
/-- R371: a member of higher priority than the selected one has been healthy for RETQ without a break. -/
def State.mayReturn (s : State) (f : Nat) : Bool :=
  (List.range (s.fg (Fld.EFU_F_STAT_SEL f))).any (fun i => match (s.feedMembers f)[i]? with
    | some c => s.healthy c && decide (((1000 * s.fg (Fld.EFU_F_CFG_RETQ f) : Nat) : Rat) ≤ (s.efu c).healthFor)
    | none => false)
/-- The healthy member of highest priority, as its index. -/
def State.bestMember (s : State) (f : Nat) : Option Nat :=
  (List.range (s.feedMembers f).length).find? (fun i => s.healthy ((s.feedMembers f).getD i 0))

def dischargeGate (c : Nat) (s : State) : State := s.setEfu c { s.efu c with gateOff := false }

/-- R373: a feed is lost. -/
def feedLost (f : Nat) (s : State) : State :=
  let s := ((s.fs (Fld.EFU_F_STAT_LOST f) 1).fs (Fld.EFU_F_FLAG_FEEDLOST f) 1).fs (Fld.EFU_F_STAT_SEL f) 3
  let s := (s.fs (Fld.EFU_F_STAT_CHG f) 0).setFeedStep f 0
  let s := (s.fs Fld.EFU_STAT_FEEDLOST (setBit (s.fg Fld.EFU_STAT_FEEDLOST) f true)).driveLine 22
  let strs := s.strings.filter (fun n => s.shelfFeed (s.strShelf n) == f)
  (strs.foldl (fun s n =>
    let open' := s.kState n != kOpen
    let s := contactorOpen n (s.removal (.string n))
    if open' then latchK n 5 s else s) s).wakeDormant

/-- R367: a trip with its cause (1 TIMER, 2 SOA, 3 SHORT). -/
def efuseTrip (c cause : Nat) (s : State) : State :=
  let s := ((dischargeGate c s).setEState c eTripped).fs (Fld.EFU_CH_FLAG_CAUSE c) cause
  let s := (((s.driveLine 22).logEvent 0x05 c cause false).waveTrigger 4 c).wakeDormant
  match s.feedOf c with
  | some f => if s.feedStep f = 3 ∧ s.selected f = some c then s.setFeedStep f 1 else s
  | none => s

/-- R365, R369: min(ILIM, CAP) while the cap is enforced, in 10 mA. -/
def State.limEff (s : State) (c : Nat) : Nat :=
  let l := s.fg (Fld.EFU_CH_LIM_ILIM c)
  if bitOf (s.fg Fld.EFU_THR_ENF) c then min l (s.fg (Fld.EFU_CH_CAP_CAP c)) else l

/-- R364, R370: VI against its window for one tick. -/
def windowStep (e : Efu) (inside : Bool) (tick qual : Rat) : Efu :=
  if inside then
    let t := e.okFor + tick
    { e with okFor := t, outN := 0, vOk := e.vOk || decide (qual ≤ t) }
  else { e with okFor := 0, outN := min 10 (e.outN + 1), vOk := e.vOk && decide (e.outN + 1 < 10) }

/-- The channel starts: ft and x are zero (R365). -/
def efuseStart (c : Nat) (s : State) : State :=
  ((s.setEfu c { s.efu c with ft := 0, x := 0, gateOff := false }).setEState c eStart).wr (Reg.EFU_CH_SOAX c) 0

/-- The member that has reached ON ends its feed's changeover and restores the feed (R371, R373). -/
def memberOn (c : Nat) (s : State) : State :=
  match s.feedOf c with
  | none => s
  | some f =>
    let s := if s.feedStep f = 3 then
        ((s.setFeedStep f 0).fs (Fld.EFU_F_STAT_CHG f) 0).fs (Fld.EFU_F_STAT_COUNT f) (s.fg (Fld.EFU_F_STAT_COUNT f) + 1)
      else s
    (s.fs (Fld.EFU_F_STAT_LOST f) 0).fs Fld.EFU_STAT_FEEDLOST (setBit (s.fg Fld.EFU_STAT_FEEDLOST) f false)

/-- R362: the channel current, A, from the sense voltage, µV, across RSNS, µΩ. -/
def State.efuAmps (s : State) (c : Nat) (uv : Int) : Rat := (uv : Rat) / s.fg (Fld.EFU_CH_RSNS_RSNS c)

/-- R369: the mean current over the last 100 ms, brought up to date every millisecond; time before the channel's first
ticks counts as 0 A (DEDUCED, log entry 32). -/
def meanStep (i tick : Rat) (e : Efu) : Efu :=
  let p := (e.part.1 + i * tick, e.part.2 + tick)
  if p.2 < 1000 then { e with part := p }
  else
    let ps := (p :: e.parts).take 100
    let q := ps.foldl (fun (a : Rat × Rat) x => (a.1 + x.1, a.2 + x.2)) (0, 0)
    { e with part := (0, 0), parts := ps, mean := q.1 / max 100000 q.2 }

/-- R369: the cap against the mean current over 100 ms. -/
def capStep (c : Nat) (tick : Rat) (s : State) : State :=
  let cap := s.fg (Fld.EFU_CH_CAP_CAP c)
  let e := s.efu c
  if cap = 0xFFFF ∨ 100 * e.mean ≤ cap then
    ((s.setEfu c { e with reqFor := 0 }).fs Fld.EFU_THR_REQ (setBit (s.fg Fld.EFU_THR_REQ) c false)).fs Fld.EFU_THR_ENF
      (setBit (s.fg Fld.EFU_THR_ENF) c false)
  else (s.setEfu c { e with reqFor := e.reqFor + tick }).fs Fld.EFU_THR_REQ (setBit (s.fg Fld.EFU_THR_REQ) c true)

/-- R365: the quantities of one tick for a channel whose gate is on, with the trips they cause. Current in A,
voltages in 10 mV. -/
def efuseActive (c : Nat) (i : Rat) (vi vo : Nat) (tick : Rat) (s : State) : State :=
  let lim : Rat := (s.limEff c : Rat) / 100
  let st := s.eState c
  let st' := if lim ≤ i then eLimit
    else if st = eLimit then (if 20 * i < 19 * lim then eOn else eLimit)
    else if st = eStart then (if 97 * vi ≤ 100 * vo then eOn else eStart) else eOn
  let e := s.efu c
  let ft : Rat := if st' = eLimit then e.ft + tick else max 0 (e.ft - tick / 8)
  let soa := s.fg (Fld.EFU_CH_SOA_SOA c)
  let p : Rat := ((vi : Int) - vo : Int) * i / 100
  let x : Rat := if soa ≠ 0 then max 0 (e.x + (p - (s.fg (Fld.EFU_CH_PWR_PLEAK c) : Rat) / 10) * tick) else e.x
  let s := (s.setEfu c { e with ft := ft, x := x }).wr (Reg.EFU_CH_SOAX c) (BitVec.ofNat 32 x.floor.toNat)
  let s := if st' = eOn ∧ st ≠ eOn then memberOn c (s.setEState c st') else s.setEState c st'
  if soa ≠ 0 ∧ (soa : Rat) ≤ x then efuseTrip c 2 s
  else if ((s.fg (Fld.EFU_CH_LIM_FT c) * 100 : Nat) : Rat) ≤ ft then efuseTrip c 1 s
  else s

/-- R365: the length of a tick, µs. -/
def State.efuTick (s : State) : Rat := if s.awake then 1 else 30518 / 1000

/-- One e-fuse tick of a channel, with what its balls show: EFc_SP − EFc_SN in µV, EFc_VI and EFc_VO in 10 mV. -/
def efuseTick (c : Nat) (uv : Int) (vi vo : Nat) (s : State) : State :=
  let tick := s.efuTick
  let i := s.efuAmps c uv
  let s := ((s.fs (Fld.EFU_CH_STAT_I c) (clampI (ratRound (100 * i)) 0 65535).toNat).fs (Fld.EFU_CH_VMON_VI c) vi).fs (Fld.EFU_CH_VMON_VO c) vo
  let inside := decide (10 * s.fg (Fld.EFU_CH_VWIN_UVIN c) ≤ vi ∧ vi ≤ 10 * s.fg (Fld.EFU_CH_VWIN_OVIN c))
  let qual : Rat := match s.feedOf c with
    | some f => (1000 * s.fg (Fld.EFU_F_CFG_QUAL f) : Nat)
    | none => 50000
  let s := s.setEfu c (windowStep (s.efu c) inside tick qual)
  let e := s.efu c
  let s := s.setEfu c { e with healthFor := if s.healthy c then e.healthFor + tick else 0 }
  let s := capStep c tick (s.setEfu c (meanStep i tick (s.efu c)))
  let mayStart := match s.feedOf c with
    | some f => s.selected f == some c && s.feedStep f == 0
    | none => true
  if s.eState c = eStandby then (if (s.efu c).vOk && mayStart then efuseStart c s else s)
  else if !s.gateOn c then s
  else if s.feedOf c = none ∧ 10 ≤ (s.efu c).outN then (dischargeGate c s).setEState c eStandby
  else efuseActive c i vi vo tick s

/-- The combined enable has changed from `old` (R363, R367): a fall discharges the gate; a rise leads to STANDBY once
the gate is verified off. -/
def enableChanged (c : Nat) (old : Bool) (s : State) : State :=
  if s.efuEnabled c = old then s
  else if old then
    let on := s.gateOn c
    let s := s.setEState c eOff
    let s := s.setEfu c { s.efu c with rise := false, okFor := 0, vOk := false, healthFor := 0 }
    if on then dischargeGate c s else s
  else if (s.efu c).gateOff then s.setEState c eStandby
  else s.setEfu c { s.efu c with rise := true }

/-- R371 step 1: a changeover starts; the outgoing gate is discharged unless a trip has done so. -/
def changeoverStart (f : Nat) (s : State) : State :=
  let s := s.fs (Fld.EFU_F_STAT_CHG f) 1
  match s.selected f with
  | some c =>
    if s.gateOn c then ((dischargeGate c s).setEState c eStandby).setFeedStep f 1
    else s.setFeedStep f (if (s.efu c).gateOff then 2 else 1)
  | none => s.setFeedStep f 2

/-- The gate of a channel is verified off (R367, R371 step 2); after a trip the removal of a feed's channel is reported
(R21, R368 step 2). -/
def gateVerified (c : Nat) (s : State) : State :=
  let e := s.efu c
  let s := if !e.gateOff && s.eState c == eTripped && (s.feedOf c).isSome then s.removal (.channel c) else s
  let s := s.setEfu c { e with gateOff := true, rise := false }
  let s := if e.rise && s.efuEnabled c then s.setEState c eStandby else s
  match s.feedOf c with
  | some f => if s.feedStep f = 1 ∧ s.selected f = some c then s.setFeedStep f 2 else s
  | none => s

/-- The gate is not verified off within 200 µs (R367, R373). -/
def gateFailed (c : Nat) (s : State) : State :=
  let s := s.fs (Fld.EFU_CH_FLAG_GOFF c) 1
  match s.feedOf c with
  | some f => if s.feedStep f = 1 then feedLost f (s.fs (Fld.EFU_F_FLAG_GOFF f) 1) else s
  | none => s

/-- R371 step 3: the dead time has elapsed; the incoming member is selected and starts, or the feed is lost. -/
def deadTimeElapsed (f : Nat) (s : State) : State :=
  match s.bestMember f with
  | some i =>
    let s := (s.fs (Fld.EFU_F_STAT_SEL f) i).setFeedStep f 3
    efuseStart ((s.feedMembers f).getD i 0) s
  | none => feedLost f s

end Sys2Proof.Machine
end

