-- ==== Sys2Proof/Machine/Orders.lean ====
section
/-!
DEFINITION. The order engine (chapter 06): records, the schedule, admission, delivery, endings and the fault epoch.
-/
namespace Sys2Proof.Machine

abbrev tyDischarge : Nat := 1
abbrev tyChargeBus : Nat := 2
abbrev tyChargePv : Nat := 3
abbrev tyBalance : Nat := 4
abbrev tyRest : Nat := 5
abbrev tyHold : Nat := 6

/-! ### Records (R198 to R200) -/

/-- R198: the order record in 64 bytes. START and DEADLINE pass to the monotonic count at the decision. -/
def parseOrder (b : List Byte) (cq : Nat) : Order :=
  { id := u32At b 0, ty := byteAt b 4, prio := byteAt b 5 % 16, flags := u16At b 6, smask := byteAt b 8,
    dmask := byteAt b 9, contract := byteAt b 10, scope := byteAt b 11, racks := u16At b 12,
    energy := toSigned 32 (u32At b 0x10), pmax := u32At b 0x14, pmin := u32At b 0x18, start := u32At b 0x1C,
    deadline := u32At b 0x20, htag := u32At b 0x24, holdId := u32At b 0x28,
    clean := byteAt b 5 < 16 && u16At b 6 < 8 && u16At b 14 == 0 && ((b.drop 0x2C).take 20).all (· == 0),
    cq := cq, state := 2, ending := none, outFlags := 0, plan := [], owed := [], credit := [], reserve := [], reached := false, seq := 0,
    since := 0, prof := 0 }

/-- R200: a completion record in 32 bytes, with the epoch in force when it is written. -/
def cqBytes (epoch : Nat) (r : CqRec) : List Byte :=
  leBytes 4 r.id ++ leBytes 1 r.kind ++ leBytes 1 r.state ++ leBytes 1 r.cause ++ leBytes 1 r.flags ++
  leBytes 4 (r.epoch.getD epoch) ++ leBytes 4 r.time ++ leBytes 4 (ofSigned 32 r.deliv) ++ leBytes 1 r.rack ++
  leBytes 1 r.str ++ leBytes 1 r.npart ++ leBytes 1 0 ++ leBytes 4 r.htag ++ leBytes 4 r.hint

/-! ### Rings written by the device (R132, R133, R136) -/

def State.qStart (s : State) (q : Nat) : Nat := 0xD80000 + 64 * s.fg (Fld.SYS_Q_CFG_BASE q)
def entrySize (q : Nat) : Nat := if q < 32 then 64 else if q < 48 then 32 else if q < 56 then 80 else if q < 60 then 128 else 32
def State.qEnabled (s : State) (q : Nat) : Bool := s.fb (Fld.SYS_Q_CFG_EN q)
def State.qRoom (s : State) (q : Nat) : Nat := if s.qEnabled q then s.qDepth q - s.qCount q else 0

/-- Write one entry whole, then advance TAIL (R136). -/
def qPush (q : Nat) (b : List Byte) (s : State) : State :=
  let t := s.fg (Fld.SYS_Q_PTR_TAIL q)
  let s := s.setSramBytes (s.qStart q + t % s.qDepth q * entrySize q) b
  s.fs (Fld.SYS_Q_PTR_TAIL q) ((t + 1) % (2 * s.qDepth q))

/-- R137: a flush sets HEAD to TAIL and counts. -/
def qFlush (q : Nat) (s : State) : State :=
  (s.fs (Fld.SYS_Q_PTR_HEAD q) (s.fg (Fld.SYS_Q_PTR_TAIL q))).finc (Fld.SYS_Q_STAT_FLUSH q)

def State.epoch (s : State) : Nat := (s.rd Reg.ORD_EPOCH).toNat

def State.heldCount (s : State) : Nat := (s.ord.held.map (fun h => h.2.length)).foldl (· + ·) 0

/-- Mirror the counts the engine shows (R204, R202). -/
def ordStat (s : State) : State :=
  let n := (s.ord.orders.filter (fun o => o.state == 3 || o.state == 4)).length
  (s.fs Fld.ORD_STAT_RESIDENT n).fsat Fld.ORD_STAT_HELDREC s.heldCount

/-- R131: the engine has entries for a completion queue whose ring is full. -/
def cqFull (cq : Nat) (s : State) : State := if s.qEnabled (32 + cq) then s.fs (Fld.SYS_Q_STAT_OVF (32 + cq)) 1 else s

/-- R202: records pass to their queue when it has room for the whole bundle and none before them waits; otherwise they
are held back. `cq` 16 stands for a swarm part at a worker, which has no records (R231). -/
def sendCq (cq : Nat) (recs : List CqRec) (s : State) : State :=
  if 16 ≤ cq then s
  else if s.ord.held.any (fun h => h.1 == cq) then
    ordStat (s.setOrd { s.ord with held := s.ord.held ++ [(cq, recs)] })
  else if recs.length ≤ s.qRoom (32 + cq) then recs.foldl (fun s r => qPush (32 + cq) (cqBytes s.epoch r) s) s
  else ordStat (cqFull cq (s.setOrd { s.ord with held := s.ord.held ++ [(cq, recs)] }))

/-- The next held-back bundle of a completion queue that has room (R202). -/
def cqRecordWrite (cq : Nat) (s : State) : State :=
  match s.ord.held.find? (fun h => h.1 == cq) with
  | none => s
  | some (_, recs) =>
    if s.qRoom (32 + cq) < recs.length then cqFull cq s
    else
      let s := recs.foldl (fun s r => qPush (32 + cq) (cqBytes s.epoch r) s) s
      ordStat (s.setOrd { s.ord with held := s.ord.held.eraseP (fun h => h.1 == cq) })

/-! ### Orders held -/

def Order.resident (o : Order) : Bool := o.state == 3 || o.state == 4
def State.residents (s : State) : List Order := s.ord.orders.filter (·.resident)

/-- The order of an ID: the resident one, else the oldest PENDING one. -/
def State.order (s : State) (id : Nat) : Option Order :=
  match s.ord.orders.find? (fun o => o.id == id && o.resident) with
  | some o => some o
  | none => s.ord.orders.find? (fun o => o.id == id)

def State.putOrder (s : State) (o : Order) : State :=
  s.setOrd { s.ord with orders := s.ord.orders.map (fun x => if x.id == o.id ∧ x.seq == o.seq then o else x) }

/-- DELIV: the credits of the order, for BALANCE those of its sink strings, to 0.1 Wh (R219). -/
def Order.deliv (o : Order) : Int :=
  ratRound (((o.credit.filter (fun c => o.ty != tyBalance || bitOf o.dmask c.1)).map (·.2)).foldl (· + ·) 0)

/-- SCT_PLAN, with EV151 where a bit changes (R267). -/
def showPlans (valid gap : Nat) (s : State) : State :=
  if valid = s.fg Fld.SCT_PLAN_VALID ∧ gap = s.fg Fld.SCT_PLAN_GAP then s
  else ((s.fs Fld.SCT_PLAN_VALID valid).fs Fld.SCT_PLAN_GAP gap).raise 151

/-- R265, R267: a change of the schedule leaves every shadow plan stale: none carries the new version. -/
def schedChanged (s : State) : State :=
  showPlans 0 (s.fg Fld.SCT_PLAN_GAP) (s.setOrd { s.ord with ver := s.ord.ver + 1 })

/-- A swarm part held for the queen (R231, R415). -/
abbrev partCq : Nat := 16

/-- A swarm order at the queen. -/
def Order.swarm (o : Order) : Bool := o.scope == 1 && o.cq != partCq

/-- FLAGS of the order's records (R200). -/
def Order.recFlags (o : Order) : Nat := if o.swarm then o.outFlags ||| 4 else o.outFlags

/-- R414: an item joins those that the worker's STATUS frames carry. -/
def State.item (s : State) (i : Item) : State := s.setWgl { s.wgl with items := s.wgl.items ++ [i] }

/-- R416: a barrier with a fresh BARNUM and the cycle at which it executes. -/
def announce (action arg ref at_ : Nat) (s : State) : State :=
  let n := if s.wgl.lastBar = 65535 then 1 else s.wgl.lastBar + 1
  let b : Barrier := ⟨n, action, arg, at_, ref, 0⟩
  s.setWgl { s.wgl with lastBar := n, bars := s.wgl.bars ++ [b] }

/-- The parts of a swarm order at the queen (R231). -/
def State.partsOf (s : State) (id : Nat) : List Part := kvGet (fun _ => []) s.ord.parts id
def State.setParts (s : State) (id : Nat) (p : List Part) : State :=
  s.setOrd { s.ord with parts := kvSet (fun _ => []) s.ord.parts id p }

/-- A command frame joins those that the queen has waiting (R415). -/
def State.command (s : State) (ty dst : Nat) (pay : List Byte) : State :=
  s.setWgl { s.wgl with cmds := s.wgl.cmds ++ [(ty, dst, pay)] }

/-- R231 (5): the parts that a PENDING swarm order has on other racks are withdrawn without trace. -/
def withdrawParts (o : Order) (s : State) : State :=
  if o.swarm ∧ o.state = 2 then
    ((s.partsOf o.id).filter (fun p => p.rack != 0)).foldl (fun s p => s.command 0x12 p.rack (leBytes 4 o.id)) s
  else s

/-- Strings of the parts of a swarm order on other racks, as (rack, string, energy) (R418). -/
def State.partStrings (s : State) (o : Order) : List (Nat × Nat × Int) :=
  (s.partsOf o.id).flatMap (fun (p : Part) => p.strings.map (fun (x : Nat × Int) => (p.rack, x.1, x.2)))

/-- R201: the strings that carried an order: those of its plan and those that a re-plan took out after they were credited. -/
def Order.carried (o : Order) : List Nat :=
  (List.range 8).filter (fun n => o.plan.any (fun g => g.str == n) || o.credit.any (fun c => c.1 == n))

/-- R215, R220: is the total within 0.1 % of ENERGY? -/
def Order.metBy (o : Order) (total : Int) : Bool := decide ((total - o.energy).natAbs * 1000 ≤ o.energy.natAbs)

/-- R201: an order ends: one FINAL and, after ACCEPTED, a PART for each string that carried it. A CHARGE_PV order that is
DONE with less than its ENERGY carries PV_LIMITED (R220). -/
def endOrder (o : Order) (state cause hint : Nat) (s : State) : State :=
  let s := withdrawParts o s
  let parts := if o.resident then o.carried else []
  let far := if o.swarm then s.partStrings o else []
  let total := o.deliv + ((far.filter (fun x => o.ty != tyBalance || bitOf o.dmask x.2.1)).map (·.2.2)).foldl (· + ·) 0
  let limited := o.ty == tyChargePv && state == 5 && decide (total < o.energy) && !o.metBy total
  let flags := if limited then o.recFlags ||| 16 else o.recFlags
  let fin : CqRec := ⟨o.id, 1, state, cause, flags, none, s.now, total, s.swarmPos, 0xFF, parts.length + far.length,
    o.htag, hint⟩
  let recs := fin :: parts.map (fun n => { fin with
    kind := 2, deliv := ratRound (kvGet (fun _ => 0) o.credit n),
    str := n, npart := 0, hint := 0 }) ++ (if o.resident then far else []).map (fun x => { fin with
    kind := 2, deliv := x.2.2, rack := x.1, str := x.2.1, npart := 0, hint := 0 })
  let s := if o.cq = partCq then (bitsOf 8 (o.smask ||| o.dmask)).foldl (fun s n =>
    s.item ⟨5, o.id, n, ratRound (kvGet (fun _ => 0) o.credit n)⟩) s else s
  let s := s.setOrd { s.ord with
    orders := s.ord.orders.filter (fun x => !(x.id == o.id && x.seq == o.seq)),
    parts := if o.swarm then s.ord.parts.filter (fun x => x.1 != o.id) else s.ord.parts,
    ended := ((o.id, state, cause, flags, total) :: s.ord.ended).take 1024 }
  let s := ordStat (sendCq o.cq recs s)
  if o.resident then schedChanged s else s

/-! ### The schedule (R207, R208) -/

def State.curSlot (s : State) : Nat := s.ord.mono / 2

/-- Committed power of a string in a slot, W (R207); an order that is ending holds nothing. -/
def schedPower (os : List Order) (n j : Nat) : Rat :=
  os.foldl (fun a o => o.plan.foldl (fun a g => if g.str == n && g.first ≤ j && j < g.stop then a + g.power else a) a) 0

/-- The orders whose commitments admission counts. -/
def State.committed (s : State) : List Order := s.residents.filter (fun o => o.ending.isNone)

/-- A REST or HOLD of the list covers slot `j` on string `n` (R205, R207). -/
def windowOn (ty : Nat) (os : List Order) (n j : Nat) : Bool :=
  os.any (fun o => o.ty == ty && bitOf o.smask n && decide (o.start < 2 * j + 2 ∧ 2 * j < o.deadline))

/-- R207: Σ of a type's committed power in a slot, W. -/
def typePower (ty : Nat) (os : List Order) (j : Nat) : Rat :=
  (os.filter (·.ty == ty)).foldl (fun a o => o.plan.foldl (fun a g =>
    if g.first ≤ j && j < g.stop then a + |g.power| else a) a) 0

def busPower (os : List Order) (j : Nat) : Rat :=
  (List.range 8).foldl (fun a n => a + |schedPower os n j|) 0

def acPower (os : List Order) (j : Nat) : Rat := 106 / 100 * typePower tyChargeBus os j

def contractPower (c : Nat) (os : List Order) (j : Nat) : Rat :=
  (os.filter (·.contract == c)).foldl (fun a o => o.plan.foldl (fun a g =>
    if g.first ≤ j && j < g.stop then a + |g.power| else a) a) 0

/-- R207: the 32-byte record of slot `j` as the host reads it. -/
def slotBytes (s : State) (j : Nat) : List Byte :=
  let os := s.committed
  (List.range 8).flatMap (fun n => leBytes 2 (ofSigned 16 (ratRound (schedPower os n j / 20)))) ++
  leBytes 4 (ratRound (busPower os j)).toNat ++ leBytes 4 (ratRound (acPower os j)).toNat ++
  leBytes 4 (ratRound (typePower tyChargePv os j)).toNat ++
  leBytes 1 (maskOf 8 (fun n => windowOn tyRest os n j)) ++ leBytes 1 (maskOf 8 (fun n => windowOn tyHold os n j)) ++
  leBytes 2 ((os.filter (fun o => o.plan.any (fun g => g.first ≤ j && j < g.stop))).length)

/-! ### Free energy and power (R209) -/

/-- R34: the admission margin k. -/
def marginK (profile : Nat) : Rat := match profile with | 1 => 3 | 3 => 5 / 2 | _ => 2

/-- R500, R501: the derating current limit of a string, with the factors of the enforced actions, A. -/
def State.derateA (s : State) (n : Nat) : Rat :=
  let z := s.strShelf n
  let f : Rat := (s.fg (Fld.THM_Z_STAT_FRAC z) : Rat) / 1000
  let f := if bitOf (s.fg Fld.THM_STAT_ENF) z then f * (s.fg (Fld.THM_Z_THR_ENFPCT z)) / 100 else f
  let f := if s.fb Fld.THM_STAT_DENF then f * (s.fg Fld.THM_DIECFG_DIEPCT) / 1000 else f
  f * s.strInom n / 10

/-- R501: the derating power limit of a string, W. -/
def State.derateW (s : State) (n : Nat) : Rat := s.derateA n * s.volts (8 + n)

/-- R312, R313, R317, R320, R321: no charge into the string: no voltage limits, FULL, lost, or a latched fault. -/
def State.chargeBlocked (s : State) (n : Nat) : Bool :=
  s.fg (Fld.CHG_S_VLIM_VCV n) == 0 || s.fg (Fld.CHG_S_VLIM_VCELL n) == 0 || bitOf (s.fg Fld.CHG_STAT_FULL) n ||
  bitOf (s.fg Fld.CHG_STAT_LOST) n || bitOf (s.fg Fld.CHG_FAULT_BATT_LOST) n || bitOf (s.fg Fld.CHG_FAULT_TMR_EXP) n ||
  bitOf (s.fg Fld.CHG_FAULT_CELL_OV) n

def chgS0 : ChgS := ⟨0, 0, 0, none, 0, 0, 0, 0⟩
def State.chgS (s : State) (n : Nat) : ChgS := kvGet (fun _ => chgS0) s.chg.strs n

/-- R209: plim, the least of the string's power limits; `out` for discharge. The held charge power that CHG has reported
limits the charge direction (R314). -/
def State.plim (s : State) (n : Nat) (out : Bool) : Rat :=
  if !out && s.chargeBlocked n then 0 else
  let rating : Rat := match s.strGroup n with | some g => s.grpRating g | none => 0
  let cell : Rat := 100 * (if out then s.fg (Fld.EST_S_PLIM_PDIS n) else s.fg (Fld.EST_S_PLIM_PCHG n))
  let p := min (min rating (s.derateW n)) (min cell ((s.strInom n * s.strVnom n : Nat) / 100))
  match (if out then none else (s.chgS n).held) with
  | some w => min p w
  | none => p

def State.stale (s : State) (n : Nat) : Bool := s.fb (Fld.EST_S_STAT_STALE n)

/-- The set D of R209 without its REST clause. -/
def State.inD (s : State) (n : Nat) : Bool := s.strUsed n && s.strCarries n && !s.stale n

def State.eAdm (s : State) (n : Nat) : Rat :=
  if s.stale n then 0 else max 0 ((s.rd (Reg.EST_S_EEST n)).toNat -
    marginK (s.fg Fld.SYS_PROFILE_PROFILE) * (s.rd (Reg.EST_S_SIGE n)).toNat)
def State.rAdm (s : State) (n : Nat) : Rat :=
  if s.stale n then 0 else max 0 ((s.rd (Reg.EST_S_REST n)).toNat -
    marginK (s.fg Fld.SYS_PROFILE_PROFILE) * (s.rd (Reg.EST_S_SIGR n)).toNat)

def sumOver (l : List Nat) (f : Nat → Rat) : Rat := l.foldl (fun a n => a + f n) 0

/-- The strings of D under no REST in slot `j`. -/
def State.dAt (s : State) (os : List Order) (j : Nat) : List Nat :=
  (List.range 8).filter (fun n => s.inD n && !windowOn tyRest os n j)

def State.broodE (s : State) (os : List Order) (n : Nat) : Rat :=
  let d := s.dAt os s.curSlot
  let tot := sumOver d s.eAdm
  let e : Rat := (s.rd Reg.ORD_BROOD_E).toNat
  if !d.contains n then 0 else if tot < e then s.eAdm n else if tot = 0 then 0 else e * s.eAdm n / tot

def State.broodP (s : State) (os : List Order) (n j : Nat) : Rat :=
  let d := s.dAt os j
  let tot := sumOver d (fun m => s.plim m true)
  if !d.contains n || tot = 0 then 0 else (s.rd Reg.ORD_BROOD_P).toNat * s.plim n true / tot

/-- The standing draw of a string, W (R209): the measured one is negative where the string has gained energy. -/
def State.draw (s : State) (n : Nat) : Rat :=
  max ((s.rd (Reg.ORD_S_DRAW n)).toInt : Rat) (s.rd (Reg.ORD_S_DRAWMIN n)).toNat

/-- Energy residents still have to take out of, and to put into, a string, 0.1 Wh. -/
def owedOn (os : List Order) (n : Nat) (out : Bool) : Rat :=
  os.foldl (fun a o =>
    let hold := if o.ty == tyHold && (decide (o.energy < 0) == out) then kvGet (fun _ => 0) o.reserve n else 0
    let flow := if o.plan.any (fun g => g.str == n && (decide (g.power < 0) == out)) && o.ty != tyHold
      then kvGet (fun _ => 0) o.owed n else 0
    a + hold + flow) 0

/-- The last second planned on a string. -/
def lastPlanned (os : List Order) (n : Nat) : Nat :=
  os.foldl (fun a o => o.plan.foldl (fun a g => if g.str == n then max a (2 * g.stop) else a) a) 0

/-- R259: what hold-up still claims of a string's free energy, until the hand-back completes. -/
def State.holdupClaim (s : State) (n : Nat) : Rat :=
  let at_ := fun (m : KV Rat) => kvGet (fun _ => 0) m n
  if s.sct.hold.contains n then min (at_ s.sct.f0) (at_ s.sct.b0 + at_ s.sct.f0 - at_ s.sct.taken) else 0

/-- R209, R259: the free energy of a string, 0.1 Wh. -/
def State.eFree (s : State) (os : List Order) (n deadline : Nat) : Rat :=
  let t := max deadline (lastPlanned os n) - s.ord.mono
  s.eAdm n - s.broodE os n - owedOn os n true - s.draw n * t / 360 - s.holdupClaim n
def State.rFree (s : State) (os : List Order) (n : Nat) : Rat := s.rAdm n - owedOn os n false

/-- R209: p_free before the sign rule of R208. -/
def State.pFreeRaw (s : State) (os : List Order) (n j : Nat) (out : Bool) : Rat :=
  s.plim n out - |schedPower os n j| - (if out then s.broodP os n j else 0)

/-- R208, R209: free power of a string in a slot; none against a committed power of the opposite sign. -/
def State.pFree (s : State) (os : List Order) (n j : Nat) (out : Bool) : Rat :=
  let sp := schedPower os n j
  if (out && decide (0 < sp)) || (!out && decide (sp < 0)) then 0 else max 0 (s.pFreeRaw os n j out)

/-! ### Admission (R199, R212, R213) -/

/-- R199 (DEDUCED readings: log entry 11). -/
def Order.badField (o : Order) : Bool :=
  let a := o.energy.natAbs
  o.id == 0 || decide (o.ty < 1 ∨ 6 < o.ty) || !o.clean || o.smask == 0 ||
  (if o.ty = tyBalance then o.dmask == 0 || o.dmask &&& o.smask != 0 else o.dmask != 0) ||
  decide (15 < o.contract) || decide (1 < o.scope) || (o.scope == 0 && o.racks != 0) ||
  (match o.ty with
   | 1 => decide (0 ≤ o.energy) | 2 => decide (o.energy ≤ 0) | 3 => decide (o.energy ≤ 0)
   | 4 => decide (o.energy ≤ 0) | 5 => o.energy != 0 | _ => o.energy == 0) ||
  ((o.ty == tyDischarge || o.ty == tyChargeBus || o.ty == tyBalance) && decide (a < 10000)) ||
  decide (o.pmax < o.pmin) || (o.pmax == 0 && o.ty != tyRest) ||
  ((o.ty == tyChargePv || o.ty == tyHold) && o.pmin != 0) ||
  (o.ty == tyRest && (o.energy != 0 || o.pmax != 0 || o.pmin != 0)) ||
  (bitOf o.flags 2 && (o.ty == tyHold || o.ty == tyRest)) || (!bitOf o.flags 2 && o.holdId != 0)

/-- The strings an order names. -/
def Order.named (o : Order) : List Nat := bitsOf 8 (o.smask ||| o.dmask)

/-- The contract a string belongs to: the assignment in force (R172). -/
def State.contractOf (s : State) (n : Nat) : Nat := fldOf (s.rd Reg.LDG_ASSIGN) (4 * n) 4

/-- A PV group in use that targets the bus or string `n`. -/
def State.pvServes (s : State) (n : Nat) : Bool :=
  (List.range 12).any (fun g => decide (2 ≤ s.grpType g) && (s.grpTarget g == 0xFF || s.grpTarget g == n))

/-- R301: the PV group whose target is string `n`; a string without one is served through a PV group on the bus. -/
def State.pvDirect (s : State) (n : Nat) : Option Nat :=
  (List.range 12).find? (fun g => decide (2 ≤ s.grpType g) && s.grpTarget g == n)

/-- What a decision can answer. -/
inductive Decision where
  | reject (cause hint : Nat)
  | accept (o : Order)
  deriving DecidableEq, Repr

/-- The ends of runs of slots over which the schedule does not change, inside `a` to `b`. -/
def breakpoints (os : List Order) (a b : Nat) : List Nat :=
  let pts := os.flatMap (fun o => o.plan.flatMap (fun g => [g.first, g.stop]) ++ [o.start / 2, (o.deadline + 1) / 2])
  (sortBy (fun x y => decide (x ≤ y)) ([a, b] ++ pts.filter (fun p => a < p && p < b))).dedup

def runsOf : List Nat → List (Nat × Nat)
  | a :: b :: r => (a, b) :: runsOf (b :: r)
  | _ => []

/-- One side of a plan in one run of slots: `p` watts over `strs` in proportion to p_free (R212). -/
def splitRun (s : State) (os : List Order) (strs : List Nat) (out : Bool) (p : Rat) (r : Nat × Nat) : Option (List Seg) :=
  let tot := sumOver strs (fun n => s.pFree os n r.1 out)
  if tot < p ∨ tot = 0 then none
  else some ((strs.filter (fun n => decide (0 < s.pFree os n r.1 out))).map (fun n =>
    let w := p * s.pFree os n r.1 out / tot
    ⟨r.1, r.2, n, if out then -w else w⟩))

/-- R213, R298: the AC draw that is left, W. -/
def State.acCap (s : State) : Rat :=
  match s.cnv.acLim with
  | some l => min (s.rd Reg.ORD_AC_CAP).toNat (106 / 100 * l.2.1)
  | none => (s.rd Reg.ORD_AC_CAP).toNat

/-- R213: the caps hold in slot `j` with `bus` more watts of exchange, `ac` more AC draw and `own` more of the
contract's power. -/
def capsHold (s : State) (os : List Order) (c j : Nat) (bus ac own : Rat) : Bool :=
  let cap := (s.rd (Reg.ORD_LC_CAP c)).toNat
  decide (busPower os j + bus + (s.rd Reg.ORD_BROOD_P).toNat ≤ (s.rd Reg.ORD_BUS_CAP).toNat) &&
  (decide (ac = 0) || (decide (acPower os j + ac ≤ s.acCap) && !s.ord.acOut)) &&
  (cap == 0xFFFFFFFF || decide (contractPower c os j + own ≤ cap))

/-- The energy a plan puts on each string, 0.1 Wh. -/
def planEnergy (plan : List Seg) (n : Nat) : Rat :=
  plan.foldl (fun a g => if g.str == n then a + |g.power| * ((g.stop - g.first : Nat) : Rat) * 2 / 360 else a) 0

/-- The sides of an order: its strings, whether energy leaves them, and the factor on its power (R212). -/
def Order.sides (o : Order) : List (List Nat × Bool × Rat) :=
  if o.ty = tyDischarge then [(bitsOf 8 o.smask, true, 1)]
  else if o.ty = tyBalance then [(bitsOf 8 o.smask, true, 106 / 100), (bitsOf 8 o.dmask, false, 1)]
  else if o.ty = tyHold then [(bitsOf 8 o.smask, decide (o.energy < 0), 1)]
  else [(bitsOf 8 o.smask, false, 1)]

/-- CHARGE_PV power committed on string `n` in slot `j`, W. -/
def pvCommitted (os : List Order) (n j : Nat) : Rat := schedPower (os.filter (·.ty == tyChargePv)) n j

/-- The capacity of the PV groups whose target is `t`, W. -/
def State.pvCapacity (s : State) (t : Nat) : Rat :=
  sumOver ((List.range 12).filter (fun g => decide (2 ≤ s.grpType g) && s.grpTarget g == t)) (fun g => (s.grpRating g : Rat))

/-- R197, R212: the PV groups can carry what the segments of a CHARGE_PV plan add in slot `j` to the power committed on
them (a shortage counts as NO_POWER: DEDUCED, log entry 11). -/
def State.pvFits (s : State) (os : List Order) (segs : List Seg) (j : Nat) : Bool :=
  let on := fun n => pvCommitted os n j + segs.foldl (fun a g => if g.str == n then a + g.power else a) 0
  let viaBus := (List.range 8).filter (fun n => (s.pvDirect n).isNone)
  segs.all (fun g => if (s.pvDirect g.str).isSome then decide (on g.str ≤ s.pvCapacity g.str)
    else decide (sumOver viaBus on ≤ s.pvCapacity 0xFF))

/-- Plan one run: every side split and every cap kept, or the cause of the first failure. -/
def planRun (s : State) (os : List Order) (o : Order) (p : Rat) (r : Nat × Nat) : Except Nat (List Seg) :=
  match (o.sides.map (fun d => splitRun s os d.1 d.2.1 (p * d.2.2) r)).foldr
      (fun x acc => match x, acc with | some a, some b => some (a ++ b) | _, _ => none) (some []) with
  | none => .error 0x0A
  | some segs =>
    if o.ty = tyChargePv ∧ !s.pvFits os segs r.1 then .error 0x0A else
    let own := segs.foldl (fun a g => a + |g.power|) (0 : Rat)
    if capsHold s os o.contract r.1 own (if o.ty = tyChargeBus then 106 / 100 * p else 0) own then .ok segs
    else .error 0x0B

def planRuns (s : State) (os : List Order) (o : Order) (p : Rat) : List (Nat × Nat) → Except Nat (List Seg)
  | [] => .ok []
  | r :: rs => match planRun s os o p r with
    | .error c => .error c
    | .ok a => match planRuns s os o p rs with
      | .error c => .error c
      | .ok b => .ok (a ++ b)

/-- The HOLD that USE_HOLD names (R212). -/
def Order.usesHold (o h : Order) : Bool :=
  bitOf o.flags 2 && h.id == o.holdId && h.ty == tyHold && h.contract == o.contract

/-- A segment of that HOLD keeps power of a direction that the order uses on the string. -/
def Order.freesSeg (o : Order) (g : Seg) : Bool := o.sides.any (fun d => d.1.contains g.str && (decide (g.power < 0) == d.2.1))

/-- R212: the orders that power is planned against: what the named HOLD keeps for the order's strings and direction is free
within its window. -/
def Order.against (o : Order) (os : List Order) : List Order :=
  os.map (fun h => if o.usesHold h then { h with plan := h.plan.filter (fun g => !o.freesSeg g) } else h)

def State.planAgainst (s : State) (o : Order) : List Order := o.against s.committed

/-- Energy of a plan on string `n` that falls on segments of a HOLD of the same direction, 0.1 Wh. -/
def overlapEnergy (plan hold : List Seg) (n : Nat) : Rat :=
  plan.foldl (fun a x => hold.foldl (fun a g =>
    if x.str == n && g.str == n && (decide (x.power < 0) == decide (g.power < 0)) then
      a + |x.power| * ((min x.stop g.stop - max x.first g.first : Nat) : Rat) * 2 / 360 else a) a) 0

/-- What a plan takes of the energy that a HOLD keeps on string `n` (R205, R212). -/
def Order.holdTaken (h : Order) (plan : List Seg) (n : Nat) : Rat :=
  min (kvGet (fun _ => 0) h.reserve n) (overlapEnergy plan h.plan n)

/-- The energy check of R212: each string's planned energy against its free energy or room, and within its window what
the named HOLD keeps. -/
def energyFits (s : State) (os : List Order) (o : Order) (plan : List Seg) : Bool :=
  let kept := fun n => match os.find? o.usesHold with | some h => h.holdTaken plan n | none => 0
  o.sides.all (fun d => d.1.all (fun n =>
    decide (planEnergy plan n ≤ (if d.2.1 then s.eFree os n o.deadline else s.rFree os n) + kept n)))

/-- The plan of an order of energy `e` (0.1 Wh) from slot `j0` to its deadline. -/
def planOrder (s : State) (os : List Order) (o : Order) (e : Nat) (j0 : Nat) : Except Nat (List Seg) :=
  let span : Rat := (o.deadline - 2 * j0 : Nat)
  if span = 0 then .error 0x04
  else
    let p : Rat := max o.pmin ((e : Rat) * 360 / span)
    if (o.pmax : Rat) < p then .error 0x0A
    else if p = 0 then .error 0x09
    else
      let n := (((e : Rat) * 360 / (2 * p)).ceil).toNat
      if o.deadline < 2 * j0 + 2 * n then .error 0x04
      else
        let full := n - 1
        let rest : Rat := ((e : Rat) * 360 - p * 2 * full) / 2
        let free := o.against os
        match planRuns s free o p (runsOf (breakpoints free j0 (j0 + full))) with
        | .error c => .error c
        | .ok a => match planRun s free o rest (j0 + full, j0 + full + 1) with
          | .error c => .error c
          | .ok b => if energyFits s os o (a ++ b) then .ok (a ++ b) else .error 0x09

/-- HINT: the largest energy below `e` that the same order could have had (R200, R212). -/
def hintBelow (ok : Nat → Bool) : Nat → Nat
  | 0 => 0
  | e + 1 => if ok e then e else hintBelow ok e

def withPlan (o : Order) (plan : List Seg) : Order :=
  { o with plan := plan, owed := (List.range 8).filterMap (fun n =>
      let x := planEnergy plan n
      if x = 0 then none else some (n, x)) }

/-- Does any run of an interval satisfy `f` at its first slot? -/
def anyRun (os : List Order) (a b : Nat) (f : Nat → Bool) : Bool := (runsOf (breakpoints os a b)).any (fun r => f r.1)

/-- R212 for a REST. -/
def decideRest (s : State) (os : List Order) (o : Order) (a b : Nat) : Decision :=
  if anyRun os a b (fun j => o.named.any (fun n => schedPower os n j != 0 || windowOn tyHold os n j)) then .reject 0x0C 0
  else if anyRun os a b (fun j =>
      decide (sumOver ((s.dAt os j).filter (fun n => !o.named.contains n)) (fun n => s.pFreeRaw os n j true) < 0)) then
    .reject 0x0A 0
  else .accept { o with state := 3 }

/-- The power checks of every slot come before the caps (R212). -/
def holdRuns (s : State) (os : List Order) (o : Order) (rs : List (Nat × Nat)) : Except Nat (List Seg) :=
  if rs.any (fun r => match planRun s os o o.pmax r with | .error c => c == 0x0A | .ok _ => false) then .error 0x0A
  else planRuns s os o o.pmax rs

/-- R212 for a HOLD: PMAX per slot and its energy are reserved (DEDUCED, log entry 12). -/
def decideHold (s : State) (os : List Order) (o : Order) (a b : Nat) : Decision :=
  match holdRuns s os o (runsOf (breakpoints os a b)) with
  | .error c => .reject c 0
  | .ok plan =>
    let strs := bitsOf 8 o.smask
    let out := decide (o.energy < 0)
    let free := sumOver strs (fun n => if out then s.eFree os n o.deadline else s.rFree os n)
    let e : Rat := o.energy.natAbs
    if free < e then .reject 0x09 (min o.energy.natAbs (max 0 free).floor.toNat)
    else
      let tot := sumOver strs (planEnergy plan)
      .accept { o with
        state := 3, plan := plan,
        reserve := strs.map (fun n => (n, if tot = 0 then 0 else e * planEnergy plan n / tot)) }

/-- R212: the decision of a rack-scope order whose times are on the monotonic count. -/
def decideOrder (s : State) (o : Order) (tooLate horizon : Bool) : Decision :=
  let os := s.committed
  let now := s.ord.mono
  let named := o.named
  if s.ord.orders.any (fun x => x.id == o.id && (x.resident || (x.state == 2 && decide (x.seq < o.seq)))) then .reject 0x02 0
  else if 1024 ≤ s.residents.length then .reject 0x03 0
  else if s.image.isNone || named.any (fun n => !s.strUsed n || !s.strCarries n || (s.strGroup n).isNone ||
      (o.ty == tyChargePv && !s.pvServes n)) then .reject 0x07 0
  else if named.any (fun n => s.contractOf n != o.contract) || s.rd (Reg.ORD_LC_CAP o.contract) == 0 then .reject 0x06 0
  else if named.any (fun n => s.stale n || bitOf (s.fg Fld.CHG_STAT_LOST) n || s.kState n != kClosed) then .reject 0x08 0
  else
    let j0 := (max o.start (now + 2) + 1) / 2
    if horizon then .reject 0x05 0
    else if tooLate || decide (o.deadline < 2 * j0 + 2) || decide (o.deadline < o.start) then .reject 0x04 0
    else
      let jEnd := (o.deadline + 1) / 2
      if o.ty = tyRest then decideRest s os o j0 jEnd
      else if anyRun os j0 jEnd (fun j => named.any (fun n => windowOn tyRest os n j)) then .reject 0x0C 0
      else if o.ty = tyHold then decideHold s os o j0 jEnd
      else
        let e := o.energy.natAbs
        match planOrder s os o e j0 with
        | .ok plan => .accept { withPlan o plan with state := 3 }
        | .error 0x09 =>
          let h := hintBelow (fun x => match planOrder s os o x j0 with | .ok _ => true | _ => false) e
          .reject 0x09 (if h < 10000 ∧ o.ty ≠ tyChargePv then 0 else h)
        | .error c => .reject c 0

/-- A HOLD's segment after another plan has taken its power from it, in the slots that the plan covers. -/
def yieldSeg (plan : List Seg) (g : Seg) : List Seg :=
  let own := plan.filter (fun x => x.str == g.str && (decide (x.power < 0) == decide (g.power < 0)))
  let cuts := own.flatMap (fun x => [x.first, x.stop])
  let pts := (sortBy (fun x y => decide (x ≤ y)) ([g.first, g.stop] ++ cuts.filter (fun p => g.first < p && p < g.stop))).dedup
  (runsOf pts).map (fun r =>
    let used : Rat := own.foldl (fun a x => if x.first ≤ r.1 && r.1 < x.stop then a + |x.power| else a) 0
    { g with first := r.1, stop := r.2, power := if g.power < 0 then min 0 (g.power + used) else max 0 (g.power - used) })

/-- A HOLD gives up what an order under USE_HOLD takes from it (R205, R212); at 0 it ends DONE. -/
def useHold (o : Order) (s : State) : State :=
  match s.committed.find? o.usesHold with
  | none => s
  | some h =>
    let left := h.reserve.map (fun r => (r.1, r.2 - h.holdTaken o.plan r.1))
    let h' := { h with
      reserve := left,
      plan := h.plan.flatMap (yieldSeg o.plan),
      outFlags := h.outFlags ||| 8 }
    if left.all (fun r => decide (r.2 = 0)) then endOrder h' 5 0 0 s else s.putOrder h'

/-- R201: a NOTICE record. -/
def notice (o : Order) (state : Nat) (s : State) : State :=
  sendCq o.cq [⟨o.id, 0, state, 0, o.recFlags, none, s.now, 0, s.swarmPos, 0xFF, 0, o.htag, 0⟩] s

/-! ### The brood reserve (R209, R215) -/

/-- The resident orders fit every slot of the schedule (R209, R213), with the k now in force (R36; DEDUCED, log entry 26). -/
def State.fits (s : State) (os : List Order) : Bool :=
  let hi := os.foldl (fun a o => o.plan.foldl (fun a g => max a g.stop) a) s.curSlot
  (runsOf (breakpoints os s.curSlot hi)).all (fun r =>
    capsHold s os 0 r.1 0 0 0 && decide (acPower os r.1 ≤ s.acCap) &&
    (List.range 16).all (fun c => let cap := (s.rd (Reg.ORD_LC_CAP c)).toNat
      cap == 0xFFFFFFFF || decide (contractPower c os r.1 ≤ cap)) &&
    (List.range 8).all (fun n => schedPower os n r.1 == 0 ||
      decide (0 ≤ s.pFreeRaw os n r.1 (decide (schedPower os n r.1 < 0))))) &&
  (List.range 8).all (fun n => owedOn os n true == 0 || decide (0 ≤ s.eFree os n 0))

/-- The strings of D hold less than the brood reserve (R209), or the resident orders leave less than it (R215). -/
def State.broodShort (s : State) (os : List Order) : Bool :=
  decide (sumOver (s.dAt os s.curSlot) s.eAdm < (s.rd Reg.ORD_BROOD_E).toNat) || !s.fits os

def broodCheck (s : State) : State := s.fs Fld.ORD_STAT_BROOD_SHORT (boolNat (s.broodShort s.committed))

/-- The state in which the brood reserve has given way (R215). -/
def State.noBrood (s : State) : State := (s.wr Reg.ORD_BROOD_E 0).wr Reg.ORD_BROOD_P 0

/-- What a decision shows: the free energies of every string in use, and BROOD_SHORT (R209). -/
def showFree (o : Order) (s : State) : State :=
  let os := s.committed
  broodCheck (s.strings.foldl (fun s n =>
    (s.wr (Reg.ORD_S_EADM n) (BitVec.ofInt 32 (s.eFree os n o.deadline).floor)).wr (Reg.ORD_S_RADM n)
      (BitVec.ofInt 32 (s.rFree os n).floor)) s)

/-- R214: an admitted order. -/
def acceptOrder (o : Order) (s : State) : State :=
  let o' := { o with seq := s.ord.nextSeq, since := s.now }
  let s := s.setOrd { s.ord with
    nextSeq := s.ord.nextSeq + 1,
    orders := s.ord.orders.filter (fun x => !(x.id == o.id && x.seq == o.seq)) ++ [o'] }
  broodCheck (schedChanged (ordStat (notice o' 3 (useHold o' s))))

/-- The RTC second `t` of a record as a monotonic second (R207): times in the past become 0. -/
def State.toMono (s : State) (t : Nat) : Nat := if t = 0 then 0 else (s.ord.mono + t) - s.now

/-! ### Endings (R215 to R225) -/

/-- The groups of an order's strings that no other ACTIVE order uses. -/
def State.ownGroups (s : State) (o : Order) : List Nat :=
  let others := s.ord.orders.filter (fun x => x.state == 4 && x.id != o.id && x.ending.isNone)
  (o.named.filter (fun n => !others.any (fun x => x.named.contains n) &&
    !(o.ty == tyChargePv && (s.pvDirect n).isSome))).filterMap s.strGroup

/-- Withdraw an order's setpoints: its groups stop by R283. -/
def withdraw (o : Order) (s : State) : State := (s.ownGroups o).foldl (fun s g => groupStop g s) s

/-- The flow of an order has stopped: its own groups are off or hold no setpoint. -/
def State.flowStopped (s : State) (o : Order) : Bool :=
  (s.ownGroups o).all (fun g => s.mode g == modeOff || s.mode g == modeShadow || s.mode g == modeBus ||
    !(s.grp g).stopping && s.pubGet (0x040 + g) == 0)

/-- R418 (5), R420: the cause that a PART_END barrier carries to the other racks for an ending at the queen. The queen's
own record keeps the ending's cause (R215; DEDUCED, log entry 15). -/
def endCause (cause : Nat) : Nat :=
  if cause = 0 ∨ cause = 0x20 ∨ cause = 0x21 ∨ cause = 0x23 then cause else 0x26

/-- The state an ending with a cause leads to (R205, R206). -/
def causeState (cause : Nat) : Nat := if cause = 0 then 5 else if 0x20 ≤ cause ∧ cause ≤ 0x22 then 7 else 8

/-- End an order: at once unless it moves energy, else when its flow has stopped (R221, R225). The end of a part of a
swarm order goes to the other racks first (R232, R418). -/
def stopOrder (o : Order) (state cause : Nat) (s : State) : State :=
  if o.ending.isSome then s
  else if o.swarm ∧ o.resident then
    withdraw o (announce 2 (endCause cause) o.id (s.wgl.cycle + 4) (s.putOrder { o with ending := some (state, cause) }))
  else
  let s := if o.scope = 1 ∧ o.cq = partCq then s.item ⟨4, o.id, cause, o.deliv⟩ else s
  if o.state = 4 ∧ !s.flowStopped o then withdraw o (s.putOrder { o with ending := some (state, cause) })
  else endOrder o state cause 0 s

/-- What a PART_END barrier does to this rack's part (R417). -/
def stopPart (o : Order) (state cause : Nat) (s : State) : State :=
  if o.ending.isSome then s
  else if o.state = 4 ∧ !s.flowStopped o then withdraw o (s.putOrder { o with ending := some (state, cause) })
  else endOrder o state cause 0 s

def stopWhere (p : Order → Bool) (state cause : Nat) (s : State) : State :=
  (s.ord.orders.filter p).foldl (fun s o => stopOrder o state cause s) s

/-- R223: a contract is cut: its PENDING and resident orders end. -/
def contractCut (c : Nat) (s : State) : State := stopWhere (fun o => o.contract == c) 7 0x22 s

/-- R223: strings have left the contract that they belonged to under `old`: the PENDING and resident orders of that contract
that name one end. -/
def contractLeft (old : Nat → Nat) (s : State) : State :=
  stopWhere (fun o => o.named.any (fun n => old n == o.contract && s.contractOf n != o.contract)) 7 0x22 s

/-- Which resource a cut concerns (R222). -/
inductive Cut where
  | bus | ac | contract (c : Nat) | broodE | broodP
  deriving DecidableEq, Repr

/-- The order takes energy out of strings that admission counts free of the brood reserve. -/
def Order.takesOut (o : Order) : Bool :=
  o.ty == tyDischarge || o.ty == tyBalance || (o.ty == tyHold && decide (o.energy < 0))

/-- R213: with the brood reserve the bus exceeds its cap in some slot. -/
def State.busOver (s : State) (os : List Order) : Bool :=
  let hi := os.foldl (fun a o => o.plan.foldl (fun a g => max a g.stop) a) s.curSlot
  (runsOf (breakpoints os s.curSlot hi)).any (fun r =>
    decide (((s.rd Reg.ORD_BUS_CAP).toNat : Rat) < busPower os r.1 + (s.rd Reg.ORD_BROOD_P).toNat))

/-- The order uses the resource that is cut (R222): every order with power exchanges it over the bus, and the reserve's
power lies on the bus and on the strings that discharge. -/
def State.usesCut (s : State) (o : Order) : Cut → Bool
  | .bus => o.ty != tyRest
  | .ac => o.ty == tyChargeBus
  | .contract c => o.contract == c && o.ty != tyRest
  | .broodE => o.takesOut
  | .broodP => o.ty != tyRest && (o.takesOut || s.busOver s.committed)

/-- The order a cut ends first: lowest PRIO, then the most recently accepted (R222). -/
def firstToCut (os : List Order) : Option Order :=
  os.foldl (fun (b : Option Order) o => match b with
    | none => some o
    | some x => if o.prio < x.prio ∨ (o.prio = x.prio ∧ x.seq < o.seq) then some o else some x) none

def capCutLoop (c : Cut) : Nat → State → State
  | 0, s => s
  | n + 1, s =>
    if s.fits s.committed then s
    else match firstToCut (s.committed.filter (fun o => s.usesCut o c)) with
    | none => s
    | some o => capCutLoop c n (stopOrder o 7 0x21 s)

/-- R222: resident orders end until the rest fit. -/
def capCut (c : Cut) (s : State) : State :=
  broodCheck (capCutLoop c s.ord.orders.length s)

/-! ### Resource removal (R225) -/

/-- The sign of an order's ENERGY. -/
def signOf (o : Order) : Int := if o.energy < 0 then -1 else 1

/-- The strings a removal takes out of an order's reach. -/
def State.removedStrings (s : State) : Removal → List Nat
  | .string n => [n]
  | .group g => if s.grpType g = 1 then [s.grpTarget g] else []
  | _ => []

/-- R501: the derating limit of a string lies below its committed power in some slot from now on. -/
def State.overDerated (s : State) (n : Nat) : Bool :=
  let os := s.committed
  let hi := os.foldl (fun a o => o.plan.foldl (fun a g => max a g.stop) a) s.curSlot
  (runsOf (breakpoints os s.curSlot hi)).any (fun r => decide (s.derateW n < |schedPower os n r.1|))

/-- In some slot from now on, `p` of the slot exceeds `w`. -/
def State.plannedAbove (s : State) (w : Rat) (p : List Order → Nat → Rat) : Bool :=
  let os := s.committed
  let hi := os.foldl (fun a o => o.plan.foldl (fun a g => max a g.stop) a) s.curSlot
  (runsOf (breakpoints os s.curSlot hi)).any (fun r => decide (w < p os r.1))

/-- The order still has power planned on string `n` that satisfies `f`. -/
def State.stillOn (s : State) (o : Order) (n : Nat) (f : Rat → Bool) : Bool :=
  o.plan.any (fun g => g.str == n && decide (s.curSlot < g.stop) && f g.power)

/-- The order needs string `n`: it has power planned on it from now on, or is a REST, which has none. -/
def State.needsString (s : State) (o : Order) (n : Nat) : Bool :=
  if o.ty = tyRest then o.named.contains n else s.stillOn o n (fun _ => true)

/-- A PV group carries part of the order's plan. -/
def State.needsPv (s : State) (o : Order) (g : Nat) : Bool :=
  o.ty == tyChargePv && o.named.any (fun n => s.needsString o n &&
    (if s.grpTarget g = 0xFF then (s.pvDirect n).isNone else s.grpTarget g == n))

/-- An order needs the removed resource: what is left of it lies below what is planned from now on (R215, R225). -/
def State.needs (s : State) (o : Order) (r : Removal) : Bool :=
  match r with
  | .string n => s.needsString o n
  | .group g => if s.grpType g = 1 then s.needsString o (s.grpTarget g) else s.needsPv o g
  | .acDraw w => o.ty == tyChargeBus && o.named.any (s.needsString o) && s.plannedAbove w acPower
  | .charge n w => s.stillOn o n (fun p => decide (0 < p)) && s.plannedAbove w (fun os j => schedPower os n j)
  | .full n => o.ty != tyChargePv && s.stillOn o n (fun p => decide (0 < p))
  | .zone h => o.named.any (fun n => s.strShelf n == h && s.needsString o n && s.overDerated n)
  | .channel _ => false

/-- The plan of an order for its remaining energy on the strings that remain, from the current slot on, against the orders
`os` (R225, R265; DEDUCED, log entry 13). -/
def replanIn (s : State) (os : List Order) (o : Order) (gone : List Nat) : Option Order :=
  let keep := fun m => maskOf 8 (fun n => bitOf m n && !gone.contains n)
  let o' := { o with smask := keep o.smask, dmask := keep o.dmask }
  let left := (o.energy.natAbs : Int) - o.deliv.natAbs
  let j0 := max s.curSlot ((o.start + 1) / 2)
  if o'.smask = 0 ∨ (o.ty = tyBalance ∧ o'.dmask = 0) ∨ left ≤ 0 then none
  else if o.ty = tyHold then
    match decideHold s os { o' with energy := signOf o * (o.reserve.foldl (fun a x => a + x.2) (0 : Rat)).floor } j0
        ((o.deadline + 1) / 2) with
    | .accept a => some { o with plan := a.plan, reserve := a.reserve, outFlags := o.outFlags ||| 1 }
    | .reject _ _ => none
  else match planOrder s os o' left.toNat j0 with
    | .ok plan => some { withPlan o' plan with outFlags := o.outFlags ||| 1, smask := o.smask, dmask := o.dmask }
    | .error _ => none

/-- The other orders of a schedule whose power a re-plan may move: those that move energy over several strings, none of
them gone. -/
def Order.movable (o : Order) (gone : List Nat) : Bool :=
  decide (o.ty ≤ 4) && decide (2 ≤ (bitsOf 8 o.smask).length ∨ 2 ≤ (bitsOf 8 o.dmask).length) &&
  !o.named.any gone.contains && o.ending.isNone

/-- Descending PRIO, then earliest accepted first (R225). -/
def replanBefore (a b : Order) : Bool := decide (b.prio < a.prio ∨ (a.prio = b.prio ∧ a.seq ≤ b.seq))

/-- Orders planned anew in turn, each against `fixed` and those before it. -/
def replanEach (s : State) (gone : List Nat) (fixed : List Order) : List Order → Option (List Order)
  | [] => some fixed
  | o :: r => match replanIn s fixed o gone with
    | some o' => replanEach s gone (fixed ++ [o']) r
    | none => none

/-- R225: the schedule `os` with the order planned anew: alone, or where that fails with the power of the other orders
moved within their own strings and bounds. -/
def replanInto (s : State) (os : List Order) (o : Order) (gone : List Nat) : Option (List Order) :=
  match replanIn s os o gone with
  | some o' => some (os ++ [o'])
  | none =>
    let movers := os.filter (·.movable gone)
    if movers.isEmpty then none
    else replanEach s gone (os.filter (fun x => !x.movable gone)) (o :: sortBy replanBefore movers)

/-- R215, R225: the brood reserve gives way before an order does. -/
def replanOrder (s : State) (os : List Order) (o : Order) (gone : List Nat) : Option (List Order) :=
  match replanInto s os o gone with
  | some l => some l
  | none => replanInto s.noBrood os o gone

/-- The schedule after the orders have been planned anew in turn, and the orders that no plan fits. -/
def replanAll (s : State) (gone : List Nat) : List Order → List Order → List Order × List Order
  | os, [] => (os, [])
  | os, o :: r => match replanOrder s os o gone with
    | some l => replanAll s gone l r
    | none => let x := replanAll s gone os r; (x.1, o :: x.2)

/-- The plans of a schedule take the place of those of the orders. -/
def installPlans (os : List Order) (s : State) : State := os.foldl (fun s o => s.putOrder o) s

/-- R225: the named orders are planned anew; those that no plan fits end. -/
def replanNow (tough : List Order) (gone : List Nat) (cause : Nat) (s : State) : State :=
  let rest := s.committed.filter (fun x => !tough.any (fun o => o.id == x.id && o.seq == x.seq))
  let x := replanAll s gone rest tough
  broodCheck (x.2.foldl (fun s o => stopOrder o 8 cause s) (schedChanged (installPlans x.1 s)))

/-- The shadow plan of a string, provided that it carries the current schedule version (R266). -/
def State.shadowPlan (s : State) (n : Nat) : Option ShadowPlan :=
  (kvGet (fun _ => none) s.ord.plans n).filter (fun p => p.ver == s.ord.ver)

/-- An order under a trial copy of its plan: what it has been credited since the copy was made no longer stands in its
owed energy. -/
def trialPlan (t o : Order) : Order :=
  let left : Rat := max 0 ((o.energy.natAbs : Int) - o.deliv.natAbs : Int)
  let tot := t.owed.foldl (fun a x => a + x.2) (0 : Rat)
  let half : Rat := if o.ty = tyBalance then 206 / 100 else 1
  { o with
    plan := t.plan, reserve := t.reserve, outFlags := o.outFlags ||| t.outFlags,
    owed := if tot = 0 then t.owed else t.owed.map (fun x => (x.1, x.2 * left * half / tot)) }

/-- R225, R266: the shadow plan is installed; the orders it could not fit end. -/
def installShadow (p : ShadowPlan) (s : State) : State :=
  let s := s.setOrd { s.ord with orders := s.ord.orders.map (fun o =>
    match p.trial.find? (fun t => t.id == o.id && t.seq == o.seq) with
    | some t => if t.plan = o.plan then o else trialPlan t o
    | none => o) }
  broodCheck ((s.ord.orders.filter (fun o => p.gap.contains (o.id, o.seq))).foldl (fun s o => stopOrder o 8 0x24 s)
    (schedChanged s))

/-- R225, R21, R41: every removal that waits is evaluated as one: orders that do not need it stay; a non-RESILIENT one
ends; a RESILIENT one takes the shadow plan of a single string loss, or waits for K0. A discard-all governs (R552). -/
def applyRemovals (s : State) : State :=
  let rs := s.removals
  if rs.isEmpty || s.fb Fld.ORD_STAT_DISCARDING then s
  else
    let s := s.setRemovals []
    let gone := (rs.flatMap s.removedStrings).dedup
    let hit := s.residents.filter (fun o => o.ending.isNone && rs.any (s.needs o))
    let tough := sortBy replanBefore (hit.filter (fun o => bitOf o.flags 0))
    let shadow := match rs with | [.string n] => s.shadowPlan n | _ => none
    let s := (hit.filter (fun o => !bitOf o.flags 0)).foldl (fun s o => stopOrder o 8 0x24 s) s
    match shadow with
    | some p => if tough.isEmpty then broodCheck s else installShadow p s
    | none =>
      if tough.isEmpty then broodCheck s
      else s.setOrd { s.ord with replan := match s.ord.replan with
        | some (ids, g) => some (ids ++ tough.map (·.id), (g ++ gone).dedup)
        | none => some (tough.map (·.id), gone) }

/-- R225: K0 finishes re-planning, or discards the orders no plan fits; not while a discard-all runs (R552). -/
def replanComplete (s : State) : State :=
  match s.ord.replan with
  | none => s
  | some (ids, gone) =>
    if s.fb Fld.ORD_STAT_DISCARDING then s else
    replanNow (sortBy replanBefore (s.committed.filter (fun o => ids.contains o.id))) gone 0x24
      (s.setOrd { s.ord with replan := none })

/-! ### Discard-all and the epoch (R227, R228, R520) -/

def epochSlot (i : Nat) : Nat := 0x740100 + 16 * i
def State.epochValid (s : State) (i : Nat) : Bool :=
  s.mramWord (epochSlot i + 8) == 0x3A5E0C17 &&
  (s.mramWord (epochSlot i + 4)).toNat == crc32 (s.mramBytes (epochSlot i) 4)
def State.epochAt (s : State) (i : Nat) : Nat := if s.epochValid i then (s.mramWord (epochSlot i)).toNat else 0
def State.storedEpoch (s : State) : Nat := max (s.epochAt 0) (s.epochAt 1)

/-- R520: an epoch goes to the slot that does not hold the stored value: payload, CRC, commit word. -/
def epochWords (e : Nat) (s : State) : List (Nat × Word) :=
  let i := if s.epochAt 0 = s.storedEpoch ∧ s.epochValid 0 then 1 else 0
  [(epochSlot i, BitVec.ofNat 32 e), (epochSlot i + 12, 0), (epochSlot i + 4, BitVec.ofNat 32 (crc32 (leBytes 4 e))),
    (epochSlot i + 8, 0x3A5E0C17)]

/-- R227, R228 step 2: the next epoch goes to MRAM. -/
def epochBegin (e : Nat) (s : State) : State := nvIssue wEpoch (epochWords e s) s

/-- R228 step 1; at the queen every swarm order ends on the other racks (R420). -/
def discardBegin (s : State) : State :=
  if s.fb Fld.ORD_STAT_DISCARDING then s
  else
    let s := (s.fs Fld.ORD_STAT_DISCARDING 1).raise 147
    let s := (s.ord.orders.filter (fun o => o.swarm && o.resident)).foldl
      (fun s o => announce 2 0x23 o.id (s.wgl.cycle + 4) s) s
    (List.range 12).foldl (fun s g => if s.mode g = modePower then groupStop g s else s) s

/-- R228 step 5 for one order; the part of a swarm order at a worker is reported to the queen (R232). -/
def discardOrder (o : Order) (s : State) : State :=
  endOrder o 8 0x23 0 (if o.cq = partCq then s.item ⟨4, o.id, 0x23, o.deliv⟩ else s)

/-- R228 steps 3 to 6, once the epoch is stored. A cancel that waited for flushed entries then finds no order (R221). -/
def discardEnd (s : State) : State :=
  let e := (s.epoch + 1) % 2 ^ 32
  let s := s.wr Reg.ORD_EPOCH (BitVec.ofNat 32 e)
  let s := (List.range 32).foldl (fun s q => qFlush q s) s
  let waiting := s.ord.cancel.isSome
  let s := s.setOrd { s.ord with submitted := [], cancel := none, replan := none }
  let n := s.ord.orders.length
  let s := (List.range 16).foldl (fun s c => if s.qEnabled (32 + c) then
      sendCq c [⟨0, 3, 8, 0x23, 0, some e, s.now, 0, s.swarmPos, 0xFF, 0, n, 0⟩] s else s) s
  let s := (sortBy (fun a b : Order => decide (a.seq ≤ b.seq)) s.ord.orders).foldl (fun s o => discardOrder o s) s
  let s := if waiting then (s.fs Fld.ORD_CANCEL_STAT_BUSY 0).fs Fld.ORD_CANCEL_STAT_RESULT 1 else s
  ((s.fs Fld.ORD_STAT_DISCARDING 0).fs Fld.FLT_HSTAT_HANDLING 0).setRemovals []

/-- R228 steps 2 to 6: one command issues the epoch's words, and another, once they are in MRAM, does the rest. -/
def discardAll (s : State) : State :=
  if !s.fb Fld.ORD_STAT_DISCARDING then s
  else if !s.ord.started then (s.fs Fld.ORD_STAT_DISCARDING 0).fs Fld.FLT_HSTAT_HANDLING 0
  else nvRun wEpoch (epochBegin ((s.epoch + 1) % 2 ^ 32)) discardEnd s

end Sys2Proof.Machine
end

