-- ==== Sys2Proof/Machine/Scout.lean ====
section
/-!
DEFINITION. Scout (chapter 07): ACMON quantities, predictors and confidence, levels and squashes, confirmation,
hold-up, hand-over and hand-back.
-/
namespace Sys2Proof.Machine

def State.level (s : State) : Nat := s.fg Fld.SCT_STAT_LEVEL

/-! ### AC monitor (R234) -/

/-- Samples in half a nominal period at 10 kS/s, or at 2 kS/s in WATCH (R544; DEDUCED, log entry 14). -/
def State.halfSamples (s : State) : Nat :=
  let n := if s.fb Fld.SCT_AC_CFG_F60 then 83 else 100
  if s.sct.acWatch then n / 5 else n

def State.nompk (s : State) : Nat := s.fg Fld.SCT_AC_CFG_NOMPK

/-- The other front end takes over at a change of the power state: one sample in WATCH stands for five (DEDUCED, log entry
14). -/
def acFrontEnd (s : State) : State :=
  let w := s.powerState == 1
  if s.sct.acWatch = w then s
  else if w then s.setSct { s.sct with
    ac := (List.range (s.sct.ac.length / 5)).map (fun i => s.sct.ac.getD (5 * i) 0)
    cross := s.sct.cross.map (· / 5), acWatch := true }
  else s.setSct { s.sct with
    ac := s.sct.ac.flatMap (List.replicate 5), cross := s.sct.cross.map (5 * ·), acWatch := false }

/-- R234: the deviation of the frequency, mHz, for an interval between rising zero crossings given in samples. -/
def State.freqDev (s : State) (d : Rat) : Int :=
  let rate : Rat := if s.sct.acWatch then 2000 else 10000
  let nominal : Int := if s.fb Fld.SCT_AC_CFG_F60 then 60000 else 50000
  ratRound (1000 * rate / d) - nominal

/-- One ACMON sample, mV. The instant of a rising zero crossing lies between two samples in proportion to them (DEDUCED,
log entry 14). -/
def acSample (s : State) (v : Int) : State :=
  let t := s.sct.cross.map (· + 1)
  let ac := (v :: s.sct.ac).take (2 * s.halfSamples)
  match s.sct.ac.head? with
  | some u =>
    if u < 0 ∧ 0 ≤ v then
      let f : Rat := (v : Rat) / ((v - u : Int) : Rat)
      let s' := s.setSct { s.sct with ac := ac, cross := some f }
      match t with
      | some x => if f < x then s'.fss Fld.SCT_AC_STAT_FDEV (satSigned 16 (s.freqDev (x - f))) else s'
      | none => s'
    else s.setSct { s.sct with ac := ac, cross := t }
  | none => s.setSct { s.sct with ac := ac }

/-- Half-cycle RMS in 0.1 % of NOMPK ÷ √2, rounded down (DEDUCED, log entry 14). -/
def State.acRms (s : State) : Nat :=
  let w := s.sct.ac.take s.halfSamples
  let sq := w.foldl (fun a v => a + v.natAbs * v.natAbs) 0
  if w.isEmpty ∨ s.nompk = 0 then 0 else Nat.sqrt (2 * sq * 1000000 / (w.length * s.nompk * s.nompk))

/-- No sample of the last `n` exceeds LOSS % of NOMPK; not before `n` have been taken. -/
def State.acMissing (s : State) (n : Nat) : Bool :=
  decide (n ≤ s.sct.ac.length) &&
  !(s.sct.ac.take n).any (fun v => decide (s.fg Fld.SCT_AC_CFG_LOSS * s.nompk < 100 * v.natAbs))

/-! ### Balls, SHARE and MC16 (R235, R238, R532) -/

/-- Where the pin function map in force places an input function: the index k of its ball CFk, and its attributes. -/
def State.inputBall (s : State) (f : Nat) : Option (Nat × Nat) :=
  let p := s.sec secPinmap
  ((List.range (u32At p 0)).find? (fun i => u16At p (6 + 8 * i) == f)).map (fun i =>
    let b := u16At p (4 + 8 * i)
    (20 * (b / 32 - 13) + b % 32 - 1, u16At p (8 + 8 * i)))

/-- R532: a level that has held for 4 µs, or in WATCH for 2 ACLK cycles, passes the filter. -/
def glitchStep (filter watch : Bool) (x : Glitch) (level : Bool) (us : Nat) : Glitch :=
  let held := if level = x.level then x.held + us else us
  let pass := !filter || decide (if watch then 2000000 ≤ 32768 * held else 4 ≤ held)
  ⟨level, min 1000 held, if pass then level else x.seen⟩

def glitch0 : Glitch := ⟨false, 0, false⟩
def State.glitch (s : State) (i : Nat) : Glitch := kvGet (fun _ => glitch0) s.sct.balls i

/-- The balls over the millisecond, as stretches of the levels of CF0 to CF79 with their lengths, µs: the filtered level of
function `i` (8 × kind + port), and whether it was asserted at any time. -/
def ballOver (s : State) (i : Nat) (balls : List (Nat × Nat)) : Glitch × Bool :=
  match s.inputBall (0x80 + i) with
  | none => (glitch0, false)
  | some (k, attr) => balls.foldl (fun (acc : Glitch × Bool) b =>
      let g := glitchStep (bitOf attr 6) (s.powerState == 1) acc.1 (bitOf b.1 k != bitOf attr 3) b.2
      (g, acc.2 || g.seen)) (s.glitch i, false)

/-- The mask of the ports in use whose RTp_ALM is asserted. -/
def State.almMask (s : State) : Nat := maskOf 6 (fun p => s.rtUsed p && (s.glitch p).seen)

/-- The filtered balls after a millisecond, and the mask of the ports in use whose RTp_ACF was asserted in it. -/
def ballStep (balls : List (Nat × Nat)) (s : State) : State × Nat :=
  let xs := ((List.range 6) ++ (List.range 6).map (8 + ·)).map (fun i => (i, ballOver s i balls))
  (s.setSct { s.sct with balls := xs.map (fun x => (x.1, x.2.1)) },
    maskOf 6 (fun p => s.rtUsed p && xs.any (fun x => x.1 == 8 + p && x.2.2)))

/-- The mean of a list of at most 1,000 values. -/
def sctMean (l : List Rat) : Rat := if l.isEmpty then 0 else l.foldl (· + ·) 0 / l.length

/-- R238: the 1 ms mean of MC16, mV, which joins the means of the last second. -/
def busMean (s : State) : State × Option Rat :=
  let x := s.sct.busNow
  let s := s.setSct { s.sct with busNow := (0, 0) }
  if x.2 = 0 then (s, none)
  else
    let m := x.1 / x.2
    (s.setSct { s.sct with busHist := (m :: s.sct.busHist).take 1000 }, some m)

/-- R238: SHARE joins its last second; its deviation from its own 1 s mean, mV. -/
def shareStep (mv : Nat) (s : State) : State × Rat :=
  let s := s.setSct { s.sct with share := (mv :: s.sct.share).take 1000 }
  (s, |(mv : Rat) - sctMean (s.sct.share.map (fun v => (v : Rat)))|)

/-- R261: AC is stable; `acf` is the mask of the ports whose RTp_ACF is asserted. -/
def State.acStable (s : State) (acf : Nat) : Bool :=
  decide (900 ≤ s.acRms ∧ s.acRms ≤ 1100 ∧ (s.fgs Fld.SCT_AC_STAT_FDEV).natAbs ≤ 1000) &&
  !s.acMissing s.halfSamples && acf == 0

/-! ### Predictors and confidence (R236 to R240) -/

/-- R238: the condition of a source, with the 1 ms mean of MC16 where there is one and the deviation of SHARE. -/
def predCond (s : State) (bus : Option Rat) (share : Rat) (src thresh : Nat) : Bool :=
  if 8 ≤ src ∧ src ≤ 0x0D then bitOf s.almMask (src - 8)
  else match src with
  | 1 => decide (s.acRms < thresh)
  | 2 => decide (thresh < s.acRms)
  | 3 => decide (thresh < (s.fgs Fld.SCT_AC_STAT_FDEV).natAbs)
  | 4 => s.acMissing s.halfSamples
  | 0x0E => s.almMask != 0
  | 0x10 => match bus with
    | some m => decide (m * 10000 < (s.busNominal : Rat) * (10000 - (thresh : Rat)))
    | none => false
  | 0x11 => decide ((thresh : Rat) < share)
  | 0x18 => decide ((s.rd (Reg.SCT_ANN 0)).toNat ≤ s.now ∧ s.now < (s.rd (Reg.SCT_ANN 1)).toNat)
  | _ => false

def pred0 : Pred := ⟨0, 0, false, false, 0⟩
def State.pred (s : State) (e : Nat) : Pred := kvGet (fun _ => pred0) s.sct.pred e

/-- R239 with the masking of R253: one entry after one update. -/
def predNext (p : Pred) (cond : Bool) (persist hold : Nat) : Pred :=
  let clearN := if cond then 0 else min 1000 (p.clearN + 1)
  let masked := p.masked && decide (clearN < 1000)
  let heldN := if cond then min 255 (p.heldN + 1) else 0
  let since := if cond then 0 else min 65536 (p.since + 1)
  let active := if cond then p.active || decide (persist ≤ heldN) else p.active && decide (since < hold)
  ⟨heldN, since, active && !masked, masked, clearN⟩

def predUpdate (bus : Option Rat) (share : Rat) (s : State) : State :=
  (List.range 32).foldl (fun s e =>
    let src := s.fg (Fld.SCT_PRED_SRC_SRC e)
    let c := predCond s bus share src (s.fg (Fld.SCT_PRED_SRC_THRESH e))
    let p := if src = 0 then pred0
      else predNext (s.pred e) c (s.fg (Fld.SCT_PRED_SRC_PERSIST e)) (s.fg (Fld.SCT_PRED_WT_HOLD e))
    s.setSct { s.sct with pred := kvSet (fun _ => pred0) s.sct.pred e p }) s

/-- R240: one update of the confidence. -/
def confNext (c decay : Nat) (weights : Int) : Nat :=
  let d := (c * decay + 32768) / 65536
  (clampI ((c : Int) - d + weights) 0 65535).toNat

def State.activeWeight (s : State) : Int :=
  (List.range 32).foldl (fun a e => if (s.pred e).active then a + s.fgs (Fld.SCT_PRED_WT_WEIGHT e) else a) 0

/-! ### Levels (R241 to R246) -/

/-- R34: the profile's highest level, standby-loss cap (0.01 W) and hand-over dwell (ms). -/
def maxLevel (profile : Nat) : Nat := match profile with | 2 => 3 | 3 => 1 | _ => 2
def standbyCap (profile : Nat) : Nat := match profile with | 2 => 4000 | 3 => 300 | _ => 1500
def dwellOf (profile : Nat) : Nat := match profile with | 2 => 5000 | 3 => 2000 | _ => 3000

/-- R241: the level the thresholds, the profile and the lock allow. -/
def State.levelFor (s : State) (c : Nat) : Nat :=
  let ok := fun n => decide (n ≤ maxLevel (s.fg Fld.SYS_PROFILE_PROFILE) ∧ n ≤ s.fg Fld.SCT_STAT_LOCK) &&
    (decide (s.fg (Fld.SCT_LVL_UP (n - 1)) ≤ c) || (decide (n ≤ s.level) && decide (s.fg (Fld.SCT_LVL_DN (n - 1)) ≤ c)))
  if ok 3 then 3 else if ok 2 then 2 else if ok 1 then 1 else 0

/-- R243: the hold-up strings: D of the current slot with the main contactor closed and KF confirming. -/
def State.hStrings (s : State) : List Nat :=
  (s.dAt s.committed s.curSlot).filter s.contactorConfirmed

/-- R244, R245: a group of H enters shadow regulation, unless it runs or R287 blocks its start; in WATCH not before
READY. -/
def shadowEnter (n : Nat) (s : State) : State :=
  match s.strGroup n with
  | some g => if s.awake ∧ s.mode g = modeOff ∧ !s.fb (Fld.CNV_CG_FLAG_OCP g) ∧ s.contactorConfirmed n then
      groupStart g modeShadow s else s
  | none => s

/-- R244: Vref: the lower of BUS_NOMINAL and the mean of MC16 over the previous second. -/
def vrefSet (s : State) : State :=
  let v := if s.sct.busHist.isEmpty then s.busNominal else min s.busNominal (ratRound (sctMean s.sct.busHist)).toNat
  s.setSct { s.sct with vref := v }

/-- R243, R254: a group leaves shadow regulation at its next period start. -/
def shadowLeave (g : Nat) (s : State) : State :=
  if s.mode g = modeShadow then s.setGrp g { s.grp g with shadowStop := true } else s

/-- R277: VREF of a group, in MC16 scale. -/
def State.vrefQ (s : State) (mv : Nat) (offs : Nat) : Int :=
  if s.voltFs 16 = 0 then 0 else ratRound ((mv : Rat) * (10000 - offs) / 10000000 / s.voltFs 16 * 1073741824)

def publishVref (s : State) : State :=
  (List.range 12).foldl (fun s g =>
    s.pubSet (0x050 + g) (if s.mode g = modeBus ∨ s.mode g = modeShadow then s.vrefQ s.sct.vref s.sct.offs
      else s.vrefQ s.busNominal 0)) s

/-- Set the level: EV152 on a change, what it prepares (R244), and what a lower level no longer needs (R254). -/
def setLevel (n : Nat) (s : State) : State :=
  let old := s.level
  let s := if n = old then s else (s.fs Fld.SCT_STAT_LEVEL n).raise 152
  let s := if old = 0 ∧ 0 < n then
      (vrefSet (s.setSct { s.sct with sinceP0 := 0, fromWatch := s.powerState == 1 })).wakeWatch else s
  let s := if n = 0 then (s.fs Fld.SCT_STAT_LOCK 3).setSct { s.sct with cost := [] } else s
  if s.phase ≠ phIdle then s
  else if 2 ≤ n then
    let s := s.setSct { s.sct with offs := if n = 3 then 30 else 100 }
    (bitsOf 8 (s.fg Fld.SCT_STAT_H)).foldl (fun s m => shadowEnter m s) s
  else (List.range 12).foldl (fun s g => shadowLeave g s) s

/-- R253, R254: squash an unconfirmed pre-position to a level; the trial copies are deleted. -/
def squashTo (n cause : Nat) (s : State) : State :=
  if s.phase ≠ phIdle ∨ s.level ≤ n then s
  else
    let s := showPlans 0 0 (s.setOrd { s.ord with plans := [] })
    setLevel n ((s.fs Fld.SCT_FLAG_SQUASH 1).fs Fld.SCT_CAUSE_SQ cause)

/-- R253, R255: a trigger between two updates: the squash takes place at the next one unless that one confirms. -/
def squashAsk (n cause : Nat) (s : State) : State :=
  if s.phase ≠ phIdle ∨ s.level ≤ n then s else s.setSct { s.sct with want := some (n, cause) }

/-- R253: a TIMEOUT masks every entry that is active. -/
def maskActive (s : State) : State :=
  (List.range 32).foldl (fun s e =>
    let p := s.pred e
    if p.active then s.setSct { s.sct with
      pred := kvSet (fun _ => pred0) s.sct.pred e { p with active := false, masked := true, clearN := 0 } } else s) s

/-- The squash that a trigger has asked for; a TIMEOUT masks (R253). -/
def squashWanted (s : State) : State :=
  match s.sct.want with
  | none => s
  | some (n, cause) =>
    let s := s.setSct { s.sct with want := none }
    squashTo n cause (if cause = 2 then maskActive s else s)

/-- R246: the standby cost of the last millisecond, W: the rise of the metered outflow of H over the standing draws, and the
logic increment. -/
def State.costNow (s : State) : Rat :=
  let out := sumOver (bitsOf 8 (s.fg Fld.SCT_STAT_H)) (fun n =>
    (kvGet (fun _ => s.netFine n) s.sct.costNet n - s.netFine n) * 360 - ((s.rd (Reg.ORD_S_DRAW n)).toInt : Rat))
  max 0 out + (if s.sct.fromWatch then 7 / 10 else 0)

/-- R246: the mean cost of the last second; above the cap Scout squashes one level and locks it. -/
def costStep (s : State) : State :=
  let s := s.setSct { s.sct with
    cost := if s.level = 0 then [] else (s.costNow :: s.sct.cost).take 1000
    costNet := (List.range 8).map (fun n => (n, s.netFine n)) }
  let mean := sctMean s.sct.cost
  let cap := standbyCap (s.fg Fld.SYS_PROFILE_PROFILE)
  let s := (s.fsat Fld.SCT_COST_COST (ratRound (100 * mean)).toNat).fs Fld.SCT_COST_CAP cap
  let l := s.level
  if s.phase = phIdle ∧ 0 < l ∧ s.sct.cost.length = 1000 ∧ (cap : Rat) < 100 * mean then
    squashTo (l - 1) 4 ((s.setSct { s.sct with cost := [] }).fs Fld.SCT_STAT_LOCK (l - 1))
  else s

/-- R247: precharge verification of a hold-up string at P3. -/
def State.verified (s : State) (n : Nat) : Bool :=
  s.fb (Fld.EFU_S_KSTAT_KM n) && s.fb (Fld.EFU_S_KSTAT_KF n) && !s.fb (Fld.EFU_S_KSTAT_KP n) &&
  s.rd (Reg.EFU_S_KFLAG n) == 0 && decide (|s.volts (8 + n) - s.volts 16| * 50 ≤ s.volts 16)

/-! ### Confirmation and hold-up (R251 to R260) -/

def State.kvR (_ : State) (m : KV Rat) (n : Nat) : Rat := kvGet (fun _ => 0) m n

/-- R257: the allowance of a string, 0.1 Wh. -/
def State.allowance (s : State) (n : Nat) : Rat := s.kvR s.sct.b0 n + s.kvR s.sct.f0 n

/-- R260: a group of H takes the bus. One in POWER keeps its PREF; one in SHADOW has its PWM enabled; one that is off
starts (R275, R300). -/
def takeBus (n : Nat) (s : State) : State :=
  match s.strGroup n with
  | none => s
  | some g =>
    if s.mode g = modePower then (s.setMode g modeBus).setGrp g { s.grp g with stopping := false }
    else if s.mode g = modeShadow then
      (s.setMode g modeBus).setGrp g { s.grp g with released := true, shadowStop := false }
    else if s.mode g = modeOff then groupStart g modeBus s
    else s

/-- R252: confirmation of an AC loss. -/
def confirm (cause : Nat) (s : State) : State :=
  if !s.fb Fld.SCT_CFG_HU_EN then (s.fs Fld.SCT_CAUSE_CONF cause).fs Fld.SCT_CAUSE_SUPP 1
  else
    let lvl := s.level
    let h := bitsOf 8 (s.fg Fld.SCT_STAT_H)
    let os := s.committed
    let b0 := h.map (fun n => (n, s.broodE os n))
    let f0 := h.map (fun n => (n, max 0 (s.eFree os n 0)))
    let s := (((s.fs Fld.SCT_STAT_PHASE phHandover).fs Fld.SCT_CAUSE_CONF cause).fs Fld.SCT_CAUSE_SUPP 0).fs
      Fld.SCT_FLAG_CONFIRM 1
    let s := if lvl = 0 then vrefSet s else s
    let s := s.setSct { s.sct with
      want := none, b0 := b0, f0 := f0, taken := [], hold := h, stopped := [],
      lastNet := h.map (fun n => (n, s.netEnergy n)),
      offs := if lvl = 2 then 100 else s.fg Fld.SCT_HU_CFG_SP,
      dwell := dwellOf (s.fg Fld.SYS_PROFILE_PROFILE), dwellN := 0, stableN := 0, lowN := 0, rampN := 0,
      held := (List.range 6).map (fun p => (p, s.trimCode p)) }
    let allow := (sumOver h s.allowance).floor.toNat
    let s := (s.wr Reg.SCT_HU_ALLOW (BitVec.ofNat 32 allow)).wr Reg.SCT_HU_E 0
    let s := (s.logEvent 0x03 cause allow false).waveTrigger 2 cause
    let s := s.setOrd { s.ord with acOut := true }
    let s := (s.removal (.acDraw 0)).wakeWatch
    h.foldl (fun s n => takeBus n s) s

/-- R257: energy taken out of the hold-up strings for hold-up since confirmation: the metered outflow of each millisecond
beyond the setpoint of the orders on the string (DEDUCED, log entry 14). -/
def holdupMeter (s : State) : State :=
  let s := s.sct.hold.foldl (fun s n =>
    let now := s.netEnergy n
    let own : Rat := match s.strGroup n with | some g => s.prefWatts g | none => 0
    let d : Rat := ((kvGet (fun _ => now) s.sct.lastNet n - now : Int) : Rat) / 1000 + own / 360000
    s.setSct { s.sct with
      taken := kvInsert n (max 0 (s.kvR s.sct.taken n + d)) s.sct.taken
      lastNet := kvInsert n now s.sct.lastNet }) s
  s.wr Reg.SCT_HU_E (BitVec.ofNat 32 (sumOver s.sct.hold (s.kvR s.sct.taken)).floor.toNat)

/-- R258: the power limit of a hold-up string, W. -/
def State.holdupLimit (s : State) (n : Nat) : Rat :=
  let os := s.committed
  let j := s.curSlot
  let x := fun m => max 0 (s.plim m true - |schedPower os m j|)
  let live := s.sct.hold.filter (fun m => (kvGet (fun _ => none) s.sct.stopped m).isNone)
  let tot := sumOver live x
  let room := max 0 (((s.rd Reg.ORD_BUS_CAP).toNat : Rat) - busPower os j)
  let full := if tot ≤ room ∨ tot = 0 then x n else room * x n / tot
  match kvGet (fun _ => none) s.sct.stopped n with
  | none => full
  | some left => full * left / 100

/-- R277: HLIM of a group in BUS, per phase in Q2.30 of the phase rating. -/
def publishHlim (s : State) : State :=
  s.sct.hold.foldl (fun s n =>
    match s.strGroup n with
    | none => s
    | some g =>
      let d : Rat := s.volts (8 + n) * s.grpPhases g * s.grpPhRating g / 1000
      s.pubSet (0x080 + g) (if s.mode g = modeBus ∧ 0 < d then
        clampI (ratRound (s.holdupLimit n / d * 1073741824)) 0 q30Max else 0)) s

/-- The hold-up of a string is over: its group returns to its order, or stops (R257, R264). -/
def leaveBus (g : Nat) (s : State) : State :=
  if s.mode g ≠ modeBus then s
  else if (s.grp g).ramp.isSome then groupStop g (s.setMode g modePower)
  else if s.pubGet (0x040 + g) ≠ 0 then s.setMode g modePower
  else groupStop g (s.pubSet (0x080 + g) 0)

/-- Every string of the hold-up has stopped (R258). -/
def State.holdupOver (s : State) : Bool :=
  !s.sct.hold.isEmpty && s.sct.hold.all (fun n => kvGet (fun _ => none) s.sct.stopped n == some 0)

/-- R257, R258: strings that have reached their allowance or left H stop over 100 ms. Once all have stopped no group
carries the bus any more, and EXHAUST sets; the episode ends with the hand-back (R252, R264; DEDUCED, log entry 14). -/
def holdupStops (s : State) : State :=
  let h := bitsOf 8 (s.fg Fld.SCT_STAT_H)
  let done := s.holdupOver
  let s := s.sct.hold.foldl (fun s n =>
    match kvGet (fun _ => none) s.sct.stopped n with
    | none =>
      if s.allowance n ≤ s.kvR s.sct.taken n ∨ !h.contains n then
        s.setSct { s.sct with stopped := kvInsert n (some 100) s.sct.stopped } else s
    | some 0 => s
    | some (k + 1) =>
      let s := s.setSct { s.sct with stopped := kvInsert n (some k) s.sct.stopped }
      if k = 0 then (match s.strGroup n with | some g => leaveBus g s | none => s) else s) s
  if !done && s.holdupOver then s.fs Fld.SCT_FLAG_EXHAUST 1 else s

/-- R435: after a reset of Scout the groups that carried the hold-up ramp out over 100 ms. -/
def holdupRampOut (s : State) : State :=
  let s := s.sct.hold.foldl (fun s n =>
    match kvGet (fun _ => none) s.sct.stopped n with
    | some (k + 1) =>
      let s := s.setSct { s.sct with stopped := kvInsert n (some k) s.sct.stopped }
      if k = 0 then (match s.strGroup n with | some g => leaveBus g s | none => s) else s
    | _ => s) s
  if s.sct.hold.all (fun n => (kvGet (fun _ => none) s.sct.stopped n).getD 0 == 0) then
    s.setSct { s.sct with hold := [], stopped := [] } else s

/-- R260 step 2: every group of the hold-up is in regulation. -/
def State.inRegulation (s : State) : Bool :=
  (s.sct.hold.filterMap s.strGroup).all (fun g =>
    s.mode g != modeBus || (decide ((s.grp g).stage = 3) && (s.grp g).released && !s.fb (Fld.CNV_CG_STAT_SOFT g)))

/-- Rectifier trims that have not yet come to their minimum: those that ramp, and those elsewhere. -/
def State.trimsRamping (s : State) : Bool := s.cnv.trim.any (fun r => r.2.isSome)
def State.trimsAtMin (s : State) : Bool :=
  ((List.range 6).filter s.rtUsed).all (fun p => s.trimCode p == s.fg (Fld.CNV_RT_TMIN_TMIN p))

/-- R260: the setpoint moves by 0.1 % a millisecond to Vref − SP; with the groups in regulation the trims ramp to minimum
and the device is in FLOW; then PHASE is HOLDUP. -/
def handoverStep (s : State) : State :=
  let sp := s.fg Fld.SCT_HU_CFG_SP
  let o := s.sct.offs
  let s := s.setSct { s.sct with offs := if sp < o then max sp (o - 10) else min sp (o + 10) }
  if s.phase ≠ phHandover ∨ !s.inRegulation ∨ s.trimsRamping then s
  else if s.trimsAtMin then s.flowEnter.fs Fld.SCT_STAT_PHASE phHoldup
  else trimRampAll (fun p => s.fg (Fld.CNV_RT_TMIN_TMIN p)) 4 s.flowEnter

/-- R261, R263: the dwell and the stability wait; a loss during the hand-back ramp starts over. -/
def stabilityStep (stable : Bool) (s : State) : State :=
  let c := s.sct
  if s.phase = phHandback ∧ !stable then
    let s := s.setSct { c with dwellN := 0, stableN := 0, lowN := 0, rampN := 0 }
    (trimRampAll (fun p => s.fg (Fld.CNV_RT_TMIN_TMIN p)) 4 ((s.fs Fld.SCT_FLAG_REHOLD 1))).fs
      Fld.SCT_STAT_PHASE phHoldup
  else
    let low := (c.hold.filterMap s.strGroup).all (fun g =>
      decide ((s.fgs (Fld.CNV_CG_STAT_ISUM g)).natAbs * 100 * 50 < s.grpPhases g * s.grpPhRating g))
    let ramped := !s.trimsRamping
    s.setSct { c with
      dwellN := c.dwellN + 1
      stableN := if stable then c.stableN + 1 else 0
      lowN := if s.phase = phHandback ∧ low then c.lowN + 1 else 0
      rampN := if s.phase = phHandback ∧ ramped then c.rampN + 1 else 0 }

/-- R261: the hand-back may start. -/
def State.mayHandBack (s : State) : Bool :=
  s.phase == phHoldup && decide (s.sct.dwell ≤ s.sct.dwellN) && decide (2000 ≤ s.sct.stableN)

/-- R262: the trims ramp from minimum to the codes held at confirmation over HBRAMP. -/
def handbackStart (s : State) : State :=
  if !s.mayHandBack then s
  else
    let s := s.setSct { s.sct with lowN := 0, rampN := 0 }
    (trimRampAll (fun p => kvGet (fun _ => 0) s.sct.held p) (100 * s.fg Fld.SCT_HU_CFG_HBRAMP) s).fs
      Fld.SCT_STAT_PHASE phHandback

/-- R264: a group of the hold-up after the hand-back: at P2 and P3 one of H that no order uses goes back to shadow
regulation; any other returns to its order or stops. -/
def handbackGroup (lvl g : Nat) (s : State) : State :=
  if s.mode g = modeBus ∧ 2 ≤ lvl ∧ bitOf (s.fg Fld.SCT_STAT_H) (s.grpTarget g) ∧ s.pubGet (0x040 + g) = 0 then
    (s.setMode g modeShadow).setGrp g { s.grp g with released := false, stopping := false, ramp := none }
  else leaveBus g s

/-- R264: the episode ends; while a discard-all runs Scout stays at P0 (R255). -/
def handbackComplete (s : State) : State :=
  if s.phase ≠ phHandback ∨ (s.sct.lowN < 100 ∧ s.sct.rampN < 1000) then s
  else
    let gs := s.sct.hold.filterMap s.strGroup
    let lvl := if s.fb Fld.ORD_STAT_DISCARDING then 0 else s.levelFor (s.fg Fld.SCT_STAT_CONF)
    let s := (s.fs Fld.SCT_STAT_PHASE phIdle).setOrd { s.ord with acOut := false }
    let s := gs.foldl (fun s g => handbackGroup lvl g s) s
    let s := s.setSct { s.sct with hold := [], stopped := [], b0 := [], f0 := [] }
    let s := s.setCnv { s.cnv with share := s.sct.held }
    setLevel lvl s.flowExit

/-- R251: the first confirming condition since the last update, by its code (DEDUCED, log entry 14); `acf` is the mask of the
ports whose RTp_ACF was asserted. -/
def State.confirming (s : State) (acf : Nat) : Option Nat :=
  if s.sct.busLow then some 1
  else if acf ≠ 0 then some 2
  else if s.acMissing (2 * s.halfSamples) then some 3
  else if s.sct.conducts then some 4
  else none

/-- R243, R247: recompute H; a string that has left leaves shadow regulation. -/
def hUpdate (s : State) : State :=
  let h := s.hStrings.filter (fun n => s.level != 3 || s.verified n)
  let old := bitsOf 8 (s.fg Fld.SCT_STAT_H)
  let s := s.fs Fld.SCT_STAT_H (maskOf 8 h.contains)
  let s := (old.filter (fun n => !h.contains n)).foldl (fun s n =>
    match s.strGroup n with | some g => shadowLeave g s | none => s) s
  if 2 ≤ s.level ∧ s.phase = phIdle then h.foldl (fun s n => shadowEnter n s) s else s

/-- R240 to R255 in IDLE: a confirmation, or else the squashes and the level of the update, and its cost. -/
def scoutIdle (c acf : Nat) (s : State) : State :=
  let s := if s.sct.hold.isEmpty then s else holdupRampOut s
  let found := s.confirming acf
  let s := match found with
    | some cause => confirm cause s
    | none => s
  if found.isSome ∧ s.phase ≠ phIdle then s
  else if s.fb Fld.ORD_STAT_DISCARDING then squashTo 0 6 (s.setSct { s.sct with want := none })
  else
    let s := squashWanted s
    let n := s.levelFor c
    let top := maxLevel (s.fg Fld.SYS_PROFILE_PROFILE)
    let s := if top < s.level then squashTo top 3 s else s
    let s := if n < s.level then squashTo n 1 s else setLevel n s
    let s := if 0 < s.level ∧ s.sct.sinceP0 % 1000 = 0 then vrefSet s else s
    costStep s

/-- R240 to R263: one millisecond of Scout. `ac` are the new ACMON samples (mV, oldest first), `balls` the levels of the
configurable balls CF0 to CF79 over the millisecond as stretches with their lengths (µs), `share` the SHARE line (mV). -/
def scoutUpdate (ac : List Int) (balls : List (Nat × Nat)) (share : Nat) (s : State) : State :=
  if s.powerState = 0 then s
  else
    let s := if s.cpend .sct then
        ((s.applyStaged .sct).setCommits (s.commits.filter (fun g => !(g == .sct)))) else s
    let s := ac.foldl acSample (acFrontEnd (s.setSct { s.sct with sinceP0 := s.sct.sinceP0 + 1 }))
    let s := s.fsat Fld.SCT_AC_STAT_RMS s.acRms
    let (s, acf) := ballStep balls s
    let (s, bus) := busMean s
    let (s, dev) := shareStep share s
    let s := hUpdate (predUpdate bus dev s)
    let c := if s.fb Fld.SCT_CTL_EN then
        confNext (s.fg Fld.SCT_STAT_CONF) (s.fg Fld.SCT_CFG_DECAY) s.activeWeight else 0
    let s := s.fs Fld.SCT_STAT_CONF c
    let s := if s.phase = phIdle then scoutIdle c acf s
      else stabilityStep (s.acStable (maskOf 6 (fun p => s.rtUsed p && (s.glitch (8 + p)).seen)))
        (holdupStops (holdupMeter (handoverStep s)))
    publishHlim (publishVref (s.setSct { s.sct with busLow := false, conducts := false }))

end Sys2Proof.Machine
end

