-- ==== Sys2Proof/Machine/Fault.lean ====
section
/-!
DEFINITION. The fault collector (R421 to R429), and how every meaning ends: the error lines a command drove are
collected, and the event controller is brought up to date.
-/
namespace Sys2Proof.Machine

abbrev clsCorrected : Nat := 0
abbrev clsContained : Nat := 1
abbrev clsFatal : Nat := 2

/-- R421: the class in force of a source. FS32 to FS63 have no line. -/
def State.faultClass (s : State) (n : Nat) : Nat := fldOf (s.rd (Reg.FLT_CLASS (n / 16))) (2 * (n % 16)) 2

/-- R421: the fixed class of a fixed source. -/
def fixedClass (n : Nat) : Option Nat :=
  if n ≤ 4 then some clsFatal else if n = 5 then some clsContained else if 32 ≤ n then some clsCorrected else none

/-- R427: what a fatal fault does beyond R426. -/
def fatalActions (s : State) : State := (allContactorsOpen (allGroupsHardStop s)).fs Fld.ORD_CTL_ADMIT 0

/-- R426: what every declared fault does once the device is in READY or FLOW. -/
def faultActions (cls : Nat) (s : State) : State :=
  let s := squashTo 0 6 (discardBegin s)
  if cls = clsFatal then fatalActions s else s

/-- R32: in WATCH and DORMANT the device first goes to READY; the actions wait for it. -/
def faultActionsOrWait (cls : Nat) (s : State) : State :=
  if s.awake then faultActions cls s
  else ((s.setFlt { s.flt with waiting := s.flt.waiting ++ [cls] }).wakeWatch).wakeDormant

/-- R424, R425: a contained or fatal source declares a fault, or merges into the one being handled. -/
def declareFault (n cls : Nat) (s : State) : State :=
  let s := s.raise 100
  if s.fb Fld.FLT_HSTAT_HANDLING then
    let s := (s.finc Fld.FLT_HSTAT_MERGED).logEvent 0x01 n cls true
    if cls = clsFatal ∧ !s.fb Fld.FLT_HSTAT_FATAL then
      let s := s.fs Fld.FLT_HSTAT_FATAL 1
      if s.awake then fatalActions s else s.setFlt { s.flt with waiting := s.flt.waiting ++ [cls] }
    else s
  else
    let s := ((s.fs Fld.FLT_HSTAT_HANDLING 1).fs Fld.FLT_HSTAT_FATAL (boolNat (cls == clsFatal))).fs Fld.FLT_HSTAT_FIRST n
    let s := ((s.fs Fld.FLT_PIN_PULSE 1).logEvent 0x01 n cls false).waveTrigger 0 n
    faultActionsOrWait cls s

/-- R423, R424: the rising edge of one error line. The latch of a fault source abandons a DORMANT entry (R30, R31), but a
string that ends in FAULT because the entry opens its contactor does not hold it back (R29): of these two sentences R29 is
taken to govern for a KF_WELD of the entry (DEDUCED, log entry 20). -/
def assertLine (n : Nat) (s : State) : State :=
  if 32 ≤ n then s
  else
    let old := s.rd Reg.FLT_STAT_LO
    let s := s.wr Reg.FLT_STAT_LO (BitVec.ofNat 32 (setBit old.toNat n true))
    let s := if s.flt.quiet.contains n then s.wakeWatch else (s.wakeWatch).wakeDormant
    let cls := s.faultClass n
    if cls = clsCorrected then
      if bitOf old.toNat n then s else (s.raise 101).logEvent 0x01 n cls false
    else declareFault n cls s

/-- The lines driven in this step, the higher classes first (R425: one sample is one fault of the higher class). -/
def collect (s : State) : State :=
  let l := s.flt.lines
  if l.isEmpty then s
  else
    let s := s.setFlt { s.flt with lines := [] }
    let order := l.filter (fun n => s.faultClass n == clsFatal) ++ l.filter (fun n => s.faultClass n != clsFatal)
    let s := order.foldl (fun s n => assertLine n s) s
    s.setFlt { s.flt with quiet := [] }

/-- How a command ends: the lines it drove collected, and the event controller brought up to date. -/
def finish (s : State) : State := settle (collect s)

/-- What a meaning answers whatever the state of reset. -/
def doneRst (s : State) : Host.Outcome State Fault Refusal := .next (finish s)

/-- What a meaning answers: while device-wide reset is asserted, nothing outside the AO domain acts (R433, R434). -/
def done (old s : State) : Host.Outcome State Fault Refusal := if old.rst.asserted then .next old else doneRst s

/-- A wake to READY completes the actions that waited for it (R32). -/
def runWaiting (s : State) : State :=
  s.flt.waiting.foldl (fun s c => faultActions c s) (s.setFlt { s.flt with waiting := [] })

/-- R429: the level of FAULT_N: low while the pulse runs, while DRIVE is 1 and during device-wide reset. -/
def State.faultLow (s : State) : Bool := s.rst.asserted || s.fb Fld.FLT_PIN_PULSE || s.fb Fld.FLT_PIN_DRIVE

/-! ### Commands -/

/-- R421: a source asserts its line. An MRAM read error is counted too (R517, NVC_ERR). -/
def lineAssert (src : Nat) (s : State) : State :=
  let s := if src = 8 then s.finc Fld.NVC_ERR_UE else if src = 9 then s.finc Fld.NVC_ERR_CE else s
  s.driveLine src

def execErrorLineAssert (src : Fin 64) (s : State) : Host.Outcome State Fault Refusal := done s (lineAssert src s)

def execFaultPulseEnd (s : State) : Host.Outcome State Fault Refusal := done s (s.fs Fld.FLT_PIN_PULSE 0)

def execDiscardAll (s : State) : Host.Outcome State Fault Refusal := done s (discardAll s)

end Sys2Proof.Machine
end

