-- ==== Sys2Proof/Machine/Commit.lean ====
section
/-!
DEFINITION. Commits and joint commits (R62 to R69): each group's consistency rules, COMMIT, ABORT, and the joint GO.
-/
namespace Sys2Proof.Machine

/-- A staged parameter of a tile as a commit would leave it. -/
def State.wtp (s : State) (n off : Nat) : Int := (s.wouldBe (.tile n) (tileBase n + off)).toInt

/-- R51, R53, R55: the consistency rules of a tile; 0 NONE, 1 ORDER, 2 UNSTABLE (R66). -/
def tileCheck (s : State) (n : Nat) : Nat :=
  match s.tileKind n with
  | 1 =>
    let a1 := s.wtp n 0x50
    let a2 := s.wtp n 0x54
    if s.wtp n 0x60 ≤ s.wtp n 0x64 then 1
    else if s.tn n 0x40 = 0 ∧ ¬ ((a2.natAbs : Int) < 268435456 ∧ (a1.natAbs : Int) < 268435456 + a2) then 2 else 0
  | 2 => if s.wtp n 0x40 < s.wtp n 0x44 then 1 else 0
  | 3 => if s.wtp n 0x44 + s.wtp n 0x48 ≤ s.wtp n 0x40 - s.wtp n 0x48 then 0 else 1
  | _ => 0

/-- R299: the rack group. -/
def rackCheck (s : State) : Nat :=
  let w := s.wouldFg .cnvRack
  if w Fld.CNV_BRK_BRK_OFF < w Fld.CNV_BRK_BRK_ON ∧
    ((List.range 6).all (fun p =>
      decide (w (Fld.CNV_RT_TMIN_TMIN p) < w (Fld.CNV_RT_TMAX_TMAX p) ∧
        w (Fld.CNV_RT_TMIN_TMIN p) ≤ w (Fld.CNV_RT_TNOM_TNOM p) ∧
        w (Fld.CNV_RT_TNOM_TNOM p) ≤ w (Fld.CNV_RT_TMAX_TMAX p)))) then 0 else 1

/-- R242: the level thresholds. -/
def levelCheck (s : State) : Nat :=
  let up := fun n => s.wouldFg .sct (Fld.SCT_LVL_UP n)
  let dn := fun n => s.wouldFg .sct (Fld.SCT_LVL_DN n)
  if 1 ≤ dn 0 ∧ dn 0 < up 0 ∧ dn 1 < up 1 ∧ dn 2 < up 2 ∧ up 0 < up 1 ∧ up 1 < up 2 ∧ dn 0 < dn 1 ∧ dn 1 < dn 2
  then 0 else 1

/-- R422: a fixed source keeps its class; code 3 FIXED. -/
def classCheck (s : State) : Nat :=
  if (List.range 64).all (fun n => match fixedClass n with
    | some c => fldOf (s.wouldBe .flt (Reg.FLT_CLASS (n / 16))) (2 * (n % 16)) 2 == c
    | none => true) then 0 else 3

/-- The last valid second (R460). -/
abbrev lastSecond : Nat := 6311433599

/-- The second count that the RTC group would set: staged words, with the words in force for those not staged. -/
def State.rtcStaged (s : State) : Nat :=
  (s.wouldBe .rtc Reg.RTC_SET_LO).toNat + 2 ^ 32 * s.wouldFg .rtc Fld.RTC_SET_HI_SEC

/-- A derating point's temperature and fraction (R500). -/
def ptT (h k : Nat) : Fld := ⟨(Fld.THM_Z_PT0_T h).addr + 4 * k, 0, 16⟩
def ptF (h k : Nat) : Fld := ⟨(Fld.THM_Z_PT0_T h).addr + 4 * k, 16, 16⟩

/-- R500: T0 < T1 < … < T7, and F0 to F7 do not increase from T4 upwards. -/
def zoneCheck (s : State) (h : Nat) : Nat :=
  let t := fun k => toSigned 16 (s.wouldFg (.zone h) (ptT h k))
  let f := fun k => s.wouldFg (.zone h) (ptF h k)
  if (List.range 7).all (fun k => decide (t k < t (k + 1))) ∧
    ([4, 5, 6].all (fun k => decide (f (k + 1) ≤ f k))) then 0 else 1

/-- R312, CHG registers: ITERM is 0 or below ICC. -/
def chargeCheck (s : State) (n : Nat) : Nat :=
  let it := s.wouldFg (.chg n) (Fld.CHG_S_LIM_ITERM n)
  if it = 0 ∨ it < s.wouldFg (.chg n) (Fld.CHG_S_LIM_ICC n) then 0 else 1

/-- The consistency rules of a group: 0 when they hold, else the error code. -/
def commitCheck (s : State) : Group → Nat
  | .tile n => tileCheck s n
  | .ldgAssign => 0
  | .cnvRack => rackCheck s
  | .cnvGroup g => if s.wouldFg (.cnvGroup g) (Fld.CNV_CG_DLIM_DMIN g) < s.wouldFg (.cnvGroup g) (Fld.CNV_CG_DLIM_DMAX g)
      then 0 else 1
  | .chg n => chargeCheck s n
  | .sct => levelCheck s
  | .flt => classCheck s
  | .rtc => if s.rtcStaged ≤ lastSecond then 0 else 3
  | .zone h => zoneCheck s h

/-- Where a group reports a refused commit: CERR and ERRCODE, where it has them (R63). -/
def commitError (g : Group) (code : Nat) (s : State) : State :=
  match g with
  | .tile n => ((s.fs (Fld.CMB_T_STAT_CERR n) 1).fs (Fld.CMB_T_STAT_ERRCODE n) code).raise 192
  | .ldgAssign => s
  | .cnvRack => (s.fs Fld.CNV_STAT_CERR 1).fs Fld.CNV_STAT_ERRCODE code
  | .cnvGroup g => (s.fs (Fld.CNV_CG_FLAG_CERR g) 1).fs (Fld.CNV_CG_STAT_ERRCODE g) code
  | .chg n => (s.fs (Fld.CHG_S_STAT_CERR n) 1).fs (Fld.CHG_S_STAT_ERRCODE n) code
  | .sct => s
  | .flt => (s.fs Fld.FLT_HSTAT_CERR 1).fs Fld.FLT_HSTAT_ERRCODE code
  | .rtc => (s.fs Fld.RTC_STAT_CERR 1).fs Fld.RTC_STAT_ERRCODE code
  | .zone h => s.fs (Fld.THM_Z_STAT_CERR h) 1

/-- R64, R68: a commit of the group, or a joint commit with it, has not applied yet. -/
def State.groupBusy (s : State) (g : Group) : Bool :=
  s.cpend g || (match s.joint with | some m => m.contains g | none => false)

/-- R63: a COMMIT write. -/
def commitWrite (g : Group) (s : State) : Nat × State :=
  if s.groupBusy g then (stBusy, s)
  else if (s.stagedOf g).isEmpty then (stOk, s)
  else match commitCheck s g with
  | 0 => match g with
    | .tile n => if s.tileRuns n then (stOk, s.setCommits (s.commits ++ [g])) else (stOk, s.applyStaged g)
    | .chg n => if s.charging n then (stOk, s.setCommits (s.commits ++ [g])) else (stOk, s.applyStaged g)
    | _ => (stOk, s.setCommits (s.commits ++ [g]))
  | code => (stCommitErr, commitError g code s)

/-- R64: an ABORT write. -/
def abortWrite (g : Group) (s : State) : Nat × State :=
  if s.groupBusy g then (stBusy, s) else (stOk, s.unstage g)

/-- A control word with COMMIT and ABORT bits (R64). -/
def commitAbort (g : Group) (commit abort : Bool) (s : State) : Nat × State :=
  if commit && abort then (stDecodeErr, s)
  else if commit then commitWrite g s
  else if abort then abortWrite g s
  else (stOk, s)

/-- The commit groups of the block at 0x1_0000 × n (R66, "Joint commits"). -/
def blockGroups : Nat → List Group
  | 0x01 => [.flt]
  | 0x06 => [.rtc]
  | 0x0A => (List.range 4).map .zone
  | 0x11 => [.ldgAssign]
  | 0x13 => [.sct]
  | 0x14 => .cnvRack :: (List.range 12).map .cnvGroup
  | 0x18 => (List.range 8).map .chg
  | _ => []

/-- The members a joint commit names, with the number FIRST reports for each (R67). A tile that the image leaves unused is
no member (DEDUCED, log entry 26). -/
def State.jointMembers (s : State) : List (Nat × Group) :=
  let t := (s.rd Reg.CMB_JC_TILE_LO).toNat + 2 ^ 32 * (s.rd Reg.CMB_JC_TILE_HI).toNat
  let b := (s.rd Reg.CMB_JC_BLK).toNat
  ((bitsOf 64 t).filter s.tileUsed).map (fun n => (n, Group.tile n)) ++
  (bitsOf 32 b).flatMap (fun n =>
    ((blockGroups n).filter (fun g => !(s.stagedOf g).isEmpty)).map (fun (g : Group) => ((0x40 + n : Nat), g)))

/-- R67, R68: a write of GO. -/
def jointGo (s : State) : Nat × State :=
  let m := s.jointMembers
  if s.joint.isSome || m.any (fun x => s.cpend x.2) then (stBusy, s)
  else match m.find? (fun x => commitCheck s x.2 != 0) with
  | some (n, g) =>
    (stCommitErr, (((s.fs Fld.CMB_JC_STAT_ERR 1).fs Fld.CMB_JC_STAT_FIRST n).fs Fld.CMB_JC_STAT_ERRCODE
      (commitCheck s g)).raise 192)
  | none =>
    let j : Option (List Group) := some (m.map Prod.snd)
    (stOk, (s.setJoint j).fs Fld.CMB_JC_STAT_PEND 1)

/-- R64: ABORT empties the staging of every named member. -/
def jointAbort (s : State) : Nat × State :=
  let m := s.jointMembers
  if s.joint.isSome || m.any (fun x => s.cpend x.2) then (stBusy, s)
  else (stOk, m.foldl (fun s x => s.unstage x.2) s)

def jointCtl (go abort : Bool) (s : State) : Nat × State :=
  if go && abort then (stDecodeErr, s) else if go then jointGo s else if abort then jointAbort s else (stOk, s)

/-- R65, R69: a reset or an image load drops a group's staging and its commit that has not applied. -/
def dropGroup (g : Group) (s : State) : State :=
  let s := (s.unstage g).setCommits (s.commits.filter (fun x => !(x == g)))
  match s.joint with
  | some m => if m.contains g then
      (((s.setJoint none).fs Fld.CMB_JC_STAT_PEND 0).fs Fld.CMB_JC_STAT_ABANDONED 1).raise 192 else s
  | none => s

end Sys2Proof.Machine
end

