-- ==== Sys2Proof/Machine/Host.lean ====
section
/-!
DEFINITION. How a host write reaches a block (chapter 03): which targets answer ISOLATED (R113, R436, R525), and where
the status of a write goes (R106, R115); and the CRC-16 that SPT and the Waggle link share.
-/
namespace Sys2Proof.Machine

/-- R98: one of the fixed-map block slots. -/
def blockSlot (a : Nat) : Bool := decide (a < 0x1D0000 ∧ a / 65536 ≠ 0x0F)
def tileWindow (a : Nat) : Bool := decide (0x200000 ≤ a ∧ a < 0x240000)
def legacyWindow (a : Nat) : Bool := decide (0x3F0000 ≤ a ∧ a < 0x400000)
def mramWindow (a : Nat) : Bool := decide (0x400000 ≤ a ∧ a < 0x800000)
def sramWindow (a : Nat) : Bool := decide (0x800000 ≤ a ∧ a < 0x1000000)

/-- R113: slots reachable in DORMANT: ID and SYS with the queues, RST, RTC, TWI. -/
def dormantSlots : List Nat := [0x00, 0x02, 0x06, 0x0B]
/-- R525: slots that answer while no firmware runs. -/
def bareSlots : List Nat := [0x00, 0x02, 0x06, 0x08, 0x09, 0x0B, 0x0C]

/-- R554 (1): the target answers ISOLATED. A target is what an address reaches: the legacy window is one while COMPAT
reads 1, and with COMPAT low it answers DECODE_ERR in DORMANT too (R113; DEDUCED, log entry 27). -/
def State.isolated (s : State) (a : Nat) : Bool :=
  let slot := a / 65536
  let legacy := legacyWindow a && s.fb Fld.SYS_PWR_STAT_COMPAT
  (blockSlot a && bitOf (s.rd Reg.RST_BSTAT).toNat slot) ||
  (!s.rst.firmware && ((blockSlot a && !bareSlots.contains slot) || tileWindow a || legacy)) ||
  (decide (s.powerState = 0) &&
    ((blockSlot a && !dormantSlots.contains slot) || tileWindow a || legacy || mramWindow a || sramWindow a))

def State.port (s : State) : Port → PortState
  | .tw0 => s.port0
  | .spt => s.port1

def State.setPort (s : State) (p : Port) (v : PortState) : State :=
  match p with
  | .tw0 => s.setPort0 v
  | .spt => s.setPort1 v

/-- A port that runs: the device is out of reset, and SPT is not fused off. -/
def State.portRuns (s : State) (p : Port) : Bool := !s.rst.asserted && (p == .tw0 || !s.fb Fld.ID_FUSE_SPT_OFF)

/-! ### CRC-16 (R124) and what a port sends -/

def crc16Bit (c : Nat) : Nat := if 0x8000 ≤ c then (2 * c ^^^ 0x1021) % 65536 else 2 * c

/-- CRC-16, polynomial 0x1021, initial value 0xFFFF, no reflection, no final XOR (R124). -/
def crc16 (b : List Byte) : Nat :=
  b.foldl (fun c x => (List.range 8).foldl (fun c _ => crc16Bit c) (c ^^^ (x.toNat * 256))) 0xFFFF

def wordBytes (d : List Word) : List Byte := d.flatMap (fun w => leBytes 4 w.toNat)

/-- The CRC-16 of an SPT response, from the token to STATUS (R123). -/
def sptCrc (st : Nat) (d : List Word) : Nat := crc16 (0xA5 :: wordBytes d ++ [BitVec.ofNat 8 st])

/-- The bytes of an answer: on TW0 data, STATUS and PEC (R117); on SPT token, data, STATUS and CRC-16 (R123). -/
def sentBytes (p : Port) (d : List Word) (st check : Nat) : List Byte :=
  match p with
  | .tw0 => wordBytes d ++ [BitVec.ofNat 8 st, BitVec.ofNat 8 check]
  | .spt => 0xA5 :: wordBytes d ++ [BitVec.ofNat 8 st] ++ leBytes 2 check

/-- What a port sends after a write frame: nothing on TW0, the response on SPT (R117, R123). -/
def writeCheck (p : Port) (st : Nat) : Nat := match p with | .tw0 => 0 | .spt => sptCrc st []
def writeSent (p : Port) (st : Nat) : List Byte := match p with | .tw0 => [] | .spt => sentBytes .spt [] st (sptCrc st [])

/-- R115: the status of a port's most recent write, in SYS_XSTAT. -/
def recordWrite (p : Port) (st word : Nat) (s : State) : State :=
  match p with
  | .tw0 => (s.fs Fld.SYS_XSTAT_TW0_ST st).fs Fld.SYS_XSTAT_TW0_WORD word
  | .spt => (s.fs Fld.SYS_XSTAT_SPT_ST st).fs Fld.SYS_XSTAT_SPT_WORD word

/-- The answer of a write: its status, no data, and no fetch that a later read could take up (R110). A write that has
reset the device is abandoned without one (R114). -/
def respond (p : Port) (st word : Nat) (s : State) : State :=
  if s.rst.asserted then s
  else (recordWrite p st word s).setPort p { s.port p with
    data := [], status := st, check := writeCheck p st, fetch := none, sent := writeSent p st }

/-- A host write of one word at `a` whose effect is `f` (R554: ISOLATED is judged first). -/
def asWrite (p : Port) (a : Nat) (f : State → Nat × State) (s : State) : State :=
  if !s.portRuns p then s
  else if s.isolated a then respond p stIsolated 0 s
  else
    let r := f s
    respond p r.1 0 r.2

/-- The answer of a read: its data and status (R106); SYS_XSTAT stays (R115). -/
def respondRead (p : Port) (data : List Word) (st : Nat) (s : State) : State :=
  s.setPort p { s.port p with data := data, status := st, fetch := none }

/-- A host read of the one word at `a`: its value, and its side effect when it is answered with OK (R111). -/
def asRead (p : Port) (a : Nat) (v : State → Word) (f : State → State) (s : State) : State :=
  if !s.portRuns p then s
  else if s.isolated a then respondRead p [0] stIsolated s
  else respondRead p [v s] stOk (f s)

/-- A control write that always completes with OK. -/
def okay (f : State → State) (s : State) : Nat × State := (stOk, f s)

/-- R92: an image operation runs, from its GO until BUSY clears. -/
def State.loading (s : State) : Bool := s.fb Fld.CMB_LOAD_STAT_BUSY

end Sys2Proof.Machine
end

