-- ==== Sys2Proof/Machine/Rails.lean ====
section
/-!
DEFINITION. Integrated rails, supervision, reset outputs and the sequencer (R384 to R403).
-/
namespace Sys2Proof.Machine

/-! ### Rails -/

def State.railOn (s : State) (k : Nat) : Bool := s.fb (Fld.RGL_R_STAT_ON k)

/-- R386, R387: ticks since a rail was switched on, and at its current limit. -/
def State.railTimes (s : State) (k : Nat) : Nat × Nat := kvGet (fun _ => (0, 0)) s.seqr.railN k

def setRailTimes (k : Nat) (v : Nat × Nat) (s : State) : State :=
  s.setSeqr { s.seqr with railN := kvSet (fun _ => (0, 0)) s.seqr.railN k v }

/-- R386: a rail is switched on; SOFT clears when its ramp ends. -/
def railSwitchOn (k : Nat) (s : State) : State :=
  let s := setRailTimes k (0, 0) s
  ((s.fs (Fld.RGL_R_STAT_ON k) 1).fs (Fld.RGL_R_STAT_SOFT k) 1).fs Fld.RGL_STAT_ON
    (setBit (s.fg Fld.RGL_STAT_ON) k true)

/-- R388: a rail is switched off. -/
def railSwitchOff (k : Nat) (s : State) : State :=
  let s := setRailTimes k (0, 0) s
  (s.wr (Reg.RGL_R_STAT k) 0).fs Fld.RGL_STAT_ON (setBit (s.fg Fld.RGL_STAT_ON) k false)

/-- R388: a rail that is off, with `mv` at its output, is pulled down. -/
def State.railDischarges (s : State) (k mv : Nat) : Bool := !s.railOn k && s.fb (Fld.RGL_R_CFG_DISCH k) && decide (50 ≤ mv)

/-- R386, R387: one tick of an integrated rail: its ramp over SST, and whether it is at its current limit. -/
def railRamp (k : Nat) (ilim : Bool) (s : State) : State :=
  let at' := ilim && s.railOn k
  let t := s.railTimes k
  let n := if s.fb (Fld.RGL_R_STAT_SOFT k) then t.1 + 1 else t.1
  let s := setRailTimes k (n, if at' then t.2 + 1 else 0) s
  let s := if s.fb (Fld.RGL_R_STAT_SOFT k) ∧ 10 * s.fg (Fld.RGL_R_CFG_SST k) ≤ n then s.fs (Fld.RGL_R_STAT_SOFT k) 0 else s
  s.fs (Fld.RGL_R_STAT_ILIM k) (boolNat at')

def allRailsOff (s : State) : State := (List.range 8).foldl (fun s k => railSwitchOff k s) s

/-! ### Reset outputs (R393) -/

/-- A rail fault under ACT = RESET names reset output `n`. -/
def State.faultHolds (s : State) (n : Nat) : Bool :=
  (List.range 32).any (fun k => s.fg (Fld.SEQ_R_ACT_ACT k) == 1 && s.fg (Fld.SEQ_R_ACT_RSTSEL k) == n &&
    (s.fb (Fld.SEQ_R_STAT_UVF k) || s.fb (Fld.SEQ_R_STAT_OVF k)))

def State.rstoCause (s : State) (n : Nat) : Bool :=
  bitOf s.seqr.boot n || bitOf s.seqr.down n || s.faultHolds n || s.fb (Fld.SEQ_RSTO_CFG_HOLD n)

/-- R393: the ticks of an output's stretch. -/
def State.stretchOf (s : State) (n : Nat) : Nat := kvGet (fun _ => 0) s.seqr.stretchN n
def setStretch (n v : Nat) (s : State) : State :=
  s.setSeqr { s.seqr with stretchN := kvSet (fun _ => 0) s.seqr.stretchN n v }

/-- Bring the reset outputs up to date with their causes; the stretch starts when the last cause ends. -/
def rstoUpdate (s : State) : State :=
  (List.range 4).foldl (fun s n =>
    if s.seqr.released then (s.fs (Fld.SEQ_RSTO_STAT_ASSERTED n) 0).fs (Fld.SEQ_RSTO_STAT_STRETCHING n) 0
    else if s.rstoCause n then
      ((setStretch n 0 s).fs (Fld.SEQ_RSTO_STAT_ASSERTED n) 1).fs (Fld.SEQ_RSTO_STAT_STRETCHING n) 0
    else if s.fb (Fld.SEQ_RSTO_STAT_ASSERTED n) then s.fs (Fld.SEQ_RSTO_STAT_STRETCHING n) 1 else s) s

/-- R393: STRETCH, in ms, has elapsed since the last cause ended. -/
def stretchEnd (n : Nat) (s : State) : State :=
  if s.fb (Fld.SEQ_RSTO_STAT_STRETCHING n) ∧ !s.rstoCause n ∧ 100 * s.fg (Fld.SEQ_RSTO_CFG_STRETCH n) ≤ s.stretchOf n then
    (s.fs (Fld.SEQ_RSTO_STAT_ASSERTED n) 0).fs (Fld.SEQ_RSTO_STAT_STRETCHING n) 0 else s

/-! ### Sequences (R394 to R398) -/

def State.seqRuns (s : State) : Bool := s.fb Fld.SEQ_STAT_RUN
def State.goingDown (s : State) : Bool := s.fb Fld.SEQ_STAT_RUN && s.fb Fld.SEQ_STAT_DIR

/-- R394: a power-up sequence starts from its first step. -/
def upStart (s : State) : State :=
  let s := ((s.fs Fld.SEQ_STAT_RUN 1).fs Fld.SEQ_STAT_DIR 0).fs Fld.SEQ_STAT_STEP 0
  rstoUpdate ((s.fs Fld.SEQ_STAT_DNDONE 0).setSeqr { s.seqr with
    stage := 0, inProgress := true, released := false, ended := false, checkN := 0 })

/-- R397, R391: the power-down sequence starts from its first step, unless it runs already. -/
def downStart (s : State) : State :=
  if s.goingDown then s
  else
    let s := ((s.fs Fld.SEQ_STAT_RUN 1).fs Fld.SEQ_STAT_DIR 1).fs Fld.SEQ_STAT_STEP 0
    let s := (List.range 32).foldl (fun s k => (s.fs (Fld.SEQ_R_STAT_EXP k) 0).fs (Fld.SEQ_R_STAT_PG k) 0) s
    let s := nvNow s
    s.setSeqr { s.seqr with stage := 0, checkN := 0 }

/-- R403: a power-up sequence starts after a collapse that ended a sequence. -/
def reup (s : State) : State :=
  if s.fb Fld.SEQ_CFG_REUP ∧ s.seqr.ended ∧ !s.seqRuns ∧ !s.fb Fld.SEQ_STAT_COLLAPSE ∧ s.image.isSome then upStart s else s

/-- R394: the host's start. -/
def upWrite (s : State) : Nat × State :=
  if s.seqRuns then (stBusy, s) else if s.image.isNone then (stHeld, s) else (stOk, upStart s)

/-- R394, R402: a start of the device's own that is due, once VSYS_SNS has stayed above SYSUV for 100 ms. -/
def upAuto (s : State) : State :=
  if s.pwr.upDue ∧ !s.fb Fld.SEQ_STAT_COLLAPSE ∧ 10000 ≤ s.seqr.okN then ((upWrite s).2).setPwr { s.pwr with upDue := false } else s

/-- R395: what a power-up step does to its target. -/
def upTarget (t : Nat) (s : State) : State :=
  if t < 8 then railSwitchOn t s
  else if 0x10 ≤ t ∧ t < 0x20 then s.fs Fld.SEQ_OUT_SQE (setBit (s.fg Fld.SEQ_OUT_SQE) (t - 0x10) true)
  else if 0x20 ≤ t ∧ t < 0x24 then
    rstoUpdate (s.setSeqr { s.seqr with
      boot := setBit s.seqr.boot (t - 0x20) false, down := setBit s.seqr.down (t - 0x20) false })
  else s

/-- R397: what a power-down step does to its target. -/
def downTarget (t : Nat) (s : State) : State :=
  if t < 8 then railSwitchOff t s
  else if 0x10 ≤ t ∧ t < 0x20 then s.fs Fld.SEQ_OUT_SQE (setBit (s.fg Fld.SEQ_OUT_SQE) (t - 0x10) false)
  else if 0x20 ≤ t ∧ t < 0x24 then rstoUpdate (s.setSeqr { s.seqr with down := setBit s.seqr.down (t - 0x20) true })
  else s

/-- R80: the rail a step checks. -/
def railOfCheck (c : Nat) : Option Nat :=
  if c < 8 then some c else if 0x40 ≤ c ∧ c < 0x58 then some (c - 0x38) else none

def State.stepNo (s : State) : Nat := s.fg Fld.SEQ_STAT_STEP
def State.stepCount (s : State) : Nat := if s.fb Fld.SEQ_STAT_DIR then s.fg Fld.SEQ_OUT_NDN else s.fg Fld.SEQ_OUT_NUP
def State.stepTarget (s : State) : Nat :=
  if s.fb Fld.SEQ_STAT_DIR then s.fg (Fld.SEQ_DN_STEP_TARGET s.stepNo) else s.fg (Fld.SEQ_UP_STEP_TARGET s.stepNo)
def State.stepCheck (s : State) : Nat :=
  if s.fb Fld.SEQ_STAT_DIR then s.fg (Fld.SEQ_DN_STEP_CHECK s.stepNo) else s.fg (Fld.SEQ_UP_STEP_CHECK s.stepNo)

/-- R395, R397: the last step is done. -/
def seqDone (s : State) : State :=
  if s.fb Fld.SEQ_STAT_DIR then
    let s := (allRailsOff s).fs Fld.SEQ_OUT_SQE 0
    let s := rstoUpdate (s.setSeqr { s.seqr with down := 15, inProgress := false, noLog := false })
    reup ((((s.fs Fld.SEQ_STAT_RUN 0).fs Fld.SEQ_STAT_DNDONE 1).fs Fld.SEQ_STAT_UPDONE 0).raise 174)
  else ((s.fs Fld.SEQ_STAT_RUN 0).fs Fld.SEQ_STAT_UPDONE 1).raise 174

/-- R391, R395: the present step is complete; its checked rail is expected up from now on. -/
def stepComplete (s : State) : State :=
  if !s.seqRuns ∨ s.seqr.stage ≠ 1 then s
  else
    let s := s.setSeqr { s.seqr with stage := 2, stepN := 0 }
    match railOfCheck s.stepCheck, s.fb Fld.SEQ_STAT_DIR with
    | some k, false => (s.fs (Fld.SEQ_R_STAT_EXP k) 1).fs (Fld.SEQ_R_STAT_PG k) 1
    | _, _ => s

/-- The TIMEOUT and DELAY of the present step, ms. -/
def State.stepTimeout (s : State) : Nat :=
  if s.fb Fld.SEQ_STAT_DIR then s.fg (Fld.SEQ_DN_TIME_TIMEOUT s.stepNo) else s.fg (Fld.SEQ_UP_TIME_TIMEOUT s.stepNo)
def State.stepDelay (s : State) : Nat :=
  if s.fb Fld.SEQ_STAT_DIR then s.fg (Fld.SEQ_DN_TIME_DELAY s.stepNo) else s.fg (Fld.SEQ_UP_TIME_DELAY s.stepNo)

/-- R395: DELAY has elapsed; the next step is due at the next tick, or the sequence is done. -/
def stepNext (s : State) : State :=
  if !s.seqRuns ∨ s.seqr.stage ≠ 2 ∨ s.seqr.stepN < 100 * s.stepDelay then s
  else if s.stepNo + 1 < s.stepCount then
    (s.fs Fld.SEQ_STAT_STEP (s.stepNo + 1)).setSeqr { s.seqr with stage := 0, checkN := 0 }
  else seqDone s

/-- R396. -/
def upTimeout (s : State) : State :=
  if !s.seqRuns ∨ s.fb Fld.SEQ_STAT_DIR ∨ s.seqr.stage ≠ 1 ∨ 0x20 ≤ s.stepTarget ∨ s.seqr.stepN < 100 * s.stepTimeout then s
  else downStart ((s.fs Fld.SEQ_STAT_SEQ_PUF 1).driveLine 24)

/-- R398. -/
def downTimeout (s : State) : State :=
  if !s.goingDown ∨ s.seqr.stage ≠ 1 ∨ s.seqr.stepN < 100 * s.stepTimeout then s
  else
    let s := match railOfCheck s.stepCheck with
      | some k => s.fs (Fld.SEQ_R_FLAG_DTMO k) 1
      | none => s
    ((s.fs Fld.SEQ_STAT_SEQ_PDF 1).driveLine 5).setSeqr { s.seqr with stage := 2, stepN := 0 }

/-- The action of the present step at its tick. -/
def stepAct (s : State) : State :=
  if !s.seqRuns ∨ s.seqr.stage ≠ 0 then s
  else if s.stepCount ≤ s.stepNo then seqDone s
  else
    let s := (if s.fb Fld.SEQ_STAT_DIR then downTarget s.stepTarget s else upTarget s.stepTarget s)
    let s := s.setSeqr { s.seqr with stage := 1, checkN := 0, stepN := 0 }
    let rsto := decide (0x20 ≤ s.stepTarget) && !s.fb Fld.SEQ_STAT_DIR &&
      s.fb (Fld.SEQ_RSTO_STAT_ASSERTED (s.stepTarget - 0x20))
    -- An RSTO target of power-up completes with its release; any other step without a checked rail at its own tick.
    if (railOfCheck s.stepCheck).isNone && !rsto then stepComplete s else s

/-- R393, R395: the stretch of an output ends; a power-up step that releases it is then complete. -/
def stretchOver (n : Nat) (s : State) : State :=
  let s := stretchEnd n s
  if s.seqRuns ∧ !s.fb Fld.SEQ_STAT_DIR ∧ s.stepTarget = 0x20 + n ∧ !s.fb (Fld.SEQ_RSTO_STAT_ASSERTED n) then stepComplete s
  else s

/-! ### Supervision (R389 to R392) -/

/-- Set a live bit and latch its flag; bit 0 UV warning, 1 UV fault, 2 OV warning, 3 OV fault (R390). -/
def railSet (k bit : Nat) (s : State) : State :=
  let f := (s.rd (Reg.SEQ_R_FLAG k)).toNat
  let s := s.wr (Reg.SEQ_R_STAT k) (BitVec.ofNat 32 (setBit (s.rd (Reg.SEQ_R_STAT k)).toNat bit true))
  let s := s.wr (Reg.SEQ_R_FLAG k) (BitVec.ofNat 32 (setBit f bit true))
  let fault := bit == 1 || bit == 3
  let s := if bitOf f bit then s else s.raise (if fault then 177 else 176)
  if fault then s.fs (Fld.SEQ_R_STAT_PG k) 0 else s

def railClear (k bit : Nat) (s : State) : State :=
  let s := s.wr (Reg.SEQ_R_STAT k) (BitVec.ofNat 32 (setBit (s.rd (Reg.SEQ_R_STAT k)).toNat bit false))
  s.fs (Fld.SEQ_R_STAT_PG k) (boolNat (s.fb (Fld.SEQ_R_STAT_EXP k) && !s.fb (Fld.SEQ_R_STAT_UVF k) &&
    !s.fb (Fld.SEQ_R_STAT_OVF k)))

/-- R392: a fault that sets outside a power-down sequence acts by ACT. -/
def railFault (k bit : Nat) (s : State) : State :=
  let down := s.goingDown
  let s := railSet k bit s
  if down then s
  else
    let s := s.driveLine 24
    match s.fg (Fld.SEQ_R_ACT_ACT k) with
    | 1 => rstoUpdate s
    | 2 => downStart s
    | _ => s

/-- R387: a rail has been at its current limit for 1 ms. -/
def railOvercurrent (k : Nat) (s : State) : State :=
  if !s.railOn k ∨ (s.railTimes k).2 < 100 then s
  else railFault k 1 ((((railSwitchOff k s).fs (Fld.RGL_R_FLAG_OC k) 1).raise 173).driveLine 23)

/-- One level of one rail for one tick: the counts, and whether its bit sets or clears. -/
def levelTick (setN lvl v : Nat) (uv counts : Bool) (beyond inside : Nat) : Nat × Nat × Option Bool :=
  if lvl = 0 ∨ !counts then (0, 0, some false)
  else
    let out := if uv then decide (v < lvl) else decide (lvl < v)
    let inn := if uv then decide (101 * lvl ≤ 100 * v) else decide (100 * v ≤ 99 * lvl)
    let b := if out then min setN (beyond + 1) else 0
    let i := if inn then min 10 (inside + 1) else 0
    (b, i, if setN ≤ b then some true else if 10 ≤ i then some false else none)

def railCnt0 : RailCnt := ⟨[0, 0, 0, 0], [0, 0, 0, 0]⟩

def railLevel (s : State) (k bit : Nat) : Nat :=
  match bit with
  | 0 => s.fg (Fld.SEQ_R_UV_WARN k)
  | 1 => s.fg (Fld.SEQ_R_UV_FAULT k)
  | 2 => s.fg (Fld.SEQ_R_OV_WARN k)
  | _ => s.fg (Fld.SEQ_R_OV_FAULT k)

/-- R390: the levels of a rail for one tick at `v` mV; STAT shows the voltage every millisecond. -/
def railTick (k v : Nat) (s : State) : State :=
  let s := if s.seqr.msN = 0 then s.fs (Fld.SEQ_R_STAT_MV k) v else s
  (List.range 4).foldl (fun s bit =>
    let c := kvGet (fun _ => railCnt0) s.seqr.rail k
    let uv := decide (bit < 2)
    let (b, i, r) := levelTick (if bit % 2 = 1 then 3 else 10) (railLevel s k bit) v uv
      (!uv || s.fb (Fld.SEQ_R_STAT_EXP k)) (c.beyond.getD bit 0) (c.inside.getD bit 0)
    let s := s.setSeqr { s.seqr with
      rail := kvSet (fun _ => railCnt0) s.seqr.rail k ⟨c.beyond.set bit b, c.inside.set bit i⟩ }
    let now := bitOf (s.rd (Reg.SEQ_R_STAT k)).toNat bit
    match r with
    | some true => if now then s else if bit % 2 = 1 then railFault k bit s else railSet k bit s
    | some false => if now then rstoUpdate (railClear k bit s) else s
    | none => s) s

/-! ### Input collapse (R399 to R403) -/

def inputCollapse (s : State) : State :=
  if s.fb Fld.SEQ_STAT_COLLAPSE then s
  else
    let s := (s.fs Fld.SEQ_STAT_COLLAPSE 1).fs Fld.SEQ_STAT_COLLS 1
    if !s.seqr.inProgress then s
    else if s.fb Fld.SYS_PWR_STAT_COMPAT then
      let s := (allRailsOff s).fs Fld.SEQ_OUT_SQE 0
      rstoUpdate ((s.fs Fld.SEQ_STAT_RUN 0).setSeqr { s.seqr with
        inProgress := false, ended := true, released := true, down := 15 })
    else
      let s := nvDrop wWave (nvDrop wLog (downStart s))
      s.setSeqr { s.seqr with ended := true, noLog := true }

/-- R399: VSYS_SNS has stayed above 1.03 × SYSUV for 100 ms. -/
def inputRecover (s : State) : State :=
  if s.fb Fld.SEQ_STAT_COLLAPSE ∧ 10000 ≤ s.seqr.recN then reup (s.fs Fld.SEQ_STAT_COLLAPSE 0) else s

/-- The check of the present step for one tick (R395, R397). -/
def stepTick (mv : List Nat) (s : State) : State :=
  if !s.seqRuns ∨ s.seqr.stage ≠ 1 then s
  else match railOfCheck s.stepCheck with
  | none => s
  | some k =>
    let v := mv.getD k 0
    let ok := if s.fb Fld.SEQ_STAT_DIR then decide (v < s.fg (Fld.SEQ_DN_THR_THR s.stepNo))
      else decide (s.fg (Fld.SEQ_R_UV_WARN k) < v)
    let n := if ok then min 3 (s.seqr.checkN + 1) else 0
    let s := s.setSeqr { s.seqr with checkN := n }
    let soft := !s.fb Fld.SEQ_STAT_DIR && decide (s.stepTarget < 8) && s.fb (Fld.RGL_R_STAT_SOFT s.stepTarget)
    if 3 ≤ n ∧ !soft then stepComplete s else s

/-- R393 to R399: the sequencer's times for one tick with VSYS_SNS at `vsys` mV. -/
def seqTimes (vsys : Nat) (s : State) : State :=
  let uv := s.fg Fld.SEQ_CFG_SYSUV
  let q := s.seqr
  s.setSeqr { q with
    lowN := if uv ≠ 0 ∧ vsys < uv then min 3 (q.lowN + 1) else 0
    recN := if 103 * uv < 100 * vsys then q.recN + 1 else 0
    okN := if uv < vsys then q.okN + 1 else 0
    stepN := q.stepN + 1
    msN := if 99 ≤ q.msN then 0 else q.msN + 1
    stretchN := (List.range 4).foldl (fun m n =>
      kvSet (fun _ => 0) m n (if s.fb (Fld.SEQ_RSTO_STAT_STRETCHING n) then s.stretchOf n + 1 else 0)) q.stretchN }

/-- One 10 µs sequencer tick with the rails' voltages and VSYS_SNS, mV, and the rails whose current is limited. -/
def seqTick (mv : List Nat) (vsys ilim : Nat) (s : State) : State :=
  let s := seqTimes vsys ((List.range 8).foldl (fun s k => railRamp k (bitOf ilim k) s) s)
  let s := if 3 ≤ s.seqr.lowN then inputCollapse s else s
  let s := (List.range 32).foldl (fun s k => railTick k (mv.getD k 0) s) s
  stepAct (stepTick mv s)

/-! ### Commands -/

def execSequencerTick (mv : List Nat) (vsys ilim : Nat) (s : State) : Host.Outcome State Fault Refusal :=
  done s (seqTick mv vsys ilim s)

def execRailFaultSet (k : Fin 32) (ov : Bool) (s : State) : Host.Outcome State Fault Refusal :=
  done s (if bitOf (s.rd (Reg.SEQ_R_STAT k)).toNat (if ov then 3 else 1) then s else railFault k (if ov then 3 else 1) s)

def execRailWarningSet (k : Fin 32) (ov : Bool) (s : State) : Host.Outcome State Fault Refusal :=
  done s (railSet k (if ov then 2 else 0) s)

def execRailOvercurrent (k : Fin 8) (s : State) : Host.Outcome State Fault Refusal := done s (railOvercurrent k s)

def execPowerUpSequence (src : Option Port) (s : State) : Host.Outcome State Fault Refusal :=
  done s (match src with
    | some p => asWrite p Reg.SEQ_CTL upWrite s
    | none => upAuto s)

def execPowerDownSequence (src : Option Port) (s : State) : Host.Outcome State Fault Refusal :=
  done s (match src with
    | some p => asWrite p Reg.SEQ_CTL (okay downStart) s
    | none => downStart s)

def execSequenceStepComplete (s : State) : Host.Outcome State Fault Refusal := done s (stepComplete s)

def execSequenceDelayElapsed (s : State) : Host.Outcome State Fault Refusal := done s (stepNext s)

def execPowerUpStepTimeout (s : State) : Host.Outcome State Fault Refusal := done s (upTimeout s)

def execPowerDownStepTimeout (s : State) : Host.Outcome State Fault Refusal := done s (downTimeout s)

def execResetStretchEnd (n : Fin 4) (s : State) : Host.Outcome State Fault Refusal := done s (stretchOver n s)

def execSystemInputCollapse (s : State) : Host.Outcome State Fault Refusal := done s (inputCollapse s)

def execSystemInputRecover (s : State) : Host.Outcome State Fault Refusal := done s (inputRecover s)

end Sys2Proof.Machine
end

