-- ==== Sys2Proof/Machine/Waggle.lean ====
section
/-!
DEFINITION. The Waggle link and swarm orders (R231, R232, R404 to R420).
-/
namespace Sys2Proof.Machine

def State.queen (s : State) : Bool := s.image.isSome && s.swarmPos == 0
def State.linkUp (s : State) : Bool := s.fb Fld.WGL_CFG_EN && s.fb Fld.WGL_STAT_JOINED && s.awake
def setCycle (c : Nat) (s : State) : State := (s.setWgl { s.wgl with cycle := c }).fs Fld.WGL_STAT_CYCLE (c % 65536)

/-! ### Link state (R409 to R412) -/

/-- R409: EN. Writing it 0 ends a duplicate's silence (R410). -/
def linkEnable (en : Bool) (s : State) : State :=
  if en then s.fs Fld.WGL_CFG_EN 1
  else
    let s := ((s.fs Fld.WGL_CFG_EN 0).fs Fld.WGL_STAT_JOINED 0).fs Fld.WGL_STAT_DUP 0
    (s.fs Fld.WGL_PRES_PRESENT 0).setWgl { s.wgl with heard := 0, uids := [], barack := [] }

/-- R409: no beacon in 10 cycles' time at position 0. -/
def queenStart (s : State) : State :=
  if s.fb Fld.WGL_CFG_EN ∧ s.queen ∧ s.awake ∧ !s.fb Fld.WGL_STAT_DUP then
    (s.fs Fld.WGL_STAT_JOINED 1).fs Fld.WGL_PRES_PRESENT 1 else s

/-- R410: this rack's own position is in use elsewhere. -/
def duplicate (s : State) : State := ((s.fs Fld.WGL_STAT_DUP 1).fs Fld.WGL_STAT_JOINED 0).driveLine 26

/-- Parts of swarm orders that this worker holds. -/
def State.heldParts (s : State) : List Order := s.ord.orders.filter (fun o => o.cq == partCq && o.resident)

/-- R411, R420: the worker loses the link; no barrier it has received is executed. -/
def linkLoss (s : State) : State :=
  if s.swarmPos = 0 ∨ !s.fb Fld.WGL_CFG_EN ∨ !s.fb Fld.WGL_STAT_JOINED ∨ s.fb Fld.WGL_STAT_QDOZE then s
  else
    let s := ((s.fs Fld.WGL_STAT_LINKLOSS 1).fs Fld.WGL_STAT_JOINED 0).driveLine 26
    let s := s.setWgl { s.wgl with heard := 0, bars := [] }
    s.heldParts.foldl (fun s o => stopPart o 8 0x26 s) s

/-- R411: a worker is absent; swarm orders with a part on it end at the next barrier. -/
def workerAbsent (r : Nat) (s : State) : State :=
  if !s.queen ∨ bitOf (s.fg Fld.WGL_PRES_DOZING) r then s
  else
    let s := s.fs Fld.WGL_PRES_PRESENT (setBit (s.fg Fld.WGL_PRES_PRESENT) r false)
    (s.ord.orders.filter (fun o => o.swarm && o.resident && bitOf o.racks r)).foldl
      (fun s o => stopOrder o 8 0x26 s) s

/-! ### Cycles and beacons -/

/-- R418 (3): at cycle AT − 1 a PART_START that a named rack has not acknowledged moves 1,000 cycles; after a third
move the order ends. -/
def checkStarts (s : State) : State :=
  (s.wgl.bars.take 4).foldl (fun s b =>
    if b.action ≠ 1 ∨ b.at_ ≠ s.wgl.cycle + 1 then s
    else match s.order b.ref with
    | none => s
    | some o =>
      if (bitsOf 16 o.racks).all (fun r => r == 0 || decide (b.num ≤ kvGet (fun _ => 0) s.wgl.barack r)) then s
      else if 3 ≤ b.moves then
        stopOrder o 8 0x26 (s.setWgl { s.wgl with bars := s.wgl.bars.filter (fun x => x.num != b.num) })
      else s.setWgl { s.wgl with bars := s.wgl.bars.map (fun x =>
        if x.num = b.num then { x with at_ := x.at_ + 1000, moves := x.moves + 1 } else x) }) s

/-! ### Frames sent (R405, R413 to R415) -/

/-- R405: a frame. -/
def linkFrame (ty src dst cycle : Nat) (pay : List Byte) : List Byte :=
  let b := leBytes 1 0x55 ++ leBytes 1 ty ++ leBytes 1 src ++ leBytes 1 dst ++ leBytes 1 pay.length ++ leBytes 4 cycle ++ pay
  b ++ leBytes 2 (crc16 b)

/-- R412: the device is on its way into WATCH or DORMANT. A queen says so only for WATCH. -/
def State.dozing (s : State) : Bool := s.fb Fld.SYS_PWR_STAT_TRANS && (s.swarmPos != 0 || s.fg Fld.SYS_PWR_REQ_REQ != 2)

/-- R412: the link has carried the device's QDOZE or DOZE as often as it must before the device leaves READY. -/
def State.dozed (s : State) : Bool :=
  !s.linkUp || !s.dozing || decide ((if s.swarmPos = 0 then 10 else 3) ≤ s.wgl.dozeN)

def barrierBytes (b : Barrier) : List Byte :=
  leBytes 2 b.num ++ leBytes 1 b.action ++ leBytes 1 b.arg ++ leBytes 4 b.at_ ++ leBytes 4 b.ref

/-- R413: the payload of a BEACON. -/
def State.beaconPayload (s : State) : List Byte :=
  leBytes 4 s.now ++ leBytes 1 (s.fg Fld.MTR_STAT_RATE) ++ leBytes 1 (boolNat s.dozing) ++
  leBytes 2 (s.fg Fld.WGL_PRES_PRESENT) ++ (List.range 4).flatMap (fun i => match s.wgl.bars[i]? with
    | some b => barrierBytes b
    | none => leBytes 12 0)

/-- R414: the payload of a STATUS, with the oldest item waiting. -/
def State.statusPayload (s : State) : List Byte :=
  let flags := boolNat (s.fb Fld.WGL_STAT_JOINED) + 2 * boolNat (s.fb Fld.MTR_ALIGN_LOCK) + 4 * boolNat s.dozing +
    8 * boolNat (s.fb Fld.ORD_STAT_DISCARDING) + 16 * boolNat (s.fb Fld.WGL_STAT_RATEMIS)
  let x : Item := s.wgl.items.headD ⟨0, 0, 0, 0⟩
  leBytes 4 (s.rd (Reg.ID_UID 0)).toNat ++ leBytes 4 s.epoch ++ leBytes 2 s.wgl.lastBar ++ leBytes 1 flags ++
  leBytes 1 x.kind ++ leBytes 4 x.id ++ leBytes 4 x.a ++ leBytes 4 (ofSigned 32 x.b)

/-- The frames of one cycle go out. -/
def sendFrames (fs : List (List Byte)) (s : State) : State :=
  s.setWgl { s.wgl with out := fs, dozeN := if s.dozing then s.wgl.dozeN + min 1 fs.length else 0 }

/-- R406, R407, R413, R415: one cycle of the queen: the beacon, and in the command window the first waiting frame (R419:
RESET in three). -/
def linkCycle (s : State) : State :=
  if !s.queen ∨ !s.linkUp then s
  else
    let s := checkStarts (setCycle ((s.wgl.cycle + 1) % 2 ^ 32) s)
    let beacon := linkFrame 0x01 0 0xFF s.wgl.cycle s.beaconPayload
    let cmd := (s.wgl.cmds.take 1).map (fun c => linkFrame c.1 0 c.2.1 s.wgl.cycle c.2.2)
    sendFrames (beacon :: cmd) (s.setWgl { s.wgl with cmds := s.wgl.cmds.drop 1 })

/-- R406, R414: one cycle marker at a worker; its STATUS carries the oldest item waiting. -/
def workerMarker (s : State) : State :=
  if s.swarmPos = 0 ∨ !s.fb Fld.WGL_CFG_EN then s
  else
    let s := setCycle ((s.wgl.cycle + 1) % 2 ^ 32) s
    if s.linkUp then
      sendFrames [linkFrame 0x02 s.swarmPos 0 s.wgl.cycle s.statusPayload] (s.setWgl { s.wgl with items := s.wgl.items.drop 1 })
    else sendFrames [] s

/-- R408, R409, R412, R413: a valid beacon. -/
def beaconReceived (cycle qtime rate flags present : Nat) (bars : List (Nat × Nat × Nat × Nat × Nat)) (s : State) : State :=
  if !s.fb Fld.WGL_CFG_EN ∨ s.fb Fld.WGL_STAT_DUP then s
  else if s.swarmPos = 0 then (if s.fb Fld.WGL_STAT_JOINED then duplicate s else s.fs Fld.WGL_STAT_JOINED 0)
  else
    let heard := min 3 (s.wgl.heard + 1)
    let s := setCycle cycle (s.setWgl { s.wgl with heard := heard })
    let s := (s.fs Fld.WGL_STAT_QDOZE (flags % 2)).fs Fld.WGL_PRES_PRESENT present
    let s := s.fs Fld.WGL_STAT_RATEMIS (boolNat (rate != s.fg Fld.MTR_STAT_RATE))
    let s := s.fss Fld.WGL_ERR_TDIFF (satSigned 16 ((qtime : Int) - s.now))
    let fresh := bars.filter (fun b => b.1 != 0 && !s.wgl.bars.any (fun x => x.num == b.1) && decide (cycle ≤ b.2.2.2.1))
    let s := s.setWgl { s.wgl with
      bars := s.wgl.bars ++ fresh.map (fun b => ⟨b.1, b.2.1, b.2.2.1, b.2.2.2.1, b.2.2.2.2, 0⟩)
      lastBar := fresh.foldl (fun m b => max m b.1) s.wgl.lastBar }
    if heard = 3 ∧ !s.fb Fld.WGL_STAT_JOINED then
      s.heldParts.foldl (fun s o => s.item ⟨6, o.id, 0, 0⟩) (s.fs Fld.WGL_STAT_JOINED 1)
    else s

/-- R409, R412: a worker's STATUS counts: it is present, and dozing or not. -/
def statusPresent (r barack flags : Nat) (s : State) : State :=
  let s := s.setWgl { s.wgl with barack := kvInsert r barack s.wgl.barack }
  (s.fs Fld.WGL_PRES_PRESENT (setBit (s.fg Fld.WGL_PRES_PRESENT) r true)).fs Fld.WGL_PRES_DOZING
    (setBit (s.fg Fld.WGL_PRES_DOZING) r (bitOf flags 2))

/-- R409, R410, R412: a valid STATUS frame of position `r`, in that position's slot. -/
def statusReceived (r uid barack flags : Nat) (s : State) : State :=
  if !s.fb Fld.WGL_CFG_EN ∨ s.fb Fld.WGL_STAT_DUP then s
  else if r = s.swarmPos then (if r = 0 then s else duplicate s)
  else if !s.queen ∨ bitOf (s.fg Fld.WGL_DUP_POS) r then s
  else match kvGet (fun _ => none) s.wgl.uids r with
  | some u =>
    if u = uid then
      statusPresent r barack flags s
    else
      let s := s.fs Fld.WGL_PRES_PRESENT (setBit (s.fg Fld.WGL_PRES_PRESENT) r false)
      let s := s.setWgl { s.wgl with uids := kvErase s.wgl.uids r }
      (s.fs Fld.WGL_DUP_POS (setBit (s.fg Fld.WGL_DUP_POS) r true)).driveLine 26
  | none =>
    statusPresent r barack flags (s.setWgl { s.wgl with uids := kvInsert r (some uid) s.wgl.uids })

/-! ### Swarm orders at the queen (R231, R418) -/

def updPart (id r : Nat) (f : Part → Part) (s : State) : State :=
  s.setParts id ((s.partsOf id).map (fun p => if p.rack = r then f p else p))
/-- The 64-byte record of an order, as QUOTE_REQ and PART carry it (R198, R415). -/
def orderBytes (o : Order) (energy : Int) (pmax pmin : Nat) : List Byte :=
  leBytes 4 o.id ++ leBytes 1 o.ty ++ leBytes 1 o.prio ++ leBytes 2 o.flags ++ leBytes 1 o.smask ++ leBytes 1 o.dmask ++
  leBytes 1 o.contract ++ leBytes 1 o.scope ++ leBytes 2 o.racks ++ leBytes 2 0 ++ leBytes 4 (ofSigned 32 energy) ++
  leBytes 4 pmax ++ leBytes 4 pmin ++ leBytes 4 o.start ++ leBytes 4 o.deadline ++ leBytes 4 o.htag ++
  leBytes 4 o.holdId ++ leBytes 20 0

/-- The times of a record on the monotonic count (R207), and its WINDOW and HORIZON conditions (R212). -/
def Order.onMono (o : Order) (s : State) : Order := { o with start := s.toMono o.start, deadline := s.toMono o.deadline }
def Order.tooLate (o : Order) : Bool := decide (o.deadline < o.start)
def Order.horizon (o : Order) (s : State) : Bool := decide (s.now + 86400 < o.deadline)
def decideRecord (s : State) (o : Order) : Decision := decideOrder s (o.onMono s) o.tooLate (o.horizon s)

def signed (o : Order) (e : Nat) : Int := if o.energy < 0 then -(e : Int) else e

/-- R231 (1): the largest energy and power that this rack's admission would accept (DEDUCED, log entry 15). -/
def quote (s : State) (o : Order) : Nat × Nat :=
  let ok := fun e => match decideRecord s { o with energy := signed o e, pmin := 0 } with
    | .accept _ => true
    | .reject _ _ => false
  if o.badField then (0, 0) else
  let e := hintBelow ok (o.energy.natAbs + 1)
  let m := o.onMono s
  let a := (max m.start (s.ord.mono + 2) + 1) / 2
  let b := (m.deadline + 1) / 2
  let okP := fun p => match planRuns s (s.planAgainst o) o (p : Nat) (runsOf (breakpoints (s.planAgainst o) a b)) with
    | .ok _ => true
    | .error _ => false
  if e = 0 then (0, 0) else (e, hintBelow okP (o.pmax + 1))

/-- R231: a swarm order at its decision: every named rack is asked for a quote, this one at once. -/
def swarmBegin (o : Order) (s : State) : State :=
  let named := bitsOf 16 o.racks
  let absent := named.any (fun r => !bitOf (s.fg Fld.WGL_PRES_PRESENT) r)
  if !s.queen || !s.fb Fld.ORD_CFG_SWARM_EN || !s.linkUp || absent || named.isEmpty then endOrder o 6 0x0D 0 s
  else
    let own := quote s o
    let s := s.putOrder { o with prof := s.fg Fld.SYS_PROFILE_PROFILE }
    let s := s.setParts o.id (named.map (fun r =>
      ⟨r, if r = 0 then some own else none, 0, 0, 0, if r = 0 then 1 else 0, []⟩))
    (named.filter (· != 0)).foldl (fun s r => s.command 0x10 r (orderBytes o o.energy o.pmax o.pmin)) s

/-- R231 (5): a refused swarm order; its parts are withdrawn without trace. -/
def swarmReject (o : Order) (cause : Nat) (s : State) : State := endOrder o 6 cause 0 s

/-- The cumulative share of a total in proportion to the energy quotes (R231 (3)). -/
def shareOf (total sum before q : Nat) : Nat := total * (before + q) / sum - total * before / sum

/-- The part of a rack, each share within its quote. -/
def partShare (o : Order) (sum before : Nat) (q : Nat × Nat) (p : Part) : Part :=
  { p with
    energy := signed o (min q.1 (shareOf o.energy.natAbs sum before q.1))
    pmax := min q.2 (shareOf o.pmax sum before q.1)
    pmin := min q.2 (shareOf o.pmin sum before q.1)
    st := 1 }

/-- R231 (3), (4): every rack has quoted; the order is split and the parts are sent. -/
def swarmSplit (o : Order) (s : State) : State :=
  let ps := s.partsOf o.id
  let q := fun (p : Part) => (p.quote.getD (0, 0))
  let sumE := (ps.map (fun p => (q p).1)).foldl (· + ·) 0
  let sumP := (ps.map (fun p => (q p).2)).foldl (· + ·) 0
  if sumE < o.energy.natAbs then swarmReject o 0x09 s
  else if sumP < o.pmin then swarmReject o 0x0A s
  else
    let split := ps.foldl (fun (acc : List Part × Nat) p =>
      (acc.1 ++ [partShare o sumE acc.2 (q p) p], acc.2 + (q p).1)) ([], 0)
    let s := s.setParts o.id split.1
    (split.1.filter (fun p => p.rack != 0)).foldl (fun s p =>
      s.command 0x11 p.rack (orderBytes o p.energy p.pmax p.pmin)) s

/-- R35: the state under the profile with which the decision of an order began. -/
def State.asBegun (s : State) (o : Order) : State := s.fs Fld.SYS_PROFILE_PROFILE o.prof

/-- The decision of a rack's part (R231 (4)): admission under R199 and R212. -/
def decidePart (s : State) (o : Order) : Decision := if o.badField then .reject 0x01 0 else decideRecord s o

/-- The share of this rack in a swarm order it decides: its own plan, or the cause. -/
def ownPart (o : Order) (s : State) : Except Nat Order :=
  match (s.partsOf o.id).find? (fun p => p.rack == 0) with
  | none => .ok { o.onMono s with state := 3 }
  | some p => match decidePart (s.asBegun o) { o with energy := p.energy, pmax := p.pmax, pmin := p.pmin } with
    | .reject c _ => .error c
    | .accept a => .ok { a with energy := o.energy, pmax := o.pmax, pmin := o.pmin }

/-- R231 (5), R418 (3): every rack has answered. -/
def swarmFinish (o : Order) (s : State) : State :=
  let far := (s.partsOf o.id).filter (fun p => p.rack != 0)
  if far.any (fun p => p.st == 1 || p.st == 0) then s
  else if far.any (fun p => p.st == 3) then swarmReject o 0x0E s
  else match ownPart o s with
  | .error _ => swarmReject o 0x0E s
  | .ok a =>
    let s := acceptOrder a (updPart o.id 0 (fun p => { p with st := 2 }) (showFree (o.onMono s) s))
    let first := a.plan.foldl (fun m g => min m (2 * g.first)) (max (s.toMono o.start) (s.ord.mono + 2))
    announce 1 0 o.id (s.wgl.cycle + max 4 ((first - s.ord.mono) * 1000)) s

/-- A PENDING swarm order. -/
def State.pendingSwarm (s : State) (id : Nat) : Option Order :=
  s.ord.orders.find? (fun o => o.id == id && o.state == 2 && o.swarm)

def itemQuote (r id energy power : Nat) (s : State) : State :=
  match s.pendingSwarm id with
  | none => s
  | some o =>
    let s := updPart id r (fun p => if p.st = 0 then { p with quote := some (energy, power), st := 1 } else p) s
    if (s.partsOf id).all (fun p => p.quote.isSome) then swarmSplit o s else s

def itemPartResult (r id cause : Nat) (s : State) : State :=
  match s.pendingSwarm id with
  | none => s
  | some o => swarmFinish o (updPart id r (fun p => { p with st := if cause = 0 then 2 else 3 }) s)

/-- R415: a missing answer counts as a refusal. -/
def quoteTimeout (id : Nat) (s : State) : State :=
  match s.pendingSwarm id with
  | none => s
  | some o => if (s.partsOf id).isEmpty then s else swarmReject o 0x0E s

/-- R418 (4): all racks have met their shares. -/
def reachedCheck (id : Nat) (s : State) : State :=
  match s.order id with
  | none => s
  | some o =>
    if (s.partsOf id).all (fun p => decide (4 ≤ p.st)) ∧ o.ending.isNone ∧
        !s.wgl.bars.any (fun b => b.action == 2 && b.ref == id) then
      announce 2 0 id (s.wgl.cycle + 4) s else s

def itemPartReached (r id : Nat) (s : State) : State :=
  if (s.order id).isNone then s else reachedCheck id (updPart id r (fun p => { p with st := max p.st 4 }) s)

/-- R418 (5), R232: a part has ended on another rack. -/
def itemPartEnded (r id cause : Nat) (s : State) : State :=
  match s.order id with
  | none => s
  | some o =>
    let s := updPart id r (fun p => { p with st := 5 }) s
    if cause = 0x21 then stopOrder o 7 0x21 s else stopOrder o 8 0x26 s

def itemPartString (r id str : Nat) (deliv : Int) (s : State) : State :=
  updPart id r (fun p => { p with st := 5, strings := kvInsert str deliv p.strings }) s

/-- R412: a worker that rejoins reports a part; the queen ends one it holds no order for. -/
def itemPartHeld (id : Nat) (s : State) : State :=
  if !s.queen ∨ (s.order id).isSome then s else announce 2 0x26 id (s.wgl.cycle + 4) s

/-- The parts on other racks have reported every string (R418). -/
def State.partsReported (s : State) (o : Order) : Bool :=
  (s.partsOf o.id).all (fun p => p.rack == 0 || decide (o.named.length ≤ p.strings.length))

/-! ### Parts at a worker (R415) -/

def quoteReqReceived (rec : List Byte) (s : State) : State :=
  if !s.linkUp ∨ s.queen then s
  else
    let q := quote s (parseOrder rec partCq)
    s.item ⟨1, u32At rec 0, q.1, (q.2 : Int)⟩

def partReceived (rec : List Byte) (s : State) : State :=
  if !s.linkUp ∨ s.queen then s
  else
    let o := { parseOrder rec partCq with seq := s.ord.nextSeq }
    if s.fg Fld.ORD_CTL_ADMIT = 0 then s.item ⟨2, o.id, 0x0F, 0⟩
    else match decidePart s o with
    | .reject c _ => (showFree (o.onMono s) s).item ⟨2, o.id, c, 0⟩
    | .accept a => (acceptOrder { a with cq := partCq, scope := 1 } (showFree (o.onMono s) s)).item ⟨2, o.id, 0, 0⟩

/-- R415: a part is withdrawn without trace. -/
def withdrawReceived (id : Nat) (s : State) : State :=
  if !s.linkUp ∨ s.queen then s
  else ordStat (s.setOrd { s.ord with orders := s.ord.orders.filter (fun o => !(o.id == id && o.cq == partCq)) })

/-! ### Barriers (R416, R417) -/

/-- The first pending barrier of an action that is due; at most four are pending. -/
def State.due (s : State) (action : Nat) : Option Barrier :=
  (s.wgl.bars.take 4).find? (fun b => b.action == action && decide (b.at_ ≤ s.wgl.cycle))

/-- R416: a barrier that has waited for its place is announced at least 4 cycles before its AT. -/
def admitBarrier (cycle : Nat) (bars : List Barrier) : List Barrier :=
  match bars.drop 3 with
  | [] => bars
  | b :: r => bars.take 3 ++ { b with at_ := max b.at_ (cycle + 4) } :: r

def executed (b : Barrier) (s : State) : State :=
  let left := s.wgl.bars.filter (fun x => x.num != b.num)
  ((s.setWgl { s.wgl with bars := admitBarrier s.wgl.cycle left }).fs Fld.WGL_BAR_STAT_LAST b.num).raise 187

/-- R418: at the queen the racks that have not acknowledged a host barrier are marked; does it act on this rack? -/
def hostBarrier (b : Barrier) (f : State → State) (s : State) : State :=
  let late := maskOf 16 (fun r => bitOf b.ref r && r != 0 && decide (kvGet (fun _ => 0) s.wgl.barack r < b.num))
  let s := if s.queen then s.fs Fld.WGL_BAR_STAT_MISS (s.fg Fld.WGL_BAR_STAT_MISS ||| late) else s
  if bitOf b.ref s.swarmPos then f s else s

/-- R281, R275: an order takes its groups into POWER. -/
def orderGroups (o : Order) (s : State) : State :=
  ((o.named.filter (fun n => !(o.ty == tyChargePv && (s.pvDirect n).isSome))).filterMap s.strGroup).foldl (fun s g =>
    if s.mode g = modeOff then groupStart g modePower s
    else if s.mode g = modeShadow then
      ((s.setMode g modePower).setGrp g { s.grp g with released := true, shadowStop := false }).flowEnter
    else s) s

/-- R205: ACCEPTED to ACTIVE, with its notice where R201 asks for one. -/
def activate (o : Order) (s : State) : State :=
  let o := { o with state := 4, since := s.now }
  let s := s.putOrder o
  let s := if bitOf o.flags 1 || s.fb Fld.ORD_CFG_NOTE_ALL then notice o 4 s else s
  orderGroups o s

def barrierPartStart (s : State) : State :=
  match s.due 1 with
  | none => s
  | some b =>
    let s := executed b s
    match s.order b.ref with
    | some o => if o.state = 3 ∧ o.ty ≤ 4 then activate o s else s
    | none => s

def barrierPartEnd (s : State) : State :=
  match s.due 2 with
  | none => s
  | some b =>
    let s := executed b s
    match s.order b.ref with
    | some o =>
      if o.cq = partCq then stopPart o (causeState b.arg) b.arg s
      else match o.ending with
        | some _ => s
        | none => withdraw o (s.putOrder { o with ending := some (causeState b.arg, b.arg) })
    | none => s

def barrierSeqUp (s : State) : State :=
  match s.due 3 with
  | none => s
  | some b => hostBarrier b (fun s => (upWrite s).2) (executed b s)

/-- R420: a PART_END of the same cycle applies first. -/
def barrierSeqDown (s : State) : State :=
  let s := if (s.due 4).isSome then barrierPartEnd s else s
  match s.due 4 with
  | none => s
  | some b => hostBarrier b downStart (executed b s)

/-- R416: the host announces a barrier; the AT lies 4 cycles after the announcing cycle. -/
def barrierWrite (racks action : Nat) (s : State) : Nat × State :=
  if !s.queen then (stDecodeErr, s)
  else if 4 ≤ s.wgl.bars.length then (stBusy, s)
  else if action < 3 ∨ 5 < action then (stDecodeErr, s)
  else
    let s := (s.fs Fld.WGL_BAR_CTL_RACKS racks).fs Fld.WGL_BAR_CTL_ACTION action
    (stOk, announce action 0 (racks % 65536) (s.wgl.cycle + 5) s)

/-- R419: a RESET is sent in three consecutive command windows. -/
def sendResetWrite (targets code : Nat) (s : State) : Nat × State :=
  if !s.queen ∨ code ≠ 0x5AA5 then (stDecodeErr, s)
  else
    let f := (0x1F, 0xFF, leBytes 2 0x5AA5 ++ leBytes 2 targets)
    (stOk, s.setWgl { s.wgl with cmds := s.wgl.cmds ++ [f, f, f] })

/-! ### Frames (R405, R413, R414) -/

/-- R405: is the frame valid, of this TYPE, with a LEN within its window? -/
def frameOk (ty window : Nat) (b : List Byte) : Bool :=
  byteAt b 0 == 0x55 && byteAt b 1 == ty && decide (byteAt b 4 ≤ window) && b.length == 11 + byteAt b 4 &&
  crc16 (b.take (b.length - 2)) == u16At b (b.length - 2)

def framePayload (b : List Byte) : List Byte := (b.drop 9).take (byteAt b 4)

/-- A frame in the beacon window. -/
def beaconFrame (b : List Byte) (s : State) : State :=
  if !s.fb Fld.WGL_CFG_EN then s
  else if !frameOk 0x01 56 b then s.finc Fld.WGL_ERR_CRCERR
  else
    let q := framePayload b
    let bar := fun k => (u16At q (8 + 12 * k), byteAt q (10 + 12 * k), byteAt q (11 + 12 * k), u32At q (12 + 12 * k),
      u32At q (16 + 12 * k))
    beaconReceived (u32At b 5) (u32At q 0) (byteAt q 4) (byteAt q 5) (u16At q 6) ((List.range 4).map bar) s

/-- The item that a STATUS carries. -/
def statusItem (r : Nat) (q : List Byte) (s : State) : State :=
  let id := u32At q 12
  let a := u32At q 16
  match byteAt q 11 with
  | 1 => itemQuote r id a (u32At q 20) s
  | 2 => itemPartResult r id a s
  | 3 => itemPartReached r id s
  | 4 => itemPartEnded r id a s
  | 5 => itemPartString r id a (toSigned 32 (u32At q 20)) s
  | 6 => itemPartHeld id s
  | _ => s

/-- A frame in a worker's slot. -/
def statusFrame (b : List Byte) (s : State) : State :=
  if !s.fb Fld.WGL_CFG_EN then s
  else if !frameOk 0x02 24 b then s.finc Fld.WGL_ERR_CRCERR
  else
    let q := framePayload b
    let r := byteAt b 2 % 16
    let s := statusReceived r (u32At q 0) (u16At q 8) (byteAt q 10) s
    if s.queen && bitOf (s.fg Fld.WGL_PRES_PRESENT) r && r != 0 then statusItem r q s else s

/-- WGL_ERR: frames that a cycle lacked. -/
def slotMiss (n : Nat) (s : State) : State := s.fsat Fld.WGL_ERR_SLOTMISS (s.fg Fld.WGL_ERR_SLOTMISS + n)

/-! ### Commands -/

def execLinkEnable (p : Port) (en : Bool) (s : State) : Host.Outcome State Fault Refusal :=
  done s (asWrite p Reg.WGL_CFG (okay (linkEnable en)) s)

def execQueenStart (s : State) : Host.Outcome State Fault Refusal := done s (queenStart s)

/-- `missed`: present workers whose slot of the cycle before carried no valid STATUS. -/
def execLinkCycle (missed : Nat) (s : State) : Host.Outcome State Fault Refusal :=
  done s (linkCycle (if s.queen && s.linkUp then slotMiss missed s else s))

/-- `missed`: the cycle before carried no valid beacon, so that those heard are not consecutive (R409). -/
def execWorkerCycleMarker (missed : Bool) (s : State) : Host.Outcome State Fault Refusal :=
  let t := if missed then s.setWgl { s.wgl with heard := 0 } else s
  done s (workerMarker (if t.swarmPos != 0 && t.linkUp then slotMiss (boolNat missed) t else t))

def execBeaconReceived (frame : List Byte) (s : State) : Host.Outcome State Fault Refusal := done s (beaconFrame frame s)

def execStatusReceived (frame : List Byte) (s : State) : Host.Outcome State Fault Refusal := done s (statusFrame frame s)

def execItemQuote (r : Fin 16) (id energy power : Nat) (s : State) : Host.Outcome State Fault Refusal :=
  done s (itemQuote r id energy power s)

def execItemPartResult (r : Fin 16) (id cause : Nat) (s : State) : Host.Outcome State Fault Refusal :=
  done s (itemPartResult r id cause s)

def execItemPartReached (r : Fin 16) (id : Nat) (s : State) : Host.Outcome State Fault Refusal :=
  done s (itemPartReached r id s)

def execItemPartEnded (r : Fin 16) (id cause : Nat) (s : State) : Host.Outcome State Fault Refusal :=
  done s (itemPartEnded r id cause s)

def execItemPartString (r : Fin 16) (id : Nat) (str : Fin 8) (deliv : Int) (s : State) :
    Host.Outcome State Fault Refusal := done s (itemPartString r id str deliv s)

def execItemPartHeld (id : Nat) (s : State) : Host.Outcome State Fault Refusal := done s (itemPartHeld id s)

def execQuoteReqReceived (record : List Byte) (s : State) : Host.Outcome State Fault Refusal :=
  done s (quoteReqReceived record s)

def execPartReceived (record : List Byte) (s : State) : Host.Outcome State Fault Refusal :=
  done s (partReceived record s)

def execWithdrawReceived (id : Nat) (s : State) : Host.Outcome State Fault Refusal := done s (withdrawReceived id s)

def execQuoteAnswerTimeout (id : Nat) (s : State) : Host.Outcome State Fault Refusal := done s (quoteTimeout id s)

def execLinkLoss (s : State) : Host.Outcome State Fault Refusal := done s (linkLoss s)

def execWorkerAbsent (r : Fin 16) (s : State) : Host.Outcome State Fault Refusal := done s (workerAbsent r s)

def execBarrierAnnounce (p : Port) (racks : BitVec 16) (action : Fin 8) (s : State) : Host.Outcome State Fault Refusal :=
  done s (asWrite p Reg.WGL_BAR_CTL (barrierWrite racks.toNat action) s)

def execBarrierPartStart (s : State) : Host.Outcome State Fault Refusal := done s (barrierPartStart s)

def execBarrierPartEnd (s : State) : Host.Outcome State Fault Refusal := done s (barrierPartEnd s)

def execBarrierSeqUp (s : State) : Host.Outcome State Fault Refusal := done s (barrierSeqUp s)

def execBarrierSeqDown (s : State) : Host.Outcome State Fault Refusal := done s (barrierSeqDown s)

def execSendReset (p : Port) (targets code : BitVec 16) (s : State) : Host.Outcome State Fault Refusal :=
  done s (asWrite p Reg.WGL_RST (sendResetWrite targets.toNat code.toNat) s)

end Sys2Proof.Machine
end

