-- ==== Sys2Proof/Machine/Meter.lean ====
section
/-!
DEFINITION. The precision meter (chapter 04): classes, strobes, calibration, tracking, the slow counter.
-/
namespace Sys2Proof.Machine

def State.fullRate (s : State) : Bool := s.fb Fld.MTR_STAT_FULL

/-! ### Classes (R142, R168) -/

def State.setUsed (s : State) (a : Nat) : Bool := s.chUsed (setChannels a).1 && s.chUsed (setChannels a).2

def trk0 : Trk := ⟨none, 0, 0, false⟩
def State.trk (s : State) (n : Nat) : Trk := kvGet (fun _ => trk0) s.mtr.trk n
def State.setTrk (s : State) (n : Nat) (v : Trk) : State :=
  s.setMtr { s.mtr with trk := kvSet (fun _ => trk0) s.mtr.trk n v }

/-- R140: a saturated result. -/
def saturated (c : Int) : Bool := decide (c ≤ -8388608 ∨ 8388607 ≤ c)

/-- Calibration state codes (R154). -/
abbrev calOff : Nat := 0
abbrev calAcquire : Nat := 1
abbrev calLock : Nat := 2
abbrev calHold : Nat := 3

def State.calState (s : State) (n : Nat) : Nat := s.fg (Fld.MTR_CH_CAL_STATE n)
def State.staleCal (s : State) (n : Nat) : Bool :=
  s.calState n == calAcquire || (s.calState n == calHold && decide (600 < s.fg (Fld.MTR_CH_CAL_AGE n)))

/-- R168: the class of set `a`, the first entry that applies. -/
def State.classNow (s : State) (a : Nat) : Nat :=
  let (i, v) := setChannels a
  if s.powerState = 0 ∨ s.image.isNone ∨ s.fg Fld.MTR_STAT_TB = 0 ∧ !s.fb Fld.MTR_STAT_SLOW ∨ !s.setUsed a then 3
  else if s.fullRate then
    if saturated (s.code i) ∨ saturated (s.code v) ∨ s.fb (Fld.MTR_CH_FLAG_CALFAIL i) ∨ s.fb (Fld.MTR_CH_FLAG_CALFAIL v) ∨
      s.fb (Fld.MTR_CH_FLAG_DIVFLT v) ∨ (s.trk v).bad ∨ s.fb Fld.MTR_REF_FAIL ∨ s.mtr.lossNow ∨
      (s.fg Fld.MTR_STAT_TB = 1 ∧ s.fb Fld.CLK_STAT_ACLK_SRC) then 3
    else if s.fg Fld.MTR_STAT_TB = 1 ∨ s.mtr.switchNow then 1
    else if s.staleCal i ∨ s.staleCal v then 1
    else if s.fb Fld.MTR_REF_WARN then 1
    else 0
  else if 8 ≤ a ∨ s.mtr.slowSat.contains a then 3
  else 2

def estr0 : EStr := ⟨0, 0, 0, 0, none, none, []⟩
def State.estr (s : State) (n : Nat) : EStr := kvGet (fun _ => estr0) s.est.strs n
def State.setEStr (s : State) (n : Nat) (v : EStr) : State :=
  s.setEst { s.est with strs := kvSet (fun _ => estr0) s.est.strs n v }

/-- The classes of every set; the estimator keeps each string's worst class since its last update (R346). -/
def classUpdate (s : State) : State :=
  let s := (List.range 10).foldl (fun s a =>
    s.wr Reg.MTR_CLASS (fldPut (s.rd Reg.MTR_CLASS) (2 * a) 2 (s.classNow a))) s
  s.strings.foldl (fun s n => s.setEStr n { s.estr n with worst := max (s.estr n).worst (s.setClass n) }) s

/-! ### Time by class (R183) -/

/-- ACLK cycles since power-up. -/
def State.aclk (s : State) : Nat := s.rtc.cycles

/-- R179: the strings in use that a contract holds. -/
def State.contractStrs (s : State) (c : Nat) : List Nat := s.strings.filter (fun n => s.contractOf n == c)

/-- R183: the worst class of the contract's strings. -/
def State.contractClass (s : State) (c : Nat) : Nat := (s.contractStrs c).foldl (fun m n => max m (s.setClass n)) 0

/-- R183, R346: `u` modulator clocks pass in the classes in force. -/
def creditTime (u : Nat) (s : State) : State :=
  let s := s.strings.foldl (fun s n =>
    if s.setClass n = 2 then s.setEStr n { s.estr n with cClk := (s.estr n).cClk + u } else s) s
  if !s.fb Fld.LDG_STAT_RUN then s
  else (List.range 16).foldl (fun s c =>
    if (s.contractStrs c).isEmpty then s
    else
      let k := 4 * c + s.contractClass c
      (s.setLdg { s.ldg with dur := kvSet (fun _ => 0) s.ldg.dur k (kvGet (fun _ => 0) s.ldg.dur k + u) })) s

/-- ACLK reaches cycle `sub` of the second; without the full-rate meter this time is credited on ACLK (R183). -/
def aclkTo (sub : Nat) (s : State) : State :=
  let t := min 32767 (max sub s.rtc.ticks)
  let d := t - s.rtc.ticks
  let s' := (s.setRtc { s.rtc with ticks := t, cycles := s.rtc.cycles + d }).setMtr { s.mtr with since := s.mtr.since - 250 * d }
  if s.fullRate then s' else creditTime (250 * d) s'

/-- The ACLK cycle of the second at which the last strobe fell: time beyond it has not been credited (R183). -/
def State.strobeSub (s : State) : Nat := s.rtc.ticks + s.mtr.since / 250

/-! ### Scales (R157) -/

/-- R157: the shunt in force, nΩ, with its correction in ppm. -/
def shuntNow (s : State) (n : Nat) : Nat × Int :=
  match s.tempOf (s.chTs n) with
  | none => (1000 * s.chNominal n, 0)
  | some t =>
    let ppm : Rat := (toSigned 32 (s.chRdb n) : Rat) / 100 * ((t - 250 : Int) : Rat) / 10
    ((ratRound (1000 * s.chNominal n * (1 + ppm / 1000000))).toNat, ratRound ppm)

/-- R157, R159: the scales at a strobe: the shunts, and NOMINAL for a divider that is not tracked. -/
def scaleUpdate (s : State) : State :=
  let s := [0, 1, 2, 3, 4, 5, 6, 7, 17, 19].foldl (fun s n =>
    if s.chUsed n then
      let (r, ppm) := shuntNow s n
      (s.wr (Reg.MTR_CH_TRK n) (BitVec.ofNat 32 r)).fss (Fld.MTR_CH_DRIFT_DELTA n) (satSigned 16 ppm)
    else s) s
  [8, 9, 10, 11, 12, 13, 14, 15, 16, 18].foldl (fun s n =>
    if s.chUsed n && (!bitOf (s.rd Reg.MTR_TONE).toNat n || decide (15 < s.chTs n)) then
      s.wr (Reg.MTR_CH_TRK n) (BitVec.ofNat 32 (s.chNominal n))
    else s) s

/-! ### Accumulation (R160, R161) -/

/-- Add an exact step, in units, to one accumulator: what is below one unit stays in its residue. -/
def accumulate (a k lo hi : Nat) (step : Rat) (s : State) : State :=
  let r := kvGet (fun _ => 0) s.mtr.resid (4 * a + k) + (step * 4294967296).floor.toNat
  let v := (s.rd64 lo hi + r / 2 ^ 32) % 2 ^ 64
  (s.wr64 lo hi v).setMtr { s.mtr with resid := kvSet (fun _ => 0) s.mtr.resid (4 * a + k) (r % 2 ^ 32) }

/-- Charge (A·s) and energy (W·s) of a set, by sign. -/
def credit (a : Nat) (q e : Rat) (s : State) : State :=
  let dq := |q| * 1000000 / 3600
  let de := |e| * 10000 / 3600
  let s := if 0 ≤ q then accumulate a 0 (Reg.MTR_SET_QIN_LO a) (Reg.MTR_SET_QIN_HI a) dq s
    else accumulate a 1 (Reg.MTR_SET_QOUT_LO a) (Reg.MTR_SET_QOUT_HI a) dq s
  if 0 ≤ e then accumulate a 2 (Reg.MTR_SET_EIN_LO a) (Reg.MTR_SET_EIN_HI a) de s
  else accumulate a 3 (Reg.MTR_SET_EOUT_LO a) (Reg.MTR_SET_EOUT_HI a) de s

/-- R160: one strobe of one set, `clocks` modulator clocks long. -/
def creditStrobe (clocks a : Nat) (s : State) : State :=
  if s.setClass a = classU then s
  else
    let (i, v) := setChannels a
    let dt : Rat := clocks / 8192000
    let s := if a < 8 ∧ s.setClass a = 1 then s.setMtr { s.mtr with clsB := s.mtr.clsB.filter (· != a) ++ [a] } else s
    credit a (s.amps i * dt) (s.amps i * s.volts v * dt) s

/-- R162: the snapshot words. -/
def snapshot (s : State) : State :=
  if !s.fb Fld.MTR_STAT_SNAPPEND then s
  else
    let s := (List.range 10).foldl (fun s a =>
      (List.range 8).foldl (fun s k =>
        s.wr (Reg.MTR_SET_SQIN_LO a + 4 * k) (s.rd (Reg.MTR_SET_QIN_LO a + 4 * k))) s) s
    let s := s.wr Reg.MTR_SNAP_CLASS (s.rd Reg.MTR_CLASS)
    let s := s.wr Reg.MTR_SNAP_CNT (s.rd Reg.MTR_STRB_CNT)
    (s.fs Fld.MTR_STAT_SNAPPEND 0).fs Fld.MTR_STAT_SNAPRDY 1

/-- R149: the power products; R277: the pre-bias duty of each type 1 group. -/
def publishMeter (s : State) : State :=
  let s := (List.range 10).foldl (fun s a =>
    let (i, v) := setChannels a
    s.pubSet a (divRound (s.code i * s.code v) 65536)) s
  (List.range 12).foldl (fun s g =>
    if s.grpType g = 1 then
      let vs := s.volts (8 + s.grpTarget g)
      s.pubSet (0x090 + g) (if vs ≤ 0 then 0 else clampI (ratRound (s.volts 16 / vs * 1073741824)) 0 oneQ30)
    else s.pubSet (0x090 + g) 0) s

/-- R150, R408: the alignment of a worker's strobe; with another rate than the queen's its SYNC is absent. A SYNC edge
that falls after the strobe by more than 2 clocks has a positive offset and lengthens the next period (DEDUCED, log
entry 28). -/
def alignStep (off : Option Int) (s : State) : State :=
  match off with
  | none => s
  | some o =>
    if !s.fb Fld.MTR_STAT_WORKER ∨ s.fb Fld.WGL_STAT_RATEMIS then s
    else
      let s := (s.fss Fld.MTR_ALIGN_OFS (satSigned 16 o)).fs Fld.MTR_ALIGN_LOCK (boolNat (decide (o.natAbs ≤ 2)))
      s.setMtr { s.mtr with adj := if 2 < o then 1 else if o < -2 then -1 else 0 }

/-- R140, R167: a saturated result sets OVR of its channel. -/
def overrange (n : Nat) (s : State) : State :=
  (if s.fb (Fld.MTR_CH_FLAG_OVR n) then s else s.raise 138).fs (Fld.MTR_CH_FLAG_OVR n) 1

/-- R140: one channel's result. -/
def latchResult (n : Nat) (code : Int) (s : State) : State :=
  let c := clampI code (-8388608) 8388607
  let s := s.wr (Reg.MTR_CH_DATA n) (BitVec.ofInt 32 c)
  if saturated c then overrange n s else s

/-- R144, R153: the results of a strobe, on all twenty channels, with their offset corrections. -/
def latchResults (codes ofs : List Int) (s : State) : State :=
  let s := (List.range 20).foldl (fun s n =>
    latchResult n (codes.getD n 0) (s.wr (Reg.MTR_CH_OFS n) (BitVec.ofInt 32 (ofs.getD n 0)))) s
  s.setMtr { s.mtr with
    full := (List.range 20).foldl (fun m n => kvSet (fun _ => 0) m n (s.code n)) s.mtr.full
    feed := (s.mtr.feed ++ [(List.range 20).map s.code]).drop (s.mtr.feed.length - 3) }

/-- R143: the oversampling ratio of an output rate: modulator clocks per strobe. -/
def rateClocks (r : Nat) : Nat := match r with | 0 => 8192 | 1 => 4096 | 2 => 2048 | 3 => 1024 | _ => 512

/-- R146: the modulator clocks of the strobe period in progress. -/
def State.strobeClocks (s : State) : Nat := ((rateClocks (s.fg Fld.MTR_STAT_RATE) : Int) + s.mtr.adj).toNat

/-- R251: consecutive strobes with MC16 below BUS_NOMINAL by more than THR (0.01 %). -/
def busLowStep (s : State) : State :=
  let low := s.chUsed 16 && decide (10000000 * s.volts 16 < (s.busNominal : Rat) * (10000 - s.fg Fld.SCT_HU_CFG_THR : Nat))
  let n := if low then min 2 (s.sct.busLowN + 1) else 0
  s.setSct { s.sct with
    busLowN := n, busLow := s.sct.busLow || decide (2 ≤ n)
    busNow := if s.chUsed 16 then (s.sct.busNow.1 + 1000 * s.volts 16, s.sct.busNow.2 + 1) else s.sct.busNow }

/-- One sample strobe: the twenty results (after gain, offset and tone), their offset corrections, and the offset of the
last SYNC edge. -/
def sampleStrobe (codes ofs : List Int) (off : Option Int) (s : State) : State :=
  if !s.fullRate then s
  else
    let clocks := s.strobeClocks
    let s := s.wr Reg.MTR_STRB_CNT (s.rd Reg.MTR_STRB_CNT + 1)
    let s := creditTime clocks (classUpdate (scaleUpdate (latchResults codes ofs s)))
    let s := ((List.range 10).filter s.setUsed).foldl (fun s a => creditStrobe clocks a s) s
    let s := s.setMtr { s.mtr with
      lossNow := false, switchNow := false, volt := (List.range 8).map (fun n => (n, s.volts (8 + n)))
      adj := 0, since := s.mtr.since + clocks }
    busLowStep (alignStep off (publishMeter (prechargeStrobe clocks (pvStrobe clocks (snapshot s)))))

/-! ### Calibration (R152 to R156) -/

/-- R153: dB of one over a standard error given in 0.01 ppm. -/
def snrOf (se : Nat) : Nat :=
  if se = 0 then 255
  else ((List.range 256).filter (fun k => decide (10 ^ k * se ^ 20 ≤ (10 ^ 8) ^ 20))).length - 1

/-- R154, R155: HOLD, with CALLOST on entry. -/
def enterHold (n : Nat) (s : State) : State :=
  if s.calState n = calHold then s
  else
    let s := if s.fb (Fld.MTR_CH_FLAG_CALLOST n) then s else s.raise 137
    (s.fs (Fld.MTR_CH_CAL_STATE n) calHold).fs (Fld.MTR_CH_FLAG_CALLOST n) 1

/-- R153: the end of one sequence: the gain estimate (Q2.30) and its standard error (0.01 ppm). -/
def calSequence (n : Nat) (est se : Nat) (s : State) : State :=
  if s.calState n = calOff ∨ !s.chUsed n then s
  else
    let g := (s.rd (Reg.MTR_CH_GAIN n)).toNat
    let s := s.fs (Fld.MTR_CH_CAL_SNR n) (snrOf se)
    let good := decide (se ≤ 5000)
    let near := decide (((est : Int) - g).natAbs * 1000000 ≤ 500 * g)
    let rej := kvGet (fun _ => 0) s.mtr.rejects n
    if good && near then
      let s := s.wr (Reg.MTR_CH_GAIN n) (BitVec.ofInt 32 (g + divRound ((est : Int) - g) 16))
      let s := ((s.fs (Fld.MTR_CH_CAL_STATE n) calLock).fs (Fld.MTR_CH_CAL_AGE n) 0).fs (Fld.MTR_CH_FLAG_CALFAIL n) 0
      s.setMtr { s.mtr with rejects := kvSet (fun _ => 0) s.mtr.rejects n 0, known := s.mtr.known.filter (· != n) ++ [n] }
    else
      let rej := if good then rej + 1 else rej
      let s := s.setMtr { s.mtr with rejects := kvSet (fun _ => 0) s.mtr.rejects n (min 3 rej) }
      let s := if 3 ≤ rej then s.fs (Fld.MTR_CH_FLAG_CALFAIL n) 1 else s
      enterHold n s

/-- R156: the secondary reference over the primary, UQ2.30, against the factory ratio of OTP word 0x011 (R507). DEV is
rounded to whole ppm (DEDUCED, log entry 28). FAIL drives the error line as it sets. -/
def crossCheck (ratio : Nat) (s : State) : State :=
  let factory := (s.otpWord 0x011).toNat
  let dev := ratRound (1000000 * (openDiv ratio factory - 1))
  let d := dev.natAbs
  let was := s.fb Fld.MTR_REF_FAIL
  let s := s.fss Fld.MTR_REF_DEV (satSigned 16 dev)
  let s := (s.fs Fld.MTR_REF_WARN (boolNat (decide (100 < d)))).fs Fld.MTR_REF_FAIL (boolNat (decide (1000 < d)))
  let s := if 100 < d then s.fs Fld.MTR_REF_WSTK 1 else s
  if 1000 < d then
    let s := s.fs Fld.MTR_REF_FSTK 1
    if was then s else s.driveLine 14
  else s

/-! ### Divider tracking (R158, R159) -/

/-- One tracking sequence of a voltage channel. `rpar` is the tone's voltage, nV, and so, over its current of 1.0 µA, RDB
in parallel with RDT in mΩ. The tones stop with the full-rate meter (R165). A DIVFLT holds until MTR_TRK_RST clears it,
and the class U that goes with it until a baseline passes after that (R159). -/
def trackUpdate (n : Nat) (rpar : Nat) (s : State) : State :=
  match s.tempOf (s.chTs n) with
  | none => s
  | some t =>
    if !s.fullRate ∨ !bitOf (s.rd Reg.MTR_TONE).toNat n ∨ !s.chUsed n then s
    else
      let nom : Rat := (s.chNominal n : Rat) / 65536
      let rdb : Rat := (rpar : Rat) / 1000 * nom / (nom - 1)
      let k := s.trk n
      match k.base with
      | none =>
        if s.chRdb n = 0 ∨ 1 / 100 < |rdb / s.chRdb n - 1| then
          (s.fs (Fld.MTR_CH_FLAG_DIVFLT n) 1).setTrk n { k with bad := true }
        else
          let bad := k.bad && s.fb (Fld.MTR_CH_FLAG_DIVFLT n)
          let s := ((s.fs (Fld.MTR_CH_FLAG_BASE n) 1).fss (Fld.MTR_CH_DRIFT_T0 n) t).fs (Fld.MTR_CH_DRIFT_DELTA n) 0
          (s.wr (Reg.MTR_CH_TRK n) (BitVec.ofNat 32 (s.chNominal n))).setTrk n ⟨some (rdb, t), 0, 0, bad⟩
      | some (r0, t0) =>
        if 30 < (t - t0).natAbs then s
        else
          let d := rdb / r0 - 1
          if 5 / 1000 < |d| then (s.fs (Fld.MTR_CH_FLAG_DIVFLT n) 1).setTrk n { k with bad := true }
          else
            let f := k.delta + (d - k.delta) / 16
            let ratio := 1 + (nom - 1) / (1 + f)
            let s := (s.wr (Reg.MTR_CH_TRK n) (BitVec.ofNat 32 (ratRound (ratio * 65536)).toNat)).setTrk n
              { k with delta := f, age := 0 }
            (s.fs (Fld.MTR_CH_FLAG_TRKAGE n) 0).fss (Fld.MTR_CH_DRIFT_DELTA n) (satSigned 16 (ratRound (f * 1000000)))

/-- R159: a write to MTR_TRK_RST. -/
def trkRestart (m : Nat) (s : State) : State :=
  ((bitsOf 20 m).filter (fun n => (8 ≤ n ∧ n ≤ 16) || n == 18)).foldl (fun s n =>
    let s := ((s.fs (Fld.MTR_CH_FLAG_BASE n) 0).fs (Fld.MTR_CH_FLAG_DIVFLT n) 0).fs (Fld.MTR_CH_DRIFT_T0 n) 0
    s.setTrk n { s.trk n with base := none, delta := 0 }) s

/-! ### The slow counter (R163 to R167) -/

/-- R163: the charge that a slow-counter result stands for, A·s: the integral of the shunt's voltage, nV·s, over the shunt
in force (R157), nΩ. No strobe sets it anew in WATCH, so it is that of WATCH entry (DEDUCED, log entry 28). -/
def State.slowCharge (s : State) (n : Nat) (dv : Int) : Rat := openDiv dv (s.rd (Reg.MTR_CH_TRK n)).toNat

/-- R163: an increment of one string's slow counter, nV·s at its shunt. -/
def slowIncrement (n : Nat) (dv : Int) (sat : Bool) (s : State) : State :=
  if !s.fb Fld.MTR_STAT_SLOW ∨ s.fullRate ∨ !s.setUsed n then s
  else if sat then
    let s := overrange n s
    classUpdate (s.setMtr { s.mtr with slowSat := s.mtr.slowSat.filter (· != n) ++ [n] })
  else if s.mtr.slowSat.contains n then s
  else
    let q : Rat := s.slowCharge n dv * kvGet (fun _ => 1) s.mtr.gain n
    classUpdate (credit n q (q * kvGet (fun _ => 0) s.mtr.volt n) s)

/-- R163: the mean of a burst's results for MC8 to MC15. -/
def voltageBurst (codes : List Int) (s : State) : State :=
  if !s.fb Fld.MTR_STAT_SLOW then s
  else
    let s := (List.range 8).foldl (fun s n =>
      if s.chUsed (8 + n) then latchResult (8 + n) (codes.getD n 0) s else s) s
    s.setMtr { s.mtr with volt := (List.range 8).map (fun n => (n, s.volts (8 + n))) }

/-- The net charge a string's set has counted, µAh. -/
def State.netCharge (s : State) (a : Nat) : Int :=
  (s.rd64 (Reg.MTR_SET_QIN_LO a) (Reg.MTR_SET_QIN_HI a) : Int) - s.rd64 (Reg.MTR_SET_QOUT_LO a) (Reg.MTR_SET_QOUT_HI a)

/-- The same with the residues of R161, in 2^-32 µAh. -/
def State.netExact (s : State) (a : Nat) : Int :=
  s.netCharge a * 4294967296 + kvGet (fun _ => 0) s.mtr.resid (4 * a) - kvGet (fun _ => 0) s.mtr.resid (4 * a + 1)

/-- R165 step 1: the slow counter starts beside the full-rate meter. -/
def slowStart (s : State) : State :=
  let s := (s.fs Fld.MTR_STAT_SLOW 1).fs Fld.MTR_STAT_HAND 1
  s.setMtr { s.mtr with q0 := (List.range 8).map (fun n => (n, s.netExact n)), slowSat := [] }

/-- R164: the slow counter's gain from its own count of the overlap, nV·s at the shunt; below 10 µAh of full-rate charge
the previous gain is kept. -/
def slowMatch (slow : List Int) (s : State) : State :=
  (List.range 8).foldl (fun s n =>
    let q : Rat := ((s.netExact n - kvGet (fun _ => s.netExact n) s.mtr.q0 n : Int) : Rat) / 4294967296
    let c := s.slowCharge n (slow.getD n 0) * 1000000 / 3600
    if |q| < 10 ∨ c = 0 then s
    else s.setMtr { s.mtr with gain := kvInsert n (q / c) s.mtr.gain }) s

/-- R165 steps 3 and 4. -/
def slowHandover (s : State) : State :=
  let s := snapshot (((s.fs Fld.MTR_STAT_FULL 0).fs Fld.MTR_STAT_HAND 0).fs Fld.MTR_STAT_TB 0)
  classUpdate ((List.range 20).foldl (fun s n => s.fs (Fld.MTR_CH_CAL_STATE n) calOff)
    (s.setMtr { s.mtr with feed := [], adj := 0, since := 0 }))

/-- Full rate resumes or starts: the calibration states of R154. -/
def calResume (s : State) : State :=
  ((List.range 20).filter s.chUsed).foldl (fun s n =>
    if s.mtr.known.contains n then enterHold n s else s.fs (Fld.MTR_CH_CAL_STATE n) calAcquire) s

/-- R166: the full-rate meter starts on HFRC; the slow count up to the handover strobe has been credited. -/
def fullResume (s : State) : State :=
  let s := s.setSct { s.sct with busLowN := 0 }
  let s := calResume (((s.fs Fld.MTR_STAT_FULL 1).fs Fld.MTR_STAT_SLOW 0).fs Fld.MTR_STAT_HAND 0)
  snapshot (classUpdate ((s.fs Fld.MTR_STAT_TB 1).setMtr { s.mtr with slowSat := [], feed := [], adj := 0, since := 0 }))

/-- R166 (5), R169, R556: the modulator clock moves between HFRC and HFXO. -/
def timeBase (hfxo loss : Bool) (s : State) : State :=
  let tb := if hfxo then 2 else 1
  if !s.fullRate then s
  else if s.fg Fld.MTR_STAT_TB = tb then s.setMtr { s.mtr with lossNow := s.mtr.lossNow || loss }
  else
    let s := s.fs Fld.MTR_STAT_TB tb
    s.setMtr { s.mtr with lossNow := s.mtr.lossNow || loss, switchNow := true }

/-- R147: a pending rate takes effect. -/
def rateSwitch (s : State) : State :=
  match s.mtr.newRate with
  | none => s
  | some r => (s.fs Fld.MTR_STAT_RATE r).setMtr { s.mtr with newRate := none, feed := [] }

/-- R34: the output rate of a profile. -/
def rateOf (profile : Nat) : Nat := match profile with | 1 => 2 | 2 => 4 | 3 => 2 | _ => 3

def snapWrite (s : State) : Nat × State :=
  if s.fb Fld.MTR_STAT_SNAPPEND then (stBusy, s) else (stOk, s.fs Fld.MTR_STAT_SNAPPEND 1)

/-- R151. -/
def syncEdgeLoss (s : State) : State :=
  if s.fb Fld.MTR_STAT_WORKER then (s.fs Fld.MTR_ALIGN_LOCK 0).fs Fld.MTR_ALIGN_LOSS 1 else s

/-! ### Commands -/

def execSampleStrobe (codes ofs : List Int) (off : Option Int) (s : State) : Host.Outcome State Fault Refusal :=
  done s (sampleStrobe codes ofs off s)

def execSnapRequest (p : Port) (s : State) : Host.Outcome State Fault Refusal :=
  done s (asWrite p Reg.MTR_CTL snapWrite s)

def execSnapshotTaken (s : State) : Host.Outcome State Fault Refusal := done s (snapshot s)

def execSyncEdgeLoss (s : State) : Host.Outcome State Fault Refusal := done s (syncEdgeLoss s)

def execRateSwitch (s : State) : Host.Outcome State Fault Refusal := done s (rateSwitch s)

def execCalibrationSequenceEnd (ch : Fin 20) (est se : Nat) (s : State) : Host.Outcome State Fault Refusal :=
  done s (calSequence ch est se s)

def execReferenceCrossCheck (ratio : Word) (s : State) : Host.Outcome State Fault Refusal := done s (crossCheck ratio.toNat s)

def execDividerTrackingUpdate (ch : Fin 20) (rpar : Nat) (s : State) : Host.Outcome State Fault Refusal :=
  done s (trackUpdate ch rpar s)

def execTrkRestart (p : Port) (mask : BitVec 20) (s : State) : Host.Outcome State Fault Refusal :=
  done s (asWrite p Reg.MTR_TRK_RST (okay (trkRestart mask.toNat)) s)

def execSlowCountIncrement (n : Fin 8) (dv : Int) (sat : Bool) (s : State) : Host.Outcome State Fault Refusal :=
  done s (slowIncrement n dv sat s)

def execWatchVoltageBurst (codes : List Int) (s : State) : Host.Outcome State Fault Refusal := done s (voltageBurst codes s)

end Sys2Proof.Machine
end

