-- ==== Sys2Proof/Machine/Estimate.lean ====
section
/-!
DEFINITION. The state estimator (chapter 10, R337 to R361). Its arithmetic is exact; what registers and records show is
rounded (DESIGN CHOICE, log entry 17).
-/
namespace Sys2Proof.Machine

def emod0 : EMod := ⟨[], 0, 0, 0, 0, 0, 0, false, false, none, false, false, none, none, 0, false, false⟩
def State.emod (s : State) (m : Nat) : EMod := kvGet (fun _ => emod0) s.est.mods m
def State.setEMod (s : State) (m : Nat) (v : EMod) : State :=
  s.setEst { s.est with mods := kvSet (fun _ => emod0) s.est.mods m v }

/-! ### Presence and staleness (R337, R338) -/

def presFld (m : Nat) : Fld := ⟨Reg.CAN_PRES (m / 32), m % 32, 1⟩
def State.present (s : State) (m : Nat) : Bool := s.fb (presFld m)

/-- R338: a module's data are stale. -/
def State.modStale (s : State) (m : Nat) : Bool :=
  !s.present m || bitOf (s.fg Fld.CHG_STAT_LOST) (m / 16) || !(s.emod m).celled || !(s.emod m).known

/-! ### Cell data (R334, R340) -/

def EMod.last (x : EMod) (k : Nat) : Option Dec := kvGet (fun _ => none) (x.dec.map (fun e => (e.1, some e.2))) k

/-- R334: the value of a quantity while it is current. -/
def State.curVal (s : State) (m k : Nat) : Option Int :=
  match (s.emod m).last k with
  | none => none
  | some d =>
    if (if d.pres = 0 then s.present m else decide ((s.aclk - d.t) * 1000 ≤ d.pres * 32768)) then some d.v else none

/-- The current cell voltages, mV. -/
def State.cellVals (s : State) (m : Nat) : List Int :=
  (List.range (s.modCells m)).filterMap (fun c => s.curVal m (0x100 + c))

def State.allCells (s : State) (m : Nat) : Bool := s.modCells m != 0 && (s.cellVals m).length == s.modCells m

def minList (l : List Int) : Option Int := l.foldl (fun a x => some (match a with | some y => min x y | none => x)) none
def maxList (l : List Int) : Option Int := l.foldl (fun a x => some (match a with | some y => max x y | none => x)) none

/-- R340: lowest and highest cell, mV. -/
def State.lowCell (s : State) (m : Nat) : Option Int := if s.allCells m then minList (s.cellVals m) else s.curVal m 0x05
def State.highCell (s : State) (m : Nat) : Option Int := if s.allCells m then maxList (s.cellVals m) else s.curVal m 0x06

def meanOf (l : List Int) : Rat := ((l.foldl (· + ·) 0 : Int) : Rat) / l.length

/-- R340: module temperature, 0.1 °C. -/
def State.modTemp (s : State) (m : Nat) : Option Rat :=
  let t := (List.range 32).filterMap (fun i => s.curVal m (0x200 + i))
  if !t.isEmpty then some (meanOf t)
  else match s.curVal m 0x07, s.curVal m 0x08 with
  | some a, some b => some ((a + b : Int) / 2)
  | _, _ =>
    let z := s.strShelf (m / 16)
    if s.fb (Fld.THM_Z_STAT_NOSENSE z) ∨ (s.thmZone z).hist.isEmpty then none
    else some (s.fgs (Fld.THM_Z_STAT_TEMP z))

/-- R343: the module's mean cell voltage, mV. -/
def State.meanCell (s : State) (m : Nat) : Option Rat :=
  if s.allCells m then some (meanOf (s.cellVals m))
  else if s.modCells m = 0 then none
  else ((s.emod m).last 0x03).map (fun d => (d.v : Rat) / s.modCells m)

/-! ### OCV curves (R341, R343) -/

/-- The bytes of the curve with this INDEX. -/
def State.curve (s : State) (i : Nat) : Option (List Byte) :=
  let b := s.sec secCurves
  ((List.range (u32At b 0)).map (fun k => (b.drop (8 + 528 * k)).take 528)).find? (fun c => byteAt c 0 == i)

def curveRcell (c : List Byte) : Nat := u16At c 2
def curveCut (c : List Byte) : Nat := u16At c 4
def curveEmpty (c : List Byte) : Nat := u16At c 6
def curveFull (c : List Byte) : Nat := u16At c 8
def curveMaxC (c : List Byte) : Nat := u16At c 10
/-- Temperature `t` of the curve, 0.1 °C. -/
def curveTemp (c : List Byte) (t : Nat) : Int := 10 * toSigned 8 (byteAt c (12 + t))
def curveOcv (c : List Byte) (t p : Nat) : Nat := u16At c (16 + 2 * (64 * t + p))

/-- OCV at point `p`, interpolated between the bracketing temperatures. -/
def ocvPoint (c : List Byte) (temp : Rat) (p : Nat) : Rat :=
  let x : Rat := max (curveTemp c 0) (min (curveTemp c 3) temp)
  let t := if x < curveTemp c 1 then 0 else if x < curveTemp c 2 then 1 else 2
  let a : Rat := curveTemp c t
  let b : Rat := curveTemp c (t + 1)
  curveOcv c t p + ((curveOcv c (t + 1) p : Rat) - curveOcv c t p) * (x - a) / (b - a)

/-- OCV at a SoC between 0 and 1, mV. -/
def ocvAt (c : List Byte) (temp soc : Rat) : Rat :=
  let x := 63 * max 0 (min 1 soc)
  let p := min 62 x.floor.toNat
  ocvPoint c temp p + (ocvPoint c temp (p + 1) - ocvPoint c temp p) * (x - p)

/-- R343: SoC and σ_ocv at a cell voltage. -/
def ocvLookup (c : List Byte) (temp v : Rat) (ocvsig : Nat) : Rat × Rat :=
  let p := if v ≤ ocvPoint c temp 0 then 0
    else if ocvPoint c temp 63 ≤ v then 62
    else (List.range 63).foldl (fun k q => if ocvPoint c temp q ≤ v then q else k) 0
  let d := ocvPoint c temp (p + 1) - ocvPoint c temp p
  let soc : Rat := if v ≤ ocvPoint c temp 0 then 0
    else if ocvPoint c temp 63 ≤ v then 1
    else (p + (v - ocvPoint c temp p) / d) / 63
  (soc, max (5 / 1000) (min (25 / 100) ((ocvsig : Rat) / 10 / (d * 63))))

def State.modCurveB (s : State) (m : Nat) : List Byte := (s.curve (s.modCurve m)).getD []

/-- R343: the module's OCV value and σ_ocv, when it has one; none while it is absent (R361). -/
def State.ocvReading (s : State) (m : Nat) : Option (Rat × Rat) :=
  match s.meanCell m, s.modTemp m with
  | some v, some t => if s.present m then some (ocvLookup (s.modCurveB m) t v (s.fg Fld.EST_CFG2_OCVSIG)) else none
  | _, _ => none

/-- Nameplate capacity, Ah. -/
def State.nameplate (s : State) (m : Nat) : Rat := (s.modCapacity m : Rat) / 10

/-! ### One module at one update (R339, R345 to R351) -/

def modFlag (m bit : Nat) : Fld := ⟨Reg.EST_M_FLAG m, bit, 1⟩

/-- R349: a disagreement. -/
def disagree (m : Nat) (s : State) : State :=
  let n := m / 16
  let s := (s.fs (modFlag m 2) 1).fs (modFlag m 3) 1
  s.fs Fld.EST_DISAGREE_STR (setBit (s.fg Fld.EST_DISAGREE_STR) n true)

/-- R339, R355: the serial a module has reported takes effect at the update. -/
def identity (m : Nat) (s : State) : State :=
  let x := s.emod m
  match x.last 0x10, x.last 0x11 with
  | some lo, some hi =>
    let v := lo.v.toNat + 2 ^ 32 * hi.v.toNat
    match x.serial with
    | none => s.setEMod m { x with serial := some v }
    | some old =>
      if old = v then s
      else (s.setEMod m { x with
          serial := some v, cap := s.nameplate m, sigC := 2 / 10, r := curveRcell (s.modCurveB m), swapped := true }).fs
          (modFlag m 1) 1 |>.raise 165
  | _, _ => s

/-- R346: u of a worst class. -/
def classErr (cls : Nat) : Rat := match cls with | 0 => 2 / 10000 | 1 => 15 / 10000 | _ => 5 / 1000

/-- R351: the span between two rest anchors, judged for one module, with RELEARN as R361 says. -/
def learn (m : Nat) (sp c : Span) (s : State) : State :=
  let x := s.emod m
  match x.anchor, x.cand with
  | some (s1, g1), some (s2, g2) =>
    let dS := s2 - s1
    let dQ : Rat := ((c.q - sp.q : Int) : Rat) / 1000000
    if |dS| < 3 / 10 ∨ decide (0 < dQ) ≠ decide (0 < dS) ∨ dQ = 0 ∨ c.u ∨ 5 / 100 * |dQ| < c.cq ∨
      14 * 86400 * 32768 < c.t - sp.t then s
    else
      let new := dQ / dS
      let re := x.relearn
      if 3 / 10 * s.nameplate m ≤ new ∧ new ≤ 12 / 10 * s.nameplate m ∧ (re ∨ |new / x.cap - 1| ≤ 2 / 10) then
        let w : Rat := if re then 1 else 1 / 4
        let g := (g1 + g2) / |dS| + classErr c.worst
        (((s.setEMod m { x with
          cap := x.cap + w * (new - x.cap), sigC := max (5 / 1000) (x.sigC + w * (g - x.sigC)) }).fs
          (modFlag m 3) 0).fs (modFlag m 4) 1).raise 164
      else s.finc (Fld.EST_M_FLAG_REJ m)
  | _, _ => s

/-- What an update needs to know of a string. -/
structure Upd where
  /-- Milliseconds of the update, net charge (Ah), worst class, class-C hours, at rest, rest entry. -/
  ms : Rat
  dq : Rat
  cls : Nat
  cHours : Rat
  rest : Bool
  entry : Bool
  deriving DecidableEq, Repr

/-- R347: the motion of the reported SoC. -/
def repStep (rate rep soc : Rat) (rest high : Bool) : Rat :=
  let r := rep + max (-rate) (min rate (soc - rep))
  let r := if !rest && high then max r (min (1 / 100) (rep + rate)) else r
  max 0 (min 1 r)

/-- R346: counting. -/
def countStep (inom : Rat) (uloss : Nat) (u : Upd) (x : EMod) : EMod :=
  let g := if u.cls ≤ 2 then
      x.sigS + |u.dq| / x.cap * (classErr u.cls + x.sigC) + 5 / 100000 * inom * u.cHours / x.cap
    else x.sigS + (uloss : Rat) / 10000 * u.ms / 60000
  let d := if u.cls ≤ 2 then u.dq / x.cap else 0
  { x with soc := x.soc + d, rep := x.rep + d, sigS := min g (1 / 2) }

/-- One module of string `m / 16`. -/
def modUpdate (u : Upd) (m : Nat) (s : State) : State :=
  let swapped := (s.emod m).swapped
  let s := identity m s
  let x := s.emod m
  let reading := s.ocvReading m
  let s := s.fs (modFlag m 5) (boolNat reading.isNone)
  let thr : Rat := (s.fg Fld.EST_CFG2_DISTHR : Rat) / 1000
  if !x.known then
    match reading with
    | none => s
    | some (o, g) =>
      let x := { x with soc := o, rep := o, sigS := max g (1 / 10), known := true, swapped := false }
      s.setEMod m { x with cand := if u.rest then some (x.soc, x.sigS) else x.cand }
  else
    let c := s.modCurveB m
    let lift := (curveEmpty c + s.fg Fld.EST_CFG2_VMARG : Nat)
    let high := match s.lowCell m with | some v => decide ((lift : Int) < v) | none => false
    let (x, bad) := match u.rest, reading with
      | true, some (o, g) =>
        ({ x with soc := o, sigS := if swapped then max g (1 / 10) else g }, u.entry && decide (thr < |o - x.soc|))
      | true, none => (x, false)
      | false, _ =>
        let x := countStep ((s.strInom (m / 16) : Rat) / 10) (s.fg Fld.EST_CFG2_ULOSS) u x
        let x := match swapped, reading with
          | true, some (o, g) => { x with soc := o, sigS := max g (1 / 10) }
          | _, _ => x
        let cut := match s.lowCell m with | some v => decide (v ≤ curveCut c) | none => false
        let full := decide (0 < u.dq) && (match s.highCell m with | some v => decide ((curveFull c : Int) ≤ v) | none => false)
        let floor := decide (x.soc ≤ 0) && high && decide (u.dq < 0) && !x.dipped
        let bad := (cut && decide (thr < x.soc)) || (full && decide (x.soc < 1 - thr)) || floor
        let soc := if cut then min x.soc 0 else x.soc
        let soc := if full then max soc 1 else soc
        ({ x with soc := soc, dipped := if u.dq < 0 then x.dipped || floor else false }, bad)
    let rate : Rat := (s.fg Fld.EST_CFG_RATE : Rat) / 1000 * u.ms / 60000
    let soc := max (-(1 / 10)) (min (11 / 10) x.soc)
    let x := { x with
      soc := soc
      rep := repStep rate x.rep soc u.rest high
      swapped := if swapped && reading.isSome then false else x.swapped
      dipped := if u.rest then false else x.dipped
      relearn := if u.rest then s.fb (modFlag m 3) else x.relearn
      cand := if u.rest then (if reading.isSome then some (soc, x.sigS) else none) else x.cand }
    let s := s.setEMod m x
    if bad then disagree m s else s

/-! ### Resistance (R353) -/

/-- The last ten updates lie within ±2 % of a mean of at least 20 % of nominal current. -/
def steady (inom : Rat) (ih : List Rat) : Option Rat :=
  if ih.length < 10 then none
  else
    let i := ih.foldl (· + ·) 0 / 10
    if i ≠ 0 ∧ 2 / 10 * inom ≤ |i| ∧ ih.all (fun x => decide (|x - i| ≤ 2 / 100 * |i|)) then some i else none

def resist (i : Rat) (m : Nat) (s : State) : State :=
  let x := s.emod m
  if !s.allCells m ∨ !x.known then s
  else
    let c := s.modCurveB m
    let t := (s.modTemp m).getD (curveTemp c 0)
    let new := (ocvAt c t x.soc - (s.meanCell m).getD 0) / (-i) * 100
    let r := x.r + (new - x.r) / 16
    s.setEMod m { x with r := max (curveRcell c / 4) (min (4 * curveRcell c) r) }

/-! ### Values for admission and charging (R354) -/

def clamp01 (x : Rat) : Rat := max 0 (min 1 x)

/-- The trapezoid rule over the curve points between two SoC values, mV. -/
def ocvIntegral (c : List Byte) (temp a b : Rat) : Rat :=
  let pts := [a] ++ ((List.range 64).map (fun p => (p : Rat) / 63)).filter (fun x => decide (a < x ∧ x < b)) ++ [b]
  ((pts.zip (pts.drop 1)).map (fun x => (x.2 - x.1) * (ocvAt c temp x.1 + ocvAt c temp x.2) / 2)).foldl (· + ·) 0

def u16Of (x : Rat) : Nat := (min 65535 (max 0 (ratRound x))).toNat
def u32Of (x : Rat) : Nat := (min 4294967295 (max 0 (ratRound x))).toNat

def minBy (l : List Nat) (f : Nat → Rat) : Option Nat :=
  l.foldl (fun b m => match b with | none => some m | some k => if f m < f k then some m else b) none

/-- E_est, R_est, σE and σR (0.1 Wh), i_dis and i_chg (A), p_dis and p_chg (W) of a string that is not stale. -/
def State.stringValues (s : State) (n : Nat) : List Rat :=
  let ms := s.strMods n
  let temp := fun m => (s.modTemp m).getD (curveTemp (s.modCurveB m) 0)
  let lo := fun m => clamp01 (min (s.emod m).soc (s.emod m).rep)
  let hi := fun m => clamp01 (max (s.emod m).soc (s.emod m).rep)
  let cap := fun m => (s.emod m).cap
  let sum := fun (f : Nat → Rat) => (ms.map f).foldl (· + ·) 0
  match minBy ms (fun m => lo m * cap m), minBy ms (fun m => (1 - hi m) * cap m) with
  | some k, some j =>
    let qav := lo k * cap k
    let qrm := (1 - hi j) * cap j
    let e := sum (fun m => s.modCells m * cap m * ocvIntegral (s.modCurveB m) (temp m) (lo m - qav / cap m) (lo m)) / 100
    let r := sum (fun m => s.modCells m * cap m * ocvIntegral (s.modCurveB m) (temp m) (hi m) (hi m + qrm / cap m)) / 100
    let ge := if qav = 0 then 0 else ((s.emod k).sigS * cap k + lo k * cap k * (s.emod k).sigC) * e / qav
    let gr := if qrm = 0 then 0 else ((s.emod j).sigS * cap j + (1 - hi j) * cap j * (s.emod j).sigC) * r / qrm
    let vlo := fun m => ocvAt (s.modCurveB m) (temp m) (lo m)
    let vhi := fun m => ocvAt (s.modCurveB m) (temp m) (hi m)
    let least := fun (f : Nat → Rat) => (ms.map f).foldl (fun (b : Option Rat) x => some (match b with | some y => min x y | none => x)) none
    let idis := max 0 ((least (fun m => (vlo m - curveEmpty (s.modCurveB m)) * 100 / (s.emod m).r)).getD 0)
    let ichg := max 0 ((least (fun m => (curveMaxC (s.modCurveB m) - vhi m) * 100 / (s.emod m).r)).getD 0)
    let pdis := idis * sum (fun m => s.modCells m * (vlo m - idis * (s.emod m).r / 100)) / 1000
    let pchg := ichg * sum (fun m => s.modCells m * (vhi m + ichg * (s.emod m).r / 100)) / 1000
    [e, r, ge, gr, idis, ichg, pdis, pchg]
  | _, _ => [0, 0, 0, 0, 0, 0, 0, 0]

/-- R354, R355: the string registers. -/
def stringRegs (n : Nat) (s : State) : State :=
  let ms := s.strMods n
  let stale := ms.any s.modStale
  let v := if stale then [0, 0, 0, 0, 0, 0, 0, 0] else s.stringValues n
  let g := fun i => v.getD i 0
  let s := s.wr (Reg.EST_S_EEST n) (BitVec.ofNat 32 (u32Of (g 0)))
  let s := s.wr (Reg.EST_S_REST n) (BitVec.ofNat 32 (u32Of (g 1)))
  let s := s.wr (Reg.EST_S_SIGE n) (BitVec.ofNat 32 (u32Of (g 2)))
  let s := s.wr (Reg.EST_S_SIGR n) (BitVec.ofNat 32 (u32Of (g 3)))
  let s := (s.fs (Fld.EST_S_ILIM_IDIS n) (u16Of (10 * g 4))).fs (Fld.EST_S_ILIM_ICHG n) (u16Of (10 * g 5))
  let s := (s.fs (Fld.EST_S_PLIM_PDIS n) (u16Of (g 6 / 100))).fs (Fld.EST_S_PLIM_PCHG n) (u16Of (g 7 / 100))
  let reps := ms.map (fun m => ratRound (10000 * (s.emod m).rep))
  let lo := (minList reps).getD 0
  let s := (s.fs (Fld.EST_S_SOC_SOC n) lo.toNat).fs (Fld.EST_S_SOC_SPREAD n) ((maxList reps).getD 0 - lo).toNat
  let s := (s.fs (Fld.EST_S_STAT_STALE n) (boolNat stale)).fs Fld.EST_STAT_STALE (setBit (s.fg Fld.EST_STAT_STALE) n stale)
  s.fs (Fld.EST_S_STAT_RESTMIN n) (min 65535 ((s.estr n).restMs / 60000))

/-- The registers of module `m`. -/
def moduleRegs (m : Nat) (s : State) : State :=
  let x := s.emod m
  let low := (s.lowCell m).getD 0
  let high := (s.highCell m).getD 0
  let c := s.modCurveB m
  let s := (s.fs (Fld.EST_M_SOC_REP m) (u16Of (10000 * x.rep))).fss (Fld.EST_M_SOC_SOC m) (ratRound (10000 * x.soc))
  let s := (s.fs (Fld.EST_M_SIG_SIGS m) (u16Of (10000 * x.sigS))).fs (Fld.EST_M_SIG_SIGC m) (u16Of (1000 * x.sigC))
  let s := (s.fs (Fld.EST_M_LCAP_CAP m) (min 0xFFFFFF (u32Of (1000 * x.cap)))).fs (Fld.EST_M_LCAP_SIGC m)
    (min 255 (u16Of (1000 * x.sigC)))
  let s := (s.fs (Fld.EST_M_CELL_LOW m) (u16Of low)).fs (Fld.EST_M_CELL_HIGH m) (u16Of high)
  let t := (s.modTemp m).getD (curveTemp c 0)
  let s := (s.fss (Fld.EST_M_TEMP_TEMP m) (satSigned 16 (ratRound t))).fs (Fld.EST_M_TEMP_SPREAD m) (u16Of (high - low : Int))
  let s := s.wr (Reg.EST_M_SERIAL m) (BitVec.ofNat 32 (x.serial.getD 0))
  let s := (s.fs (Fld.EST_M_HLTH_SOH m) (min 4095 (u16Of (1000 * x.cap / s.nameplate m)))).fs (Fld.EST_M_HLTH_RCELL m) (u16Of x.r)
  s.fs (modFlag m 0) (boolNat (s.modStale m))

/-! ### The update of a string -/

/-- R358: rest entry or FULL asks for a write; within 5 min of the last one it is deferred. -/
def nvTrigger (s : State) : State :=
  if s.fb Fld.EST_CFG_PERS ∧ s.fb Fld.EST_STAT_RUN then
    let s := s.setEst { s.est with nvReq := true }
    if s.est.lastNv ≤ s.aclk && !s.nvBusy wLearned then s.fs Fld.EST_NV_WRITING 1 else s
  else s

/-- R358: a deferred write begins. -/
def nvDue (s : State) : State :=
  if s.est.nvReq ∧ s.est.lastNv ≤ s.aclk ∧ !s.nvBusy wLearned then s.fs Fld.EST_NV_WRITING 1 else s

def stringUpdate (ms : Rat) (n : Nat) (s : State) : State :=
  let x := s.estr n
  let q := s.netCharge n
  let dq : Rat := ((q - x.q : Int) : Rat) / 1000000
  let inom : Rat := (s.strInom n : Rat) / 10
  let i := if ms = 0 then 0 else dq * 3600000 / ms
  let quiet := decide (|i| * 1000 < (s.fg Fld.EST_CFG_RESTI : Rat) * inom) && decide (x.worst ≤ 2)
  let restMs := if quiet then x.restMs + ms.floor.toNat else 0
  let rest := quiet && decide (60000 * s.fg Fld.EST_CFG_RESTT ≤ restMs)
  let was := bitOf (s.fg Fld.EST_STAT_REST) n
  let entry := rest && !was
  let u : Upd := ⟨ms, dq, x.worst, (x.cClk : Rat) / 8192000 / 3600, rest, entry⟩
  let mods := s.strMods n
  -- R351: the last update at rest was the anchor
  let s := if was && !rest then
      let s := match x.span, x.cand with
        | some sp, some c => mods.foldl (fun s m => learn m sp c s) s
        | _, _ => s
      mods.foldl (fun s m => s.setEMod m { s.emod m with anchor := (s.emod m).cand, cand := none }) s
    else s
  let step := fun (sp : Span) => { sp with
    u := sp.u || decide (2 < x.worst), cq := if x.worst = 2 then sp.cq + |dq| else sp.cq, worst := max sp.worst x.worst }
  let base := if was && !rest then x.cand.map (fun c => ⟨c.q, c.t, false, 0, 0⟩) else x.span
  let span := base.map step
  let s := mods.foldl (fun s m => modUpdate u m s) s
  let ih := (i :: x.ih).take 10
  let s := match steady inom ih with
    | some j => mods.foldl (fun s m => resist j m s) s
    | none => s
  let cand : Option Span := if rest then some (match span with
      | some sp => { sp with q := q, t := s.aclk }
      | none => ⟨q, s.aclk, false, 0, 0⟩) else none
  let s := s.setEStr n ⟨q, restMs, s.setClass n, 0, span, cand, ih⟩
  let s := (s.fs Fld.EST_STAT_REST (setBit (s.fg Fld.EST_STAT_REST) n rest)).fs (Fld.EST_S_STAT_ATREST n) (boolNat rest)
  if entry then nvTrigger s else s

/-- R361, R356: a host value applies after the update's own estimates. -/
def hostValue (w : Nat × Word) (s : State) : State :=
  let m := (w.1 - Reg.EST_M_LCAP 0) / 32
  let x := s.emod m
  if w.1 = Reg.EST_M_LCAP m then
    s.setEMod m { x with cap := (fldOf w.2 0 24 : Rat) / 1000, sigC := (fldOf w.2 24 8 : Rat) / 1000 }
  else s.setEMod m { x with r := fldOf w.2 16 16 }

/-- R337: the end of a burst counts towards a module's absence in WATCH. -/
def burstEnd (m : Nat) (s : State) : State :=
  let x := s.emod m
  let miss := if x.hit then 0 else min 3 (x.miss + 1)
  let s := s.setEMod m { x with miss := miss, hit := false }
  if 3 ≤ miss then s.fs (presFld m) 0 else s

def State.modules (s : State) : List Nat := s.strings.flatMap s.strMods

/-- R346, R355: one update, in WATCH at the end of a burst's listening (R325). -/
def estUpdate (sub : Nat) (s : State) : State :=
  let s := aclkTo sub s
  if !s.fb Fld.EST_STAT_RUN ∨ !(s.awake || (s.powerState == 1 && s.est.burst)) then s
  else
    let ms : Rat := ((s.aclk - s.est.last : Nat) : Rat) * 1000 / 32768
    let s := if s.powerState = 1 then s.modules.foldl (fun s m => burstEnd m s) s else s
    let s := s.strings.foldl (fun s n => stringUpdate ms n s) s
    let s := s.est.host.foldl (fun s w => hostValue w s) s
    let s := s.modules.foldl (fun s m => moduleRegs m s) s
    let s := s.strings.foldl (fun s n => stringRegs n s) s
    let s := nvDue (s.setEst { s.est with last := s.aclk, host := [] })
    s.wr Reg.EST_UPDCNT (s.rd Reg.EST_UPDCNT + 1)

/-! ### Persistence (R356 to R360) -/

def estSlotAt (k : Nat) : Nat := 0x600000 + 0x4000 * k

def State.estSlotSeq (s : State) (k : Nat) : Nat :=
  let a := estSlotAt k
  let c := (s.mramWord (a + 0x1024)).toNat
  if c / 2 ^ 24 = 0xC3 ∧ c % 2 ^ 24 ≠ 0 ∧ c % 2 ^ 24 = (s.mramWord (a + 4)).toNat ∧
    (s.mramWord (a + 0x1020)).toNat = crc32 (s.mramBytes a 0x1020) then c % 2 ^ 24 else 0

/-- R357: a module's record. -/
def moduleRecord (s : State) (m : Nat) : List Byte :=
  if !s.modUsed m then List.replicate 32 0
  else
    let x := s.emod m
    leBytes 1 (s.modCells m) ++ leBytes 1 (s.modCurve m) ++ leBytes 2 (s.modCapacity m) ++ leBytes 4 (u32Of (1000 * x.cap)) ++
    leBytes 2 (u16Of (1000 * x.sigC)) ++ leBytes 2 (u16Of x.r) ++ leBytes 2 (ofSigned 16 (ratRound (10000 * x.soc))) ++
    leBytes 2 (u16Of (10000 * x.sigS)) ++ leBytes 2 (u16Of (10000 * x.rep)) ++
    leBytes 1 (s.fg (modFlag m 3) + 2 * boolNat x.serial.isSome) ++ leBytes 1 0 ++ leBytes 8 (x.serial.getD 0) ++ leBytes 4 0

/-- R358: the slot that does not hold the highest valid SEQ. -/
def State.estTarget (s : State) : Nat := if s.estSlotSeq 1 ≤ s.estSlotSeq 0 ∧ s.estSlotSeq 0 ≠ 0 then 1 else 0

def State.estNextSeq (s : State) : Nat := max (s.estSlotSeq 0) (s.estSlotSeq 1) + 1

/-- R357: the payload of a slot. -/
def estPayload (s : State) : List Byte :=
  leBytes 4 1 ++ leBytes 4 s.estNextSeq ++ leBytes 4 (s.rd Reg.CMB_IMG_SERIAL).toNat ++ leBytes 4 s.now ++
    leBytes 4 (boolNat s.ttrust) ++ List.replicate 12 0 ++ (List.range 128).flatMap (moduleRecord s)

/-- R358: payload, CRC, COMMIT, in this order. -/
def estWords (s : State) : List (Nat × Word) :=
  let t := estSlotAt s.estTarget
  byteWords t (estPayload s) ++ [(t + 0x1020, BitVec.ofNat 32 (crc32 (estPayload s))),
    (t + 0x1024, BitVec.ofNat 32 (0xC3000000 + s.estNextSeq))]

/-- R358: a write of learned values begins with the state as it stands, unless SEQ has run out. -/
def estNvBegin (s : State) : State :=
  let t := (s.setEst { s.est with nvReq := false, nvNow := false }).fs Fld.EST_NV_WRITING 0
  if !s.fb Fld.EST_CFG_PERS ∨ !s.fb Fld.EST_STAT_RUN then t
  else if 0xFFFFFF < s.estNextSeq then t.fs Fld.EST_NV_WEAR 1
  else nvIssue wLearned (estWords s) (t.fs Fld.EST_NV_WRITING 1)

/-- R358: every word has been written. A trigger that came meanwhile begins another write, or is deferred. -/
def estNvDone (s : State) : State :=
  let k := if s.estSlotSeq 0 < s.estSlotSeq 1 then 1 else 0
  let s := s.fs Fld.EST_NV_WRITING (boolNat s.est.nvNow)
  if !s.fb Fld.EST_CFG_PERS then s
  else ((s.fs Fld.EST_NV_SEQ (s.estSlotSeq k)).fs Fld.EST_NV_SLOT k).setEst { s.est with lastNv := s.aclk + 300 * 32768 }

/-- R358: one command begins the write, and another, once its words are in MRAM, completes it. -/
def estNvWrite (s : State) : State := nvRun wLearned estNvBegin estNvDone s

/-- R514: a word of a write of learned values has been refused: the write ends with WERR. -/
def estRefused (s : State) : State :=
  ((s.fs Fld.EST_NV_WRITING 0).fs Fld.EST_NV_WERR 1).setEst { s.est with nvReq := false, nvNow := false }

/-- R359: one module's record of a slot, when its identity matches the topology. -/
def restoreModule (a m : Nat) (s : State) : State :=
  let b := s.mramBytes (a + 0x20 + 32 * m) 32
  if byteAt b 0 ≠ s.modCells m ∨ byteAt b 1 ≠ s.modCurve m ∨ u16At b 2 ≠ s.modCapacity m then s
  else
    let time := (s.mramWord (a + 12)).toNat
    let mins : Nat := min 1440 ((s.now - time) / 60)
    let g : Rat := if s.fb Fld.RTC_STAT_OSF ∨ (s.mramWord (a + 16)).toNat % 2 = 0 ∨ s.now < time then 25 / 100
      else min (25 / 100) ((u16At b 14 : Rat) / 10000 + (s.fg Fld.EST_CFG2_ULOSS : Rat) / 10000 * mins)
    let s := s.setEMod m { emod0 with
      cap := (u32At b 4 : Rat) / 1000, sigC := (u16At b 8 : Rat) / 1000, r := u16At b 10,
      soc := (toSigned 16 (u16At b 12) : Rat) / 10000, sigS := g, rep := (u16At b 16 : Rat) / 10000, known := true,
      serial := if bitOf (byteAt b 18) 1 then some (leNat ((b.drop 20).take 8)) else none, dec := (s.emod m).dec }
    s.fs (modFlag m 3) (byteAt b 18 % 2)

/-- R337, R350, R359. -/
def estStart (s : State) : State :=
  if s.fb Fld.EST_STAT_RUN ∨ s.image.isNone ∨ !s.rst.firmware then s
  else
    let s := (List.range 4).foldl (fun s i => s.wr (Reg.CAN_PRES i) 0) s
    let s := s.modules.foldl (fun s m => s.setEMod m { emod0 with
      cap := s.nameplate m, sigC := 2 / 10, r := curveRcell (s.modCurveB m), dec := (s.emod m).dec }) s
    let a := s.estSlotSeq 0
    let b := s.estSlotSeq 1
    let k := if a < b then 1 else 0
    let s := if s.fb Fld.EST_CFG_PERS ∧ 0 < max a b then
        let s := s.modules.foldl (fun s m => restoreModule (estSlotAt k) m s) s
        ((s.fs Fld.EST_STAT_RESTORED 1).fs Fld.EST_NV_SEQ (max a b)).fs Fld.EST_NV_SLOT k
      else s
    let s := s.strings.foldl (fun s n => s.setEStr n { estr0 with q := s.netCharge n, worst := s.setClass n }) s
    let s := s.setEst { s.est with last := s.aclk, nvReq := false, nvNow := false }
    let s := (s.fs Fld.EST_STAT_RUN 1).wr Reg.EST_UPDCNT 0
    let s := s.modules.foldl (fun s m => moduleRegs m s) s
    s.strings.foldl (fun s n => stringRegs n s) s

/-- R358: a write of SAVE. -/
def estSave (s : State) : State := nvNow s

/-- R356: PERS = 0 writes both COMMIT words as 0, behind a write that runs (R515). -/
def persVolatile (s : State) : State :=
  (nvIssue wLearned [(estSlotAt 0 + 0x1024, 0), (estSlotAt 1 + 0x1024, 0)] (s.fs Fld.EST_CFG_PERS 0)).setEst
    { s.est with nvReq := false, nvNow := false }

/-- R356: a write of LCAP or HLTH. -/
def moduleWrite (m : Nat) (hlth : Bool) (v : Word) (s : State) : Nat × State :=
  let a := if hlth then Reg.EST_M_HLTH m else Reg.EST_M_LCAP m
  let cap := fldOf v 0 24
  let sig := fldOf v 24 8
  let r := fldOf v 16 16
  let rc := curveRcell (s.modCurveB m)
  let np := 100 * s.modCapacity m
  if !s.modUsed m ∨ s.modCells m = 0 then (stDecodeErr, s)
  else if hlth then
    if 4 * r < rc ∨ 4 * rc < r then (stDecodeErr, s) else (stOk, s.setEst { s.est with host := s.est.host ++ [(a, v)] })
  else if 10 * cap < 3 * np ∨ 12 * np < 10 * cap ∨ sig < 5 ∨ 200 < sig then (stDecodeErr, s)
  else (stOk, s.setEst { s.est with host := s.est.host ++ [(a, v)] })

/-! ### Commands -/

def execEstimatorStart (s : State) : Host.Outcome State Fault Refusal := done s (estStart s)

def execEstimatorNvWrite (s : State) : Host.Outcome State Fault Refusal := done s (estNvWrite s)

def execEstSave (p : Port) (s : State) : Host.Outcome State Fault Refusal :=
  done s (asWrite p Reg.EST_CTL (okay estSave) s)

def execPersVolatileWrite (p : Port) (s : State) : Host.Outcome State Fault Refusal :=
  done s (asWrite p Reg.EST_CFG (okay persVolatile) s)

def execModuleValueWrite (p : Port) (m : Fin 128) (hlth : Bool) (v : Word) (s : State) : Host.Outcome State Fault Refusal :=
  done s (asWrite p (if hlth then Reg.EST_M_HLTH m else Reg.EST_M_LCAP m) (moduleWrite m hlth v) s)

end Sys2Proof.Machine
end

