-- ==== Sys2Proof/Machine/Can.lean ====
section
/-!
DEFINITION. Module links (chapter 10, R323 to R337): the CAN controllers, format entries and receive queues.
-/
namespace Sys2Proof.Machine

/-! ### Controllers (R323 to R325) -/

abbrev canActive : Nat := 0
abbrev canPassive : Nat := 1
abbrev canBusOff : Nat := 2

def State.canState (s : State) (c : Nat) : Nat := s.fg (Fld.CAN_C_STAT_ESTATE c)

/-- A controller that listens to its bus now: enabled, not bus-off, and in WATCH only in a burst (R325). -/
def State.canListens (s : State) (c : Nat) : Bool :=
  s.fb (Fld.CAN_C_CFG_EN c) && s.canState c != canBusOff && (s.awake || (s.powerState == 1 && s.est.burst))

/-- R324: the bit timing in force allows EN = 1. Quanta per bit are 3 + the two segment fields, which hold quanta − 1. -/
def State.canTiming (s : State) (c : Nat) : Bool :=
  let nq := (3 + s.fg (Fld.CAN_C_NBT_TSEG1 c) + s.fg (Fld.CAN_C_NBT_TSEG2 c)) * (1 + s.fg (Fld.CAN_C_NBT_BRP c))
  let dt := 3 + s.fg (Fld.CAN_C_DBT_TSEG1 c) + s.fg (Fld.CAN_C_DBT_TSEG2 c)
  decide (40 ≤ nq ∧ 8 ≤ dt * (1 + s.fg (Fld.CAN_C_DBT_BRP c)) ∧ 8 ≤ dt)

/-- A controller that is switched off has no poll to send. -/
def canEnable (c : Nat) (en : Bool) (s : State) : Nat × State :=
  if en && !s.canTiming c then (stDecodeErr, s)
  else
    let s := if en then s else s.setCan { s.can with due := s.can.due.filter (fun p => p.1 % 2 != c) }
    (stOk, s.fs (Fld.CAN_C_CFG_EN c) (boolNat en))

/-- The error state that the counters give; EV184 and EV185 mark a change. -/
def canErrorState (c : Nat) (tec rec : Nat) (s : State) : State :=
  let st := if 255 < tec then canBusOff else if 127 < tec ∨ 127 < rec then canPassive else canActive
  let old := s.canState c
  let s := (s.fs (Fld.CAN_C_STAT_TEC c) (min 255 tec)).fs (Fld.CAN_C_STAT_REC c) (min 255 rec)
  let s := s.fs (Fld.CAN_C_STAT_ESTATE c) st
  let s := if old ≠ st then s.raise (184 + c) else s
  if st = canBusOff ∧ old ≠ canBusOff then (s.fs (Fld.CAN_C_STAT_BOFF c) 1).driveLine 21 else s

/-- R323, ISO 11898-1: a protocol error moves the counters: 0 transmitting (TEC + 8), 1 receiving (REC + 1), 2 receiving
with a dominant bit after the error flag (REC + 8). A controller in LISTEN sends no error frame and counts nothing. -/
def canError (c kind : Nat) (s : State) : State :=
  if !s.canListens c ∨ s.fb (Fld.CAN_C_CFG_LISTEN c) then s
  else
    let t := s.fg (Fld.CAN_C_STAT_TEC c)
    let r := s.fg (Fld.CAN_C_STAT_REC c)
    match kind with
    | 0 => canErrorState c (t + 8) r s
    | 1 => canErrorState c t (min 255 (r + 1)) s
    | _ => canErrorState c t (min 255 (r + 8)) s

/-- R323, ISO 11898-1: a frame received without error. Above 127 the standard takes REC to a value from 119 to 127. -/
def canReceived (c : Nat) (s : State) : State :=
  let r := s.fg (Fld.CAN_C_STAT_REC c)
  let t := s.fg (Fld.CAN_C_STAT_TEC c)
  if s.fb (Fld.CAN_C_CFG_LISTEN c) ∨ r = 0 then s
  else if r ≤ 127 then canErrorState c t (r - 1) s
  else
    let (v, s) := s.fresh
    canErrorState c t (119 + v % 9) s

/-- R326: a poll that has fallen due, or none. -/
def State.pollDue (s : State) (i c : Nat) : Option (Nat × List Byte) := kvGet (fun _ => none) s.can.due (2 * i + c)

def setPollDue (i c : Nat) (f : Option (Nat × List Byte)) (s : State) : State :=
  s.setCan { s.can with due := kvSet (fun _ => none) s.can.due (2 * i + c) f }

/-- R326: a controller sends a poll frame; its success takes TEC down by one. -/
def sendPoll (c : Nat) (f : Nat × List Byte) (s : State) : State :=
  let s := s.setCan { s.can with tx := kvSet (fun _ => none) s.can.tx c (some f) }
  canErrorState c (s.fg (Fld.CAN_C_STAT_TEC c) - 1) (s.fg (Fld.CAN_C_STAT_REC c)) s

/-- R326: a controller sends a poll that is due as soon as it takes part in its bus. -/
def trySend (i c : Nat) (s : State) : State :=
  match s.pollDue i c with
  | none => s
  | some f => if s.canListens c && !s.fb (Fld.CAN_C_CFG_LISTEN c) then sendPoll c f (setPollDue i c none s) else s

/-- R323: bus-off ends after 128 occurrences of 11 recessive bits; the polls that are due go out. -/
def busOffEnd (c : Nat) (s : State) : State :=
  if s.canState c = canBusOff then (List.range 64).foldl (fun s i => trySend i c s) (canErrorState c 0 0 s) else s

/-! ### Format entries (R327 to R334) -/

/-- Entry `i` of CANFMT, 128 bytes. -/
def State.fmt (s : State) (i : Nat) : List Byte := ((s.sec secCanfmt).drop (8 + 128 * i)).take 128
def State.fmtCount (s : State) : Nat := u32At (s.sec secCanfmt) 0

def fmtPresence (e : List Byte) : Nat := u16At e 14
/-- The 12 bytes of each field of an entry. -/
def fmtFields (e : List Byte) : List (List Byte) := (List.range (byteAt e 13)).map (fun f => (e.drop (32 + 12 * f)).take 12)
def fldQty (f : List Byte) : Nat := byteAt f 10

/-- R331: the frame, in MATCH's positions, matches the entry on this bus. -/
def fmtMatches (e : List Byte) (bus frame : Nat) : Bool :=
  bitOf (byteAt e 8) bus && ((frame % 2 ^ 31) ^^^ u32At e 0) &&& u32At e 4 == 0

def dataBit (d : List Byte) (k : Nat) : Bool := bitOf (byteAt d (k / 8)) (k % 8)

/-- R333: the position after bit `k` in the order of BIGEND. -/
def nextBig (k : Nat) : Nat := if k % 8 = 0 then k + 15 else k - 1

def extractBig (d : List Byte) : Nat → Nat → Nat → Nat
  | 0, _, acc => acc
  | n + 1, k, acc => extractBig d n (nextBig k) (2 * acc + boolNat (dataBit d k))

def advanceBig : Nat → Nat → Nat
  | 0, k => k
  | n + 1, k => advanceBig n (nextBig k)

/-- R333: the raw bits of copy `r` of a field. -/
def extractRaw (d f : List Byte) (r : Nat) : Nat :=
  let ofs := u16At f 0
  let len := byteAt f 2
  if bitOf (byteAt f 3) 1 then extractBig d len (advanceBig (r * len) ofs) 0
  else maskOf len (fun i => dataBit d (ofs + r * len + i))

/-- R333: the value of copy `r`, in the quantity's unit. -/
def fieldValue (d f : List Byte) (r : Nat) : Int :=
  let raw := extractRaw d f r
  if 0x10 ≤ fldQty f then raw
  else
    let v : Int := if bitOf (byteAt f 3) 0 then toSigned (byteAt f 2) raw else raw
    satSigned 32 (ratRound ((v * toSigned 32 (u32At f 4) : Int) / (65536 : Rat) + (toSigned 16 (u16At f 8) : Rat)))

/-- R332: the module an entry names, before its range is judged. -/
def fmtModule (e d : List Byte) (id : Nat) : Nat :=
  match byteAt e 9 with
  | 0 => byteAt e 10
  | 1 => byteAt e 10 + ((id / 2 ^ byteAt e 11) &&& byteAt e 12)
  | _ => byteAt e 10 + (match (fmtFields e).find? (fun f => fldQty f == 0x20) with
    | some f => extractRaw d f 0
    | none => 0)

/-- Keep a decoded value (R334). -/
def keepValue (m k : Nat) (v : Int) (pres : Nat) (s : State) : State :=
  let x := s.emod m
  s.setEMod m { x with
    dec := kvInsert k ⟨v, s.aclk, pres⟩ x.dec, celled := x.celled || k == 0x05 || k == 0x06 || (0x100 ≤ k && k < 0x200) }

/-- One field of one frame (R329, R332 to R334). -/
def decodeField (m base pres : Nat) (d f : List Byte) (s : State) : State :=
  let q := fldQty f
  if q = 0x20 ∨ q = 0x21 then s
  else if q = 0x01 then
    (List.range (byteAt f 3 / 16 + 1)).foldl (fun s r =>
      let c := base + byteAt f 11 + r
      if c < s.modCells m then keepValue m (0x100 + c) (fieldValue d f r) pres s else s) s
  else if q = 0x02 then keepValue m (0x200 + byteAt f 11) (fieldValue d f 0) pres s
  else
    let v := fieldValue d f 0
    let s := keepValue m q v pres s
    if q = 0x18 ∧ v ≠ 0 then s.fs (modFlag m 6) 1 else s

/-- R331, R332, R337: an entry decodes a frame it matches; the module it decoded. -/
def decodeEntry (c : Nat) (e d : List Byte) (id : Nat) (s : State) : Option Nat × State :=
  if d.length < byteAt e 17 then (none, s.finc (Fld.CAN_C_ERR_SHORT c))
  else
    let m := fmtModule e d id
    if 127 < m ∨ s.modCells m = 0 then (none, s.finc (Fld.CAN_C_ERR_BADMOD c))
    else
      let pres := fmtPresence e
      let base := match (fmtFields e).find? (fun f => fldQty f == 0x21) with | some f => extractRaw d f 0 | none => 0
      let s := (fmtFields e).foldl (fun s f => decodeField m base pres d f s) s
      let s := if pres = 0 then s
        else (s.fs (presFld m) 1).setEMod m { s.emod m with hit := s.powerState == 1, miss := 0 }
      (some m, s)

/-- R335, R336: delivery to a receive queue. -/
def mqDeliver (q c frame : Nat) (entry module : Nat) (esi : Bool) (d : List Byte) (s : State) : State :=
  let n := 48 + q
  if s.qRoom n = 0 then
    let s := s.finc (Fld.SYS_Q_STAT_DROP n)
    if s.qEnabled n then s.fs (Fld.SYS_Q_STAT_OVF n) 1 else s
  else
    qPush n (leBytes 4 frame ++ leBytes 1 d.length ++ leBytes 1 c ++ leBytes 1 entry ++ leBytes 1 module ++ leBytes 4 s.now ++
      leBytes 2 s.rtc.ticks ++ leBytes 1 (boolNat esi) ++ leBytes 1 0 ++ (d ++ List.replicate (64 - d.length) 0).take 64) s

/-- R331, R335: a data frame; `frame` holds identifier, IDE, FDF and BRS as an MQ entry does. -/
def frameReceived (c frame : Nat) (esi remote : Bool) (data : List Byte) (sub : Nat) (s : State) : State :=
  let s := aclkTo sub s
  let d := data.take 64
  if !s.canListens c ∨ (bitOf frame 30 ∧ !s.fb (Fld.CAN_C_CFG_FDEN c)) ∨
    (bitOf frame 30 ∧ bitOf frame 31 ∧ !s.fb (Fld.CAN_C_CFG_BRSEN c)) then s
  else
    let s := canReceived c s
    if remote then s
    else
      let s := s.fs (Fld.CAN_C_CNT_RX c) (s.fg (Fld.CAN_C_CNT_RX c) + 1)
      let hits := (List.range s.fmtCount).filter (fun i => fmtMatches (s.fmt i) c frame)
      let s := if hits.isEmpty then s else s.fs (Fld.CAN_C_CNT_MATCH c) (s.fg (Fld.CAN_C_CNT_MATCH c) + 1)
      let r := hits.foldl (fun (a : Option (Option Nat) × State) i =>
        let x := decodeEntry c (s.fmt i) d (frame % 2 ^ 29) a.2
        (some (a.1.getD x.1), x.2)) (none, s)
      let module := (r.1.getD none).getD 0xFF
      let entry := hits.headD 0xFF
      match hits.find? (fun i => byteAt (s.fmt i) 16 != 0xFF) with
      | some i => mqDeliver (byteAt (s.fmt i) 16) c frame entry module esi d r.2
      | none => if s.fb (Fld.CAN_C_CFG_DEFEN c) then mqDeliver (s.fg (Fld.CAN_C_CFG_DEFMQ c)) c frame entry module esi d r.2
          else r.2

/-- R326: the entry's poll falls due on every bus of its mask whose controller may poll, in place of one not yet sent. In
WATCH polls fall due in bursts (R325); in DORMANT the controllers are off. -/
def canPoll (i : Nat) (s : State) : State :=
  let e := s.fmt i
  if s.fmtCount ≤ i ∨ u16At e 18 = 0 ∨ !(s.awake || (s.powerState == 1 && s.est.burst)) then s
  else
    let f : Nat × List Byte := (u32At e 20, (e.drop 28).take (byteAt e 24))
    (List.range 2).foldl (fun s c =>
      if bitOf (byteAt e 8) c && s.fb (Fld.CAN_C_CFG_EN c) && !s.fb (Fld.CAN_C_CFG_LISTEN c) then
        trySend i c (setPollDue i c (some f) s)
      else s) s

/-- R325, R456: HFRC and the PLL run for a burst; between bursts HFRC runs for a watchdog that selects it. -/
def burstClocks (on : Bool) (s : State) : State :=
  let hfrc := on || s.fb Fld.WDG_H_CTL_EN && s.fb Fld.WDG_H_CFG_CLKSEL
  ((s.fs Fld.CLK_STAT_HFRC_ON (boolNat hfrc)).fs Fld.CLK_STAT_PLL_LOCK (boolNat on)).fs Fld.CLK_STAT_SYSCLK (boolNat on)

/-- R325, R326: a burst begins: the controllers listen, and every poll falls due. -/
def burstBegin (s : State) : State :=
  (List.range s.fmtCount).foldl (fun s i => canPoll i s)
    (burstClocks true (s.setEst { s.est with burst := true, burstDue := false }))

/-- R325: a burst in WATCH falls due; while the one before still listens, it waits for its end. -/
def watchBurst (s : State) : State :=
  if s.powerState ≠ 1 then s
  else if s.est.burst then s.setEst { s.est with burstDue := true }
  else burstBegin s

/-- R325: the listening of a burst is over. -/
def burstOver (s : State) : State :=
  if s.powerState ≠ 1 ∨ !s.est.burst then s
  else
    let s := burstClocks false (s.setEst { s.est with burst := false })
    if s.est.burstDue then burstBegin s else s

/-- R325, R346: an update; in WATCH it comes at the end of a burst's listening, on the frames of that burst. -/
def estimatorUpdate (sub : Nat) (s : State) : State := burstOver (estUpdate sub s)

/-! ### Commands -/

def execEstimatorUpdate (sub : Nat) (s : State) : Host.Outcome State Fault Refusal := done s (estimatorUpdate sub s)

def execCanEnable (p : Port) (c : Fin 2) (en : Bool) (s : State) : Host.Outcome State Fault Refusal :=
  done s (asWrite p (Reg.CAN_C_CFG c) (canEnable c en) s)

def execCanFrameReceived (c : Fin 2) (frame : Word) (esi remote : Bool) (data : List Byte) (sub : Nat) (s : State) :
    Host.Outcome State Fault Refusal := done s (frameReceived c frame.toNat esi remote data sub s)

def execCanPoll (i : Fin 64) (s : State) : Host.Outcome State Fault Refusal := done s (canPoll i s)

def execCanWatchBurst (s : State) : Host.Outcome State Fault Refusal := done s (watchBurst s)

def execBusOffRecovery (c : Fin 2) (s : State) : Host.Outcome State Fault Refusal := done s (busOffEnd c s)

def execCanBusError (c : Fin 2) (kind : Fin 3) (s : State) : Host.Outcome State Fault Refusal := done s (canError c kind s)

end Sys2Proof.Machine
end

