-- ==== Sys2Proof/Machine/ImageCheck.lean ====
section
/-!
DEFINITION. The verification of a comb image (R70 to R88, R93): the checks in their order, each with the code, the
section index and the entry index that CMB_LOAD_STAT records for it (DEDUCED, log entry 21).
-/
namespace Sys2Proof.Machine

/-- What a failed check records: its code, section, entry, and whether a required section is missing (R93). -/
structure Finding where
  code : Nat
  sec : Nat
  ent : Nat
  missing : Bool
  deriving DecidableEq, Repr

abbrev badHeader : Nat := 1
abbrev badTable : Nat := 2
abbrev badCrc : Nat := 3
abbrev badKey : Nat := 4
abbrev badSig : Nat := 5
abbrev badPinmap : Nat := 6
abbrev badTopology : Nat := 7
abbrev badContent : Nat := 8
abbrev slotInvalid : Nat := 9

/-- One check: does it hold, and what is recorded if not. -/
abbrev Chk := Bool × Finding

def chk (ok : Bool) (code sec ent : Nat) : Chk := (ok, ⟨code, sec, ent, false⟩)

/-- The first check that fails. -/
def firstFail : List Chk → Option Finding
  | [] => none
  | (true, _) :: r => firstFail r
  | (false, f) :: _ => some f

/-- One check per index below `n`, with its index as the entry. -/
def chks (n code sec : Nat) (ok : Nat → Bool) : List Chk := (List.range n).map (fun i => chk (ok i) code sec i)

def zeros (b : List Byte) (i n : Nat) : Bool := ((b.drop i).take n).all (fun x => x == 0)

/-! ### Header and section table (R70 to R74) -/

structure SecEntry where
  ty : Nat
  flags : Nat
  off : Nat
  len : Nat
  crc : Nat
  deriving DecidableEq, Repr

def headerOk (b : List Byte) : Bool :=
  decide (1628 ≤ b.length ∧ b.length ≤ 262144 ∧ b.length % 4 = 0) && b.take 4 == ascii "CMBI" &&
  u16At b 6 == 1 && u16At b 8 == 0x7600 && bitOf (u16At b 10) 0 && u32At b 12 == b.length

def imgTable (b : List Byte) : List SecEntry :=
  let t := b.drop (u32At b 0x14)
  (List.range (min 32 (u16At b 0x12))).map (fun i =>
    ⟨u16At t (16 * i), u16At t (16 * i + 2), u32At t (16 * i + 4), u32At t (16 * i + 8), u32At t (16 * i + 12)⟩)

def requiredSecs : List Nat := [1, 2, 4, 6, 7, 11, 127]
def knownSec (t : Nat) : Bool := decide ((1 ≤ t ∧ t ≤ 11) ∨ t = 127)
/-- R72: the sections whose layout fixes their length. -/
def fixedLens : List (Nat × Nat) := [(2, 676), (3, 432), (4, 320), (5, 88), (11, 24), (127, 136)]

/-- The end of the section before entry `i`; the header for the first. -/
def prevEnd (t : List SecEntry) (i : Nat) : Nat :=
  if i = 0 then 0x40 else match t[i - 1]? with
    | some e => e.off + e.len
    | none => 0

/-- R72, R74. A section that overlaps the section table breaks R72 too (DEDUCED, log entry 26). -/
def entryOk (b : List Byte) (t : List SecEntry) (i : Nat) : Bool := match t[i]? with
  | none => false
  | some e =>
    let lo := u32At b 0x14
    let hi := lo + 16 * t.length
    decide (e.flags ≤ 1 ∧ e.off % 4 = 0 ∧ e.len % 4 = 0 ∧ prevEnd t i ≤ e.off ∧ e.off + e.len ≤ b.length) &&
    decide (e.off + e.len ≤ lo ∨ hi ≤ e.off) && !((t.take i).any (fun x => x.ty == e.ty)) &&
    (knownSec e.ty || e.flags == 1) &&
    (match fixedLens.lookup e.ty with
      | some l => e.len == l
      | none => true) &&
    (e.ty != 127 || (i + 1 == t.length && e.off + e.len == b.length))

/-- BAD_TABLE: the table lies inside the image, its rules by entry, then the required sections, lowest type first. -/
def tableChecks (b : List Byte) (t : List SecEntry) : List Chk :=
  let n := u16At b 0x12
  let o := u32At b 0x14
  chk (decide (1 ≤ n ∧ n ≤ 32 ∧ 0x40 ≤ o ∧ o + 16 * n ≤ b.length)) badTable 0 0 ::
  (List.range t.length).map (fun i => chk (entryOk b t i) badTable i 0) ++
  requiredSecs.map (fun ty => (t.any (fun e => e.ty == ty), ⟨badTable, 0, ty, true⟩))

/-! ### CRC, key and signature (R73, R86, R87) -/

def entryBytes (b : List Byte) (e : SecEntry) : List Byte := (b.drop e.off).take e.len

/-- R86: SIG reads as 0 for the CRC of its own section. -/
def crcBytes (b : List Byte) (e : SecEntry) : List Byte :=
  if e.ty = 127 then (entryBytes b e).take 72 ++ List.replicate 64 0 else entryBytes b e

def crcChecks (b : List Byte) (t : List SecEntry) : List Chk :=
  t.zipIdx.map (fun x => chk (crc32 (crcBytes b x.1) == x.1.crc) badCrc x.2 0)

/-- R507: digest slot `i` of a kind, from its base word. -/
def State.digest (s : State) (base i : Nat) : List Byte := (List.range 8).flatMap (fun k =>
  leBytes 4 (s.otpWord (base + 8 * i + k)).toNat)

/-- R507: the digests in force: not revoked and not empty. `rev` is the first revocation bit of the kind. -/
def State.liveDigests (s : State) (base rev : Nat) : List Nat := (List.range 4).filter (fun i =>
  !bitOf (s.otpWord 0x181).toNat (rev + i) && (s.digest base i).any (fun x => x != 0))

/-- The digest slot a key answers to. -/
def State.keySlot (s : State) (base rev : Nat) (key : List Byte) : Option Nat :=
  (s.liveDigests base rev).find? (fun i => s.digest base i == sha256 key)

/-- The index and the bytes of a section. -/
def secIndex (t : List SecEntry) (ty : Nat) : Nat := (t.findIdx? (fun e => e.ty == ty)).getD 0
def secBytes (b : List Byte) (t : List SecEntry) (ty : Nat) : List Byte :=
  match t.find? (fun e => e.ty == ty) with
  | some e => entryBytes b e
  | none => []

/-- R87, R86. An ALG other than 1 or a nonzero reserved word is BAD_SIG, after the key (DEDUCED, log entry 26). -/
def keyChecks (s : State) (b : List Byte) (t : List SecEntry) : List Chk :=
  let si := secIndex t 127
  let g := secBytes b t 127
  let key := (g.drop 8).take 64
  [chk ((s.keySlot 0x110 0 key).isSome) badKey si 0,
   chk (u32At g 0 == 1 && u32At g 4 == 0 && ecdsaOk key (g.drop 72) (b.take (b.length - 64))) badSig si 0]

/-! ### PINMAP (R75, R530, R531) -/

/-- CFk of a ball code, for a configurable ball. -/
def cfOf (ball : Nat) : Option Nat :=
  let r := ball / 32
  let c := ball % 32
  if 13 ≤ r ∧ r ≤ 16 ∧ 1 ≤ c ∧ c ≤ 20 then some (20 * (r - 13) + c - 1) else none

/-- R530: function codes as ranges. -/
def funcRanges : List (Nat × Nat) := [(0x10, 0x17), (0x18, 0x1F), (0x20, 0x27), (0x30, 0x3B), (0x40, 0x4B), (0x50, 0x57),
  (0x60, 0x62), (0x64, 0x66), (0x70, 0x77), (0x78, 0x7F), (0x80, 0x85), (0x88, 0x8D), (0x90, 0x9F), (0xA0, 0xA3), (0xA8, 0xA9)]

/-- R531: how many balls a function may occupy. -/
def funcBalls (f : Nat) : Nat := if (0x30 ≤ f ∧ f ≤ 0x3B) ∨ (0x40 ≤ f ∧ f ≤ 0x4B) then 4 else 1

def pinOk (p : List Byte) (i : Nat) : Bool :=
  let at_ := fun k => 4 + 8 * k
  let ball := u16At p (at_ i)
  let f := u16At p (at_ i + 2)
  let attr := u16At p (at_ i + 4)
  funcRanges.any (fun r => decide (r.1 ≤ f ∧ f ≤ r.2)) && decide (attr < 128 ∧ attr % 4 < 3) && u16At p (at_ i + 6) == 0 &&
  !(List.range i).any (fun k => u16At p (at_ k) == ball) &&
  decide (((List.range i).filter (fun k => u16At p (at_ k + 2) == f)).length < funcBalls f) &&
  (match cfOf ball with
    | none => false
    | some k => !(f == 0xA8 || f == 0xA9) || (decide (72 ≤ k) && bitOf attr 2))

def pinmapChecks (b : List Byte) (t : List SecEntry) : List Chk :=
  let p := secBytes b t 1
  let n := u32At p 0
  chk (decide (4 ≤ p.length ∧ p.length = 4 + 8 * n)) badPinmap (secIndex t 1) 0 ::
    (if p.length = 4 + 8 * n then chks n badPinmap (secIndex t 1) (pinOk p) else [])

/-! ### TOPOLOGY, CONVERTER, METER, FEEDS (R76 to R79, R17, R19, R274) -/

def topoStrOk (p : List Byte) (i : Nat) : Bool :=
  let o := 4 + 16 * i
  let used := decide (i < byteAt p 0)
  (if used then decide (byteAt p o ≤ 16 ∧ byteAt p (o + 1) < byteAt p 1) else byteAt p o == 0) &&
  decide (byteAt p (o + 2) ≤ 15 ∧ byteAt p (o + 3) ≤ 1) && zeros p (o + 10) 6

def topoShelfOk (p : List Byte) (h : Nat) : Bool :=
  let o := 132 + 8 * h
  decide (byteAt p o ≤ 2) && byteAt p (o + 1) == 0 && (decide (byteAt p 1 ≤ h) || u16At p (o + 2) != 0) && zeros p (o + 4) 4

def topoModOk (p : List Byte) (m : Nat) : Bool :=
  let o := 164 + 4 * m
  let present := decide (m % 16 < byteAt p (4 + 16 * (m / 16)))
  (if present then decide (1 ≤ byteAt p o ∧ byteAt p o ≤ 32) else byteAt p o == 0) && decide (byteAt p (o + 1) ≤ 15)

/-- TOPOLOGY's entries: strings 0 to 7, shelves 8 to 11, modules 12 to 139. -/
def topologyChecks (b : List Byte) (t : List SecEntry) : List Chk :=
  let p := secBytes b t 2
  chk (decide (1 ≤ byteAt p 0 ∧ byteAt p 0 ≤ 8 ∧ 1 ≤ byteAt p 1 ∧ byteAt p 1 ≤ 4 ∧ byteAt p 2 ≤ 15) && byteAt p 3 == 0)
    badTopology (secIndex t 2) 0 ::
  chks 140 badTopology (secIndex t 2) (fun i =>
    if i < 8 then topoStrOk p i else if i < 12 then topoShelfOk p (i - 8) else topoModOk p (i - 12))

def grpMaskOf (c : List Byte) (g : Nat) : Nat := if byteAt c (32 * g) = 0 then 0 else u32At c (32 * g + 4)

def converterOk (nstr : Nat) (c : List Byte) (g : Nat) : Bool :=
  let o := 32 * g
  let ty := byteAt c o
  let tgt := byteAt c (o + 1)
  let n := byteAt c (o + 2)
  let m := u32At c (o + 4)
  let f := u32At c (o + 8)
  ty == 0 ||
  (decide (ty ≤ 3 ∧ 1 ≤ n ∧ n ≤ 8 ∧ (bitsOf 32 m).length = n ∧ 20000 ≤ f ∧ f ≤ 1000000) &&
   decide (tgt < nstr ∨ (ty ≠ 1 ∧ tgt = 255)) && decide (ty ≠ 3 ∨ n % 2 = 0) &&
   byteAt c (o + 3) == 0 && decide (byteAt c (o + 18) ≤ 1) && byteAt c (o + 19) == 0 && zeros c (o + 24) 8 &&
   (List.range g).all (fun k => grpMaskOf c k &&& m == 0))

def portOk (c : List Byte) (p : Nat) : Bool :=
  let o := 384 + 8 * p
  decide (byteAt c o ≤ 1) && byteAt c (o + 1) == 0 && zeros c (o + 4) 4

/-- The type 1 groups that serve string `n`. -/
def groupsFor (c : List Byte) (n : Nat) : Nat :=
  ((List.range 12).filter (fun g => byteAt c (32 * g) == 1 && byteAt c (32 * g + 1) == n)).length

/-- CONVERTER's entries: groups 0 to 11, ports 12 to 17; then R19 by string. -/
def converterChecks (b : List Byte) (t : List SecEntry) : List Chk :=
  let p := secBytes b t 2
  let c := secBytes b t 3
  let si := secIndex t 3
  (if c.isEmpty then [] else chks 18 badTopology si (fun i =>
    if i < 12 then converterOk (byteAt p 0) c i else portOk c (i - 12))) ++
  chks 8 badTopology (secIndex t 2) (fun n =>
    let carries := decide (n < byteAt p 0) && bitOf (byteAt p (7 + 16 * n)) 0
    decide (groupsFor c n ≤ 1) && (!carries || groupsFor c n == 1))

def meterChecks (b : List Byte) (t : List SecEntry) : List Chk :=
  let p := secBytes b t 2
  let m := secBytes b t 4
  chks 20 badTopology (secIndex t 4) (fun n =>
    let o := 16 * n
    let ts := byteAt m (o + 1)
    decide (byteAt m o ≤ 1 ∧ (ts ≤ 15 ∨ ts = 255)) && zeros m (o + 2) 2 && zeros m (o + 12) 4 &&
    (byteAt m o == 1 || !decide (n < 16 ∧ n % 8 < byteAt p 0)))

/-- R79: the channels that a feed of 2 or 3 channels names. -/
def feedChans (f : List Byte) (k : Nat) : List Nat :=
  let n := byteAt f (8 * k)
  if n = 2 ∨ n = 3 then (List.range n).map (fun i => byteAt f (8 * k + 1 + i)) else []

def feedOk (f : List Byte) (k : Nat) : Bool :=
  let o := 8 * k
  let n := byteAt f o
  let c := feedChans f k
  zeros f (o + 6) 2 && (n == 0 ||
    ((n == 2 || n == 3) && c.all (fun x => decide (x ≤ 7)) && decide c.Nodup && (n == 3 || byteAt f (o + 3) == 255) &&
     decide (20 ≤ u16At f (o + 4)) && (List.range k).all (fun j => (feedChans f j).all (fun x => !c.contains x))))

/-- FEEDS' entries: feeds 0 to 2, channels 3 to 10. -/
def feedsChecks (b : List Byte) (t : List SecEntry) : List Chk :=
  let f := secBytes b t 5
  if f.isEmpty then []
  else chks 11 badTopology (secIndex t 5) (fun i =>
    if i < 3 then feedOk f i else
      let ft := u16At f (24 + 8 * (i - 3) + 2)
      decide (5 ≤ ft ∧ ft ≤ 500))

/-! ### TILES and FSM (R82, R83, R46, R278) -/

/-- What the checks need of an image's tiles. -/
structure ImgTile where
  tile : Nat
  kind : Nat
  domain : Nat
  dsel : Nat
  div : Nat
  rsv : Nat
  ins : List Nat
  params : List Nat
  deriving DecidableEq, Repr

def imgTile (p : List Byte) (i : Nat) : ImgTile :=
  let d := (p.drop (208 * i)).take 208
  ⟨byteAt d 0, byteAt d 1, byteAt d 2, byteAt d 3, u16At d 4, u16At d 6, (List.range 4).map (fun k => u16At d (8 + 2 * k)),
   (List.range 48).map (fun k => u32At d (16 + 4 * k))⟩

def imgTiles (p : List Byte) : List ImgTile := (List.range (p.length / 208)).map (imgTile p)

/-- The read-only parameter words that the image gives, with their ranges (R50 to R59). An FSM tile's INIT comes from its
record (R83) and its descriptor's P3 is 0 (DEDUCED, log entry 26). -/
def imageParam (kind off : Nat) : Option (Nat → Bool) :=
  match kind with
  | 1 => if off = 0x6C then some (fun v => decide (v ≤ 1)) else none
  | 2 => if off = 0x50 then some (fun v => decide (v ≤ 2)) else none
  | 5 => if off = 0x40 then some (fun v => decide (v ≤ 2)) else if off = 0x50 then some (fun v => decide (v ≤ 31)) else none
  | 6 => if off = 0x40 then some (fun v => decide (v ≤ 2)) else if off = 0x4C then some (fun v => decide (v < 65536)) else none
  | _ => none

/-- R82: a value of parameter word `k`. -/
def paramOk (kind k v : Nat) : Bool :=
  let off := 0x40 + 4 * k
  match tileParam kind off with
  | some (.staged ok) => ok v
  | some (.rw _ mask ok) => ok v && decide (v ≤ mask)
  | _ => match imageParam kind off with
    | some ok => ok v
    | none => v == 0

/-- R82: the kind's commit rules (R51, R53, R55). -/
def tileRulesOk (x : ImgTile) : Bool :=
  let p := fun k => x.params.getD k 0
  let q := fun k => toSigned 32 (x.params.getD k 0)
  match x.kind with
  | 1 => decide (q 9 < q 8) && (p 0 != 0 ||
      decide (((q 5).natAbs : Int) < 268435456 ∧ ((q 4).natAbs : Int) < 268435456 + q 5))
  | 2 => decide (q 1 ≤ q 0)
  | 3 => decide (q 1 + q 2 ≤ q 0 - q 2)
  | _ => true

def convType (c : List Byte) (g : Nat) : Nat := if g < 12 then byteAt c (32 * g) else 0

def tileOk (c : List Byte) (ts : List ImgTile) (i : Nat) : Bool := match ts[i]? with
  | none => false
  | some x =>
    decide (x.tile ≤ 63 ∧ 1 ≤ x.kind ∧ x.kind ≤ 6 ∧ x.domain ≤ 2 ∧ x.rsv = 0) && !(ts.take i).any (fun y => y.tile == x.tile) &&
    (if x.domain = 1 then convType c x.dsel != 0 else x.dsel == 0) && (x.domain == 0 || x.div == 0) &&
    (x.params.zipIdx.all (fun v => paramOk x.kind v.2 v.1)) && tileRulesOk x

/-- R46, R57, R277, R308: may the image use this source code? A class 0x1 code names a tile that the image uses
(DEDUCED, log entry 26). -/
def sourceOk (c : List Byte) (ts : List ImgTile) (code : Nat) : Bool :=
  let i := code % 4096
  let kindOf := fun n => ((ts.find? (fun x => x.tile == n)).map (fun x => x.kind)).getD 0
  match code / 4096 with
  | 0 => i == 0
  | 1 => kindOf (i / 2) != 0 && kindOf (i / 2) != 4
  | 2 => decide (i ≤ 19)
  | 3 => decide (i ≤ 31)
  | 4 => decide (i ≤ 9) || (decide (0x40 ≤ i ∧ i ≤ 0xAF ∧ i % 16 < 12)) ||
      (decide (0xC0 ≤ i ∧ i ≤ 0xEF ∧ i % 16 < 12) && decide (2 ≤ convType c (i % 16)))
  | 5 => decide (1 ≤ i / 32 ∧ i / 32 ≤ 20 ∧ 1 ≤ i % 32 ∧ i % 32 ≤ 20)
  | 6 => decide (i ≤ 19)
  | 7 => kindOf (i / 8) == 4
  | _ => false

def tileSourcesOk (c : List Byte) (ts : List ImgTile) (i : Nat) : Bool := match ts[i]? with
  | none => false
  | some x => x.ins.all (sourceOk c ts) && (x.kind != 6 || sourceOk c ts (x.params.getD 3 0))

/-- R278: the loop tiles of group `g`. -/
def loopTiles (c : List Byte) (g : Nat) : List Nat :=
  byteAt c (32 * g + 16) :: (List.range (byteAt c (32 * g + 2))).map (fun k => byteAt c (32 * g + 17) + k)

def loopOk (c : List Byte) (ts : List ImgTile) (g : Nat) : Bool :=
  convType c g == 0 ||
  ((loopTiles c g).all (fun n => match ts.find? (fun x => x.tile == n) with
      | some x => (x.kind == 1 || x.kind == 2 || x.kind == 5) && x.domain == 1 && x.dsel == g
      | none => false) &&
   decide (byteAt c (32 * g + 16) < byteAt c (32 * g + 17)) &&
   (List.range g).all (fun k => convType c k == 0 || (loopTiles c k).all (fun n => !(loopTiles c g).contains n)))

def fsmOk (c f : List Byte) (ts : List ImgTile) (i : Nat) : Bool :=
  let r := (f.drop (1252 * i)).take 1252
  (ts.any (fun x => x.tile == byteAt r 0 && x.kind == 4)) && !(List.range i).any (fun k => byteAt f (1252 * k) == byteAt r 0) &&
  decide (byteAt r 1 ≤ 63) && zeros r 2 2 && (List.range 16).all (fun k => sourceOk c ts (u16At r (4 + 2 * k))) &&
  u16At r 34 == 0 && (r.drop 228).all (fun x => decide (x.toNat < 128))

/-- R83: one FSM record per FSM tile, so the length of FSM follows from TILES (R72). -/
def tilesChecks (b : List Byte) (t : List SecEntry) : List Chk :=
  let p := secBytes b t 7
  let c := secBytes b t 3
  let f := secBytes b t 8
  let n := u16At b 0x10
  let ts := imgTiles p
  let si := secIndex t 7
  chk (decide (n ≤ 64 ∧ p.length = 208 * n)) badContent si 0 ::
  chks ts.length badContent si (tileOk c ts) ++ chks ts.length badContent si (tileSourcesOk c ts) ++
  chks 12 badContent (secIndex t 3) (loopOk c ts) ++
  [chk (f.length == 1252 * (ts.filter (fun x => x.kind == 4)).length) badContent (secIndex t 8) 0] ++
  chks (f.length / 1252) badContent (secIndex t 8) (fsmOk c f ts)

/-! ### SEQUENCE (R80, R81, R385, R396) -/

/-- The supervision record of a rail that a step checks: records 0 to 7, then SV0 to SV23. -/
def checkedRec (r : Nat) : Option Nat :=
  if r ≤ 7 then some r else if 0x40 ≤ r ∧ r ≤ 0x57 then some (r - 0x40 + 8) else none

def stepOk (q : List Byte) (u n i : Nat) : Bool :=
  let o := 4 + 8 * i
  let target := byteAt q o
  let rail := byteAt q (o + 1)
  let thr := u16At q (o + 6)
  let sup := fun k => 4 + 8 * n + 8 * k
  decide (target ≤ 7 ∨ (0x10 ≤ target ∧ target ≤ 0x23)) && (decide (u ≤ i) || thr == 0) &&
  (rail == 255 || match checkedRec rail with
    | none => false
    | some k => u16At q (sup k + 2) != 0 && (decide (i < u) || thr != 0) && u16At q (o + 2) != 0)

def rising : List Nat → Bool
  | a :: b :: r => decide (a < b) && rising (b :: r)
  | _ => true

def supOk (q : List Byte) (n k : Nat) : Bool :=
  rising (((List.range 4).map (fun j => u16At q (4 + 8 * n + 8 * k + 2 * j))).filter (fun v => v != 0))

def setPointOk (q : List Byte) (u n k : Nat) : Bool :=
  let o := 4 + 8 * n + 256 + 4 * k
  let mv := u16At q o
  let ups := ((List.range u).filter (fun i => byteAt q (4 + 8 * i) == k)).length
  let top := if k < 4 then 5500 else 3600
  match u16At q (o + 2) with
  | 0 => ups == 0
  | 1 => ups == 1 && decide (600 ≤ mv ∧ mv ≤ top ∧ mv % 5 = 0)
  | _ => false

/-- SEQUENCE's entries: the steps, then the 32 supervision records, then the 8 set-points. -/
def sequenceChecks (b : List Byte) (t : List SecEntry) : List Chk :=
  let q := secBytes b t 6
  let u := u16At q 0
  let n := u + u16At q 2
  let si := secIndex t 6
  let fits := decide (u ≤ 48 ∧ u16At q 2 ≤ 48 ∧ q.length = 292 + 8 * n)
  chk fits badContent si 0 ::
  (if fits then chks (n + 40) badContent si (fun i =>
    if i < n then stepOk q u n i else if i < n + 32 then supOk q n (i - n) else setPointOk q u n (i - n - 32)) else [])

/-! ### CANFMT, CURVES, PROFILE (R327 to R330, R341, R342, R84, R85) -/

def quantities : List Nat := [0x01, 0x02, 0x03, 0x04, 0x05, 0x06, 0x07, 0x08, 0x10, 0x11, 0x18, 0x20, 0x21]

/-- R330: the last byte that the copies of a field reach. -/
def lastByte (f : List Byte) : Nat :=
  let bits := byteAt f 2 * (byteAt f 3 / 16 + 1)
  if bitOf (byteAt f 3) 1 then advanceBig (bits - 1) (u16At f 0) / 8 else (u16At f 0 + bits - 1) / 8

def fieldOk (minlen : Nat) (f : List Byte) : Bool :=
  decide (u16At f 0 ≤ 511 ∧ 1 ≤ byteAt f 2 ∧ byteAt f 2 ≤ 32 ∧ byteAt f 3 / 4 % 4 = 0 ∧ byteAt f 11 ≤ 31) &&
  quantities.contains (fldQty f) && decide (byteAt f 3 / 16 = 0 ∨ fldQty f = 1) && decide (lastByte f < minlen)

def fmtOk (e : List Byte) : Bool :=
  let fs := fmtFields e
  let nf := byteAt e 13
  let zeroOr := fun v lo => decide (v = 0 ∨ (lo ≤ v ∧ v ≤ 60000))
  decide (u32At e 0 < 2 ^ 31 ∧ u32At e 4 < 2 ^ 31 ∧ 1 ≤ byteAt e 8 ∧ byteAt e 8 ≤ 3 ∧ byteAt e 9 ≤ 2 ∧ byteAt e 10 ≤ 127 ∧
    byteAt e 11 ≤ 28 ∧ 1 ≤ nf ∧ nf ≤ 8) &&
  zeroOr (u16At e 14) 50 && decide (byteAt e 16 ≤ 7 ∨ byteAt e 16 = 255) && decide (byteAt e 17 ≤ 64) &&
  zeroOr (u16At e 18) 10 && decide (u32At e 20 < 2 ^ 30 ∧ byteAt e 24 ≤ 4) && zeros e 25 3 &&
  fs.all (fieldOk (byteAt e 17)) && zeros e (32 + 12 * nf) (96 - 12 * nf) &&
  (fs.any (fun f => fldQty f == 0x20) == (byteAt e 9 == 2)) &&
  decide ((fs.filter (fun f => fldQty f == 0x21)).length ≤ 1)

def canfmtChecks (b : List Byte) (t : List SecEntry) : List Chk :=
  let p := secBytes b t 9
  if !t.any (fun e => e.ty == 9) then []
  else
    let n := u32At p 0
    let fits := decide (8 ≤ p.length ∧ n ≤ 64 ∧ u32At p 4 = 128 ∧ p.length = 8 + 128 * n)
    chk fits badContent (secIndex t 9) 0 ::
    (if fits then chks n badContent (secIndex t 9) (fun i => fmtOk ((p.drop (8 + 128 * i)).take 128)) else [])

def curveOk (p : List Byte) (i : Nat) : Bool :=
  let c := (p.drop (8 + 528 * i)).take 528
  let temp := fun k => toSigned 8 (byteAt c (12 + k))
  decide (byteAt c 0 ≤ 15) && byteAt c 1 == 0 && u16At c 2 != 0 &&
  !(List.range i).any (fun k => byteAt p (8 + 528 * k) == byteAt c 0) &&
  rising [u16At c 4, u16At c 6, u16At c 8, u16At c 10] && decide (temp 0 < temp 1 ∧ temp 1 < temp 2 ∧ temp 2 < temp 3) &&
  (List.range 4).all (fun k => rising ((List.range 64).map (fun j => u16At c (16 + 128 * k + 2 * j))))

def curvesChecks (b : List Byte) (t : List SecEntry) : List Chk :=
  let p := secBytes b t 10
  let o := secBytes b t 2
  let n := u32At p 0
  let fits := decide (8 ≤ p.length ∧ n ≤ 16 ∧ u32At p 4 = 528 ∧ p.length = 8 + 528 * n)
  (if t.any (fun e => e.ty == 10) then
    chk fits badContent (secIndex t 10) 0 :: (if fits then chks n badContent (secIndex t 10) (curveOk p) else []) else []) ++
  (List.range 128).map (fun m =>
    chk (byteAt o (164 + 4 * m) == 0 ||
      (fits && (List.range n).any (fun k => byteAt p (8 + 528 * k) == byteAt o (165 + 4 * m))))
      badContent (secIndex t 2) (12 + m))

def profileChecks (b : List Byte) (t : List SecEntry) : List Chk :=
  let p := secBytes b t 11
  [chk (decide (byteAt p 0 ≤ 3) && zeros p 1 3) badContent (secIndex t 11) 0]

/-! ### The whole of R93 -/

/-- The checks stop at the first failure, and each group relies on those before it. -/
def verifyImage (s : State) (b : List Byte) : Option Finding :=
  if !headerOk b then some ⟨badHeader, 0, 0, false⟩
  else
    let t := imgTable b
    (firstFail (tableChecks b t)).orElse fun _ =>
    (firstFail (crcChecks b t)).orElse fun _ =>
    (firstFail (keyChecks s b t)).orElse fun _ =>
    (firstFail (pinmapChecks b t)).orElse fun _ =>
    (firstFail (topologyChecks b t ++ converterChecks b t ++ meterChecks b t ++ feedsChecks b t)).orElse fun _ =>
    firstFail (tilesChecks b t ++ sequenceChecks b t ++ canfmtChecks b t ++ curvesChecks b t ++ profileChecks b t)

/-- A verified image as the device holds it. -/
def parseImage (b : List Byte) : Image :=
  ⟨u32At b 0x18, u16At b 4, u16At b 6, u16At b 0x10,
   ((imgTable b).filter (fun e => knownSec e.ty)).map (fun e => (e.ty, entryBytes b e))⟩

/-! ### Slots (R88) -/

abbrev slotCommit : Nat := 0x5A3C96E1
/-- Offsets of image slot 0 (A) or 1 (B) and of its record. -/
def slotAt (k : Nat) : Nat := 0x280000 + 0x40000 * k
def slotRec (k : Nat) : Nat := 0x740080 + 0x40 * k
abbrev slotSize : Nat := 0x40000

/-- R88, R519: a record's content is valid for the bytes it describes. -/
def State.recordOk (s : State) (rec base size commit : Nat) : Bool :=
  let r := s.mramBytes rec 48
  let len := u32At r 4
  u32At r 44 == commit && u32At r 40 == crc32 (r.take 40) && decide (1 ≤ u32At r 0 ∧ len ≤ size) &&
  sha256 (s.mramBytes base len) == (r.drop 8).take 32

def State.slotValid (s : State) (k : Nat) : Bool := s.recordOk (slotRec k) (slotAt k) slotSize slotCommit
def State.slotSeq (s : State) (k : Nat) : Nat := if s.slotValid k then (s.mramWord (slotRec k)).toNat else 0

/-- The bytes of an operation's source: 0 slot A, 1 slot B, else the host scratch region; none for an invalid slot. -/
def State.imageSource (s : State) (src : Nat) : Option (List Byte) :=
  if src ≤ 1 then
    if s.slotValid src then some (s.mramBytes (slotAt src) (s.mramWord (slotRec src + 4)).toNat) else none
  else
    let n := (s.sramWord (0xFC0000 + 12)).toNat
    some (s.sramBytes 0xFC0000 (if 1628 ≤ n ∧ n ≤ slotSize then n else 64))

/-- Verify a source: the image, or what the failure records. -/
def checkSource (src : Nat) (s : State) : Finding ⊕ List Byte :=
  match s.imageSource src with
  | none => .inl ⟨slotInvalid, 0, 0, false⟩
  | some b => match verifyImage s b with
    | some f => .inl f
    | none => .inr b

end Sys2Proof.Machine
end

