-- ==== Sys2Proof/Machine/Ledger.lean ====
section
/-!
DEFINITION. The energy ledger (chapter 05): intervals, closes, records, totals and delivery.
-/
namespace Sys2Proof.Machine

/-! ### Keys (R187, R507) -/

/-- k_dev: words 0x100 to 0x107 of the OTP array as a byte string. -/
def State.kDev (s : State) : List Byte := (List.range 8).flatMap (fun i => leBytes 4 (s.otpWord (0x100 + i)).toNat)

def State.uidBytes (s : State) : List Byte :=
  leBytes 4 (s.rd (Reg.ID_UID 0)).toNat ++ leBytes 4 (s.rd (Reg.ID_UID 1)).toNat

/-- k_lc: the verification key of contract `c`. -/
def State.kLc (s : State) (c : Nat) : List Byte :=
  hmac256 (hmac256 s.kDev (ascii "AXL7600-LDG" ++ s.uidBytes)) (ascii "LC" ++ leBytes 1 c)

/-- The tag of the first 112 bytes of a record. -/
def State.ldgTag (s : State) (c : Nat) (b : List Byte) : List Byte := (hmac256 (s.kLc c) (b.take 112)).take 16

/-! ### Totals in MRAM (R189 to R191) -/

abbrev ldgSlots : Nat := 8000
def ldgSlotAt (i : Nat) : Nat := 0x300000 + 128 * i
def totalsAt (k : Nat) : Nat := 0x3FA000 + 0x400 * k

def State.totalsValid (s : State) (k : Nat) : Bool :=
  s.mramWord (totalsAt k + 0x354) == 0x6B1D2E87 &&
  (s.mramWord (totalsAt k + 0x350)).toNat == crc32 (s.mramBytes (totalsAt k) 0x350)

def State.gseq (s : State) (k : Nat) : Nat := if s.totalsValid k then (s.mramWord (totalsAt k)).toNat else 0

/-- The valid totals slot with the higher GSEQ. -/
def State.totalsBest (s : State) : Option Nat :=
  if s.gseq 0 = 0 ∧ s.gseq 1 = 0 then none else if s.gseq 0 < s.gseq 1 then some 1 else some 0

/-- The eight words of a contract's totals lie from its EIN_LO register on, those of a string likewise (R196). -/
def lcTotals (c : Nat) : Nat := Reg.LDG_LC_EIN_LO c
def strTotals (n : Nat) : Nat := Reg.LDG_S_EIN_LO n

def State.regBytes (s : State) (a n : Nat) : List Byte := (List.range n).flatMap (fun i => leBytes 4 (s.rd (a + 4 * i)).toNat)

/-- The payload of a totals slot (R189). -/
def totalsPayload (g : Nat) (s : State) : List Byte :=
  leBytes 4 g ++ leBytes 4 (s.fg Fld.LDG_RING_NEXT) ++ leBytes 4 (s.rd Reg.LDG_ASSIGN).toNat ++
  leBytes 4 (s.rd Reg.CMB_IMG_SERIAL).toNat ++ (List.range 16).flatMap (fun c => s.regBytes (Reg.LDG_LC_SEQ c) 1) ++
  (List.range 16).flatMap (fun c => s.regBytes (lcTotals c) 8) ++ (List.range 8).flatMap (fun n => s.regBytes (strTotals n) 8)

/-- R190 step 3: payload, CRC, COMMIT into the slot that does not hold the higher valid GSEQ. -/
def totalsWords (s : State) : List (Nat × Word) :=
  let k := match s.totalsBest with | some 0 => 1 | _ => 0
  let b := totalsPayload (max (s.gseq 0) (s.gseq 1) + 1) s
  let a := totalsAt k
  byteWords a b ++ [(a + 0x350, BitVec.ofNat 32 (crc32 b)), (a + 0x354, 0x6B1D2E87)]

/-- Add `v` to a 64-bit total whose low word is at `a`. -/
def addTotal (a v : Nat) (s : State) : State := s.wr64 a (a + 4) (s.rd64 a (a + 4) + v)

/-- The values of string `n` in a record: EIN, EOUT, QIN, QOUT (R180). -/
def recordValues (b : List Byte) (n : Nat) : List Nat :=
  let o := 0x20 + 10 * n
  [u16At b o + 65536 * byteAt b (o + 2), u16At b (o + 3) + 65536 * byteAt b (o + 5), u16At b (o + 6), u16At b (o + 8)]

/-- A record joins the totals: SEQ, the contract's and the strings' totals, NEXT. -/
def sumRecord (b : List Byte) (s : State) : State :=
  let c := byteAt b 1
  let s := s.wr (Reg.LDG_LC_SEQ c) (BitVec.ofNat 32 (u32At b 4))
  let s := (List.range 8).foldl (fun s n =>
    let v := recordValues b n
    (List.range 4).foldl (fun s k =>
      addTotal (strTotals n + 8 * k) (v.getD k 0) (addTotal (lcTotals c + 8 * k) (v.getD k 0) s)) s) s
  s.fs Fld.LDG_RING_NEXT ((s.fg Fld.LDG_RING_NEXT + 1) % ldgSlots)

/-! ### Intervals (R172 to R179) -/

/-- The accumulators of string `n`: EIN, EOUT, QIN, QOUT (R160). -/
def State.accOf (s : State) (n k : Nat) : Nat :=
  match k with
  | 0 => s.rd64 (Reg.MTR_SET_EIN_LO n) (Reg.MTR_SET_EIN_HI n)
  | 1 => s.rd64 (Reg.MTR_SET_EOUT_LO n) (Reg.MTR_SET_EOUT_HI n)
  | 2 => s.rd64 (Reg.MTR_SET_QIN_LO n) (Reg.MTR_SET_QIN_HI n)
  | _ => s.rd64 (Reg.MTR_SET_QOUT_LO n) (Reg.MTR_SET_QOUT_HI n)

def State.accNow (s : State) : KV Nat :=
  (List.range 32).foldl (fun m i => kvSet (fun _ => 0) m i (s.accOf (i / 4) (i % 4))) []

/-- R174: the length of an interval, s. -/
def ivlLength (v : Nat) : Nat := match v with | 0 => 60 | 1 => 300 | 2 => 600 | 3 => 900 | 4 => 1800 | _ => 3600

/-- R179: the contracts that hold a string in use. -/
def State.ldgContracts (s : State) : List Nat := (List.range 16).filter (fun c => !(s.contractStrs c).isEmpty)

/-- R178, R193: the next `k` slots of the ring hold no pending record. -/
def State.ringFree (s : State) (k : Nat) : Bool :=
  (List.range k).all (fun i => !s.ldg.pend.any (fun p => p.1 == (s.fg Fld.LDG_RING_NEXT + i) % ldgSlots))

/-- R182: value, carry and whether the value was limited. -/
def recordValue (unit max' d carry : Nat) : Nat × Nat × Bool :=
  let x := d + carry
  let v := min max' (x / unit)
  (v, x - v * unit, decide (max' < x / unit))

/-- R182 for quantity `k` of string `n`. -/
def State.ldgValue (s : State) (n k : Nat) : Nat × Nat × Bool :=
  let i := 4 * n + k
  let d := (s.accOf n k + 2 ^ 64 - kvGet (fun _ => 0) s.ldg.opened i) % 2 ^ 64
  recordValue (if k < 2 then 10000 else 100000) (if k < 2 then 16777215 else 65535) d (kvGet (fun _ => 0) s.ldg.carry i)

/-- R183: whole milliseconds of a class, at most 0xFFFF_FFFF. -/
def State.ldgDur (s : State) (c k : Nat) : Nat := min 0xFFFFFFFF (kvGet (fun _ => 0) s.ldg.dur (4 * c + k) / 8192)

/-- R180, R181: the record of one contract, tagged. -/
def formRecord (early tstep : Bool) (c : Nat) (s : State) : List Byte :=
  let strs := s.contractStrs c
  let smask := maskOf 8 strs.contains
  let prev := kvGet (fun _ => 0) s.ldg.prevMask c
  let sat := strs.any (fun n => (List.range 4).any (fun k => (s.ldgValue n k).2.2))
  let trust := !s.ldg.osf && !s.fb Fld.RTC_STAT_OSF && !s.ldg.tset && !tstep
  let flags := boolNat trust + 2 * boolNat (prev == 0) + 4 * boolNat early + 8 * boolNat sat +
    16 * boolNat (prev != 0 && prev != smask) + 32 * boolNat s.ldg.deferred + 64 * boolNat tstep
  let b := leBytes 1 1 ++ leBytes 1 c ++ leBytes 1 smask ++ leBytes 1 flags ++
    leBytes 4 ((s.rd (Reg.LDG_LC_SEQ c)).toNat + 1) ++ leBytes 4 s.ldg.start ++ leBytes 4 s.epoch ++
    (List.range 4).flatMap (fun k => leBytes 4 (s.ldgDur c k)) ++
    (List.range 8).flatMap (fun n =>
      if strs.contains n then
        leBytes 3 (s.ldgValue n 0).1 ++ leBytes 3 (s.ldgValue n 1).1 ++ leBytes 2 (s.ldgValue n 2).1 ++
          leBytes 2 (s.ldgValue n 3).1
      else List.replicate 10 0)
  b ++ s.ldgTag c b

/-- What the ledger shows of its pending records (R193). -/
def ldgStat (s : State) : State :=
  let s := s.fs Fld.LDG_STAT_PENDING s.ldg.pend.length
  s.fs Fld.LDG_RING_OLDEST (match s.ldg.pend with | p :: _ => p.1 | [] => s.fg Fld.LDG_RING_NEXT)

/-- R172, R223: an accepted assignment applies at the close. -/
def assignApply (s : State) : State :=
  if s.cpend .ldgAssign then
    contractLeft s.contractOf ((s.applyStaged .ldgAssign).setCommits (s.commits.filter (fun x => !(x == Group.ldgAssign))))
  else s

/-- The next interval opens (R176, R184). -/
def intervalOpen (s : State) : State :=
  s.setLdg { s.ldg with opened := s.accNow, start := s.now, osf := s.fb Fld.RTC_STAT_OSF, tset := false, deferred := false }

/-- R195 steps 1 and 2, R178: every contract closes, or none does. -/
def ledgerClose (early tstep : Bool) (s : State) : State :=
  if !s.fb Fld.LDG_STAT_RUN ∨ s.powerState = 0 then s
  else if s.fb Fld.LDG_STAT_CLOSING then s.setLdg { s.ldg with late := s.ldg.late ++ [(early, tstep)] }
  else
    let cs := s.ldgContracts
    if !s.ringFree cs.length then
      (s.fs Fld.LDG_STAT_DEFER 1).setLdg { s.ldg with deferred := true, tset := s.ldg.tset || tstep }
    else
      let recs := cs.map (fun c => (formRecord early tstep c s,
        if bitOf (s.fg Fld.LDG_DELIV_EN) c then some (fldOf (s.rd Reg.LDG_ROUTE) (2 * c) 2) else none))
      let carry := (cs.flatMap s.contractStrs).foldl (fun m n =>
        (List.range 4).foldl (fun m k => kvSet (fun _ => 0) m (4 * n + k) (s.ldgValue n k).2.1) m) s.ldg.carry
      let dur := (cs.flatMap (fun c => (List.range 4).map (4 * c + ·))).foldl (fun m i =>
        kvSet (fun _ => 0) m i (kvGet (fun _ => 0) m i % 8192)) s.ldg.dur
      let masks := cs.foldl (fun m c => kvSet (fun _ => 0) m c (maskOf 8 (s.contractStrs c).contains)) s.ldg.prevMask
      let s := s.setLdg { s.ldg with formed := recs, carry := carry, dur := dur, prevMask := masks }
      let s := if recs.isEmpty then s else s.fs Fld.LDG_STAT_CLOSING 1
      intervalOpen (assignApply s)

/-- R175: a regular boundary; a new IVL applies at it. -/
def ledgerBoundary (s : State) : State :=
  if s.rtc.sec % ivlLength s.ldg.ivl ≠ 0 then s
  else ledgerClose false false (s.setLdg { s.ldg with ivl := s.fg Fld.LDG_CFG_IVL })

/-- R176: the instant of a CLOSE: the next strobe, or in WATCH the next ACLK edge, cycle `sub` of the second. -/
def ledgerEarly (sub : Nat) (s : State) : State :=
  if s.ldg.closeReq then
    let s := if s.fullRate then s else aclkTo sub s
    ledgerClose true false (s.setLdg { s.ldg with closeReq := false })
  else s

def closeRequest (s : State) : State := if s.fb Fld.LDG_STAT_RUN then s.setLdg { s.ldg with closeReq := true } else s

/-- R195: the boundaries that fell while a close was at step 3, until one of them closes. -/
def lateClose : List (Bool × Bool) → State → State
  | [], s => s.setLdg { s.ldg with late := [] }
  | (e, t) :: r, s =>
    let s := ledgerClose e t (s.setLdg { s.ldg with late := r })
    if s.fb Fld.LDG_STAT_CLOSING then s else lateClose r s

/-- R190: the record and its tag, then the totals with it. -/
def recordWords (b : List Byte) (s : State) : List (Nat × Word) :=
  byteWords (ldgSlotAt (s.fg Fld.LDG_RING_NEXT)) b ++ totalsWords (sumRecord b s)

/-- R195 steps 3 and 4 for a record whose words have been written; EV140 and the boundaries that waited after the last. -/
def recordDone (s : State) : State :=
  match s.ldg.formed with
  | [] => s
  | (b, q) :: rest =>
    let slot := s.fg Fld.LDG_RING_NEXT
    let s := sumRecord b s
    let pend := match q with | some q => s.ldg.pend ++ [(slot, q)] | none => s.ldg.pend
    let full := match q with | some q => s.qEnabled (56 + q) && s.qRoom (56 + q) == 0 | none => false
    let s := s.setLdg { s.ldg with formed := rest, pend := pend }
    let s := if full then s.fs (Fld.SYS_Q_STAT_OVF (56 + q.getD 0)) 1 else s
    let s := ldgStat s
    if !rest.isEmpty then s
    else
      let s := (s.fs Fld.LDG_STAT_CLOSING 0).raise 140
      lateClose s.ldg.late s

/-- R190, R195 step 3: the oldest record that is formed goes to MRAM. -/
def recordWritten (s : State) : State :=
  match s.ldg.formed with
  | [] => s
  | (b, _) :: _ => nvRun wLedger (fun s => nvIssue wLedger (recordWords b s) s) recordDone s

/-- R193: the oldest pending record of report queue `q`, once it is enabled and has room. -/
def lqDelivery (q : Nat) (s : State) : State :=
  match s.ldg.pend.find? (fun p => p.2 == q) with
  | none => s
  | some p =>
    if !s.qEnabled (56 + q) then s
    else if s.qRoom (56 + q) = 0 then s.fs (Fld.SYS_Q_STAT_OVF (56 + q)) 1
    else
      let s := qPush (56 + q) (s.mramBytes (ldgSlotAt p.1) 128) s
      ldgStat (s.setLdg { s.ldg with pend := s.ldg.pend.erase p })

/-- R161: the meter's accumulators return to zero; what an open interval has counted stays counted. -/
def accRestart (s : State) : State :=
  let o := (List.range 32).foldl (fun m i => kvSet (fun _ => 0) m i
    ((kvGet (fun _ => 0) s.ldg.opened i + 2 ^ 64 - s.accOf (i / 4) (i % 4)) % 2 ^ 64)) []
  let s := s.setLdg { s.ldg with opened := o }
  (List.range 10).foldl (fun s a => (List.range 8).foldl (fun s k => s.wr (Reg.MTR_SET_QIN_LO a + 4 * k) 0) s) s

/-! ### Ledger start (R173, R191) -/

/-- The totals and the ring position of a totals slot, into the registers. -/
def restoreTotals (k : Nat) (s : State) : State :=
  let a := totalsAt k
  let s := s.fs Fld.LDG_RING_NEXT (s.mramWord (a + 4)).toNat
  let s := (List.range 16).foldl (fun s c => s.wr (Reg.LDG_LC_SEQ c) (s.mramWord (a + 0x10 + 4 * c))) s
  let s := (List.range 16).foldl (fun s c => (List.range 8).foldl (fun s i =>
    s.wr (lcTotals c + 4 * i) (s.mramWord (a + 0x50 + 32 * c + 4 * i))) s) s
  (List.range 8).foldl (fun s n => (List.range 8).foldl (fun s i =>
    s.wr (strTotals n + 4 * i) (s.mramWord (a + 0x250 + 32 * n + 4 * i))) s) s

def clearTotals (s : State) : State :=
  let s := s.fs Fld.LDG_RING_NEXT 0
  (s.resetRegs (Reg.LDG_LC_SEQ 0) (Reg.LDG_LC_SEQ 0 + 0x400)).resetRegs (strTotals 0) (strTotals 0 + 0x100)

/-- R172: the image's contract of each string. -/
def State.imageAssign (s : State) : Nat :=
  s.strings.foldl (fun a n => a + s.strContract n % 16 * 16 ^ n) 0

/-- R191: an unsummed record in the slot NEXT is added to the totals. -/
def recoverRecord (s : State) : State :=
  let b := s.mramBytes (ldgSlotAt (s.fg Fld.LDG_RING_NEXT)) 128
  let c := byteAt b 1
  if c < 16 ∧ b.drop 112 = s.ldgTag c b ∧ u32At b 4 = (s.rd (Reg.LDG_LC_SEQ c)).toNat + 1 then
    let s := sumRecord b s
    (nvEnd wLedger (nvIssue wLedger (totalsWords s) s)).fs Fld.LDG_STAT_RECOV 1
  else s

def ledgerStart (s : State) : State :=
  if s.fb Fld.LDG_STAT_RUN ∨ s.image.isNone ∨ !s.rst.firmware then s
  else
    let best := s.totalsBest
    let s := match best with
      | some k => (restoreTotals k s).fs Fld.LDG_STAT_FRESH 0
      | none => (clearTotals s).fs Fld.LDG_STAT_FRESH 1
    let kept := match best with
      | some k => s.mramWord (totalsAt k + 12) == s.rd Reg.CMB_IMG_SERIAL
      | none => false
    let s := s.wr Reg.LDG_ASSIGN (if kept then s.mramWord (totalsAt (best.getD 0) + 8) else BitVec.ofNat 32 s.imageAssign)
    let s := recoverRecord s
    let s := s.setLdg { s.ldg with
      ivl := s.fg Fld.LDG_CFG_IVL, carry := [], dur := [], prevMask := [], formed := [], pend := [], late := [], closeReq := false }
    ldgStat (intervalOpen (s.fs Fld.LDG_STAT_RUN 1))

/-! ### Host controls -/

/-- LDG_CTL (R64, R176): COMMIT with ABORT is refused; CLOSE asks for a closing instant. -/
def ldgCtl (commit abort close : Bool) (s : State) : Nat × State :=
  if commit && abort then (stDecodeErr, s)
  else
    let r := commitAbort .ldgAssign commit abort s
    if r.1 ≠ stOk then r else (stOk, if close then closeRequest r.2 else r.2)

/-- R417: a LDG_CLOSE barrier. -/
def barrierLdgClose (s : State) : State :=
  match s.due 5 with
  | none => s
  | some b => hostBarrier b closeRequest (executed b s)

/-! ### Commands -/

def execLedgerBoundary (s : State) : Host.Outcome State Fault Refusal := done s (ledgerBoundary s)

def execLedgerEarlyClose (sub : Nat) (s : State) : Host.Outcome State Fault Refusal := done s (ledgerEarly sub s)

def execLedgerCloseRequest (p : Port) (s : State) : Host.Outcome State Fault Refusal :=
  done s (asWrite p Reg.LDG_CTL (ldgCtl false false true) s)

def execAssignCommit (p : Port) (s : State) : Host.Outcome State Fault Refusal :=
  done s (asWrite p Reg.LDG_CTL (ldgCtl true false false) s)

def execAssignAbort (p : Port) (s : State) : Host.Outcome State Fault Refusal :=
  done s (asWrite p Reg.LDG_CTL (ldgCtl false true false) s)

def execLedgerRecordWritten (s : State) : Host.Outcome State Fault Refusal := done s (recordWritten s)

def execLqDelivery (q : Fin 4) (s : State) : Host.Outcome State Fault Refusal := done s (lqDelivery q s)

def execLedgerStart (s : State) : Host.Outcome State Fault Refusal := done s (ledgerStart s)

def execBarrierLdgClose (s : State) : Host.Outcome State Fault Refusal := done s (barrierLdgClose s)

end Sys2Proof.Machine
end

