-- ==== Sys2Proof/Machine/Charge.lean ====
section
/-!
DEFINITION. Solar charging (chapter 09): PV groups, maximum power point tracking, charge limits, episodes and losses.
Voltages in V, currents in A, powers in W.
-/
namespace Sys2Proof.Machine

def State.setChgS (s : State) (n : Nat) (v : ChgS) : State :=
  s.setChg { s.chg with strs := kvSet (fun _ => chgS0) s.chg.strs n v }

/-! ### PV groups (R301 to R307) -/

abbrev pvOff : Nat := 0
abbrev pvWait : Nat := 1
abbrev pvTrack : Nat := 2
abbrev pvLimit : Nat := 3
abbrev pvScan : Nat := 4

def State.pvState (s : State) (g : Nat) : Nat := s.fg (Fld.CHG_CG_STAT_STATE g)
def State.onBus (s : State) (g : Nat) : Bool := s.grpTarget g == 0xFF

/-- Power of a CHARGE_PV order planned on a string in the current slot, W. -/
def State.pvPlan (s : State) (n : Nat) : Rat :=
  (s.ord.orders.filter (fun o => o.state == 4 && o.ty == tyChargePv && o.ending.isNone)).foldl (fun a o =>
    o.plan.foldl (fun a x => if x.str == n && x.first ≤ s.curSlot && s.curSlot < x.stop then a + x.power else a) a) 0

/-- The strings that PV groups on the bus serve. -/
def State.busServed (s : State) : List Nat := s.strings.filter (fun n => (s.pvDirect n).isNone && decide (0 < s.pvPlan n))

/-- R301: demand of a PV group. -/
def State.pvDemand (s : State) (g : Nat) : Bool :=
  if s.onBus g then s.fb Fld.CHG_CTL_BUSFEED || !s.busServed.isEmpty else decide (0 < s.pvPlan (s.grpTarget g))

/-- The group's PV current rating, A (R307). -/
def State.pvRating (s : State) (g : Nat) : Rat := (s.grpPhases g * s.grpPhRating g : Nat) / 1000

/-- R302, R306: the PV power that set 9 metered over the previous control period, W. -/
def State.pvPower (s : State) : Rat := s.chg.pvW

/-- The meter's part of a control period of 1 ms for the PV groups: the power of set 9, and MC18 for the mean of R305. -/
def pvMeter (s : State) : State :=
  let e := s.netFine 9
  let w := match s.chg.pvNet with
    | some e0 => (e - e0) * 360
    | none => 0
  s.setChg { s.chg with
    pvNet := some e, pvW := w, hist := ((s.mtr.pv.v, s.mtr.pv.n) :: s.chg.hist).take 101 }

/-- R305: the mean of MC18 over the last 100 ms, V. -/
def State.vocMean (s : State) : Rat :=
  match s.chg.hist.head?, s.chg.hist.getLast? with
  | some a, some b => if a.2 ≤ b.2 then s.volts 18 else (a.1 - b.1) / (a.2 - b.2 : Nat)
  | _, _ => s.volts 18

/-- R309, R310: the means of MC18, MC19 and of their product over the strobes between two totals; the latest sample where
there is no strobe between them. -/
def State.pvMeans (s : State) (a b : PvSums) : Rat × Rat × Rat :=
  if b.n ≤ a.n then (s.volts 18, s.amps 19, s.volts 18 * s.amps 19)
  else
    let n : Rat := ((b.n - a.n : Nat) : Rat)
    ((b.v - a.v) / n, (b.i - a.i) / n, (b.p - a.p) / n)

/-- R304: the image gives PV its channels; without them PV is absent (DEDUCED, log entry 30). -/
def State.pvPresent (s : State) : Bool := s.chUsed 18 && s.chUsed 19

def setPv (g st : Nat) (s : State) : State := s.fs (Fld.CHG_CG_STAT_STATE g) st

/-- R308: vref in MC18's scale, as MPPV. -/
def setVref (g : Nat) (v : Rat) (s : State) : State :=
  let s := s.setChgG g { s.chgG g with vref := v }
  let s := s.pubSet (0x0C0 + g) (clampI (ratRound (openDiv v (s.voltFs 18) * 1073741824)) q30Min q30Max)
  s.fs (Fld.CHG_CG_STAT_VREF g) (u16Of (10 * v))

/-- R305: a group that has waited with MC18 above VSTART for 10 s starts in CHARGE, with the mean of MC18 over 100 ms as
VOC (0.1 V). -/
def pvStart (g : Nat) (s : State) : State :=
  let vmin := s.fg (Fld.CHG_CG_VWIN_VMIN g)
  let vstart := s.fg (Fld.CHG_CG_VWIN_VSTART g)
  if !s.isPv g ∨ s.pvState g ≠ pvWait ∨ vstart = 0 ∨ vstart ≤ vmin ∨ s.mode g ≠ modeOff ∨ (s.chgG g).upMs < 10000 ∨
    bitOf (s.fg Fld.CHG_PVFLT_OUT_OV) g ∨ bitOf (s.fg Fld.CHG_PVFLT_PV_REV) g then s
  else
    let v := s.vocMean
    let s := groupStart g modeCharge (s.fs (Fld.CHG_CG_VOC_VOC g) (u16Of (10 * v)))
    if s.mode g ≠ modeCharge then s
    else
      setVref g (95 / 100 * v) (setPv g pvTrack (s.setChgG g { chgG0 with
        voc := v, vPrev := v, clamp := (s.chgG g).clamp, base := s.mtr.pv }))

/-- The group leaves tracking by R283 and returns to WAIT, or to OFF without demand (R304). -/
def pvStop (g : Nat) (s : State) : State :=
  if !s.isPv g ∨ s.pvState g < pvTrack then s
  else setPv g (if s.pvDemand g then pvWait else pvOff) (groupStop g (s.setChgG g { s.chgG g with scan := none, scanAge := none }))

/-- R306: the demand of a running group has ended, or its power has stayed below 1 % of its rating for 60 s. -/
def pvStopDue (g : Nat) (s : State) : State :=
  if !s.pvDemand g || decide (60000 ≤ (s.chgG g).lowMs) then pvStop g s else s

/-- R321: a latched fault drives the CHG error line and raises EV160. -/
def latchChg (f : Fld) (bit : Nat) (s : State) : State :=
  let s := if bitOf (s.fg f) bit then s else s.raise 160
  (s.fs f (setBit (s.fg f) bit true)).driveLine 19

/-- R307: OUT_OV, two periods above, or PV_REV, 10 ms below, stops a running group without ramp. -/
def pvFault (g : Nat) (rev : Bool) (s : State) : State :=
  let x := s.chgG g
  if !s.isPv g ∨ s.mode g = modeOff ∨ !(if rev then decide (10 ≤ x.revMs) else decide (2 ≤ x.ovN)) then s
  else
    let s := groupHardStopIf g (s.setChgG g { s.chgG g with scan := none, scanAge := none })
    latchChg (if rev then Fld.CHG_PVFLT_PV_REV else Fld.CHG_PVFLT_OUT_OV) g (setPv g pvOff s)

/-! ### Tracking (R309, R310) -/

def signR (x : Rat) : Rat := if 0 < x then 1 else if x < 0 then -1 else 0

/-- R310: a full scan begins at 0.95 × VOC. -/
def scanBegin (g : Nat) (s : State) : State :=
  let x := s.chgG g
  setVref g (95 / 100 * x.voc) (setPv g pvScan (s.setChgG g { x with
    scan := some (0, none), scanAge := some 0, base := s.mtr.pv, mid := none }))

/-- R309: one step of incremental conductance with the means of MC18 and MC19. -/
def trackStep (g : Nat) (v i : Rat) (s : State) : State :=
  let x := s.chgG g
  let step := (s.fg (Fld.CHG_CG_MPPT_STEP g) : Rat) / 1000 * x.voc
  let dv := v - x.vPrev
  let di := i - x.iPrev
  let vmin : Rat := (s.fg (Fld.CHG_CG_VWIN_VMIN g) : Rat) / 10
  let limit := decide (x.vref * 101 / 100 < v)
  let vref := if limit then v
    else if |dv| < 5 / 10000 * x.voc then
      (if 2 / 1000 * s.pvRating g ≤ |di| then x.vref + signR di * step else x.vref)
    else
      let c := openDiv i v
      let gc := di / dv + c
      if 2 / 100 * c < |gc| then x.vref + signR gc * step else x.vref
  let s := s.setChgG g { x with vPrev := v, iPrev := i }
  setVref g (max vmin (min (95 / 100 * x.voc) vref)) (setPv g (if limit then pvLimit else pvTrack) s)

/-- R309, R310: every TSTEP, with the means since the last one; a scan that is due begins unless it is deferred. -/
def mpptStep (g : Nat) (s : State) : State :=
  if !s.isPv g ∨ s.mode g ≠ modeCharge ∨ (s.pvState g ≠ pvTrack ∧ s.pvState g ≠ pvLimit) then s
  else
    let x := s.chgG g
    let m := s.pvMeans x.base s.mtr.pv
    let s := s.setChgG g { x with base := s.mtr.pv }
    let due : Bool := match x.scanAge with
      | none => true
      | some a => decide (60000 * s.fg (Fld.CHG_CG_MPPT_SCANIVL g) ≤ a)
    if due && s.pvState g != pvLimit && !(s.onBus g && s.phase != phIdle) then scanBegin g s
    else trackStep g m.1 m.2.1 s

/-- The reference of step `k` of a scan, V. -/
def scanRef (voc vmin : Rat) (k : Nat) : Rat := 95 / 100 * voc - (95 / 100 * voc - vmin) * k / 63

/-- R310: a step ends; its power is the mean over the second half of the step. -/
def scanStep (g : Nat) (s : State) : State :=
  let x := s.chgG g
  match (if s.mode g = modeCharge ∧ s.pvState g = pvScan then x.scan else none) with
  | none => s
  | some (k, best) =>
    let vmin : Rat := (s.fg (Fld.CHG_CG_VWIN_VMIN g) : Rat) / 10
    let w := (s.pvMeans (x.mid.getD x.base) s.mtr.pv).2.2
    let best := match best with | some (b, v) => if b < w then (w, x.vref) else (b, v) | none => (w, x.vref)
    let x' := { x with base := s.mtr.pv, mid := none }
    if k < 63 then setVref g (scanRef x.voc vmin (k + 1)) (s.setChgG g { x' with scan := some (k + 1, some best) })
    else
      let s := (s.setChgG g { x' with scan := none }).raise 162
      (setVref g best.2 (setPv g pvTrack s)).fs (Fld.CHG_CG_VOC_LASTMPP g) (u16Of (10 * best.2))

/-! ### Charge limits and episodes (R311 to R317) -/

abbrev epIdle : Nat := 0
abbrev epCc : Nat := 1
abbrev epCv : Nat := 2
abbrev epFull : Nat := 3

def State.chgPhase (s : State) (n : Nat) : Nat := s.fg (Fld.CHG_S_STAT_PHASE n)
def State.inEpisode (s : State) (n : Nat) : Bool := s.chgPhase n == epCc || s.chgPhase n == epCv

/-- The highest cell of a string, mV (R340). -/
def State.strHighCell (s : State) (n : Nat) : Nat := (s.strMods n).foldl (fun a m => max a (s.fg (Fld.EST_M_CELL_HIGH m))) 0

/-- Power planned into a string in the current slot, W. -/
def State.plannedIn (s : State) (n : Nat) : Rat :=
  (s.ord.orders.filter (fun o => o.state == 4 && o.ending.isNone)).foldl (fun a o =>
    o.plan.foldl (fun a x => if x.str == n && x.first ≤ s.curSlot && s.curSlot < x.stop && decide (0 < x.power)
      then a + x.power else a) a) 0

/-- R311: iset, A. -/
def State.iset (s : State) (n : Nat) : Rat :=
  min (min ((s.fg (Fld.CHG_S_LIM_ICC n) : Rat) / 10) ((s.fg (Fld.EST_S_ILIM_ICHG n) : Rat) / 10))
    (min ((s.strInom n : Rat) / 10) (openDiv (s.plannedIn n) (s.volts (8 + n))))

/-- R311, R500, R501: the current of the shelf zone's derating table, as the enforced actions scale it, A. -/
def State.ith (s : State) (n : Nat) : Rat := s.derateA n

/-- R298: a string's share, by what is planned into it, of the limit on the groups that charge from the bus (DEDUCED, log
entry 30), W. -/
def State.acShare (s : State) (n : Nat) : Option Rat :=
  match s.cnv.acLim with
  | none => none
  | some l =>
    let on := s.strings.filter (fun m => match s.strGroup m with | some g => s.busCharging.contains g | none => false)
    let tot := sumOver on s.plannedIn
    if on.contains n ∧ tot ≠ 0 then some (l.1 * s.plannedIn n / tot) else none

/-- R311, R298, R302: the input limits of a string, W: a PV group's rating or its share of R298, and, where `mppt` asks for
them, the limits that the PV power metered sets. -/
def State.inputLimits (s : State) (n : Nat) (mppt : Bool) : List Rat :=
  match s.pvDirect n with
  | some g => (s.grpRating g : Rat) :: (if mppt then [s.pvPower] else [])
  | none =>
    let tot := sumOver s.busServed s.pvPlan
    (s.acShare n).toList ++ (if mppt ∧ 0 < s.pvPlan n ∧ tot ≠ 0 then [97 / 100 * s.pvPower * s.pvPlan n / tot] else [])

/-- R311: the least of iset, ith and iin, A, with or without what the PV power metered sets. -/
def State.icmdBy (s : State) (n : Nat) (mppt : Bool) : Rat :=
  let i := (s.inputLimits n mppt).foldl (fun i w => min i (openDiv w (s.volts (8 + n)))) (min (s.iset n) (s.ith n))
  if s.chargeBlocked n then 0 else max 0 i

/-- R311: icmd, A. -/
def State.icmd (s : State) (n : Nat) : Rat := s.icmdBy n true

/-- R308: the power allowed into a string under the charge limits, W; what the array gives limits itself (DEDUCED, log
entry 30). -/
def State.allowedW (s : State) (n : Nat) : Rat := s.icmdBy n false * s.volts (8 + n)

/-- R314: the power at which a thermal, input or cell limit holds the string below its plan, W. -/
def State.heldPower (s : State) (n : Nat) : Option Rat :=
  let plan := s.plannedIn n
  let v := s.volts (8 + n)
  let cell := if s.chgPhase n = epCv ∧ (s.chgS n).vcv < s.fg (Fld.CHG_S_VLIM_VCV n) then [max 0 (v * s.amps n)] else []
  let lims := (s.ith n * v :: (s.acShare n).toList ++ cell).filter (fun w => decide (w < plan))
  match lims with
  | [] => none
  | w :: r => some (r.foldl min w)

/-- R312: a charge episode ends (R316). -/
def episodeEnd (n phase : Nat) (s : State) : State :=
  let s := (s.fs (Fld.CHG_S_STAT_PHASE n) phase).setChgS n { s.chgS n with
    half := 0, idle := 0, held := none, ccMs := 0, termMs := 0, heldMs := 0 }
  (s.fs (Fld.CHG_S_TIMER_ELAPSED n) 0).fs (Fld.CHG_S_TIMER_HALF n) 0

def showVcv (n : Nat) (s : State) : State := s.fs (Fld.CHG_S_STAT_VCVEFF n) (u16Of (s.chgS n).vcv)

/-- R316: one millisecond of the safety timer. -/
def timerStep (n : Nat) (s : State) : State :=
  let x := s.chgS n
  let i := s.icmd n
  if i = 0 then
    let s := (s.setChgS n { x with idle := x.idle + 1 }).fs (Fld.CHG_S_TIMER_HALF n) 0
    if 1800000 ≤ x.idle + 1 then episodeEnd n epIdle s else s
  else
    let slow := s.chgPhase n == epCc && decide (s.amps n < s.iset n / 2) && decide (i < s.iset n)
    let h := x.half + (if slow then 1 else 2)
    ((s.setChgS n { x with half := h, idle := 0 }).fs (Fld.CHG_S_TIMER_ELAPSED n) (min 65535 (h / 2000))).fs
      (Fld.CHG_S_TIMER_HALF n) (boolNat slow)

/-- R312: the phases of an episode and VCV_eff over one control period of 1 ms. -/
def episodeStep (n : Nat) (s : State) : State :=
  let vcv := s.fg (Fld.CHG_S_VLIM_VCV n)
  let cell := s.strHighCell n
  let vcell := s.fg (Fld.CHG_S_VLIM_VCELL n)
  let x := s.chgS n
  let v := if vcell < cell then x.vcv - (vcv : Rat) / 1000000
    else if cell + 10 < vcell then min vcv (x.vcv + (vcv : Rat) / 1000000) else x.vcv
  let s := showVcv n (s.setChgS n { x with vcv := v })
  let s := if s.chgPhase n = epCc ∧ (v ≤ 10 * s.volts (8 + n) ∨ vcell ≤ cell) then s.fs (Fld.CHG_S_STAT_PHASE n) epCv else s
  let cv := s.chgPhase n == epCv
  let x := s.chgS n
  timerStep n (s.setChgS n { x with
    ccMs := if cv && decide (1000 * s.volts (8 + n) < 99 * v) then x.ccMs + 1 else 0
    termMs := if cv && decide (10 * s.amps n < s.fg (Fld.CHG_S_LIM_ITERM n)) then x.termMs + 1 else 0
    heldMs := if (s.heldPower n).isSome then x.heldMs + 1 else 0 })

/-- R315: milliseconds with the highest cell above VCELL + 50 mV. -/
def cellOvStep (n : Nat) (s : State) : State :=
  let x := s.chgS n
  let vcell := s.fg (Fld.CHG_S_VLIM_VCELL n)
  s.setChgS n { x with ovMs := if vcell ≠ 0 ∧ vcell + 50 < s.strHighCell n then x.ovMs + 1 else 0 }

/-- R313: FULL clears when the string voltage falls below VCV × 0.98. -/
def fullStep (n : Nat) (s : State) : State :=
  if bitOf (s.fg Fld.CHG_STAT_FULL) n ∧ 10 * s.volts (8 + n) < (98 / 100 : Rat) * s.fg (Fld.CHG_S_VLIM_VCV n) then
    (s.fs Fld.CHG_STAT_FULL (setBit (s.fg Fld.CHG_STAT_FULL) n false)).fs (Fld.CHG_S_STAT_PHASE n) epIdle
  else s

/-- R320: a lost string comes back once its fault has been read, its contactor is confirmed and its modules are present. -/
def lostStep (n : Nat) (s : State) : State :=
  if bitOf (s.fg Fld.CHG_STAT_LOST) n ∧ !bitOf (s.fg Fld.CHG_FAULT_BATT_LOST) n ∧ s.contactorConfirmed n ∧
    (s.strMods n).all s.present then s.fs Fld.CHG_STAT_LOST (setBit (s.fg Fld.CHG_STAT_LOST) n false)
  else s

/-- R311, R312: one string in one control period. -/
def chargeString (n : Nat) (s : State) : State :=
  let s := cellOvStep n (lostStep n (fullStep n s))
  let on := s.charging n && !s.chargeBlocked n
  let s := s.fs Fld.CHG_STAT_CHARGING (setBit (s.fg Fld.CHG_STAT_CHARGING) n on)
  let s := if on ∧ s.chgPhase n = epIdle then
      showVcv n ((s.fs (Fld.CHG_S_STAT_PHASE n) epCc).setChgS n { chgS0 with
        vcv := s.fg (Fld.CHG_S_VLIM_VCV n), ovMs := (s.chgS n).ovMs })
    else s
  let s := if s.inEpisode n then episodeStep n s else s
  (s.fs (Fld.CHG_S_ICMD_ISET n) (u16Of (10 * s.iset n))).fs (Fld.CHG_S_ICMD_ICMD n) (u16Of (10 * s.icmd n))

/-- R308: a PV group's part, by rating, of the power allowed into the strings that PV groups on the bus serve (DEDUCED, log
entry 30), W. -/
def State.busAllowed (s : State) (g : Nat) : Rat :=
  let gs := (List.range 12).filter (fun h => s.isPv h && s.onBus h)
  min (s.grpRating g : Rat) (openDiv (sumOver s.busServed s.allowedW * s.grpRating g) (sumOver gs (fun h => (s.grpRating h : Rat))))

/-- R303, R308, R311: OLIM and OVLIM of a PV group. -/
def pvLimits (g : Nat) (s : State) : State :=
  let n := s.grpTarget g
  let v18 := s.volts 18
  let w : Rat := if s.onBus g then (if s.fb Fld.CHG_CTL_BUSFEED then (s.grpRating g : Rat) else s.busAllowed g)
    else min (s.grpRating g : Rat) (s.allowedW n)
  let ph : Rat := (s.grpPhRating g : Rat) / 1000
  let ol := max 0 (min 1 (openDiv (openDiv w (v18 * s.grpPhases g)) ph))
  let s := s.pubSet (0x0D0 + g) (ratRound (ol * 1073741824))
  if s.onBus g then
    if s.fb Fld.CHG_CTL_BUSFEED then
      let v : Rat := (s.busNominal : Rat) / 1000 * (1 + (s.fg Fld.CHG_CFG_BFOFS : Rat) / 1000)
      s.pubSet (0x0E0 + g) (clampI (ratRound (openDiv v (s.voltFs 16) * 1073741824)) q30Min q30Max)
    else
      let (f, s) := s.fresh
      s.pubSet (0x0E0 + g) (toSigned 32 f)
  else s.pubSet (0x0E0 + g) (clampI (ratRound (openDiv ((s.chgS n).vcv / 10) (s.voltFs (8 + n)) * 1073741824)) q30Min q30Max)

/-- R301, R304: demand moves a PV group between OFF and WAIT. -/
def pvStep (g : Nat) (s : State) : State :=
  if !s.isPv g then s
  else
    let on := s.pvDemand g && s.pvPresent
    let s := if s.pvState g = pvOff ∧ on then setPv g pvWait s
      else if s.pvState g = pvWait ∧ !on then setPv g pvOff s else s
    let run := s.mode g == modeCharge
    let x := s.chgG g
    let s := s.setChgG g { x with
      upMs := if s.pvState g = pvWait ∧ (s.fg (Fld.CHG_CG_VWIN_VSTART g) : Rat) < 10 * s.volts 18 then x.upMs + 1 else 0
      lowMs := if run && decide (100 * s.pvPower < s.grpRating g) then x.lowMs + 1 else 0
      revMs := if run && decide (50 * s.amps 19 < -s.pvRating g) then x.revMs + 1 else 0
      scanAge := x.scanAge.map (· + 1) }
    if run then pvLimits g s else s

/-- The charger's part of a control period. -/
def chargePeriod (s : State) : State :=
  let s := pvMeter s
  let s := s.strings.foldl (fun s n => chargeString n s) s
  (List.range 12).foldl (fun s g => pvStep g s) s

/-- R311: the setpoint of a type 1 group into string `n`, as the charger lets it through, W. -/
def State.limitIn (s : State) (n : Nat) (p : Rat) : Rat :=
  if p ≤ 0 then p
  else
    let q := min p (s.icmd n * s.volts (8 + n))
    if s.chgPhase n = epCv then max 0 (min q (Config.cvPower q (s.volts (8 + n)) ((s.chgS n).vcv / 10))) else q

/-! ### Happenings -/

/-- R312: the string voltage has stayed more than 1 % below VCV_eff for 10 s. -/
def ccReturn (n : Nat) (s : State) : State :=
  if s.chgPhase n = epCv ∧ 10000 ≤ (s.chgS n).ccMs then s.fs (Fld.CHG_S_STAT_PHASE n) epCc else s

/-- Charging of a string ends: its PV groups stop by their ramp, and its own group's setpoint falls to 0 by R280. -/
def chargeStop (n : Nat) (s : State) : State := (s.chargers n).foldl (fun s g =>
  if s.isPv g then pvStop g s
  else s.setGrp g { s.grp g with ramp := s.newRamp g }) s

/-- R313: a current below ITERM for TTERM: the episode completes, and the string is FULL. -/
def chargeTermination (n : Nat) (s : State) : State :=
  if s.chgPhase n ≠ epCv ∨ s.fg (Fld.CHG_S_LIM_ITERM n) = 0 ∨ (s.chgS n).termMs < 10000 * s.fg Fld.CHG_CFG_TTERM then s
  else
    let s := chargeStop n (episodeEnd n epFull s)
    let s := (s.fs Fld.CHG_STAT_FULL (setBit (s.fg Fld.CHG_STAT_FULL) n true)).fs Fld.CHG_STAT_CHARGING
      (setBit (s.fg Fld.CHG_STAT_CHARGING) n false)
    nvTrigger ((s.raise 161).removal (.full n))

/-- R314: after 10 s the held power is reported, and limits the string's charge direction until the episode ends (DEDUCED,
log entry 30). -/
def powerHeld (n : Nat) (s : State) : State :=
  match (if s.inEpisode n ∧ 10000 ≤ (s.chgS n).heldMs then s.heldPower n else none) with
  | none => s
  | some w =>
    let w := w.floor.toNat
    (s.setChgS n { s.chgS n with held := some w, heldMs := 0 }).removal (.charge n w)

/-- R315. -/
def cellOv (n : Nat) (s : State) : State :=
  if (s.chgS n).ovMs < 1000 then s else chargeStop n (latchChg Fld.CHG_FAULT_CELL_OV n s)

/-- R316: the safety timer has counted TSAFE hours. -/
def State.timerOut (s : State) (n : Nat) : Bool :=
  s.inEpisode n && decide (7200000 * s.fg Fld.CHG_CFG_TSAFE ≤ (s.chgS n).half)

/-- R317. -/
def timerExpiry (n : Nat) (s : State) : State :=
  if !s.timerOut n then s
  else (chargeStop n (episodeEnd n epIdle (latchChg Fld.CHG_FAULT_TMR_EXP n s))).removal (.charge n 0)

/-- R319 step 2: the data of a lost string's modules are stale at once. -/
def staleNow (n : Nat) (s : State) : State :=
  let s := (s.strMods n).foldl (fun s m => s.fs (Fld.EST_M_FLAG_STALE m) 1) s
  (s.fs (Fld.EST_S_STAT_STALE n) 1).fs Fld.EST_STAT_STALE (setBit (s.fg Fld.EST_STAT_STALE) n true)

/-- R319 steps 1 to 3: zero duty and the clamp on every group that charges the string. A safety timer that has run out in
the same control period latches as well (R322). -/
def stringLost (n : Nat) (s : State) : State :=
  let gs := s.chargers n
  if gs.isEmpty then s
  else
    let s := gs.foldl (fun s g =>
      let s := s.setGrp g { s.grp g with released := false, shadowStop := true }
      let s := s.setChgG g { s.chgG g with clamp := true, scan := none, scanAge := none }
      if s.isPv g then setPv g pvOff s else s.pubSet (0x040 + g) 0) s
    let s := if s.timerOut n then latchChg Fld.CHG_FAULT_TMR_EXP n s else s
    let s := episodeEnd n epIdle (latchChg Fld.CHG_FAULT_BATT_LOST n s)
    let s := (s.fs Fld.CHG_STAT_LOST (setBit (s.fg Fld.CHG_STAT_LOST) n true)).fs Fld.CHG_STAT_CHARGING
      (setBit (s.fg Fld.CHG_STAT_CHARGING) n false)
    let s := staleNow n s
    ((s.removal (.string n)).logEvent 0x07 n 0 false).waveTrigger 3 n

/-- R337: a presence timer runs out, and a string that is charging is lost (R318). In WATCH timers do not run. -/
def presenceTimeout (m : Nat) (s : State) : State :=
  if s.awake then stringLost (m / 16) (s.fs (presFld m) 0) else s

/-- R319 step 5. -/
def clampRelease (g : Nat) (s : State) : State :=
  if s.mode g = modeOff then s.setChgG g { s.chgG g with clamp := false } else s

/-! ### Commands -/

def execPvGroupStart (g : Fin 12) (s : State) : Host.Outcome State Fault Refusal := done s (pvStart g s)

def execPvGroupStop (g : Fin 12) (s : State) : Host.Outcome State Fault Refusal := done s (pvStopDue g s)

def execPvGroupFault (g : Fin 12) (rev : Bool) (s : State) : Host.Outcome State Fault Refusal := done s (pvFault g rev s)

def execMpptStep (g : Fin 12) (s : State) : Host.Outcome State Fault Refusal := done s (mpptStep g s)

def execMpptScanStep (g : Fin 12) (s : State) : Host.Outcome State Fault Refusal := done s (scanStep g s)

def execCcReturn (n : Fin 8) (s : State) : Host.Outcome State Fault Refusal := done s (ccReturn n s)

def execChargeTermination (n : Fin 8) (s : State) : Host.Outcome State Fault Refusal := done s (chargeTermination n s)

def execChargePowerHeld (n : Fin 8) (s : State) : Host.Outcome State Fault Refusal := done s (powerHeld n s)

def execCellOv (n : Fin 8) (s : State) : Host.Outcome State Fault Refusal := done s (cellOv n s)

def execSafetyTimerExpiry (n : Fin 8) (s : State) : Host.Outcome State Fault Refusal := done s (timerExpiry n s)

def execStringLossCharging (n : Fin 8) (s : State) : Host.Outcome State Fault Refusal := done s (stringLost n s)

def execPresenceTimeout (m : Fin 128) (s : State) : Host.Outcome State Fault Refusal := done s (presenceTimeout m s)

def execClampRelease (g : Fin 12) (s : State) : Host.Outcome State Fault Refusal := done s (clampRelease g s)

def execChargeLimitCommit (p : Port) (n : Fin 8) (s : State) : Host.Outcome State Fault Refusal :=
  done s (asWrite p (Reg.CHG_S_CTL n) (commitWrite (.chg n)) s)

def execChargeLimitAbort (p : Port) (n : Fin 8) (s : State) : Host.Outcome State Fault Refusal :=
  done s (asWrite p (Reg.CHG_S_CTL n) (abortWrite (.chg n)) s)

end Sys2Proof.Machine
end

