-- ==== Sys2Proof/Machine/OrderCmds.lean ====
section
/-!
DEFINITION. The commands of the order engine (chapter 06).
-/
namespace Sys2Proof.Machine

/-! ### Start, copying and decisions -/

/-- R227: the epoch of a start: the highest stored value plus 1. -/
def engineEpoch (s : State) : State :=
  let e := (s.storedEpoch + 1) % 2 ^ 32
  epochBegin e (s.wr Reg.ORD_EPOCH (BitVec.ofNat 32 e))

/-- R227: the engine starts after a device-wide reset. It takes its epoch and stores it before it copies an entry: one
command issues the words, and another, once they are in MRAM, starts the engine. -/
def engineStart (s : State) : State :=
  if s.ord.started ∨ !s.rst.firmware ∨ s.image.isNone then s
  else nvRun wEpoch engineEpoch (fun s => s.setOrd { s.ord with started := true }) s

/-- R202: the completion queue of a submission queue. -/
def State.routeOf (s : State) (q : Nat) : Nat := fldOf (s.rd (Reg.ORD_ROUTE (q / 8))) (4 * (q % 8)) 4

/-- R221: a cancel, once every entry accepted before it has been copied. -/
def carryCancel (s : State) : State :=
  match s.ord.cancel with
  | some (id, 0) =>
    let s := s.setOrd { s.ord with cancel := none }
    let s := s.fs Fld.ORD_CANCEL_STAT_BUSY 0
    match s.order id with
    | none => s.fs Fld.ORD_CANCEL_STAT_RESULT 1
    | some o =>
      if o.ending.isSome then s.fs Fld.ORD_CANCEL_STAT_RESULT 2
      else stopOrder o 7 0x20 (s.fs Fld.ORD_CANCEL_STAT_RESULT 0)
  | _ => s

/-- R202, R203: the oldest submitted entry is copied; HEAD follows the copy (R135). -/
def orderCopy (s : State) : State :=
  match s.ord.submitted with
  | [] => s
  | q :: rest =>
    if !s.ord.started || s.fb Fld.ORD_STAT_DISCARDING || decide (2048 < s.heldCount) then s
    else
      let h := s.fg (Fld.SYS_Q_PTR_HEAD q)
      let rec0 := s.sramBytes (s.qStart q + h % s.qDepth q * 64) 64
      let o := { parseOrder rec0 (s.routeOf q) with seq := s.ord.nextSeq, since := s.now }
      let s := s.fs (Fld.SYS_Q_PTR_HEAD q) ((h + 1) % (2 * s.qDepth q))
      carryCancel (s.setOrd { s.ord with
        submitted := rest, orders := s.ord.orders ++ [o], nextSeq := s.ord.nextSeq + 1,
        cancel := s.ord.cancel.map (fun c => (c.1, c.2 - 1)) })

/-- The order whose decision is next: decisions go in the order of the copies (R211). -/
def State.nextPending (s : State) : Option Order := s.ord.orders.find? (fun o => o.state == 2)

/-- R212: one decision; none while a discard-all runs (R228). -/
def admissionDecision (s : State) : State :=
  match s.nextPending with
  | none => s
  | some o =>
    if s.fb Fld.ORD_STAT_DISCARDING then s else
    if s.fg Fld.ORD_CTL_ADMIT = 0 then endOrder o 6 0x0F 0 s
    else if o.badField then endOrder o 6 0x01 0 s
    else if o.scope = 1 then (if (s.partsOf o.id).isEmpty then swarmBegin o s else swarmFinish o s)
    else
      match decideRecord s o with
      | .reject c h => endOrder o 6 c h (showFree (o.onMono s) s)
      | .accept a => acceptOrder a (showFree (o.onMono s) s)

/-- R211. -/
def decisionOverload (s : State) : State :=
  match s.nextPending with
  | none => s
  | some o =>
    if s.fb Fld.ORD_STAT_DISCARDING then s else
    let s := s.fs Fld.ORD_STAT_OVERLOAD 1
    if (s.partsOf o.id).isEmpty then endOrder o 6 0x10 0 s else swarmReject o 0x10 s

/-! ### Start and deadline (R205, R217, R220) -/

/-- R205: the first slot of an order's plan begins; setpoints are withdrawn while a discard-all runs (R228). -/
def orderStart (id : Nat) (s : State) : State :=
  match s.order id with
  | none => s
  | some o =>
    if o.state = 3 ∧ o.ty ≤ 4 ∧ o.scope = 0 ∧ o.ending.isNone ∧ !s.fb Fld.ORD_STAT_DISCARDING ∧
        o.plan.any (fun g => decide (g.first ≤ s.curSlot)) then
      activate o s else s

/-- What this rack owes of an order: the whole, or of a swarm order its own part (R231). -/
def State.ownShare (s : State) (o : Order) : Order :=
  if !o.swarm then o
  else match (s.partsOf o.id).find? (fun p => p.rack == 0) with
    | some p => { o with energy := p.energy, pmax := p.pmax, pmin := p.pmin }
    | none => { o with energy := 0, pmax := 0, pmin := 0 }

/-- R215: what this rack owes of the order is met within 0.1 %. -/
def State.met (s : State) (o : Order) : Bool := (s.ownShare o).metBy o.deliv

/-- R418 (4): this rack's part of a swarm order has met its share. -/
def partReached (o : Order) (s : State) : State :=
  let s := s.putOrder { o with reached := true }
  if o.cq = partCq then s.item ⟨3, o.id, 0, 0⟩
  else reachedCheck o.id (updPart o.id 0 (fun p => { p with st := 4 }) s)

/-- R205, R217, R220: DEADLINE of an order. The end of a swarm order's part waits for its barrier (R232): a part that is
met, or a CHARGE_PV part, has reached its share; REST and HOLD end from the queen (DEDUCED, log entry 15). -/
def orderDeadline (id : Nat) (s : State) : State :=
  match s.order id with
  | none => s
  | some o =>
    if s.ord.mono < o.deadline ∨ o.ending.isSome then s
    else if o.ty = tyRest ∨ o.ty = tyHold then
      (if o.state ≠ 3 ∨ o.cq = partCq then s else if o.swarm then stopOrder o 5 0 s else endOrder o 5 0 0 s)
    else if o.state ≠ 4 then s
    else if o.scope = 1 ∧ (s.met o ∨ o.ty = tyChargePv) then (if o.reached then s else partReached o s)
    else if s.met o ∨ o.ty = tyChargePv then stopOrder o 5 0 s
    else stopOrder o 8 0x27 ((s.fs Fld.ORD_STAT_GFAIL 1).driveLine 16)

/-! ### The control period (R218 to R220) -/

/-- Planned power of an order on a string in the current slot, W. -/
def State.planPower (s : State) (o : Order) (n : Nat) : Rat :=
  o.plan.foldl (fun a g => if g.str == n && g.first ≤ s.curSlot && s.curSlot < g.stop then a + g.power else a) 0

/-- Energy of the plan from now on, 0.1 Wh. -/
def State.planAhead (s : State) (o : Order) (n : Nat) : Rat :=
  o.plan.foldl (fun a g => if g.str == n then
    a + |g.power| * ((2 * g.stop - max (2 * g.first) s.ord.mono : Nat) : Rat) / 360 else a) 0

/-- R219, R220: one string's net metered energy since the last control period, credited in proportion to planned power. -/
def creditString (n : Nat) (s : State) : State :=
  let now := s.netEnergy n
  let d : Rat := ((now - kvGet (fun _ => now) s.ord.lastNet n : Int) : Rat) / 1000
  let s := s.setOrd { s.ord with lastNet := kvInsert n now s.ord.lastNet }
  let on := s.ord.orders.filter (fun o => o.state == 4 && s.planPower o n != 0)
  let tot := on.foldl (fun a o => a + |s.planPower o n|) (0 : Rat)
  if tot = 0 ∨ d = 0 then s
  else
    let b := s.mtr.clsB.contains n
    on.foldl (fun s o =>
      let c := d * |s.planPower o n| / tot
      let owed := kvGet (fun _ => 0) o.owed n
      let done := if s.planPower o n < 0 then -c else c
      s.putOrder { o with
        credit := kvInsert n (kvGet (fun _ => 0) o.credit n + c) o.credit
        owed := kvInsert n (max 0 (owed - done)) o.owed
        outFlags := if b then o.outFlags ||| 2 else o.outFlags }) s

/-- The strings on which an order is planned in the current slot. -/
def State.plannedNow (s : State) : Nat :=
  maskOf 8 (fun n => s.ord.orders.any (fun o => o.plan.any (fun g => g.str == n && g.first ≤ s.curSlot && s.curSlot < g.stop)))

/-- R209: the slots without a plan that ended in the last 24 h give the standing draw, W. -/
def drawStep (s : State) : State :=
  if s.ord.slotNo = s.curSlot then s.setOrd { s.ord with slotUsed := s.ord.slotUsed ||| s.plannedNow }
  else
    let j := s.ord.slotNo
    let s := s.strings.foldl (fun s n =>
      let out := kvGet (fun _ => s.netEnergy n) s.ord.slotNet n - s.netEnergy n
      let h := kvGet (fun _ => []) s.ord.drawH n
      let h := if bitOf s.ord.slotUsed n then h else (j, out) :: h
      let h := h.filter (fun e => decide (s.curSlot ≤ e.1 + 43200))
      let w : Rat := if h.isEmpty then 0 else
        ((h.map (·.2)).foldl (· + ·) 0 : Int) * (18 / 100 : Rat) / h.length
      let s := s.setOrd { s.ord with drawH := kvInsert n h s.ord.drawH }
      s.wr (Reg.ORD_S_DRAW n) (BitVec.ofInt 32 (ratRound w))) s
    s.setOrd { s.ord with
      slotNo := s.curSlot, slotNet := (List.range 8).map (fun n => (n, s.netEnergy n)), slotUsed := s.plannedNow }

/-- R218: the power of an ACTIVE order on a string before the bounds of R215: its plan, or a correction for the energy
still owed. -/
def State.corrected (s : State) (o : Order) (n : Nat) : Rat :=
  let p := s.planPower o n
  let owed := kvGet (fun _ => 0) o.owed n
  if p = 0 ∨ o.ending.isSome ∨ o.reached then 0
  else if owed = s.planAhead o n then p
  else Config.corrected p owed (2 * (o.plan.foldl (fun m g => max m g.stop) 0) - s.ord.mono : Nat)

/-- R215: the total power of an order, that of its sinks for BALANCE, W. -/
def State.orderTotal (s : State) (o : Order) : Rat :=
  sumOver (bitsOf 8 (if o.ty = tyBalance then o.dmask else o.smask)) (fun n => |s.corrected o n|)

/-- R215: the slot in which the order starts or ends is exempt from its power bounds. -/
def State.exemptSlot (s : State) (o : Order) : Bool :=
  o.plan.all (fun g => decide (s.curSlot ≤ g.first)) || o.plan.all (fun g => decide (g.stop ≤ s.curSlot + 1))

/-- R218, R215: the power of an ACTIVE order on a string, its total kept between PMIN and PMAX. -/
def State.orderPower (s : State) (o : Order) (n : Nat) : Rat :=
  let x := s.ownShare o
  let tot := s.orderTotal o
  let p := s.corrected o n
  if tot = 0 ∨ s.exemptSlot o then p else p * max (x.pmin : Rat) (min (x.pmax : Rat) tot) / tot

/-- R225: while K0 plans anew, the flow of the orders concerned stays within what the remaining resources allow. -/
def State.replanLimit (s : State) (act : List Order) (n : Nat) (p : Rat) : Rat :=
  match s.ord.replan with
  | none => p
  | some (ids, gone) =>
    if !act.any (fun o => ids.contains o.id) then p
    else if gone.contains n then 0
    else max (-(s.plim n true)) (min (s.plim n false) p)

/-- R218, R277, R298: PREF of a string's group, in Q2.30 of the power product's full scale. -/
def setPref (n : Nat) (s : State) : State :=
  match s.strGroup n with
  | none => s
  | some g =>
    let act := s.ord.orders.filter (fun o => o.state == 4 && !(o.ty == tyChargePv && (s.pvDirect n).isSome) &&
      o.ending.isNone && o.named.contains n)
    if act.isEmpty ∨ (s.grp g).stopping ∨ (s.mode g ≠ modePower ∧ s.mode g ≠ modeBus) ∨ s.wattFs n = 0 then s
    else
      let p := s.replanLimit act n (act.foldl (fun a o => a + s.orderPower o n) (0 : Rat))
      -- R280: a charge that has been stopped ramps its setpoint to 0
      if 0 < p ∧ s.chargeBlocked n ∧ (s.grp g).ramp.isSome then s else
      let p := s.limitIn n p
      (s.pubSet (0x040 + g) (clampI (ratRound (p / s.wattFs n * 1073741824)) q30Min q30Max)).setGrp g
        { s.grp g with ramp := none }

/-- R220: the energy still owed has fallen to what the ramp-down of the groups will deliver. -/
def State.rampCovers (s : State) (o : Order) : Bool :=
  o.named.all (fun n => match s.strGroup n with
    | none => true
    | some g => decide (kvGet (fun _ => 0) o.owed n ≤
        |s.prefWatts g| * s.fg (Fld.CNV_CG_TIME_STOPT g) / 1000 / 2 / 360))

/-- R41, R220: metering of a string of an ACTIVE order's plan is class U. -/
def unmetered (o : Order) (s : State) : State :=
  let lost := (List.range 8).filter (fun n => s.setClass n == classU)
  if bitOf o.flags 0 then replanNow [o] lost 0x25 s else stopOrder o 8 0x25 s

/-- R220: DELIV of a CHARGE_PV order has reached what this rack owes. -/
def State.filled (s : State) (o : Order) : Bool := s.met o || decide ((s.ownShare o).energy < o.deliv)

/-- R218 (4): one ACTIVE order at the end of a control period. -/
def orderProgress (o : Order) (s : State) : State :=
  match o.ending with
  | some (st, cause) =>
    if !s.flowStopped o then s
    else if o.swarm ∧ (s.wgl.bars.any (fun b => b.action == 2 && b.ref == o.id) ∨ !s.partsReported o)
    then s
    else if st = 5 ∧ o.scope = 0 ∧ o.ty ≠ tyChargePv ∧ !s.met o then orderGroups o (s.putOrder { o with ending := none })
    else endOrder o st cause 0 s
  | none =>
    if o.state ≠ 4 then s
    else if o.named.any (fun n => s.setClass n == classU && s.needsString o n) then unmetered o s
    else if o.scope = 1 then
      if !o.reached ∧ (if o.ty = tyChargePv then s.filled o else s.rampCovers o) then partReached o s else s
    else if o.ty = tyChargePv then (if s.filled o then stopOrder o 5 0 s else s)
    else if s.rampCovers o then stopOrder o 5 0 s
    else s

/-- R218: one control period. The removals that have reached the order engine come first (R41, R225). -/
def controlPeriod (s : State) : State :=
  if !s.ord.started ∨ !s.awake then s
  else if s.fb Fld.ORD_STAT_DISCARDING then chargePeriod s
  else
    let s := applyRemovals s
    let s := drawStep ((List.range 8).foldl (fun s n => creditString n s) s)
    let s := s.setMtr { s.mtr with clsB := [] }
    let s := (s.ord.orders.filter (fun o => o.resident || o.ending.isSome)).foldl (fun s o =>
      match s.order o.id with
      | some o' => orderProgress o' s
      | none => s) s
    chargePeriod ((List.range 8).foldl (fun s n => setPref n s) s)

/-! ### Host controls -/

/-- R221, R228, R551. -/
def cancelWrite (s : State) : Nat × State :=
  if s.fb Fld.ORD_STAT_DISCARDING ∨ !s.ord.started ∨ s.fb Fld.ORD_CANCEL_STAT_BUSY then (stBusy, s)
  else
    let c := ((s.rd Reg.ORD_CANCEL_ID).toNat, s.ord.submitted.length)
    (stOk, carryCancel ((s.setOrd { s.ord with cancel := some c }).fs Fld.ORD_CANCEL_STAT_BUSY 1))

/-- ORD_QRY_ID: a write captures the order's state. -/
def queryWrite (id : Nat) (s : State) : State :=
  let s := s.wr Reg.ORD_QRY_ID (BitVec.ofNat 32 id)
  let r : Nat × Nat × Nat × Int := match s.order id with
    | some o => (o.state, 0, o.outFlags, o.deliv)
    | none => match s.ord.ended.find? (fun e => e.1 == id) with
      | some e => (e.2.1, e.2.2.1, e.2.2.2.1, e.2.2.2.2)
      | none => (0, 0, 0, 0)
  let sub := r.1 == 0 && s.ord.submitted.any (fun q => (List.range (s.qCount q)).any (fun k =>
    leNat (s.sramBytes (s.qStart q + (s.fg (Fld.SYS_Q_PTR_HEAD q) + k) % s.qDepth q * 64) 4) == id))
  let s := (s.fs Fld.ORD_QRY_STAT_STATE (if sub then 1 else r.1)).fs Fld.ORD_QRY_STAT_CAUSE r.2.1
  (s.fs Fld.ORD_QRY_STAT_FLAGS r.2.2.1).wr Reg.ORD_QRY_DELIV (BitVec.ofInt 32 r.2.2.2)

/-- The registers whose writes can cut (R222, R223). -/
inductive CapReg where
  | bus | ac | broodE | broodP | contract (c : Nat)
  deriving DecidableEq, Repr

def capReg : Fin 20 → CapReg
  | ⟨0, _⟩ => .bus
  | ⟨1, _⟩ => .ac
  | ⟨2, _⟩ => .broodE
  | ⟨3, _⟩ => .broodP
  | ⟨n, _⟩ => .contract (n - 4)

def CapReg.addr : CapReg → Nat
  | .bus => Reg.ORD_BUS_CAP
  | .ac => Reg.ORD_AC_CAP
  | .broodE => Reg.ORD_BROOD_E
  | .broodP => Reg.ORD_BROOD_P
  | .contract c => Reg.ORD_LC_CAP c

/-- R49: the largest value a cap takes. -/
def CapReg.limit (s : State) : CapReg → Nat
  | .bus => s.busRating
  | .ac => s.acRating
  | .broodE => 0xFFFFFFFF
  | .broodP => s.busRating
  | .contract _ => 0xFFFFFFFF

def capWrite (r : CapReg) (v : Word) (s : State) : Nat × State :=
  if r.limit s < v.toNat then (stDecodeErr, s)
  else
    let old := s.rd r.addr
    let s := s.wr r.addr v
    let cut := match r with
      | .broodE => decide (old.toNat < v.toNat)
      | .broodP => decide (old.toNat < v.toNat)
      | .contract _ => decide (v = 0 ∨ v.toNat < old.toNat)
      | _ => decide (v.toNat < old.toNat)
    if !cut then (stOk, s)
    else match r with
    | .bus => (stOk, capCut .bus s)
    | .ac => (stOk, capCut .ac s)
    | .broodE => (stOk, capCut .broodE s)
    | .broodP => (stOk, capCut .broodP s)
    | .contract c => (stOk, if v = 0 then contractCut c s else capCut (.contract c) s)

/-! ### Commands -/

def execOrderEngineStart (s : State) : Host.Outcome State Fault Refusal := done s (engineStart s)

def execOrderCopy (s : State) : Host.Outcome State Fault Refusal := done s (orderCopy s)

def execAdmissionDecision (s : State) : Host.Outcome State Fault Refusal := done s (admissionDecision s)

def execDecisionOverload (s : State) : Host.Outcome State Fault Refusal := done s (decisionOverload s)

def execOrderStart (id : Nat) (s : State) : Host.Outcome State Fault Refusal := done s (orderStart id s)

def execOrderDeadline (id : Nat) (s : State) : Host.Outcome State Fault Refusal := done s (orderDeadline id s)

def execControlPeriod (s : State) : Host.Outcome State Fault Refusal := done s (controlPeriod s)

def execCqRecordWrite (cq : Fin 16) (s : State) : Host.Outcome State Fault Refusal := done s (cqRecordWrite cq s)

def execOrderCancel (p : Port) (s : State) : Host.Outcome State Fault Refusal :=
  done s (asWrite p Reg.ORD_CANCEL_CTL cancelWrite s)

def execOrderQuery (p : Port) (id : Word) (s : State) : Host.Outcome State Fault Refusal :=
  done s (asWrite p Reg.ORD_QRY_ID (okay (queryWrite id.toNat)) s)

def execCapWrite (p : Port) (r : Fin 20) (v : Word) (s : State) : Host.Outcome State Fault Refusal :=
  done s (asWrite p (capReg r).addr (capWrite (capReg r) v) s)

def execResourceRemoval (s : State) : Host.Outcome State Fault Refusal := done s (applyRemovals s)

def execReplanComplete (s : State) : Host.Outcome State Fault Refusal := done s (replanComplete s)

end Sys2Proof.Machine
end

