-- ==== Sys2Proof/Machine/Power.lean ====
section
/-!
DEFINITION. Power states and profiles (chapter 01): SYS_PWR_REQ, the ways into and out of WATCH and DORMANT (R22 to R33),
and SYS_PROFILE (R34, R35).
-/
namespace Sys2Proof.Machine

/-! ### Clocks by state (R456) -/

/-- R456, R556: the stop of HFXO and the PLL; HFRC goes on for a watchdog that selects it (R480). -/
def clocksStop (watch : Bool) (s : State) : State :=
  let hfrc := watch && s.fb Fld.WDG_H_CTL_EN && s.fb Fld.WDG_H_CFG_CLKSEL
  let s := ((s.fs Fld.CLK_STAT_HFRC_ON (boolNat hfrc)).fs Fld.CLK_STAT_HFXO_ON 0).fs Fld.CLK_STAT_HFXO_OK 0
  let s := ((s.fs Fld.CLK_STAT_PLL_LOCK 0).fs Fld.CLK_STAT_PLL_REF 0).fs Fld.CLK_STAT_SYSCLK 0
  (s.setClk { s.clk with okN := 0, waiting := false })

/-- R456, R449: HFRC starts, the PLL locks on it, and HFXO starts while HFXO_EN is set. -/
def clocksStart (s : State) : State :=
  let s := ((s.fs Fld.CLK_STAT_HFRC_ON 1).fs Fld.CLK_STAT_PLL_LOCK 1).fs Fld.CLK_STAT_PLL_REF 0
  let s := (s.fs Fld.CLK_STAT_SYSCLK 1).fs Fld.CLK_STAT_HFXO_ON (s.fg Fld.CLK_CFG_HFXO_EN)
  s.setClk { s.clk with tilesHeld := false, okN := 0, waiting := false }

/-! ### Conditions (R26, R29) -/

/-- R34: the profile's wake lead time, s. -/
def wakeLead (profile : Nat) : Nat := match profile with | 1 => 60 | 2 => 120 | 3 => 10 | _ => 30

/-- The monotonic second at which an accepted order starts to move energy (R205). -/
def Order.startsAt (o : Order) : Nat := match o.plan with
  | [] => o.start
  | g :: r => r.foldl (fun m x => min m (2 * x.first)) (2 * g.first)

/-- R26, R27: an accepted order starts within the wake lead time. A REST or HOLD, which stays ACCEPTED beyond its START
(R205), counts up to its START. -/
def State.leadOrder (s : State) : Bool :=
  s.ord.orders.any (fun o => o.state == 3 &&
    decide (o.startsAt ≤ s.ord.mono + wakeLead (s.fg Fld.SYS_PROFILE_PROFILE)) &&
    decide ((o.ty ≠ tyRest ∧ o.ty ≠ tyHold) ∨ s.ord.mono ≤ o.startsAt))

/-- R26: 2 % of the nominal current of string `n`, A. -/
def State.watchLimit (s : State) (n : Nat) : Rat := (s.strInom n : Rat) / 500

/-- R26: the WATCH entry conditions. -/
def State.watchReady (s : State) : Bool :=
  s.powerState == 2 && s.fg Fld.SYS_PWR_REQ_REQ == 0 && s.image.isSome && !s.loading &&
  !s.ord.orders.any (fun o => o.state == 2 || o.state == 4) && !s.leadOrder && !s.anyGroupRunning && s.level == 0 &&
  s.strings.all (fun n => decide (|s.amps n| < s.watchLimit n)) && !s.fb Fld.FLT_HSTAT_HANDLING

/-- R29: the DORMANT entry conditions. -/
def State.dormantReady (s : State) : Bool :=
  s.ord.submitted.isEmpty && !s.ord.orders.any (fun o => decide (2 ≤ o.state ∧ o.state ≤ 4)) &&
  !s.anyGroupRunning && s.level == 0

/-! ### SYS_PWR_REQ (R24, R29, R30) -/

/-- A write of the request field; while an image operation runs it is refused with HELD (R91). -/
def pwrReqWrite (v : Nat) (s : State) : Nat × State :=
  if s.loading then (stHeld, s)
  else if v = 3 then (stDecodeErr, s)
  else if v = 2 then
    if s.powerState = 0 then (stOk, s)
    else if !s.dormantReady then (stHeld, s)
    else (stOk, s.wakeWatch.fs Fld.SYS_PWR_REQ_REQ 2)
  else
    let s := s.wakeDormant
    let s := if v = 1 then s.wakeWatch else s
    (stOk, s.fs Fld.SYS_PWR_REQ_REQ v)

/-! ### WATCH (R26, R27, R165, R166) -/

/-- R443, R446: leaving READY or FLOW ends a capture at the last ring frame. -/
def captureEnd (s : State) : State :=
  match s.prp.capt with
  | some c => match c.ended with
    | none => s.setPrp { s.prp with capt := some { c with ended := some (s.rd Reg.PRP_FCNT).toNat } }
    | some _ => s
  | none => s

/-- R337: presence is counted in bursts from now on. -/
def presenceRestart (s : State) : State :=
  s.modules.foldl (fun s m => s.setEMod m { s.emod m with miss := 0, hit := false }) s

/-- R412: the frames that say that the device leaves READY are counted from here. -/
def dozeBegin (s : State) : State := s.setWgl { s.wgl with dozeN := 0 }

/-- R165 steps 1 to 4, R412: the entry conditions have held for the entry delay, and then the overlap has ended. `slow` is the
slow counter's own count of the overlap by string, nV·s at its shunt; `sub` the ACLK cycle of the second. An overlap at whose end
a condition fails is abandoned (R31; DEDUCED, log entry 20). -/
def watchEntry (slow : List Int) (sub : Nat) (s : State) : State :=
  let s := aclkTo sub s
  if !s.watchReady then abandonWatch s
  else if !s.fb Fld.SYS_PWR_STAT_TRANS then dozeBegin (slowStart (s.fs Fld.SYS_PWR_STAT_TRANS 1))
  else if !s.dozed then s
  else
    let s := slowHandover (slowMatch slow s)
    let s := presenceRestart (captureEnd (clocksStop true s))
    let s := classUpdate ((s.fs Fld.SYS_PWR_STAT_STATE 1).fs Fld.SYS_PWR_STAT_TRANS 0)
    (s.setPwr { s.pwr with wake := false }).setIrq { s.irq with wake := false }

/-- R412: on waking, a worker rejoins the link. -/
def rejoin (s : State) : State :=
  if s.swarmPos = 0 ∨ !s.fb Fld.WGL_CFG_EN then s
  else (s.fs Fld.WGL_STAT_JOINED 0).setWgl { s.wgl with heard := 0 }

/-- R166: a wake condition of R27, or a string current at the WATCH limit for 100 ms, which in the overlap abandons the
way into WATCH (R31, R165). `dq` holds the slow counts, nV·s, with the integrator residues up to the handover strobe. -/
def watchWake (dq : List Int) (current : Bool) (sub : Nat) (s : State) : State :=
  if s.powerState = 2 ∧ current then abandonWatch s
  else if s.powerState ≠ 1 ∨ !(s.pwr.wake || s.irq.wake || current) then s
  else
    let s := aclkTo sub s
    let s := s.strings.foldl (fun s n => slowIncrement n (dq.getD n 0) false s) s
    let s := clocksStart (s.fs Fld.SYS_PWR_STAT_STATE 2)
    let s := ((s.setPwr { s.pwr with wake := false }).setIrq { s.irq with wake := false }).setEst { s.est with burst := false, burstDue := false }
    let s := fullResume s
    runWaiting (rejoin s)

/-- R27: the wake timer of an accepted order. -/
def wakeTimer (s : State) : State := if s.leadOrder then s.wakeWatch else s

/-! ### DORMANT (R29, R30) -/

/-- The last step of DORMANT entry: the ledger closes at the last strobe (R176), and the meter and the clocks stop. -/
def dormantEnter (s : State) : State :=
  let s := captureEnd (ledgerClose true false s)
  let s := (((s.fs Fld.MTR_STAT_FULL 0).fs Fld.MTR_STAT_SLOW 0).fs Fld.MTR_STAT_HAND 0).fs Fld.MTR_STAT_TB 0
  let s := (List.range 20).foldl (fun s n => s.fs (Fld.MTR_CH_CAL_STATE n) calOff) s
  let s := clocksStop false ((s.fs Fld.SCT_STAT_CONF 0).fs Fld.SYS_PWR_STAT_TRANS 0)
  classUpdate (((s.fs Fld.SYS_PWR_STAT_STATE 0).setPwr { s.pwr with wake := false, dorm := 0 }).setIrq
    { s.irq with wake := false })

/-- R397: persistence has stored its state at this entry. -/
def State.estStored (s : State) : Bool := s.fb Fld.EST_CFG_PERS && s.fb Fld.EST_STAT_RUN && !s.fb Fld.EST_NV_WEAR

/-- The device enters DORMANT once an earlier ledger close has written its records (R195), no write of learned values
runs and the link has been told (R412). -/
def dormantLast (s : State) : State :=
  if s.fb Fld.LDG_STAT_CLOSING || s.fb Fld.EST_NV_WRITING || !s.dozed then s else dormantEnter s

/-- R29, R358, R397: DORMANT entry. First the learned values are written, then every contactor opens; once none is busy the
power-down sequence runs where R397 starts it; then the device enters (DEDUCED, log entry 20). -/
def dormantEntry (sub : Nat) (s : State) : State :=
  let s := aclkTo sub s
  if s.powerState ≠ 2 ∨ s.fg Fld.SYS_PWR_REQ_REQ ≠ 2 ∨ s.image.isNone ∨ s.loading ∨ !s.dormantReady then s
  else match s.pwr.dorm with
  | 0 =>
    let s := nvNow (dozeBegin (s.fs Fld.SYS_PWR_STAT_TRANS 1))
    s.setPwr { s.pwr with dorm := 1, downRan := false }
  | 1 => if s.fb Fld.EST_NV_WRITING then s else (allContactorsOpen s).setPwr { s.pwr with dorm := 2 }
  | 2 =>
    if s.contactorBusy then s
    else if s.estStored then
      let s := downStart s
      (s.setPwr { s.pwr with dorm := 3, downRan := true })
    else dormantLast s
  | _ => if s.seqRuns then s else dormantLast s

/-- R30, R166: a DORMANT wake condition takes the device to READY. Each watchdog starts a fresh period (R480). -/
def dormantWake (sub : Nat) (s : State) : State :=
  if s.powerState ≠ 0 ∨ !s.pwr.wake then s
  else
    let s := aclkTo sub s
    let s := if s.fg Fld.SYS_PWR_REQ_REQ = 2 then s.fs Fld.SYS_PWR_REQ_REQ 0 else s
    let s := clocksStart (s.fs Fld.SYS_PWR_STAT_STATE 2)
    let due := s.pwr.downRan && s.fb Fld.SEQ_CFG_AUTOUP
    let s := fullResume (s.setPwr { s.pwr with wake := false, upDue := s.pwr.upDue || due, downRan := false })
    runWaiting (rejoin ([0, 1, 2].foldl (fun s w => wdStart w s.aclk s) s))

/-! ### SYS_PROFILE (R34, R35) -/

/-- The meter rate waits for the closing boundary (R147); every other consumer reads the field. -/
def profileWrite (v : Nat) (s : State) : State :=
  (s.fs Fld.SYS_PROFILE_PROFILE v).setMtr { s.mtr with newRate := some (rateOf v) }

/-! ### Commands -/

def execPwrReqAuto (p : Port) (s : State) : Host.Outcome State Fault Refusal :=
  done s (asWrite p Reg.SYS_PWR_REQ (pwrReqWrite 0) s)

def execPwrReqHoldReady (p : Port) (s : State) : Host.Outcome State Fault Refusal :=
  done s (asWrite p Reg.SYS_PWR_REQ (pwrReqWrite 1) s)

def execPwrReqDormant (p : Port) (s : State) : Host.Outcome State Fault Refusal :=
  done s (asWrite p Reg.SYS_PWR_REQ (pwrReqWrite 2) s)

def execProfileWrite (p : Port) (profile : Fin 4) (s : State) : Host.Outcome State Fault Refusal :=
  done s (asWrite p Reg.SYS_PROFILE (okay (profileWrite profile)) s)

def execWatchEntry (slow : List Int) (sub : Nat) (s : State) : Host.Outcome State Fault Refusal := done s (watchEntry slow sub s)

def execWatchWake (dq : List Int) (current : Bool) (sub : Nat) (s : State) : Host.Outcome State Fault Refusal :=
  done s (watchWake dq current sub s)

def execWakeTimer (s : State) : Host.Outcome State Fault Refusal := done s (wakeTimer s)

def execDormantEntry (sub : Nat) (s : State) : Host.Outcome State Fault Refusal := done s (dormantEntry sub s)

def execDormantWake (sub : Nat) (s : State) : Host.Outcome State Fault Refusal := done s (dormantWake sub s)

end Sys2Proof.Machine
end

