-- ==== Sys2Proof/Machine/ProtCmds.lean ====
section
/-!
DEFINITION. The commands of the e-fuse channels, the feeds and the string contactors (chapter 11).
-/
namespace Sys2Proof.Machine

/-- R366: a current beyond 3 × ILIM, as the sense voltage `uv` in µV shows it, trips a channel whose gate is driven. -/
def hardShort (c : Nat) (uv : Int) (s : State) : State :=
  if s.gateOn c ∧ ((3 * s.fg (Fld.EFU_CH_LIM_ILIM c) : Nat) : Rat) < 100 * s.efuAmps c uv then efuseTrip c 3 s else s

/-- R367: the voltage from EFc_G to EFc_VO, mV, within 200 µs of the discharge. -/
def gateCheck (c : Nat) (mv : Int) (s : State) : State :=
  if s.gateOn c then s else if mv < 1000 then gateVerified c s else gateFailed c s

/-- R363: a write of EN. -/
def efuseEnable (c : Nat) (en : Bool) (s : State) : Nat × State :=
  let v := s.fg (Fld.EFU_CH_LIM_ILIM c) * s.fg (Fld.EFU_CH_RSNS_RSNS c)
  if en ∧ (s.fg (Fld.EFU_CH_RSNS_RSNS c) = 0 ∨ v < 500000 ∨ 10000000 < v) then (stDecodeErr, s)
  else (stOk, enableChanged c (s.efuEnabled c) (s.fs (Fld.EFU_CH_EN_EN c) (boolNat en)))

/-- R363: the EFc_EN ball function; it counts as 1 when the map does not place it. -/
def efuseBall (c : Nat) (level : Bool) (s : State) : State :=
  let old := s.efuEnabled c
  enableChanged c old (s.setEfu c { s.efu c with ball := level || (s.ballOf (0x50 + c)).isNone })

/-- R369: the grace timer of a channel's cap, GRACE from the request on, expires. -/
def capGrace (c : Nat) (s : State) : State :=
  if bitOf (s.fg Fld.EFU_THR_REQ) c ∧ ((100000 * s.fg Fld.EFU_THR_GRACE : Nat) : Rat) ≤ (s.efu c).reqFor then s.fs Fld.EFU_THR_ENF (setBit (s.fg Fld.EFU_THR_ENF) c true) else s

/-- R371, R373: the selected member is no longer healthy. -/
def feedChangeover (f : Nat) (s : State) : State :=
  let unhealthy := match s.selected f with | some c => !s.healthy c | none => true
  if s.feedCount f = 0 ∨ s.feedStep f ≠ 0 ∨ !unhealthy then s
  else match s.bestMember f with
  | some _ => changeoverStart f s
  | none =>
    if s.fb (Fld.EFU_F_STAT_LOST f) then s
    else feedLost f (match s.selected f with
      | some c => if s.gateOn c then (dischargeGate c s).setEState c eStandby else s
      | none => s)

/-- R371: a member of higher priority has been healthy for RETQ. -/
def feedReturn (f : Nat) (s : State) : State :=
  if s.feedStep f = 0 ∧ s.mayReturn f then changeoverStart f s else s

def deadTime (f : Nat) (s : State) : State := if s.feedStep f = 2 then deadTimeElapsed f s else s

/-- R376: a write of REQ = 1. -/
def contactorClose (n : Nat) (s : State) : Nat × State :=
  if !s.strUsed n || !s.strCarries n then (stDecodeErr, s)
  else
    let fed := s.shelfFeed (s.strShelf n)
    if !s.awake || s.fb Fld.EFU_STAT_ESTOP || s.kState n != kOpen || (decide (fed < 3) && s.fb (Fld.EFU_F_STAT_LOST fed))
    then (stHeld, s)
    else (stOk, (setK n kPrecharge 0 1 s).fs (Fld.EFU_S_KCTL_REQ n) 1)

/-- R376: a PENDING or resident order names the string. -/
def State.orderNames (s : State) (n : Nat) : Bool := s.ord.orders.any (fun o => o.named.contains n)

/-- R376: a write of REQ = 0. -/
def contactorRelease (n : Nat) (s : State) : Nat × State :=
  if s.orderNames n || (s.phase != phIdle && bitOf (s.fg Fld.SCT_STAT_H) n) then (stHeld, s)
  else (stOk, (contactorOpen n s).fs (Fld.EFU_S_KCTL_REQ n) 0)

/-- R377 step 2: at least 50 ms after step 1, with the current below PCEND for 20 ms. -/
def prechargeComplete (n : Nat) (s : State) : State :=
  if s.kState n = kPrecharge ∧ 409600 ≤ (s.preTimes n).1 ∧ 163840 ≤ (s.preTimes n).2 then setK n kClosing 1 1 s else s

/-- R377: the pre-charge limit of TOPOLOGY passes. -/
def prechargeTimeout (n : Nat) (s : State) : State :=
  if s.kState n = kPrecharge ∧ 8192 * s.strPrecharge n ≤ (s.preTimes n).1 then contactorFail n 0 s else s

def kfClosed (n : Nat) (s : State) : State := s.fs (Fld.EFU_S_KSTAT_KF n) 1

/-- R377: KF has not closed within KFT. -/
def kfFail (n : Nat) (s : State) : State :=
  if s.kState n = kClosing ∧ !s.fb (Fld.EFU_S_KSTAT_KF n) then contactorFail n 1 s else s

/-- R377 step 4. -/
def overlapEnd (n : Nat) (s : State) : State :=
  if s.kState n = kClosing ∧ s.fb (Fld.EFU_S_KSTAT_KF n) then setK n kClosed 1 0 s else s

/-- R378: KF reads open while the state is CLOSED. A string that is charging is lost: R319 takes the place of the stop of
R284 (R318); its own group, where it does not charge, stops all the same. -/
def kfDrop (n : Nat) (s : State) : State :=
  if s.kState n ≠ kClosed then s
  else
    let s := s.fs (Fld.EFU_S_KSTAT_KF n) 0
    if !s.charging n then ((contactorFail n 2 s).removal (.string n)).waveTrigger 3 n
    else
      let own := s.strGroup n
      let gs := s.chargers n
      let s := stringLost n s
      let s := match own with
        | some g => if gs.contains g then s else groupHardStopIf g s
        | none => s
      contactorFault n 2 s

/-- The device is on its way into DORMANT (R29). -/
def State.entersDormant (s : State) : Bool :=
  s.powerState == 2 && s.fb Fld.SYS_PWR_STAT_TRANS && s.fg Fld.SYS_PWR_REQ_REQ == 2

/-- R378, R379: KF reads closed while the state is OPEN, or has not opened within KFT. During DORMANT entry the string does
not hold the entry back (R29; log entry 20). -/
def kfWeld (n : Nat) (s : State) : State :=
  if s.kState n = kOpen ∨ s.kState n = kOpening then
    let s := contactorFail n 3 (s.fs (Fld.EFU_S_KSTAT_KF n) 1)
    if s.entersDormant then s.setFlt { s.flt with quiet := s.flt.quiet ++ [22] } else s
  else s

/-- R379: KF reads open. An opening that ends with a KFLAG bit latched ends in FAULT (R375). -/
def kfOpened (n : Nat) (s : State) : State :=
  let s := s.fs (Fld.EFU_S_KSTAT_KF n) 0
  if s.kState n ≠ kOpening then s
  else s.fs (Fld.EFU_S_KSTAT_STATE n) (if s.rd (Reg.EFU_S_KFLAG n) = 0 then kOpen else kFault)

/-! ### Commands -/

def execEfuseTick (c : Fin 8) (uv : Int) (vi vo : Nat) (s : State) : Host.Outcome State Fault Refusal :=
  done s (efuseTick c uv vi vo s)

def execHardShort (c : Fin 8) (uv : Int) (s : State) : Host.Outcome State Fault Refusal := done s (hardShort c uv s)

def execGateOffCheck (c : Fin 8) (mv : Int) (s : State) : Host.Outcome State Fault Refusal :=
  done s (gateCheck c mv s)

def execEfuseEnableWrite (p : Port) (c : Fin 8) (en : Bool) (s : State) : Host.Outcome State Fault Refusal :=
  done s (asWrite p (Reg.EFU_CH_EN c) (efuseEnable c en) s)

def execEfuseEnableBall (c : Fin 8) (level : Bool) (s : State) : Host.Outcome State Fault Refusal :=
  done s (efuseBall c level s)

def execCapGraceExpiry (c : Fin 8) (s : State) : Host.Outcome State Fault Refusal := done s (capGrace c s)

def execFeedChangeover (f : Fin 3) (s : State) : Host.Outcome State Fault Refusal := done s (feedChangeover f s)

def execFeedReturn (f : Fin 3) (s : State) : Host.Outcome State Fault Refusal := done s (feedReturn f s)

def execDeadTimeElapsed (f : Fin 3) (s : State) : Host.Outcome State Fault Refusal := done s (deadTime f s)

def execContactorCloseRequest (p : Port) (n : Fin 8) (s : State) : Host.Outcome State Fault Refusal :=
  done s (asWrite p (Reg.EFU_S_KCTL n) (contactorClose n) s)

def execContactorOpenRequest (p : Port) (n : Fin 8) (s : State) : Host.Outcome State Fault Refusal :=
  done s (asWrite p (Reg.EFU_S_KCTL n) (contactorRelease n) s)

def execPrechargeComplete (n : Fin 8) (s : State) : Host.Outcome State Fault Refusal := done s (prechargeComplete n s)

def execPrechargeTimeout (n : Fin 8) (s : State) : Host.Outcome State Fault Refusal := done s (prechargeTimeout n s)

def execKfClosed (n : Fin 8) (s : State) : Host.Outcome State Fault Refusal := done s (kfClosed n s)

def execKfFail (n : Fin 8) (s : State) : Host.Outcome State Fault Refusal := done s (kfFail n s)

def execOverlapEnd (n : Fin 8) (s : State) : Host.Outcome State Fault Refusal := done s (overlapEnd n s)

def execKfDrop (n : Fin 8) (s : State) : Host.Outcome State Fault Refusal := done s (kfDrop n s)

def execKfWeld (n : Fin 8) (s : State) : Host.Outcome State Fault Refusal := done s (kfWeld n s)

def execKfOpened (n : Fin 8) (s : State) : Host.Outcome State Fault Refusal := done s (kfOpened n s)

def execKflagRead (p : Port) (n : Fin 8) (s : State) : Host.Outcome State Fault Refusal :=
  done s (asRead p (Reg.EFU_S_KFLAG n) (fun t => t.rd (Reg.EFU_S_KFLAG n)) (kflagRead n) s)

def execEstopAssert (s : State) : Host.Outcome State Fault Refusal := done s (estopAssert s)

def execEstopRelease (s : State) : Host.Outcome State Fault Refusal := done s (s.fs Fld.EFU_STAT_ESTOP 0).wakeDormant

end Sys2Proof.Machine
end

