-- ==== Sys2Proof/Machine/Thermal.lean ====
section
/-!
DEFINITION. Temperature sensing and thermal action (chapter 16).
-/
namespace Sys2Proof.Machine

def State.setThmIn (s : State) (n : Nat) (v : ThmIn) : State :=
  s.setThm { s.thm with ins := kvSet (fun _ => thmIn0) s.thm.ins n v }
def State.setThmZone (s : State) (h : Nat) (v : ThmZone) : State :=
  s.setThm { s.thm with zones := kvSet (fun _ => thmZone0) s.thm.zones h v }

def State.tsOn (s : State) (n : Nat) : Bool := s.fg (Fld.THM_TS_CFG_TYPE n) != 0
def State.tsTemp (s : State) (n : Nat) : Int := s.fgs (Fld.THM_TS_TEMP_TEMP n)
def State.suspect (s : State) (n : Nat) : Bool := bitOf (s.fg Fld.THM_STAT_SUSPECT) n
/-- R496: an input that is enabled and valid. -/
def State.tsValid (s : State) (n : Nat) : Bool := s.tsOn n && (s.thmIn n).valid

/-! ### Conversions (R496, R505) -/

/-- R505: the input's slot at which a TYPE OFF takes effect. -/
def slotOff (n : Nat) (s : State) : State :=
  match kvGet (fun _ => none) s.thm.off n with
  | none => s
  | some g =>
    let s := s.wr (Reg.THM_TS_CFG n) (BitVec.ofNat 32 (4 * g))
    let s := ((s.fs (Fld.THM_TS_FLAG_STALE n) 0).setThmIn n { thmIn0 with hotAt := s.thm.clock }).fs (Fld.THM_TS_TEMP_TEMP n) 0
    let s := s.fs Fld.THM_STAT_SUSPECT (setBit (s.fg Fld.THM_STAT_SUSPECT) n false)
    s.setThm { s.thm with off := kvSet (fun _ => none) s.thm.off n none }

/-- R496: an input's voltage in mV (DIODE), or its ratio in thousandths (NTC), is beyond the level of an open or of a short
conversion. -/
def State.tsOpen (s : State) (n v : Nat) : Bool := decide ((if s.fg (Fld.THM_TS_CFG_TYPE n) = 1 then 900 else 980) < v)
def State.tsShort (s : State) (n v : Nat) : Bool := decide (v < (if s.fg (Fld.THM_TS_CFG_TYPE n) = 1 then 200 else 20))

/-- One conversion of one input: its voltage or ratio, and the temperature (0.1 °C) that the input's analogue method gives
by its PARAM (R495). -/
def convert (n v : Nat) (t : Int) (s : State) : State :=
  if !s.tsOn n then s
  else
    let x := s.thmIn n
    if !s.tsOpen n v && !s.tsShort n v then
      let g := min 3 (x.goodN + 1)
      let bad := x.bad && decide (g < 3)
      let s := s.fss (Fld.THM_TS_TEMP_TEMP n) t
      let sd := s.fg (Fld.THM_TS_SD_SD n)
      let hot := !bad && sd != 0 && decide ((sd : Int) ≤ t)
      s.setThmIn n { x with
        bad := bad, goodN := g, valid := !bad, last := if bad then x.last else some t
        sdN := if hot then min 3 (x.sdN + 1) else 0,
        hotAt := if t < (sd : Int) - 100 then x.hotAt else s.thm.clock }
    else
      let s := if s.tsOpen n v then s.fs (Fld.THM_TS_FLAG_OPEN n) 1 else s.fs (Fld.THM_TS_FLAG_SHORT n) 1
      s.setThmIn n { x with bad := true, goodN := 0, valid := false, sdN := 0, hotAt := s.thm.clock }

/-! ### Neighbour groups (R497, R498) -/

/-- The valid members of a neighbour group, and twice their median. -/
def State.members (s : State) (g : Nat) : List Nat :=
  (List.range 16).filter (fun n => g != 0 && s.tsValid n && s.fg (Fld.THM_TS_CFG_GROUP n) == g)
def State.median2 (s : State) (g : Nat) : Int :=
  let l := sortBy (fun a b => decide (a ≤ b)) ((s.members g).map s.tsTemp)
  let k := l.length
  if k % 2 = 1 then 2 * l.getD (k / 2) 0 else l.getD (k / 2 - 1) 0 + l.getD (k / 2) 0

/-- Does an input's reading lie more than `lim` (in half XDEV units ÷ 2) from its group's median? -/
def State.deviates (s : State) (n : Nat) (half : Bool) : Bool :=
  let g := s.fg (Fld.THM_TS_CFG_GROUP n)
  let d := (2 * s.tsTemp n - s.median2 g).natAbs
  decide ((if half then 1 else 2) * s.fg Fld.THM_XCHK_XDEV < d)

/-- R498: an exclusion ends. -/
def unexclude (n : Nat) (s : State) : State :=
  (s.fs Fld.THM_STAT_SUSPECT (setBit (s.fg Fld.THM_STAT_SUSPECT) n false)).setThmIn n
    { s.thmIn n with devN := 0, calmN := 0 }

def exclude (n : Nat) (s : State) : State :=
  if s.suspect n then s
  else
    let s := s.fs Fld.THM_STAT_SUSPECT (setBit (s.fg Fld.THM_STAT_SUSPECT) n true)
    ((s.fs (Fld.THM_TS_FLAG_SUSPECT n) 1).raise 180).driveLine 25

/-- One neighbour group after a round. -/
def crossGroup (g : Nat) (s : State) : State :=
  let m := s.members g
  let xcnt := s.fg Fld.THM_XCHK_XCNT
  let pair := m.length == 2 && decide (s.fg Fld.THM_XCHK_XDEV < (s.tsTemp (m.getD 0 0) - s.tsTemp (m.getD 1 0)).natAbs)
  m.foldl (fun s n =>
    let x := s.thmIn n
    let k := if s.deviates n false then min 255 (x.devN + 1) else 0
    let c := if s.deviates n true then 0 else min 100 (x.calmN + 1)
    let q := if pair then min 255 (x.pairN + 1) else 0
    let s := s.setThmIn n { x with devN := k, calmN := c, pairN := q }
    if pair && decide (xcnt ≤ q) then s.fs (Fld.THM_TS_FLAG_DISAGREE n) 1
    else if decide (3 ≤ m.length) && decide (xcnt ≤ k) then exclude n s
    else if s.suspect n && decide (100 ≤ c) then unexclude n s else s) s

/-- R497: a round without a valid reading in a group breaks the input's runs of rounds. -/
def breakRuns (s : State) : State :=
  (List.range 16).foldl (fun s n =>
    if s.tsValid n && s.fg (Fld.THM_TS_CFG_GROUP n) != 0 then s
    else s.setThmIn n { s.thmIn n with devN := 0, calmN := 0, pairN := 0 }) s

/-! ### Zones (R499 to R503) -/

def State.zoneInputs (s : State) (h : Nat) : List Nat := bitsOf 16 (s.shelfZone h)
/-- R499. -/
def State.zoneTemp (s : State) (h : Nat) : Option Int :=
  ((s.zoneInputs h).filter (fun n => s.tsValid n && !s.suspect n)).foldl (fun (m : Option Int) n =>
    some (match m with | none => s.tsTemp n | some v => max v (s.tsTemp n))) none

/-- R500: the derating fraction at a temperature, 0.1 %. -/
def deratingAt (pts : List (Int × Nat)) (t : Int) : Nat :=
  let rec go : List (Int × Nat) → Nat
    | (t0, f0) :: (t1, f1) :: r =>
      if t ≤ t0 then f0
      else if t < t1 then (ratRound ((f0 : Rat) + ((f1 : Int) - f0 : Int) * ((t - t0 : Int) : Rat) / ((t1 - t0 : Int) : Rat))).toNat
      else go ((t1, f1) :: r)
    | [(_, f)] => f
    | [] => 0
  go pts

def State.zonePoints (s : State) (h : Nat) : List (Int × Nat) :=
  (List.range 8).map (fun k => (s.fgs (ptT h k), s.fg (ptF h k)))

/-- The strings of a zone (R19, R76). -/
def State.zoneStrings (s : State) (h : Nat) : List Nat := s.strings.filter (fun n => s.strShelf n == h)

/-- R501: a limit that has fallen below committed power is a removal. -/
def derateRemoval (h : Nat) (s : State) : State :=
  if (s.zoneStrings h).any s.overDerated then s.removal (.zone h) else s

/-- R503: ZONE shutdown. -/
def zoneShutdown (h : Nat) (s : State) : State :=
  if bitOf (s.fg Fld.THM_STAT_SDZ) h then s
  else
    let s := (s.fs Fld.THM_STAT_SDZ (setBit (s.fg Fld.THM_STAT_SDZ) h true)).driveLine 4
    (s.zoneStrings h).foldl (fun s n => (contactorOpen n (stopStringGroup n s)).removal (.string n)) (s.fs (Fld.THM_Z_STAT_FRAC h) 0)

/-- R502 steps 1 and 2 for a temperature against a level. A level of 0 disables the throttle: it requests nothing. -/
def throttleStep (thr : Nat) (t : Int) (req : Bool) (n : Nat) (enf : Bool) : Bool × Nat × Bool :=
  if thr = 0 then (false, 0, false)
  else
    let n := if (thr : Int) ≤ t then min 3 (n + 1) else 0
    if !req && decide (3 ≤ n) then (true, n, true)
    else if req && !enf && decide (t < (thr : Int) - 50) then (false, n, false)
    else (req, n, false)

def zoneThrottle (h : Nat) (t : Int) (s : State) : State :=
  let z := s.thmZone h
  let r := throttleStep (s.fg (Fld.THM_Z_THR_THR h)) t (bitOf (s.fg Fld.THM_STAT_REQ) h) z.thrN (bitOf (s.fg Fld.THM_STAT_ENF) h)
  let now := s.thm.clock
  let warm := decide ((s.fg (Fld.THM_Z_THR_THR h) : Int) - 50 ≤ t)
  let s := (s.setThmZone h { z with
    thrN := r.2.1, reqAt := if r.2.2 then now else z.reqAt, warmAt := if warm then now else z.warmAt }).fs Fld.THM_STAT_REQ (setBit (s.fg Fld.THM_STAT_REQ) h r.1)
  let s := if r.1 then s else s.fs Fld.THM_STAT_ENF (setBit (s.fg Fld.THM_STAT_ENF) h false)
  if r.2.2 then (s.raise 179).wakeWatch else s

/-- One zone after a round. -/
def zoneRound (h : Nat) (s : State) : State :=
  let s := if s.cpend (.zone h) ∧ (s.zoneInputs h).any s.tsOn then
      ((s.applyStaged (.zone h)).setCommits (s.commits.filter (fun g => !(g == Group.zone h)))) else s
  if s.nshelf ≤ h then s
  else
    let s := if (s.zoneInputs h).any (fun n => decide (3 ≤ (s.thmIn n).sdN)) then zoneShutdown h s else s
    match s.zoneTemp h with
    | none =>
      let s := if s.fb (Fld.THM_Z_STAT_NOSENSE h) then s else (s.fs (Fld.THM_Z_STAT_NOSENSE h) 1).driveLine 25
      derateRemoval h ((s.setThmZone h { s.thmZone h with thrN := 0 }).fs (Fld.THM_Z_STAT_FRAC h) 0)
    | some t =>
      let z := s.thmZone h
      let hist := ((s.thm.clock, t) :: z.hist).filter (fun e => decide (s.thm.clock ≤ e.1 + 600))
      let s := (s.setThmZone h { z with hist := hist }).fs (Fld.THM_Z_STAT_NOSENSE h) 0
      let s := zoneThrottle h t (s.fss (Fld.THM_Z_STAT_TEMP h) t)
      let top := hist.foldl (fun m e => max m e.2) t
      let f := if bitOf (s.fg Fld.THM_STAT_SDZ) h then 0 else deratingAt (s.zonePoints h) top
      derateRemoval h (s.fs (Fld.THM_Z_STAT_FRAC h) f)

/-- R496: STALE of every enabled input that supplies an older conversion. -/
def staleFlags (s : State) : State :=
  (List.range 16).foldl (fun s n =>
    if s.tsOn n ∧ (s.suspect n ∨ !(s.thmIn n).valid) then s.fs (Fld.THM_TS_FLAG_STALE n) 1 else s) s

/-- One round of remote conversions: per input its voltage or ratio, and its temperature (R495). -/
def remoteRound (res : List (Nat × Int)) (s : State) : State :=
  if s.powerState = 0 then s
  else
    let s := s.setThm { s.thm with clock := s.thm.clock + (if s.awake then 1 else 10) }
    let s := (List.range 16).foldl (fun s n =>
      let r := res.getD n (0, 0)
      convert n r.1 r.2 (slotOff n s)) s
    let s := (List.range 8).foldl (fun s g => if g = 0 then s else crossGroup g s) (breakRuns s)
    (List.range 4).foldl (fun s h => zoneRound h s) (staleFlags s)

/-! ### The die sensors -/

def State.dieTemp (s : State) : Int :=
  max (max (s.fgs (Fld.THM_DIE_T0 0)) (s.fgs (Fld.THM_DIE_T1 0))) (max (s.fgs (Fld.THM_DIE_T0 1)) (s.fgs (Fld.THM_DIE_T1 1)))

def dieConvert (t : List Int) (s : State) : State :=
  let s := ((s.fss (Fld.THM_DIE_T0 0) (t.getD 0 0)).fss (Fld.THM_DIE_T1 0) (t.getD 1 0)).fss (Fld.THM_DIE_T0 1) (t.getD 2 0)
  let s := s.fss (Fld.THM_DIE_T1 1) (t.getD 3 0)
  let r := throttleStep (s.fg Fld.THM_DIECFG_TDTHR) s.dieTemp (s.fb Fld.THM_STAT_DREQ) s.thm.dieN (s.fb Fld.THM_STAT_DENF)
  let now := s.thm.dieClk + (if s.awake then 1 else 100)
  let warm := decide ((s.fg Fld.THM_DIECFG_TDTHR : Int) - 50 ≤ s.dieTemp)
  let s := (s.setThm { s.thm with dieN := r.2.1, dieClk := now, dieWarm := if warm then now else s.thm.dieWarm }).fs Fld.THM_STAT_DREQ (boolNat r.1)
  let s := if r.1 then s else s.fs Fld.THM_STAT_DENF 0
  if r.2.2 then (s.raise 179).wakeWatch else s

/-- R495: in DORMANT the die sensors are not converted. -/
def dieRound (t : List Int) (s : State) : State := if s.powerState = 0 then s else dieConvert t s

/-- R503: DIE shutdown, up to its reset. -/
def dieShutdown (s : State) : State :=
  if s.thm.dieSd then s
  else (allContactorsOpen (allGroupsHardStop (s.setThm { s.thm with dieSd := true }))).driveLine 4

/-- R499, R502: a zone's throttle has a level and a temperature to compare. -/
def State.throttles (s : State) (h : Nat) : Bool :=
  s.fg (Fld.THM_Z_THR_THR h) != 0 && !s.fb (Fld.THM_Z_STAT_NOSENSE h)

/-- R502: the grace time of a zone since its request is over. -/
def State.graceOver (s : State) (h : Nat) : Bool :=
  decide ((s.thmZone h).reqAt + 10 * fldOf (s.rd (Reg.THM_Z_THR h)) 16 8 ≤ s.thm.clock)

/-- R502 step 4: the temperature has lain below the level − 5 °C for 60 s; `h` 4 is the die. -/
def State.coolLong (s : State) (h : Nat) : Bool :=
  if h = 4 then decide (s.thm.dieWarm + 6000 ≤ s.thm.dieClk) else decide ((s.thmZone h).warmAt + 600 ≤ s.thm.clock)

/-- R502 step 3; `h` 4 is the die, whose grace time the spec gives no field for: the command says when it is over. -/
def graceExpiry (h : Nat) (s : State) : State :=
  if h = 4 then
    if s.fb Fld.THM_STAT_DREQ ∧ s.fg Fld.THM_DIECFG_TDTHR ≠ 0 ∧ (s.fg Fld.THM_DIECFG_TDTHR : Int) - 50 ≤ s.dieTemp then
      (List.range 4).foldl (fun s h => derateRemoval h s) ((s.fs Fld.THM_STAT_DENF 1).driveLine 25)
    else s
  else if bitOf (s.fg Fld.THM_STAT_REQ) h ∧ s.throttles h = true ∧ s.graceOver h = true ∧ (s.fg (Fld.THM_Z_THR_THR h) : Int) - 50 ≤ s.fgs (Fld.THM_Z_STAT_TEMP h) then
    derateRemoval h ((s.fs Fld.THM_STAT_ENF (setBit (s.fg Fld.THM_STAT_ENF) h true)).driveLine 25)
  else s

/-- R502 step 4. -/
def throttleRelease (h : Nat) (s : State) : State :=
  if h = 4 then
    if s.coolLong 4 = true ∧ s.dieTemp < (s.fg Fld.THM_DIECFG_TDTHR : Int) - 50 then (s.fs Fld.THM_STAT_DREQ 0).fs Fld.THM_STAT_DENF 0 else s
  else if s.throttles h = true ∧ s.coolLong h = true ∧ s.fgs (Fld.THM_Z_STAT_TEMP h) < (s.fg (Fld.THM_Z_THR_THR h) : Int) - 50 then
    (s.fs Fld.THM_STAT_REQ (setBit (s.fg Fld.THM_STAT_REQ) h false)).fs Fld.THM_STAT_ENF
      (setBit (s.fg Fld.THM_STAT_ENF) h false)
  else s

/-- R503: every shutdown input of the zone has been cool for 60 s. -/
def zoneClear (h : Nat) (s : State) : State :=
  let inputs := (s.zoneInputs h).filter (fun n => s.fg (Fld.THM_TS_SD_SD n) != 0 && s.tsOn n)
  if inputs.all (fun n => decide (s.tsTemp n < (s.fg (Fld.THM_TS_SD_SD n) : Int) - 100 ∧ (s.thmIn n).hotAt + 600 ≤ s.thm.clock)) then
    s.fs Fld.THM_STAT_SDZ (setBit (s.fg Fld.THM_STAT_SDZ) h false) else s

/-- R505: TYPE OFF, with the GROUP written beside it. -/
def sensorDisable (n group : Nat) (s : State) : State :=
  s.setThm { s.thm with off := kvSet (fun _ => none) s.thm.off n (some group) }

/-- R498, R504: a read of FLAG ends an exclusion unless the input still deviates. -/
def flagRead (n : Nat) (s : State) : State :=
  let still := s.suspect n && s.tsValid n && s.deviates n false
  let s := s.wr (Reg.THM_TS_FLAG n) (if still then 4 else 0)
  if s.suspect n ∧ !still then unexclude n s else s

/-! ### Commands -/

def execDieConversion (t : List Int) (s : State) : Host.Outcome State Fault Refusal := done s (dieRound t s)

def execRemoteConversion (res : List (Nat × Int)) (s : State) : Host.Outcome State Fault Refusal :=
  done s (remoteRound res s)

def execThrottleGraceExpiry (h : Fin 5) (s : State) : Host.Outcome State Fault Refusal := done s (graceExpiry h s)

def execThrottleRelease (h : Fin 5) (s : State) : Host.Outcome State Fault Refusal := done s (throttleRelease h s)

def execZoneShutdownClear (h : Fin 4) (s : State) : Host.Outcome State Fault Refusal := done s (zoneClear h s)

def execSensorDisable (p : Port) (n : Fin 16) (group : Fin 8) (s : State) : Host.Outcome State Fault Refusal :=
  done s (asWrite p (Reg.THM_TS_CFG n) (okay (sensorDisable n group)) s)

def execThmFlagRead (p : Port) (n : Fin 16) (s : State) : Host.Outcome State Fault Refusal :=
  done s (asRead p (Reg.THM_TS_FLAG n) (fun t => t.rd (Reg.THM_TS_FLAG n)) (flagRead n) s)

def execZonePointCommit (p : Port) (h : Fin 4) (s : State) : Host.Outcome State Fault Refusal :=
  done s (asWrite p (Reg.THM_Z_CTL h) (commitWrite (.zone h)) s)

def execZonePointAbort (p : Port) (h : Fin 4) (s : State) : Host.Outcome State Fault Refusal :=
  done s (asWrite p (Reg.THM_Z_CTL h) (abortWrite (.zone h)) s)

end Sys2Proof.Machine
end

