-- ==== Sys2Proof/Machine/Reset.lean ====
section
/-!
DEFINITION. Device-wide reset (R430 to R434): its sources, what it clears, and its release (R550, R509, R511, R37).
-/
namespace Sys2Proof.Machine

/-! ### Causes (R430) -/

abbrev causePor : Nat := 0x001
abbrev causeAoPor : Nat := 0x002
abbrev causePin : Nat := 0x004
abbrev causeWdH : Nat := 0x008
abbrev causeSw : Nat := 0x040
abbrev causeThermal : Nat := 0x080
abbrev causeEcc : Nat := 0x100
abbrev causeQueen : Nat := 0x200
abbrev causeClkmon : Nat := 0x400
abbrev causeImage : Nat := 0x800

/-- R434: RST_CAUSE, RST_LAST and the RTC's registers lie in the AO domain. -/
def aoAddr (a : Nat) : Bool := decide (a = Reg.RST_CAUSE ∨ a = Reg.RST_LAST ∨ (0x060000 ≤ a ∧ a < 0x070000))

/-- The AO domain after a loss of VAO (R434): the calendar at 0, OSF set and every register at its reset value. -/
def aoClear (s : State) : State :=
  (((s.setRegs (s.regs.filter (fun c => !aoAddr c.1))).setStaging
    (s.staging.filter (fun e => !(e.group == Group.rtc)))).setCommits (s.commits.filter (fun g => !(g == Group.rtc)))).setRtc ⟨0, 0, 0⟩

/-- R432: each reset sets its own bits. -/
def addCause (bits : Nat) (s : State) : State :=
  s.wr Reg.RST_CAUSE (BitVec.ofNat 32 ((s.rd Reg.RST_CAUSE).toNat ||| bits))

/-- What stays while every other field returns to `State.blank` (R434): the AO domain, MRAM and OTP, the levels of input
balls, and, for a source other than POR and AO_POR, SRAM and a DIE shutdown in progress. -/
def keptState (power : Bool) (s : State) : State :=
  { State.blank with
    pending := s.pending
    free := s.free
    regs := s.regs.filter (fun c => aoAddr c.1)
    staging := s.staging.filter (fun e => e.group == Group.rtc)
    commits := s.commits.filter (fun g => g == Group.rtc)
    rtc := s.rtc
    mram := s.mram
    otp := s.otp
    sram := if power then [] else s.sram
    irq := { State.blank.irq with evinLevel := s.irq.evinLevel, evinSeen := s.irq.evinLevel }
    prot := ⟨(s.prot.efu.filter (fun c => !c.2.ball)).map (fun c => (c.1, { efu0 with ball := false })), [], []⟩
    thm := if power then State.blank.thm else { State.blank.thm with dieSd := s.thm.dieSd, dieHeld := s.thm.dieHeld }
    prp := { State.blank.prp with preReset :=
      if power then none else some (s.fg Fld.PRP_STAT_WIDX, (s.rd Reg.PRP_FCNT).toNat) }
    rst := ⟨true, false, power, s.rst.imgSel, s.rst.aoLost⟩ }

/-- R432, R433, R434: a device-wide reset is asserted with these causes. A source that acts while reset is already
asserted sets its bit, and nothing is left to clear unless it is POR or AO_POR. -/
def deviceReset (bits : Nat) (s : State) : State :=
  let ao := bitOf bits 1
  let power := bitOf bits 0 || ao
  let s := if ao then aoClear (s.setRst { s.rst with aoLost := false }) else s
  let s := addCause (if ao then bits ||| 1 else bits) s
  if s.rst.asserted && !power then s
  else
    let s := keptState power s
    s.wr Reg.RST_LAST (if ao then 0 else BitVec.ofNat 32 s.rtc.sec)

/-- R431, R549: RESET_N low. A pulse while POR holds reset is absorbed in the POR. -/
def resetPin (s : State) : State := if s.rst.asserted && s.rst.power then s else deviceReset causePin s

/-! ### Release (R550, R37, R509, R511) -/

/-- R507: the registers of one block slot whose reset value is OTP. -/
def otpInstall (slot : Nat) (s : State) : State :=
  match slot with
  | 0x00 =>
    let s := (s.wr (Reg.ID_UID 0) (s.otpWord 0)).wr (Reg.ID_UID 1) (s.otpWord 1)
    s.wr Reg.ID_FUSE (BitVec.ofNat 32 ((s.otpWord 2).toNat % 512))
  | 0x03 => s.fs Fld.CLK_HFRC_TRIM_TRIM (s.otpWord 0x010).toNat
  | 0x0B => s.wr Reg.TWI_TW0_ADDR (s.otpWord 3)
  | 0x10 => (List.range 20).foldl (fun s n => s.wr (Reg.MTR_CH_GAIN n) (s.otpWord (0x020 + n))) s
  | 0x11 => (s.fs Fld.LDG_KEYX_DONE (s.otpWord 0x180).toNat).fs Fld.LDG_KEYX_XPOL ((s.otpWord 2).toNat / 512)
  | _ => s

/-- The bytes of a run of OTP words (R506). -/
def State.otpBytes (s : State) (w n : Nat) : List Byte := (List.range n).flatMap (fun i => leBytes 4 (s.otpWord (w + i)).toNat)

/-- R506: the CRC-32 of each protected region. -/
def State.factCrc (s : State) : Word := BitVec.ofNat 32 (crc32 (s.otpBytes 0 0xFF))
def State.keyCrc (s : State) : Word := BitVec.ofNat 32 (crc32 (s.otpBytes 0x100 0x7F))

/-- OTP word 0x002 bit 0. -/
def State.life (s : State) : Bool := bitOf (s.otpWord 2).toNat 0

/-- R511: no check runs while LIFE is 0. -/
def otpAlarms (s : State) : State :=
  if !s.life then s
  else (s.fs Fld.OTP_STAT_FACT_ALM (boolNat (s.factCrc != s.otpWord 0xFF))).fs Fld.OTP_STAT_KEY_ALM
    (boolNat (s.keyCrc != s.otpWord 0x17F))

/-- R550 steps 1 and 2: reset is released and the device samples its balls and its fuses. -/
def resetRelease (compat imgSel : Bool) (s : State) : State :=
  if !s.rst.asserted || s.thm.dieHeld then s
  else
    let s := s.setRst { s.rst with asserted := false, imgSel := imgSel }
    let s := clocksStart (s.fs Fld.SYS_PWR_STAT_COMPAT (boolNat compat))
    otpAlarms ([0x00, 0x03, 0x0B, 0x10, 0x11].foldl (fun s b => otpInstall b s) s)

/-- RST_CTL: the key stands with every write. -/
def rstCtlWrite (v : Word) (s : State) : Nat × State :=
  if fldOf v 16 16 ≠ 0xC0DE then (stDecodeErr, s)
  else if bitOf v.toNat 0 then (stOk, deviceReset causeSw s) else (stOk, s)

/-! ### DIE shutdown (R503) -/

/-- 100 ms after a DIE shutdown, or at once in DORMANT, reset is asserted and held. -/
def dieReset (s : State) : State :=
  if s.thm.dieSd then
    let s := deviceReset 0 s
    (s.setThm { s.thm with dieHeld := true })
  else s

def dieEvent (s : State) : State :=
  if s.powerState = 0 then dieReset (s.setThm { s.thm with dieSd := true }) else dieShutdown s

/-- R503, R549: every die sensor has been cool for 1 s of ACLK; reset goes on while RESET_N is low. -/
def thermalRestart (compat imgSel pinLow : Bool) (s : State) : State :=
  if !(s.rst.asserted && s.thm.dieHeld) then s
  else
    let s := addCause causeThermal (s.setThm { s.thm with dieSd := false, dieHeld := false })
    if pinLow then s else resetRelease compat imgSel s

/-! ### Supplies (R534, R536) -/

/-- R514, R516: the word that POR interrupts holds its old value, its new value or neither: the next word of the first
writer in order (DEDUCED, log entry 22). -/
def tornWord (s : State) : State :=
  match ((List.range 8).filterMap (fun w => s.nvm.words.find? (fun x => x.1 == w))).head? with
  | none => s
  | some w =>
    let (c, s) := s.fresh
    if c % 3 = 0 then s
    else if c % 3 = 1 then s.setMramWord w.2.1 w.2.2
    else
      let (v, s) := s.fresh
      s.setMramWord w.2.1 (BitVec.ofNat 32 v)

/-- R534, R434: VIN falls below the re-arm level: the logic stops and SRAM is lost. -/
def vinLoss (s : State) : State := keptState true (if s.rst.asserted then s else tornWord s)

/-- R536: the AO domain stops and its content is lost. -/
def vaoLoss (s : State) : State := aoClear (s.setRst { s.rst with aoLost := true })

/-! ### The queen's RESET frame (R419) -/

def resetFrame (mask code : Nat) (s : State) : State :=
  if s.fb Fld.WGL_CFG_EN && s.fb Fld.WGL_CFG_RRST_EN && s.swarmPos != 0 && code == 0x5AA5 && bitOf mask s.swarmPos
  then deviceReset causeQueen s else s

/-! ### Commands -/

def execPowerOnReset (s : State) : Host.Outcome State Fault Refusal := doneRst (deviceReset causePor s)

def execAoPowerUp (s : State) : Host.Outcome State Fault Refusal := doneRst (deviceReset causeAoPor s)

def execResetPin (s : State) : Host.Outcome State Fault Refusal := doneRst (resetPin s)

def execSoftwareReset (p : Port) (v : Word) (s : State) : Host.Outcome State Fault Refusal :=
  done s (asWrite p Reg.RST_CTL (rstCtlWrite v) s)

def execCriticalEccError (s : State) : Host.Outcome State Fault Refusal := doneRst (deviceReset causeEcc s)

def execDeviceReset (causes : BitVec 12) (s : State) : Host.Outcome State Fault Refusal := doneRst (deviceReset causes.toNat s)

def execResetRelease (compat imgSel : Bool) (s : State) : Host.Outcome State Fault Refusal :=
  doneRst (resetRelease compat imgSel s)

def execDieShutdown (s : State) : Host.Outcome State Fault Refusal := done s (dieEvent s)

def execDieShutdownReset (s : State) : Host.Outcome State Fault Refusal := done s (dieReset s)

def execThermalRestart (compat imgSel pinLow : Bool) (s : State) : Host.Outcome State Fault Refusal :=
  doneRst (thermalRestart compat imgSel pinLow s)

def execVinLoss (s : State) : Host.Outcome State Fault Refusal := doneRst (vinLoss s)

def execVaoLoss (s : State) : Host.Outcome State Fault Refusal := doneRst (vaoLoss s)

def execResetFrameReceived (mask code : BitVec 16) (s : State) : Host.Outcome State Fault Refusal :=
  done s (resetFrame mask.toNat code.toNat s)

end Sys2Proof.Machine
end

