-- ==== Sys2Proof/Machine/Image.lean ====
section
/-!
DEFINITION. Comb images in the device: host operations (R91 to R96), what a load installs (R94, R6, R13), the boot-time
load (R89, R90) and the integrity scrub (R97).
-/
namespace Sys2Proof.Machine

/-! ### What an image gives the registers (reset IMG) -/

/-- R42, R46, R82: the window of one tile. An FSM tile starts in INIT (R83), with every input enabled. -/
def installTile (x : ImgTile) (s : State) : State :=
  let n := x.tile
  let w := fun a v (s : State) => s.wr a (BitVec.ofNat 32 v)
  let s := w (tileBase n) (x.kind + 16 * x.domain + 256 * x.dsel + 65536 * x.div) s
  let s := w (Reg.CMB_T_IN n) (x.ins.getD 0 0 + 65536 * x.ins.getD 1 0) s
  let s := w (Reg.CMB_T_IN2 n) (x.ins.getD 2 0 + 65536 * x.ins.getD 3 0) s
  if x.kind = 4 then
    let i := s.fsmByte n 1
    w (tileBase n + 0x40) i (w (tileBase n + 0x48) 0xFFFF (w (tileBase n + 0x4C) i s))
  else x.params.zipIdx.foldl (fun s v => w (tileBase n + 0x40 + 4 * v.2) v.1 s) s

/-- R7: the windows of the tiles that the image leaves unused read 0. -/
def installTiles (s : State) : State :=
  let s := ((s.resetRegs 0x200000 0x240000).setTiles []).setCaps (kvClear s.caps 0x200000 0x240000)
  (imgTiles (s.sec secTiles)).foldl (fun s x => installTile x s) s

/-- R270. -/
def perOf (f : Nat) : Nat := if f = 0 then 0 else (2 * 400000000 + f) / (2 * f)

/-- R270: the words of a group, and the period in force of a group that runs on its own oscillator. -/
def installGroup (g : Nat) (s : State) : State :=
  let c := s.sec secConverter
  let ty := convType c g
  if ty = 0 then s
  else
    let s := s.wr (Reg.CNV_CG_CFG g) (BitVec.ofNat 32 (ty + 4 * s.grpPhases g + 64 * boolNat (s.grpSyncIn g) +
      256 * s.grpTarget g + 65536 * perOf (s.grpFsw g)))
    s.fs (Fld.CNV_CG_PER_P g) (32 * s.fg (Fld.CNV_CG_CFG_PER g))

/-- The words of a SEQUENCE step, up or down (R80). -/
def installStep (base o : Nat) (q : List Byte) (s : State) : State :=
  let s := s.wr base (BitVec.ofNat 32 (byteAt q o + 256 * byteAt q (o + 1)))
  let s := s.wr (base + 4) (BitVec.ofNat 32 (u32At q (o + 2)))
  s.wr (base + 8) (BitVec.ofNat 32 (u16At q (o + 6)))

def installSequence (s : State) : State :=
  let q := s.sec secSequence
  let u := u16At q 0
  let d := u16At q 2
  let s := (s.resetRegs (Reg.SEQ_UP_STEP 0) (Reg.SEQ_UP_STEP 0 + 0x300)).resetRegs (Reg.SEQ_DN_STEP 0) (Reg.SEQ_DN_STEP 0 + 0x300)
  let s := (s.fs Fld.SEQ_OUT_NUP u).fs Fld.SEQ_OUT_NDN d
  let s := (List.range u).foldl (fun s i => installStep (Reg.SEQ_UP_STEP i) (4 + 8 * i) q s) s
  let s := (List.range d).foldl (fun s i => installStep (Reg.SEQ_DN_STEP i) (4 + 8 * (u + i)) q s) s
  (List.range 32).foldl (fun s k =>
    let o := 4 + 8 * (u + d) + 8 * k
    (s.wr (Reg.SEQ_R_UV k) (BitVec.ofNat 32 (u32At q o))).wr (Reg.SEQ_R_OV k) (BitVec.ofNat 32 (u32At q (o + 4)))) s

/-- R80: the set-points stand behind the supervision records. -/
def State.setPoint (s : State) (k : Nat) : Nat :=
  let q := s.sec secSequence
  u16At q (4 + 8 * (u16At q 0 + u16At q 2) + 256 + 4 * k)

/-- The registers of one block slot whose reset value is IMG. -/
def imageInstall (slot : Nat) (s : State) : State :=
  let w := fun a v (s : State) => s.wr a (BitVec.ofNat 32 v)
  let r32 := List.range 32
  match slot with
  | 0x00 => s.fs Fld.SYS_PROFILE_PROFILE (byteAt (s.sec secProfile) 0)
  | 0x0E => ((s.fs Fld.WGL_CFG_POS s.swarmPos).fs Fld.WGL_CFG_QUEEN (boolNat (s.swarmPos == 0))).fs Fld.WGL_STAT_DUP 0
  | 0x10 =>
    let s := (s.fs Fld.MTR_STAT_RATE (rateOf (s.fg Fld.SYS_PROFILE_PROFILE))).fs Fld.MTR_STAT_WORKER (boolNat (s.swarmPos != 0))
    let s := s.fs Fld.MTR_TONE_TRK_EN (maskOf 20 (fun n => s.chUsed n && volt n && decide (s.chTs n ≤ 15)))
    (List.range 20).foldl (fun s n =>
      if !s.chUsed n then s else w (Reg.MTR_CH_TRK n) (if volt n then s.chNominal n else 1000 * s.chNominal n) s) s
  | 0x11 => w Reg.LDG_ASSIGN s.imageAssign s
  | 0x12 => w Reg.ORD_BROOD_P s.broodPower (w Reg.ORD_BROOD_E s.broodEnergy (w Reg.ORD_AC_CAP s.acRating
      (w Reg.ORD_BUS_CAP s.busRating s)))
  | 0x14 => (List.range 12).foldl (fun s g => installGroup g s) s
  | 0x15 => (List.range 8).foldl (fun s k => s.fs (Fld.RGL_R_SET_SET k) (s.setPoint k)) s
  | 0x16 => installSequence s
  | 0x17 =>
    let s := (r32.take 8).foldl (fun s c => w (Reg.EFU_CH_SOA c) (s.efuSoa c)
      (w (Reg.EFU_CH_LIM c) (s.efuLimit c + 65536 * s.efuTimer c) s)) s
    (r32.take 3).foldl (fun s f =>
      if s.feedCount f = 0 then s
      else w (Reg.EFU_F_DEAD f) (s.feedDead f) (w (Reg.EFU_F_MEMB f) (u32At (s.sec secFeeds) (8 * f + 1) % 2 ^ 24 +
        2 ^ 24 * s.feedCount f) s)) s
  | 0x19 => s.modules.foldl (fun s m =>
      if s.modCells m = 0 then s
      else
        let s := w (Reg.EST_M_LCAP m) (100 * s.modCapacity m + 2 ^ 24 * 200) s
        (s.fs (Fld.EST_M_HLTH_SOH m) 1000).fs (Fld.EST_M_HLTH_RCELL m) (curveRcell (s.modCurveB m))) s
  | _ => s
where
  /-- MC8 to MC15, MC16 and MC18 measure voltage (R139). -/
  volt (n : Nat) : Bool := decide ((8 ≤ n ∧ n ≤ 15) ∨ n = 16 ∨ n = 18)

/-- R6: the registers of the fixed-map instances that the image leaves unused return to their reset values: strings,
groups, phases, ports, feeds, zones, modules and channels. -/
def clearUnused (s : State) : State :=
  let f := fun n (used : Nat → Bool) base size (s : State) =>
    (List.range n).foldl (fun s i => if used i then s else s.resetRegs (base + size * i) (base + size * (i + 1))) s
  let ph := (List.range 12).foldl (fun m g => m ||| grpMaskOf (s.sec secConverter) g) 0
  let s := f 8 s.strUsed (Reg.EFU_S_KCTL 0) 16 (f 8 s.strUsed (Reg.CHG_S_LIM 0) 32 s)
  let s := f 8 s.strUsed (Reg.EST_S_EEST 0) 32 (f 8 s.strUsed (Reg.ORD_S_EADM 0) 16 s)
  let grp := fun g => s.grpType g != 0
  let s := f 12 grp (Reg.CNV_CG_CFG 0) 64 (f 12 grp (Reg.CHG_CG_MPPT 0) 32 s)
  let s := f 32 (bitOf ph) (Reg.CNV_PH_ON 0) 16 (f 6 s.rtUsed (Reg.CNV_RT_TMIN 0) 32 s)
  let s := f 3 (fun k => s.feedCount k != 0) (Reg.EFU_F_CFG 0) 32 s
  let s := f 4 (fun h => decide (h < s.nshelf)) (Reg.THM_Z_THR 0) 64 s
  let s := f 128 s.modUsed (Reg.EST_M_SOC 0) 32 s
  let s := f 10 s.setUsed (Reg.MTR_SET_QIN_LO 0) 64 s
  let s := s.setMtr { s.mtr with
    resid := s.mtr.resid.filter (fun r => s.setUsed (r.1 / 4)), trk := s.mtr.trk.filter (fun t => s.chUsed t.1) }
  otpInstall 0x10 (f 20 s.chUsed (Reg.MTR_CH_DATA 0) 32 s)

/-- R94 step 3 and R65: every staging empties, and what is accepted and not applied is dropped. -/
def emptyStaging (s : State) : State :=
  let s := s.commits.foldl (fun s g => dropGroup g s) s
  let s := match s.joint with
    | some _ => (((s.setJoint none).fs Fld.CMB_JC_STAT_PEND 0).fs Fld.CMB_JC_STAT_ABANDONED 1).raise 192
    | none => s
  (s.setStaging [])

/-- R94 step 4: the image takes effect. The estimator and the ledger start afresh after it (R550 step 5), and a duplicate
position ends its silence (R410). -/
def installImage (b : List Byte) (src : Nat) (s : State) : State :=
  let s := emptyStaging (s.setEst { s.est with host := [] })
  let s := (s.fs Fld.LDG_STAT_RUN 0).setLdg { s.ldg with closeReq := false }
  let im := parseImage b
  let had := s.rtUsed
  let s := (s.setImage (some im)).setPub []
  let s := installTiles (clearUnused s)
  let s := [0x00, 0x0E, 0x10, 0x11, 0x12, 0x14, 0x15, 0x16, 0x17, 0x19].foldl (fun s n => imageInstall n s) s
  let s := (s.wr Reg.CMB_IMG_SERIAL (BitVec.ofNat 32 im.serial)).wr Reg.CMB_IMG_VER (BitVec.ofNat 32 (im.verMinor + 65536 * im.verMajor))
  let s := ((s.fs Fld.CMB_STAT_STATE 1).fs Fld.CMB_STAT_SOURCE (src + 1)).fs Fld.CMB_STAT_TILES im.tiles
  let s := s.wr Reg.CMB_REF_CRC (Config.refCrc b)
  let s := (s.fs Fld.EST_STAT_RUN 0).fs Fld.WGL_STAT_DUP 0
  let s := (List.range 4).foldl (fun s n => s.fs (Fld.SEQ_RSTO_STAT_ASSERTED n) 1) s
  let s := (s.setSeqr { s.seqr with boot := 15 }).setMtr { s.mtr with known := [], newRate := none }
  let s := shareBegin (fun p => !had p) s
  let s := fullResume (scaleUpdate s)
  let s := if s.fb Fld.CLK_STAT_HFXO_OK then classUpdate (s.fs Fld.MTR_STAT_TB 2) else s
  s.logEvent 0x0A im.serial (src + 1) false

/-! ### Host operations (R91 to R96) -/

/-- An operation runs: of the comb, or of the NVC block (R522). -/
def State.opRuns (s : State) : Bool := s.loading || s.fb Fld.NVC_STAT_BUSY

/-- R91: what a LOAD asks for beyond VERIFY; the Scout is at P0 when its LEVEL is 0 and its PHASE IDLE (DEDUCED, log
entry 26). -/
def State.loadReady (s : State) : Bool :=
  s.powerState == 2 && s.ord.submitted.isEmpty && !s.ord.orders.any (fun o => decide (2 ≤ o.state ∧ o.state ≤ 4)) &&
  (List.range 32).all (fun q => s.qCount q == 0) && s.level == 0 && s.phase == phIdle && !(List.range 8).any s.charging &&
  !s.contactorBusy && s.commits.isEmpty && s.joint.isNone

/-- R93: what CMB_LOAD_STAT records of an operation that has ended; EV191 as BUSY clears (R94). -/
def loadResult (r : Option Finding) (s : State) : State :=
  let f := r.getD ⟨0, 0, 0, false⟩
  let s := ((s.fs Fld.CMB_LOAD_STAT_BUSY 0).fs Fld.CMB_LOAD_STAT_RESULT f.code).fs Fld.CMB_LOAD_STAT_SECTION f.sec
  ((s.fs Fld.CMB_LOAD_STAT_MISSING (boolNat f.missing)).fs Fld.CMB_LOAD_STAT_DETAIL f.ent).raise 191

/-- The words of a run of bytes, for one writer of R516. -/
def wordsFor (w base : Nat) (b : List Byte) : List (Nat × Nat × Word) := (byteWords base b).map (fun x => (w, x.1, x.2))

/-- R88, R519: a record that describes `b`. -/
def makeRecord (seq : Nat) (b : List Byte) : List Byte :=
  let r := leBytes 4 seq ++ leBytes 4 b.length ++ sha256 b
  r ++ leBytes 4 (crc32 r)

/-- R96 steps 1 and 2: the COMMIT word, then the image. -/
def programStart (k : Nat) (b : List Byte) (s : State) : State :=
  ((s.fs Fld.CMB_LOAD_STAT_BUSY 1).setNvm { s.nvm with
      words := s.nvm.words ++ [(wProgram, slotRec k + 44, 0)] ++ wordsFor wProgram (slotAt k) b
      prog := some (k, b) })

/-- R96 steps 3 to 5, once the words before have been written. Where the read-back differs the spec names no code: the
RESULT is a free value. -/
def programStep (s : State) : State :=
  match s.nvm.prog with
  | none => s
  | some (_, []) => loadResult none (s.setNvm { s.nvm with prog := none })
  | some (k, b) =>
    if s.mramBytes (slotAt k) b.length = b then
      let rec_ := makeRecord (s.slotSeq (1 - k) + 1) b
      (s.setNvm { s.nvm with
          words := s.nvm.words ++ wordsFor wProgram (slotRec k) rec_ ++ [(wProgram, slotRec k + 44, BitVec.ofNat 32 slotCommit)]
          prog := some (k, []) })
    else
      let (v, s) := s.fresh
      loadResult (some ⟨v % 16, 0, 0, false⟩) (s.setNvm { s.nvm with prog := none })

/-- A write of CMB_LOAD_CTL: OP and SRC, and with GO the operation (R91). Slot sources are 1 A and 2 B. -/
def loadCtl (op src : Nat) (go : Bool) (s : State) : Nat × State :=
  let cond := !s.opRuns && (match op with
    | 0 => true
    | 1 => s.loadReady
    | _ => !(s.slotValid (op - 2) && !s.slotValid (3 - op)))
  if go && !cond then (stHeld, s)
  else if src = 0 ∨ (go ∧ 2 ≤ op ∧ src = op - 1) then (stDecodeErr, s)
  else
    let s := (s.fs Fld.CMB_LOAD_CTL_OP op).fs Fld.CMB_LOAD_CTL_SRC src
    if !go then (stOk, s)
    else
      let s := if op = 1 then s.fs Fld.CMB_STAT_STATE 2 else s
      (stOk, (s.fs Fld.CMB_LOAD_STAT_BUSY 1).setNvm { s.nvm with load := some (op, src - 1, none) })

/-- The operation ends: a LOAD that failed leaves the image in force as it was (R94). -/
def loadEnd (r : Option Finding) (s : State) : State :=
  loadResult r ((s.setNvm { s.nvm with load := none }).fs Fld.CMB_STAT_STATE (boolNat s.image.isSome))

/-- R94 step 3: the tiles stop, staging empties, and the open intervals close at that strobe (R176). -/
def loadStop (src : Nat) (b : List Byte) (s : State) : State :=
  ledgerClose true false (emptyStaging (s.setNvm { s.nvm with load := some (1, src, some b) }))

/-- The next step of the operation in progress: the checks of R93, and for a LOAD that passed them step 3; then, once the
ledger's close is complete (R195) and no write of learned values runs (R361), steps 4 and 5. -/
def loadStep (op : Nat) (s : State) : State :=
  match s.nvm.load with
  | some (o, src, none) =>
    if o ≠ op then s
    else match checkSource src s, op with
      | .inl f, _ => loadEnd (some f) s
      | .inr _, 0 => loadEnd none s
      | .inr b, 1 => loadStop src b s
      | .inr b, _ => programStart (op - 2) b (s.setNvm { s.nvm with load := none })
  | some (o, src, some b) =>
    if o ≠ op ∨ s.fb Fld.LDG_STAT_CLOSING ∨ s.fb Fld.EST_NV_WRITING then s
    else loadEnd none (installImage b src s)
  | none => s

/-- A row of an image operation: the host's GO through a port, or, with `run`, the device's next step of it (log entry
21). -/
def loadCmd (op : Nat) (p : Port) (src : Nat) (run : Bool) (s : State) : State :=
  if run then loadStep op s else asWrite p Reg.CMB_LOAD_CTL (loadCtl op src true) s

/-! ### Boot-time load (R89, R90) -/

/-- R507: OTP word 0x002 [2:1]. -/
def State.imgPolicy (s : State) : Nat := (s.otpWord 2).toNat / 2 % 4

/-- R89: the slots that the policy tries, in order. -/
def State.bootSlots (s : State) : List Nat := match s.imgPolicy with
  | 0 => [0, 1]
  | 1 => if s.slotSeq 0 < s.slotSeq 1 then [1, 0] else [0, 1]
  | 2 => if s.rst.imgSel then [1] else [0]
  | _ => [0]

def bootResult (k code : Nat) (s : State) : State :=
  if k = 0 then s.fs Fld.CMB_BOOT_STAT_RES_A code else s.fs Fld.CMB_BOOT_STAT_RES_B code

def bootTry : List Nat → State → State
  | [], s => s
  | k :: r, s => match checkSource k s with
    | .inl f => bootTry r (bootResult k f.code s)
    | .inr b =>
      let s := (installImage b k (bootResult k 0 s)).fs Fld.CMB_BOOT_STAT_CHOSEN (k + 1)
      s.setPwr { s.pwr with upDue := s.fb Fld.SEQ_CFG_AUTOUP }

/-- R89: the load that follows the start of the firmware; a slot not tried records 0xF. -/
def bootLoad (s : State) : State :=
  if !s.rst.firmware || s.image.isSome then s
  else bootTry s.bootSlots (bootResult 0 15 (bootResult 1 15 (s.fs Fld.CMB_BOOT_STAT_CHOSEN 0)))

/-- R97: a pass finds a mismatch with the reference CRC, or none. -/
def scrubPass (mismatch : Bool) (s : State) : State :=
  if mismatch && s.image.isSome then deviceReset causeImage s else s

/-! ### Commands -/

def execImageVerify (p : Port) (src : Fin 4) (run : Bool) (s : State) : Host.Outcome State Fault Refusal :=
  done s (loadCmd 0 p src run s)

def execImageLoad (p : Port) (src : Fin 4) (run : Bool) (s : State) : Host.Outcome State Fault Refusal :=
  done s (loadCmd 1 p src run s)

def execImageProgramA (p : Port) (src : Fin 4) (run : Bool) (s : State) : Host.Outcome State Fault Refusal :=
  done s (loadCmd 2 p src run s)

def execImageProgramB (p : Port) (src : Fin 4) (run : Bool) (s : State) : Host.Outcome State Fault Refusal :=
  done s (loadCmd 3 p src run s)

def execBootImageLoad (s : State) : Host.Outcome State Fault Refusal := done s (bootLoad s)

def execIntegrityScrubPass (mismatch : Bool) (s : State) : Host.Outcome State Fault Refusal := done s (scrubPass mismatch s)

end Sys2Proof.Machine
end

