-- ==== Sys2Proof/Machine/Propolis.lean ====
section
/-!
DEFINITION. The propolis log (R438 to R446): the ring, the event log with its delivery, and waveform records.
-/
namespace Sys2Proof.Machine

/-! ### Keys (R440) -/

def State.kPrp (s : State) : List Byte := hmac256 s.kDev (ascii "AXL7600-PRP" ++ s.uidBytes)

/-! ### The ring (R438, R439) -/

abbrev ringFrames : Nat := 49152
def ringAt (i : Nat) : Nat := 0x800000 + 64 * (i % ringFrames)

/-- The accumulator set of a channel (R142). -/
def setOfChannel (n : Nat) : Nat := if n < 16 then n % 8 else n / 2

/-- R438: a frame from the channel codes, the channels that are invalid, and the frame count. -/
def frameBytes (codes : List Int) (invalid count : Nat) : List Byte :=
  (List.range 20).flatMap (fun n => leBytes 3 (if bitOf invalid n then 0 else ofSigned 24 (codes.getD n 0))) ++
  leBytes 4 (invalid + 2 ^ 20 * (count % 4096))

/-- The pre-reset frames wait for their record, and the ring stands still (R443). -/
def State.ringWaits (s : State) : Bool := s.prp.preReset.isSome && (match s.prp.capt with
  | some c => c.trig == 5
  | none => false)

/-- R148: the strobes' results that one frame takes. -/
def State.feedSize (s : State) : Nat := match s.fg Fld.MTR_STAT_RATE with | 3 => 2 | 4 => 4 | _ => 1

/-- R438, R148: one frame of the 4 kS/s feed: the mean of the results since the frame before, rounded under R47 (DEDUCED,
log entry 28). A channel with a saturated result among them is invalid. -/
def ringFrame (s : State) : State :=
  let rs := s.mtr.feed.take s.feedSize
  let codes := (List.range 20).map (fun n => divRound ((rs.map (fun r => r.getD n 0)).foldl (· + ·) 0) rs.length)
  if rs.length < s.feedSize || !s.fullRate || !s.awake || !s.fb Fld.PRP_CFG_RUN || s.ringWaits || bitOf (s.rd Reg.RST_BSTAT).toNat 0x1A then s
  else
    let i := (s.fg Fld.PRP_STAT_WIDX + 1) % ringFrames
    let f := ((s.rd Reg.PRP_FCNT).toNat + 1) % 2 ^ 32
    let bad := maskOf 20 (fun n => !s.chUsed n || rs.any (fun r => saturated (r.getD n 0)) || s.setClass (setOfChannel n) == classU)
    let s := s.setMtr { s.mtr with feed := s.mtr.feed.drop s.feedSize }
    let s := s.setSramBytes (ringAt i) (frameBytes codes bad f)
    (s.fs Fld.PRP_STAT_WIDX i).wr Reg.PRP_FCNT (BitVec.ofNat 32 f)

/-! ### The event log (R441, R442) -/

abbrev eventSlots : Nat := 16384
def eventAt (e : Nat) : Nat := 0x580000 + 32 * (e % eventSlots)
def State.eventTag (s : State) (b : List Byte) : List Byte := (hmac256 s.kPrp (b.take 24)).take 8

/-- SEQ of a valid entry; 0 for an empty slot. -/
def State.eventSeq (s : State) (e : Nat) : Nat :=
  let b := s.mramBytes (eventAt e) 32
  if u32At b 0 = 0 then 0 else if b.drop 24 = s.eventTag b then u32At b 0 else 0

/-- R442: the scan for the highest valid SEQ at the start of the PRP block. -/
def eventScan (s : State) : State :=
  if !s.rst.firmware || s.prp.scanned then s
  else
    let r := (List.range eventSlots).foldl (fun (m : Nat × Nat) e =>
      let q := s.eventSeq e
      if m.1 < q then (q, e + 1) else m) (0, 0)
    (s.wr Reg.PRP_EVSEQ (BitVec.ofNat 32 r.1)).setPrp { s.prp with scanned := true, evSlot := r.2 % eventSlots }

/-- R400, R442: may a log write start? -/
def State.logWrites (s : State) : Bool := s.rst.firmware && s.prp.scanned && s.powerState != 0 && !s.seqr.noLog

/-- R441: the 32 bytes of an entry. -/
def eventBytes (v : EvEntry) (s : State) : List Byte :=
  let b := leBytes 4 ((s.rd Reg.PRP_EVSEQ).toNat + 1) ++ leBytes 4 v.sec ++ leBytes 2 v.ticks ++ leBytes 1 v.code ++
    leBytes 1 (boolNat v.ttrust + 2 * boolNat v.merged) ++ leBytes 4 s.epoch ++ leBytes 4 v.arg0 ++ leBytes 4 v.arg1
  b ++ s.eventTag b

/-- R441: the oldest waiting entry goes to MRAM, its tag behind the rest. -/
def eventBegin (s : State) : State :=
  match s.logWrites, s.prp.queue with
  | true, v :: _ => nvIssue wLog (byteWords (eventAt s.prp.evSlot) (eventBytes v s)) s
  | _, _ => s

/-- R441: the entry has been written; with BQEN set it goes to the report queue too. -/
def eventDone (s : State) : State :=
  let b := s.mramBytes (eventAt s.prp.evSlot) 32
  let s := (s.wr Reg.PRP_EVSEQ (BitVec.ofNat 32 (u32At b 0))).setPrp { s.prp with
    queue := s.prp.queue.drop 1
    evSlot := (s.prp.evSlot + 1) % eventSlots
    deliver := if s.fb Fld.PRP_CFG_BQEN then s.prp.deliver ++ [b] else s.prp.deliver }
  s.raise 190

/-- R441: one command begins the write of an entry, and another completes it. -/
def eventWrite (s : State) : State := nvRun wLog eventBegin eventDone s

/-- R131, R441: a held entry goes to BQ(PRP_CFG.BQ) once it has room; a full ring sets OVF. -/
def bqDelivery (s : State) : State :=
  let q := 60 + s.fg Fld.PRP_CFG_BQ
  match s.prp.deliver with
  | [] => s
  | b :: rest =>
    if !s.qEnabled q then s
    else if s.qRoom q = 0 then s.fs (Fld.SYS_Q_STAT_OVF q) 1
    else qPush q b (s.setPrp { s.prp with deliver := rest })

/-! ### Waveform records (R443 to R446) -/

abbrev waveCommit : Nat := 0x9E371B5D
def waveAt (w : Nat) : Nat := 0x400000 + 0x80000 * w
def State.waveTag (s : State) (b : List Byte) : List Byte := (hmac256 s.kPrp b).take 16

/-- R445: a slot is valid. -/
def State.waveValid (s : State) (w : Nat) : Bool :=
  s.mramWord (waveAt w + 0x7D110) == BitVec.ofNat 32 waveCommit &&
  s.mramBytes (waveAt w + 0x7D100) 16 == s.waveTag (s.mramBytes (waveAt w) 0x7D100)

def waveFlags (s : State) : State := s.fs Fld.PRP_REC_LOCK_VALID (maskOf 3 s.waveValid)

/-- Code of channel `n` in a ring frame; none where the frame marks it invalid. -/
def frameCode (f : List Byte) (n : Nat) : Option Int :=
  if bitOf (u32At f 60) n then none else some (toSigned 24 (byteAt f (3 * n) + 256 * byteAt f (3 * n + 1) + 65536 * byteAt f (3 * n + 2)))

/-- R443: a record frame, the mean of four ring frames. -/
def meanFrame (fs : List (List Byte)) (count : Nat) : List Byte :=
  let bad := maskOf 20 (fun n => fs.any (fun f => (frameCode f n).isNone))
  frameBytes ((List.range 20).map (fun n => divRound ((fs.map (fun f => (frameCode f n).getD 0)).foldl (· + ·) 0) 4)) bad count

/-- What a capture takes from the ring: the ring index and frame count at its end, the ring frames before and after the
trigger (R443, R446); none while frames are still due. -/
def State.waveSpan (s : State) (c : Capture) : Option (Nat × Nat × Nat × Nat) :=
  let pre := 400 * s.fg Fld.PRP_CFG_PRE
  let whole := fun n => n / 4 * 4
  match c.trig == 5, s.prp.preReset with
  | true, some (w, f) => some (w, f, whole (min 32000 f), 0)
  | _, _ =>
    let now := (s.rd Reg.PRP_FCNT).toNat
    let since := (c.ended.getD now + 2 ^ 32 - c.fcnt) % 2 ^ 32
    let due := 32000 - pre
    if c.ended.isNone && decide (since < due) then none
    else
      let post := min due since
      let last := (c.fcnt + whole post) % 2 ^ 32
      let w := (s.fg Fld.PRP_STAT_WIDX + 2 ^ 32 * ringFrames - (now + 2 ^ 32 - last) % 2 ^ 32) % ringFrames
      some (w, last, whole (min pre c.fcnt), whole post)

/-- R444: the slot's bytes up to its tag. -/
def waveBody (c : Capture) (seq : Nat) (span : Nat × Nat × Nat × Nat) (s : State) : List Byte :=
  let (w, f, pre, post) := span
  let n := (pre + post) / 4
  let hdr := leBytes 1 1 ++ leBytes 1 c.trig ++ leBytes 2 c.trigCnt ++ leBytes 4 seq ++ leBytes 4 c.sec ++ leBytes 2 c.ticks ++
    leBytes 1 (boolNat c.ttrust + 2 * boolNat (decide (n < 8000))) ++ leBytes 1 0 ++ leBytes 4 c.epoch ++ leBytes 4 n ++
    leBytes 4 (min (pre / 4) (n - 1)) ++ leBytes 4 c.arg ++ leBytes 4 c.cls ++ List.replicate 220 0
  let back := fun k => (w + 32 * ringFrames - k) % ringFrames
  let frames := (List.range n).flatMap (fun i =>
    let k := pre + post - 4 * (i + 1)
    meanFrame ((List.range 4).map (fun j => s.sramBytes (ringAt (back (k + 3 - j))) 64)) (f + 2 ^ 32 - k))
  hdr ++ frames ++ List.replicate (64 * (8000 - n)) 0

/-- R445: COMMIT as 0, the header and the frames, TAG, COMMIT. -/
def waveWords (w : Nat) (b : List Byte) (s : State) : List (Nat × Word) :=
  [(waveAt w + 0x7D110, (0 : Word))] ++ byteWords (waveAt w) (b ++ s.waveTag b ++ leBytes 4 waveCommit)

/-- R445: the writing of a record starts once its frames are complete. The slot's old record is invalid from then on. -/
def waveBegin (s : State) : State :=
  if !(s.rst.firmware && s.powerState != 0 && !s.seqr.noLog) then s
  else match s.prp.capt with
  | none => s
  | some c => match s.waveSpan c with
    | none => s
    | some span =>
      let seq := max (max (s.waveSeq 0) (s.waveSeq 1)) (s.waveSeq 2) + 1
      nvIssue wWave (waveWords c.slot (waveBody c seq span s) s)
        (s.fs Fld.PRP_REC_LOCK_VALID (setBit (s.fg Fld.PRP_REC_LOCK_VALID) c.slot false))

/-- R445: the record is in MRAM. A trigger that merged while it was being written counts in TRIGCNT too (R446): the record
is then written again with the new count (DEDUCED, log entry 29). -/
def waveDone (s : State) : State :=
  match s.prp.capt with
  | none => s
  | some c =>
    let b := s.mramBytes (waveAt c.slot) 0x7D100
    if u16At b 2 ≠ c.trigCnt then nvIssue wWave (waveWords c.slot (b.take 2 ++ leBytes 2 c.trigCnt ++ b.drop 4) s) s
    else
      let s := s.fs Fld.PRP_REC_LOCK_VALID (setBit (s.fg Fld.PRP_REC_LOCK_VALID) c.slot true)
      ((s.fs Fld.PRP_STAT_CAPT 0).setPrp { s.prp with
        capt := none, preReset := if c.trig = 5 then none else s.prp.preReset }).raise 189

/-- R445: one command begins the writing of a record, and another completes it. -/
def waveSeal (s : State) : State := nvRun wWave waveBegin waveDone s

/-- PRP_CTL: a HOST trigger, and a mark. -/
def prpCtl (trig mark : Bool) (s : State) : State :=
  let s := if trig then s.waveTrigger 6 0 else s
  if mark then s.logEvent 0x09 (s.rd Reg.PRP_MARK).toNat 0 false else s

/-! ### Commands -/

def execRingFrameWrite (s : State) : Host.Outcome State Fault Refusal := done s (ringFrame s)

def execEventEntryWrite (s : State) : Host.Outcome State Fault Refusal := done s (eventWrite s)

def execBqDelivery (s : State) : Host.Outcome State Fault Refusal := done s (bqDelivery s)

def execEventLogScan (s : State) : Host.Outcome State Fault Refusal := done s (eventScan s)

def execWaveformSeal (s : State) : Host.Outcome State Fault Refusal := done s (waveSeal s)

def execWaveformHostTrigger (p : Port) (s : State) : Host.Outcome State Fault Refusal :=
  done s (asWrite p Reg.PRP_CTL (okay (prpCtl true false)) s)

def execHostMark (p : Port) (s : State) : Host.Outcome State Fault Refusal :=
  done s (asWrite p Reg.PRP_CTL (okay (prpCtl false true)) s)

end Sys2Proof.Machine
end

