-- ==== Sys2Proof/Machine/BlockReset.lean ====
section
/-!
DEFINITION. Block reset and isolation (R435, R436, R457, R65, R69), and the FLT controls (R422, R428).
-/
namespace Sys2Proof.Machine

/-- R435: the blocks that RST_BLK may name: TMR, THM, CAN, WGL, MTR, LDG, ORD, SCT, CNV, CHG, EST, PRP. -/
def resettable : List Nat := [0x05, 0x0A, 0x0D, 0x0E, 0x10, 0x11, 0x12, 0x13, 0x14, 0x18, 0x19, 0x1A]

/-- R436 step 3, R13: the registers of a block at their reset values, with those that fuses and the image give. -/
def slotReset (n : Nat) (s : State) : State :=
  let s := s.resetRegs (65536 * n) (65536 * n + 65536)
  let s := s.setCaps (kvClear s.caps (65536 * n) (65536 * n + 65536))
  otpInstall n (if s.image.isSome then imageInstall n s else s)

/-- The words `keep` of a state as they were before a reset. -/
def keepWords (keep : List Nat) (old s : State) : State := keep.foldl (fun s a => s.wr a (old.rd a)) s

/-- R161: with the accumulators at zero, whoever counts from an earlier reading counts from zero. -/
def readingsRestart (s : State) : State :=
  let q : KV EStr := s.est.strs.map (fun e =>
    let d := s.netCharge e.1
    let f : Option Span → Option Span := fun o => o.map (fun x => { x with q := x.q - d })
    (e.1, { e.2 with q := e.2.q - d, span := f e.2.span, cand := f e.2.cand }))
  let net : KV Int → KV Int := fun m => m.map (fun e => (e.1, e.2 - s.netEnergy e.1))
  ((s.setEst { s.est with strs := q }).setOrd
    { s.ord with lastNet := net s.ord.lastNet, slotNet := net s.ord.slotNet }).setSct { s.sct with lastNet := net s.sct.lastNet }

/-- The meter in reset: its intervals closed early at the last strobe, its accumulators at zero (R161, R176). From that
strobe on time is credited on ACLK, in class U (R183). -/
def meterReset (s : State) : State :=
  let s := if s.fullRate then aclkTo s.strobeSub s else s
  classUpdate ((slotReset 0x10 (accRestart (readingsRestart (ledgerClose true false s)))).setMtr State.blank.mtr)

/-- The order engine in reset: a discard-all has begun (R228), and the epoch stands. -/
def orderReset (s : State) : State :=
  let s := if s.ord.started then discardBegin s else s
  let d := s.fg Fld.ORD_STAT_DISCARDING
  ordStat ((keepWords [Reg.ORD_EPOCH] s (slotReset 0x12 s)).fs Fld.ORD_STAT_DISCARDING d)

/-- Scout in reset: a squash to P0, and a confirmed hold-up ends with a ramp of 100 ms. -/
def scoutReset (s : State) : State :=
  let confirmed := s.phase != phIdle
  let hold := s.sct.hold
  let left := hold.map (fun n => (n, some ((kvGet (fun _ => none) s.sct.stopped n).getD 100)))
  let s := slotReset 0x13 (squashTo 0 0 s)
  let s := if confirmed then
      (s.setOrd { s.ord with acOut := false }).setCnv { s.cnv with share := s.sct.held }
    else s
  (List.range 12).foldl (fun s g => shadowLeave g s) (s.setSct { State.blank.sct with hold := hold, stopped := left })

/-- Converter control in reset: every group stops (R284), and each that ran is a removal. -/
def converterReset (s : State) : State :=
  let ran := (List.range 12).filter s.groupRunning
  let s := ran.foldl (fun s g => s.removal (.group g)) (allGroupsHardStop s)
  shareBegin (fun _ => true) ((slotReset 0x14 s).setCnv State.blank.cnv)

/-- Charging in reset: it stops by R280, and latched faults are kept. -/
def chargeReset (s : State) : State :=
  let s := ((List.range 12).filter s.isPv).foldl (fun s g => pvStop g s) (s.strings.foldl (fun s n => chargeStop n s) s)
  (keepWords [Reg.CHG_FAULT, Reg.CHG_PVFLT] s (slotReset 0x18 s)).setChg State.blank.chg

/-- R334, R337, R435: the controllers restart; decoded values and presence stay. -/
def canReset (s : State) : State :=
  (keepWords ((List.range 4).map Reg.CAN_PRES) s (slotReset 0x0D s)).setCan State.blank.can

/-- The estimator in reset: it stops until its next start (R350, R359); decoded values belong to CAN's receive side. -/
def estimatorReset (s : State) : State :=
  let s := slotReset 0x19 s
  nvDrop wLearned (s.setEst { s.est with host := [], nvReq := false, nvNow := false, strs := [] })

/-- The log in reset: its ring restarts, a capture is lost, and the scan of R442 is due again. -/
def propolisReset (s : State) : State :=
  nvDrop wLog <| nvDrop wWave <| (slotReset 0x1A s).setPrp { s.prp with capt := none, scanned := false, preReset := none, evSlot := 0 }

/-- What the reset of one block does (R435, R436 steps 1 to 3). -/
def blockEffect (n : Nat) (s : State) : State :=
  match n with
  | 0x05 => (slotReset n s).setTmr []
  | 0x0A => (slotReset n s).setThm { State.blank.thm with dieSd := s.thm.dieSd, dieHeld := s.thm.dieHeld }
  | 0x0D => canReset s
  | 0x0E => (slotReset n s).setWgl State.blank.wgl
  | 0x10 => meterReset s
  | 0x11 => nvDrop wLedger ((slotReset n s).setLdg State.blank.ldg)
  | 0x12 => orderReset s
  | 0x13 => scoutReset s
  | 0x14 => converterReset s
  | 0x18 => chargeReset s
  | 0x19 => estimatorReset s
  | 0x1A => propolisReset s
  | _ => s

def State.inReset (s : State) (n : Nat) : Bool := bitOf (s.rd Reg.RST_BSTAT).toNat n

/-- R65, R69: staged values and commits not yet applied go with the block. -/
def oneBlock (n : Nat) (s : State) : State :=
  let s := s.wr Reg.RST_BSTAT (BitVec.ofNat 32 (setBit (s.rd Reg.RST_BSTAT).toNat n true))
  blockEffect n ((blockGroups n).foldl (fun s g => dropGroup g s) s)

/-- A write of RST_BLK: a block that is in reset already ignores it (R436). -/
def blockResetWrite (m : Nat) (s : State) : Nat × State :=
  let bs := bitsOf 32 m
  if bs.any (fun n => !resettable.contains n) then (stDecodeErr, s)
  else (stOk, (bs.filter (fun n => !s.inReset n)).foldl (fun s n => oneBlock n s) s)

/-- The meter restarts in the way its power state asks (R164, R166). -/
def meterRestart (s : State) : State :=
  if s.image.isNone then s
  else if s.powerState = 1 then classUpdate (s.fs Fld.MTR_STAT_SLOW 1)
  else if s.powerState = 0 then s
  else
    let s := fullResume (scaleUpdate s)
    if s.fb Fld.CLK_STAT_HFXO_OK then classUpdate (s.fs Fld.MTR_STAT_TB 2) else s

/-- R436 step 4, EV102, at ACLK cycle `sub` of the second: up to there the meter's time is class U (R183). -/
def blockRelease (n sub : Nat) (s : State) : State :=
  if !s.inReset n then s
  else
    let s := aclkTo sub s
    let s := s.wr Reg.RST_BSTAT (BitVec.ofNat 32 (setBit (s.rd Reg.RST_BSTAT).toNat n false))
    (if n = 0x10 then meterRestart s else s).raise 102

/-- R436 step 2: a wrapper misses its bound. -/
def isolationTimeout (s : State) : State := if s.rd Reg.RST_BSTAT = 0 then s else s.driveLine 3

/-- FLT_INJ (R428): an injected error is an assertion of the line; FS32 to FS63 have none (R421). -/
def injectWrite (src : Nat) (go : Bool) (s : State) : Nat × State :=
  if s.fb Fld.ID_FUSE_LIFE then (stLocked, s) else (stOk, if go then s.driveLine src else s)

/-! ### Commands -/

def execBlockReset (p : Port) (mask : Word) (s : State) : Host.Outcome State Fault Refusal :=
  done s (asWrite p Reg.RST_BLK (blockResetWrite mask.toNat) s)

def execBlockResetRelease (n : Fin 32) (sub : Nat) (s : State) : Host.Outcome State Fault Refusal :=
  done s (blockRelease n sub s)

def execIsolationTimeout (s : State) : Host.Outcome State Fault Refusal := done s (isolationTimeout s)

def execFaultClassCommit (p : Port) (s : State) : Host.Outcome State Fault Refusal :=
  done s (asWrite p Reg.FLT_CTL (commitAbort .flt true false) s)

def execFaultClassAbort (p : Port) (s : State) : Host.Outcome State Fault Refusal :=
  done s (asWrite p Reg.FLT_CTL (commitAbort .flt false true) s)

def execFaultInject (p : Port) (src : Fin 64) (s : State) : Host.Outcome State Fault Refusal :=
  done s (asWrite p Reg.FLT_INJ (injectWrite src true) s)

end Sys2Proof.Machine
end

