-- ==== Sys2Proof/Machine/TileCmds.lean ====
section
/-!
DEFINITION. The commands of the comb: tile controls (R42, R54, R58, R63, R64), commits and joint commits (R63 to R69),
tile updates (R44).
-/
namespace Sys2Proof.Machine

/-- R7: a write in the window of a tile that the image does not use is refused. -/
def tileWrite (t : Nat) (f : State → Nat × State) (s : State) : Nat × State :=
  if s.tileUsed t then f s else (stDecodeErr, s)

/-- R42: CLR_STATE is HELD while the tile runs. -/
def clrState (t : Nat) (s : State) : Nat × State :=
  if s.tileRuns t then (stHeld, s) else (stOk, tileClear t s)

/-- R54: CLR releases a latched window at the next update. -/
def winClr (t : Nat) (s : State) : Nat × State :=
  if s.tileKind t = 3 then (stOk, s.setHid t { s.hid t with clr := true }) else (stDecodeErr, s)

/-- R58: ACC_CLR zeroes the accumulator. -/
def macAccClr (t : Nat) (s : State) : Nat × State :=
  if s.tileKind t = 5 then (stOk, s.wr64 (tileBase t + 0x54) (tileBase t + 0x58) 0) else (stDecodeErr, s)

/-- R63: a group's accepted commit applies at its update boundary. LDG_ASSIGN applies at the next interval boundary
(R172) and the RTC at its second (R463), by commands of their own. -/
def stagedApply (g : Group) (s : State) : State :=
  match g with
  | .ldgAssign => s
  | .rtc => s
  | _ => if s.cpend g then (s.applyStaged g).setCommits (s.commits.filter (fun x => !(x == g))) else s

/-- R465: the alarm fires when the second count takes the value set. -/
def rtcAlarm (s : State) : State :=
  if s.fb Fld.RTC_ALM_HI_EN ∧ s.rtc.sec = (s.rd Reg.RTC_ALM_LO).toNat + 2 ^ 32 * s.fg Fld.RTC_ALM_HI_SEC then
    (s.fs Fld.RTC_STAT_ALMF 1).wakeDormant
  else s

/-- R463: the staged second count takes effect, with a full second from there on. -/
def rtcSet (s : State) : State :=
  let v := s.rtcStaged
  let s := s.unstage .rtc
  let s := (s.setRtc { s.rtc with sec := v, ticks := 0 }).setMtr { s.mtr with since := 0 }
  rtcAlarm (s.setCommits (s.commits.filter (fun x => !(x == Group.rtc))))

/-- R463 with its effects elsewhere, at ACLK cycle `sub` of the second: the time up to there is credited (R183), the ledger
closes at the strobe before (R176), and its next interval starts at the new time (R184); the log notes both times (R441).
While device-wide reset is asserted the AO domain alone acts (R434). -/
def rtcApply (sub : Nat) (s : State) : State :=
  if s.rst.asserted then rtcSet s
  else
    let s := aclkTo sub s
    let old := s.now
    let closes := s.fb Fld.LDG_STAT_RUN && s.powerState != 0 && !s.fb Fld.LDG_STAT_CLOSING && s.ringFree s.ldgContracts.length
    let s := ledgerClose true true s
    let s := if s.powerState = 0 ∨ !closes then s.setLdg { s.ldg with tset := true } else s
    let s := rtcSet s
    let s := if closes then s.setLdg { s.ldg with start := s.now } else s
    s.logEvent 0x0B old s.now false

/-- R67: at T every member applies; the contract assignment then waits for its interval boundary (R172). -/
def jointApply (sub : Nat) (s : State) : State :=
  match s.joint with
  | none => s
  | some m =>
    let s := m.foldl (fun s g =>
      match g with
      | .ldgAssign => s.setCommits (s.commits ++ [g])
      | .rtc => rtcApply sub s
      | _ => s.applyStaged g) s
    ((s.setJoint none).fs Fld.CMB_JC_STAT_PEND 0)

def execTileCommit (p : Port) (t : Fin 64) (s : State) : Host.Outcome State Fault Refusal :=
  done s (asWrite p (Reg.CMB_T_CTL t) (tileWrite t (commitWrite (.tile t))) s)

def execTileAbort (p : Port) (t : Fin 64) (s : State) : Host.Outcome State Fault Refusal :=
  done s (asWrite p (Reg.CMB_T_CTL t) (tileWrite t (abortWrite (.tile t))) s)

def execTileClrState (p : Port) (t : Fin 64) (s : State) : Host.Outcome State Fault Refusal :=
  done s (asWrite p (Reg.CMB_T_CTL t) (tileWrite t (clrState t)) s)

def execWinClr (p : Port) (t : Fin 64) (s : State) : Host.Outcome State Fault Refusal :=
  done s (asWrite p (tileBase t + 0x58) (tileWrite t (winClr t)) s)

def execMacAccClr (p : Port) (t : Fin 64) (s : State) : Host.Outcome State Fault Refusal :=
  done s (asWrite p (tileBase t + 0x5C) (tileWrite t (macAccClr t)) s)

def execTileUpdate (t : Fin 64) (sense : List Int) (balls : List Nat) (s : State) : Host.Outcome State Fault Refusal :=
  done s (tileUpdate t sense balls (chgApply t s))

def execStagedApply (g : Group) (s : State) : Host.Outcome State Fault Refusal := done s (stagedApply g s)

def execJointCommitGo (p : Port) (s : State) : Host.Outcome State Fault Refusal :=
  done s (asWrite p Reg.CMB_JC_CTL (jointCtl true false) s)

def execJointCommitAbort (p : Port) (s : State) : Host.Outcome State Fault Refusal :=
  done s (asWrite p Reg.CMB_JC_CTL (jointCtl false true) s)

def execJointCommitApply (sub : Nat) (s : State) : Host.Outcome State Fault Refusal := done s (jointApply sub s)

end Sys2Proof.Machine
end

