-- ==== Sys2Proof/Machine/Clocks.lean ====
section
/-!
DEFINITION. Clocks (R447 to R459, R556): HFXO, the PLL, the ACLK crystal, the HFRC trim and crossings; and the calendar
(R460 to R466).
-/
namespace Sys2Proof.Machine

/-! ### HFXO (R450 to R452, R556) -/

/-- R450: the reference of the PLL. -/
def pllReference (s : State) : State :=
  s.fs Fld.CLK_STAT_PLL_REF (boolNat (s.fb Fld.CLK_STAT_HFXO_OK && !s.fb Fld.CLK_CFG_PLLREF))

def State.setOk (s : State) (n : Nat) : State := s.setClk { s.clk with okN := n }

/-- R451: HFXO is confirmed; it becomes the meter's time base (R166 step 5) and the PLL's reference. -/
def hfxoConfirm (s : State) : State :=
  timeBase true false (pllReference ((s.fs Fld.CLK_STAT_HFXO_OK 1).setOk 0))

/-- R452, R169: HFXO is lost. -/
def hfxoLoss (s : State) : State :=
  if !s.fb Fld.CLK_STAT_HFXO_ON then s
  else
    let s := ((s.fs Fld.CLK_STAT_HFXO_OK 0).fs Fld.CLK_STAT_HFXO_FAIL 1).setOk 0
    timeBase false true ((pllReference s).driveLine 12)

/-- R451, R452: a check window has ended with this count, and the detector reports good amplitude or not. -/
def checkWindow (count : Nat) (amp : Bool) (s : State) : State :=
  if !s.fb Fld.CLK_STAT_HFXO_ON then s
  else
    let s := s.fsat Fld.CLK_HFXO_CHK_COUNT count
    if count < 767232 ∨ 768768 < count then hfxoLoss s
    else if s.fb Fld.CLK_STAT_HFXO_OK then s
    else if amp ∧ !s.fb Fld.CLK_STAT_ACLK_SRC ∧ 767923 ≤ count ∧ count ≤ 768077 then
      if 7 ≤ s.clk.okN then hfxoConfirm s else s.setOk (s.clk.okN + 1)
    else s.setOk 0

/-- R451: no confirmation within 2 s of the start. -/
def hfxoTimeout (s : State) : State :=
  if !s.fb Fld.CLK_STAT_HFXO_ON || s.fb Fld.CLK_STAT_HFXO_OK then s
  else
    let s := (s.fs Fld.CLK_STAT_HFXO_FAIL 1).fs Fld.CLK_STAT_HFXO_ON 0
    ((s.driveLine 12).setClk { s.clk with okN := 0, waiting := true })

/-- HFXO starts, where its state and HFXO_EN let it run (R456). -/
def hfxoBegin (s : State) : State :=
  if s.awake && s.fb Fld.CLK_CFG_HFXO_EN && !s.fb Fld.CLK_STAT_HFXO_ON then
    (s.fs Fld.CLK_STAT_HFXO_ON 1).setClk { s.clk with okN := 0, waiting := false }
  else s

/-- R451: 10 s after a failed start. -/
def hfxoRestart (s : State) : State := if s.clk.waiting then hfxoBegin s else s

/-- R556: an orderly stop: its users move to HFRC first, and nothing latches. -/
def hfxoStop (s : State) : State :=
  let s := timeBase false false (pllReference ((s.fs Fld.CLK_STAT_HFXO_OK 0).fs Fld.CLK_STAT_HFXO_ON 0))
  s.setClk { s.clk with okN := 0, waiting := false }

/-- A write of CLK_CFG: HFXO_EN acts on its change (R556), PLLREF on the reference (R450). -/
def clkCfgWrite (v : Word) (s : State) : Nat × State :=
  let old := s.fb Fld.CLK_CFG_HFXO_EN
  let s := s.wr Reg.CLK_CFG (BitVec.ofNat 32 (v.toNat % 16))
  let new := s.fb Fld.CLK_CFG_HFXO_EN
  let s := if old && !new then hfxoStop s else if !old && new then hfxoBegin s else s
  (stOk, pllReference s)

/-- CLK_CFG as it stands, with another HFXO_EN. -/
def State.clkCfgWith (s : State) (en : Bool) : Word :=
  BitVec.ofNat 32 (setBit (s.rd Reg.CLK_CFG).toNat 0 en)

/-! ### PLL and system clock (R449, R453, R454) -/

def pllLoss (s : State) : State :=
  if !s.fb Fld.CLK_STAT_PLL_LOCK then s
  else
    let s := ((s.fs Fld.CLK_STAT_PLL_LOCK 0).fs Fld.CLK_STAT_SYSCLK 0).fs Fld.CLK_STAT_PLL_LOL 1
    let ran := (List.range 12).filter s.groupRunning
    let s := allGroupsHardStop (ran.foldl (fun s g => s.removal (.group g)) s)
    (s.driveLine 12).setClk { s.clk with tilesHeld := true }

def pllRelock (s : State) : State :=
  if !s.clk.tilesHeld then s
  else ((s.fs Fld.CLK_STAT_PLL_LOCK 1).fs Fld.CLK_STAT_SYSCLK 1).setClk { s.clk with tilesHeld := false }

def pllRelockTimeout (s : State) : State := if s.clk.tilesHeld then deviceReset causeClkmon s else s

/-- R454: the system clock should run in every state but DORMANT. -/
def sysclkTrip (s : State) : State := if s.powerState = 0 then s else deviceReset causeClkmon s

/-! ### ACLK and its crystal (R455, R448) -/

/-- R464: OSF sets; FS13. -/
def osfSet (s : State) : State :=
  let s := s.fs Fld.RTC_STAT_OSF 1
  if s.rst.asserted then s else (s.setLdg { s.ldg with osf := true }).driveLine 13

def crystalFail (s : State) : State :=
  if s.rst.asserted then osfSet s
  else if s.fb Fld.CLK_STAT_ACLK_SRC then s
  else osfSet ((s.fs Fld.CLK_STAT_ACLK_SRC 1).fs Fld.CLK_STAT_XT32_FAIL 1)

def crystalReturn (s : State) : State := if s.rst.asserted then s else s.fs Fld.CLK_STAT_ACLK_SRC 0

/-- R448: the trim is frozen while ACLK runs from LFRC. -/
def hfrcTrim (trim : Nat) (err : Int) (s : State) : State :=
  if s.fb Fld.CLK_STAT_ACLK_SRC || !s.fb Fld.CLK_STAT_HFRC_ON then s
  else (s.fs Fld.CLK_HFRC_TRIM_TRIM trim).fss Fld.CLK_HFRC_TRIM_ERR (satSigned 16 err)

/-! ### Crossings (R457 to R459) -/

def cdcTimeout (g : Nat) (overrun : Bool) (s : State) : State :=
  if overrun then (s.fs Fld.CLK_CDC_OVR (setBit (s.fg Fld.CLK_CDC_OVR) g true)).driveLine 31
  else (s.finc Fld.CLK_CDC_TMO).driveLine 31

/-! ### The calendar (R460 to R466) -/

def leapYear (y : Nat) : Bool := y % 4 == 0 && y != 2100

/-- Year and day of the year of a day count since 2000-01-01. -/
def yearOf : Nat → Nat → Nat → Nat × Nat
  | 0, y, d => (y, d)
  | n + 1, y, d =>
    let l := if leapYear y then 366 else 365
    if d < l then (y, d) else yearOf n (y + 1) (d - l)

def monthLengths (leap : Bool) : List Nat := [31, if leap then 29 else 28, 31, 30, 31, 30, 31, 31, 30, 31, 30, 31]

/-- Month (1 to 12) and day of the month (1 to 31). -/
def monthOf : List Nat → Nat → Nat → Nat × Nat
  | [], m, d => (m, d + 1)
  | l :: r, m, d => if d < l then (m, d + 1) else monthOf r (m + 1) (d - l)

/-- RTC_DATE of a second count (R461). -/
def dateWord (sec : Nat) : Nat :=
  let days := sec / 86400
  let y := yearOf 200 2000 days
  let m := monthOf (monthLengths (leapYear y.1)) 1 y.2
  m.2 + 256 * m.1 + 4096 * ((6 + days) % 7) + 65536 * y.1

/-- RTC_TIME of a second count. -/
def timeWord (sec : Nat) : Nat := sec % 60 + 256 * (sec / 60 % 60) + 65536 * (sec / 3600 % 24)

/-- R462: a read of RTC_SEC_LO captures the time into the shadow, which the next four words return. -/
def rtcCapture (s : State) : State :=
  let w := fun a v (s : State) => s.wr a (BitVec.ofNat 32 v)
  w Reg.RTC_TIME (timeWord s.rtc.sec) (w Reg.RTC_DATE (dateWord s.rtc.sec) (w Reg.RTC_SUB s.rtc.ticks
    (w Reg.RTC_SEC_HI (s.rtc.sec / 2 ^ 32) s)))

def State.secLoWord (s : State) : Word := BitVec.ofNat 32 s.rtc.sec

/-- R154, R159: ages in RTC seconds. -/
def meterAges (s : State) : State :=
  let s := (List.range 20).foldl (fun s n => s.finc (Fld.MTR_CH_CAL_AGE n)) s
  s.mtr.trk.foldl (fun s e =>
    let t := { e.2 with age := e.2.age + 1 }
    let s := s.setTrk e.1 t
    if t.base.isSome && decide (2592000 ≤ t.age) then s.fs (Fld.MTR_CH_FLAG_TRKAGE e.1) 1 else s) s

/-- R466: the ACLK cycles of the current second. One second of every 2^20 cycles is TRIM cycles shorter: the one whose
untrimmed end lies nearest a multiple of 2^20 (DEDUCED, log entry 24). -/
def State.secondLength (s : State) : Nat :=
  if (s.rtc.cycles - s.rtc.ticks + 49152) % 1048576 < 32768 then (32768 - s.fgs Fld.RTC_CALIB_TRIM).toNat else 32768

/-- R460, R461, R465, R466: the cycle count completes a second. Outside the AO domain the meter's ages and the order engine's
monotonic count advance (R154, R207). -/
def rtcSecond (s : State) : State :=
  if s.rst.aoLost then s
  else
    let rest := s.secondLength - s.rtc.ticks
    let wrap := decide (lastSecond ≤ s.rtc.sec)
    let s := if s.rst.asserted || s.fullRate then s else creditTime (250 * rest) s
    let s := (s.setRtc ⟨if wrap then 0 else s.rtc.sec + 1, 0, s.rtc.cycles + rest⟩).setMtr { s.mtr with since := s.mtr.since - 250 * rest }
    let s := rtcAlarm (if wrap then osfSet s else s)
    if s.rst.asserted then s else meterAges (s.setOrd { s.ord with mono := s.ord.mono + 1 })

/-- R463: the accepted time applies at the second ACLK edge. -/
def timeApply (sub : Nat) (s : State) : State := if s.cpend .rtc && !s.rst.aoLost then rtcApply sub s else s

/-- A write of RTC_STAT: W1C, but OSF clears only while ACLK runs from its crystal (R464). -/
def rtcStatWrite (v : Nat) (s : State) : State :=
  let s := if bitOf v 0 ∧ !s.fb Fld.CLK_STAT_ACLK_SRC then s.fs Fld.RTC_STAT_OSF 0 else s
  let s := if bitOf v 1 then s.fs Fld.RTC_STAT_ALMF 0 else s
  if bitOf v 4 then s.fs Fld.RTC_STAT_CERR 0 else s

/-! ### Commands -/

def execHfxoCheckWindow (count : Nat) (amp : Bool) (s : State) : Host.Outcome State Fault Refusal := done s (checkWindow count amp s)

def execHfxoStartTimeout (s : State) : Host.Outcome State Fault Refusal := done s (hfxoTimeout s)

def execHfxoRestart (s : State) : Host.Outcome State Fault Refusal := done s (hfxoRestart s)

def execHfxoLoss (s : State) : Host.Outcome State Fault Refusal := done s (hfxoLoss s)

def execHfxoStop (p : Port) (s : State) : Host.Outcome State Fault Refusal :=
  done s (asWrite p Reg.CLK_CFG (clkCfgWrite (s.clkCfgWith false)) s)

def execHfxoStart (p : Port) (s : State) : Host.Outcome State Fault Refusal :=
  done s (asWrite p Reg.CLK_CFG (clkCfgWrite (s.clkCfgWith true)) s)

def execPllLossOfLock (s : State) : Host.Outcome State Fault Refusal := done s (pllLoss s)

def execPllRelock (s : State) : Host.Outcome State Fault Refusal := done s (pllRelock s)

def execPllRelockTimeout (s : State) : Host.Outcome State Fault Refusal := done s (pllRelockTimeout s)

def execSysclkMonitorTrip (s : State) : Host.Outcome State Fault Refusal := done s (sysclkTrip s)

def execAclkCrystalFail (s : State) : Host.Outcome State Fault Refusal := doneRst (crystalFail s)

def execAclkCrystalReturn (s : State) : Host.Outcome State Fault Refusal := doneRst (crystalReturn s)

def execHfrcTrim (trim : BitVec 10) (err : Int) (s : State) : Host.Outcome State Fault Refusal := done s (hfrcTrim trim.toNat err s)

def execCdcTimeout (group : Fin 8) (overrun : Bool) (s : State) : Host.Outcome State Fault Refusal :=
  done s (cdcTimeout group overrun s)

def execRtcSecond (s : State) : Host.Outcome State Fault Refusal := doneRst (rtcSecond s)

def execRtcCapture (p : Port) (s : State) : Host.Outcome State Fault Refusal :=
  done s (asRead p Reg.RTC_SEC_LO State.secLoWord rtcCapture s)

def execRtcTimeCommit (p : Port) (s : State) : Host.Outcome State Fault Refusal :=
  done s (asWrite p Reg.RTC_CTL (commitAbort .rtc true false) s)

def execRtcTimeAbort (p : Port) (s : State) : Host.Outcome State Fault Refusal :=
  done s (asWrite p Reg.RTC_CTL (commitAbort .rtc false true) s)

def execRtcTimeApply (sub : Nat) (s : State) : Host.Outcome State Fault Refusal := doneRst (timeApply sub s)

def execOsfClear (p : Port) (s : State) : Host.Outcome State Fault Refusal :=
  done s (asWrite p Reg.RTC_STAT (okay (rtcStatWrite 1)) s)

end Sys2Proof.Machine
end

