-- ==== Sys2Proof/Machine/ConvCmds.lean ====
section
/-!
DEFINITION. The commands of the converter groups and the rectifier ports (chapter 08).
-/
namespace Sys2Proof.Machine

/-- R281 step 2: the average of each phase's CS samples, µV, lies within 5 % of the phase rating of zero. -/
def State.senseOk (s : State) (g : Nat) (cs : List (List Int)) : Bool :=
  cs.all (fun l => decide ((s.csMean g l).natAbs ≤ 53687091))

/-- R281 step 2 with the 16 CS samples of each phase. A failed check returns the group to OFF and reports its loss. -/
def senseCheck (g : Nat) (cs : List (List Int)) (s : State) : State :=
  if s.mode g = modeOff ∨ (s.grp g).stage ≠ 1 then s
  else if s.senseOk g cs then s.setGrp g { s.grp g with stage := 2 }
  else ((groupHardStop g s).fs (Fld.CNV_CG_FLAG_CSERR g) 1).removal (.group g)

/-- R283 step 3: Scout places a stopped group in SHADOW again where its level calls for it (R244, R245). -/
def backToShadow (g : Nat) (s : State) : State :=
  if s.phase = phIdle ∧ 2 ≤ s.level ∧ s.grpType g = 1 ∧ bitOf (s.fg Fld.SCT_STAT_H) (s.grpTarget g) then
    shadowEnter (s.grpTarget g) s else s

/-- R283 step 2: `late` says that 20 ms have passed since the ramp ended. -/
def stopComplete (g : Nat) (late : Bool) (s : State) : State :=
  let x := s.grp g
  if s.mode g ≠ modeOff ∧ x.stopping ∧ s.pubGet (0x040 + g) = 0 ∧ (8 ≤ x.lowN ∨ late) then
    backToShadow g (groupHardStop g s) else s

/-- R287, R542: a CS sample, µV, is beyond ±OCP % of the phase rating; one at full scale is beyond any level. -/
def State.beyondOcp (s : State) (g : Nat) (uv : Int) : Bool :=
  decide (1600000 ≤ uv.natAbs) || decide (1073741824 * s.fg (Fld.CNV_CG_SNS_OCP g) < 100 * (s.csQ g uv).natAbs)

/-- R287: two consecutive CS samples of one phase of the group, µV. -/
def phaseOvercurrent (g : Nat) (a b : Int) (s : State) : State :=
  if s.mode g = modeOff ∨ !(s.beyondOcp g a && s.beyondOcp g b) then s
  else ((((groupHardStop g s).fs (Fld.CNV_CG_FLAG_OCP g) 1).driveLine 18).removal (.group g))

/-- R280: the second control period without a renewal; PREF starts to fall over STOPT. -/
def prefTimeout (g : Nat) (s : State) : State :=
  let x := s.grp g
  if (s.mode g = modePower ∨ s.mode g = modeBus) ∧ x.ramp.isNone then
    s.setGrp g { x with ramp := s.newRamp g } else s

/-- R291, R292: MC16, mV, is below BUS_NOMINAL plus BRK_OFF: the end of the overshoot; groups that stopped braking by
BRK_MAX may brake again. -/
def overshootEnd (mv : Int) (s : State) : State :=
  if s.busPlus Fld.CNV_BRK_BRK_OFF ≤ 1000 * mv then s
  else (List.range 12).foldl (fun s g => s.setGrp g { s.grp g with brakeBlocked := false })
    (s.setCnv { s.cnv with overshoot := false })

/-- R290: SYNC_IN is lost. -/
def syncLoss (g : Nat) (s : State) : State :=
  if s.follows g ∧ s.groupRuns g ∧ !(s.grp g).absent then
    ((s.setGrp g { s.grp g with lost := true, absent := true, syncN := 0 }).fs (Fld.CNV_CG_FLAG_SYNCLOSS g) 1).fs
      (Fld.CNV_CG_STAT_SYNCLOCK g) 0
  else s

/-- R290: 16 consecutive edges have arrived as the rule asks. -/
def syncReacquire (g : Nat) (s : State) : State :=
  if s.follows g ∧ s.groupRuns g then s.setGrp g { s.grp g with lost := false, absent := false, syncN := 0 } else s

/-- Ports in use that sharing and R298 count (R294). -/
def State.sharePorts (s : State) : List Nat :=
  (List.range 6).filter (fun p => s.rtUsed p && !s.cnv.imonBad.contains p)

/-- The sampled current of a port and Σ of it, 0.1 A; Σ of the ratings, 0.1 A. -/
def State.portI (s : State) (p : Nat) : Int := (s.rd (Reg.CNV_RT_IMON p)).toInt
def State.iTot (s : State) : Int := s.sharePorts.foldl (fun a p => a + s.portI p) 0
def State.ratedTot (s : State) : Nat := s.sharePorts.foldl (fun a p => a + s.rtRated p) 0

/-- R296: the code that sharing works out for port `p`. -/
def State.shareCode (s : State) (p : Nat) : Int :=
  let rated : Rat := s.rtRated p
  let target : Rat := if s.ratedTot = 0 then 0 else s.iTot * rated / s.ratedTot
  let span : Rat := (s.fg (Fld.CNV_RT_TMAX_TMAX p) : Rat) - s.fg (Fld.CNV_RT_TMIN_TMIN p)
  if rated = 0 then s.trimCode p
  else ratRound (s.trimCode p + (s.fg Fld.CNV_SHARE_KS : Rat) / 65536 * (target - s.portI p) / rated * span)

/-- R296, R297: one 10 ms sharing update with the IMON voltages (mV). -/
def shareUpdate (imon : List Int) (s : State) : State :=
  let s := sampleImon imon s
  let mv := if s.fb Fld.CNV_CTL_SHARE_DRV ∧ s.ratedTot ≠ 0 then (ratRound (2500 * s.iTot / s.ratedTot)).toNat else 0
  let s := s.setCnv { s.cnv with shareOut := mv }
  if s.sharing then
    (s.sharePorts.filter (fun p => !s.cnv.fromNom.contains p)).foldl (fun t p => t.setShare p
      (clampI (s.shareCode p) (s.fg (Fld.CNV_RT_TMIN_TMIN p)) (s.fg (Fld.CNV_RT_TMAX_TMAX p))).toNat) s
  else s

/-- R298: one tenth of the way to the reduced power, shared in proportion to the setpoints. -/
def acLimitStep (s : State) : State :=
  match s.cnv.acLim with
  | none => s
  | some (cur, fin, step) =>
    let next := max fin (cur - step)
    let s := s.setCnv { s.cnv with acLim := some (next, fin, step) }
    if cur ≤ 0 then s
    else s.busCharging.foldl (fun s g => s.pubSet (0x040 + g) (ratRound (s.pubGet (0x040 + g) * next / cur))) s

/-- R298: the spare capacity in 0.1 A, and its two counters of 10 ms checks. A deficit that outlasts a lowering lowers
the power again. -/
def spareCheck (s : State) : State :=
  let bus := s.volts 16
  let s := s.wr Reg.CNV_ACDRAW (BitVec.ofNat 32 (ratRound (s.iTot * bus / 10)).toNat)
  let spare : Rat := s.ratedTot * (s.fg Fld.CNV_SHARE_ACLOAD : Rat) / 100 - s.iTot
  let charging := s.busCharging
  let n := if spare < 0 ∧ !charging.isEmpty then min 10 (s.cnv.deficitN + 1) else 0
  let m := if (s.ratedTot : Rat) * 5 / 100 ≤ spare then min 1000 (s.cnv.ampleN + 1) else 0
  let s := s.setCnv { s.cnv with deficitN := n, ampleN := m }
  if 10 ≤ n ∧ s.cnv.acLim.all (fun l => decide (l.1 ≤ l.2.1)) then
    let total := charging.foldl (fun a g => a + s.prefWatts g) 0
    let fin := max 0 (total + spare * bus / 10)
    let s := s.setCnv { s.cnv with acLim := some (total, fin, (total - fin) / 10), deficitN := 0 }
    acLimitStep (((s.fs Fld.CNV_STAT_ACLIM 1).fs Fld.CNV_STAT_ACLIMS 1).removal (.acDraw (106 / 100 * fin).floor.toNat))
  else if 1000 ≤ m ∧ s.cnv.acLim.isSome then
    (s.setCnv { s.cnv with acLim := none }).fs Fld.CNV_STAT_ACLIM 0
  else acLimitStep s

/-- R295: one millisecond of a port in use. -/
def trimTick (p : Nat) (s : State) : State := if s.rtUsed p then trimStep p s else s

/-- R296: sharing enabled. -/
def shareEnable (s : State) : Nat × State :=
  if s.fb Fld.CNV_CTL_SHARE_EN then (stOk, s) else (stOk, shareBegin (fun _ => true) (s.fs Fld.CNV_CTL_SHARE_EN 1))

/-! ### Commands -/

def execPwmPeriodStart (g : Fin 12) (cs : List (List Int)) (bus : Int) (edges : List Nat) (s : State) :
    Host.Outcome State Fault Refusal := done s (periodStart g cs bus edges s)

/-- R281 step 1 by the order engine or by Scout; the charger starts its groups by PV_GROUP_START (R305). -/
def execGroupStart (g : Fin 12) (mode : Fin 5) (s : State) : Host.Outcome State Fault Refusal :=
  done s (if mode = 0 ∨ mode = 4 then s else groupStart g mode s)

def execSenseCheck (g : Fin 12) (cs : List (List Int)) (s : State) : Host.Outcome State Fault Refusal :=
  done s (senseCheck g cs s)

def execGroupStop (g : Fin 12) (s : State) : Host.Outcome State Fault Refusal := done s (groupStop g s)

def execGroupStopComplete (g : Fin 12) (late : Bool) (s : State) : Host.Outcome State Fault Refusal :=
  done s (stopComplete g late s)

def execPhaseOvercurrent (g : Fin 12) (a b : Int) (s : State) : Host.Outcome State Fault Refusal :=
  done s (phaseOvercurrent g a b s)

def execPrefRenewalTimeout (g : Fin 12) (s : State) : Host.Outcome State Fault Refusal := done s (prefTimeout g s)

def execBrakeStart (mv : Int) (s : State) : Host.Outcome State Fault Refusal := done s (brakeStart mv s)

def execOvershootEnd (mv : Int) (s : State) : Host.Outcome State Fault Refusal := done s (overshootEnd mv s)

def execSyncInLoss (g : Fin 12) (s : State) : Host.Outcome State Fault Refusal := done s (syncLoss g s)

def execSyncInReacquire (g : Fin 12) (s : State) : Host.Outcome State Fault Refusal := done s (syncReacquire g s)

def execShareUpdate (imon : List Int) (s : State) : Host.Outcome State Fault Refusal := done s (shareUpdate imon s)

def execSpareCapacityCheck (s : State) : Host.Outcome State Fault Refusal := done s (spareCheck s)

def execTrimStep (rt : Fin 6) (s : State) : Host.Outcome State Fault Refusal := done s (trimTick rt s)

def execCnvRackCommit (p : Port) (s : State) : Host.Outcome State Fault Refusal :=
  done s (asWrite p Reg.CNV_CTL (commitWrite .cnvRack) s)

def execCnvRackAbort (p : Port) (s : State) : Host.Outcome State Fault Refusal :=
  done s (asWrite p Reg.CNV_CTL (abortWrite .cnvRack) s)

def execDutyLimitCommit (p : Port) (g : Fin 12) (s : State) : Host.Outcome State Fault Refusal :=
  done s (asWrite p (Reg.CNV_CG_CTL g) (commitWrite (.cnvGroup g)) s)

def execDutyLimitAbort (p : Port) (g : Fin 12) (s : State) : Host.Outcome State Fault Refusal :=
  done s (asWrite p (Reg.CNV_CG_CTL g) (abortWrite (.cnvGroup g)) s)

def execShareEnable (p : Port) (s : State) : Host.Outcome State Fault Refusal :=
  done s (asWrite p Reg.CNV_CTL shareEnable s)

end Sys2Proof.Machine
end

