-- ==== Sys2Proof/Machine/Intc.lean ====
section
/-!
DEFINITION. The event controller's registers (R484, R488, R489), its ball sources (R486) and its coalescing timers (R490).
-/
namespace Sys2Proof.Machine

/-- R484: word 0 and word 7 of every family belong to the keeper cores. -/
def intcWord (i : Nat) (f : State → State) (s : State) : Nat × State :=
  if i = 0 ∨ 7 ≤ i then (stDecodeErr, s) else (stOk, f s)

def maskSet (i v : Nat) (s : State) : State :=
  s.wr (Reg.INTC_MASK_SET i) (BitVec.ofNat 32 ((s.rd (Reg.INTC_MASK_SET i)).toNat ||| v))

def maskClr (i v : Nat) (s : State) : State :=
  s.wr (Reg.INTC_MASK_SET i) (BitVec.ofNat 32 ((s.rd (Reg.INTC_MASK_SET i)).toNat &&& (2 ^ 32 - 1 - v)))

/-- R484: the bit of a reserved source is ignored. -/
def pendSet (i v : Nat) (s : State) : State := (bitsOf 32 v).foldl (fun s b => s.raise (32 * i + b)) s

/-- R485: a level source stays pending while its condition holds. -/
def pendClr (i v : Nat) (s : State) : State :=
  s.setIrq { s.irq with latch := s.irq.latch &&& (2 ^ 256 - 1 - v * 2 ^ (32 * i)) }

/-- Words 0, 1 and 7 of the routes refuse writes. -/
def routeWrite (i : Nat) (v : Word) (s : State) : Nat × State :=
  if i < 2 ∨ 7 ≤ i then (stDecodeErr, s) else (stOk, s.wr (Reg.INTC_ROUTE i) v)

/-- A word of pending bits as a read returns it (R488). -/
def State.pendWord (s : State) (i : Nat) : Word := BitVec.ofNat 32 (s.pendMask / 2 ^ (32 * i))

/-- INTC_NEXT_H: the lowest-numbered signalled source of a target. -/
def State.nextWord (s : State) (h : Nat) : Word :=
  match sourcesOf (s.signalledAt h) with
  | [] => 0x100
  | ev :: _ => BitVec.ofNat 32 ev

def State.irqStatWord (s : State) : Word :=
  BitVec.ofNat 32 (boolNat s.irq.t0.ball + 2 * boolNat s.irq.t1.ball + 256 * s.irq.t0.n + 65536 * s.irq.t1.n)

/-- R490: the coalescing timer of a target reaches TIME. It starts with the first signal, and 0 disables it. -/
def coalesceTimeout (h : Nat) (s : State) : State :=
  let f := fun (t : IrqTarget) =>
    if t.n = 0 ∨ fldOf (s.rd (Reg.INTC_COAL_H h)) 16 16 = 0 ∨ s.fg Fld.SYS_PWR_STAT_STATE = 0 then t
    else { t with ball := true }
  if h = 0 then s.setIrq { s.irq with t0 := f s.irq.t0 } else s.setIrq { s.irq with t1 := f s.irq.t1 }

/-- R486: the level that ball source `n` shows behind its synchroniser and its glitch filter. -/
def evinLevel (n : Nat) (level : Bool) (s : State) : State :=
  s.setIrq { s.irq with evinLevel := setBit s.irq.evinLevel n level }

/-! ### Commands -/

def execEvinBallEvent (n : Fin 8) (level : Bool) (s : State) : Host.Outcome State Fault Refusal := doneRst (evinLevel n level s)

def execCoalesceTimeout (h : Fin 2) (s : State) : Host.Outcome State Fault Refusal := done s (coalesceTimeout h s)

def execIntcMaskSet (p : Port) (i : Fin 8) (v : Word) (s : State) : Host.Outcome State Fault Refusal :=
  done s (asWrite p (Reg.INTC_MASK_SET i) (intcWord i (maskSet i v.toNat)) s)

def execIntcMaskClr (p : Port) (i : Fin 8) (v : Word) (s : State) : Host.Outcome State Fault Refusal :=
  done s (asWrite p (Reg.INTC_MASK_CLR i) (intcWord i (maskClr i v.toNat)) s)

def execIntcPendSet (p : Port) (i : Fin 8) (v : Word) (s : State) : Host.Outcome State Fault Refusal :=
  done s (asWrite p (Reg.INTC_PEND_SET i) (intcWord i (pendSet i v.toNat)) s)

def execIntcPendClr (p : Port) (i : Fin 8) (v : Word) (s : State) : Host.Outcome State Fault Refusal :=
  done s (asWrite p (Reg.INTC_PEND_CLR i) (intcWord i (pendClr i v.toNat)) s)

def execIntcRouteWrite (p : Port) (i : Fin 8) (v : Word) (s : State) : Host.Outcome State Fault Refusal :=
  done s (asWrite p (Reg.INTC_ROUTE i) (routeWrite i v) s)

end Sys2Proof.Machine
end

