-- ==== Sys2Proof/Machine/Mailbox.lean ====
section
/-!
DEFINITION. Keeper mailboxes (R138) and the two services of the spec (R188, R440).
-/
namespace Sys2Proof.Machine

abbrev codeNop : Nat := 0x0000
abbrev codeLdgKey : Nat := 0x0110
abbrev codePrpKey : Nat := 0x0120
abbrev mbOk : Nat := 0
abbrev mbUnknown : Nat := 1
abbrev mbRefused : Nat := 2
abbrev mbTimeout : Nat := 3

/-- EV32 and EV33 for MB0 and MB1, EV48 and EV49 for MB2 and MB3. -/
def mailboxEvent (m : Nat) : Nat := if m < 2 then 32 + m else 46 + m

/-- R138: a service returns its result. -/
def mailboxEnd (m res : Nat) (s : State) : State :=
  ((s.fs (Fld.KPR_MB_STAT_RESULT m) res).fs (Fld.KPR_MB_STAT_BUSY m) 0).raise (mailboxEvent m)

/-- R188: the next write to a mailbox that holds an exported key clears DATA0 to DATA7. -/
def keyClear (m : Nat) (s : State) : State :=
  if s.keyed.contains m then
    let s := (List.range 8).foldl (fun s i => s.wr (Reg.KPR_MB_DATA m i) 0) s
    (s.setKeyed (s.keyed.filter (fun x => x != m)))
  else s

/-- A write of KPR_MBm_CTL (R138). NOP and codes that no chapter defines complete at once. -/
def mailboxCtl (m : Nat) (v : Word) (s : State) : Nat × State :=
  if s.fb (Fld.KPR_MB_STAT_BUSY m) then (stBusy, s)
  else
    let code := fldOf v 0 16
    let s := (keyClear m s).wr (Reg.KPR_MB_CTL m) (v &&& 0xFFFF)
    if !bitOf v.toNat 16 then (stOk, s)
    else
      let s := s.fs (Fld.KPR_MB_STAT_BUSY m) 1
      if code = codeNop then (stOk, mailboxEnd m mbOk s)
      else if code = codeLdgKey ∨ code = codePrpKey then (stOk, s)
      else (stOk, mailboxEnd m mbUnknown s)

/-- A write of a DATA word. -/
def mailboxData (m i : Nat) (v : Word) (s : State) : Nat × State :=
  if s.fb (Fld.KPR_MB_STAT_BUSY m) then (stBusy, s) else (stOk, (keyClear m s).wr (Reg.KPR_MB_DATA m i) v)

/-- A mailbox runs the service `code`. -/
def State.serving (s : State) (m code : Nat) : Bool :=
  s.fb (Fld.KPR_MB_STAT_BUSY m) && s.fg (Fld.KPR_MB_CTL_CODE m) == code

/-- REFUSED with its reason in DATA0. -/
def exportRefused (m why : Nat) (s : State) : State :=
  mailboxEnd m mbRefused (s.wr (Reg.KPR_MB_DATA m 0) (BitVec.ofNat 32 why))

/-- R188: the export of `key` under fuse bit `fuse` of OTP word 0x180; `ok` says that the fuse took its programming. -/
def keyExport (m fuse : Nat) (ok : Bool) (key : List Byte) (s : State) : State :=
  let w := (s.otpWord 0x180).toNat
  if !bitOf (s.otpWord 2).toNat 9 then exportRefused m 1 s
  else if bitOf w fuse then exportRefused m 2 s
  else if !ok then exportRefused m 3 s
  else
    let s := s.setOtpWord 0x180 (BitVec.ofNat 32 (setBit w fuse true))
    let s := s.fs Fld.LDG_KEYX_DONE (s.otpWord 0x180).toNat
    let s := (List.range 8).foldl (fun s i => s.wr (Reg.KPR_MB_DATA m i) (BitVec.ofNat 32 (leNat ((key.drop (4 * i)).take 4)))) s
    mailboxEnd m mbOk (s.setKeyed (s.keyed.filter (fun x => x != m) ++ [m]))

def ldgKeyExport (m : Nat) (ok : Bool) (s : State) : State :=
  if !s.serving m codeLdgKey then s
  else
    let c := fldOf (s.rd (Reg.KPR_MB_DATA m 0)) 0 4
    keyExport m c ok (s.kLc c) s

def prpKeyExport (m : Nat) (ok : Bool) (s : State) : State :=
  if !s.serving m codePrpKey then s else keyExport m 16 ok s.kPrp s

def mailboxLate (m : Nat) (s : State) : State :=
  if s.fb (Fld.KPR_MB_STAT_BUSY m) then mailboxEnd m mbTimeout s else s

/-- The CTL word that starts a service. -/
def goWord (code : BitVec 16) : Word := BitVec.ofNat 32 (code.toNat + 65536)

/-! ### Commands -/

def execMailboxNop (p : Port) (m : Fin 4) (s : State) : Host.Outcome State Fault Refusal :=
  done s (asWrite p (Reg.KPR_MB_CTL m) (mailboxCtl m (goWord 0)) s)

def execLdgKeyExport (m : Fin 4) (programOk : Bool) (s : State) : Host.Outcome State Fault Refusal :=
  done s (ldgKeyExport m programOk s)

def execPrpKeyExport (m : Fin 4) (programOk : Bool) (s : State) : Host.Outcome State Fault Refusal :=
  done s (prpKeyExport m programOk s)

def execMailboxUnknownCode (p : Port) (m : Fin 4) (code : BitVec 16) (s : State) : Host.Outcome State Fault Refusal :=
  done s (asWrite p (Reg.KPR_MB_CTL m) (mailboxCtl m (goWord code)) s)

def execMailboxTimeout (m : Fin 4) (s : State) : Host.Outcome State Fault Refusal := done s (mailboxLate m s)

end Sys2Proof.Machine
end

