-- ==== Sys2Proof/Machine/Nvm.lean ====
section
/-!
DEFINITION. Fuses, the MRAM controller and firmware (chapter 17): OTP reads and programming (R509 to R513), MRAM word
writes (R514 to R516), bank updates (R522, R523) and secure boot (R525).
-/
namespace Sys2Proof.Machine

/-! ### OTP reads (R509, R510) -/

/-- R507: the device key. -/
def deviceKeyWord (w : Nat) : Bool := decide (0x100 ≤ w ∧ w ≤ 0x107)

/-- The answer to a read of word `w`: its status and value. `bad` says that the word has a double-bit error. -/
def State.otpAnswer (s : State) (w : Nat) (bad : Bool) : Nat × Word :=
  if deviceKeyWord w then (stLocked, 0) else if bad then (stDecodeErr, 0) else (stOk, s.otpWord w)

/-- R510: what the read does beside its answer. -/
def otpReadEffect (w : Nat) (bad : Bool) (s : State) : State :=
  if bad && !deviceKeyWord w then (s.fs Fld.OTP_STAT_RDERR 1).driveLine 11 else s

def otpRead (p : Port) (w : Nat) (bad : Bool) (s : State) : State :=
  if !s.portRuns p then s
  else if s.isolated (0x081000 + 4 * w) then respondRead p [0] stIsolated s
  else
    let r := s.otpAnswer w bad
    respondRead p [r.2] r.1 (otpReadEffect w bad s)

/-! ### Firmware images (R521, R523) -/

abbrev bankSize : Nat := 0x140000
def bankAt (k : Nat) : Nat := bankSize * k
def bankRec (k : Nat) : Nat := 0x740000 + 0x40 * k
abbrev bankCommit : Nat := 0xE1D24B87
def State.bankValid (s : State) (k : Nat) : Bool := s.recordOk (bankRec k) (bankAt k) bankSize bankCommit
def State.bankSeq (s : State) (k : Nat) : Nat := if s.bankValid k then (s.mramWord (bankRec k)).toNat else 0

/-- The bytes of a bank's image, by its own LENGTH; the header alone where that is out of range. -/
def State.bankImage (s : State) (k : Nat) : List Byte :=
  let n := (s.mramWord (bankAt k + 12)).toNat
  s.mramBytes (bankAt k) (if 264 ≤ n ∧ n ≤ bankSize then n else 64)

/-- R507: the number of set bits of the rollback count. -/
def State.rollback (s : State) : Nat := ([0x184, 0x185, 0x186, 0x187].map (fun w => (bitsOf 32 (s.otpWord w).toNat).length)).foldl (· + ·) 0

/-- R523 checks 1 to 4: 0, or the first that fails. -/
def State.fwCheck (s : State) (b : List Byte) : Nat :=
  let n := u32At b 12
  let g := b.drop (b.length - 136)
  let key := (g.drop 8).take 64
  if !(b.take 4 == ascii "AXFW" && u16At b 4 == 1 && u16At b 6 == 0x7600 && bitOf (u16At b 8) 0 &&
      decide (264 ≤ n ∧ n ≤ bankSize ∧ n % 4 = 0 ∧ b.length = n) && zeros b 0x18 40) then 1
  else if (s.keySlot 0x130 8 key).isNone then 2
  else if !(u32At g 0 == 1 && u32At g 4 == 0 && ecdsaOk key (g.drop 72) (b.take (b.length - 64))) then 3
  else if bitOf (s.otpWord 2).toNat 10 && decide (u16At b 10 < s.rollback) then 4
  else 0

/-- The bank that runs, as ID_FW_VER shows it. -/
def State.runBank (s : State) : Nat := s.fg Fld.ID_FW_VER_BANK

/-! ### OTP programming (R512, R513) -/

/-- R512: is a PROGRAM of this word refused? -/
def State.otpLocked (s : State) (w : Nat) : Bool :=
  (decide (w < 0x180) && s.life) || w == 0xFF || w == 0x17F || w == 0x180 || w == 0x181 || decide (0x184 ≤ w ∧ w ≤ 0x187)

/-- The key section of the image in force, and of the firmware that runs. -/
def State.signedBy (s : State) (fw : Bool) : List Byte :=
  if fw then
    let b := s.bankImage s.runBank
    if s.rst.firmware then ((b.drop (b.length - 136)).drop 8).take 64 else []
  else ((s.sec secSignature).drop 8).take 64

/-- R512: would a revocation leave no key of its kind, or revoke the key in force? -/
def State.revokeLocked (s : State) (fw : Bool) (i : Nat) : Bool :=
  let base := if fw then 0x130 else 0x110
  let key := s.signedBy fw
  ((s.liveDigests base (if fw then 8 else 0)).filter (fun k => k != i)).isEmpty ||
  (!key.isEmpty && s.digest base i == sha256 key)

/-- R512, R506: the region CRC words and LIFE. The factory region holds LIFE, so its CRC is that of the sealed region. -/
def sealWords (s : State) : List (Nat × Nat) :=
  let s' := s.setOtpWord 2 (BitVec.ofNat 32 ((s.otpWord 2).toNat ||| 1))
  [(0xFF, s'.factCrc.toNat), (0x17F, s.keyCrc.toNat), (2, 1)]

/-- R512: the SVN of the running firmware. -/
def State.runSvn (s : State) : Nat := if s.rst.firmware then u16At (s.bankImage s.runBank) 10 else 0

/-- The lowest clear bits of the rollback count, up to the SVN. -/
def rollbackWords (s : State) : List (Nat × Nat) :=
  (((List.range 128).filter (fun i => !bitOf (s.otpWord (0x184 + i / 32)).toNat (i % 32))).take
    (s.runSvn - s.rollback)).map (fun i => (0x184 + i / 32, 2 ^ (i % 32)))

/-- A GO: `locked` is the refusal of its operation, `ok` says that its values are accepted, and `vpp` that OTP_VPP has
stayed in its window for 1 ms. The refusals stand in the order of R554. -/
def otpStart (locked ok : Bool) (words : List (Nat × Nat)) (vpp : Bool) (s : State) : Nat × State :=
  let s := s.fs Fld.OTP_STAT_VPPOK (boolNat vpp)
  if locked then (stLocked, s)
  else if s.fb Fld.OTP_STAT_BUSY then (stBusy, s)
  else if !vpp then (stHeld, s.fs Fld.OTP_STAT_VPPERR 1)
  else if !ok then (stDecodeErr, s)
  else (stOk, (s.fs Fld.OTP_STAT_BUSY 1).setNvm { s.nvm with otp := words })

/-- A GO with KEY right or wrong. REVOKE of an index that names no key is a value not accepted (DEDUCED, log entry 27). -/
def otpGo (op : Nat) (key vpp : Bool) (s : State) : Nat × State :=
  let w := s.fg Fld.OTP_PADDR_WORD
  let d := (s.rd Reg.OTP_PDATA).toNat
  match op with
  | 0 => otpStart (s.otpLocked w) key [(w, d)] vpp s
  | 1 => otpStart s.life key (sealWords s) vpp s
  | 2 =>
    let fw := bitOf d 4
    let i := d % 16
    otpStart (decide (i < 4) && s.revokeLocked fw i) (key && decide (i < 4)) [(0x181, 2 ^ (i + if fw then 8 else 0))] vpp s
  | _ => otpStart (decide (s.runSvn < s.rollback)) key (rollbackWords s) vpp s

/-- A write of OTP_PCTL (R512): the key stands with every write. -/
def otpCtl (v : Word) (vpp : Bool) (s : State) : Nat × State :=
  let key := fldOf v 16 16 == 0x0F7E
  if bitOf v.toNat 0 then otpGo (fldOf v 1 2) key vpp s else if key then (stOk, s) else (stDecodeErr, s)

/-- Programming sets bits and never clears them. -/
def otpBurn (w : Nat × Nat) (s : State) : State := s.setOtpWord w.1 (BitVec.ofNat 32 ((s.otpWord w.1).toNat ||| w.2))

/-- R513: the operation ends. `res` 0 is success; 1 VPP and 2 VERIFY stop it in word `n`, which may hold some of its new
bits (`part`). -/
def otpEnd (n part res : Nat) (s : State) : State :=
  if !s.fb Fld.OTP_STAT_BUSY then s
  else
    let ws := s.nvm.otp
    let s := if res = 0 then ws.foldl (fun s w => otpBurn w s) s
      else
        let s := (ws.take n).foldl (fun s w => otpBurn w s) s
        match ws[n]? with
        | some w => otpBurn (w.1, w.2 &&& part) s
        | none => s
    let s := (s.fs Fld.OTP_STAT_BUSY 0).fs Fld.OTP_STAT_RESULT (match res with | 0 => 0 | 1 => 7 | _ => 8)
    (s.setNvm { s.nvm with otp := [] }).raise 194

/-! ### The MRAM controller (R514 to R516) -/

/-- R516: the writer that is served next: the first in order among those that have waited 10 ms, else among all. -/
def State.nextWriter (s : State) (aged : List Nat) : Option Nat :=
  let ws := (List.range 8).filter (fun w => s.nvm.words.any (fun x => x.1 == w))
  match ws.find? (fun w => aged.contains w) with
  | some w => some w
  | none => ws.head?

/-- R514: the writer is told of a refused word, and its write ends. A write of learned values ends with WERR; the epoch,
the ledger and the log, which owe their record, issue it anew (DESIGN CHOICE, log entry 29). -/
def wordRefused (w a : Nat) (s : State) : State :=
  let (v, s) := s.fresh
  let s := nvDrop w (((s.setMramWord a (BitVec.ofNat 32 v)).finc Fld.NVC_ERR_REFUSED).driveLine 10)
  if w = wHost then s.setNvm { s.nvm with res := 6 }
  else if w = wProgram then
    let (r, s) := s.fresh
    loadResult (some ⟨r % 16, 0, 0, false⟩) (s.setNvm { s.nvm with prog := none })
  else if w = wLearned then estRefused s
  else s

/-- One word is written and verified; `fail` says that its second read-back differs too. -/
def wordWrite (aged : List Nat) (fail : Bool) (s : State) : State :=
  match s.nextWriter aged with
  | none => s
  | some w => match s.nvm.words.find? (fun x => x.1 == w) with
    | none => s
    | some (_, a, v) =>
      if fail then wordRefused w a s
      else
        let s := s.setMramWord a v
        let s := s.setNvm { s.nvm with words := s.nvm.words.erase (w, a, v) }
        if w = wProgram && !s.nvm.words.any (fun x => x.1 == wProgram) then programStep s else s

/-! ### Bank updates (R522) -/

/-- R522: the words of an operation on bank `k`. -/
def nvcWords (op k : Nat) (s : State) : List (Nat × Nat × Word) :=
  let clear := (wHost, bankRec k + 44, (0 : Word))
  match op with
  | 0 =>
    let n := (s.rd Reg.NVC_LEN).toNat
    (if s.mramWord (bankRec k + 44) = 0 then [] else [clear]) ++
      wordsFor wHost (bankAt k + s.fg Fld.NVC_ARG_OFS) (s.sramBytes 0xFC0000 n)
  | 1 =>
    wordsFor wHost (bankRec k) (makeRecord (s.bankSeq (1 - k) + 1) (s.bankImage k)) ++
      [(wHost, bankRec k + 44, BitVec.ofNat 32 bankCommit)]
  | _ => clear :: wordsFor wHost (bankAt k) (List.replicate bankSize 0)

/-- R522: OFS and LEN of a WRITE. -/
def State.nvcRange (s : State) : Bool :=
  let o := s.fg Fld.NVC_ARG_OFS
  let n := (s.rd Reg.NVC_LEN).toNat
  decide (o % 4 = 0 ∧ n % 4 = 0 ∧ 4 ≤ n ∧ n ≤ 262144 ∧ o + n ≤ bankSize)

/-- A write of NVC_CTL. COMMIT checks the bank's image first and writes nothing where it fails (R522). -/
def nvcCtl (op : Nat) (go : Bool) (s : State) : Nat × State :=
  let k := s.fg Fld.NVC_ARG_BANK
  if go && (s.opRuns || k == s.runBank) then (stHeld, s)
  else if go && op == 0 && !s.nvcRange then (stHeld, s.fs Fld.NVC_STAT_RESULT 5)
  else if op = 3 then (stDecodeErr, s)
  else
    let s := s.fs Fld.NVC_CTL_OP op
    if !go then (stOk, s)
    else
      let r := if op = 1 then s.fwCheck (s.bankImage k) else 0
      let ws := if r = 0 then nvcWords op k s else []
      (stOk, (s.fs Fld.NVC_STAT_BUSY 1).setNvm { s.nvm with words := s.nvm.words ++ ws, res := r })

/-- R522: the operation ends once its words have been written, or at a refused word. -/
def nvcEnd (s : State) : State :=
  if !s.fb Fld.NVC_STAT_BUSY || s.nvm.words.any (fun x => x.1 == wHost) then s
  else ((s.fs Fld.NVC_STAT_BUSY 0).fs Fld.NVC_STAT_RESULT s.nvm.res).raise 193

/-! ### Secure boot (R525) -/

/-- What happens as a bank's firmware starts: its version, the keeper watchdogs (R473; the firmware's own period and
clock are open), the waveform flags, the RESET entry and its record (R441, R443). -/
def firmwareRun (k : Nat) (s : State) : State :=
  let v := (s.mramWord (bankAt k + 16)).toNat % 2 ^ 31
  let s := s.setRst { s.rst with firmware := true }
  let s := s.wr Reg.ID_FW_VER (BitVec.ofNat 32 (v + 2 ^ 31 * k))
  let s := [0, 1].foldl (fun s i =>
    let (p, s) := s.fresh
    let (c, s) := s.fresh
    ((s.fs (Fld.WDG_K_STAT_EN i) 1).fs (Fld.WDG_K_STAT_PERIOD i) (p % 65536)).fs (Fld.WDG_K_STAT_CLKSEL i) (c % 2)) s
  let s := waveFlags (wdStart 2 s.aclk (wdStart 1 s.aclk s))
  let cause := (s.rd Reg.RST_CAUSE).toNat
  let s := s.logEvent 0x02 cause (s.rd Reg.RST_LAST).toNat false
  if s.prp.preReset.isSome then s.waveTrigger 5 cause else s

def bankResult (k r : Nat) (s : State) : State :=
  if k = 0 then s.fs Fld.NVC_BANK_RES_A r else s.fs Fld.NVC_BANK_RES_B r

def bootBanks : List Nat → State → State
  | [], s => s
  | k :: r, s => match s.fwCheck (s.bankImage k) with
    | 0 => firmwareRun k (bankResult k 0 s)
    | e => bootBanks r (bankResult k e s)

/-- R525, R511: the boot ROM's choice at a release of reset. -/
def bootSelect (s : State) : State :=
  if s.rst.firmware then s
  else if s.life && (s.fb Fld.OTP_STAT_FACT_ALM || s.fb Fld.OTP_STAT_KEY_ALM) then s
  else
    let order := if s.bankSeq 0 < s.bankSeq 1 then [1, 0] else [0, 1]
    bootBanks (order.filter s.bankValid) s

/-! ### Commands -/

def execOtpWordRead (p : Port) (w : Fin 1024) (bad : Bool) (s : State) : Host.Outcome State Fault Refusal :=
  done s (otpRead p w bad s)

def execOtpProgram (p : Port) (vpp : Bool) (s : State) : Host.Outcome State Fault Refusal :=
  done s (asWrite p Reg.OTP_PCTL (otpGo 0 true vpp) s)

def execOtpSeal (p : Port) (vpp : Bool) (s : State) : Host.Outcome State Fault Refusal :=
  done s (asWrite p Reg.OTP_PCTL (otpGo 1 true vpp) s)

def execOtpRevoke (p : Port) (vpp : Bool) (s : State) : Host.Outcome State Fault Refusal :=
  done s (asWrite p Reg.OTP_PCTL (otpGo 2 true vpp) s)

def execOtpRollback (p : Port) (vpp : Bool) (s : State) : Host.Outcome State Fault Refusal :=
  done s (asWrite p Reg.OTP_PCTL (otpGo 3 true vpp) s)

def execOtpOperationEnd (n : Nat) (part : Word) (res : Fin 3) (s : State) : Host.Outcome State Fault Refusal :=
  done s (otpEnd n part.toNat res s)

def execNvcWrite (p : Port) (s : State) : Host.Outcome State Fault Refusal :=
  done s (asWrite p Reg.NVC_CTL (nvcCtl 0 true) s)

def execNvcCommit (p : Port) (s : State) : Host.Outcome State Fault Refusal :=
  done s (asWrite p Reg.NVC_CTL (nvcCtl 1 true) s)

def execNvcClear (p : Port) (s : State) : Host.Outcome State Fault Refusal :=
  done s (asWrite p Reg.NVC_CTL (nvcCtl 2 true) s)

def execNvcOperationEnd (s : State) : Host.Outcome State Fault Refusal := done s (nvcEnd s)

def execMramWordWrite (aged : List Nat) (fail : Bool) (s : State) : Host.Outcome State Fault Refusal :=
  done s (wordWrite aged fail s)

def execBootFirmwareSelect (s : State) : Host.Outcome State Fault Refusal := done s (bootSelect s)

end Sys2Proof.Machine
end

