-- ==== Sys2Proof/Machine/Timers.lean ====
section
/-!
DEFINITION. Timers (R467 to R472) and watchdogs (R473 to R481).
-/
namespace Sys2Proof.Machine

/-! ### Timers -/

def tmr0 : TmrW := ⟨0xFFFFFFFF, 0, 0, 0⟩
def State.tmrW (s : State) (n : Nat) : TmrW := kvGet (fun _ => tmr0) s.tmr n
def State.setTmrW (s : State) (n : Nat) (v : TmrW) : State := s.setTmr (kvSet (fun _ => tmr0) s.tmr n v)

def State.tmRuns (s : State) (n : Nat) : Bool := bitOf (s.fg Fld.TMR_RUN_RUN) n
def State.tmArmed (s : State) (n : Nat) : Bool := bitOf (s.fg Fld.TMR_RUN_ARMED) n
def State.setTmRun (s : State) (n : Nat) (run armed : Bool) : State :=
  (s.fs Fld.TMR_RUN_RUN (setBit (s.fg Fld.TMR_RUN_RUN) n run)).fs Fld.TMR_RUN_ARMED (setBit (s.fg Fld.TMR_RUN_ARMED) n armed)

def State.tmSrc (s : State) (n : Nat) : Nat := s.fg (Fld.TMR_TM_CFG_SRC n)
def State.tmSlv (s : State) (n : Nat) : Nat := s.fg (Fld.TMR_TM_CFG_SLV n)
def State.tmMaster (s : State) (n : Nat) : Nat := s.fg (Fld.TMR_TM_CFG_MSEL n)
/-- The timer has a master (R467, R469). -/
def State.tmSlave (s : State) (n : Nat) : Bool := s.tmSrc n == 3 || s.tmSlv n != 0

/-- R471: in WATCH a timer with SLEEP set goes on from ACLK, TIO, or CASCADE from a timer that goes on. -/
def State.tmAwake (s : State) : Nat → Nat → Bool
  | 0, _ => false
  | f + 1, n => match s.powerState with
    | 0 => false
    | 1 => s.fb (Fld.TMR_TM_CFG_SLEEP n) && (s.tmSrc n == 1 || s.tmSrc n == 2 ||
        (s.tmSrc n == 3 && s.tmRuns (s.tmMaster n) && s.tmAwake f (s.tmMaster n)))
    | _ => true

/-- R468: OUT is high while CNT is below the working CMP0. -/
def State.tmOut (s : State) (n : Nat) : Bool := decide ((s.rd (Reg.TMR_TM_CNT n)).toNat < (s.tmrW n).cmp0)

/-- The working copies take the registers' values (R468). -/
def tmReload (n : Nat) (s : State) : State :=
  s.setTmrW n { s.tmrW n with
    per := (s.rd (Reg.TMR_TM_PERIOD n)).toNat, cmp0 := (s.rd (Reg.TMR_TM_CMP0 n)).toNat, cmp1 := (s.rd (Reg.TMR_TM_CMP1 n)).toNat }

/-- CNT takes a value; a compare it meets sets its flag (R468). -/
def tmCount (n v : Nat) (s : State) : State :=
  let s := s.wr (Reg.TMR_TM_CNT n) (BitVec.ofNat 32 v)
  let s := if v = (s.tmrW n).cmp0 then s.fs (Fld.TMR_TM_FLAG_CMP0 n) 1 else s
  if v = (s.tmrW n).cmp1 then s.fs (Fld.TMR_TM_FLAG_CMP1 n) 1 else s

/-- One edge of a timer's clock, and what its LAP does to the timers whose master it is (R467 to R469). The fuel bounds
the chain of masters, of at most sixteen timers. -/
def tmEdge : Nat → Nat → State → State
  | 0, _, s => s
  | f + 1, n, s =>
    if !s.tmRuns n || !s.tmAwake 16 n || (s.tmSlv n == 1 && !s.tmOut (s.tmMaster n)) then s
    else
      let c := (s.rd (Reg.TMR_TM_CNT n)).toNat
      if c < (s.tmrW n).per then tmCount n (c + 1) s
      else
        let s := tmCount n 0 (tmReload n (s.fs (Fld.TMR_TM_FLAG_LAP n) 1))
        let s := if s.fb (Fld.TMR_TM_CFG_ONESHOT n) then s.setTmRun n false false else s
        ((List.range 16).filter (fun m => s.tmMaster m == n && s.tmSlave m && m != n)).foldl (fun s m =>
          if s.tmArmed m && s.tmSlv m == 2 then (if s.powerState = 0 then s else s.setTmRun m true false)
          else if s.tmSlv m == 3 then (if s.tmRuns m && s.tmAwake 16 m then tmCount m 0 (tmReload m s) else s)
          else if s.tmSrc m == 3 && s.tmRuns m && s.tmAwake 16 m then
            let w := s.tmrW m
            if w.pre + 1 < 2 ^ s.fg (Fld.TMR_TM_CFG_PRE m) then s.setTmrW m { w with pre := w.pre + 1 }
            else tmEdge f m (s.setTmrW m { w with pre := 0 })
          else s) s

/-- An edge of the timer clock of a timer with a clock of its own; a CASCADE timer's edges are its master's LAPs. -/
def timerEdge (n : Nat) (s : State) : State :=
  if s.tmSrc n = 3 ∨ (s.tmSrc n = 2 ∧ (s.ballOf (0x70 + n)).isNone) then s else tmEdge 16 n s

/-- R469: the chain of masters of `n` leads back to `n`. -/
def State.tmLoops (s : State) (n : Nat) : Nat → Nat → Bool
  | 0, _ => false
  | f + 1, m => s.tmSlave m && (s.tmMaster m == n || s.tmLoops n f (s.tmMaster m))

/-- R470: a timer that runs or is armed stays as it is. -/
def tmStartOne (n : Nat) (s : State) : State :=
  if s.tmRuns n || s.tmArmed n then s
  else
    let s := tmReload n (s.setTmrW n { s.tmrW n with pre := 0 })
    if s.tmSlv n = 2 then s.setTmRun n false true else s.setTmRun n true false

def tmrStart (m : Nat) (s : State) : Nat × State :=
  let l := bitsOf 16 m
  if l.any (fun n => !s.tmRuns n && !s.tmArmed n && s.tmLoops n 16 n) then (stDecodeErr, s)
  else (stOk, l.foldl (fun s n => tmStartOne n s) s)

def tmrStop (m : Nat) (s : State) : State := (bitsOf 16 m).foldl (fun s n => s.setTmRun n false false) s

def tmrReset (m : Nat) (s : State) : State :=
  (bitsOf 16 m).foldl (fun s n => tmCount n 0 (tmReload n (s.setTmrW n { s.tmrW n with pre := 0 }))) s

/-- R472: the selected edge of TIOn. -/
def timerCapture (n : Nat) (s : State) : State :=
  if s.fg (Fld.TMR_TM_IO_FUNC n) ≠ 2 ∨ (s.ballOf (0x70 + n)).isNone then s
  else
    let s := if s.fb (Fld.TMR_TM_FLAG_CAP n) then s.fs (Fld.TMR_TM_FLAG_OVR n) 1 else s
    (s.wr (Reg.TMR_TM_CAP n) (s.rd (Reg.TMR_TM_CNT n))).fs (Fld.TMR_TM_FLAG_CAP n) 1

/-- R472: the level that a timer drives on TIOn, where its ball is placed. -/
def State.tioLevel (s : State) (n : Nat) : Option Bool :=
  if s.fg (Fld.TMR_TM_IO_FUNC n) = 1 ∧ (s.ballOf (0x70 + n)).isSome then
    some (s.tmOut n != s.fb (Fld.TMR_TM_IO_INV n)) else none

/-! ### Watchdogs -/

/-- R474: WD_H's period and its opening, in cycles of its own clock. -/
def State.wdCycles (s : State) : Nat := s.fg Fld.WDG_H_CFG_PERIOD * (if s.fb Fld.WDG_H_CFG_CLKSEL then 15625 else 32)
def State.wdOpens (s : State) : Nat := s.wdCycles * s.wdFraction 0 / 16

/-- R478. An HFRC watchdog keeps HFRC running in WATCH (R480). -/
def wdgCtlWrite (en : Bool) (s : State) : Nat × State :=
  if s.fb Fld.WDG_H_CTL_EN then (if en then stOk else stLocked, s)
  else if !en then (stOk, s)
  else
    let s := wdStart 0 s.aclk (s.fs Fld.WDG_H_CTL_EN 1)
    (stOk, if s.fb Fld.WDG_H_CFG_CLKSEL then s.fs Fld.CLK_STAT_HFRC_ON 1 else s)

/-- R475 to R477: a service whose timestamp, in cycles of WD_H's clock since the period start, is `stamp`. -/
def wdgService (v : Word) (stamp : Nat) (s : State) : Nat × State :=
  if fldOf v 0 16 ≠ 0x5C3A then (stOk, deviceReset causeWdH s)
  else if !s.fb Fld.WDG_H_CTL_EN then (stOk, s)
  else if stamp < s.wdOpens ∨ s.wdCycles ≤ stamp then (stOk, deviceReset causeWdH s)
  else (stOk, wdStart 0 (if s.fb Fld.WDG_H_CFG_CLKSEL then s.aclk else kvGet (fun _ => 0) s.wdg 0 + stamp) s)

/-- R480: in DORMANT every watchdog holds. -/
def wdgWindow (w : Nat) (s : State) : State := if s.powerState = 0 then s else wdOpen w s

def wdgExpiry (w : Nat) (s : State) : State :=
  if s.powerState = 0 ∨ !s.wdEnabled w then s else deviceReset (2 ^ (3 + w)) s

/-- R479. -/
def wdgClockTrip (s : State) : State :=
  if s.powerState != 0 && [0, 1, 2].any s.wdEnabled then deviceReset causeClkmon s else s

/-! ### Commands -/

def execTmrStart (p : Port) (mask : BitVec 16) (s : State) : Host.Outcome State Fault Refusal :=
  done s (asWrite p Reg.TMR_START (tmrStart mask.toNat) s)

def execTmrStop (p : Port) (mask : BitVec 16) (s : State) : Host.Outcome State Fault Refusal :=
  done s (asWrite p Reg.TMR_STOP (okay (tmrStop mask.toNat)) s)

def execTmrReset (p : Port) (mask : BitVec 16) (s : State) : Host.Outcome State Fault Refusal :=
  done s (asWrite p Reg.TMR_RESET (okay (tmrReset mask.toNat)) s)

def execTimerClockEdge (n : Fin 16) (s : State) : Host.Outcome State Fault Refusal := done s (timerEdge n s)

def execTimerCapture (n : Fin 8) (s : State) : Host.Outcome State Fault Refusal := done s (timerCapture n s)

def execWatchdogEnable (p : Port) (en : Bool) (s : State) : Host.Outcome State Fault Refusal :=
  done s (asWrite p Reg.WDG_H_CTL (wdgCtlWrite en) s)

def execWatchdogService (p : Port) (v : Word) (stamp : Nat) (s : State) : Host.Outcome State Fault Refusal :=
  done s (asWrite p Reg.WDG_H_SVC (wdgService v stamp) s)

def execWatchdogWindowOpen (w : Fin 3) (s : State) : Host.Outcome State Fault Refusal := done s (wdgWindow w s)

def execWatchdogExpiry (w : Fin 3) (s : State) : Host.Outcome State Fault Refusal := done s (wdgExpiry w s)

def execWatchdogClockTrip (s : State) : Host.Outcome State Fault Refusal := done s (wdgClockTrip s)

end Sys2Proof.Machine
end

