-- ==== Sys2Proof/Machine/Fields.lean ====
section
/-!
DEFINITION. How a host write to a plain register word is judged (R9, R11, R12, R49, R61, R64): the ranges of its fields,
the condition under which its HELD fields are refused, and the commit group of its STAGED fields.
-/
namespace Sys2Proof.Machine

/-! ### Ranges (R49) -/

/-- Ranges that field tables give, by the first word of the register array: lowest bit, width, least and greatest value. -/
def fieldRanges : List (Nat × List (Nat × Nat × Nat × Nat)) := [
  (0x040100, (List.range 8).map (fun n => (3 * n, 3, 0, 4))),
  (0x040110, [(0, 8, 1, 255)]),
  (0x010010, (List.range 16).map (fun n => (2 * n, 2, 0, 2))),
  (0x050118, [(0, 2, 0, 2), (2, 2, 0, 2)]),
  (0x070000, [(0, 16, 16, 65535)]),
  (0x0A0004, [(16, 10, 0, 1000)]),
  (0x0A0010, [(0, 8, 5, 255), (8, 8, 1, 255)]),
  (0x0A0100, [(0, 2, 0, 2)]),
  (0x0A0400, [(16, 8, 1, 255), (24, 8, 0, 100)]),
  (0x0B0100, [(2, 2, 0, 2)]),
  (0x0D0004, [(8, 8, 1, 255)]),
  (0x0D0008, [(8, 5, 1, 31)]),
  (0x0D0200, [(0, 8, 1, 255), (8, 8, 5, 200)]),
  (0x110000, [(0, 3, 0, 5)]),
  (0x130004, [(16, 8, 1, 255)]),
  (0x130034, [(0, 12, 100, 2000), (16, 8, 30, 200), (24, 8, 5, 255)]),
  (0x130038, [(8, 8, 10, 80)]),
  (0x130100, [(8, 8, 1, 255)])] ++ [
  (0x140004, [(0, 8, 10, 200), (8, 8, 5, 195), (16, 8, 1, 255)]),
  (0x140008, [(16, 8, 1, 255), (24, 8, 50, 100)]),
  (0x140014, [(4, 4, 0, 11)]),
  (0x140104, [(8, 6, 1, 63)]),
  (0x14010C, [(0, 8, 1, 255), (8, 8, 1, 255), (16, 16, 10, 10000)]),
  (0x140110, [(16, 8, 100, 200), (24, 8, 10, 200)]),
  (0x140C00, [(0, 32, 0, 4095)]),
  (0x140C04, [(0, 32, 0, 4095)]),
  (0x140C08, [(0, 32, 0, 4095)]),
  (0x140C0C, [(0, 32, 500, 2500)]),
  (0x150104, [(0, 8, 1, 255)]),
  (0x160808, [(0, 2, 0, 2)]),
  (0x160C00, [(0, 10, 1, 1000)]),
  (0x170004, [(16, 8, 1, 255)]),
  (0x170108, [(16, 16, 5, 500)]),
  (0x170110, [(16, 16, 1, 1000)]),
  (0x170400, [(0, 16, 10, 60000), (16, 8, 1, 255)]),
  (0x170604, [(0, 8, 1, 100), (16, 16, 20, 1000)]),
  (0x180004, [(0, 4, 1, 15), (8, 8, 1, 255), (16, 8, 1, 50)]),
  (0x180400, [(0, 8, 1, 50), (8, 8, 1, 100), (16, 8, 1, 255), (24, 8, 5, 100)]),
  (0x190000, [(8, 8, 1, 255), (16, 8, 1, 255), (24, 8, 1, 100)]),
  (0x190004, [(0, 8, 10, 255), (24, 8, 1, 255)]),
  (0x1A0000, [(8, 7, 0, 80)])]

/-- R500: the fraction of every derating point. -/
def pointBase (b : Nat) : Bool := decide (0x0A0410 ≤ b ∧ b ≤ 0x0A042C)

def rangesOk (base : Nat) (v : Word) : Bool :=
  ((fieldRanges.lookup base).getD []).all (fun r =>
    decide (r.2.2.1 ≤ fldOf v r.1 r.2.1 ∧ fldOf v r.1 r.2.1 ≤ r.2.2.2)) &&
  (!pointBase base || decide (fldOf v 16 16 ≤ 1000))

/-- R238: the sources of a predictor entry. -/
def predSources : List Nat := [0, 1, 2, 3, 4, 8, 9, 10, 11, 12, 13, 14, 0x10, 0x11, 0x18]

/-- R389: the nonzero levels of a rail rise strictly. -/
def levelsRise (uv ov : Word) : Bool :=
  rising ([fldOf uv 0 16, fldOf uv 16 16, fldOf ov 0 16, fldOf ov 16 16].filter (fun x => x != 0))

/-- R385: the set-point record of a rail whose bit 0 is set binds its range. -/
def State.railBound (s : State) (k : Nat) : Bool :=
  let q := s.sec secSequence
  u16At q (6 + 8 * (u16At q 0 + u16At q 2) + 256 + 4 * k) == 1

/-- Conditions that compare fields of the word, or look elsewhere: R467, R469, RTC_CALIB, CAN bit timing, R238, R288,
R384, R389, SYSUV, the input window of a channel. -/
def crossOk (base a : Nat) (v : Word) (s : State) : Bool :=
  let i := fun stride => (a - base) / stride
  match base with
  | 0x050100 => !(fldOf v 0 2 == 2 && decide (8 ≤ i 64)) && fldOf v 10 4 != i 64
  | 0x06002C => fldOf v 0 9 != 256
  | 0x0D0004 => decide (fldOf v 24 7 ≤ fldOf v 16 7)
  | 0x0D0008 => decide (fldOf v 24 4 ≤ fldOf v 16 4)
  | 0x130100 => predSources.contains (fldOf v 0 6)
  | 0x140104 => !bitOf v.toNat 0 || s.grpSyncIn (i 64)
  | 0x150100 =>
    let mv := fldOf v 0 16
    !s.railBound (i 16) || decide (600 ≤ mv ∧ mv ≤ (if i 16 < 4 then 5500 else 3600) ∧ mv % 5 = 0)
  | 0x160008 => let u := fldOf v 16 16; decide (u = 0 ∨ (100 ≤ u ∧ u ≤ 1150))
  | 0x160800 => levelsRise v (s.rd (a + 4))
  | 0x160804 => levelsRise (s.rd (a - 4)) v
  | 0x170114 => decide (fldOf v 0 16 < fldOf v 16 16)
  | _ => true

/-- R49: every field of the word lies in its defined range. -/
def valueOk (r : RegRow) (a : Nat) (v : Word) (s : State) : Bool := rangesOk r.base v && crossOk r.base a v s

/-! ### HELD fields (R11, R61) -/

/-- The supervised rail `k` is on, or its enable output is asserted. -/
def State.railUp (s : State) (k : Nat) : Bool :=
  if k < 8 then s.railOn k else bitOf (s.fg Fld.SEQ_OUT_SQE) (k - 8)

/-- R61: the condition under which the HELD fields of the word at `a` are refused. -/
def State.heldNow (s : State) (a : Nat) : Bool :=
  let o := a % 65536
  match a / 65536 with
  | 0x00 => true
  | 0x01 => true
  | 0x05 => s.tmRuns ((o - 0x100) / 64) || s.tmArmed ((o - 0x100) / 64)
  | 0x06 => true
  | 0x07 => s.fb Fld.WDG_H_CTL_EN
  | 0x0B => s.fb Fld.TWI_TW1_CFG_EN
  | 0x0D => s.fb (Fld.CAN_C_CFG_EN (o / 256))
  | 0x0E => s.fb Fld.WGL_CFG_EN
  | 0x11 => true
  | 0x12 => (List.range 32).any s.qEnabled
  | 0x13 => s.fg Fld.SCT_STAT_LEVEL != 0
  | 0x14 => if 0x100 ≤ o ∧ o < 0x400 then s.groupRuns ((o - 0x100) / 64) else (List.range 12).any s.groupRuns
  | 0x15 => s.railOn ((o - 0x100) / 16)
  | 0x16 => if 0x800 ≤ o ∧ o < 0xC00 then s.railUp ((o - 0x800) / 32) else s.seqRuns
  | 0x17 => if o < 0x400 then s.gateOn ((o - 0x100) / 64) else s.kState ((o - 0x600) / 16) != kOpen
  | 0x18 => if 0x400 ≤ o then s.groupRuns ((o - 0x400) / 32) else s.strings.any s.charging
  | 0x19 => true
  | 0x1A => s.fullRate && s.awake && s.fb Fld.PRP_CFG_RUN
  | 0x1B => true
  | _ => false

/-! ### Staged fields (R62) -/

/-- The commit group of the STAGED fields of a fixed-map word. -/
def groupOf (a : Nat) : Group :=
  let o := a % 65536
  match a / 65536 with
  | 0x01 => .flt
  | 0x06 => .rtc
  | 0x0A => .zone ((o - 0x400) / 64)
  | 0x11 => .ldgAssign
  | 0x13 => .sct
  | 0x14 => if 0x100 ≤ o ∧ o < 0x400 then .cnvGroup ((o - 0x100) / 64) else .cnvRack
  | _ => .chg ((o - 0x100) / 32)

/-! ### The write -/

/-- R9: the masked bits of a word take their written values, and 1s clear W1C bits and set W1S bits. -/
def applyMasks (r : RegRow) (old v : Word) : Word :=
  let m := fun (n : Nat) => (BitVec.ofNat 32 n : Word)
  ((((old &&& ~~~(m r.rw)) ||| (v &&& m r.rw)) &&& ~~~(v &&& m r.w1c)) ||| (v &&& m r.w1s))

/-- R554 (4) to (6) for a word with no behaviour of its own: BUSY, HELD, and the values. -/
def judge (r : RegRow) (a : Nat) (v : Word) (s : State) : Nat :=
  if r.staged != 0 && s.groupBusy (groupOf a) then stBusy
  else if ((s.rd a ^^^ v) &&& BitVec.ofNat 32 r.held) != 0 && s.heldNow a then stHeld
  else if !valueOk r a v s then stDecodeErr
  else stOk

def plainApply (r : RegRow) (a : Nat) (v : Word) (s : State) : State :=
  let s := s.wr a (applyMasks r (s.rd a) v)
  if r.staged = 0 then s else s.stage (groupOf a) a r.staged v

/-- A write of a word with no behaviour of its own. -/
def plainWrite (a : Nat) (v : Word) (s : State) : Nat × State :=
  match rowOf a with
  | none => (stDecodeErr, s)
  | some r => match judge r a v s with
    | 0 => (stOk, plainApply r a v s)
    | st => (st, s)

/-- A plain word with a control beside its fields: judged as a plain word, then the control; the fields act only where
the control is accepted (R554). -/
def plainWith (a : Nat) (v : Word) (ctl : State → Nat × State) (s : State) : Nat × State :=
  match rowOf a with
  | none => (stDecodeErr, s)
  | some r => match judge r a v s with
    | 0 => match ctl s with
      | (0, s') => (stOk, plainApply r a v s')
      | x => x
    | st => (st, s)

/-- COMMIT and ABORT of a group beside fields: their combination and BUSY are judged before the fields (R64, R554). -/
def commitWith (g : Group) (commit abort : Bool) (a : Nat) (v : Word) (s : State) : Nat × State :=
  if commit && abort then (stDecodeErr, s)
  else if (commit || abort) && s.groupBusy g then (stBusy, s)
  else plainWith a v (commitAbort g commit abort) s

end Sys2Proof.Machine
end

