-- ==== Sys2Proof/Machine/Queues.lean ====
section
/-!
DEFINITION. The host's side of the queue rings (R131 to R137, R203): ring set-up and doorbells.
-/
namespace Sys2Proof.Machine

/-- R132: the bytes of a ring with this geometry. -/
def ringSpan (q base log : Nat) : Nat × Nat := (0xD80000 + 64 * base, 0xD80000 + 64 * base + 2 ^ log * entrySize q)

def State.ringOf (s : State) (q : Nat) : Nat × Nat :=
  ringSpan q (s.fg (Fld.SYS_Q_CFG_BASE q)) (s.fg (Fld.SYS_Q_CFG_DEPTHLOG q))

/-- R132: does the ring end within the queue region, clear of every other enabled ring? -/
def State.ringFits (s : State) (q : Nat) (r : Nat × Nat) : Bool :=
  decide (r.2 ≤ 0xE00000) &&
  (List.range 64).all (fun o => o == q || !s.qEnabled o || decide ((s.ringOf o).2 ≤ r.1 ∨ r.2 ≤ (s.ringOf o).1))

/-- A write of SYS_Qq_CFG (R132, R133, R137, R203). -/
def qcfgWrite (q : Nat) (v : Word) (s : State) : Nat × State :=
  let en := bitOf v.toNat 0
  let base := fldOf v 6 13
  let log := fldOf v 20 4
  let on := s.qEnabled q
  if on && en && decide (base ≠ s.fg (Fld.SYS_Q_CFG_BASE q) ∨ log ≠ s.fg (Fld.SYS_Q_CFG_DEPTHLOG q)) then (stHeld, s)
  else if on && !en && decide (q < 32) && s.qCount q != 0 then (stHeld, s)
  else if log < 2 ∨ 8 < log then (stDecodeErr, s)
  else if en && !s.ringFits q (ringSpan q base log) then (stDecodeErr, s)
  else
    let s := s.wr (Reg.SYS_Q_CFG q) (v &&& 0x00F7FFC1)
    (stOk, if en && !on then s.wr (Reg.SYS_Q_PTR q) 0 else s)

/-- R134: an OQ doorbell. Its entries are SUBMITTED (R203, R204), and it wakes WATCH and DORMANT (R27, R30). -/
def oqDoorbell (q v : Nat) (s : State) : Nat × State :=
  let d := s.qDepth q
  let tail := s.fg (Fld.SYS_Q_PTR_TAIL q)
  let adv := (v + 2 * d - tail) % (2 * d)
  if s.fb Fld.ORD_STAT_DISCARDING ∨ !s.ord.started then (stBusy, s)
  else if s.loading then (stHeld, s)
  else if !s.qEnabled q ∨ 2 * d ≤ v then (stDecodeErr, s)
  else if d < s.qCount q + adv then (stDecodeErr, s.fs (Fld.SYS_Q_STAT_OVF q) 1)
  else
    let s := s.fs (Fld.SYS_Q_PTR_TAIL q) v
    (stOk, (s.setOrd { s.ord with submitted := s.ord.submitted ++ List.replicate adv q }).wakeWatch.wakeDormant)

/-- R134: a doorbell of a device-produced queue frees consumed entries. -/
def headDoorbell (q v : Nat) (s : State) : Nat × State :=
  let d := s.qDepth q
  let adv := (v + 2 * d - s.fg (Fld.SYS_Q_PTR_HEAD q)) % (2 * d)
  if !s.qEnabled q ∨ 2 * d ≤ v ∨ s.qCount q < adv then (stDecodeErr, s)
  else (stOk, s.fs (Fld.SYS_Q_PTR_HEAD q) v)

def doorbell (q v : Nat) (s : State) : Nat × State := if q < 32 then oqDoorbell q v s else headDoorbell q v s

/-- R135: a host write of a word in the queue region. -/
def queueWrite (a : Nat) (v : Word) (s : State) : Nat × State :=
  match (List.range 32).find? (fun q => s.qEnabled q && decide ((s.ringOf q).1 ≤ a ∧ a < (s.ringOf q).2)) with
  | none => (stDecodeErr, s)
  | some q =>
    let slot := (a - s.qStart q) / 64
    let held := (List.range (s.qCount q)).any (fun k => (s.fg (Fld.SYS_Q_PTR_HEAD q) + k) % s.qDepth q == slot)
    if held then (stBusy, s) else (stOk, s.setSramWord a v)

/-! ### Commands -/

def execQueueCfgWrite (p : Port) (q : Fin 64) (v : Word) (s : State) : Host.Outcome State Fault Refusal :=
  done s (asWrite p (Reg.SYS_Q_CFG q) (qcfgWrite q v) s)

def execOqDoorbell (p : Port) (q : Fin 32) (index : Nat) (s : State) : Host.Outcome State Fault Refusal :=
  done s (asWrite p (Reg.SYS_Q_DB q) (oqDoorbell q (index % 512)) s)

def execHeadDoorbell (p : Port) (q : Fin 32) (index : Nat) (s : State) : Host.Outcome State Fault Refusal :=
  done s (asWrite p (Reg.SYS_Q_DB (q.val + 32)) (headDoorbell (q.val + 32) (index % 512)) s)

end Sys2Proof.Machine
end

