-- ==== Sys2Proof/Machine/ScoutCmds.lean ====
section
/-!
DEFINITION. The commands of Scout (chapter 07).
-/
namespace Sys2Proof.Machine

/-- R253: TMO, in 0.1 s, has passed since the level left P0. -/
def scoutTimeout (s : State) : State :=
  if s.sct.sinceP0 < 100 * s.fg Fld.SCT_CFG_TMO then s else squashAsk 0 2 s

/-- R253: EN; with 0 Scout squashes to P0 and C is held at 0. -/
def scoutEnable (en : Bool) (s : State) : State :=
  if en then s.fs Fld.SCT_CTL_EN 1
  else (squashAsk 0 7 (s.fs Fld.SCT_CTL_EN 0)).fs Fld.SCT_STAT_CONF 0

/-- The orders that the loss of string `n` touches (R225). -/
def State.hitBy (s : State) (n : Nat) : List Order := s.committed.filter (fun o => s.needsString o n)

/-- R265: the shadow plan of string `n`: the schedule without it and without the orders that its loss ends, each RESILIENT
order that uses it planned anew over its other strings, and the orders that no plan fits. -/
def shadowPlan (s : State) (n : Nat) : List Order × List Order :=
  let hit := s.hitBy n
  let lost := s.fs (Fld.EST_S_STAT_STALE n) 1
  replanAll lost [n] (s.committed.filter (fun x => !hit.contains x)) (sortBy replanBefore (hit.filter (fun o => bitOf o.flags 0)))

/-- R265, R267: every plan is computed anew. -/
def shadowPlans (s : State) : State :=
  let ps := s.strings.map (fun n => (n, shadowPlan s n))
  let t := s.setOrd { s.ord with
    plans := ps.map (fun x => (x.1, some ⟨s.ord.ver, x.2.1, x.2.2.map (fun o => (o.id, o.seq))⟩)) }
  showPlans (maskOf 8 s.strUsed) (maskOf 8 (fun n => ps.any (fun x => x.1 == n && !x.2.2.isEmpty))) t

def execScoutUpdate (ac : List Int) (balls : List (Nat × Nat)) (share : Nat) (s : State) :
    Host.Outcome State Fault Refusal := done s (scoutUpdate ac balls share s)

def execScoutTimeout (s : State) : Host.Outcome State Fault Refusal := done s (scoutTimeout s)

def execHandbackStart (s : State) : Host.Outcome State Fault Refusal := done s (handbackStart s)

def execHandbackComplete (s : State) : Host.Outcome State Fault Refusal := done s (handbackComplete s)

def execScoutEnableWrite (p : Port) (en : Bool) (s : State) : Host.Outcome State Fault Refusal :=
  done s (asWrite p Reg.SCT_CTL (okay (scoutEnable en)) s)

def execScoutLevelCommit (p : Port) (s : State) : Host.Outcome State Fault Refusal :=
  done s (asWrite p Reg.SCT_CTL (commitWrite .sct) s)

def execScoutLevelAbort (p : Port) (s : State) : Host.Outcome State Fault Refusal :=
  done s (asWrite p Reg.SCT_CTL (abortWrite .sct) s)

def execScoutSquash (p : Port) (s : State) : Host.Outcome State Fault Refusal :=
  done s (asWrite p Reg.SCT_CTL (okay (squashAsk 0 5)) s)

def execShadowPlanRecompute (s : State) : Host.Outcome State Fault Refusal := done s (shadowPlans s)

end Sys2Proof.Machine
end

