-- ==== Sys2Proof/Machine/Tw1.lean ====
section
/-!
DEFINITION. TW1 (R128 to R130): controller transfers, arbitration, target mode.
-/
namespace Sys2Proof.Machine

/-! ### The SMBus PEC (R118) -/

def pecBit (c : Nat) : Nat := if 128 ≤ c then (2 * c ^^^ 0x107) % 256 else 2 * c

def pecByte (c : Nat) (b : Byte) : Nat :=
  (List.range 8).foldl (fun c _ => pecBit c) (c ^^^ b.toNat)

/-- CRC-8, polynomial x^8 + x^2 + x + 1, initial value 0, no reflection. -/
def pec (b : List Byte) : Nat := b.foldl pecByte 0

/-! ### Buffers -/

/-- The transmit buffer, which controller writes and target reads share. -/
def State.txBytes (s : State) : List Byte := (List.range 8).flatMap (fun n => leBytes 4 (s.rd (Reg.TWI_TW1_TX n)).toNat)

/-- Bytes into the receive buffer, from byte 0. -/
def rxStore (b : List Byte) (s : State) : State :=
  let k := min 32 b.length
  let s := (List.range ((k + 3) / 4)).foldl (fun s n =>
    let old := leBytes 4 (s.rd (Reg.TWI_TW1_RX n)).toNat
    let new := (b.take 32).drop (4 * n) |>.take 4
    s.wr (Reg.TWI_TW1_RX n) (BitVec.ofNat 32 (leNat (new ++ old.drop new.length)))) s
  s.fs Fld.TWI_TW1_STAT_RXCNT k

/-! ### Controller transfers (R128, R129) -/

/-- A write of TWI_TW1_CTL. GO starts a transfer while the port is enabled. -/
def tw1Ctl (v : Word) (s : State) : Nat × State :=
  let busy := s.fb Fld.TWI_TW1_STAT_BUSY
  if bitOf v.toNat 24 && busy then (stBusy, s)
  else if 32 < fldOf v 8 6 ∨ 32 < fldOf v 16 6 then (stDecodeErr, s)
  else
    let w : Word := v &&& 0x003F3FFF
    let s := s.wr Reg.TWI_TW1_CTL w
    if bitOf v.toNat 24 && s.fb Fld.TWI_TW1_CFG_EN then
      (stOk, (s.setTw1 { s.tw1 with ctl := w, left := s.fg Fld.TWI_TW1_CFG_RETRY }).fs Fld.TWI_TW1_STAT_BUSY 1)
    else (stOk, s)

/-- The transfer ends with DONE. -/
def tw1End (s : State) : State := (s.fs Fld.TWI_TW1_STAT_BUSY 0).fs Fld.TWI_TW1_STAT_DONE 1

/-- The bytes that the PEC of a read covers: every byte of the transaction before it. -/
def State.tw1Covered (s : State) (rx : List Byte) : List Byte :=
  let a : Byte := BitVec.ofNat 8 (2 * fldOf s.tw1.ctl 0 7)
  let w := fldOf s.tw1.ctl 8 6
  (if w = 0 then [] else a :: s.txBytes.take w) ++ (a + 1) :: rx

/-- The bytes TW1 sends in a transfer: addresses, WLEN bytes of the transmit buffer, and with PEC the PEC of a write. A
transfer that goes on to a read, and one with both lengths 0, carries no PEC of a write (DEDUCED, log entry 27). -/
def State.tw1Frame (s : State) : List Byte :=
  let a : Byte := BitVec.ofNat 8 (2 * fldOf s.tw1.ctl 0 7)
  let w := fldOf s.tw1.ctl 8 6
  let first := a :: s.txBytes.take w
  if 0 < fldOf s.tw1.ctl 16 6 then (if w = 0 then [a + 1] else first ++ [a + 1])
  else if 0 < w ∧ fldOf s.tw1.ctl 7 1 = 1 then first ++ [BitVec.ofNat 8 (pec first)] else first

/-- The transfer ran to its P, or byte `nack` of those sent met no acknowledge. `rx` holds the bytes the target sent:
RLEN, and with PEC one more, which is checked. -/
def tw1Done (nack : Option Nat) (rx : List Byte) (s : State) : State :=
  if !s.fb Fld.TWI_TW1_STAT_BUSY then s
  else
    let f := s.tw1Frame
    let s := (tw1End s).setTw1 { s.tw1 with out := match nack with
      | some i => f.take (i + 1)
      | none => f }
    let n := fldOf s.tw1.ctl 16 6
    if nack.isSome then s.fs Fld.TWI_TW1_STAT_NACK 1
    else if n = 0 then s
    else
      let d := rx.take n
      let s := rxStore d s
      if fldOf s.tw1.ctl 7 1 = 1 ∧ (rx.getD n 0).toNat ≠ pec (s.tw1Covered d) then
        (s.fs Fld.TWI_TW1_STAT_PECFAIL 1).driveLine 27
      else s

/-! ### Target mode (R130) -/

/-- TW1 acknowledges OWN. -/
def State.tw1Answers (s : State) : Bool :=
  s.fb Fld.TWI_TW1_CFG_EN && s.fb Fld.TWI_TW1_CFG_TGT_EN && !s.fb Fld.TWI_TW1_STAT_RXFULL

def tw1Written (b : List Byte) (s : State) : State :=
  if s.tw1Answers then (rxStore b s).fs Fld.TWI_TW1_STAT_RXFULL 1 else s

/-- A read of `n` bytes: the transmit buffer, and 0xFF beyond byte 31. -/
def tw1Read (n : Nat) (s : State) : State :=
  if s.tw1Answers then
    s.setTw1 { s.tw1 with sent := (s.txBytes ++ List.replicate (n - 32) 0xFF).take n }
  else s

/-- R129: `stop` says that arbitration was lost while sending a STOP or a repeated START; `own` that it was lost during
the address byte to a controller that addresses OWN, which then writes these bytes or reads so many. -/
def tw1Arbitration (stop : Bool) (own : Option (Sum (List Byte) Nat)) (s : State) : State :=
  if !s.fb Fld.TWI_TW1_STAT_BUSY then s
  else if stop then (tw1End s).fs Fld.TWI_TW1_STAT_ARB_COND 1
  else match own with
  | some a =>
    let s := (tw1End s).fs Fld.TWI_TW1_STAT_ARB 1
    match a with
    | .inl b => tw1Written b s
    | .inr n => tw1Read n s
  | none =>
    if s.tw1.left = 0 then (tw1End s).fs Fld.TWI_TW1_STAT_ARB 1
    else s.setTw1 { s.tw1 with left := s.tw1.left - 1 }

/-- The SMBus timeout ends the transfer in progress. -/
def tw1Timeout (s : State) : State :=
  if s.fb Fld.TWI_TW1_CFG_EN && s.fb Fld.TWI_TW1_CFG_TMO_EN then
    ((if s.fb Fld.TWI_TW1_STAT_BUSY then tw1End s else s).fs Fld.TWI_TW1_STAT_TMO 1).driveLine 27
  else s

/-- A write of 1 to RXFULL releases the receive buffer. -/
def tw1StatWrite (v : Word) (s : State) : State :=
  let s := s.wr Reg.TWI_TW1_STAT (s.rd Reg.TWI_TW1_STAT &&& ~~~(v &&& 0xFE))
  if bitOf v.toNat 7 then s.fs Fld.TWI_TW1_STAT_RXCNT 0 else s

/-! ### Commands -/

def execTw1TransferGo (p : Port) (v : Word) (s : State) : Host.Outcome State Fault Refusal :=
  done s (asWrite p Reg.TWI_TW1_CTL (tw1Ctl (v ||| 0x01000000)) s)

def execTw1TransferDone (nack : Option Nat) (rx : List Byte) (s : State) : Host.Outcome State Fault Refusal :=
  done s (tw1Done nack rx s)

def execTw1ArbitrationLost (stop : Bool) (own : Option (Sum (List Byte) Nat)) (s : State) :
    Host.Outcome State Fault Refusal := done s (tw1Arbitration stop own s)

def execTw1TargetWrite (data : List Byte) (s : State) : Host.Outcome State Fault Refusal := done s (tw1Written data s)

def execTw1TargetRead (n : Nat) (s : State) : Host.Outcome State Fault Refusal := done s (tw1Read n s)

def execTw1Timeout (s : State) : Host.Outcome State Fault Refusal := done s (tw1Timeout s)

end Sys2Proof.Machine
end

