-- ==== Sys2Proof/Machine/HostWrite.lean ====
section
/-!
DEFINITION. A host write of one word, wherever it lands (R98 to R102, R106, R554).
-/
namespace Sys2Proof.Machine

/-- The index of `o` in an array of `n` items of `stride` bytes that begins at `base`, and its offset in the item. -/
def itemOf (o base stride n : Nat) : Option (Nat × Nat) :=
  if base ≤ o ∧ (o - base) / stride < n then some ((o - base) / stride, (o - base) % stride) else none

/-! ### Words with a behaviour of their own, block by block -/

def sysWrite (a : Nat) (v : Word) (s : State) : Nat × State :=
  if a = Reg.SYS_PWR_REQ then pwrReqWrite (fldOf v 0 2) s
  else if a = Reg.SYS_PROFILE then okay (profileWrite (fldOf v 0 2)) s
  else match itemOf a 0x1000 32 64 with
  | some (q, 0) => qcfgWrite q v s
  | some (q, 8) => doorbell q (fldOf v 0 9) s
  | _ => plainWrite a v s

def fltWrite (a : Nat) (v : Word) (s : State) : Nat × State :=
  if a = Reg.FLT_CTL then commitAbort .flt (bitOf v.toNat 0) (bitOf v.toNat 1) s
  else if a = Reg.FLT_INJ then injectWrite (fldOf v 0 6) (bitOf v.toNat 8) s
  else plainWrite a v s

def rstWrite (a : Nat) (v : Word) (s : State) : Nat × State :=
  if a = Reg.RST_CTL then rstCtlWrite v s
  else if a = Reg.RST_BLK then blockResetWrite v.toNat s
  else plainWrite a v s

def intcWrite (a : Nat) (v : Word) (s : State) : Nat × State :=
  match itemOf a 0x040000 32 7 with
  | some (k, off) =>
    let i := off / 4
    match k with
    | 0 => intcWord i (maskSet i v.toNat) s
    | 1 => intcWord i (maskClr i v.toNat) s
    | 2 => intcWord i (pendSet i v.toNat) s
    | 3 => intcWord i (pendClr i v.toNat) s
    | 4 => routeWrite i v s
    | _ => intcWord i (fun s => s.wr a v) s
  | none => plainWrite a v s

def tmrWrite (a : Nat) (v : Word) (s : State) : Nat × State :=
  if a = Reg.TMR_START then tmrStart (fldOf v 0 16) s
  else if a = Reg.TMR_STOP then okay (tmrStop (fldOf v 0 16)) s
  else if a = Reg.TMR_RESET then okay (tmrReset (fldOf v 0 16)) s
  else match itemOf a 0x050100 64 16 with
  | some (n, 0x18) => if 8 ≤ n then (stDecodeErr, s) else plainWrite a v s
  | _ => plainWrite a v s

def rtcWrite (a : Nat) (v : Word) (s : State) : Nat × State :=
  if a = Reg.RTC_STAT then okay (rtcStatWrite v.toNat) s
  else if a = Reg.RTC_CTL then commitAbort .rtc (bitOf v.toNat 0) (bitOf v.toNat 1) s
  else plainWrite a v s

/-- R475: WD_H's count at a service on ACLK, two cycles after the write; on HFRC it is open (DESIGN CHOICE, log entry 1). -/
def wdgStamp (s : State) : Nat × State :=
  if s.fb Fld.WDG_H_CFG_CLKSEL then s.fresh else (s.aclk - kvGet (fun _ => 0) s.wdg 0 + 2, s)

def wdgWrite (a : Nat) (v : Word) (s : State) : Nat × State :=
  if a = Reg.WDG_H_CTL then wdgCtlWrite (bitOf v.toNat 0) s
  else if a = Reg.WDG_H_SVC then
    let (c, s) := wdgStamp s
    wdgService v c s
  else plainWrite a v s

def nvcWrite (a : Nat) (v : Word) (s : State) : Nat × State :=
  if a = Reg.NVC_CTL then nvcCtl (fldOf v 1 2) (bitOf v.toNat 0) s else plainWrite a v s

/-- R505: CFG, PARAM and SD of an input that is not off. -/
def thmWrite (a : Nat) (v : Word) (s : State) : Nat × State :=
  match itemOf a 0x0A0100 32 16, itemOf a 0x0A0400 64 4 with
  | some (n, off), _ =>
    if !s.tsOn n || 8 < off then plainWrite a v s
    else if off = 0 ∧ fldOf v 0 2 = 0 then okay (sensorDisable n (fldOf v 2 3)) s
    else (stHeld, s)
  | _, some (h, 4) => commitAbort (.zone h) (bitOf v.toNat 0) (bitOf v.toNat 1) s
  | _, _ => plainWrite a v s

def twiWrite (a : Nat) (v : Word) (s : State) : Nat × State :=
  if a = Reg.TWI_TW0_ADDR ∧ s.fb Fld.ID_FUSE_ADDR_LOCK then (stLocked, s)
  else if a = Reg.TWI_TW1_CTL then tw1Ctl v s
  else if a = Reg.TWI_TW1_STAT then okay (tw1StatWrite v) s
  else plainWrite a v s

def canWrite (a : Nat) (v : Word) (s : State) : Nat × State :=
  match itemOf a 0x0D0000 256 2 with
  | some (c, 0) => plainWith a v (canEnable c (bitOf v.toNat 0)) s
  | _ => plainWrite a v s

def wglWrite (a : Nat) (v : Word) (s : State) : Nat × State :=
  if a = Reg.WGL_CFG then plainWith a v (okay (linkEnable (bitOf v.toNat 0))) s
  else if a = Reg.WGL_BAR_CTL then
    if bitOf v.toNat 24 then barrierWrite (fldOf v 0 16) (fldOf v 16 3) s
    else if !s.queen ∨ fldOf v 16 3 < 3 ∨ 5 < fldOf v 16 3 then (stDecodeErr, s)
    else plainWrite a v s
  else if a = Reg.WGL_RST then sendResetWrite (fldOf v 0 16) (fldOf v 16 16) s
  else plainWrite a v s

/-- MTR_TONE: bits of current channels ignore writes (R139). -/
def toneMask : Word := 0x0005FF00

def mtrWrite (a : Nat) (v : Word) (s : State) : Nat × State :=
  if a = Reg.MTR_CTL then (if bitOf v.toNat 0 then snapWrite s else (stOk, s))
  else if a = Reg.MTR_TRK_RST then okay (trkRestart (fldOf v 0 20)) s
  else plainWrite a (if a = Reg.MTR_TONE then v &&& toneMask else v) s

def ldgWrite (a : Nat) (v : Word) (s : State) : Nat × State :=
  if a = Reg.LDG_CTL then ldgCtl (bitOf v.toNat 0) (bitOf v.toNat 1) (bitOf v.toNat 2) s else plainWrite a v s

def ordWrite (a : Nat) (v : Word) (s : State) : Nat × State :=
  if a = Reg.ORD_CANCEL_CTL then (if bitOf v.toNat 0 then cancelWrite s else (stOk, s))
  else if a = Reg.ORD_QRY_ID then okay (queryWrite v.toNat) s
  else if a = Reg.ORD_BUS_CAP then capWrite .bus v s
  else if a = Reg.ORD_AC_CAP then capWrite .ac v s
  else if a = Reg.ORD_BROOD_E then capWrite .broodE v s
  else if a = Reg.ORD_BROOD_P then capWrite .broodP v s
  else match itemOf a 0x120100 4 16 with
  | some (c, _) => capWrite (.contract c) v s
  | none => plainWrite a v s

/-- SCT_CTL: EN acts on its change, SQUASH squashes to P0 (R253). -/
def sctFields (v : Word) (s : State) : State :=
  let en := bitOf v.toNat 0
  let s := if en == s.fb Fld.SCT_CTL_EN then s else scoutEnable en s
  if bitOf v.toNat 3 then squashTo 0 5 s else s

def sctWrite (a : Nat) (v : Word) (s : State) : Nat × State :=
  if a = Reg.SCT_CTL then
    match commitAbort .sct (bitOf v.toNat 1) (bitOf v.toNat 2) s with
    | (0, s) => okay (sctFields v) s
    | x => x
  else plainWrite a v s

def cnvWrite (a : Nat) (v : Word) (s : State) : Nat × State :=
  if a = Reg.CNV_CTL then
    let r := commitWith .cnvRack (bitOf v.toNat 0) (bitOf v.toNat 1) a v s
    if r.1 = stOk ∧ bitOf v.toNat 2 ∧ !s.fb Fld.CNV_CTL_SHARE_EN then shareEnable (r.2.fs Fld.CNV_CTL_SHARE_EN 0) else r
  else match itemOf a 0x140100 64 12 with
  | some (g, 4) => commitWith (.cnvGroup g) (bitOf v.toNat 16) (bitOf v.toNat 17) a v s
  | _ => plainWrite a v s

/-- SEQ_CTL: a power-up start is judged first; then a power-down starts. -/
def seqCtl (v : Word) (s : State) : Nat × State :=
  let r := if bitOf v.toNat 0 then upWrite s else (stOk, s)
  if r.1 = stOk ∧ bitOf v.toNat 1 then okay downStart r.2 else r

def seqWrite (a : Nat) (v : Word) (s : State) : Nat × State :=
  if a = Reg.SEQ_CTL then seqCtl v s
  else match itemOf a 0x160C00 16 4 with
  | some (_, 0) => match plainWrite a v s with
    | (0, s) => okay rstoUpdate s
    | x => x
  | _ => plainWrite a v s

def efuWrite (a : Nat) (v : Word) (s : State) : Nat × State :=
  match itemOf a 0x170100 64 8, itemOf a 0x170600 16 8 with
  | some (c, 0), _ => efuseEnable c (bitOf v.toNat 0) s
  | _, some (n, 0) => if bitOf v.toNat 0 then contactorClose n s else contactorRelease n s
  | _, _ => plainWrite a v s

def chgWrite (a : Nat) (v : Word) (s : State) : Nat × State :=
  match itemOf a 0x180100 32 8 with
  | some (n, 8) => commitAbort (.chg n) (bitOf v.toNat 0) (bitOf v.toNat 1) s
  | _ => plainWrite a v s

def estWrite (a : Nat) (v : Word) (s : State) : Nat × State :=
  if a = Reg.EST_CFG then plainWith a v (okay (fun s => if bitOf v.toNat 0 then s else persVolatile s)) s
  else if a = Reg.EST_CTL then (stOk, if bitOf v.toNat 0 then estSave s else s)
  else match itemOf a 0x191000 32 128 with
  | some (m, 0x08) => moduleWrite m false v s
  | some (m, 0x18) => moduleWrite m true v s
  | _ => plainWrite a v s

def prpWrite (a : Nat) (v : Word) (s : State) : Nat × State :=
  if a = Reg.PRP_CTL then okay (prpCtl (bitOf v.toNat 0) (bitOf v.toNat 1)) s else plainWrite a v s

def kprWrite (a : Nat) (v : Word) (s : State) : Nat × State :=
  match itemOf a 0x1B0000 256 4 with
  | some (m, 0) => mailboxCtl m v s
  | some (m, off) =>
    if 0x80 ≤ off ∧ (rowOf a).isSome then mailboxData m ((off - 0x80) / 4) v s
    else if (rowOf a).isSome ∧ s.fb (Fld.KPR_MB_STAT_BUSY m) then (stBusy, s)
    else plainWrite a v s
  | none => plainWrite a v s

def cmbWrite (a : Nat) (v : Word) (s : State) : Nat × State :=
  if a = Reg.CMB_LOAD_CTL then loadCtl (fldOf v 4 2) (fldOf v 8 2) (bitOf v.toNat 0) s
  else if a = Reg.CMB_JC_CTL then jointCtl (bitOf v.toNat 0) (bitOf v.toNat 1) s
  else plainWrite a v s

/-- A write in a block slot (R98, R99). `vpp` is the level of OTP_VPP (R513). -/
def blockWrite (a : Nat) (v : Word) (vpp : Bool) (s : State) : Nat × State :=
  match a / 65536 with
  | 0x00 => sysWrite a v s
  | 0x01 => fltWrite a v s
  | 0x02 => rstWrite a v s
  | 0x03 => if a = Reg.CLK_CFG then clkCfgWrite v s else plainWrite a v s
  | 0x04 => intcWrite a v s
  | 0x05 => tmrWrite a v s
  | 0x06 => rtcWrite a v s
  | 0x07 => wdgWrite a v s
  | 0x08 => if a = Reg.OTP_PCTL then otpCtl v vpp s else plainWrite a v s
  | 0x09 => nvcWrite a v s
  | 0x0A => thmWrite a v s
  | 0x0B => twiWrite a v s
  | 0x0D => canWrite a v s
  | 0x0E => wglWrite a v s
  | 0x10 => mtrWrite a v s
  | 0x11 => ldgWrite a v s
  | 0x12 => ordWrite a v s
  | 0x13 => sctWrite a v s
  | 0x14 => cnvWrite a v s
  | 0x16 => seqWrite a v s
  | 0x17 => efuWrite a v s
  | 0x18 => chgWrite a v s
  | 0x19 => estWrite a v s
  | 0x1A => prpWrite a v s
  | 0x1B => kprWrite a v s
  | 0x1C => cmbWrite a v s
  | _ => plainWrite a v s

/-! ### Tile windows (R7, R42, R48) -/

/-- CMB_Tn_CTL: the combination, BUSY, HELD for CLR_STATE while the tile runs, then the commit (R42, R64, R554). -/
def tileCtl (t : Nat) (v : Word) (s : State) : Nat × State :=
  let commit := bitOf v.toNat 0
  let abort := bitOf v.toNat 1
  let clr := bitOf v.toNat 2
  if commit && abort then (stDecodeErr, s)
  else if (commit || abort) && s.groupBusy (.tile t) then (stBusy, s)
  else if clr && s.tileRuns t then (stHeld, s)
  else match commitAbort (.tile t) commit abort s with
    | (0, s) => if clr then clrState t s else (stOk, s)
    | x => x

def paramWrite (t off : Nat) (v : Word) (s : State) : Nat × State :=
  let a := tileBase t + off
  match tileParam (s.tileKind t) off with
  | none => (stDecodeErr, s)
  | some .ro => (stOk, s)
  | some .wo =>
    if !bitOf v.toNat 0 then (stOk, s) else if off = 0x58 then winClr t s else macAccClr t s
  | some (.rw held mask ok) =>
    let w := v &&& BitVec.ofNat 32 mask
    if held && s.tileRuns t && decide (w ≠ s.rd a) then (stHeld, s)
    else if !ok w.toNat then (stDecodeErr, s)
    else (stOk, s.wr a w)
  | some (.staged ok) =>
    if s.groupBusy (.tile t) then (stBusy, s)
    else if !ok v.toNat then (stDecodeErr, s)
    else (stOk, s.stage (.tile t) a 0xFFFFFFFF v)

def tileWindowWrite (a : Nat) (v : Word) (s : State) : Nat × State :=
  let t := (a - 0x200000) / 4096
  let off := (a - 0x200000) % 4096
  tileWrite t (fun s =>
    if off = 4 then tileCtl t v s
    else if (rowOf a).isSome then plainWrite a v s
    else paramWrite t off v s) s

/-! ### The legacy window (R38, R39, R100, R101) -/

/-- Where legacy register L lives: the native word, the lowest bit there, and its width. -/
def legacyNative (l : Nat) : Option (Nat × Nat × Nat) :=
  if l < 0x80 then
    let k := l / 4
    match l % 4 with
    | 0 => some (Reg.SEQ_R_UV k, 0, 16)
    | 1 => some (Reg.SEQ_R_UV k, 16, 16)
    | 2 => some (Reg.SEQ_R_OV k, 0, 16)
    | _ => some (Reg.SEQ_R_OV k, 16, 16)
  else if l < 0xA0 then some (Reg.SEQ_R_STAT (l - 0x80), 0, 5)
  else if l < 0xA8 then some (Reg.RGL_R_SET (l - 0xA0), 0, 16)
  else if l = 0xB0 then some (Reg.SEQ_CTL, 0, 2)
  else if l = 0xB1 then some (Reg.SEQ_STAT, 0, 4)
  else if 0xC0 ≤ l ∧ l < 0xF0 then some (Reg.SEQ_UP_TIME (l - 0xC0), 16, 16)
  else if 0x100 ≤ l ∧ l < 0x130 then some (Reg.SEQ_UP_TIME (l - 0x100), 0, 16)
  else if 0x140 ≤ l ∧ l < 0x170 then some (Reg.SEQ_DN_TIME (l - 0x140), 16, 16)
  else if 0x180 ≤ l ∧ l < 0x1B0 then some (Reg.SEQ_DN_TIME (l - 0x180), 0, 16)
  else none

/-- The word that a native write receives: the half that the legacy register covers, over the value in force; a control
or a status word receives its own bits alone. -/
def legacyMerge (n : Nat × Nat × Nat) (v : Word) (s : State) : Word :=
  let own := fldOf v 0 n.2.2
  if n.2.2 = 16 then fldPut (s.rd n.1) n.2.1 16 own else BitVec.ofNat 32 own

def legacyWrite (a : Nat) (v : Word) (s : State) : Nat × State :=
  if !s.fb Fld.SYS_PWR_STAT_COMPAT then (stDecodeErr, s)
  else match legacyNative ((a - 0x3F0000) / 4) with
  | none => (stDecodeErr, s)
  | some n => blockWrite n.1 (legacyMerge n v s) false s

/-! ### SRAM (R92, R102, R135, R522) -/

def sramHostWrite (a : Nat) (v : Word) (s : State) : Nat × State :=
  if 0xFC0000 ≤ a then (if s.opRuns then (stHeld, s) else (stOk, s.setSramWord a v))
  else if 0xD80000 ≤ a ∧ a < 0xE00000 then queueWrite a v s
  else (stDecodeErr, s)

/-- R554: one written word, from ISOLATED on. -/
def writeWord (a : Nat) (v : Word) (vpp : Bool) (s : State) : Nat × State :=
  if s.isolated a then (stIsolated, s)
  else if blockSlot a then blockWrite a v vpp s
  else if tileWindow a then tileWindowWrite a v s
  else if legacyWindow a then legacyWrite a v s
  else if sramWindow a then sramHostWrite a v s
  else (stDecodeErr, s)

end Sys2Proof.Machine
end

