-- ==== Sys2Proof/Machine/HostRead.lean ====
section
/-!
DEFINITION. A host read of one word (R98 to R105, R111, R509, R517): its status and value, and its side effects.
-/
namespace Sys2Proof.Machine

/-! ### Words that show the block's state at the read -/

def withBits (w : Word) (f : Fld) (v : Nat) : Word := fldPut w f.lo f.width v

def withFlag (w : Word) (f : Fld) (b : Bool) : Word := withBits w f (boolNat b)

def viewSys (a : Nat) (s : State) : Word :=
  let w := s.rd a
  if a = Reg.SYS_PWR_STAT then withFlag w Fld.SYS_PWR_STAT_HFXO (s.fb Fld.CLK_STAT_HFXO_OK)
  else match itemOf a 0x1000 32 64 with
  | some (q, 0xC) => withBits w (Fld.SYS_Q_STAT_COUNT q) (s.qCount q)
  | _ => w

/-- R484, R488: MASK words both read the mask, PEND words both what is pending; words of the keeper cores read 0. -/
def viewIntc (a : Nat) (s : State) : Word :=
  match itemOf a 0x040000 32 7 with
  | some (k, off) =>
    let i := off / 4
    if i = 0 ∨ i = 7 ∨ (k = 4 ∧ i = 1) then 0
    else match k with
    | 1 => s.rd (Reg.INTC_MASK_SET i)
    | 2 => s.pendWord i
    | 3 => s.pendWord i
    | _ => s.rd a
  | none =>
    if a = Reg.INTC_NEXT_H 0 then s.nextWord 0
    else if a = Reg.INTC_NEXT_H 1 then s.nextWord 1
    else if a = Reg.INTC_IRQ_STAT then s.irqStatWord
    else s.rd a

/-- R474: WD_H's count in ticks, which on HFRC is open (DESIGN CHOICE, log entry 1), and the fractions in force. -/
def viewWdg (a : Nat) (s : State) : Word :=
  let w := s.rd a
  if a = Reg.WDG_H_STAT then
    let count := if s.fb Fld.WDG_H_CFG_CLKSEL then s.fresh.1 else (s.aclk - kvGet (fun _ => 0) s.wdg 0) / 32
    let en := s.fb Fld.WDG_H_CTL_EN
    withFlag (withFlag (withBits (withBits w Fld.WDG_H_STAT_F (s.wdFraction 0)) Fld.WDG_H_STAT_COUNT
      (if en then count else 0)) Fld.WDG_H_STAT_EN en) Fld.WDG_H_STAT_CLKSEL (s.fb Fld.WDG_H_CFG_CLKSEL)
  else if a = Reg.WDG_K_STAT 0 then withBits w (Fld.WDG_K_STAT_F 0) (s.wdFraction 1)
  else if a = Reg.WDG_K_STAT 1 then withBits w (Fld.WDG_K_STAT_F 1) (s.wdFraction 2)
  else w

def viewCnv (a : Nat) (s : State) : Word :=
  let w := s.rd a
  if a = Reg.CNV_STAT then
    withFlag (withBits w Fld.CNV_STAT_RUN (maskOf 12 s.groupRuns)) Fld.CNV_STAT_CPEND (s.cpend .cnvRack)
  else match itemOf a 0x140100 64 12 with
  | some (g, 0x14) => withFlag w (Fld.CNV_CG_STAT_CPEND g) (s.cpend (.cnvGroup g))
  | _ => w

/-- The word at a defined address of a block slot, as a read returns it. In WATCH and DORMANT the transaction itself has
HFRC run (R28, R121, R127). -/
def viewWord (a : Nat) (s : State) : Word :=
  let w := s.rd a
  match a / 65536 with
  | 0x00 => viewSys a s
  | 0x01 =>
    if a = Reg.FLT_HSTAT then withFlag w Fld.FLT_HSTAT_CPEND (s.cpend .flt)
    else w
  | 0x03 => if a = Reg.CLK_STAT ∧ s.powerState ≤ 1 then withFlag w Fld.CLK_STAT_HFRC_ON true else w
  | 0x04 => viewIntc a s
  | 0x06 =>
    if a = Reg.RTC_SEC_LO then s.secLoWord
    else if a = Reg.RTC_STAT then
      withFlag (withFlag w Fld.RTC_STAT_SETPEND (!(s.stagedOf .rtc).isEmpty)) Fld.RTC_STAT_CPEND (s.cpend .rtc)
    else w
  | 0x07 => viewWdg a s
  | 0x09 =>
    if a = Reg.NVC_BANK then withFlag (withFlag w Fld.NVC_BANK_VALID_A (s.bankValid 0)) Fld.NVC_BANK_VALID_B (s.bankValid 1)
    else w
  | 0x0A => match itemOf a 0x0A0400 64 4 with
    | some (h, 8) => withFlag w (Fld.THM_Z_STAT_CPEND h) (s.cpend (.zone h))
    | _ => w
  | 0x11 => if a = Reg.LDG_STAT then withFlag w Fld.LDG_STAT_CPEND (s.cpend .ldgAssign) else w
  | 0x14 => viewCnv a s
  | 0x18 => match itemOf a 0x180100 32 8 with
    | some (n, 0xC) => withFlag w (Fld.CHG_S_STAT_CPEND n) (s.cpend (.chg n))
    | _ => w
  | 0x1C =>
    if a = Reg.CMB_SLOTA_SEQ then BitVec.ofNat 32 (s.slotSeq 0)
    else if a = Reg.CMB_SLOTB_SEQ then BitVec.ofNat 32 (s.slotSeq 1)
    else w
  | _ => w

/-! ### Upper words captured by their lower word (R58, R162, and FLT_STAT_LO) -/

/-- The upper word that a read of the word at `a` captures. -/
def upperOf (a : Nat) (s : State) : Option Nat :=
  if a = Reg.FLT_STAT_LO then some Reg.FLT_STAT_HI
  else if tileWindow a then
    if a % 4096 = 0x54 ∧ s.tileKind ((a - 0x200000) / 4096) = 5 then some (a + 4) else none
  else match itemOf a 0x100400 64 10, itemOf a 0x110108 64 16, itemOf a 0x110600 32 8 with
  | some (_, off), _, _ => if off < 0x20 ∧ off % 8 = 0 then some (a + 4) else none
  | _, some (_, off), _ => if off < 0x20 ∧ off % 8 = 0 then some (a + 4) else none
  | _, _, some (_, off) => if off % 8 = 0 then some (a + 4) else none
  | _, _, _ => none

/-- A captured upper word serves the next read of it; before a capture the word itself is read. -/
def State.capped (s : State) (a : Nat) (w : Word) : Word := (kvGet (fun _ => none) s.caps a).getD w

def State.setCap (s : State) (a : Nat) (v : Option Word) : State := s.setCaps (kvSet (fun _ => none) s.caps a v)

/-! ### Tile windows (R7, R48) -/

def viewTile (a : Nat) (s : State) : Word :=
  let t := (a - 0x200000) / 4096
  let off := (a - 0x200000) % 4096
  let w := s.rd a
  if !s.tileUsed t then 0
  else if off = 8 then
    withFlag (withFlag (withFlag (withFlag w (Fld.CMB_T_STAT_RUN t) (s.tileRuns t)) (Fld.CMB_T_STAT_PEND t)
      (!(s.stagedOf (.tile t)).isEmpty)) (Fld.CMB_T_STAT_CPEND t) (s.cpend (.tile t))) (Fld.CMB_T_STAT_JPEND t)
      (match s.joint with
        | some m => m.contains (Group.tile t)
        | none => false)
  else if (rowOf a).isSome then w
  else match tileParam (s.tileKind t) off with
  | none => 0
  | some .wo => 0
  | some _ =>
    if 0x800 ≤ off then BitVec.ofNat 32 (leNat ((List.range 4).map (fun i => BitVec.ofNat 8 (s.fsmByte t (off - 0x800 + 4 + i)))))
    else w

/-! ### Memory windows (R102 to R104) -/

/-- R104: the MRAM offset that a port's window shows. -/
def State.mramOffset (s : State) (p : Port) (a : Nat) : Nat :=
  let bank := match p with
    | .tw0 => s.fg Fld.SYS_MWIN_BANK_TW0
    | .spt => s.fg Fld.SYS_MWIN_BANK_SPT
  a - 0x400000 + 0x400000 * bank

def State.mramView (s : State) (p : Port) (a : Nat) : Word :=
  let o := s.mramOffset p a
  if 0x780000 ≤ o then 0 else s.mramWord o

/-- R102, R525: SRAM whose content the spec leaves to the firmware, or that is undefined while none runs. -/
def State.sramOpen (s : State) (a : Nat) : Bool :=
  decide (a < 0xFC0000) && (!s.rst.firmware || decide ((0xC51800 ≤ a ∧ a < 0xD80000) ∨ 0xE00000 ≤ a))

/-- R207: the slot whose record stands at `a` of the order schedule, of the 43,200 from the present one. -/
def State.schedSlot (s : State) (a : Nat) : Nat :=
  let i := (a - 0xB00000) / 32
  s.curSlot + (i + 43200 - s.curSlot % 43200) % 43200

def State.sramView (s : State) (a : Nat) : Word :=
  if s.sramOpen a then BitVec.ofNat 32 s.fresh.1
  else if 0xB00000 ≤ a ∧ a < 0xC51800 then
    BitVec.ofNat 32 (leNat ((slotBytes s (s.schedSlot a)).drop ((a - 0xB00000) % 32) |>.take 4))
  else s.sramWord a

/-- R102: the keeper data region. -/
def keeperRegion (a : Nat) : Bool := decide (0xE80000 ≤ a ∧ a < 0xF80000)

/-! ### The read -/

/-- The status and value of one word; `bad` says that the word lies under an uncorrectable error (R103, R510, R517). -/
def readWord (p : Port) (a : Nat) (bad : Bool) (s : State) : Nat × Word :=
  if s.isolated a then (stIsolated, 0)
  else if 0x081000 ≤ a ∧ a < 0x082000 then s.otpAnswer ((a - 0x081000) / 4) bad
  else if blockSlot a then
    if (rowOf a).isSome then (stOk, s.capped a (viewWord a s)) else (stDecodeErr, 0)
  else if tileWindow a then (stOk, s.capped a (viewTile a s))
  else if legacyWindow a then
    if !s.fb Fld.SYS_PWR_STAT_COMPAT then (stDecodeErr, 0)
    else match legacyNative ((a - 0x3F0000) / 4) with
    | none => (stOk, 0)
    | some n => (stOk, if n.1 = Reg.SEQ_CTL then 0 else BitVec.ofNat 32 (fldOf (viewWord n.1 s) n.2.1 n.2.2))
  else if mramWindow a then (if bad then (stDecodeErr, 0) else (stOk, s.mramView p a))
  else if sramWindow a then
    if keeperRegion a then (stDecodeErr, 0) else if bad then (stDecodeErr, 0) else (stOk, s.sramView a)
  else (stDecodeErr, 0)

/-- R10: the RC bits that were returned as 1 clear. -/
def readClears (a : Nat) (v : Word) (s : State) : State :=
  match rowOf a with
  | some r => if r.rc = 0 then s else s.wr a (s.rd a &&& ~~~(v &&& BitVec.ofNat 32 r.rc))
  | none => s

/-- Side effects of a word read in a block slot or a tile window that returned `v` with OK (R111). -/
def registerEffect (a : Nat) (v : Word) (s : State) : State :=
  let s := if (kvGet (fun _ => none) s.caps a).isSome then s.setCap a none else s
  let s := match upperOf a s with
    | some h => s.setCap h (some (s.rd h))
    | none => s
  if a = Reg.RTC_SEC_LO then rtcCapture s
  else if a = Reg.WDG_H_STAT ∧ s.fb Fld.WDG_H_CFG_CLKSEL then s.fresh.2
  else match itemOf a (Reg.EFU_S_KFLAG 0) 16 8, itemOf a (Reg.THM_TS_FLAG 0) 32 16 with
  | some (n, 0), _ => kflagRead n s
  | _, some (n, 0) => flagRead n s
  | _, _ => readClears a v s

/-- R421: the SRAM regions whose errors are critical (R430, bit 8). -/
def criticalRegion (a : Nat) : Bool := keeperRegion a || decide (0xF80000 ≤ a ∧ a < 0xFC0000)

/-- What the device does as it fetches one word (R103, R510, R517): it reports an uncorrectable error that it meets. One
in the comb tile state region resets the device (R430). -/
def fetchEffect (a : Nat) (bad : Bool) (s : State) : State :=
  if s.isolated a then s
  else if 0x081000 ≤ a ∧ a < 0x082000 then otpReadEffect ((a - 0x081000) / 4) bad s
  else if mramWindow a then (if bad then (s.finc Fld.NVC_ERR_UE).driveLine 8 else s)
  else if sramWindow a ∧ !keeperRegion a then
    if bad then (if criticalRegion a then deviceReset causeEcc s else s.driveLine 6)
    else if s.sramOpen a then s.fresh.2 else s
  else s

/-- R111: the side effect of a word returned with OK. -/
def takeEffect (a : Nat) (v : Word) (s : State) : State :=
  if (blockSlot a ∨ tileWindow a) ∧ ¬ (0x081000 ≤ a ∧ a < 0x082000) then registerEffect a v s else s

/-- What a read of one word does beside its answer. -/
def readEffect (a : Nat) (v : Word) (bad : Bool) (s : State) : State :=
  if s.isolated a then s else takeEffect a v (fetchEffect a bad s)

end Sys2Proof.Machine
end

