-- ==== Sys2Proof/Machine/Ports.lean ====
section
/-!
DEFINITION. Transactions of the host ports (R106 to R127): TW0, SPT, and the commands that name one word.
-/
namespace Sys2Proof.Machine

/-! ### Transactions (R107, R108) -/

/-- The one block slot, tile window, memory window or SRAM region that holds an address (R98, R102); none where it is
unmapped. -/
def placeOf (a : Nat) : Option (Nat × Nat) :=
  if a < 0x1D0000 then some (0, a / 65536)
  else if tileWindow a then some (1, a / 4096)
  else if legacyWindow a then some (2, 0)
  else if mramWindow a then some (3, 0)
  else if 0x1000000 ≤ a ∨ a < 0x800000 then none
  else some (4, ([0xB00000, 0xC80000, 0xD80000, 0xE00000, 0xE80000, 0xF80000, 0xFC0000].filter (fun b => decide (b ≤ a))).length)

/-- R107. -/
def refusedWhole (a n : Nat) : Bool :=
  a % 4 != 0 || decide (n < 1 ∨ 64 < n) || (placeOf a).isNone || placeOf a != placeOf (a + 4 * n - 1)

/-- R108: the words of a write, until one does not complete with OK. A transaction is one step: no device update falls
between its words (R112 allows one; DESIGN CHOICE, log entry 27). -/
def writeWords (vpp : Bool) : Nat → Nat → List Word → State → (Nat × Nat) × State
  | _, _, [], s => ((stOk, 0), s)
  | i, a, v :: r, s => match writeWord a v vpp s with
    | (0, s) => if s.rst.asserted then ((stOk, 0), s) else writeWords vpp (i + 1) (a + 4) r s
    | (st, s) => ((st, i), s)

def writeTransaction (a : Nat) (d : List Word) (vpp : Bool) (s : State) : (Nat × Nat) × State :=
  if refusedWhole a d.length then ((stDecodeErr, 0), s) else writeWords vpp 0 a d s

/-- R108: the words of a read; the word that does not complete with OK and all later words return 0. -/
def readWords (p : Port) (bad : List Nat) : Nat → Nat → Nat → State → Nat × List Word × State
  | _, _, 0, s => (stOk, [], s)
  | i, a, n + 1, s =>
    let b := bad.contains i
    match readWord p a b s with
    | (0, v) =>
      let r := readWords p bad (i + 1) (a + 4) n (readEffect a v b s)
      (r.1, v :: r.2.1, r.2.2)
    | (st, _) => (st, List.replicate (n + 1) 0, fetchEffect a b s)

def readTransaction (p : Port) (a n : Nat) (bad : List Nat) (s : State) : Nat × List Word × State :=
  if refusedWhole a n then (stDecodeErr, List.replicate n 0, s) else readWords p bad 0 a n s

/-- R110: the words of a read that goes on behind a BUSY answer, without the side effects of R111; its status and the
words before the one that does not complete with OK. -/
def fetchWords (p : Port) (bad : List Nat) : Nat → Nat → Nat → State → Nat × List Word × State
  | _, _, 0, s => (stOk, [], s)
  | i, a, n + 1, s =>
    let b := bad.contains i
    match readWord p a b s with
    | (0, v) =>
      let r := fetchWords p bad (i + 1) (a + 4) n (fetchEffect a b s)
      (r.1, v :: r.2.1, r.2.2)
    | (st, _) => (st, [], fetchEffect a b s)

def fetchTransaction (p : Port) (a n : Nat) (bad : List Nat) (s : State) : Nat × List Word × State :=
  if refusedWhole a n then (stDecodeErr, [], s) else fetchWords p bad 0 a n s

/-- The side effects of words that were fetched before (R110, R111). -/
def fetchedEffects : Nat → List Word → State → State
  | _, [], s => s
  | a, v :: r, s => fetchedEffects (a + 4) r (if s.isolated a then s else takeEffect a v s)

/-! ### Reads that miss their bound (R110) -/

def State.answer (s : State) (p : Port) (st : Nat) (d : List Word) (check : Nat) (f : Option (Nat × Nat × Option (Nat × List Word))) :
    State := s.setPort p { s.port p with data := d, status := st, check := check, fetch := f, sent := sentBytes p d st check }

/-- A read that the port has accepted; `check` gives the PEC or the CRC-16 of the answer. `late` says that the first word
cannot be there within the bound: then what was fetched more than 500 ms before is not used. In a read that ends at a
word that does not complete with OK, the words before it have had their side effects (R108, R111; DEDUCED, log
entry 27). -/
def acceptRead (p : Port) (a n : Nat) (late : Bool) (bad : List Nat) (check : Nat → List Word → Nat) (s : State) : State :=
  let fetched := match (s.port p).fetch with
    | some (a', n', some r) => if a' = a ∧ n' = n ∧ late = false then some r else none
    | _ => none
  match fetched with
  | some (st, d) =>
    let s := fetchedEffects a d s
    let d := d ++ List.replicate (n - d.length) 0
    s.answer p st d (check st d) none
  | none =>
    if late then
      let z := List.replicate n (0 : Word)
      s.answer p stBusy z (check stBusy z) (some (a, n, none))
    else
      let r := readTransaction p a n bad s
      if r.2.2.rst.asserted then r.2.2 else r.2.2.answer p r.1 r.2.1 (check r.1 r.2.1) none

/-- The fetch of a read that missed its bound completes. -/
def fetchComplete (p : Port) (bad : List Nat) (s : State) : State :=
  match (s.port p).fetch with
  | some (a, n, none) =>
    let r := fetchTransaction p a n bad s
    if r.2.2.rst.asserted then r.2.2 else r.2.2.setPort p { r.2.2.port p with fetch := some (a, n, some (r.1, r.2.1)) }
  | _ => s

/-! ### TW0 (R116 to R120) -/

/-- R116: the index of the entry by which TW0 answers an address. -/
def State.tw0Answers (s : State) (sa : Nat) : Option Nat :=
  let w := s.rd Reg.TWI_TW0_ADDR
  if sa < 8 ∨ 0x78 ≤ sa then none
  else if bitOf w.toNat 31 then
    if (sa ^^^ fldOf w 0 7) &&& (127 - fldOf w 8 7) = 0 then some 0 else none
  else if bitOf w.toNat 7 && fldOf w 0 7 == sa then some 0
  else if bitOf w.toNat 15 && fldOf w 8 7 == sa then some 1
  else if bitOf w.toNat 23 && fldOf w 16 7 == sa then some 2
  else if bitOf w.toNat 30 && 64 + fldOf w 24 6 == sa then some 3
  else none

/-- A refused transaction that its port records though it was not accepted (R115). -/
def refuseFrame (p : Port) (st : Nat) (s : State) : State := respond p st 0 s

def wordsOf : Nat → List Byte → List Word
  | 0, _ => []
  | n + 1, b => BitVec.ofNat 32 (leNat (b.take 4)) :: wordsOf n (b.drop 4)

/-- A write that its port has accepted (R109). -/
def acceptWrite (p : Port) (a : Nat) (d : List Word) (vpp : Bool) (s : State) : State :=
  let r := writeTransaction a d vpp s
  respond p r.1.1 r.1.2 r.2

/-- R119: TW0 acknowledges its address and the bytes up to the 260th after it. -/
def tw0Ack (n : Nat) (s : State) : State := s.setPort0 { s.port0 with acks := 1 + min 260 n }

/-- R117 to R119: a write whose data are these bytes, before the PEC. Its data are 1 to 64 words: R117 allows 4 to 256
bytes, where R115 and R119 speak of 4 to 64 words (DEDUCED, log entry 27). -/
def tw0Write (sa a : Nat) (data : List Byte) (pecSent : Nat) (endSr vpp : Bool) (s : State) : State :=
  match s.tw0Answers sa with
  | none => s
  | some i =>
    let s := tw0Ack (data.length + 4) (s.fs Fld.TWI_TW0_STAT_LASTADDR i)
    if endSr ∨ data.length % 4 ≠ 0 ∨ data.length < 4 ∨ 256 < data.length then refuseFrame .tw0 stDecodeErr s
    else if pec (BitVec.ofNat 8 (2 * sa) :: leBytes 3 a ++ data) ≠ pecSent then
      (refuseFrame .tw0 stPecErr (s.finc Fld.TWI_TW0_STAT_PECERR)).driveLine 27
    else acceptWrite .tw0 (a % 2 ^ 24) (wordsOf (data.length / 4) data) vpp s

/-- R118: the PEC of a read's answer. -/
def tw0Pec (sa a cnt st : Nat) (d : List Word) : Nat :=
  pec (BitVec.ofNat 8 (2 * sa) :: leBytes 3 a ++ [BitVec.ofNat 8 cnt, BitVec.ofNat 8 (2 * sa + 1)] ++ wordBytes d ++
    [BitVec.ofNat 8 st])

/-- What the host clocks in of a TW0 answer: beyond PEC it reads 0xFF (R117). -/
def tw0Clock (n : Nat) (s : State) : State :=
  s.setPort0 { s.port0 with sent := (s.port0.sent ++ List.replicate (n - s.port0.sent.length) 0xFF).take n }

/-- A read that TW0 answers by entry `i`: it acknowledges the two addresses, the start address and CNT (R117). -/
def State.tw0Heard (s : State) (i : Nat) : State :=
  (s.fs Fld.TWI_TW0_STAT_LASTADDR i).setPort0 { s.port0 with acks := 6 }

/-- R117: a read of which the host clocks `clocks` bytes in. -/
def tw0Read (sa a cnt : Nat) (late : Bool) (bad : List Nat) (clocks : Nat) (s : State) : State :=
  match s.tw0Answers sa with
  | none => s
  | some i =>
    let s := acceptRead .tw0 (a % 2 ^ 24) (cnt % 256 + 1) late bad (tw0Pec sa a cnt) (s.tw0Heard i)
    if s.rst.asserted then s else tw0Clock clocks s

/-- R120. -/
def tw0Timeout (s : State) : State :=
  if s.fb Fld.TWI_TW0_CFG_TMO_EN then (s.finc Fld.TWI_TW0_STAT_TMOCNT).driveLine 27 else s

/-! ### SPT (R123 to R126) -/

def sptHeader (cmd a cnt : Nat) : List Byte := BitVec.ofNat 8 cmd :: leBytes 3 a ++ [BitVec.ofNat 8 cnt]

def sptMode (mode3 : Bool) (s : State) : State := s.fs Fld.SPT_STAT_MODE3 (boolNat mode3)

/-- R126: the frame ends before its check. -/
def sptAbandon (s : State) : State := (s.finc Fld.SPT_STAT_ABORT).driveLine 28

/-- R124: a wrong check. -/
def sptBadCheck (s : State) : State := (s.finc Fld.SPT_STAT_CRCERR).driveLine 28

/-- An answer with zero data. -/
def sptZero (st n : Nat) (s : State) : State :=
  let z := List.replicate n (0 : Word)
  s.answer .spt st z (sptCrc st z) none

/-- A read frame. -/
def sptRead (a cnt crc : Nat) (late : Bool) (bad : List Nat) (s : State) : State :=
  let n := cnt % 256 + 1
  if crc16 (sptHeader 2 a cnt) ≠ crc then sptBadCheck (sptZero stPecErr n s)
  else if 64 < n then sptZero stDecodeErr n s
  else acceptRead .spt (a % 2 ^ 24) n late bad sptCrc s

/-- A frame whose CMD is not a read. A write has a data phase, and without its whole data it ends before its check; a
frame whose CMD is neither has none (R123), and its check follows its header. -/
def sptWrite (cmd a cnt : Nat) (data : List Byte) (crc : Nat) (vpp : Bool) (s : State) : State :=
  let n := cnt % 256 + 1
  let d := data.take (4 * n)
  if cmd % 256 ≠ 1 then
    if crc16 (sptHeader cmd a cnt) ≠ crc then sptBadCheck (sptZero stPecErr 0 s) else sptZero stDecodeErr 0 s
  else if data.length < 4 * n then sptAbandon s
  else if crc16 (sptHeader cmd a cnt ++ d) ≠ crc then sptBadCheck (refuseFrame .spt stPecErr s)
  else if 64 < n then refuseFrame .spt stDecodeErr s
  else acceptWrite .spt (a % 2 ^ 24) (wordsOf n d) vpp s

/-! ### Commands -/

def execTw0Write (sa addr : Nat) (data : List Byte) (pec : Nat) (endSr vpp : Bool) (s : State) :
    Host.Outcome State Fault Refusal := done s (tw0Write sa addr data pec endSr vpp s)

def execTw0Read (sa addr cnt : Nat) (late : Bool) (bad : List Nat) (clocks : Nat) (s : State) :
    Host.Outcome State Fault Refusal := done s (tw0Read sa addr cnt late bad clocks s)

def execTw0Timeout (s : State) : Host.Outcome State Fault Refusal := done s (tw0Timeout s)

def execSptWrite (cmd addr cnt : Nat) (data : List Byte) (crc : Nat) (mode3 vpp : Bool) (s : State) :
    Host.Outcome State Fault Refusal :=
  done s (if s.portRuns .spt then sptWrite cmd addr cnt data crc vpp (sptMode mode3 s) else s)

def execSptRead (addr cnt crc : Nat) (mode3 late : Bool) (bad : List Nat) (s : State) : Host.Outcome State Fault Refusal :=
  done s (if s.portRuns .spt then sptRead addr cnt crc late bad (sptMode mode3 s) else s)

def execSptFrameAbandon (s : State) : Host.Outcome State Fault Refusal :=
  done s (if s.portRuns .spt then sptAbandon s else s)

def execReadFetchComplete (p : Port) (bad : List Nat) (s : State) : Host.Outcome State Fault Refusal :=
  done s (fetchComplete p bad s)

/-- One word written through a port. -/
def execRegisterWrite (p : Port) (addr : Nat) (v : Word) (vpp : Bool) (s : State) : Host.Outcome State Fault Refusal :=
  done s (if s.portRuns p then acceptWrite p (addr % 2 ^ 24) [v] vpp s else s)

/-- One word read through a port. -/
def readOne (p : Port) (addr : Nat) (s : State) : State :=
  if s.portRuns p then
    let r := readTransaction p (addr % 2 ^ 24) 1 [] s
    respondRead p r.2.1 r.1 r.2.2
  else s

def execRcRegisterRead (p : Port) (addr : Nat) (s : State) : Host.Outcome State Fault Refusal := done s (readOne p addr s)

def execLoWordRead (p : Port) (addr : Nat) (s : State) : Host.Outcome State Fault Refusal := done s (readOne p addr s)

end Sys2Proof.Machine
end

