-- ==== Sys2Proof/Machine/Dispatch.lean ====
section
/-! DEFINITION. One arm per command: each calls that command's own meaning. -/
namespace Sys2Proof.Machine

def exec (i : Instr) (s : State) : Host.Outcome State Fault Refusal :=
  match i with
  | .tw0Write sa addr data pec endSr vpp => Sys2Proof.Machine.execTw0Write sa addr data pec endSr vpp s
  | .tw0Read sa addr cnt late bad clocks => Sys2Proof.Machine.execTw0Read sa addr cnt late bad clocks s
  | .tw0Timeout => Sys2Proof.Machine.execTw0Timeout s
  | .sptWrite cmd addr cnt data crc mode3 vpp => Sys2Proof.Machine.execSptWrite cmd addr cnt data crc mode3 vpp s
  | .sptRead addr cnt crc mode3 late bad => Sys2Proof.Machine.execSptRead addr cnt crc mode3 late bad s
  | .sptFrameAbandon => Sys2Proof.Machine.execSptFrameAbandon s
  | .readFetchComplete p bad => Sys2Proof.Machine.execReadFetchComplete p bad s
  | .registerWrite p addr v vpp => Sys2Proof.Machine.execRegisterWrite p addr v vpp s
  | .rcRegisterRead p addr => Sys2Proof.Machine.execRcRegisterRead p addr s
  | .loWordRead p addr => Sys2Proof.Machine.execLoWordRead p addr s
  | .pwrReqAuto p => Sys2Proof.Machine.execPwrReqAuto p s
  | .pwrReqHoldReady p => Sys2Proof.Machine.execPwrReqHoldReady p s
  | .pwrReqDormant p => Sys2Proof.Machine.execPwrReqDormant p s
  | .profileWrite p profile => Sys2Proof.Machine.execProfileWrite p profile s
  | .queueCfgWrite p q v => Sys2Proof.Machine.execQueueCfgWrite p q v s
  | .oqDoorbell p q index => Sys2Proof.Machine.execOqDoorbell p q index s
  | .headDoorbell p q index => Sys2Proof.Machine.execHeadDoorbell p q index s
  | .mailboxNop p m => Sys2Proof.Machine.execMailboxNop p m s
  | .ldgKeyExport m programOk => Sys2Proof.Machine.execLdgKeyExport m programOk s
  | .prpKeyExport m programOk => Sys2Proof.Machine.execPrpKeyExport m programOk s
  | .mailboxUnknownCode p m code => Sys2Proof.Machine.execMailboxUnknownCode p m code s
  | .mailboxTimeout m => Sys2Proof.Machine.execMailboxTimeout m s
  | .tileCommit p t => Sys2Proof.Machine.execTileCommit p t s
  | .tileAbort p t => Sys2Proof.Machine.execTileAbort p t s
  | .tileClrState p t => Sys2Proof.Machine.execTileClrState p t s
  | .stagedApply g => Sys2Proof.Machine.execStagedApply g s
  | .jointCommitGo p => Sys2Proof.Machine.execJointCommitGo p s
  | .jointCommitAbort p => Sys2Proof.Machine.execJointCommitAbort p s
  | .jointCommitApply sub => Sys2Proof.Machine.execJointCommitApply sub s
  | .winClr p t => Sys2Proof.Machine.execWinClr p t s
  | .macAccClr p t => Sys2Proof.Machine.execMacAccClr p t s
  | .tileUpdate t sense balls => Sys2Proof.Machine.execTileUpdate t sense balls s
  | .imageVerify p src run => Sys2Proof.Machine.execImageVerify p src run s
  | .imageLoad p src run => Sys2Proof.Machine.execImageLoad p src run s
  | .imageProgramA p src run => Sys2Proof.Machine.execImageProgramA p src run s
  | .imageProgramB p src run => Sys2Proof.Machine.execImageProgramB p src run s
  | .bootImageLoad => Sys2Proof.Machine.execBootImageLoad s
  | .integrityScrubPass mismatch => Sys2Proof.Machine.execIntegrityScrubPass mismatch s
  | .sampleStrobe codes ofs off => Sys2Proof.Machine.execSampleStrobe codes ofs off s
  | .snapRequest p => Sys2Proof.Machine.execSnapRequest p s
  | .snapshotTaken => Sys2Proof.Machine.execSnapshotTaken s
  | .syncEdgeLoss => Sys2Proof.Machine.execSyncEdgeLoss s
  | .rateSwitch => Sys2Proof.Machine.execRateSwitch s
  | .calibrationSequenceEnd ch est se => Sys2Proof.Machine.execCalibrationSequenceEnd ch est se s
  | .referenceCrossCheck ratio => Sys2Proof.Machine.execReferenceCrossCheck ratio s
  | .dividerTrackingUpdate ch rpar => Sys2Proof.Machine.execDividerTrackingUpdate ch rpar s
  | .trkRestart p mask => Sys2Proof.Machine.execTrkRestart p mask s
  | .slowCountIncrement n dv sat => Sys2Proof.Machine.execSlowCountIncrement n dv sat s
  | .watchVoltageBurst codes => Sys2Proof.Machine.execWatchVoltageBurst codes s
  | .watchEntry slow sub => Sys2Proof.Machine.execWatchEntry slow sub s
  | .watchWake dq current sub => Sys2Proof.Machine.execWatchWake dq current sub s
  | .dormantEntry sub => Sys2Proof.Machine.execDormantEntry sub s
  | .dormantWake sub => Sys2Proof.Machine.execDormantWake sub s
  | .wakeTimer => Sys2Proof.Machine.execWakeTimer s
  | .ledgerBoundary => Sys2Proof.Machine.execLedgerBoundary s
  | .ledgerEarlyClose sub => Sys2Proof.Machine.execLedgerEarlyClose sub s
  | .ledgerCloseRequest p => Sys2Proof.Machine.execLedgerCloseRequest p s
  | .assignCommit p => Sys2Proof.Machine.execAssignCommit p s
  | .assignAbort p => Sys2Proof.Machine.execAssignAbort p s
  | .ledgerRecordWritten => Sys2Proof.Machine.execLedgerRecordWritten s
  | .lqDelivery q => Sys2Proof.Machine.execLqDelivery q s
  | .ledgerStart => Sys2Proof.Machine.execLedgerStart s
  | .orderEngineStart => Sys2Proof.Machine.execOrderEngineStart s
  | .orderCopy => Sys2Proof.Machine.execOrderCopy s
  | .admissionDecision => Sys2Proof.Machine.execAdmissionDecision s
  | .decisionOverload => Sys2Proof.Machine.execDecisionOverload s
  | .orderStart id => Sys2Proof.Machine.execOrderStart id s
  | .orderDeadline id => Sys2Proof.Machine.execOrderDeadline id s
  | .controlPeriod => Sys2Proof.Machine.execControlPeriod s
  | .cqRecordWrite cq => Sys2Proof.Machine.execCqRecordWrite cq s
  | .orderCancel p => Sys2Proof.Machine.execOrderCancel p s
  | .orderQuery p id => Sys2Proof.Machine.execOrderQuery p id s
  | .capWrite p r v => Sys2Proof.Machine.execCapWrite p r v s
  | .resourceRemoval => Sys2Proof.Machine.execResourceRemoval s
  | .replanComplete => Sys2Proof.Machine.execReplanComplete s
  | .discardAll => Sys2Proof.Machine.execDiscardAll s
  | .scoutUpdate ac balls share => Sys2Proof.Machine.execScoutUpdate ac balls share s
  | .scoutTimeout => Sys2Proof.Machine.execScoutTimeout s
  | .handbackStart => Sys2Proof.Machine.execHandbackStart s
  | .handbackComplete => Sys2Proof.Machine.execHandbackComplete s
  | .scoutEnableWrite p en => Sys2Proof.Machine.execScoutEnableWrite p en s
  | .scoutLevelCommit p => Sys2Proof.Machine.execScoutLevelCommit p s
  | .scoutLevelAbort p => Sys2Proof.Machine.execScoutLevelAbort p s
  | .scoutSquash p => Sys2Proof.Machine.execScoutSquash p s
  | .shadowPlanRecompute => Sys2Proof.Machine.execShadowPlanRecompute s
  | .pwmPeriodStart g cs bus edges => Sys2Proof.Machine.execPwmPeriodStart g cs bus edges s
  | .groupStart g mode => Sys2Proof.Machine.execGroupStart g mode s
  | .senseCheck g cs => Sys2Proof.Machine.execSenseCheck g cs s
  | .groupStop g => Sys2Proof.Machine.execGroupStop g s
  | .groupStopComplete g late => Sys2Proof.Machine.execGroupStopComplete g late s
  | .phaseOvercurrent g a b => Sys2Proof.Machine.execPhaseOvercurrent g a b s
  | .prefRenewalTimeout g => Sys2Proof.Machine.execPrefRenewalTimeout g s
  | .brakeStart mv => Sys2Proof.Machine.execBrakeStart mv s
  | .syncInLoss g => Sys2Proof.Machine.execSyncInLoss g s
  | .syncInReacquire g => Sys2Proof.Machine.execSyncInReacquire g s
  | .shareUpdate imon => Sys2Proof.Machine.execShareUpdate imon s
  | .spareCapacityCheck => Sys2Proof.Machine.execSpareCapacityCheck s
  | .trimStep rt => Sys2Proof.Machine.execTrimStep rt s
  | .cnvRackCommit p => Sys2Proof.Machine.execCnvRackCommit p s
  | .cnvRackAbort p => Sys2Proof.Machine.execCnvRackAbort p s
  | .dutyLimitCommit p g => Sys2Proof.Machine.execDutyLimitCommit p g s
  | .dutyLimitAbort p g => Sys2Proof.Machine.execDutyLimitAbort p g s
  | .shareEnable p => Sys2Proof.Machine.execShareEnable p s
  | .pvGroupStart g => Sys2Proof.Machine.execPvGroupStart g s
  | .pvGroupStop g => Sys2Proof.Machine.execPvGroupStop g s
  | .pvGroupFault g rev => Sys2Proof.Machine.execPvGroupFault g rev s
  | .mpptStep g => Sys2Proof.Machine.execMpptStep g s
  | .mpptScanStep g => Sys2Proof.Machine.execMpptScanStep g s
  | .ccReturn n => Sys2Proof.Machine.execCcReturn n s
  | .chargeTermination n => Sys2Proof.Machine.execChargeTermination n s
  | .chargePowerHeld n => Sys2Proof.Machine.execChargePowerHeld n s
  | .cellOv n => Sys2Proof.Machine.execCellOv n s
  | .safetyTimerExpiry n => Sys2Proof.Machine.execSafetyTimerExpiry n s
  | .stringLossCharging n => Sys2Proof.Machine.execStringLossCharging n s
  | .clampRelease g => Sys2Proof.Machine.execClampRelease g s
  | .chargeLimitCommit p n => Sys2Proof.Machine.execChargeLimitCommit p n s
  | .chargeLimitAbort p n => Sys2Proof.Machine.execChargeLimitAbort p n s
  | .canEnable p c en => Sys2Proof.Machine.execCanEnable p c en s
  | .canFrameReceived c frame esi remote data sub => Sys2Proof.Machine.execCanFrameReceived c frame esi remote data sub s
  | .canPoll i1 => Sys2Proof.Machine.execCanPoll i1 s
  | .canWatchBurst => Sys2Proof.Machine.execCanWatchBurst s
  | .busOffRecovery c => Sys2Proof.Machine.execBusOffRecovery c s
  | .presenceTimeout m => Sys2Proof.Machine.execPresenceTimeout m s
  | .estimatorStart => Sys2Proof.Machine.execEstimatorStart s
  | .estimatorUpdate sub => Sys2Proof.Machine.execEstimatorUpdate sub s
  | .estimatorNvWrite => Sys2Proof.Machine.execEstimatorNvWrite s
  | .estSave p => Sys2Proof.Machine.execEstSave p s
  | .persVolatileWrite p => Sys2Proof.Machine.execPersVolatileWrite p s
  | .moduleValueWrite p m hlth v => Sys2Proof.Machine.execModuleValueWrite p m hlth v s
  | .efuseTick c uv vi vo => Sys2Proof.Machine.execEfuseTick c uv vi vo s
  | .hardShort c uv => Sys2Proof.Machine.execHardShort c uv s
  | .gateOffCheck c mv => Sys2Proof.Machine.execGateOffCheck c mv s
  | .efuseEnableWrite p c en => Sys2Proof.Machine.execEfuseEnableWrite p c en s
  | .efuseEnableBall c level => Sys2Proof.Machine.execEfuseEnableBall c level s
  | .capGraceExpiry c => Sys2Proof.Machine.execCapGraceExpiry c s
  | .feedChangeover f => Sys2Proof.Machine.execFeedChangeover f s
  | .feedReturn f => Sys2Proof.Machine.execFeedReturn f s
  | .deadTimeElapsed f => Sys2Proof.Machine.execDeadTimeElapsed f s
  | .contactorCloseRequest p n => Sys2Proof.Machine.execContactorCloseRequest p n s
  | .contactorOpenRequest p n => Sys2Proof.Machine.execContactorOpenRequest p n s
  | .prechargeComplete n => Sys2Proof.Machine.execPrechargeComplete n s
  | .prechargeTimeout n => Sys2Proof.Machine.execPrechargeTimeout n s
  | .kfClosed n => Sys2Proof.Machine.execKfClosed n s
  | .kfFail n => Sys2Proof.Machine.execKfFail n s
  | .overlapEnd n => Sys2Proof.Machine.execOverlapEnd n s
  | .kfDrop n => Sys2Proof.Machine.execKfDrop n s
  | .kfWeld n => Sys2Proof.Machine.execKfWeld n s
  | .kfOpened n => Sys2Proof.Machine.execKfOpened n s
  | .kflagRead p n => Sys2Proof.Machine.execKflagRead p n s
  | .estopAssert => Sys2Proof.Machine.execEstopAssert s
  | .estopRelease => Sys2Proof.Machine.execEstopRelease s
  | .sequencerTick mv vsys ilim => Sys2Proof.Machine.execSequencerTick mv vsys ilim s
  | .railFaultSet k ov => Sys2Proof.Machine.execRailFaultSet k ov s
  | .railWarningSet k ov => Sys2Proof.Machine.execRailWarningSet k ov s
  | .railOvercurrent k => Sys2Proof.Machine.execRailOvercurrent k s
  | .powerUpSequence src => Sys2Proof.Machine.execPowerUpSequence src s
  | .powerDownSequence src => Sys2Proof.Machine.execPowerDownSequence src s
  | .sequenceStepComplete => Sys2Proof.Machine.execSequenceStepComplete s
  | .sequenceDelayElapsed => Sys2Proof.Machine.execSequenceDelayElapsed s
  | .powerUpStepTimeout => Sys2Proof.Machine.execPowerUpStepTimeout s
  | .powerDownStepTimeout => Sys2Proof.Machine.execPowerDownStepTimeout s
  | .resetStretchEnd n => Sys2Proof.Machine.execResetStretchEnd n s
  | .systemInputCollapse => Sys2Proof.Machine.execSystemInputCollapse s
  | .systemInputRecover => Sys2Proof.Machine.execSystemInputRecover s
  | .linkEnable p en => Sys2Proof.Machine.execLinkEnable p en s
  | .queenStart => Sys2Proof.Machine.execQueenStart s
  | .linkCycle missed => Sys2Proof.Machine.execLinkCycle missed s
  | .workerCycleMarker missed => Sys2Proof.Machine.execWorkerCycleMarker missed s
  | .beaconReceived frame => Sys2Proof.Machine.execBeaconReceived frame s
  | .statusReceived frame => Sys2Proof.Machine.execStatusReceived frame s
  | .itemQuote r id energy power => Sys2Proof.Machine.execItemQuote r id energy power s
  | .itemPartResult r id cause => Sys2Proof.Machine.execItemPartResult r id cause s
  | .itemPartReached r id => Sys2Proof.Machine.execItemPartReached r id s
  | .itemPartEnded r id cause => Sys2Proof.Machine.execItemPartEnded r id cause s
  | .itemPartString r id str deliv => Sys2Proof.Machine.execItemPartString r id str deliv s
  | .itemPartHeld id => Sys2Proof.Machine.execItemPartHeld id s
  | .quoteReqReceived record => Sys2Proof.Machine.execQuoteReqReceived record s
  | .partReceived record => Sys2Proof.Machine.execPartReceived record s
  | .withdrawReceived id => Sys2Proof.Machine.execWithdrawReceived id s
  | .resetFrameReceived mask code => Sys2Proof.Machine.execResetFrameReceived mask code s
  | .quoteAnswerTimeout id => Sys2Proof.Machine.execQuoteAnswerTimeout id s
  | .linkLoss => Sys2Proof.Machine.execLinkLoss s
  | .workerAbsent r => Sys2Proof.Machine.execWorkerAbsent r s
  | .barrierAnnounce p racks action => Sys2Proof.Machine.execBarrierAnnounce p racks action s
  | .barrierPartStart => Sys2Proof.Machine.execBarrierPartStart s
  | .barrierPartEnd => Sys2Proof.Machine.execBarrierPartEnd s
  | .barrierSeqUp => Sys2Proof.Machine.execBarrierSeqUp s
  | .barrierSeqDown => Sys2Proof.Machine.execBarrierSeqDown s
  | .barrierLdgClose => Sys2Proof.Machine.execBarrierLdgClose s
  | .sendReset p targets code => Sys2Proof.Machine.execSendReset p targets code s
  | .errorLineAssert src => Sys2Proof.Machine.execErrorLineAssert src s
  | .faultPulseEnd => Sys2Proof.Machine.execFaultPulseEnd s
  | .faultClassCommit p => Sys2Proof.Machine.execFaultClassCommit p s
  | .faultClassAbort p => Sys2Proof.Machine.execFaultClassAbort p s
  | .faultInject p src => Sys2Proof.Machine.execFaultInject p src s
  | .powerOnReset => Sys2Proof.Machine.execPowerOnReset s
  | .aoPowerUp => Sys2Proof.Machine.execAoPowerUp s
  | .resetPin => Sys2Proof.Machine.execResetPin s
  | .softwareReset p v => Sys2Proof.Machine.execSoftwareReset p v s
  | .criticalEccError => Sys2Proof.Machine.execCriticalEccError s
  | .deviceReset causes => Sys2Proof.Machine.execDeviceReset causes s
  | .resetRelease compat imgSel => Sys2Proof.Machine.execResetRelease compat imgSel s
  | .bootFirmwareSelect => Sys2Proof.Machine.execBootFirmwareSelect s
  | .blockReset p mask => Sys2Proof.Machine.execBlockReset p mask s
  | .blockResetRelease n sub => Sys2Proof.Machine.execBlockResetRelease n sub s
  | .isolationTimeout => Sys2Proof.Machine.execIsolationTimeout s
  | .ringFrameWrite => Sys2Proof.Machine.execRingFrameWrite s
  | .eventEntryWrite => Sys2Proof.Machine.execEventEntryWrite s
  | .bqDelivery => Sys2Proof.Machine.execBqDelivery s
  | .eventLogScan => Sys2Proof.Machine.execEventLogScan s
  | .waveformSeal => Sys2Proof.Machine.execWaveformSeal s
  | .waveformHostTrigger p => Sys2Proof.Machine.execWaveformHostTrigger p s
  | .hostMark p => Sys2Proof.Machine.execHostMark p s
  | .hfxoCheckWindow count amp => Sys2Proof.Machine.execHfxoCheckWindow count amp s
  | .hfxoStartTimeout => Sys2Proof.Machine.execHfxoStartTimeout s
  | .hfxoRestart => Sys2Proof.Machine.execHfxoRestart s
  | .hfxoLoss => Sys2Proof.Machine.execHfxoLoss s
  | .hfxoStop p => Sys2Proof.Machine.execHfxoStop p s
  | .hfxoStart p => Sys2Proof.Machine.execHfxoStart p s
  | .pllLossOfLock => Sys2Proof.Machine.execPllLossOfLock s
  | .pllRelock => Sys2Proof.Machine.execPllRelock s
  | .pllRelockTimeout => Sys2Proof.Machine.execPllRelockTimeout s
  | .sysclkMonitorTrip => Sys2Proof.Machine.execSysclkMonitorTrip s
  | .aclkCrystalFail => Sys2Proof.Machine.execAclkCrystalFail s
  | .aclkCrystalReturn => Sys2Proof.Machine.execAclkCrystalReturn s
  | .hfrcTrim trim err => Sys2Proof.Machine.execHfrcTrim trim err s
  | .cdcTimeout group overrun => Sys2Proof.Machine.execCdcTimeout group overrun s
  | .rtcSecond => Sys2Proof.Machine.execRtcSecond s
  | .rtcCapture p => Sys2Proof.Machine.execRtcCapture p s
  | .rtcTimeCommit p => Sys2Proof.Machine.execRtcTimeCommit p s
  | .rtcTimeAbort p => Sys2Proof.Machine.execRtcTimeAbort p s
  | .rtcTimeApply sub => Sys2Proof.Machine.execRtcTimeApply sub s
  | .osfClear p => Sys2Proof.Machine.execOsfClear p s
  | .tmrStart p mask => Sys2Proof.Machine.execTmrStart p mask s
  | .tmrStop p mask => Sys2Proof.Machine.execTmrStop p mask s
  | .tmrReset p mask => Sys2Proof.Machine.execTmrReset p mask s
  | .timerClockEdge n => Sys2Proof.Machine.execTimerClockEdge n s
  | .timerCapture n => Sys2Proof.Machine.execTimerCapture n s
  | .watchdogEnable p en => Sys2Proof.Machine.execWatchdogEnable p en s
  | .watchdogService p v stamp => Sys2Proof.Machine.execWatchdogService p v stamp s
  | .watchdogWindowOpen w => Sys2Proof.Machine.execWatchdogWindowOpen w s
  | .watchdogExpiry w => Sys2Proof.Machine.execWatchdogExpiry w s
  | .watchdogClockTrip => Sys2Proof.Machine.execWatchdogClockTrip s
  | .evinBallEvent n level => Sys2Proof.Machine.execEvinBallEvent n level s
  | .coalesceTimeout h => Sys2Proof.Machine.execCoalesceTimeout h s
  | .intcMaskSet p i1 v => Sys2Proof.Machine.execIntcMaskSet p i1 v s
  | .intcMaskClr p i1 v => Sys2Proof.Machine.execIntcMaskClr p i1 v s
  | .intcPendSet p i1 v => Sys2Proof.Machine.execIntcPendSet p i1 v s
  | .intcPendClr p i1 v => Sys2Proof.Machine.execIntcPendClr p i1 v s
  | .intcRouteWrite p i1 v => Sys2Proof.Machine.execIntcRouteWrite p i1 v s
  | .dieConversion t => Sys2Proof.Machine.execDieConversion t s
  | .remoteConversion res => Sys2Proof.Machine.execRemoteConversion res s
  | .throttleGraceExpiry h => Sys2Proof.Machine.execThrottleGraceExpiry h s
  | .throttleRelease h => Sys2Proof.Machine.execThrottleRelease h s
  | .zoneShutdownClear h => Sys2Proof.Machine.execZoneShutdownClear h s
  | .dieShutdown => Sys2Proof.Machine.execDieShutdown s
  | .dieShutdownReset => Sys2Proof.Machine.execDieShutdownReset s
  | .thermalRestart compat imgSel pinLow => Sys2Proof.Machine.execThermalRestart compat imgSel pinLow s
  | .sensorDisable p n group => Sys2Proof.Machine.execSensorDisable p n group s
  | .thmFlagRead p n => Sys2Proof.Machine.execThmFlagRead p n s
  | .zonePointCommit p h => Sys2Proof.Machine.execZonePointCommit p h s
  | .zonePointAbort p h => Sys2Proof.Machine.execZonePointAbort p h s
  | .otpWordRead p w bad => Sys2Proof.Machine.execOtpWordRead p w bad s
  | .otpProgram p vpp => Sys2Proof.Machine.execOtpProgram p vpp s
  | .otpSeal p vpp => Sys2Proof.Machine.execOtpSeal p vpp s
  | .otpRevoke p vpp => Sys2Proof.Machine.execOtpRevoke p vpp s
  | .otpRollback p vpp => Sys2Proof.Machine.execOtpRollback p vpp s
  | .otpOperationEnd n part res => Sys2Proof.Machine.execOtpOperationEnd n part res s
  | .nvcWrite p => Sys2Proof.Machine.execNvcWrite p s
  | .nvcCommit p => Sys2Proof.Machine.execNvcCommit p s
  | .nvcClear p => Sys2Proof.Machine.execNvcClear p s
  | .nvcOperationEnd => Sys2Proof.Machine.execNvcOperationEnd s
  | .mramWordWrite aged fail => Sys2Proof.Machine.execMramWordWrite aged fail s
  | .tw1TransferGo p v => Sys2Proof.Machine.execTw1TransferGo p v s
  | .tw1TransferDone nack rx => Sys2Proof.Machine.execTw1TransferDone nack rx s
  | .tw1ArbitrationLost stop own => Sys2Proof.Machine.execTw1ArbitrationLost stop own s
  | .tw1TargetWrite data => Sys2Proof.Machine.execTw1TargetWrite data s
  | .tw1TargetRead n => Sys2Proof.Machine.execTw1TargetRead n s
  | .tw1Timeout => Sys2Proof.Machine.execTw1Timeout s
  | .vinLoss => Sys2Proof.Machine.execVinLoss s
  | .vaoLoss => Sys2Proof.Machine.execVaoLoss s
  | .canBusError c kind => Sys2Proof.Machine.execCanBusError c kind s
  | .overshootEnd mv => Sys2Proof.Machine.execOvershootEnd mv s

end Sys2Proof.Machine
end

