-- ==== Sys2Proof/Machine/Balls.lean ====
section
/-!
DEFINITION. What the balls show from outside (R437, R491, R508, R530 to R533): the states of the configurable balls under
the pin function map in force, the phase outputs (R268, R271, R273), SYNC_OUT (R290), and the interrupt outputs. FAULT_N is `State.faultLow`.
-/
namespace Sys2Proof.Machine

/-- A ball: in high impedance without or with a weak pull, or driven (R437). -/
inductive Ball where
  | hiz
  | pullDown
  | pullUp
  | low
  | high
  deriving DecidableEq, Repr

/-- R437, R508: the state that the OTP pin-state map gives a ball code. -/
def State.otpBall (s : State) (b : Nat) : Ball :=
  match fldOf (s.otpWord (0x080 + b / 8)) (4 * (b % 8)) 4 with
  | 1 => .pullDown
  | 2 => .pullUp
  | 3 => .low
  | 4 => .high
  | _ => .hiz

/-- R75: the function code and the attributes that the pin function map in force gives a ball. -/
def State.pinEntry (s : State) (b : Nat) : Option (Nat × Nat) :=
  let p := s.sec secPinmap
  ((List.range (u32At p 0)).find? (fun i => u16At p (4 + 8 * i) == b)).map (fun i => (u16At p (6 + 8 * i), u16At p (8 + 8 * i)))

/-- R530: is the function asserted by its block? None for an input, for a timer that drives nothing (R472), and for a bus
line, whose levels follow frame by frame: CANn_TX, TW1_SCL, TW1_SDA. -/
def State.outFunction (s : State) (f : Nat) : Option Bool :=
  let i := f % 16
  if 0x10 ≤ f ∧ f ≤ 0x17 then some (s.fb (Fld.EFU_S_KSTAT_KM (f - 0x10)))
  else if 0x18 ≤ f ∧ f ≤ 0x1F then some (s.fb (Fld.EFU_S_KSTAT_KP (f - 0x18)))
  else if 0x30 ≤ f ∧ f ≤ 0x3B then some (s.mode i != modeOff)
  else if 0x40 ≤ f ∧ f ≤ 0x4B then some (s.chgG i).clamp
  else if f = 0x62 ∨ f = 0x66 then some (decide (s.powerState = 0) || !s.fb (Fld.CAN_C_CFG_EN (if f = 0x62 then 0 else 1)))
  else if 0x70 ≤ f ∧ f ≤ 0x77 then
    if s.fg (Fld.TMR_TM_IO_FUNC i) = 1 then some (s.tmOut i != s.fb (Fld.TMR_TM_IO_INV i)) else none
  else if 0x90 ≤ f ∧ f ≤ 0x9F then some (bitOf (s.fg Fld.SEQ_OUT_SQE) i)
  else if 0xA0 ≤ f ∧ f ≤ 0xA3 then some (s.fb (Fld.SEQ_RSTO_STAT_ASSERTED i))
  else none

/-- R532: a ball with these attributes whose function has this value; none leaves it to its pull. -/
def ballState (attr : Nat) (v : Option Bool) : Ball :=
  let pull := match attr % 4 with
    | 1 => Ball.pullDown
    | 2 => Ball.pullUp
    | _ => Ball.hiz
  match v with
  | none => pull
  | some x => if x == bitOf attr 3 then .low else if bitOf attr 2 then pull else .high

/-- R437, R533: a configurable ball. SQE and RSTO balls are left to their pulls by a collapse under COMPAT (R401). -/
def State.ball (s : State) (b : Nat) : Ball :=
  if s.rst.asserted then s.otpBall b
  else match s.pinEntry b with
  | none => s.otpBall b
  | some (f, attr) => ballState attr (if s.seqr.released && decide (0x90 ≤ f ∧ f ≤ 0xA3) then none else s.outFunction f)

/-- R268, R271, R273: PHn_PWM at `t` fine units after the period start of its group. A pulse that the period before has left
unfinished ends as that period set it, unless the new on-time is 0 (DEDUCED, log entry 31). -/
def State.phaseOut (s : State) (n t : Nat) : Ball :=
  match s.phaseGroup n with
  | none => .hiz
  | some g =>
    if s.rst.asserted || s.outputsOff g then .hiz
    else
      let on := (s.rd (Reg.CNV_PH_ON n)).toNat
      let ofs := (s.rd (Reg.CNV_PH_OFS n)).toNat
      let tail := (s.grp g).tails.getD ((s.phases g).idxOf n) 0
      if on = 0 then .low
      else if s.fg (Fld.CNV_CG_PER_P g) ≤ on ∨ t < tail ∨ (ofs ≤ t ∧ t < ofs + on) then .high
      else .low

/-- R290: SYNC_OUT at `t` fine units after the period start of the group that CNV_SYNCOUT selects. -/
def State.syncOut (s : State) (t : Nat) : Bool :=
  let g := s.fg Fld.CNV_SYNCOUT_GROUP
  s.fb Fld.CNV_SYNCOUT_EN && s.groupRuns g && decide (2 * t < s.fg (Fld.CNV_CG_PER_P g))

/-- R491: the level of IRQ0_N or IRQ1_N; both are released during device-wide reset. -/
def State.irqLow (s : State) (h : Nat) : Bool := !s.rst.asserted && (if h = 0 then s.irq.t0.ball else s.irq.t1.ball)

end Sys2Proof.Machine
end

