-- ==== Sys2Proof/Safety.lean ====
section
/-!
DEFINITION. Words of the statements: what the event controller shows after every step, when a port or the block runs, and
which commands act in device-wide reset.
-/
namespace Sys2Proof.Machine

/-- R485, R491, R493: out of reset and out of DORMANT every level source pends exactly while its condition holds, and
during device-wide reset both host balls are released. -/
def EventsShown (s : State) : Prop :=
  (s.rst.asserted = true → s.irq.t0 = ⟨0, false⟩ ∧ s.irq.t1 = ⟨0, false⟩) ∧
  (s.rst.asserted = false → s.fg Fld.SYS_PWR_STAT_STATE ≠ 0 → s.irq.level = levelMask s)

/-- A host transaction of port `p` that names the word at `a` is carried out: the port runs, and the target does not answer
ISOLATED (R112, R554). -/
abbrev Reach (p : Port) (a : Nat) (s : State) : Prop := s.portRuns p = true ∧ s.isolated a = false

/-- Out of device-wide reset. -/
abbrev Live (s : State) : Prop := s.rst.asserted = false

/-- The commands that act while device-wide reset is asserted: those that assert, prolong or end it, those of the AO domain
(R434), and the levels of input balls. -/
def ActsInReset : Instr → Bool
  | .powerOnReset | .aoPowerUp | .resetPin | .criticalEccError | .deviceReset _ | .resetRelease _ _ => true
  | .thermalRestart _ _ _ | .vinLoss | .vaoLoss | .rtcSecond | .rtcTimeApply _ | .aclkCrystalFail => true
  | .aclkCrystalReturn | .evinBallEvent _ _ => true
  | _ => false

end Sys2Proof.Machine
end

