-- ==== Sys2Proof/Certificates/Slice0/Obligations.lean ====
section
/-!
DEFINITION. The statements for the provers. `finish` is how every command ends (the driven error lines are collected and
the event controller passes once: Sys2Proof/Laws/Events.lean says all it can change), `respond` is the answer of a host
write. A next state that a statement spells out is the state before with the named updates and nothing else, so each such
equation is its command's frame as well.
-/
open Sys2Proof Sys2Proof.Machine

/-! ### The machine as a whole -/

/-- The model's own rule of its queue (log entry 7): a step is the command at the front on the rest of the queue, and an
empty queue idles. -/
def Obligations.StepTakesFrontCommand : Prop :=
  (∀ (c : Instr) (rest : List Instr) (s : State), step { s with pending := c :: rest } = exec c { s with pending := rest }) ∧
  (∀ s : State, s.pending = [] → step s = .next s)

/-- No command ends in a fault or a refusal, in any state. -/
def Obligations.EveryCommandAnswersNext : Prop := ∀ (c : Instr) (s : State), ∃ t, exec c s = .next t

/-- R433, R434: while device-wide reset is asserted, only the commands that assert, prolong or end it, those of the AO
domain and the levels of balls act. Model's choice: Which commands act in reset is log entry 22. -/
def Obligations.ResetHoldsTheBlock : Prop :=
  ∀ (c : Instr) (s : State), s.rst.asserted = true → ActsInReset c = false → exec c s = .next s

/-- R485, R491, R493: after every step the level sources pend as their conditions stand, and both balls are released
during device-wide reset. -/
def Obligations.StepKeepsEventsShown : Prop := ∀ s t : State, EventsShown s → step s = .next t → EventsShown t

/-- The state after reset release shows its events. -/
def Obligations.ResetShowsEvents : Prop := EventsShown State.reset

/-- R424: a line that a command drives is collected before the next command: none waits between two steps. -/
def Obligations.StepCollectsErrorLines : Prop :=
  ∀ s t : State, s.flt.lines = [] → step s = .next t → t.flt.lines = []

/-! ### The host ports (chapter 03) -/

/-- R108, R115, R117 to R119, R123, R124: a write transaction whose address, frame and check are right is executed word by
word (`acceptWrite`), and its status goes to the port and to SYS_XSTAT. -/
def Obligations.PortWritesExecute : Prop :=
  (∀ (sa addr pecSent i : Nat) (data : List Byte) (vpp : Bool) (s : State), Live s → s.tw0Answers sa = some i →
    data.length % 4 = 0 → 4 ≤ data.length → data.length ≤ 256 →
    pec (BitVec.ofNat 8 (2 * sa) :: leBytes 3 addr ++ data) = pecSent →
    exec (.tw0Write sa addr data pecSent false vpp) s =
      .next (finish (acceptWrite .tw0 (addr % 2 ^ 24) (wordsOf (data.length / 4) data) vpp
        (tw0Ack (data.length + 4) (s.fs Fld.TWI_TW0_STAT_LASTADDR i))))) ∧
  (∀ (addr cnt crc : Nat) (data : List Byte) (mode3 vpp : Bool) (s : State), s.portRuns .spt = true → cnt < 64 →
    data.length = 4 * (cnt + 1) → crc16 (sptHeader 1 addr cnt ++ data) = crc →
    exec (.sptWrite 1 addr cnt data crc mode3 vpp) s =
      .next (finish (acceptWrite .spt (addr % 2 ^ 24) (wordsOf (cnt + 1) data) vpp
        (s.fs Fld.SPT_STAT_MODE3 (if mode3 then 1 else 0)))))

/-- R108: words are written in rising order until one does not complete with OK. That word's status and index are the
answer, the words before it keep their effect and the words after it have none. R107: a transaction that is not aligned,
has no words or more than 64, or leaves its block slot, tile window, memory window or region is refused whole with
DECODE_ERR. -/
def Obligations.TransactionsStop : Prop :=
  (∀ (vpp : Bool) (before : List Word) (v : Word) (after : List Word) (i a : Nat) (s s' : State),
      writeWords vpp i a before s = ((stOk, 0), s') → s'.rst.asserted = false →
      (writeWord (a + 4 * before.length) v vpp s').1 ≠ stOk →
      writeWords vpp i a (before ++ v :: after) s =
        (((writeWord (a + 4 * before.length) v vpp s').1, i + before.length), (writeWord (a + 4 * before.length) v vpp s').2)) ∧
  ((∀ (a : Nat) (d : List Word) (vpp : Bool) (s : State),
      (a % 4 ≠ 0 ∨ d = [] ∨ 64 < d.length ∨ placeOf a = none ∨ placeOf a ≠ placeOf (a + 4 * d.length - 1)) →
      writeTransaction a d vpp s = ((stDecodeErr, 0), s)) ∧
    (∀ (p : Port) (a n : Nat) (bad : List Nat) (s : State),
      (a % 4 ≠ 0 ∨ n = 0 ∨ 64 < n ∨ placeOf a = none ∨ placeOf a ≠ placeOf (a + 4 * n - 1)) →
      readTransaction p a n bad s = (stDecodeErr, List.replicate n 0, s)))

/-- R110, R118, R123, R124: an accepted read within its bound answers with its words, STATUS and check; one that misses it
answers BUSY with zeros, its fetch goes on, and a repeat after the fetch's end returns what it read. R120, R126, and the
STAT registers: an SCL timeout with TMO_EN set, and a frame that ends before its check, are counted and asserted at the
fault collector, and have no other effect. Model's choice: The kept fetch is log entry 25. -/
def Obligations.PortReadsAnswer : Prop :=
  ((∀ (sa addr cnt i clocks : Nat) (bad : List Nat) (s : State), Live s → s.tw0Answers sa = some i → s.port0.fetch = none →
      let r := readTransaction .tw0 (addr % 2 ^ 24) (cnt % 256 + 1) bad (s.tw0Heard i)
      r.2.2.rst.asserted = false →
      exec (.tw0Read sa addr cnt false bad clocks) s =
        .next (finish (tw0Clock clocks (r.2.2.answer .tw0 r.1 r.2.1 (tw0Pec sa addr cnt r.1 r.2.1) none)))) ∧
    (∀ (addr cnt crc : Nat) (mode3 : Bool) (bad : List Nat) (s : State), s.portRuns .spt = true → s.port1.fetch = none →
      cnt < 64 → crc16 (sptHeader 2 addr cnt) = crc →
      let r := readTransaction .spt (addr % 2 ^ 24) (cnt + 1) bad (s.fs Fld.SPT_STAT_MODE3 (if mode3 then 1 else 0))
      r.2.2.rst.asserted = false →
      exec (.sptRead addr cnt crc mode3 false bad) s =
        .next (finish (r.2.2.answer .spt r.1 r.2.1 (sptCrc r.1 r.2.1) none))) ∧
    (∀ (p : Port) (a n : Nat) (bad : List Nat) (s : State), Live s → (s.port p).fetch = some (a, n, none) →
      let r := fetchTransaction p a n bad s
      r.2.2.rst.asserted = false →
      exec (.readFetchComplete p bad) s =
        .next (finish (r.2.2.setPort p { r.2.2.port p with fetch := some (a, n, some (r.1, r.2.1)) }))) ∧
    (∀ (sa addr cnt i clocks : Nat) (bad : List Nat) (s : State), Live s → s.tw0Answers sa = some i → s.port0.fetch = none →
      exec (.tw0Read sa addr cnt true bad clocks) s =
        let z := List.replicate (cnt % 256 + 1) (0 : Word)
        .next (finish (tw0Clock clocks ((s.tw0Heard i).answer .tw0 stBusy z (tw0Pec sa addr cnt stBusy z)
          (some (addr % 2 ^ 24, cnt % 256 + 1, none)))))) ∧
    (∀ (sa addr cnt i st clocks : Nat) (bad : List Nat) (d : List Word) (s : State), Live s →
      s.tw0Answers sa = some i → s.port0.fetch = some (addr % 2 ^ 24, cnt % 256 + 1, some (st, d)) →
      let u := fetchedEffects (addr % 2 ^ 24) d (s.tw0Heard i)
      let z := d ++ List.replicate (cnt % 256 + 1 - d.length) 0
      u.rst.asserted = false →
      exec (.tw0Read sa addr cnt false bad clocks) s =
        .next (finish (tw0Clock clocks (u.answer .tw0 st z (tw0Pec sa addr cnt st z) none)))) ∧
    (∀ (n : Nat) (s : State), (tw0Clock n s).port0.sent.length = n ∧
      ∀ k < n, (tw0Clock n s).port0.sent[k]? = some (s.port0.sent.getD k 0xFF))) ∧
  ((∀ s : State, Live s → s.fb Fld.TWI_TW0_CFG_TMO_EN = true →
      exec .tw0Timeout s = .next (finish ((s.fs Fld.TWI_TW0_STAT_TMOCNT
        (min (s.fg Fld.TWI_TW0_STAT_TMOCNT + 1) (2 ^ Fld.TWI_TW0_STAT_TMOCNT.width - 1))).driveLine 27))) ∧
    (∀ s : State, s.portRuns .spt = true →
      exec .sptFrameAbandon s = .next (finish ((s.fs Fld.SPT_STAT_ABORT
        (min (s.fg Fld.SPT_STAT_ABORT + 1) (2 ^ Fld.SPT_STAT_ABORT.width - 1))).driveLine 28))))

/-! ### Single words (R9, R111, R162, R554) -/

/-- Words that are plain whatever is written to them: those of RGL (R98), and
three others of blocks that have words of their own behaviour. -/
abbrev PlainWord (a : Nat) : Prop :=
  a / 65536 = 0x15 ∨ a = Reg.SYS_MWIN ∨ a = Reg.FLT_PIN ∨ a = Reg.CLK_STAT

/-- R9: bit by bit, what a write leaves in a word. Masks stand for the access codes of the register tables. -/
def Obligations.AccessCodesByBit : Prop :=
  ∀ (r : RegRow) (old v : Word) (i : Nat), i < 32 →
    (applyMasks r old v).getLsbD i =
      (if bitOf r.w1s i = true ∧ v.getLsbD i = true then true
       else if bitOf r.w1c i = true ∧ v.getLsbD i = true then false
       else if bitOf r.rw i = true then v.getLsbD i else old.getLsbD i)

/-- A read of the word at `a` shows it as it stands and has no effect but those of R9 and R162: it is no word of the OTP
window, no KFLAG or FLAG word with a command of its own (R380, R498), neither RTC_SEC_LO (R462) nor WDG_H_STAT (R474), and
no captured upper word waits there. -/
abbrev PlainRead (a : Nat) : Prop :=
  a % 4 = 0 ∧ blockSlot a = true ∧ ¬ (0x081000 ≤ a ∧ a < 0x082000) ∧ a ≠ Reg.RTC_SEC_LO ∧ a ≠ Reg.WDG_H_STAT ∧
  (∀ n < 8, itemOf a (Reg.EFU_S_KFLAG 0) 16 8 ≠ some (n, 0)) ∧ (∀ n < 16, itemOf a (Reg.THM_TS_FLAG 0) 32 16 ≠ some (n, 0))

/-- R9, R49, R61, R554: a write of a word with no behaviour of its own that is neither refused as HELD nor out of range
gives its RW bits their values, clears the W1C bits written as 1, and answers OK. R9, R10, R58, R111, R162: a read of an
RC word returns it and clears the bits it returned; a read of a lower word captures its upper word; and the next read of
that returns what was captured. -/
def Obligations.WordsReadAndWrite : Prop :=
  (∀ (p : Port) (a : Nat) (v : Word) (r : RegRow) (vpp : Bool) (s : State), PlainWord a → a % 4 = 0 → Reach p a s →
      rowOf a = some r → r.staged = 0 →
      (((s.rd a ^^^ v) &&& BitVec.ofNat 32 r.held) = 0 ∨ s.heldNow a = false) → valueOk r a v s = true →
      exec (.registerWrite p a v vpp) s = .next (finish (respond p stOk 0 (s.wr a (applyMasks r (s.rd a) v))))) ∧
  ((∀ (p : Port) (a : Nat) (r : RegRow) (s : State), Reach p a s → PlainRead a → rowOf a = some r → r.rc ≠ 0 →
      upperOf a s = none → kvGet (fun _ => none) s.caps a = none →
      exec (.rcRegisterRead p a) s =
        .next (finish (respondRead p [viewWord a s] stOk (s.wr a (s.rd a &&& ~~~(viewWord a s &&& BitVec.ofNat 32 r.rc)))))) ∧
    (∀ (p : Port) (a h : Nat) (r : RegRow) (s : State), Reach p a s → PlainRead a → rowOf a = some r → r.rc = 0 →
      upperOf a s = some h → kvGet (fun _ => none) s.caps a = none →
      exec (.loWordRead p a) s = .next (finish (respondRead p [viewWord a s] stOk (s.setCap h (some (s.rd h)))))) ∧
    (∀ (p : Port) (a : Nat) (w : Word) (r : RegRow) (s : State), Reach p a s → PlainRead a → rowOf a = some r → r.rc = 0 →
      upperOf a (s.setCap a none) = none → kvGet (fun _ => none) s.caps a = some w →
      exec (.loWordRead p a) s = .next (finish (respondRead p [w] stOk (s.setCap a none)))))

/-! ### Queues and mailboxes (R131 to R138, R188, R440) -/

/-- R132, R133, R137: enabling a ring that fits clears HEAD and TAIL; its geometry then stands in SYS_Qq_CFG. R134, R203:
an accepted OQ doorbell moves TAIL, and the entries it covers are SUBMITTED, oldest last; it is a wake condition of WATCH
and of DORMANT (R27, R30). A doorbell of a device-produced queue moves HEAD. R134: the refusals of an OQ doorbell. One
that would overfill also sets OVF, and no other does. -/
def Obligations.QueuesMove : Prop :=
  (∀ (p : Port) (q : Fin 64) (v : Word) (s : State), Reach p (Reg.SYS_Q_CFG q) s → s.qEnabled q = false →
      bitOf v.toNat 0 = true → 2 ≤ fldOf v 20 4 → fldOf v 20 4 ≤ 8 →
      s.ringFits q (ringSpan q (fldOf v 6 13) (fldOf v 20 4)) = true →
      exec (.queueCfgWrite p q v) s =
        .next (finish (respond p stOk 0 ((s.wr (Reg.SYS_Q_CFG q) (v &&& 0x00F7FFC1)).wr (Reg.SYS_Q_PTR q) 0)))) ∧
  ((∀ (p : Port) (q : Fin 32) (index : Nat) (s : State), Reach p (Reg.SYS_Q_DB q) s → s.fb Fld.ORD_STAT_DISCARDING = false →
      s.ord.started = true → s.loading = false → s.qEnabled q = true → index < 512 → index < 2 * s.qDepth q →
      s.qCount q + (index + 2 * s.qDepth q - s.fg (Fld.SYS_Q_PTR_TAIL q)) % (2 * s.qDepth q) ≤ s.qDepth q →
      exec (.oqDoorbell p q index) s =
        let n := (index + 2 * s.qDepth q - s.fg (Fld.SYS_Q_PTR_TAIL q)) % (2 * s.qDepth q)
        let t := s.fs (Fld.SYS_Q_PTR_TAIL q) index
        .next (finish (respond p stOk 0
          ((t.setOrd { t.ord with submitted := t.ord.submitted ++ List.replicate n (q : Nat) }).wakeWatch.wakeDormant)))) ∧
    (∀ (p : Port) (q : Fin 32) (index : Nat) (s : State), Reach p (Reg.SYS_Q_DB (q + 32)) s → s.qEnabled (q + 32) = true →
      index < 512 → index < 2 * s.qDepth (q + 32) →
      (index + 2 * s.qDepth (q + 32) - s.fg (Fld.SYS_Q_PTR_HEAD (q + 32))) % (2 * s.qDepth (q + 32)) ≤ s.qCount (q + 32) →
      exec (.headDoorbell p q index) s =
        .next (finish (respond p stOk 0 (s.fs (Fld.SYS_Q_PTR_HEAD (q + 32)) index))))) ∧
  (∀ (p : Port) (q : Fin 32) (index : Nat) (s : State), Reach p (Reg.SYS_Q_DB q) s → index < 512 →
      ((s.fb Fld.ORD_STAT_DISCARDING = true ∨ s.ord.started = false) →
        exec (.oqDoorbell p q index) s = .next (finish (respond p stBusy 0 s))) ∧
      (s.fb Fld.ORD_STAT_DISCARDING = false → s.ord.started = true → s.loading = true →
        exec (.oqDoorbell p q index) s = .next (finish (respond p stHeld 0 s))) ∧
      (s.fb Fld.ORD_STAT_DISCARDING = false → s.ord.started = true → s.loading = false →
        (s.qEnabled q = false ∨ 2 * s.qDepth q ≤ index) →
        exec (.oqDoorbell p q index) s = .next (finish (respond p stDecodeErr 0 s))) ∧
      (s.fb Fld.ORD_STAT_DISCARDING = false → s.ord.started = true → s.loading = false → s.qEnabled q = true →
        index < 2 * s.qDepth q →
        s.qDepth q < s.qCount q + (index + 2 * s.qDepth q - s.fg (Fld.SYS_Q_PTR_TAIL q)) % (2 * s.qDepth q) →
        exec (.oqDoorbell p q index) s = .next (finish (respond p stDecodeErr 0 (s.fs (Fld.SYS_Q_STAT_OVF q) 1)))))

/-- R138: of an idle mailbox that holds no exported key, NOP completes at once with RESULT OK and a code that no chapter
defines with UNKNOWN; a service that is late ends with TIMEOUT. Each sets the mailbox's event pending. R188, R440: an
export programs its fuse, then returns the key once in DATA0 to DATA7; the mailbox holds it until the next write to the
mailbox. Model's choice: What each code waits for is log entry 25. -/
def Obligations.MailboxServes : Prop :=
  (
    let event := fun m : Fin 4 => ([32, 33, 48, 49] : List Nat).getD m 0
    (∀ (p : Port) (m : Fin 4) (s : State), Reach p (Reg.KPR_MB_CTL m) s → s.fb (Fld.KPR_MB_STAT_BUSY m) = false →
      s.keyed.contains (m : Nat) = false →
      exec (.mailboxNop p m) s = .next (finish (respond p stOk 0
        (((((s.wr (Reg.KPR_MB_CTL m) 0).fs (Fld.KPR_MB_STAT_BUSY m) 1).fs (Fld.KPR_MB_STAT_RESULT m) 0).fs
          (Fld.KPR_MB_STAT_BUSY m) 0).raise (event m))))) ∧
    (∀ (p : Port) (m : Fin 4) (code : BitVec 16) (s : State), Reach p (Reg.KPR_MB_CTL m) s →
      s.fb (Fld.KPR_MB_STAT_BUSY m) = false → s.keyed.contains (m : Nat) = false → code ≠ 0 → code ≠ 0x0110 → code ≠ 0x0120 →
      exec (.mailboxUnknownCode p m code) s = .next (finish (respond p stOk 0
        (((((s.wr (Reg.KPR_MB_CTL m) (BitVec.ofNat 32 code.toNat)).fs (Fld.KPR_MB_STAT_BUSY m) 1).fs
          (Fld.KPR_MB_STAT_RESULT m) 1).fs (Fld.KPR_MB_STAT_BUSY m) 0).raise (event m))))) ∧
    (∀ (m : Fin 4) (s : State), Live s → s.fb (Fld.KPR_MB_STAT_BUSY m) = true →
      exec (.mailboxTimeout m) s = .next (finish
        (((s.fs (Fld.KPR_MB_STAT_RESULT m) 3).fs (Fld.KPR_MB_STAT_BUSY m) 0).raise (event m))))) ∧
  (
    let load := fun (m : Nat) (key : List Byte) (s : State) => (List.range 8).foldl (fun s i =>
      s.wr (Reg.KPR_MB_DATA m i) (BitVec.ofNat 32 (leNat ((key.drop (4 * i)).take 4)))) s
    let result := fun (m : Fin 4) (fuse : Nat) (key : List Byte) (s : State) =>
      let t := s.setOtpWord 0x180 (BitVec.ofNat 32 (setBit (s.otpWord 0x180).toNat fuse true))
      let t := load m key (t.fs Fld.LDG_KEYX_DONE (setBit (s.otpWord 0x180).toNat fuse true))
      let t := t.setKeyed (t.keyed.filter (fun x => x != (m : Nat)) ++ [(m : Nat)])
      ((t.fs (Fld.KPR_MB_STAT_RESULT m) 0).fs (Fld.KPR_MB_STAT_BUSY m) 0).raise (([32, 33, 48, 49] : List Nat).getD m 0)
    (∀ (m : Fin 4) (s : State), Live s → s.serving m 0x0110 = true → bitOf (s.otpWord 2).toNat 9 = true →
      bitOf (s.otpWord 0x180).toNat (fldOf (s.rd (Reg.KPR_MB_DATA m 0)) 0 4) = false →
      exec (.ldgKeyExport m true) s = .next (finish (result m (fldOf (s.rd (Reg.KPR_MB_DATA m 0)) 0 4)
        (s.kLc (fldOf (s.rd (Reg.KPR_MB_DATA m 0)) 0 4)) s))) ∧
    (∀ (m : Fin 4) (s : State), Live s → s.serving m 0x0120 = true → bitOf (s.otpWord 2).toNat 9 = true →
      bitOf (s.otpWord 0x180).toNat 16 = false →
      exec (.prpKeyExport m true) s = .next (finish (result m 16 s.kPrp s))))

/-! ### Tiles and commits (chapter 02) -/

/-- The COMMIT commands of the groups other than tiles: the port, the group and the control register. -/
def commitTarget : Instr → Option (Port × Group × Nat)
  | .assignCommit p => some (p, .ldgAssign, Reg.LDG_CTL)
  | .scoutLevelCommit p => some (p, .sct, Reg.SCT_CTL)
  | .cnvRackCommit p => some (p, .cnvRack, Reg.CNV_CTL)
  | .dutyLimitCommit p g => some (p, .cnvGroup g, Reg.CNV_CG_CTL g)
  | .chargeLimitCommit p n => some (p, .chg n, Reg.CHG_S_CTL n)
  | .faultClassCommit p => some (p, .flt, Reg.FLT_CTL)
  | .rtcTimeCommit p => some (p, .rtc, Reg.RTC_CTL)
  | .zonePointCommit p h => some (p, .zone h, Reg.THM_Z_CTL h)
  | _ => none

/-- The ABORT commands, in the same way; a tile's among them. -/
def abortTarget : Instr → Option (Port × Group × Nat)
  | .assignAbort p => some (p, .ldgAssign, Reg.LDG_CTL)
  | .scoutLevelAbort p => some (p, .sct, Reg.SCT_CTL)
  | .cnvRackAbort p => some (p, .cnvRack, Reg.CNV_CTL)
  | .dutyLimitAbort p g => some (p, .cnvGroup g, Reg.CNV_CG_CTL g)
  | .chargeLimitAbort p n => some (p, .chg n, Reg.CHG_S_CTL n)
  | .faultClassAbort p => some (p, .flt, Reg.FLT_CTL)
  | .rtcTimeAbort p => some (p, .rtc, Reg.RTC_CTL)
  | .zonePointAbort p h => some (p, .zone h, Reg.THM_Z_CTL h)
  | .tileAbort p t => some (p, .tile t, Reg.CMB_T_CTL t)
  | _ => none

/-- R63: what a COMMIT of a group asks of its staged values. -/
abbrev Committable (s : State) (g : Group) : Prop := s.groupBusy g = false ∧ s.stagedOf g ≠ [] ∧ commitCheck s g = 0

/-- The answer OK of a COMMIT that waits for its update boundary, and of an ABORT. -/
def committed (p : Port) (g : Group) (s : State) : State := respond p stOk 0 (s.setCommits (s.commits ++ [g]))

def aborted (p : Port) (g : Group) (s : State) : State :=
  respond p stOk 0 (s.setStaging (s.staging.filter (fun e => !(e.group == g))))

/-- R63: a COMMIT whose staged values pass the group's consistency rules is accepted and waits for its update boundary;
with nothing staged it changes nothing. A tile that does not run, and a string that no group charges, take their values at
once. R63, R64, R66, R68: a COMMIT while one of the group waits answers BUSY; one that fails the rules answers COMMIT_ERR
and reports its code. Neither changes a staged value. R64: an ABORT empties its group's staging, and answers BUSY while a
commit of the group waits. -/
def Obligations.CommitsAreJudged : Prop :=
  ((∀ (c : Instr) (p : Port) (g : Group) (a : Nat) (s : State), commitTarget c = some (p, g, a) → Reach p a s →
      s.groupBusy g = false → s.stagedOf g ≠ [] → commitCheck s g = 0 → (∀ n, g = .chg n → s.charging n = true) →
      exec c s = .next (finish (respond p stOk 0 (s.setCommits (s.commits ++ [g]))))) ∧
    (∀ (p : Port) (n : Fin 8) (s : State), Reach p (Reg.CHG_S_CTL n) s → s.groupBusy (.chg n) = false →
      s.stagedOf (.chg n) ≠ [] → commitCheck s (.chg n) = 0 → s.charging n = false →
      exec (.chargeLimitCommit p n) s = .next (finish (respond p stOk 0 (s.applyStaged (.chg n))))) ∧
    (∀ (c : Instr) (p : Port) (g : Group) (a : Nat) (s : State), commitTarget c = some (p, g, a) → Reach p a s →
      s.groupBusy g = false → s.stagedOf g = [] → exec c s = .next (finish (respond p stOk 0 s))) ∧
    (∀ (p : Port) (t : Fin 64) (s : State), Reach p (Reg.CMB_T_CTL t) s → s.tileUsed t = true →
      s.groupBusy (.tile t) = false → s.stagedOf (.tile t) ≠ [] → commitCheck s (.tile t) = 0 →
      exec (.tileCommit p t) s = .next (finish (respond p stOk 0
        (if s.tileRuns t = true then s.setCommits (s.commits ++ [.tile t]) else s.applyStaged (.tile t))))) ∧
    (∀ (p : Port) (s : State),
      (Reach p Reg.LDG_CTL s → Committable s .ldgAssign →
        exec (.assignCommit p) s = .next (finish (committed p .ldgAssign s))) ∧
      (Reach p Reg.SCT_CTL s → Committable s .sct →
        exec (.scoutLevelCommit p) s = .next (finish (committed p .sct s))) ∧
      (Reach p Reg.CNV_CTL s → Committable s .cnvRack →
        exec (.cnvRackCommit p) s = .next (finish (committed p .cnvRack s))) ∧
      (∀ (g : Fin 12), Reach p (Reg.CNV_CG_CTL g) s → Committable s (.cnvGroup g) →
        exec (.dutyLimitCommit p g) s = .next (finish (committed p (.cnvGroup g) s))) ∧
      (∀ (n : Fin 8), Reach p (Reg.CHG_S_CTL n) s → Committable s (.chg n) → s.charging n = true →
        exec (.chargeLimitCommit p n) s = .next (finish (committed p (.chg n) s))) ∧
      (Reach p Reg.FLT_CTL s → Committable s .flt →
        exec (.faultClassCommit p) s = .next (finish (committed p .flt s))) ∧
      (Reach p Reg.RTC_CTL s → Committable s .rtc →
        exec (.rtcTimeCommit p) s = .next (finish (committed p .rtc s))) ∧
      (∀ (h : Fin 4), Reach p (Reg.THM_Z_CTL h) s → Committable s (.zone h) →
        exec (.zonePointCommit p h) s = .next (finish (committed p (.zone h) s))))) ∧
  (∀ (c : Instr) (p : Port) (g : Group) (a : Nat) (s : State), commitTarget c = some (p, g, a) → Reach p a s →
      (s.groupBusy g = true → exec c s = .next (finish (respond p stBusy 0 s))) ∧
      (s.groupBusy g = false → s.stagedOf g ≠ [] → commitCheck s g ≠ 0 →
        exec c s = .next (finish (respond p stCommitErr 0 (commitError g (commitCheck s g) s))))) ∧
  ((∀ (c : Instr) (p : Port) (g : Group) (a : Nat) (s : State), abortTarget c = some (p, g, a) → Reach p a s →
      (∀ t, g = .tile t → s.tileUsed t = true) →
      (s.groupBusy g = false →
        exec c s = .next (finish (respond p stOk 0 (s.setStaging (s.staging.filter (fun e => !(e.group == g))))))) ∧
      (s.groupBusy g = true → exec c s = .next (finish (respond p stBusy 0 s)))) ∧
    (∀ (p : Port) (s : State),
      (Reach p Reg.LDG_CTL s → s.groupBusy .ldgAssign = false →
        exec (.assignAbort p) s = .next (finish (aborted p .ldgAssign s))) ∧
      (Reach p Reg.SCT_CTL s → s.groupBusy .sct = false →
        exec (.scoutLevelAbort p) s = .next (finish (aborted p .sct s))) ∧
      (Reach p Reg.CNV_CTL s → s.groupBusy .cnvRack = false →
        exec (.cnvRackAbort p) s = .next (finish (aborted p .cnvRack s))) ∧
      (∀ (g : Fin 12), Reach p (Reg.CNV_CG_CTL g) s → s.groupBusy (.cnvGroup g) = false →
        exec (.dutyLimitAbort p g) s = .next (finish (aborted p (.cnvGroup g) s))) ∧
      (∀ (n : Fin 8), Reach p (Reg.CHG_S_CTL n) s → s.groupBusy (.chg n) = false →
        exec (.chargeLimitAbort p n) s = .next (finish (aborted p (.chg n) s))) ∧
      (Reach p Reg.FLT_CTL s → s.groupBusy .flt = false →
        exec (.faultClassAbort p) s = .next (finish (aborted p .flt s))) ∧
      (Reach p Reg.RTC_CTL s → s.groupBusy .rtc = false →
        exec (.rtcTimeAbort p) s = .next (finish (aborted p .rtc s))) ∧
      (∀ (h : Fin 4), Reach p (Reg.THM_Z_CTL h) s → s.groupBusy (.zone h) = false →
        exec (.zonePointAbort p h) s = .next (finish (aborted p (.zone h) s))) ∧
      (∀ (t : Fin 64), Reach p (Reg.CMB_T_CTL t) s → s.tileUsed t = true → s.groupBusy (.tile t) = false →
        exec (.tileAbort p t) s = .next (finish (aborted p (.tile t) s)))))

/-- R63: what applying a group does: every staged word takes its staged bits and keeps the others, every other register stays,
nothing of the group stays staged, and other groups' staging is untouched. -/
def Obligations.AppliedTogether : Prop :=
  ∀ (g : Group) (s : State), (s.stagedOf g).Pairwise (fun x y => x.addr ≠ y.addr) →
    (∀ e ∈ s.stagedOf g, (s.applyStaged g).rd e.addr =
      ((s.rd e.addr &&& BitVec.ofNat 32 (0xFFFFFFFF - e.mask)) ||| e.value)) ∧
    (∀ a, (∀ e ∈ s.stagedOf g, e.addr ≠ a) → (s.applyStaged g).rd a = s.rd a) ∧
    (s.applyStaged g).stagedOf g = [] ∧
    (∀ h, h ≠ g → (s.applyStaged g).stagedOf h = s.stagedOf h)

/-- R63: at its update boundary a group with an accepted commit takes its staged values, and its staging empties. R64,
R67, R68: a joint GO whose members all pass makes the joint commit pending; at its tick the members of the fixed tick take
their values (here: no contract assignment and no time setting among them); an ABORT empties every named member's staging.
-/
def Obligations.CommitsApply : Prop :=
  (∀ (g : Group) (s : State), Live s → g ≠ .ldgAssign → g ≠ .rtc → s.cpend g = true →
      exec (.stagedApply g) s =
        .next (finish ((s.applyStaged g).setCommits (s.commits.filter (fun x => !(x == g)))))) ∧
  ((∀ (p : Port) (s : State), Reach p Reg.CMB_JC_CTL s → s.joint = none → (∀ x ∈ s.jointMembers, s.cpend x.2 = false) →
      (∀ x ∈ s.jointMembers, commitCheck s x.2 = 0) →
      exec (.jointCommitGo p) s = .next (finish (respond p stOk 0
        ((s.setJoint (some (s.jointMembers.map Prod.snd))).fs Fld.CMB_JC_STAT_PEND 1)))) ∧
    (∀ (m : List Group) (sub : Nat) (s : State), Live s → s.joint = some m → .ldgAssign ∉ m → .rtc ∉ m →
      exec (.jointCommitApply sub) s = .next (finish
        (((m.foldl State.applyStaged s).setJoint none).fs Fld.CMB_JC_STAT_PEND 0))) ∧
    (∀ (p : Port) (s : State), Reach p Reg.CMB_JC_CTL s → s.joint = none → (∀ x ∈ s.jointMembers, s.cpend x.2 = false) →
      exec (.jointCommitAbort p) s = .next (finish (respond p stOk 0
        (s.jointMembers.foldl (fun s x => s.unstage x.2) s)))))

/-- R42, R54, R58: the controls of a tile: CLR_STATE of a tile that does not run zeroes its state and returns an FSM to
INIT, CLR releases a window at its next update, ACC_CLR zeroes the accumulator. R44, R46, R52: one update of a LIM tile,
from its parameters in force and the values of its three sources. R44, R58: one update of a MAC tile in sum mode: the
exact sum, rounded to Q2.30 with ties away from zero and saturated (R47). Model's choice: Exact sums before rounding are
log entry 9. -/
def Obligations.TilesUpdate : Prop :=
  ((∀ (p : Port) (t : Fin 64) (s : State), Reach p (Reg.CMB_T_CTL t) s → s.tileUsed t = true → s.tileRuns t = false →
      let h := s.setHid t ⟨0, 0, 0, 0, false⟩
      let b := tileBase t
      exec (.tileClrState p t) s =
        .next (finish (respond p stOk 0
          (if s.tileKind t = 1 then h.wr (b + 0x70) 0
           else if s.tileKind t = 2 then h.wr (b + 0x54) 0
           else if s.tileKind t = 3 then h.wr (b + 0x5C) 0
           else if s.tileKind t = 4 then (h.wr (b + 0x40) (s.rd (b + 0x4C))).wr (b + 0x44) 0
           else if s.tileKind t = 5 then (h.wr (b + 0x54) 0).wr (b + 0x58) 0
           else h)))) ∧
    (∀ (p : Port) (t : Fin 64) (s : State), Reach p (tileBase t + 0x58) s → s.tileKind t = 3 →
      exec (.winClr p t) s = .next (finish (respond p stOk 0 (s.setHid t { s.hid t with clr := true })))) ∧
    (∀ (p : Port) (t : Fin 64) (s : State), Reach p (tileBase t + 0x5C) s → s.tileKind t = 5 →
      exec (.macAccClr p t) s = .next (finish (respond p stOk 0 ((s.wr (tileBase t + 0x54) 0).wr (tileBase t + 0x58) 0))))) ∧
  (∀ (t : Fin 64) (sense : List Int) (balls : List Nat) (s : State), Live s → s.tileRuns t = true → s.cpend (.tile t) = false →
      (∀ n, s.cpend (.chg n) = false) → s.tileKind t = 2 →
      let par := fun off : Nat => (s.rd (tileBase t + off)).toInt
      let in0 := srcValue s sense balls (fldOf (s.rd (Reg.CMB_T_IN t)) 0 16)
      let in1 := srcValue s sense balls (fldOf (s.rd (Reg.CMB_T_IN t)) 16 16)
      let in2 := srcValue s sense balls (fldOf (s.rd (Reg.CMB_T_IN2 t)) 0 16)
      let dyn := (s.rd (tileBase t + 0x50)).toNat
      let hi := if 1 ≤ dyn then min (par 0x40) in1 else par 0x40
      let lo := if dyn = 2 then max (par 0x44) in2 else par 0x44
      let target := if hi < lo then lo else max lo (min in0 hi)
      let q := if par 0x54 ≤ target then min target (par 0x54 + par 0x48) else max target (par 0x54 - par 0x4C)
      let u := ((s.wr (Reg.CMB_T_OUT0 t) (BitVec.ofInt 32 q)).wr (Reg.CMB_T_OUT1 t)
        (BitVec.ofInt 32 (if q = in0 then 0 else 1073741824))).wr (tileBase t + 0x54) (BitVec.ofInt 32 q)
      exec (.tileUpdate t sense balls) s =
        .next (finish (u.fs (Fld.CMB_T_STAT_UPDCNT t) (u.fg (Fld.CMB_T_STAT_UPDCNT t) + 1)))) ∧
  (∀ (t : Fin 64) (sense : List Int) (balls : List Nat) (s : State), Live s → s.tileRuns t = true → s.cpend (.tile t) = false →
      (∀ n, s.cpend (.chg n) = false) → s.tileKind t = 5 → s.rd (tileBase t + 0x40) = 1 →
      let par := fun off : Nat => (s.rd (tileBase t + off)).toInt
      let in0 := srcValue s sense balls (fldOf (s.rd (Reg.CMB_T_IN t)) 0 16)
      let in1 := srcValue s sense balls (fldOf (s.rd (Reg.CMB_T_IN t)) 16 16)
      let x := divRound (par 0x44 * in0 + par 0x48 * in1 + par 0x4C * 2 ^ 28) (2 ^ 28)
      let y := max (-2147483648) (min x 2147483647)
      let u := (s.wr (Reg.CMB_T_OUT0 t) (BitVec.ofInt 32 y)).wr (Reg.CMB_T_OUT1 t) 0
      let u := if y = x then u else u.fs (Fld.CMB_T_STAT_SAT t) 1
      exec (.tileUpdate t sense balls) s =
        .next (finish (u.fs (Fld.CMB_T_STAT_UPDCNT t) (u.fg (Fld.CMB_T_STAT_UPDCNT t) + 1))))

/-- R54: the steps of a window: out of MID only at its bound after the debounce, back to MID only past the hysteresis or,
when latched, by CLR alone; never directly between HIGH (1) and LOW (2). R51, R53, R55: the consistency rules of a tile's
commit, over the values it would put in force. -/
def Obligations.WindowsAndTileRules : Prop :=
  (∀ (hi lo hys x : Int) (dset dclr st cnt dir : Nat) (latch clr : Bool), st ≤ 2 →
      let n := (winNext hi lo hys dset dclr st cnt dir latch clr x).1
      n ≤ 2 ∧ ¬ (st = 1 ∧ n = 2) ∧ ¬ (st = 2 ∧ n = 1) ∧
      (st = 0 → n = 1 → x > hi) ∧ (st = 0 → n = 2 → x < lo) ∧
      (latch = false → st = 1 → n = 0 → x < hi - hys) ∧ (latch = false → st = 2 → n = 0 → x > lo + hys) ∧
      (latch = true → st ≠ 0 → (n = 0 ↔ clr = true))) ∧
  (∀ (t : Nat) (s : State),
      let w := fun off : Nat => (s.wouldBe (.tile t) (tileBase t + off)).toInt
      (s.tileKind t = 2 → (commitCheck s (.tile t) = 0 ↔ w 0x44 ≤ w 0x40)) ∧
      (s.tileKind t = 3 → (commitCheck s (.tile t) = 0 ↔ w 0x44 + w 0x48 ≤ w 0x40 - w 0x48)) ∧
      (s.tileKind t = 1 → (s.rd (tileBase t + 0x40)).toNat = 0 →
        (commitCheck s (.tile t) = 0 ↔ w 0x64 < w 0x60 ∧ |w 0x54| < 2 ^ 28 ∧ |w 0x50| < 2 ^ 28 + w 0x54)))

/-! ### Power states and images (chapters 01 and 02) -/

/-- R24, R29, R30, R91: SYS_PWR_REQ. Every request is refused with HELD while an image operation runs, and DORMANT while
its conditions fail; AUTO and HOLD_READY are wake conditions of DORMANT, HOLD_READY and DORMANT of WATCH. R34, R35, R147:
a profile is written at once, and its output rate waits for the closing boundary. -/
def Obligations.PowerRequests : Prop :=
  (∀ (p : Port) (s : State), Reach p Reg.SYS_PWR_REQ s →
      (s.loading = false →
        exec (.pwrReqAuto p) s = .next (finish (respond p stOk 0 (s.wakeDormant.fs Fld.SYS_PWR_REQ_REQ 0))) ∧
        exec (.pwrReqHoldReady p) s =
          .next (finish (respond p stOk 0 (s.wakeDormant.wakeWatch.fs Fld.SYS_PWR_REQ_REQ 1)))) ∧
      (s.loading = false → s.powerState ≠ 0 →
        (s.ord.submitted = [] ∧ (∀ o ∈ s.ord.orders, o.state < 2 ∨ 4 < o.state) ∧ s.anyGroupRunning = false ∧ s.level = 0 →
          exec (.pwrReqDormant p) s = .next (finish (respond p stOk 0 (s.wakeWatch.fs Fld.SYS_PWR_REQ_REQ 2)))) ∧
        (s.ord.submitted ≠ [] ∨ (∃ o ∈ s.ord.orders, 2 ≤ o.state ∧ o.state ≤ 4) ∨ s.anyGroupRunning = true ∨ s.level ≠ 0 →
          exec (.pwrReqDormant p) s = .next (finish (respond p stHeld 0 s)))) ∧
      (s.loading = true → ∀ c ∈ [Instr.pwrReqAuto p, .pwrReqHoldReady p, .pwrReqDormant p],
        exec c s = .next (finish (respond p stHeld 0 s))) ∧
      (s.powerState = 0 → s.wakeDormant = s.setPwr { s.pwr with wake := true }) ∧
      (s.powerState = 1 → s.wakeWatch = s.setPwr { s.pwr with wake := true })) ∧
  ((∀ (p : Port) (v : Fin 4) (s : State), Reach p Reg.SYS_PROFILE s →
      exec (.profileWrite p v) s = .next (finish (respond p stOk 0
        ((s.fs Fld.SYS_PROFILE_PROFILE v).setMtr { s.mtr with newRate := some (([3, 2, 4, 2] : List Nat).getD v 3) })))) ∧
    (∀ (r : Nat) (s : State), Live s → s.mtr.newRate = some r →
      exec .rateSwitch s = .next (finish ((s.fs Fld.MTR_STAT_RATE r).setMtr { s.mtr with newRate := none }))))

/-- R26, R27, R165, R166, R456: WATCH is entered in two steps, through the overlap of both counters; a wake leads to READY
with the clocks and the full-rate meter running, and then runs the fault actions that waited (R32). An order's wake timer
is a wake condition. R29, R30, R397, R456: DORMANT entry writes the learned values and opens every contactor; once they
are open the device enters, with its clocks and its meter stopped (where no power-down sequence is to run); a wake leads
to READY. Model's choice: The order of the DORMANT entry is log entry 20. -/
def Obligations.LowPowerEntersAndWakes : Prop :=
  ((∀ (slow : List Int) (sub : Nat) (s : State), Live s → (aclkTo sub s).watchReady = true →
      (aclkTo sub s).fb Fld.SYS_PWR_STAT_TRANS = false →
      exec (.watchEntry slow sub) s = .next (finish (dozeBegin (slowStart ((aclkTo sub s).fs Fld.SYS_PWR_STAT_TRANS 1))))) ∧
    (∀ (slow : List Int) (sub : Nat) (s : State), Live s → (aclkTo sub s).watchReady = true →
      (aclkTo sub s).fb Fld.SYS_PWR_STAT_TRANS = true → (aclkTo sub s).dozed = true →
      ∃ u, exec (.watchEntry slow sub) s = .next (finish u) ∧ u.powerState = 1 ∧ u.fg Fld.SYS_PWR_STAT_TRANS = 0 ∧
        u.fg Fld.MTR_STAT_FULL = 0 ∧ u.fg Fld.MTR_STAT_HAND = 0 ∧ u.fg Fld.CLK_STAT_HFXO_ON = 0 ∧
        u.fg Fld.CLK_STAT_PLL_LOCK = 0 ∧ u.fg Fld.CLK_STAT_SYSCLK = 0) ∧
    (∀ (dq : List Int) (current : Bool) (sub : Nat) (s : State), Live s → s.powerState = 1 →
      (s.pwr.wake = true ∨ s.irq.wake = true ∨ current = true) →
      ∃ u, exec (.watchWake dq current sub) s = .next (finish (runWaiting u)) ∧ u.powerState = 2 ∧ u.pwr.wake = false ∧
        u.irq.wake = false ∧ u.fg Fld.CLK_STAT_HFRC_ON = 1 ∧ u.fg Fld.CLK_STAT_PLL_LOCK = 1 ∧ u.fg Fld.CLK_STAT_SYSCLK = 1 ∧
        u.fg Fld.MTR_STAT_FULL = 1 ∧ u.fg Fld.MTR_STAT_SLOW = 0) ∧
    (∀ s : State, Live s → s.leadOrder = true → exec .wakeTimer s = .next (finish s.wakeWatch))) ∧
  ((∀ (sub : Nat) (s : State), Live s →
      let v := aclkTo sub s
      v.powerState = 2 → v.fg Fld.SYS_PWR_REQ_REQ = 2 → v.image.isSome = true → v.loading = false → v.dormantReady = true →
      (v.pwr.dorm = 0 → exec (.dormantEntry sub) s = .next (finish
        (let u := nvNow (dozeBegin (v.fs Fld.SYS_PWR_STAT_TRANS 1))
         u.setPwr { u.pwr with dorm := 1, downRan := false }))) ∧
      (v.pwr.dorm = 1 → v.fb Fld.EST_NV_WRITING = true → exec (.dormantEntry sub) s = .next (finish v)) ∧
      (v.pwr.dorm = 1 → v.fb Fld.EST_NV_WRITING = false → exec (.dormantEntry sub) s = .next (finish
        (let u := allContactorsOpen v
         u.setPwr { u.pwr with dorm := 2 }))) ∧
      (v.pwr.dorm = 2 → v.contactorBusy = true → exec (.dormantEntry sub) s = .next (finish v)) ∧
      (v.pwr.dorm = 2 → v.contactorBusy = false → v.fb Fld.EST_CFG_PERS = false → v.fb Fld.LDG_STAT_CLOSING = false →
        v.fb Fld.EST_NV_WRITING = false → v.dozed = true →
        ∃ u, exec (.dormantEntry sub) s = .next (finish u) ∧ u.powerState = 0 ∧ u.fg Fld.SYS_PWR_STAT_TRANS = 0 ∧
          u.fg Fld.CLK_STAT_HFRC_ON = 0 ∧ u.fg Fld.CLK_STAT_HFXO_ON = 0 ∧ u.fg Fld.CLK_STAT_SYSCLK = 0 ∧
          u.fg Fld.MTR_STAT_FULL = 0 ∧ u.fg Fld.MTR_STAT_SLOW = 0 ∧ u.pwr.wake = false)) ∧
    (∀ (sub : Nat) (s : State), Live s → s.powerState = 0 → s.pwr.wake = true →
      ∃ u, exec (.dormantWake sub) s = .next (finish (runWaiting u)) ∧ u.powerState = 2 ∧ u.pwr.wake = false ∧
        (s.fg Fld.SYS_PWR_REQ_REQ = 2 → u.fg Fld.SYS_PWR_REQ_REQ = 0) ∧ u.fg Fld.CLK_STAT_SYSCLK = 1 ∧
        u.fg Fld.MTR_STAT_FULL = 1))

/-- R91 to R94, R96: an image operation. GO is refused with HELD while an operation runs or a LOAD's conditions fail; else
BUSY sets, and a LOAD shows LOADING. The device then checks the source: one that fails is recorded and the image in force
stays; VERIFY reports, LOAD stops the comb and closes the ledger, and installs once its close is written and no write of
learned values runs; PROGRAM queues the words of the slot that is not the source. R65, R94, R173, R174: an image that
takes effect: every staging and every commit not applied is dropped, the ledger and the estimator stand still until they
start again, and the comb reports the image. R89, R97: the boot-time load takes the first slot of the policy's order that
passes (a slot not tried records 0xF); a scrub pass that finds a mismatch resets the device with cause IMAGE. Model's
choice: Operations on images that act at once are log entry 21. -/
def Obligations.ImagesTakeEffect : Prop :=
  (
    let cmd : Nat → Port → Fin 4 → Bool → Instr := fun op p src run => match op with
      | 0 => .imageVerify p src run
      | 1 => .imageLoad p src run
      | 2 => .imageProgramA p src run
      | _ => .imageProgramB p src run
    (∀ (p : Port) (src : Fin 4) (s : State), Reach p Reg.CMB_LOAD_CTL s →
      let prep := fun op : Nat => (s.fs Fld.CMB_LOAD_CTL_OP op).fs Fld.CMB_LOAD_CTL_SRC src
      let go := fun (op : Nat) (t : State) =>
        (t.fs Fld.CMB_LOAD_STAT_BUSY 1).setNvm { s.nvm with load := some (op, (src : Nat) - 1, none) }
      (s.opRuns = false → src ≠ 0 →
        exec (.imageVerify p src false) s = .next (finish (respond p stOk 0 (go 0 (prep 0)))) ∧
        (s.loadReady = true → exec (.imageLoad p src false) s =
          .next (finish (respond p stOk 0 (go 1 ((prep 1).fs Fld.CMB_STAT_STATE 2))))) ∧
        (s.loadReady = false → exec (.imageLoad p src false) s = .next (finish (respond p stHeld 0 s))) ∧
        (src ≠ 1 → (s.slotValid 0 = true → s.slotValid 1 = false) →
          exec (.imageProgramA p src false) s = .next (finish (respond p stOk 0 (go 2 (prep 2))))) ∧
        (src ≠ 2 → (s.slotValid 1 = true → s.slotValid 0 = false) →
          exec (.imageProgramB p src false) s = .next (finish (respond p stOk 0 (go 3 (prep 3)))))) ∧
      (s.opRuns = true → ∀ op < 4, exec (cmd op p src false) s = .next (finish (respond p stHeld 0 s)))) ∧
    (∀ (p : Port) (src : Fin 4) (op k : Nat) (s : State), Live s → op < 4 → s.nvm.load = some (op, k, none) →
      exec (cmd op p src true) s = .next (finish (match checkSource k s with
        | .inl f => loadEnd (some f) s
        | .inr b => if op = 0 then loadEnd none s else if op = 1 then loadStop k b s
            else programStart (op - 2) b (s.setNvm { s.nvm with load := none })))) ∧
    (∀ (p : Port) (src : Fin 4) (k : Nat) (b : List Byte) (s : State), Live s → s.nvm.load = some (1, k, some b) →
      s.fb Fld.LDG_STAT_CLOSING = false → s.fb Fld.EST_NV_WRITING = false →
      exec (.imageLoad p src true) s = .next (finish (loadEnd none (installImage b k s))))) ∧
  (∀ (b : List Byte) (src : Nat) (s : State),
      let t := installImage b src s
      t.image = some (parseImage b) ∧ t.staging = [] ∧ t.joint = none ∧ t.commits = [] ∧ t.fg Fld.CMB_STAT_STATE = 1 ∧
      t.fg Fld.CMB_STAT_SOURCE = (src + 1) % 2 ^ Fld.CMB_STAT_SOURCE.width ∧ t.fg Fld.EST_STAT_RUN = 0 ∧ t.fg Fld.LDG_STAT_RUN = 0 ∧
      t.rd Reg.CMB_IMG_SERIAL = BitVec.ofNat 32 (parseImage b).serial ∧ t.rd Reg.CMB_REF_CRC = Config.refCrc b ∧
      t.otp = s.otp) ∧
  ((∀ (k : Nat) (r : List Nat) (s : State), Live s → s.rst.firmware = true → s.image = none → s.bootSlots = k :: r →
      let v := ((s.fs Fld.CMB_BOOT_STAT_CHOSEN 0).fs Fld.CMB_BOOT_STAT_RES_B 15).fs Fld.CMB_BOOT_STAT_RES_A 15
      let res := if k = 0 then Fld.CMB_BOOT_STAT_RES_A else Fld.CMB_BOOT_STAT_RES_B
      exec .bootImageLoad s = .next (finish (match checkSource k v with
        | .inl f => bootTry r (v.fs res f.code)
        | .inr b =>
          let u := (installImage b k (v.fs res 0)).fs Fld.CMB_BOOT_STAT_CHOSEN (k + 1)
          u.setPwr { u.pwr with upDue := u.fb Fld.SEQ_CFG_AUTOUP }))) ∧
    (∀ s : State, Live s → s.rst.firmware = true → s.image = none → s.slotValid 0 = false → s.slotValid 1 = false →
      ∃ u, exec .bootImageLoad s = .next (finish u) ∧ u.image = none ∧ u.fg Fld.CMB_BOOT_STAT_CHOSEN = 0) ∧
    (∀ s : State, Live s → exec (.integrityScrubPass false) s = .next (finish s)) ∧
    (∀ s : State, Live s → s.image.isSome = true → exec (.integrityScrubPass true) s = .next (finish (deviceReset 0x800 s))))

/-! ### Metering and the ledger (chapters 04 and 05) -/

/-- R153 to R156, R158, R159: a calibration sequence that is precise and near moves the gain by a sixteenth and locks; any
other holds, and the third precise one in a row that is far flags. The cross-check warns above 100 ppm and fails above
1000 ppm. A first tracking sequence sets the divider's base, and a restart forgets it. -/
def Obligations.MeterCalibrates : Prop :=
  (∀ (n : Fin 20) (est se : Nat) (s : State), Live s → s.calState n ≠ 0 → s.chUsed n = true →
    let g := (s.rd (Reg.MTR_CH_GAIN n)).toNat
    let far := 500 * g < ((est : Int) - g).natAbs * 1000000
    (se ≤ 5000 → ¬ far → exec (.calibrationSequenceEnd n est se) s = .next (finish
      (let u := ((((s.fs (Fld.MTR_CH_CAL_SNR n) (snrOf se)).wr (Reg.MTR_CH_GAIN n)
        (BitVec.ofInt 32 (g + divRound ((est : Int) - g) 16))).fs (Fld.MTR_CH_CAL_STATE n) 2).fs (Fld.MTR_CH_CAL_AGE n) 0).fs
        (Fld.MTR_CH_FLAG_CALFAIL n) 0
       u.setMtr { u.mtr with
         rejects := kvSet (fun _ => 0) u.mtr.rejects n 0, known := u.mtr.known.filter (· != (n : Nat)) ++ [(n : Nat)] }))) ∧
    (5000 < se ∨ far → ∃ u, exec (.calibrationSequenceEnd n est se) s = .next (finish u) ∧
      u.rd (Reg.MTR_CH_GAIN n) = s.rd (Reg.MTR_CH_GAIN n) ∧ u.fg (Fld.MTR_CH_CAL_STATE n) = 3 ∧
      (s.calState n ≠ 3 → u.fg (Fld.MTR_CH_FLAG_CALLOST n) = 1) ∧
      (se ≤ 5000 → 2 ≤ kvGet (fun _ => 0) s.mtr.rejects n → u.fg (Fld.MTR_CH_FLAG_CALFAIL n) = 1))) ∧
  (∀ (ratio : Word) (s : State), Live s → (s.otpWord 0x011).toNat ≠ 0 →
    let dev := ratRound (1000000 * ((ratio.toNat : Rat) / (s.otpWord 0x011).toNat - 1))
    let u := s.fss Fld.MTR_REF_DEV (satSigned 16 dev)
    let failed := (((u.fs Fld.MTR_REF_WARN 1).fs Fld.MTR_REF_FAIL 1).fs Fld.MTR_REF_WSTK 1).fs Fld.MTR_REF_FSTK 1
    (dev.natAbs ≤ 100 → exec (.referenceCrossCheck ratio) s = .next (finish ((u.fs Fld.MTR_REF_WARN 0).fs Fld.MTR_REF_FAIL 0))) ∧
    (100 < dev.natAbs → dev.natAbs ≤ 1000 → exec (.referenceCrossCheck ratio) s =
      .next (finish (((u.fs Fld.MTR_REF_WARN 1).fs Fld.MTR_REF_FAIL 0).fs Fld.MTR_REF_WSTK 1))) ∧
    (1000 < dev.natAbs → exec (.referenceCrossCheck ratio) s =
      .next (finish (if s.fb Fld.MTR_REF_FAIL = true then failed else failed.driveLine 14)))) ∧
  (∀ (n : Fin 20) (rpar : Nat) (t : Int) (s : State), Live s → s.fb Fld.MTR_STAT_FULL = true → s.tempOf (s.chTs n) = some t →
    bitOf (s.rd Reg.MTR_TONE).toNat n = true → s.chUsed n = true → (s.trk n).base = none →
    let rdb : Rat := (rpar : Rat) / 1000 * ((s.chNominal n : Rat) / 65536) / ((s.chNominal n : Rat) / 65536 - 1)
    (s.chRdb n = 0 ∨ 1 / 100 < |rdb / s.chRdb n - 1| → exec (.dividerTrackingUpdate n rpar) s =
      .next (finish ((s.fs (Fld.MTR_CH_FLAG_DIVFLT n) 1).setTrk n { s.trk n with bad := true }))) ∧
    (s.chRdb n ≠ 0 → |rdb / s.chRdb n - 1| ≤ 1 / 100 → exec (.dividerTrackingUpdate n rpar) s = .next (finish
      (((((s.fs (Fld.MTR_CH_FLAG_BASE n) 1).fss (Fld.MTR_CH_DRIFT_T0 n) t).fs (Fld.MTR_CH_DRIFT_DELTA n) 0).wr
        (Reg.MTR_CH_TRK n) (BitVec.ofNat 32 (s.chNominal n))).setTrk n
        ⟨some (rdb, t), 0, 0, (s.trk n).bad && s.fb (Fld.MTR_CH_FLAG_DIVFLT n)⟩)))) ∧
  (∀ (p : Port) (mask : BitVec 20) (s : State), Reach p Reg.MTR_TRK_RST s →
    ∃ u, exec (.trkRestart p mask) s = .next (finish (respond p stOk 0 u)) ∧
      (∀ n, (8 ≤ n ∧ n ≤ 16) ∨ n = 18 → mask.getLsbD n = true → u.fg (Fld.MTR_CH_FLAG_BASE n) = 0 ∧
        u.fg (Fld.MTR_CH_FLAG_DIVFLT n) = 0 ∧ u.fg (Fld.MTR_CH_DRIFT_T0 n) = 0 ∧ (u.trk n).base = none ∧ (u.trk n).delta = 0) ∧
      (∀ n < 20, mask.getLsbD n = false → u.fg (Fld.MTR_CH_FLAG_BASE n) = s.fg (Fld.MTR_CH_FLAG_BASE n) ∧ u.trk n = s.trk n))

/-- R140, R149, R150, R162, R251: a strobe counts, puts every channel's limited result into its words and flags a
saturated one; a worker's strobe follows the SYNC edge it was given; strobes with the bus low are counted. Without the
full-rate meter there is none. R151, R163, R164: with the slow counter alone, an increment credits its string with its
charge over the shunt in force, corrected by the gain of the overlap, and a saturated one degrades its class until full
rate resumes; a burst puts its means into the voltage channels' words. A worker that loses the SYNC edge leaves lock. -/
def Obligations.MeterCounts : Prop :=
  ((∀ (codes ofs : List Int) (off : Option Int) (s : State), Live s → s.fb Fld.MTR_STAT_FULL = true →
      ∃ u, exec (.sampleStrobe codes ofs off) s = .next (finish u) ∧
        u.rd Reg.MTR_STRB_CNT = s.rd Reg.MTR_STRB_CNT + 1 ∧
        (∀ n < 20,
          u.rd (Reg.MTR_CH_DATA n) = BitVec.ofInt 32 (max (-8388608) (min (codes.getD n 0) 8388607)) ∧
          u.rd (Reg.MTR_CH_OFS n) = BitVec.ofInt 32 (ofs.getD n 0) ∧
          (codes.getD n 0 ≤ -8388608 ∨ 8388607 ≤ codes.getD n 0 → u.fg (Fld.MTR_CH_FLAG_OVR n) = 1)) ∧
        (∀ o, off = some o → s.fb Fld.MTR_STAT_WORKER = true → s.fb Fld.WGL_STAT_RATEMIS = false →
          u.fg Fld.MTR_ALIGN_LOCK = if o.natAbs ≤ 2 then 1 else 0) ∧
        u.sct.busLowN = (if s.chUsed 16 = true ∧
          10000000 * u.volts 16 < (s.busNominal : Rat) * (10000 - s.fg Fld.SCT_HU_CFG_THR : Nat)
          then min 2 (s.sct.busLowN + 1) else 0)) ∧
    (∀ (codes ofs : List Int) (off : Option Int) (s : State), Live s → s.fb Fld.MTR_STAT_FULL = false →
      exec (.sampleStrobe codes ofs off) s = .next (finish s)) ∧
    (∀ (p : Port) (s : State), Reach p Reg.MTR_CTL s →
      exec (.snapRequest p) s = .next (finish (if s.fb Fld.MTR_STAT_SNAPPEND = true then respond p stBusy 0 s
        else respond p stOk 0 (s.fs Fld.MTR_STAT_SNAPPEND 1)))) ∧
    (∀ s : State, Live s → s.fb Fld.MTR_STAT_SNAPPEND = true →
      ∃ u, exec .snapshotTaken s = .next (finish u) ∧ u.fg Fld.MTR_STAT_SNAPPEND = 0 ∧ u.fg Fld.MTR_STAT_SNAPRDY = 1 ∧
        u.rd Reg.MTR_SNAP_CLASS = s.rd Reg.MTR_CLASS ∧ u.rd Reg.MTR_SNAP_CNT = s.rd Reg.MTR_STRB_CNT ∧
        (∀ a < 10, ∀ k < 8, u.rd (Reg.MTR_SET_SQIN_LO a + 4 * k) = s.rd (Reg.MTR_SET_QIN_LO a + 4 * k)))) ∧
  ((∀ (n : Fin 8) (dv : Int) (s : State), Live s → s.fb Fld.MTR_STAT_SLOW = true → s.fb Fld.MTR_STAT_FULL = false →
      s.setUsed n = true → s.mtr.slowSat.contains (n : Nat) = false → (s.rd (Reg.MTR_CH_TRK n)).toNat ≠ 0 →
      let q : Rat := (dv : Rat) / (s.rd (Reg.MTR_CH_TRK n)).toNat * kvGet (fun _ => 1) s.mtr.gain n
      exec (.slowCountIncrement n dv false) s =
        .next (finish (classUpdate (credit n q (q * kvGet (fun _ => 0) s.mtr.volt n) s)))) ∧
    (∀ (n : Fin 8) (dv : Int) (s : State), Live s → s.fb Fld.MTR_STAT_SLOW = true → s.fb Fld.MTR_STAT_FULL = false →
      s.setUsed n = true →
      let u := (if s.fg (Fld.MTR_CH_FLAG_OVR n) = 1 then s else s.raise 138).fs (Fld.MTR_CH_FLAG_OVR n) 1
      exec (.slowCountIncrement n dv true) s = .next (finish (classUpdate
        (u.setMtr { u.mtr with slowSat := u.mtr.slowSat.filter (· != (n : Nat)) ++ [(n : Nat)] })))) ∧
    (∀ (codes : List Int) (s : State), Live s → s.fb Fld.MTR_STAT_SLOW = true →
      ∃ u, exec (.watchVoltageBurst codes) s = .next (finish u) ∧ (∀ n < 8, u.rd (Reg.MTR_CH_DATA (8 + n)) =
        if s.chUsed (8 + n) = true then BitVec.ofInt 32 (max (-8388608) (min (codes.getD n 0) 8388607))
        else s.rd (Reg.MTR_CH_DATA (8 + n)))) ∧
    (∀ s : State, Live s → s.fb Fld.MTR_STAT_WORKER = true →
      exec .syncEdgeLoss s = .next (finish ((s.fs Fld.MTR_ALIGN_LOCK 0).fs Fld.MTR_ALIGN_LOSS 1))))

/-- R182: what a record carries of a quantity, what the next one starts from, and nothing lost between them. -/
def Obligations.RecordValuesAddUp : Prop :=
  ∀ (unit most d carry : Nat), 0 < unit →
    let r := recordValue unit most d carry
    r.1 ≤ most ∧ r.1 * unit + r.2.1 = d + carry ∧ (r.2.2 = false → r.2.1 < unit) ∧ (r.2.2 = true → r.1 = most)

/-- R173, R176, R191, R195: the ledger starts with the totals that MRAM holds, or afresh with none; a CLOSE is asked for,
and taken at the closing instant. R175, R178, R179: at a boundary every contract with a string closes, or, where the ring
has no room for all of them, none does and the interval goes on. R189, R190, R193, R195: the words of a formed record,
then of the totals with it, go to the MRAM controller for the next slot of the ring; once they are written the record
joins the totals; the oldest record of a report queue is delivered once the queue has room. -/
def Obligations.LedgerRuns : Prop :=
  ((∀ s : State, Live s → s.fb Fld.LDG_STAT_RUN = false → s.image.isSome = true → s.rst.firmware = true →
      ∃ u, exec .ledgerStart s = .next (finish u) ∧ u.fg Fld.LDG_STAT_RUN = 1 ∧ u.ldg.start = s.now ∧ u.ldg.pend = [] ∧
        u.fg Fld.LDG_STAT_FRESH = (if s.totalsBest = none then 1 else 0) ∧
        u.rd Reg.LDG_ASSIGN = (match s.totalsBest with
          | some k => if s.mramWord (totalsAt k + 12) = s.rd Reg.CMB_IMG_SERIAL then s.mramWord (totalsAt k + 8)
            else BitVec.ofNat 32 s.imageAssign
          | none => BitVec.ofNat 32 s.imageAssign)) ∧
    (∀ (p : Port) (s : State), Reach p Reg.LDG_CTL s →
      exec (.ledgerCloseRequest p) s = .next (finish (respond p stOk 0
        (if s.fb Fld.LDG_STAT_RUN = true then s.setLdg { s.ldg with closeReq := true } else s)))) ∧
    (∀ (sub : Nat) (s : State), Live s → s.ldg.closeReq = true →
      exec (.ledgerEarlyClose sub) s = .next (finish
        (let u := if s.fb Fld.MTR_STAT_FULL = true then s else aclkTo sub s
         ledgerClose true false (u.setLdg { u.ldg with closeReq := false }))))) ∧
  (∀ s : State, Live s → s.rtc.sec % ivlLength s.ldg.ivl = 0 → s.fb Fld.LDG_STAT_RUN = true → s.powerState ≠ 0 →
      s.fb Fld.LDG_STAT_CLOSING = false →
      let v := s.setLdg { s.ldg with ivl := s.fg Fld.LDG_CFG_IVL }
      (s.ringFree s.ldgContracts.length = false → exec .ledgerBoundary s = .next (finish
        ((v.fs Fld.LDG_STAT_DEFER 1).setLdg { v.ldg with deferred := true }))) ∧
      (s.ringFree s.ldgContracts.length = true → s.ldgContracts ≠ [] → s.cpend .ldgAssign = false →
        ∃ u, exec .ledgerBoundary s = .next (finish u) ∧ u.fg Fld.LDG_STAT_CLOSING = 1 ∧ u.ldg.start = s.now ∧
          u.ldg.deferred = false ∧ u.ldg.formed = s.ldgContracts.map (fun c => (formRecord false false c v,
            if bitOf (s.fg Fld.LDG_DELIV_EN) c then some (fldOf (s.rd Reg.LDG_ROUTE) (2 * c) 2) else none)))) ∧
  ((∀ (b : List Byte) (q : Option Nat) (rest : List (List Byte × Option Nat)) (s : State), Live s →
      s.ldg.formed = (b, q) :: rest → s.nvWaits wLedger = false → s.nvBusy wLedger = false →
      exec .ledgerRecordWritten s = .next (finish (nvIssue wLedger (recordWords b s) s))) ∧
    (∀ (b : List Byte) (s : State), b.length = 128 → s.fg Fld.LDG_RING_NEXT < 8000 →
      ((((recordWords b s).take 32).foldl (fun t w => t.setMramWord w.1 w.2) s).mramBytes (ldgSlotAt (s.fg Fld.LDG_RING_NEXT)) 128 = b) ∧
      (recordWords b s).drop 32 = totalsWords (sumRecord b s)) ∧
    (∀ (b : List Byte) (q : Option Nat) (rest : List (List Byte × Option Nat)) (s : State), Live s →
      s.ldg.formed = (b, q) :: rest → s.nvWaits wLedger = false → s.nvBusy wLedger = true →
      byteAt b 1 < 16 → s.fg Fld.LDG_RING_NEXT < 8000 → rest ≠ [] →
      ∃ u, exec .ledgerRecordWritten s = .next (finish u) ∧
        u.fg Fld.LDG_RING_NEXT = (s.fg Fld.LDG_RING_NEXT + 1) % 8000 ∧
        u.rd (Reg.LDG_LC_SEQ (byteAt b 1)) = BitVec.ofNat 32 (u32At b 4) ∧ u.ldg.formed = rest ∧
        u.ldg.pend = s.ldg.pend ++ (match q with | some q => [(s.fg Fld.LDG_RING_NEXT, q)] | none => [])) ∧
    (∀ (b : List Byte) (q : Option Nat) (s : State), Live s → s.ldg.formed = [(b, q)] → s.ldg.late = [] →
      s.nvWaits wLedger = false → s.nvBusy wLedger = true →
      ∃ u, exec .ledgerRecordWritten s = .next (finish u) ∧ u.fg Fld.LDG_STAT_CLOSING = 0 ∧ u.ldg.formed = [] ∧
        bitOf u.irq.latch 140 = true) ∧
    (∀ (q : Fin 4) (r : Nat × Nat) (s : State), Live s → s.ldg.pend.find? (fun p => p.2 == (q : Nat)) = some r →
      s.qEnabled (56 + q) = true →
      (s.qRoom (56 + q) = 0 → exec (.lqDelivery q) s = .next (finish (s.fs (Fld.SYS_Q_STAT_OVF (56 + q)) 1))) ∧
      (s.qRoom (56 + q) ≠ 0 → exec (.lqDelivery q) s = .next (finish
        (let u := qPush (56 + q) (s.mramBytes (ldgSlotAt r.1) 128) s
         ldgStat (u.setLdg { u.ldg with pend := u.ldg.pend.erase r }))))))

/-! ### Orders (chapter 06) -/

/-- R211, R212, R214: decisions follow the order of the copies. With admission off, or with a field out of range, an order
is rejected; a rack's own order is decided on the schedule as it stands; a decision that misses its bound is a rejection
with OVERLOAD. -/
def Obligations.DecisionsFollowCopies : Prop :=
  ∀ (o : Order) (s : State), Live s → s.fb Fld.ORD_STAT_DISCARDING = false →
    s.ord.orders.find? (fun x => x.state == 2) = some o →
    (s.fg Fld.ORD_CTL_ADMIT = 0 → exec .admissionDecision s = .next (finish (endOrder o 6 0x0F 0 s))) ∧
    (s.fg Fld.ORD_CTL_ADMIT ≠ 0 → o.badField = true → exec .admissionDecision s = .next (finish (endOrder o 6 0x01 0 s))) ∧
    (s.fg Fld.ORD_CTL_ADMIT ≠ 0 → o.badField = false → o.scope ≠ 1 →
      let v := showFree (o.onMono s) s
      exec .admissionDecision s = .next (finish (match decideRecord s o with
        | .reject c h => endOrder o 6 c h v
        | .accept a => acceptOrder a v))) ∧
    (s.partsOf o.id = [] → exec .decisionOverload s = .next (finish (endOrder o 6 0x10 0 (s.fs Fld.ORD_STAT_OVERLOAD 1))))

/-- R212: the first checks of a decision, in their order: an ID in use, the capacity, the strings, the contract. -/
def Obligations.DecisionChecksInOrder : Prop :=
  ∀ (s : State) (o : Order) (late far : Bool),
    let dup := ∃ x ∈ s.ord.orders, x.id = o.id ∧ (x.state = 3 ∨ x.state = 4 ∨ x.state = 2 ∧ x.seq < o.seq)
    let absent := s.image = none ∨ ∃ n ∈ o.named, s.strUsed n = false ∨ s.strCarries n = false ∨ s.strGroup n = none ∨
      (o.ty = 3 ∧ s.pvServes n = false)
    let foreign := (∃ n ∈ o.named, s.contractOf n ≠ o.contract) ∨ s.rd (Reg.ORD_LC_CAP o.contract) = 0
    (dup → decideOrder s o late far = .reject 0x02 0) ∧
    (¬ dup → 1024 ≤ s.residents.length → decideOrder s o late far = .reject 0x03 0) ∧
    (¬ dup → s.residents.length < 1024 → absent → decideOrder s o late far = .reject 0x07 0) ∧
    (¬ dup → s.residents.length < 1024 → ¬ absent → foreign → decideOrder s o late far = .reject 0x06 0)

/-- R205, R215, R217 to R220: an order becomes ACTIVE with its first slot; at its deadline one that has met its obligation
ends DONE (a swarm order's part says that it has reached its share), a REST or HOLD ends DONE, and one that has not ends
FAILED with GFAIL and its error line; a control period takes the removals that wait, credits, ends what is covered and
sets the groups' power, in this order. -/
def Obligations.OrdersRunToDeadline : Prop :=
  (∀ (id : Nat) (o : Order) (s : State), Live s → s.order id = some o → o.state = 3 → o.ty ≤ 4 → o.scope = 0 →
    o.ending = none → s.fb Fld.ORD_STAT_DISCARDING = false → (∃ g ∈ o.plan, g.first ≤ s.ord.mono / 2) →
    exec (.orderStart id) s = .next (finish (activate o s))) ∧
  (∀ (id : Nat) (o : Order) (s : State), Live s → s.order id = some o → o.deadline ≤ s.ord.mono → o.ending = none →
    (o.ty = 5 ∨ o.ty = 6 → o.state = 3 → o.cq ≠ partCq → exec (.orderDeadline id) s =
      .next (finish (if o.swarm = true then stopOrder o 5 0 s else endOrder o 5 0 0 s))) ∧
    (o.ty ≤ 4 → o.state = 4 → s.met o = true ∨ o.ty = 3 → exec (.orderDeadline id) s = .next (finish
      (if o.scope ≠ 1 then stopOrder o 5 0 s else if o.reached = true then s else partReached o s))) ∧
    (o.ty ≤ 4 → o.ty ≠ 3 → o.state = 4 → s.met o = false → exec (.orderDeadline id) s =
      .next (finish (stopOrder o 8 0x27 ((s.fs Fld.ORD_STAT_GFAIL 1).driveLine 16))))) ∧
  (∀ s : State, Live s → s.ord.started = true → s.awake = true → s.fb Fld.ORD_STAT_DISCARDING = false →
    exec .controlPeriod s = .next (finish
      (let u := drawStep ((List.range 8).foldl (fun s n => creditString n s) (applyRemovals s))
       let u := u.setMtr { u.mtr with clsB := [] }
       let u := (u.ord.orders.filter (fun o => o.resident || o.ending.isSome)).foldl (fun s o =>
         match s.order o.id with
         | some o' => orderProgress o' s
         | none => s) u
       chargePeriod ((List.range 8).foldl (fun s n => setPref n s) u))))

/-- R202, R203, R227: the engine takes a new epoch, stores it and then starts; entries are then copied in the order of
their doorbells, each from its slot, and HEAD follows. R202: a bundle that was held back goes to its completion queue once
there is room for all of it. -/
def Obligations.OrderEntriesMove : Prop :=
  ((∀ s : State, Live s → s.ord.started = false → s.rst.firmware = true → s.image.isSome = true → s.nvWaits wEpoch = false →
      let e := (s.storedEpoch + 1) % 2 ^ 32
      (s.nvBusy wEpoch = false → exec .orderEngineStart s = .next (finish
        (let v := s.wr Reg.ORD_EPOCH (BitVec.ofNat 32 e)
         nvIssue wEpoch (epochWords e v) v))) ∧
      (s.nvBusy wEpoch = true → exec .orderEngineStart s = .next (finish
        (let v := nvEnd wEpoch s
         v.setOrd { v.ord with started := true })))) ∧
    (∀ (q : Nat) (rest : List Nat) (s : State), Live s → s.ord.submitted = q :: rest → s.ord.started = true →
      s.fb Fld.ORD_STAT_DISCARDING = false → s.heldCount ≤ 2048 → s.ord.cancel = none →
      let h := s.fg (Fld.SYS_Q_PTR_HEAD q)
      let o := parseOrder (s.sramBytes (s.qStart q + h % s.qDepth q * 64) 64) (s.routeOf q)
      exec .orderCopy s = .next (finish ((s.fs (Fld.SYS_Q_PTR_HEAD q) ((h + 1) % (2 * s.qDepth q))).setOrd { s.ord with
        submitted := rest, orders := s.ord.orders ++ [{ o with seq := s.ord.nextSeq, since := s.now }],
        nextSeq := s.ord.nextSeq + 1 }))) ∧
    (∀ s : State, Live s → (s.ord.submitted = [] ∨ s.ord.started = false ∨ s.fb Fld.ORD_STAT_DISCARDING = true ∨
      2048 < s.heldCount) → exec .orderCopy s = .next (finish s))) ∧
  (∀ (cq : Fin 16) (recs : List CqRec) (s : State), Live s →
      s.ord.held.find? (fun h => h.1 == (cq : Nat)) = some ((cq : Nat), recs) →
      (s.qRoom (32 + cq) < recs.length → exec (.cqRecordWrite cq) s = .next (finish (cqFull cq s))) ∧
      (recs.length ≤ s.qRoom (32 + cq) → exec (.cqRecordWrite cq) s = .next (finish
        (let u := recs.foldl (fun s r => qPush (32 + cq) (cqBytes s.epoch r) s) s
         ordStat (u.setOrd { u.ord with held := u.ord.held.eraseP (fun h => h.1 == (cq : Nat)) })))))

/-- R225: a removal ends every order that needs what was removed and is not RESILIENT; the RESILIENT ones take the shadow
plan of a single string loss where it is valid, and else wait for K0, which plans them anew with what remains, and ends
what no plan fits. Model's choice: What a removal needs and the new plan are log entry 13. -/
def Obligations.RemovalsCutOrReplan : Prop :=
  (∀ s : State, Live s → s.removals = [] ∨ s.fb Fld.ORD_STAT_DISCARDING = true →
    exec .resourceRemoval s = .next (finish s)) ∧
  (∀ (r : Removal) (s : State), Live s → s.fb Fld.ORD_STAT_DISCARDING = false → s.removals = [r] →
    let v := s.setRemovals []
    let hit := v.residents.filter (fun o => o.ending.isNone && v.needs o r)
    ((∀ o ∈ hit, bitOf o.flags 0 = false) →
      exec .resourceRemoval s = .next (finish (broodCheck (hit.foldl (fun s o => stopOrder o 8 0x24 s) v)))) ∧
    (hit ≠ [] → (∀ o ∈ hit, bitOf o.flags 0 = true) →
      (∀ n p, r = .string n → s.shadowPlan n = some p →
        exec .resourceRemoval s = .next (finish (installShadow p v))) ∧
      ((∀ n, r = .string n → s.shadowPlan n = none) → s.ord.replan = none → exec .resourceRemoval s = .next (finish
        (v.setOrd { v.ord with
          replan := some ((sortBy replanBefore hit).map (fun o => o.id), (v.removedStrings r).dedup) }))))) ∧
  (∀ (ids gone : List Nat) (s : State), Live s → s.fb Fld.ORD_STAT_DISCARDING = false → s.ord.replan = some (ids, gone) →
    exec .replanComplete s = .next (finish (replanNow (sortBy replanBefore (s.committed.filter (fun o => ids.contains o.id)))
      gone 0x24 (s.setOrd { s.ord with replan := none })))) ∧
  (∀ (o : Order) (gone : List Nat) (cause : Nat) (s : State),
    let rest := s.committed.filter (fun x => !(o.id == x.id && o.seq == x.seq))
    replanNow [o] gone cause s = broodCheck (match replanOrder s rest o gone with
      | some l => schedChanged (installPlans l s)
      | none => stopOrder o 8 cause (schedChanged (installPlans rest s))))

/-- R221 to R223: a cancel stops its order with CANCELLED, or says that there is none or that it ends already; a query
captures the order; a cap above its rating is out of range, one that is not lowered just stands, and one that is lowered
ends orders until the rest fit. R227, R228, R426: discard-all stores the next epoch first; once it is in MRAM no order and
no submitted entry is left, the new epoch stands, and admission and fault handling go on. -/
def Obligations.OrdersAreCut : Prop :=
  ((∀ (p : Port) (s : State), Reach p Reg.ORD_CANCEL_CTL s →
      (s.fb Fld.ORD_STAT_DISCARDING = true ∨ s.ord.started = false ∨ s.fb Fld.ORD_CANCEL_STAT_BUSY = true →
        exec (.orderCancel p) s = .next (finish (respond p stBusy 0 s))) ∧
      (s.fb Fld.ORD_STAT_DISCARDING = false → s.ord.started = true → s.fb Fld.ORD_CANCEL_STAT_BUSY = false →
        s.ord.submitted = [] →
        let v := ((s.setOrd { s.ord with cancel := none }).fs Fld.ORD_CANCEL_STAT_BUSY 1).fs Fld.ORD_CANCEL_STAT_BUSY 0
        let id := (s.rd Reg.ORD_CANCEL_ID).toNat
        (s.order id = none → exec (.orderCancel p) s = .next (finish (respond p stOk 0 (v.fs Fld.ORD_CANCEL_STAT_RESULT 1)))) ∧
        (∀ o, s.order id = some o → o.ending.isSome = true →
          exec (.orderCancel p) s = .next (finish (respond p stOk 0 (v.fs Fld.ORD_CANCEL_STAT_RESULT 2)))) ∧
        (∀ o, s.order id = some o → o.ending = none → exec (.orderCancel p) s =
          .next (finish (respond p stOk 0 (stopOrder o 7 0x20 (v.fs Fld.ORD_CANCEL_STAT_RESULT 0))))))) ∧
    (∀ (p : Port) (id : Word) (o : Order) (s : State), Reach p Reg.ORD_QRY_ID s → s.order id.toNat = some o → o.state ≠ 0 →
      exec (.orderQuery p id) s = .next (finish (respond p stOk 0
        (((((s.wr Reg.ORD_QRY_ID id).fs Fld.ORD_QRY_STAT_STATE o.state).fs Fld.ORD_QRY_STAT_CAUSE 0).fs Fld.ORD_QRY_STAT_FLAGS
          o.outFlags).wr Reg.ORD_QRY_DELIV (BitVec.ofInt 32 o.deliv))))) ∧
    (∀ (p : Port) (n : Fin 20) (v : Word) (s : State), Reach p (capReg n).addr s →
      (capReg n).limit s < v.toNat → exec (.capWrite p n v) s = .next (finish (respond p stDecodeErr 0 s))) ∧
    (∀ (p : Port) (v : Word) (s : State), Reach p Reg.ORD_BUS_CAP s → v.toNat ≤ s.busRating →
      exec (.capWrite p 0 v) s = .next (finish (respond p stOk 0
        (if v.toNat < (s.rd Reg.ORD_BUS_CAP).toNat then capCut .bus (s.wr Reg.ORD_BUS_CAP v) else s.wr Reg.ORD_BUS_CAP v)))) ∧
    (∀ (p : Port) (c : Fin 16) (s : State), Reach p (Reg.ORD_LC_CAP c) s →
      exec (.capWrite p ⟨c + 4, by omega⟩ 0) s =
        .next (finish (respond p stOk 0 (contractCut c (s.wr (Reg.ORD_LC_CAP c) 0)))))) ∧
  (∀ s : State, Live s → s.fb Fld.ORD_STAT_DISCARDING = true → s.ord.started = true → s.nvWaits wEpoch = false →
      (s.nvBusy wEpoch = false → exec .discardAll s =
        .next (finish (nvIssue wEpoch (epochWords ((s.epoch + 1) % 2 ^ 32) s) s))) ∧
      (s.nvBusy wEpoch = true → ∃ u, exec .discardAll s = .next (finish u) ∧ u.ord.orders = [] ∧ u.ord.submitted = [] ∧
        u.removals = [] ∧ u.rd Reg.ORD_EPOCH = s.rd Reg.ORD_EPOCH + 1 ∧ u.fg Fld.ORD_STAT_DISCARDING = 0 ∧
        u.fg Fld.FLT_HSTAT_HANDLING = 0))

/-! ### Scout and the converters (chapters 07 and 08) -/

/-- R239, R240, R253: a predictor is active from the update that completes its persistence until its condition has been
absent for its hold, and never while it is masked; the confidence decays, gains the weights and stays in its 16 bits. -/
def Obligations.PredictorsHold : Prop :=
  (∀ (p : Pred) (cond : Bool) (persist hold : Nat),
    let q := predNext p cond persist hold
    (p.masked = false → cond = true → (p.active = true ∨ persist ≤ min 255 (p.heldN + 1)) → q.active = true) ∧
    (p.active = false → (cond = false ∨ min 255 (p.heldN + 1) < persist) → q.active = false) ∧
    (p.masked = false → p.active = true → cond = false → (q.active = true ↔ min 65536 (p.since + 1) < hold)) ∧
    (p.masked = true → (q.masked = false ↔ cond = false ∧ 999 ≤ p.clearN)) ∧ ¬ (q.masked = true ∧ q.active = true) ∧
    q.heldN = (if cond = true then min 255 (p.heldN + 1) else 0) ∧ q.since = (if cond = true then 0 else min 65536 (p.since + 1))) ∧
  (∀ (c decay : Nat) (w : Int), (confNext c decay w : Int) =
    max 0 (min ((c : Int) - ((c * decay + 32768) / 65536 : Nat) + w) 65535))

/-- R234, R240, R242, R251 to R255, R261 to R267: an update of Scout takes the samples in, and with Scout disabled the
confidence stays 0, and a bus that was low on two strobes in a row confirms a loss of AC; a timeout, a host squash and the
end of EN ask for a squash, which the next update makes unless it confirms, and a timeout's masks what was active; the
hand-back starts after its dwell and ends the episode; shadow plans are computed for every string in use. -/
def Obligations.ScoutMoves : Prop :=
  (∀ (ac : List Int) (balls : List (Nat × Nat)) (share : Nat) (s : State), Live s → s.powerState ≠ 0 →
    ∃ u, exec (.scoutUpdate ac balls share) s = .next (finish u) ∧
      (s.cpend .sct = false → s.sct.acWatch = (s.powerState == 1) →
        u.sct.ac = ac.foldl (fun l v => (v :: l).take (2 * s.halfSamples)) s.sct.ac) ∧
      (s.cpend .sct = false → s.fb Fld.SCT_CTL_EN = false → u.fg Fld.SCT_STAT_CONF = 0) ∧
      (s.cpend .sct = true → u.commits = s.commits.filter (fun g => !(g == .sct))) ∧
      (s.cpend .sct = false → s.phase = phIdle → s.fb Fld.SCT_CFG_HU_EN = true → s.sct.busLow = true →
        u.phase = phHandover ∧ u.fg Fld.SCT_CAUSE_CONF = 1)) ∧
  (∀ s : State, Live s → s.phase = phIdle → s.level ≠ 0 →
    (100 * s.fg Fld.SCT_CFG_TMO ≤ s.sct.sinceP0 →
      exec .scoutTimeout s = .next (finish (s.setSct { s.sct with want := some (0, 2) }))) ∧
    (∀ cause, s.sct.want = some (0, cause) → let u := squashWanted s
      u.level = 0 ∧ u.fg Fld.SCT_FLAG_SQUASH = 1 ∧ u.fg Fld.SCT_CAUSE_SQ = cause % 2 ^ Fld.SCT_CAUSE_SQ.width ∧ u.sct.want = none ∧
      u.ord.plans = [] ∧
      (∀ e < 32, cause = 2 → (u.pred e).active = false ∧ ((s.pred e).active = true → (u.pred e).masked = true)))) ∧
  (∀ s : State, Live s → s.sct.sinceP0 < 100 * s.fg Fld.SCT_CFG_TMO → exec .scoutTimeout s = .next (finish s)) ∧
  (∀ s : State, Live s → s.mayHandBack = true → exec .handbackStart s = .next (finish
    ((trimRampAll (fun p => kvGet (fun _ => 0) s.sct.held p) (100 * s.fg Fld.SCT_HU_CFG_HBRAMP)
      (s.setSct { s.sct with lowN := 0, rampN := 0 })).fs Fld.SCT_STAT_PHASE phHandback))) ∧
  (∀ s : State, Live s → s.phase = phHandback → (100 ≤ s.sct.lowN ∨ 1000 ≤ s.sct.rampN) →
    ∃ u, exec .handbackComplete s = .next (finish u) ∧ u.phase = phIdle ∧ u.ord.acOut = false ∧ u.sct.hold = []) ∧
  (∀ (p : Port) (s : State), Reach p Reg.SCT_CTL s →
    exec (.scoutEnableWrite p true) s = .next (finish (respond p stOk 0 (s.fs Fld.SCT_CTL_EN 1))) ∧
    (∃ u, exec (.scoutEnableWrite p false) s = .next (finish (respond p stOk 0 u)) ∧ u.fg Fld.SCT_CTL_EN = 0 ∧
      u.fg Fld.SCT_STAT_CONF = 0 ∧ (s.phase = phIdle → s.level ≠ 0 → u.sct.want = some (0, 7))) ∧
    (s.phase = phIdle → s.level ≠ 0 → exec (.scoutSquash p) s =
      .next (finish (respond p stOk 0 (s.setSct { s.sct with want := some (0, 5) })))) ∧
    (s.phase ≠ phIdle ∨ s.level = 0 → exec (.scoutSquash p) s = .next (finish (respond p stOk 0 s)))) ∧
  (∀ s : State, Live s → ∃ u, exec .shadowPlanRecompute s = .next (finish u) ∧
    u.fg Fld.SCT_PLAN_VALID = maskOf 8 s.strUsed ∧
    u.fg Fld.SCT_PLAN_GAP = maskOf 8 (fun n => s.strUsed n && !(shadowPlan s n).2.isEmpty) ∧
    ∀ n ∈ s.strings, ∃ p, u.shadowPlan n = some p ∧ p.trial = (shadowPlan s n).1)

/-- R281, R283, R284, R287: a group that is off starts in its owner's mode, or is refused where its contactor is open or it
has tripped; its sense check passes or stops it; a stop ramps, and before release acts at once; two consecutive samples of
a phase beyond OCP stop it with its flag, its error line and its loss. -/
def Obligations.GroupsStartAndStop : Prop :=
  ∀ (g : Fin 12) (s : State), Live s →
    (∀ m : Fin 5, (m = 1 ∨ m = 2 ∨ m = 3) → s.grpType g = 1 → s.mode g = 0 →
      (s.fb (Fld.CNV_CG_FLAG_OCP g) = true ∨ s.contactorConfirmed (s.grpTarget g) = false →
        exec (.groupStart g m) s = .next (finish (s.removal (.group g)))) ∧
      (s.fb (Fld.CNV_CG_FLAG_OCP g) = false → s.contactorConfirmed (s.grpTarget g) = true →
        exec (.groupStart g m) s = .next (finish
          (let u := ((s.setMode g m).setGrp g { grp0 with stage := 1 }).fs (Fld.CNV_CG_STAT_SOFT g) 1
           let u := u.fs (Fld.CNV_CG_PER_P g) (32 * u.fg (Fld.CNV_CG_CFG_PER g))
           if m = 3 then u else u.flowEnter)))) ∧
    (∀ m : Fin 5, (m = 0 ∨ m = 4 ∨ s.grpType g ≠ 1 ∨ s.mode g ≠ 0) → exec (.groupStart g m) s = .next (finish s)) ∧
    (∀ cs : List (List Int), s.mode g ≠ 0 → (s.grp g).stage = 1 →
      ((∀ l ∈ cs, (s.csMean g l).natAbs ≤ 53687091) →
        exec (.senseCheck g cs) s = .next (finish (s.setGrp g { s.grp g with stage := 2 }))) ∧
      ((∃ l ∈ cs, 53687091 < (s.csMean g l).natAbs) → exec (.senseCheck g cs) s =
        .next (finish (((groupHardStop g s).fs (Fld.CNV_CG_FLAG_CSERR g) 1).removal (.group g))))) ∧
    (s.mode g ≠ 0 → (s.grp g).stage < 3 → exec (.groupStop g) s = .next (finish (groupHardStop g s))) ∧
    (s.mode g ≠ 0 → (s.grp g).stage = 3 → exec (.groupStop g) s = .next (finish (s.setGrp g { s.grp g with
      stopping := true
      ramp := some ((s.grp g).ramp.getD (s.pubGet (0x040 + g), s.fg (Fld.CNV_CG_TIME_STOPT g) * 12800000, 0)) }))) ∧
    (∀ late : Bool, s.mode g ≠ 0 → (s.grp g).stopping = true → s.pubGet (0x040 + g) = 0 →
      (8 ≤ (s.grp g).lowN ∨ late = true) →
      exec (.groupStopComplete g late) s = .next (finish (backToShadow g (groupHardStop g s)))) ∧
    (∀ a b : Int, s.mode g ≠ 0 →
      (s.beyondOcp g a = true → s.beyondOcp g b = true → exec (.phaseOvercurrent g a b) s = .next (finish
        ((((groupHardStop g s).fs (Fld.CNV_CG_FLAG_OCP g) 1).driveLine 18).removal (.group g)))) ∧
      (s.beyondOcp g a = false ∨ s.beyondOcp g b = false → exec (.phaseOvercurrent g a b) s = .next (finish s))) ∧
    ((groupHardStop g s).mode g = 0 ∧ (groupHardStop g s).pubGet (0x040 + g) = 0 ∧
      (groupHardStop g s).fg (Fld.CNV_CG_STAT_BRAKE g) = 0)

/-- R271, R272: a period start of a released group that goes on latches for each phase the on-time of its duty and trim and
its place in the period; an on-time never exceeds the period. -/
def Obligations.PeriodLatchesDuties : Prop :=
  (∀ (g : Fin 12) (cs : List (List Int)) (bus : Int) (edges : List Nat) (s : State), Live s →
    s.cpend (.cnvGroup g) = false → s.mode g ≠ 0 → s.sysclkOk = true → (s.grp g).shadowStop = false → (s.grp g).stage = 3 →
    ∃ u, exec (.pwmPeriodStart g cs bus edges) s = .next (finish u) ∧ ∀ k < (s.phases g).length,
      let n := (s.phases g).getD k 0
      u.rd (Reg.CNV_PH_ON n) = BitVec.ofNat 32 (onTime (s.rd (Reg.CMB_T_OUT0 (s.grpInner g + k))).toInt
        (u.rd (Reg.CNV_PH_TRIM n)).toInt (s.fg (Fld.CNV_CG_DLIM_DMIN g)) (s.fg (Fld.CNV_CG_DLIM_DMAX g))
        (u.fg (Fld.CNV_CG_PER_P g))) ∧
      u.rd (Reg.CNV_PH_OFS n) =
        BitVec.ofNat 32 (phaseOffset (s.grpType g) (s.phases g).length k (u.fg (Fld.CNV_CG_PER_P g)))) ∧
  (∀ (u t : Int) (dmin dmax p : Nat), onTime u t dmin dmax p ≤ p)

/-- R280, R288 to R292: a setpoint that is not renewed ramps to 0; MC16 beyond its level starts braking in the groups that
qualify, and below its lower level lets every group brake again; a loss of SYNC_IN is flagged and leaves lock until the
edges return. R294 to R298: sharing starts from the nominal trims, which the codes reach by their slew, moves each port's
target by its share of the current within its limits, and a code moves by its slew; ten checks in a row without spare
capacity limit the draw, a thousand with ample capacity lift the limit. Model's choice: Writes and checks that act at once
are log entry 24. -/
def Obligations.SetpointsAndSharing : Prop :=
  ((∀ (g : Fin 12) (s : State), Live s → (s.mode g = 1 ∨ s.mode g = 2) → (s.grp g).ramp = none →
      exec (.prefRenewalTimeout g) s =
        .next (finish (s.setGrp g { s.grp g with
          ramp := some (s.pubGet (0x040 + g), s.fg (Fld.CNV_CG_TIME_STOPT g) * 12800000, 0) }))) ∧
    (∀ (mv : Int) (s : State), Live s →
      let above := fun f : Fld => (s.busNominal : Int) * (1000 + s.fg f) < 1000 * mv
      (above Fld.CNV_BRK_BRK_ON → ∃ u, exec (.brakeStart mv) s = .next (finish u) ∧ u.cnv.overshoot = true ∧
        (∀ g < 12, s.brakes g = true → u.fg (Fld.CNV_CG_STAT_BRAKE g) = 1 ∧ (u.grp g).brakeN = 0) ∧
        (∀ g < 12, s.brakes g = false → u.fg (Fld.CNV_CG_STAT_BRAKE g) = s.fg (Fld.CNV_CG_STAT_BRAKE g))) ∧
      (¬ above Fld.CNV_BRK_BRK_ON → exec (.brakeStart mv) s = .next (finish s)) ∧
      (1000 * mv < (s.busNominal : Int) * (1000 + s.fg Fld.CNV_BRK_BRK_OFF) →
        ∃ u, exec (.overshootEnd mv) s = .next (finish u) ∧ u.cnv.overshoot = false ∧ u.regs = s.regs ∧
          ∀ g < 12, (u.grp g).brakeBlocked = false) ∧
      ((s.busNominal : Int) * (1000 + s.fg Fld.CNV_BRK_BRK_OFF) ≤ 1000 * mv →
        exec (.overshootEnd mv) s = .next (finish s))) ∧
    (∀ (g : Fin 12) (s : State), Live s → s.follows g = true → s.groupRuns g = true →
      ((s.grp g).absent = false → exec (.syncInLoss g) s = .next (finish
        (((s.setGrp g { s.grp g with lost := true, absent := true, syncN := 0 }).fs (Fld.CNV_CG_FLAG_SYNCLOSS g) 1).fs
          (Fld.CNV_CG_STAT_SYNCLOCK g) 0))) ∧
      exec (.syncInReacquire g) s =
        .next (finish (s.setGrp g { s.grp g with lost := false, absent := false, syncN := 0 })))) ∧
  ((∀ (p : Port) (s : State), Reach p Reg.CNV_CTL s →
      (s.fb Fld.CNV_CTL_SHARE_EN = true → exec (.shareEnable p) s = .next (finish (respond p stOk 0 s))) ∧
      (s.fb Fld.CNV_CTL_SHARE_EN = false → ∃ u, exec (.shareEnable p) s = .next (finish (respond p stOk 0 u)) ∧
        u.fg Fld.CNV_CTL_SHARE_EN = 1 ∧
        ∀ r < 6, s.rtUsed r = true → kvGet (fun _ => 0) u.cnv.share r = s.fg (Fld.CNV_RT_TNOM_TNOM r) ∧ r ∈ u.cnv.fromNom)) ∧
    (∀ (imon : List Int) (s : State), Live s →
      let v := sampleImon imon s
      let mv := if v.fb Fld.CNV_CTL_SHARE_DRV = true ∧ v.ratedTot ≠ 0 then (ratRound (2500 * v.iTot / v.ratedTot)).toNat else 0
      let w := v.setCnv { v.cnv with shareOut := mv }
      (s.phase ≠ phIdle ∨ s.fb Fld.CNV_CTL_SHARE_EN = false → exec (.shareUpdate imon) s = .next (finish w)) ∧
      (s.phase = phIdle → s.fb Fld.CNV_CTL_SHARE_EN = true → ∃ u, exec (.shareUpdate imon) s = .next (finish u) ∧
        u.regs = w.regs ∧ ∀ p ∈ w.sharePorts, p ∉ w.cnv.fromNom → kvGet (fun _ => 0) u.cnv.share p =
          (clampI (w.shareCode p) (w.fg (Fld.CNV_RT_TMIN_TMIN p)) (w.fg (Fld.CNV_RT_TMAX_TMAX p))).toNat)) ∧
    (∀ (p : Fin 6) (s : State), Live s → s.rtUsed p = true → kvGet (fun _ => none) s.cnv.trim p = none →
      let c := s.fg (Fld.CNV_RT_TRIM_TRIM p)
      let aim := if s.phase = phIdle ∧ s.fb Fld.CNV_CTL_SHARE_EN = true then kvGet (fun _ => c) s.cnv.share p else c
      let t := (clampI aim (s.fg (Fld.CNV_RT_TMIN_TMIN p)) (s.fg (Fld.CNV_RT_TMAX_TMAX p))).toNat
      let slew := s.fg Fld.CNV_SHARE_TSLEW
      let v := if c ≤ t then min t (c + slew) else max t (c - slew)
      let u := s.fs (Fld.CNV_RT_TRIM_TRIM p) v
      exec (.trimStep p) s = .next (finish
        (if v = t then u.setCnv { u.cnv with fromNom := u.cnv.fromNom.filter (· != (p : Nat)) } else u))) ∧
    (∀ s : State, Live s →
      let spare : Rat := s.ratedTot * (s.fg Fld.CNV_SHARE_ACLOAD : Rat) / 100 - s.iTot
      (spare < 0 → s.busCharging ≠ [] → 9 ≤ s.cnv.deficitN → s.cnv.acLim = none →
        ∃ u, exec .spareCapacityCheck s = .next (finish u) ∧ u.fg Fld.CNV_STAT_ACLIM = 1 ∧ u.fg Fld.CNV_STAT_ACLIMS = 1 ∧
          u.cnv.acLim.isSome = true) ∧
      ((s.ratedTot : Rat) * 5 / 100 ≤ spare → 999 ≤ s.cnv.ampleN → s.cnv.acLim.isSome = true →
        ∃ u, exec .spareCapacityCheck s = .next (finish u) ∧ u.fg Fld.CNV_STAT_ACLIM = 0 ∧ u.cnv.acLim = none)))

/-! ### Charging, module links and estimation (chapters 09 and 10) -/

/-- R304 to R310: a PV group that has waited with the array above VSTART for 10 s starts at 0.95 of its open-circuit
voltage; it stops by its ramp without demand or after 60 s of low power, and a fault that has lasted stops it at once; a
step tracks, with the means since the last step, between VMIN and 0.95 VOC unless a scan is due; the last step of a scan
takes the best reference. R312 to R320, R322: the ends of a charge, each once its condition has lasted: back to CC,
complete and FULL, held by its limits for 10 s, a cell's overvoltage for 1 s, TSAFE hours on the safety timer; and the
loss of a string that charges, which clamps its groups until they are off, beside a safety timer that has run out. -/
def Obligations.ChargingRuns : Prop :=
  (∀ (g : Fin 12) (s : State), Live s → s.isPv g = true →
      (s.pvState g = 1 → s.fg (Fld.CHG_CG_VWIN_VMIN g) < s.fg (Fld.CHG_CG_VWIN_VSTART g) → s.mode g = 0 →
        bitOf (s.fg Fld.CHG_PVFLT_OUT_OV) g = false → bitOf (s.fg Fld.CHG_PVFLT_PV_REV) g = false →
        s.fb (Fld.CNV_CG_FLAG_OCP g) = false →
        (10000 ≤ (s.chgG g).upMs → ∃ u, exec (.pvGroupStart g) s = .next (finish u) ∧ u.mode g = 4 ∧ u.pvState g = 2 ∧
          (u.chgG g).vref = 95 / 100 * s.vocMean ∧ (u.chgG g).voc = s.vocMean) ∧
        ((s.chgG g).upMs < 10000 → exec (.pvGroupStart g) s = .next (finish s))) ∧
      (2 ≤ s.pvState g →
        ((s.pvDemand g = false ∨ 60000 ≤ (s.chgG g).lowMs) →
          exec (.pvGroupStop g) s = .next (finish (setPv g (if s.pvDemand g = true then 1 else 0)
            (groupStop g (s.setChgG g { s.chgG g with scan := none, scanAge := none }))))) ∧
        (s.pvDemand g = true → (s.chgG g).lowMs < 60000 → exec (.pvGroupStop g) s = .next (finish s))) ∧
      (∀ rev : Bool, s.mode g ≠ 0 → (if rev = true then 10 ≤ (s.chgG g).revMs else 2 ≤ (s.chgG g).ovN) → ∃ u, exec (.pvGroupFault g rev) s = .next (finish u) ∧ u.mode g = 0 ∧ u.pvState g = 0 ∧
        bitOf (u.fg (if rev = true then Fld.CHG_PVFLT_PV_REV else Fld.CHG_PVFLT_OUT_OV)) g = true ∧
        u.flt.lines = s.flt.lines ++ [19]) ∧
      (s.mode g = 4 → (s.pvState g = 2 ∨ s.pvState g = 3) →
        let m := s.pvMeans (s.chgG g).base s.mtr.pv
        let t := s.setChgG g { s.chgG g with base := s.mtr.pv }
        let due := (s.chgG g).scanAge = none ∨
          ∃ a, (s.chgG g).scanAge = some a ∧ 60000 * s.fg (Fld.CHG_CG_MPPT_SCANIVL g) ≤ a
        let held := s.pvState g = 3 ∨ (s.onBus g = true ∧ s.phase ≠ phIdle)
        (due → ¬ held → exec (.mpptStep g) s = .next (finish (scanBegin g t))) ∧
        (¬ due ∨ held → exec (.mpptStep g) s = .next (finish (trackStep g m.1 m.2.1 t)))) ∧
      (∀ (k : Nat) (best : Option (Rat × Rat)), s.mode g = 4 → s.pvState g = 4 → (s.chgG g).scan = some (k, best) →
        let w : Rat := (s.pvMeans ((s.chgG g).mid.getD (s.chgG g).base) s.mtr.pv).2.2
        let top := match best with
          | some (b, v) => if b < w then (w, (s.chgG g).vref) else (b, v)
          | none => (w, (s.chgG g).vref)
        (k < 63 → ∃ u, exec (.mpptScanStep g) s = .next (finish u) ∧ (u.chgG g).vref =
          scanRef (s.chgG g).voc ((s.fg (Fld.CHG_CG_VWIN_VMIN g) : Rat) / 10) (k + 1) ∧
          (u.chgG g).scan = some (k + 1, some top)) ∧
        (63 ≤ k → ∃ u, exec (.mpptScanStep g) s = .next (finish u) ∧ (u.chgG g).vref = top.2 ∧ (u.chgG g).scan = none ∧
          u.pvState g = 2)) ∧
      (∀ v i : Rat,
        let x := ((trackStep g v i s).chgG g).vref
        let vmin : Rat := (s.fg (Fld.CHG_CG_VWIN_VMIN g) : Rat) / 10
        vmin ≤ x ∧ (vmin ≤ 95 / 100 * (s.chgG g).voc → x ≤ 95 / 100 * (s.chgG g).voc))) ∧
  ((∀ (n : Fin 8) (s : State), Live s → s.chgPhase n = 2 →
      (10000 ≤ (s.chgS n).ccMs → exec (.ccReturn n) s = .next (finish (s.fs (Fld.CHG_S_STAT_PHASE n) 1))) ∧
      ((s.chgS n).ccMs < 10000 → exec (.ccReturn n) s = .next (finish s)) ∧
      (s.fg (Fld.CHG_S_LIM_ITERM n) ≠ 0 → 10000 * s.fg Fld.CHG_CFG_TTERM ≤ (s.chgS n).termMs →
        ∃ u, exec (.chargeTermination n) s = .next (finish u) ∧ u.chgPhase n = 3 ∧
          bitOf (u.fg Fld.CHG_STAT_FULL) n = true ∧ bitOf (u.fg Fld.CHG_STAT_CHARGING) n = false) ∧
      (s.fg (Fld.CHG_S_LIM_ITERM n) = 0 ∨ (s.chgS n).termMs < 10000 * s.fg Fld.CHG_CFG_TTERM →
        exec (.chargeTermination n) s = .next (finish s))) ∧
    (∀ (n : Fin 8) (s : State), Live s → s.inEpisode n = true →
      (∀ w, 10000 ≤ (s.chgS n).heldMs → s.heldPower n = some w →
        exec (.chargePowerHeld n) s = .next (finish
          ((s.setChgS n { s.chgS n with held := some w.floor.toNat, heldMs := 0 }).removal (.charge n w.floor.toNat)))) ∧
      ((s.chgS n).heldMs < 10000 → exec (.chargePowerHeld n) s = .next (finish s)) ∧
      (7200000 * s.fg Fld.CHG_CFG_TSAFE ≤ (s.chgS n).half →
        ∃ u, exec (.safetyTimerExpiry n) s = .next (finish u) ∧ u.chgPhase n = 0 ∧
          bitOf (u.fg Fld.CHG_FAULT_TMR_EXP) n = true ∧
          u.fg (Fld.CHG_S_TIMER_ELAPSED n) = 0 ∧ Removal.charge n 0 ∈ u.removals) ∧
      ((s.chgS n).half < 7200000 * s.fg Fld.CHG_CFG_TSAFE → exec (.safetyTimerExpiry n) s = .next (finish s))) ∧
    (∀ (n : Fin 8) (s : State), Live s →
      (1000 ≤ (s.chgS n).ovMs → ∃ u, exec (.cellOv n) s = .next (finish (chargeStop n u)) ∧
        bitOf (u.fg Fld.CHG_FAULT_CELL_OV) n = true ∧ u.flt.lines = s.flt.lines ++ [19]) ∧
      ((s.chgS n).ovMs < 1000 → exec (.cellOv n) s = .next (finish s))) ∧
    (∀ (n : Fin 8) (s : State), Live s → s.chargers n ≠ [] →
      ∃ u, exec (.stringLossCharging n) s = .next (finish u) ∧ bitOf (u.fg Fld.CHG_FAULT_BATT_LOST) n = true ∧
        (s.timerOut n = true → bitOf (u.fg Fld.CHG_FAULT_TMR_EXP) n = true) ∧
        bitOf (u.fg Fld.CHG_STAT_LOST) n = true ∧ u.fg (Fld.EST_S_STAT_STALE n) = 1 ∧ Removal.string n ∈ u.removals ∧
        ∀ g ∈ s.chargers n, (u.chgG g).clamp = true ∧ (u.grp g).released = false) ∧
    (∀ (g : Fin 12) (s : State), Live s →
      (s.mode g = 0 → exec (.clampRelease g) s = .next (finish (s.setChgG g { s.chgG g with clamp := false }))) ∧
      (s.mode g ≠ 0 → exec (.clampRelease g) s = .next (finish s))))

/-- R323 to R326, R331, R337: EN needs a legal bit timing; a frame the controller hears is counted, and counted again where
an entry matches; a poll goes to its buses that may transmit; the error state follows the error counters. -/
def Obligations.CanControllersCount : Prop :=
  (∀ (p : Port) (c : Fin 2) (s : State), Reach p (Reg.CAN_C_CFG c) s →
    (s.canTiming c = false → exec (.canEnable p c true) s = .next (finish (respond p stDecodeErr 0 s))) ∧
    (s.canTiming c = true → exec (.canEnable p c true) s = .next (finish (respond p stOk 0 (s.fs (Fld.CAN_C_CFG_EN c) 1)))) ∧
    exec (.canEnable p c false) s = .next (finish (respond p stOk 0
      ((s.setCan { s.can with due := s.can.due.filter (fun p => p.1 % 2 != (c : Nat)) }).fs (Fld.CAN_C_CFG_EN c) 0)))) ∧
  (∀ (c : Fin 2) (frame : Word) (esi : Bool) (data : List Byte) (sub : Nat) (s : State), Live s →
    let v := aclkTo sub s
    (v.canListens c = false → ∀ remote, exec (.canFrameReceived c frame esi remote data sub) s = .next (finish v)) ∧
    (v.canListens c = true → bitOf frame.toNat 30 = false →
      exec (.canFrameReceived c frame esi true data sub) s = .next (finish (canReceived c v)) ∧
      ∃ u, exec (.canFrameReceived c frame esi false data sub) s = .next (finish u) ∧
        u.fg (Fld.CAN_C_CNT_RX c) = (v.fg (Fld.CAN_C_CNT_RX c) + 1) % 2 ^ (Fld.CAN_C_CNT_RX c).width ∧
        ((∀ i < v.fmtCount, fmtMatches (v.fmt i) c frame.toNat = false) →
          u.fg (Fld.CAN_C_CNT_MATCH c) = v.fg (Fld.CAN_C_CNT_MATCH c)) ∧
        ((∃ i < v.fmtCount, fmtMatches (v.fmt i) c frame.toNat = true) →
          u.fg (Fld.CAN_C_CNT_MATCH c) = (v.fg (Fld.CAN_C_CNT_MATCH c) + 1) % 2 ^ (Fld.CAN_C_CNT_MATCH c).width))) ∧
  (∀ (i : Fin 64) (s : State), Live s → (i : Nat) < s.fmtCount → u16At (s.fmt i) 18 ≠ 0 →
    (s.awake = true ∨ (s.powerState = 1 ∧ s.est.burst = true)) →
    let f : Nat × List Byte := (u32At (s.fmt i) 20, ((s.fmt i).drop 28).take (byteAt (s.fmt i) 24))
    ∃ u, exec (.canPoll i) s = .next (finish u) ∧ ∀ c < 2, bitOf (byteAt (s.fmt i) 8) c = true →
      s.fb (Fld.CAN_C_CFG_LISTEN c) = false →
      (s.canListens c = true → kvGet (fun _ => none) u.can.tx c = some f) ∧
      (s.fb (Fld.CAN_C_CFG_EN c) = true → s.canListens c = false → u.pollDue i c = some f)) ∧
  (∀ s : State, Live s → s.powerState = 1 →
    (s.est.burst = false → exec .canWatchBurst s = .next (finish
      ((List.range s.fmtCount).foldl (fun s i => canPoll i s)
        (burstClocks true (s.setEst { s.est with burst := true, burstDue := false }))))) ∧
    (s.est.burst = true → exec .canWatchBurst s = .next (finish (s.setEst { s.est with burstDue := true })))) ∧
  (∀ (c : Fin 2) (s : State), Live s → s.canState c = 2 →
    ∃ u, exec (.busOffRecovery c) s = .next (finish u) ∧ u.canState c = 0 ∧ u.fg (Fld.CAN_C_STAT_TEC c) = 0 ∧
      u.fg (Fld.CAN_C_STAT_REC c) = 0) ∧
  (∀ (c : Fin 2) (kind : Fin 3) (s : State), Live s → s.canListens c = true → s.fb (Fld.CAN_C_CFG_LISTEN c) = false →
    let t := s.fg (Fld.CAN_C_STAT_TEC c)
    let r := s.fg (Fld.CAN_C_STAT_REC c)
    exec (.canBusError c kind) s = .next (finish (if kind = 0 then canErrorState c (t + 8) r s
      else canErrorState c t (min 255 (r + (if kind = 1 then 1 else 8))) s))) ∧
  (∀ (c : Fin 2) (t r : Nat) (s : State),
    let u := canErrorState c t r s
    u.fg (Fld.CAN_C_STAT_TEC c) = min 255 t ∧ u.fg (Fld.CAN_C_STAT_REC c) = min 255 r ∧
    u.canState c = (if 255 < t then 2 else if 127 < t ∨ 127 < r then 1 else 0) ∧
    (255 < t → s.canState c ≠ 2 → u.fg (Fld.CAN_C_STAT_BOFF c) = 1 ∧ u.flt.lines = s.flt.lines ++ [21])) ∧
  (∀ (m : Fin 128) (s : State), Live s → s.awake = true →
    exec (.presenceTimeout m) s = .next (finish (stringLost ((m : Nat) / 16) (s.fs (presFld m) 0))))

/-- R346, R350, R355 to R358: the estimator starts with no update counted, each update counts and takes in what the host
wrote; a write of learned values issues the words of the slot that does not hold the newest, its commit word last, and is
complete once all have been written; switching persistence off issues both commit words as 0; a host value is judged
against the module it names. Model's choice: Exact arithmetic is log entry 17. -/
def Obligations.EstimatorUpdatesAndPersists : Prop :=
  (∀ s : State, Live s → s.fb Fld.EST_STAT_RUN = false → s.image.isSome = true → s.rst.firmware = true →
    ∃ u, exec .estimatorStart s = .next (finish u) ∧ u.fg Fld.EST_STAT_RUN = 1 ∧ u.rd Reg.EST_UPDCNT = 0 ∧
      u.est.last = s.aclk ∧ u.est.host = s.est.host ∧
      (∀ i < 4, u.rd (Reg.CAN_PRES i) = 0)) ∧
  (∀ (sub : Nat) (s : State), Live s →
    let v := aclkTo sub s
    (v.fb Fld.EST_STAT_RUN = true → v.awake = true → ∃ u, exec (.estimatorUpdate sub) s = .next (finish u) ∧
      u.rd Reg.EST_UPDCNT = v.rd Reg.EST_UPDCNT + 1 ∧ u.est.last = v.aclk ∧ u.est.host = []) ∧
    (v.fb Fld.EST_STAT_RUN = false → v.awake = true → exec (.estimatorUpdate sub) s = .next (finish v)) ∧
    (v.powerState = 1 → v.est.burst = true → v.est.burstDue = false → ∃ u, exec (.estimatorUpdate sub) s = .next (finish u) ∧
      u.est.burst = false ∧ u.fg Fld.CLK_STAT_PLL_LOCK = 0)) ∧
  (∀ s : State, Live s →
    let seq := max (s.estSlotSeq 0) (s.estSlotSeq 1) + 1
    let k := if s.estSlotSeq 1 ≤ s.estSlotSeq 0 ∧ s.estSlotSeq 0 ≠ 0 then 1 else 0
    (estWords s).getLast? = some (estSlotAt k + 0x1024, BitVec.ofNat 32 (0xC3000000 + seq)) ∧
    (s.nvWaits wLearned = true → exec .estimatorNvWrite s = .next (finish s)) ∧
    (s.nvWaits wLearned = false → s.nvBusy wLearned = false → s.fb Fld.EST_CFG_PERS = true → s.fb Fld.EST_STAT_RUN = true →
      (seq ≤ 0xFFFFFF → ∃ u, exec .estimatorNvWrite s = .next (finish u) ∧ u.fg Fld.EST_NV_WRITING = 1 ∧
        u.nvm.words = s.nvm.words ++ (estWords s).map (fun x => (wLearned, x.1, x.2)) ∧ u.est.nvReq = false)) ∧
    (s.nvWaits wLearned = false → s.nvBusy wLearned = true → s.fb Fld.EST_CFG_PERS = true →
      ∃ u, exec .estimatorNvWrite s = .next (finish u) ∧ u.nvBusy wLearned = false ∧
        u.fg Fld.EST_NV_SEQ = max (s.estSlotSeq 0) (s.estSlotSeq 1) % 2 ^ Fld.EST_NV_SEQ.width ∧
        u.fg Fld.EST_NV_SLOT = (if s.estSlotSeq 0 < s.estSlotSeq 1 then 1 else 0) ∧
        u.est.lastNv = s.aclk + 300 * 32768)) ∧
  (∀ (p : Port) (s : State), Reach p Reg.EST_CTL s → exec (.estSave p) s = .next (finish (respond p stOk 0
    (if s.fb Fld.EST_CFG_PERS = true ∧ s.fb Fld.EST_STAT_RUN = true then
      (s.setEst { s.est with nvReq := true, nvNow := true }).fs Fld.EST_NV_WRITING 1 else s)))) ∧
  (∀ (p : Port) (s : State), Reach p Reg.EST_CFG s → ∃ u, exec (.persVolatileWrite p) s = .next (finish (respond p stOk 0 u)) ∧
    u.fg Fld.EST_CFG_PERS = 0 ∧ u.est.nvReq = false ∧
    u.nvm.words = s.nvm.words ++ [(wLearned, estSlotAt 0 + 0x1024, 0), (wLearned, estSlotAt 1 + 0x1024, 0)]) ∧
  (∀ (p : Port) (m : Fin 128) (v : Word) (s : State), Reach p (Reg.EST_M_LCAP m) s →
    let cap := fldOf v 0 24
    let sig := fldOf v 24 8
    let ok := s.modUsed m = true ∧ s.modCells m ≠ 0 ∧ 300 * s.modCapacity m ≤ 10 * cap ∧ 10 * cap ≤ 1200 * s.modCapacity m ∧
      5 ≤ sig ∧ sig ≤ 200
    (ok → exec (.moduleValueWrite p m false v) s =
      .next (finish (respond p stOk 0 (s.setEst { s.est with host := s.est.host ++ [(Reg.EST_M_LCAP m, v)] })))) ∧
    (¬ ok → exec (.moduleValueWrite p m false v) s = .next (finish (respond p stDecodeErr 0 s)))) ∧
  (∀ (p : Port) (m : Fin 128) (v : Word) (s : State), Reach p (Reg.EST_M_HLTH m) s → s.modUsed m = true → s.modCells m ≠ 0 →
    curveRcell (s.modCurveB m) ≤ 4 * fldOf v 16 16 → fldOf v 16 16 ≤ 4 * curveRcell (s.modCurveB m) →
    exec (.moduleValueWrite p m true v) s =
      .next (finish (respond p stOk 0 (s.setEst { s.est with host := s.est.host ++ [(Reg.EST_M_HLTH m, v)] }))))

/-! ### Protection, rails and the sequencer (chapter 11) -/

/-- R362 to R367, R369: a tick shows a channel's current and voltages; a channel waits until its input has been in its
window for the qualification time, then starts with its timer and its SOA budget at zero; at its limit the fault timer
runs, and at its end the channel trips with cause TIMER; a current beyond 3 × ILIM trips it with cause SHORT; a gate below
1 V is off, and one that is not raises GOFF; EN is refused outside the range of ILIM × RSNS, and a fall of the combined
enable switches the channel off; a cap that has been exceeded for GRACE is enforced. R370, R371, R373: a feed whose
selected member is no longer healthy changes over to the healthy member of highest priority, by way of a dead time after
the gate is off; it returns to a better member that has been healthy for RETQ; without a healthy member it is lost; and
while none of this holds it stays as it is. -/
def Obligations.EfusesAndFeeds : Prop :=
  ((∀ (c : Fin 8) (uv : Int) (vi vo : Nat) (s : State), Live s →
      (∃ u, exec (.efuseTick c uv vi vo) s = .next (finish u) ∧
        u.fg (Fld.EFU_CH_VMON_VI c) = vi % 2 ^ (Fld.EFU_CH_VMON_VI c).width ∧
        u.fg (Fld.EFU_CH_VMON_VO c) = vo % 2 ^ (Fld.EFU_CH_VMON_VO c).width ∧
        (s.eState c = 0 ∨ s.eState c = 5 → u.eState c = s.eState c)) ∧
      (s.feedOf c = none → 10 * s.fg (Fld.EFU_CH_VWIN_UVIN c) ≤ vi → vi ≤ 10 * s.fg (Fld.EFU_CH_VWIN_OVIN c) →
        (s.eState c = 1 →
          ((s.efu c).vOk = true ∨ 50000 ≤ (s.efu c).okFor + s.efuTick →
            ∃ u, exec (.efuseTick c uv vi vo) s = .next (finish u) ∧ u.eState c = 2 ∧ (u.efu c).ft = 0 ∧ (u.efu c).x = 0 ∧
              u.rd (Reg.EFU_CH_SOAX c) = 0) ∧
          ((s.efu c).vOk = false → (s.efu c).okFor + s.efuTick < 50000 →
            ∃ u, exec (.efuseTick c uv vi vo) s = .next (finish u) ∧ u.eState c = 1 ∧
              (u.efu c).okFor = (s.efu c).okFor + s.efuTick)) ∧
        (2 ≤ s.eState c → s.eState c ≤ 4 → s.fg (Fld.EFU_CH_CAP_CAP c) = 0xFFFF → s.fg (Fld.EFU_CH_SOA_SOA c) = 0 →
          ((s.fg (Fld.EFU_CH_LIM_ILIM c) : Rat) / 100 ≤ s.efuAmps c uv →
            ((s.efu c).ft + s.efuTick < (100 * s.fg (Fld.EFU_CH_LIM_FT c) : Nat) →
              ∃ u, exec (.efuseTick c uv vi vo) s = .next (finish u) ∧ u.eState c = 4 ∧
                (u.efu c).ft = (s.efu c).ft + s.efuTick) ∧
            (((100 * s.fg (Fld.EFU_CH_LIM_FT c) : Nat) : Rat) ≤ (s.efu c).ft + s.efuTick →
              ∃ u, exec (.efuseTick c uv vi vo) s = .next (finish u) ∧ u.eState c = 5 ∧ u.fg (Fld.EFU_CH_FLAG_CAUSE c) = 1 ∧
                (u.efu c).gateOff = false)) ∧
          (s.efuAmps c uv < (s.fg (Fld.EFU_CH_LIM_ILIM c) : Rat) / 100 → s.eState c = 3 →
            max 0 ((s.efu c).ft - s.efuTick / 8) < (100 * s.fg (Fld.EFU_CH_LIM_FT c) : Nat) →
            ∃ u, exec (.efuseTick c uv vi vo) s = .next (finish u) ∧ u.eState c = 3 ∧
              (u.efu c).ft = max 0 ((s.efu c).ft - s.efuTick / 8))))) ∧
    (∀ (c : Fin 8) (s : State), Live s →
      (∀ uv : Int, s.gateOn c = true → ((3 * s.fg (Fld.EFU_CH_LIM_ILIM c) : Nat) : Rat) < 100 * s.efuAmps c uv →
        ∃ u, exec (.hardShort c uv) s = .next (finish u) ∧ u.eState c = 5 ∧ u.fg (Fld.EFU_CH_FLAG_CAUSE c) = 3 ∧
          (u.efu c).gateOff = false ∧ bitOf (u.fg Fld.EFU_STAT_TRIPPED) c = true) ∧
      (∀ uv : Int, s.gateOn c = false ∨ 100 * s.efuAmps c uv ≤ ((3 * s.fg (Fld.EFU_CH_LIM_ILIM c) : Nat) : Rat) →
        exec (.hardShort c uv) s = .next (finish s)) ∧
      (∀ mv : Int, s.gateOn c = false →
        (mv < 1000 → ∃ u, exec (.gateOffCheck c mv) s = .next (finish u) ∧ (u.efu c).gateOff = true ∧
          ((s.efu c).rise = true → s.efuEnabled c = true → u.eState c = 1)) ∧
        (1000 ≤ mv → ∃ u, exec (.gateOffCheck c mv) s = .next (finish u) ∧ u.fg (Fld.EFU_CH_FLAG_GOFF c) = 1)) ∧
      (∀ mv : Int, s.gateOn c = true → exec (.gateOffCheck c mv) s = .next (finish s)) ∧
      (∀ level : Bool, exec (.efuseEnableBall c level) s = .next (finish (enableChanged c (s.efuEnabled c)
        (s.setEfu c { s.efu c with ball := level || (s.ballOf (0x50 + c)).isNone })))) ∧
      (bitOf (s.fg Fld.EFU_THR_REQ) c = true → ((100000 * s.fg Fld.EFU_THR_GRACE : Nat) : Rat) ≤ (s.efu c).reqFor →
        exec (.capGraceExpiry c) s = .next (finish (s.fs Fld.EFU_THR_ENF (setBit (s.fg Fld.EFU_THR_ENF) c true)))) ∧
      (bitOf (s.fg Fld.EFU_THR_REQ) c = false ∨ (s.efu c).reqFor < ((100000 * s.fg Fld.EFU_THR_GRACE : Nat) : Rat) →
        exec (.capGraceExpiry c) s = .next (finish s))) ∧
    (∀ (p : Port) (c : Fin 8) (s : State), Reach p (Reg.EFU_CH_EN c) s →
      let v := s.fg (Fld.EFU_CH_LIM_ILIM c) * s.fg (Fld.EFU_CH_RSNS_RSNS c)
      (v < 500000 ∨ 10000000 < v → exec (.efuseEnableWrite p c true) s = .next (finish (respond p stDecodeErr 0 s))) ∧
      (500000 ≤ v → v ≤ 10000000 → exec (.efuseEnableWrite p c true) s = .next (finish (respond p stOk 0
        (enableChanged c (s.efuEnabled c) (s.fs (Fld.EFU_CH_EN_EN c) 1))))) ∧
      (s.efuEnabled c = true → ∃ u, exec (.efuseEnableWrite p c false) s = .next (finish (respond p stOk 0 u)) ∧
        u.eState c = 0 ∧ (u.efu c).vOk = false) ∧
      (s.efuEnabled c = false → exec (.efuseEnableWrite p c false) s = .next (finish (respond p stOk 0
        (s.fs (Fld.EFU_CH_EN_EN c) 0))))) ∧
    (∀ (c : Nat) (s : State),
      (s.efuEnabled c = true → (s.efu c).gateOff = true → (enableChanged c false s).eState c = 1) ∧
      (s.efuEnabled c = true → (s.efu c).gateOff = false → ((enableChanged c false s).efu c).rise = true) ∧
      (s.efuEnabled c = false → (enableChanged c true s).eState c = 0))) ∧
  (∀ (f : Fin 3) (s : State), Live s →
      (∀ i, s.feedCount f ≠ 0 → s.feedStep f = 0 → s.bestMember f = some i →
        (∀ c, s.selected f = some c → s.healthy c = false) →
        exec (.feedChangeover f) s = .next (finish (changeoverStart f s))) ∧
      (s.feedCount f ≠ 0 → s.feedStep f = 0 → s.bestMember f = none → s.selected f = none → s.fb (Fld.EFU_F_STAT_LOST f) = false →
        exec (.feedChangeover f) s = .next (finish (feedLost f s))) ∧
      (s.feedCount f ≠ 0 → s.feedStep f = 0 → s.bestMember f = none → s.fb (Fld.EFU_F_STAT_LOST f) = false →
        ∀ c, s.selected f = some c → s.healthy c = false → exec (.feedChangeover f) s = .next (finish
          (feedLost f (if s.gateOn c = true then (dischargeGate c s).setEState c 1 else s)))) ∧
      (s.feedCount f = 0 ∨ s.feedStep f ≠ 0 ∨ (∃ c, s.selected f = some c ∧ s.healthy c = true) →
        exec (.feedChangeover f) s = .next (finish s)) ∧
      (s.feedStep f = 0 → s.mayReturn f = true → exec (.feedReturn f) s = .next (finish (changeoverStart f s))) ∧
      (s.mayReturn f = false → exec (.feedReturn f) s = .next (finish s)) ∧
      (∀ i, s.feedStep f = 2 → s.bestMember f = some i → exec (.deadTimeElapsed f) s = .next (finish
        (efuseStart ((s.feedMembers f).getD i 0) ((s.fs (Fld.EFU_F_STAT_SEL f) i).setFeedStep f 3)))) ∧
      (s.feedStep f = 2 → s.bestMember f = none → exec (.deadTimeElapsed f) s = .next (finish (feedLost f s))) ∧
      (s.feedStep f ≠ 2 → exec (.deadTimeElapsed f) s = .next (finish s)) ∧
      (changeoverStart f s).fg (Fld.EFU_F_STAT_CHG f) = 1 ∧
      ((feedLost f s).fg (Fld.EFU_F_STAT_LOST f) = 1 ∧ (feedLost f s).fg (Fld.EFU_F_STAT_SEL f) = 3 ∧
        (feedLost f s).fg (Fld.EFU_F_FLAG_FEEDLOST f) = 1))

/-- R376 to R380, R318: a contactor goes from OPEN over PRECHARGE, for its times, and CLOSING to CLOSED; every failure on
the way, a drop, with the loss of a string that charges, and a weld latch their flag, release both drives and end in
FAULT; reading KFLAG clears it and frees a contactor whose feedback is open. R382: an emergency stop opens every contactor
that is not open and says so; without an image the pin is only shown. Its release clears the level alone. -/
def Obligations.ContactorsMove : Prop :=
  ((∀ (p : Port) (n : Fin 8) (s : State), Reach p (Reg.EFU_S_KCTL n) s →
      (s.strUsed n = false ∨ s.strCarries n = false →
        exec (.contactorCloseRequest p n) s = .next (finish (respond p stDecodeErr 0 s))) ∧
      (s.strUsed n = true → s.strCarries n = true →
        let fed := s.shelfFeed (s.strShelf n)
        let bar := s.awake = false ∨ s.fb Fld.EFU_STAT_ESTOP = true ∨ s.kState n ≠ 0 ∨
          (fed < 3 ∧ s.fb (Fld.EFU_F_STAT_LOST fed) = true)
        (bar → exec (.contactorCloseRequest p n) s = .next (finish (respond p stHeld 0 s))) ∧
        (¬ bar → exec (.contactorCloseRequest p n) s =
          .next (finish (respond p stOk 0 ((setK n 1 0 1 s).fs (Fld.EFU_S_KCTL_REQ n) 1))))) ∧
      (s.orderNames n = true → exec (.contactorOpenRequest p n) s = .next (finish (respond p stHeld 0 s))) ∧
      (s.orderNames n = false → s.phase = phIdle → exec (.contactorOpenRequest p n) s =
        .next (finish (respond p stOk 0 ((contactorOpen n s).fs (Fld.EFU_S_KCTL_REQ n) 0))))) ∧
    (∀ (n : Fin 8) (s : State), Live s →
      (s.kState n = 1 →
        (409600 ≤ (s.preTimes n).1 → 163840 ≤ (s.preTimes n).2 →
          exec (.prechargeComplete n) s = .next (finish (setK n 2 1 1 s))) ∧
        ((s.preTimes n).1 < 409600 ∨ (s.preTimes n).2 < 163840 → exec (.prechargeComplete n) s = .next (finish s)) ∧
        (8192 * s.strPrecharge n ≤ (s.preTimes n).1 → exec (.prechargeTimeout n) s = .next (finish (contactorFail n 0 s))) ∧
        ((s.preTimes n).1 < 8192 * s.strPrecharge n → exec (.prechargeTimeout n) s = .next (finish s))) ∧
      exec (.kfClosed n) s = .next (finish (s.fs (Fld.EFU_S_KSTAT_KF n) 1)) ∧
      (s.kState n = 2 → s.fb (Fld.EFU_S_KSTAT_KF n) = false →
        exec (.kfFail n) s = .next (finish (contactorFail n 1 s))) ∧
      (s.kState n = 2 → s.fb (Fld.EFU_S_KSTAT_KF n) = true → exec (.overlapEnd n) s = .next (finish (setK n 3 1 0 s))) ∧
      (s.kState n = 3 → s.charging n = false → exec (.kfDrop n) s = .next (finish
        (((contactorFail n 2 (s.fs (Fld.EFU_S_KSTAT_KF n) 0)).removal (.string n)).waveTrigger 3 n))) ∧
      (s.kState n = 3 → s.charging n = true → s.chargers n ≠ [] → ∃ u, exec (.kfDrop n) s = .next (finish u) ∧ u.kState n = 5 ∧
        bitOf (u.fg Fld.CHG_FAULT_BATT_LOST) n = true ∧ bitOf (u.rd (Reg.EFU_S_KFLAG n)).toNat 2 = true ∧
        Removal.string n ∈ u.removals) ∧
      (s.kState n = 0 ∨ s.kState n = 4 →
        (s.entersDormant = false →
          exec (.kfWeld n) s = .next (finish (contactorFail n 3 (s.fs (Fld.EFU_S_KSTAT_KF n) 1)))) ∧
        (s.entersDormant = true → ∃ u, exec (.kfWeld n) s = .next (finish u) ∧ u.kState n = 5 ∧
          bitOf (u.rd (Reg.EFU_S_KFLAG n)).toNat 3 = true ∧ 22 ∈ u.flt.quiet)) ∧
      (s.kState n = 4 → exec (.kfOpened n) s = .next (finish ((s.fs (Fld.EFU_S_KSTAT_KF n) 0).fs (Fld.EFU_S_KSTAT_STATE n)
        (if s.rd (Reg.EFU_S_KFLAG n) = 0 then 0 else 5)))) ∧
      (∀ b < 5, let u := contactorFail n b s
        u.kState n = 5 ∧ u.fg (Fld.EFU_S_KSTAT_KM n) = 0 ∧ u.fg (Fld.EFU_S_KSTAT_KP n) = 0 ∧
        bitOf (u.rd (Reg.EFU_S_KFLAG n)).toNat b = true)) ∧
    (∀ (p : Port) (n : Fin 8) (s : State), Reach p (Reg.EFU_S_KFLAG n) s →
      let v := s.wr (Reg.EFU_S_KFLAG n) 0
      exec (.kflagRead p n) s = .next (finish (respondRead p [s.rd (Reg.EFU_S_KFLAG n)] stOk
        (if s.kState n = 5 then (if s.fb (Fld.EFU_S_KSTAT_KF n) = true then latchK n 3 v else v.fs (Fld.EFU_S_KSTAT_STATE n) 0)
         else v))))) ∧
  ((∀ s : State, Live s → s.image.isSome = true →
      ∃ u, exec .estopAssert s = .next (finish u) ∧ u.fg Fld.EFU_STAT_ESTOP = 1 ∧ u.fg Fld.EFU_STAT_ESTOPS = 1 ∧
        22 ∈ u.flt.lines ∧ ∀ n < 8, (s.kState n = 1 ∨ s.kState n = 2 ∨ s.kState n = 3 → u.kState n = 4 ∧
          u.fg (Fld.EFU_S_KSTAT_KM n) = 0 ∧ u.fg (Fld.EFU_S_KSTAT_KP n) = 0 ∧ bitOf (u.rd (Reg.EFU_S_KFLAG n)).toNat 4 = true ∧
          Removal.string n ∈ u.removals) ∧ (s.kState n = 0 → u.kState n = 0)) ∧
    (∀ s : State, Live s → s.image = none → exec .estopAssert s = .next (finish (s.fs Fld.EFU_STAT_ESTOP 1).wakeDormant)) ∧
    (∀ s : State, Live s → exec .estopRelease s = .next (finish (s.fs Fld.EFU_STAT_ESTOP 0).wakeDormant)))

/-- R386, R387, R389 to R392: every millisecond a tick shows every rail's voltage, and counts the time of a rail at its
current limit; a level sets after its count beyond and clears after ten within its hysteresis; a fault latches, drops PG
and acts by ACT outside a power-down; 1 ms of overcurrent switches its rail off. R394 to R399, R402, R403: the sequences
start at their first step, the device's own once VSYS has been up for 100 ms, go on from step to step after each DELAY,
end with UPDONE or DNDONE, and turn down when a step of power-up runs past its TIMEOUT; a reset output leaves at the end
of its stretch; an input collapse in a sequence leads down, and ends after 100 ms. -/
def Obligations.RailsAndSequences : Prop :=
  ((∀ (mv : List Nat) (vsys ilim : Nat) (s : State), Live s →
      ∃ u, exec (.sequencerTick mv vsys ilim) s = .next (finish u) ∧
        u.seqr.msN = (if 99 ≤ s.seqr.msN then 0 else s.seqr.msN + 1) ∧
        (99 ≤ s.seqr.msN → ∀ k < 32, u.fg (Fld.SEQ_R_STAT_MV k) = mv.getD k 0 % 2 ^ (Fld.SEQ_R_STAT_MV k).width)) ∧
    (∀ (k : Nat) (ilim : Bool) (s : State), let u := railRamp k ilim s
      (u.railTimes k).2 = (if ilim = true ∧ s.railOn k = true then (s.railTimes k).2 + 1 else 0) ∧
      u.fg (Fld.RGL_R_STAT_ILIM k) = (if ilim = true ∧ s.railOn k = true then 1 else 0) ∧
      (s.fb (Fld.RGL_R_STAT_SOFT k) = true → 10 * s.fg (Fld.RGL_R_CFG_SST k) ≤ (s.railTimes k).1 + 1 →
        u.fg (Fld.RGL_R_STAT_SOFT k) = 0)) ∧
    (∀ (setN lvl v beyond inside : Nat) (uv : Bool), 0 < setN → 0 < lvl →
      let r := levelTick setN lvl v uv true beyond inside
      (r.2.2 = some true ↔ (if uv = true then v < lvl else lvl < v) ∧ setN ≤ beyond + 1) ∧
      (r.2.2 = some false ↔ (if uv = true then 101 * lvl ≤ 100 * v else 100 * v ≤ 99 * lvl) ∧ 10 ≤ inside + 1)) ∧
    (∀ (k : Fin 32) (ov : Bool) (s : State), Live s →
      let bit := if ov = true then 3 else 1
      (bitOf (s.rd (Reg.SEQ_R_STAT k)).toNat bit = true → exec (.railFaultSet k ov) s = .next (finish s)) ∧
      (bitOf (s.rd (Reg.SEQ_R_STAT k)).toNat bit = false → s.goingDown = true →
        exec (.railFaultSet k ov) s = .next (finish (railSet k bit s))) ∧
      (bitOf (s.rd (Reg.SEQ_R_STAT k)).toNat bit = false → s.goingDown = false → s.fg (Fld.SEQ_R_ACT_ACT k) = 0 →
        exec (.railFaultSet k ov) s = .next (finish ((railSet k bit s).driveLine 24))) ∧
      (bitOf (s.rd (Reg.SEQ_R_STAT k)).toNat bit = false → s.goingDown = false → s.fg (Fld.SEQ_R_ACT_ACT k) = 2 →
        exec (.railFaultSet k ov) s = .next (finish (downStart ((railSet k bit s).driveLine 24)))) ∧
      exec (.railWarningSet k ov) s = .next (finish (railSet k (if ov = true then 2 else 0) s))) ∧
    (∀ (k : Fin 32) (bit : Fin 4) (s : State),
      bitOf ((railSet k bit s).rd (Reg.SEQ_R_FLAG k)).toNat bit = true ∧
      bitOf ((railSet k bit s).rd (Reg.SEQ_R_STAT k)).toNat bit = true) ∧
    (∀ (k : Fin 8) (s : State), Live s → s.railOn k = true →
      (100 ≤ (s.railTimes k).2 → ∃ u, exec (.railOvercurrent k) s = .next (finish u) ∧
        u.railOn k = false ∧ u.fg (Fld.RGL_R_FLAG_OC k) = 1) ∧
      ((s.railTimes k).2 < 100 → exec (.railOvercurrent k) s = .next (finish s)))) ∧
  ((∀ (p : Port) (s : State), Reach p Reg.SEQ_CTL s →
      (s.seqRuns = true → exec (.powerUpSequence (some p)) s = .next (finish (respond p stBusy 0 s))) ∧
      (s.seqRuns = false → s.image = none → exec (.powerUpSequence (some p)) s = .next (finish (respond p stHeld 0 s))) ∧
      (s.seqRuns = false → s.image.isSome = true →
        exec (.powerUpSequence (some p)) s = .next (finish (respond p stOk 0 (upStart s)))) ∧
      exec (.powerDownSequence (some p)) s = .next (finish (respond p stOk 0 (downStart s)))) ∧
    (∀ s : State, Live s → s.pwr.upDue = true → s.fb Fld.SEQ_STAT_COLLAPSE = false → s.seqRuns = false → s.image.isSome = true →
      (10000 ≤ s.seqr.okN → exec (.powerUpSequence none) s = .next (finish
        (let u := upStart s
         u.setPwr { u.pwr with upDue := false }))) ∧
      (s.seqr.okN < 10000 → exec (.powerUpSequence none) s = .next (finish s))) ∧
    (∀ s : State, Live s → exec (.powerDownSequence none) s = .next (finish (downStart s))) ∧
    (∀ s : State, ((upStart s).fg Fld.SEQ_STAT_RUN = 1 ∧ (upStart s).fg Fld.SEQ_STAT_DIR = 0 ∧ (upStart s).stepNo = 0) ∧
      (s.goingDown = false → (downStart s).goingDown = true ∧ (downStart s).stepNo = 0 ∧
        ∀ k < 32, (downStart s).fg (Fld.SEQ_R_STAT_EXP k) = 0 ∧ (downStart s).fg (Fld.SEQ_R_STAT_PG k) = 0)) ∧
    (∀ s : State, Live s → s.seqRuns = true → s.seqr.stage = 1 →
      let v := s.setSeqr { s.seqr with stage := 2, stepN := 0 }
      (∀ k, railOfCheck s.stepCheck = some k → s.fb Fld.SEQ_STAT_DIR = false → exec .sequenceStepComplete s =
        .next (finish ((v.fs (Fld.SEQ_R_STAT_EXP k) 1).fs (Fld.SEQ_R_STAT_PG k) 1))) ∧
      (railOfCheck s.stepCheck = none ∨ s.fb Fld.SEQ_STAT_DIR = true → exec .sequenceStepComplete s = .next (finish v)) ∧
      (s.seqr.stepN < 100 * s.stepTimeout → exec .powerUpStepTimeout s = .next (finish s) ∧
        exec .powerDownStepTimeout s = .next (finish s)) ∧
      (s.fb Fld.SEQ_STAT_DIR = false → s.stepTarget < 0x20 → 100 * s.stepTimeout ≤ s.seqr.stepN → exec .powerUpStepTimeout s =
        .next (finish (downStart ((s.fs Fld.SEQ_STAT_SEQ_PUF 1).driveLine 24)))) ∧
      (s.fb Fld.SEQ_STAT_DIR = true → 100 * s.stepTimeout ≤ s.seqr.stepN → ∃ u, exec .powerDownStepTimeout s = .next (finish u) ∧ u.fg Fld.SEQ_STAT_SEQ_PDF = 1 ∧
        u.seqr.stage = 2 ∧ u.flt.lines = s.flt.lines ++ [5])) ∧
    (∀ s : State, Live s → s.seqRuns = true → s.seqr.stage = 2 → s.seqr.stepN < 100 * s.stepDelay →
      exec .sequenceDelayElapsed s = .next (finish s)) ∧
    (∀ s : State, Live s → s.seqRuns = true → s.seqr.stage = 2 → 100 * s.stepDelay ≤ s.seqr.stepN →
      (s.stepNo + 1 < s.stepCount → exec .sequenceDelayElapsed s = .next (finish
        ((s.fs Fld.SEQ_STAT_STEP (s.stepNo + 1)).setSeqr { s.seqr with stage := 0, checkN := 0 }))) ∧
      (s.stepCount ≤ s.stepNo + 1 → s.fb Fld.SEQ_STAT_DIR = false → exec .sequenceDelayElapsed s =
        .next (finish (((s.fs Fld.SEQ_STAT_RUN 0).fs Fld.SEQ_STAT_UPDONE 1).raise 174))) ∧
      (s.stepCount ≤ s.stepNo + 1 → s.fb Fld.SEQ_STAT_DIR = true → s.seqr.ended = false →
        ∃ u, exec .sequenceDelayElapsed s = .next (finish u) ∧ u.seqRuns = false ∧ u.fg Fld.SEQ_STAT_DNDONE = 1 ∧
          u.fg Fld.SEQ_STAT_UPDONE = 0 ∧ u.fg Fld.SEQ_OUT_SQE = 0 ∧ ∀ k < 8, u.railOn k = false)) ∧
    (∀ (n : Fin 4) (s : State), Live s → s.fb (Fld.SEQ_RSTO_STAT_STRETCHING n) = true → s.rstoCause n = false →
      s.seqRuns = false →
      (100 * s.fg (Fld.SEQ_RSTO_CFG_STRETCH n) ≤ s.stretchOf n → exec (.resetStretchEnd n) s =
        .next (finish ((s.fs (Fld.SEQ_RSTO_STAT_ASSERTED n) 0).fs (Fld.SEQ_RSTO_STAT_STRETCHING n) 0))) ∧
      (s.stretchOf n < 100 * s.fg (Fld.SEQ_RSTO_CFG_STRETCH n) → exec (.resetStretchEnd n) s = .next (finish s))) ∧
    (∀ s : State, Live s → s.fb Fld.SEQ_STAT_COLLAPSE = false →
      let v := (s.fs Fld.SEQ_STAT_COLLAPSE 1).fs Fld.SEQ_STAT_COLLS 1
      (s.seqr.inProgress = false → exec .systemInputCollapse s = .next (finish v)) ∧
      (s.seqr.inProgress = true → s.fb Fld.SYS_PWR_STAT_COMPAT = false → exec .systemInputCollapse s = .next (finish
        (let u := nvDrop wWave (nvDrop wLog (downStart v))
         u.setSeqr { u.seqr with ended := true, noLog := true })))) ∧
    (∀ s : State, Live s → s.fb Fld.SEQ_STAT_COLLAPSE = true → s.fb Fld.SEQ_CFG_REUP = false →
      (10000 ≤ s.seqr.recN → exec .systemInputRecover s = .next (finish (s.fs Fld.SEQ_STAT_COLLAPSE 0))) ∧
      (s.seqr.recN < 10000 → exec .systemInputRecover s = .next (finish s))))

/-! ### The Waggle link (chapter 12) -/

/-- R405 to R414, R419: a frame that is sent is valid where it is received; the link starts and joins, counts its cycles and sends a waiting frame in each, counts what fails
its check, joins a worker at its third beacon, keeps the queen's list of present racks, silences a duplicate, and sends a
RESET in three windows. -/
def Obligations.LinkJoinsAndCounts : Prop :=
  (∀ (p : Port) (s : State), Reach p Reg.WGL_CFG s →
    exec (.linkEnable p true) s = .next (finish (respond p stOk 0 (s.fs Fld.WGL_CFG_EN 1))) ∧
    ∃ u, exec (.linkEnable p false) s = .next (finish (respond p stOk 0 u)) ∧ u.fg Fld.WGL_CFG_EN = 0 ∧
      u.fg Fld.WGL_STAT_JOINED = 0 ∧ u.fg Fld.WGL_STAT_DUP = 0 ∧ u.fg Fld.WGL_PRES_PRESENT = 0) ∧
  (∀ s : State, Live s → s.fb Fld.WGL_CFG_EN = true → s.queen = true → s.awake = true → s.fb Fld.WGL_STAT_DUP = false →
    exec .queenStart s = .next (finish ((s.fs Fld.WGL_STAT_JOINED 1).fs Fld.WGL_PRES_PRESENT 1))) ∧
  (∀ (missed : Nat) (s : State), Live s → s.queen = true → s.linkUp = true →
    ∃ u, exec (.linkCycle missed) s = .next (finish u) ∧ u.wgl.cycle = (s.wgl.cycle + 1) % 2 ^ 32 ∧
      u.wgl.cmds = s.wgl.cmds.drop 1 ∧ u.wgl.out.length = 1 + min 1 s.wgl.cmds.length) ∧
  (∀ (ty src dst cycle w : Nat) (pay : List Byte), ty < 256 → w < 256 → pay.length ≤ w →
    frameOk ty w (linkFrame ty src dst cycle pay) = true ∧ framePayload (linkFrame ty src dst cycle pay) = pay ∧
    u32At (linkFrame ty src dst cycle pay) 5 = cycle % 2 ^ 32) ∧
  (∀ (missed : Bool) (s : State), Live s → s.swarmPos ≠ 0 → s.fb Fld.WGL_CFG_EN = true →
    ∃ u, exec (.workerCycleMarker missed) s = .next (finish u) ∧ u.wgl.cycle = (s.wgl.cycle + 1) % 2 ^ 32 ∧
      (s.linkUp = true → u.wgl.items = s.wgl.items.drop 1) ∧ (missed = true → u.wgl.heard = 0)) ∧
  (∀ (frame : List Byte) (s : State), Live s → s.fb Fld.WGL_CFG_EN = true →
    (frameOk 0x01 56 frame = false → exec (.beaconReceived frame) s = .next (finish (s.finc Fld.WGL_ERR_CRCERR))) ∧
    (frameOk 0x02 24 frame = false → exec (.statusReceived frame) s = .next (finish (s.finc Fld.WGL_ERR_CRCERR))) ∧
    (frameOk 0x01 56 frame = true → s.fb Fld.WGL_STAT_DUP = false →
      (s.swarmPos = 0 → s.fb Fld.WGL_STAT_JOINED = true → exec (.beaconReceived frame) s = .next (finish
        (((s.fs Fld.WGL_STAT_DUP 1).fs Fld.WGL_STAT_JOINED 0).driveLine 26))) ∧
      (s.swarmPos ≠ 0 → ∃ u, exec (.beaconReceived frame) s = .next (finish u) ∧ u.wgl.cycle = u32At frame 5 ∧
        u.wgl.heard = min 3 (s.wgl.heard + 1) ∧ (2 ≤ s.wgl.heard → u.fg Fld.WGL_STAT_JOINED = 1))) ∧
    (frameOk 0x02 24 frame = true → s.fb Fld.WGL_STAT_DUP = false → s.swarmPos ≠ 0 → byteAt frame 2 % 16 = s.swarmPos →
      exec (.statusReceived frame) s = .next (finish (((s.fs Fld.WGL_STAT_DUP 1).fs Fld.WGL_STAT_JOINED 0).driveLine 26))) ∧
    (frameOk 0x02 24 frame = true → s.fb Fld.WGL_STAT_DUP = false → s.queen = true →
      let r := byteAt frame 2 % 16
      r ≠ 0 → bitOf (s.fg Fld.WGL_DUP_POS) r = false → kvGet (fun _ => none) s.wgl.uids r = none →
      ∃ u, exec (.statusReceived frame) s = .next (finish u) ∧ bitOf (u.fg Fld.WGL_PRES_PRESENT) r = true ∧
        kvGet (fun _ => none) u.wgl.uids r = some (u32At (framePayload frame) 0))) ∧
  (∀ s : State, Live s → s.swarmPos ≠ 0 → s.fb Fld.WGL_CFG_EN = true → s.fb Fld.WGL_STAT_JOINED = true →
    s.fb Fld.WGL_STAT_QDOZE = false → ∃ u, exec .linkLoss s = .next (finish u) ∧ u.fg Fld.WGL_STAT_JOINED = 0 ∧
      u.fg Fld.WGL_STAT_LINKLOSS = 1 ∧ 26 ∈ u.flt.lines) ∧
  (∀ (r : Fin 16) (s : State), Live s → s.queen = true → bitOf (s.fg Fld.WGL_PRES_DOZING) r = false →
    ∃ u, exec (.workerAbsent r) s = .next (finish u) ∧ bitOf (u.fg Fld.WGL_PRES_PRESENT) r = false) ∧
  (∀ (p : Port) (targets code : BitVec 16) (s : State), Reach p Reg.WGL_RST s →
    (s.queen = false ∨ code ≠ 0x5AA5 → exec (.sendReset p targets code) s = .next (finish (respond p stDecodeErr 0 s))) ∧
    (s.queen = true → let f := (0x1F, 0xFF, leBytes 2 0x5AA5 ++ leBytes 2 targets.toNat)
      exec (.sendReset p targets 0x5AA5) s =
        .next (finish (respond p stOk 0 (s.setWgl { s.wgl with cmds := s.wgl.cmds ++ [f, f, f] })))))

/-- R231, R415, R418: what the items of workers do at the queen, and its frames at a worker; the shares of a split order
add up to it. R416 to R418: a host barrier is the queen's alone, at most four wait, and it lies five cycles on; a barrier
that is due executes once and starts or ends parts, runs the sequencer or closes the ledger on the racks that it names.
Model's choice: Quotes and deliveries are log entries 15 and 16. -/
def Obligations.SwarmActs : Prop :=
  ((∀ (r : Fin 16) (id energy power cause : Nat) (o : Order) (s : State), Live s → s.pendingSwarm id = some o →
      let t := updPart id r (fun p => if p.st = 0 then { p with quote := some (energy, power), st := 1 } else p) s
      exec (.itemQuote r id energy power) s =
        .next (finish (if (t.partsOf id).all (fun p => p.quote.isSome) = true then swarmSplit o t else t)) ∧
      exec (.itemPartResult r id cause) s =
        .next (finish (swarmFinish o (updPart id r (fun p => { p with st := if cause = 0 then 2 else 3 }) s))) ∧
      (s.partsOf id ≠ [] → exec (.quoteAnswerTimeout id) s = .next (finish (swarmReject o 0x0E s)))) ∧
    (∀ (r : Fin 16) (id cause : Nat) (o : Order) (s : State), Live s → s.order id = some o →
      exec (.itemPartReached r id) s =
        .next (finish (reachedCheck id (updPart id r (fun p => { p with st := max p.st 4 }) s))) ∧
      exec (.itemPartEnded r id cause) s = .next (finish (stopOrder o (if cause = 0x21 then 7 else 8)
        (if cause = 0x21 then 0x21 else 0x26) (updPart id r (fun p => { p with st := 5 }) s)))) ∧
    (∀ (r : Fin 16) (id : Nat) (str : Fin 8) (deliv : Int) (s : State), Live s →
      exec (.itemPartString r id str deliv) s =
        .next (finish (updPart id r (fun p => { p with st := 5, strings := kvInsert str deliv p.strings }) s)) ∧
      (s.queen = true → s.order id = none →
        exec (.itemPartHeld id) s = .next (finish (announce 2 0x26 id (s.wgl.cycle + 4) s)))) ∧
    (∀ (record : List Byte) (id : Nat) (s : State), Live s → s.linkUp = true → s.queen = false →
      let o := parseOrder record partCq
      exec (.quoteReqReceived record) s =
        .next (finish (s.item ⟨1, u32At record 0, (quote s o).1, ((quote s o).2 : Int)⟩)) ∧
      let v : Order := { o with seq := s.ord.nextSeq }
      let t := showFree (v.onMono s) s
      (s.fg Fld.ORD_CTL_ADMIT = 0 → exec (.partReceived record) s = .next (finish (s.item ⟨2, o.id, 0x0F, 0⟩))) ∧
      (s.fg Fld.ORD_CTL_ADMIT ≠ 0 → exec (.partReceived record) s = .next (finish (match decidePart s v with
        | .reject c _ => t.item ⟨2, o.id, c, 0⟩
        | .accept a => (acceptOrder { a with cq := partCq, scope := 1 } t).item ⟨2, o.id, 0, 0⟩))) ∧
      ∃ u, exec (.withdrawReceived id) s = .next (finish u) ∧ ∀ x ∈ u.ord.orders, x.id = id → x.cq ≠ partCq) ∧
    (∀ (total : Nat) (qs : List Nat), 0 < qs.sum →
      ((List.range qs.length).map (fun i => shareOf total qs.sum (qs.take i).sum (qs.getD i 0))).sum = total)) ∧
  ((∀ (p : Port) (racks : BitVec 16) (action : Fin 8) (s : State), Reach p Reg.WGL_BAR_CTL s →
      (s.queen = false → exec (.barrierAnnounce p racks action) s = .next (finish (respond p stDecodeErr 0 s))) ∧
      (s.queen = true → 4 ≤ s.wgl.bars.length →
        exec (.barrierAnnounce p racks action) s = .next (finish (respond p stBusy 0 s))) ∧
      (s.queen = true → s.wgl.bars.length < 4 → (action < 3 ∨ 5 < action) →
        exec (.barrierAnnounce p racks action) s = .next (finish (respond p stDecodeErr 0 s))) ∧
      (s.queen = true → s.wgl.bars.length < 4 → 3 ≤ action → action ≤ 5 →
        exec (.barrierAnnounce p racks action) s = .next (finish (respond p stOk 0 (announce action 0 racks.toNat
          (s.wgl.cycle + 5) ((s.fs Fld.WGL_BAR_CTL_RACKS racks.toNat).fs Fld.WGL_BAR_CTL_ACTION action)))))) ∧
    (∀ (b : Barrier) (s : State), Live s →
      let t := executed b s
      (s.due 1 = some b → ∀ o, s.order b.ref = some o →
        (o.state = 3 → o.ty ≤ 4 → exec .barrierPartStart s = .next (finish (activate o t))) ∧
        (o.state ≠ 3 ∨ 4 < o.ty → exec .barrierPartStart s = .next (finish t))) ∧
      (s.due 2 = some b → ∀ o, s.order b.ref = some o →
        (o.cq = partCq → exec .barrierPartEnd s = .next (finish (stopPart o (causeState b.arg) b.arg t))) ∧
        (o.cq ≠ partCq → o.ending = none → exec .barrierPartEnd s =
          .next (finish (withdraw o (t.putOrder { o with ending := some (causeState b.arg, b.arg) }))))) ∧
      (s.due 3 = some b → s.queen = false → exec .barrierSeqUp s =
        .next (finish (if bitOf b.ref s.swarmPos = true then (upWrite t).2 else t))) ∧
      (s.due 4 = some b → s.due 2 = none → s.queen = false → exec .barrierSeqDown s =
        .next (finish (if bitOf b.ref s.swarmPos = true then downStart t else t))) ∧
      (s.due 5 = some b → s.queen = false → exec .barrierLdgClose s =
        .next (finish (if bitOf b.ref s.swarmPos = true then closeRequest t else t))) ∧
      (∀ x ∈ t.wgl.bars, x.num ≠ b.num) ∧ t.fg Fld.WGL_BAR_STAT_LAST = b.num % 2 ^ Fld.WGL_BAR_STAT_LAST.width))

/-! ### Reset, supplies and faults (chapters 13 and 17) -/

/-- The commands that assert device-wide reset with a cause of their own, and their cause bits. -/
def resetCause : Instr → Option Nat
  | .powerOnReset => some 0x001
  | .aoPowerUp => some 0x002
  | .criticalEccError => some 0x100
  | .deviceReset c => some c.toNat
  | _ => none

/-- R430 to R434, R549, R419: every source of device-wide reset sets its bit, and, where reset was not asserted or power
returned, clears all but the AO domain, MRAM and OTP (and, but for POR, SRAM). R429, R437, R491, R532: while it is
asserted every configurable ball is as the fuses give it, FAULT_N is low and the interrupt balls are released; a
contactor's drive ball then follows its drive. Model's choice: What each supply loss clears is log entry 22. -/
def Obligations.DeviceResetClears : Prop :=
  (∀ s : State, exec .powerOnReset s = .next (finish (deviceReset 0x001 s)) ∧
    exec .aoPowerUp s = .next (finish (deviceReset 0x002 s)) ∧
    exec .criticalEccError s = .next (finish (deviceReset 0x100 s)) ∧
    ∀ causes : BitVec 12, exec (.deviceReset causes) s = .next (finish (deviceReset causes.toNat s))) ∧
  (∀ (c : Instr) (bits : Nat) (s : State), resetCause c = some bits → exec c s = .next (finish (deviceReset bits s))) ∧
  (∀ s : State, (s.rst.asserted = true ∧ s.rst.power = true → exec .resetPin s = .next (finish s)) ∧
    (s.rst.asserted = false ∨ s.rst.power = false → exec .resetPin s = .next (finish (deviceReset 0x004 s)))) ∧
  (∀ (p : Port) (v : Word) (s : State), Reach p Reg.RST_CTL s →
    (v.toNat / 65536 ≠ 0xC0DE → exec (.softwareReset p v) s = .next (finish (respond p stDecodeErr 0 s))) ∧
    (v.toNat / 65536 = 0xC0DE → v.getLsbD 0 = true →
      exec (.softwareReset p v) s = .next (finish (respond p stOk 0 (deviceReset 0x040 s))))) ∧
  (∀ (mask code : BitVec 16) (s : State), Live s →
    let hit := s.fb Fld.WGL_CFG_EN = true ∧ s.fb Fld.WGL_CFG_RRST_EN = true ∧ s.swarmPos ≠ 0 ∧ code = 0x5AA5 ∧
      bitOf mask.toNat s.swarmPos = true
    (hit → exec (.resetFrameReceived mask code) s = .next (finish (deviceReset 0x200 s))) ∧
    (¬ hit → exec (.resetFrameReceived mask code) s = .next (finish s))) ∧
  (∀ (bits : Nat) (s : State), s.rst.asserted = true → bitOf bits 0 = false → bitOf bits 1 = false →
    deviceReset bits s = s.wr Reg.RST_CAUSE (BitVec.ofNat 32 ((s.rd Reg.RST_CAUSE).toNat ||| bits))) ∧
  (∀ (bits : Nat) (s : State), s.rst.asserted = false ∨ bitOf bits 0 = true → bitOf bits 1 = false →
    let t := deviceReset bits s
    t.rst.asserted = true ∧ t.rst.firmware = false ∧ t.rst.power = bitOf bits 0 ∧ t.mram = s.mram ∧ t.otp = s.otp ∧
    t.rtc = s.rtc ∧ t.pending = s.pending ∧ t.sram = (if bitOf bits 0 = true then [] else s.sram) ∧ t.image = none ∧
    t.ord = State.blank.ord ∧ t.ldg = State.blank.ldg ∧ t.mtr = State.blank.mtr ∧ t.nvm = State.blank.nvm ∧
    t.rd Reg.RST_CAUSE = BitVec.ofNat 32 ((s.rd Reg.RST_CAUSE).toNat ||| bits) ∧
    t.rd Reg.RST_LAST = BitVec.ofNat 32 s.rtc.sec ∧
    (∀ a, a ≠ Reg.RST_CAUSE → a ≠ Reg.RST_LAST →
      t.rd a = if 0x060000 ≤ a ∧ a < 0x070000 then s.rd a else resetWord a)) ∧
  (∀ s : State,
    let t := deviceReset 0x002 s
    t.rst.asserted = true ∧ t.rtc = ⟨0, 0, 0⟩ ∧ t.sram = [] ∧ t.mram = s.mram ∧ t.otp = s.otp ∧ t.rd Reg.RST_CAUSE = 3 ∧
    (∀ a, a ≠ Reg.RST_CAUSE → t.rd a = resetWord a)) ∧
  (∀ (b : Nat) (s : State), s.rst.asserted = true →
    s.ball b = s.otpBall b ∧ s.faultLow = true ∧ s.irqLow 0 = false ∧ s.irqLow 1 = false) ∧
  (∀ (b n attr : Nat) (s : State), s.rst.asserted = false → s.pinEntry b = some (0x10 + n, attr) → n < 8 →
    bitOf attr 2 = false → bitOf attr 3 = false →
    s.ball b = if s.fg (Fld.EFU_S_KSTAT_KM n) = 1 then .high else .low)

/-- R37, R503, R507, R509, R525, R534, R536, R550: a release samples the balls and installs the fuses; a DIE shutdown
holds reset until the die has cooled; a loss of VIN clears all but the AO domain and the non-volatile memories, a loss of
VAO the AO domain; the boot ROM tries the valid banks. Model's choice: The loss of VIN and VAO is log entry 22. -/
def Obligations.ResetEnds : Prop :=
  (∀ (compat imgSel : Bool) (s : State),
    (s.rst.asserted = false ∨ s.thm.dieHeld = true → exec (.resetRelease compat imgSel) s = .next (finish s)) ∧
    (s.rst.asserted = true → s.thm.dieHeld = false → ∃ u, exec (.resetRelease compat imgSel) s = .next (finish u) ∧
      u.rst = { s.rst with asserted := false, imgSel := imgSel } ∧
      u.fg Fld.SYS_PWR_STAT_COMPAT = (if compat = true then 1 else 0) ∧ u.fg Fld.CLK_STAT_HFRC_ON = 1 ∧
      u.fg Fld.CLK_STAT_PLL_LOCK = 1 ∧ u.fg Fld.CLK_STAT_SYSCLK = 1 ∧
      u.rd (Reg.ID_UID 0) = s.otpWord 0 ∧ u.rd (Reg.ID_UID 1) = s.otpWord 1 ∧ u.rd Reg.TWI_TW0_ADDR = s.otpWord 3 ∧
      ∀ n < 20, u.rd (Reg.MTR_CH_GAIN n) = s.otpWord (0x020 + n))) ∧
  (∀ s : State, Live s →
    (s.powerState ≠ 0 → s.thm.dieSd = false → exec .dieShutdown s = .next (finish
      ((allContactorsOpen (allGroupsHardStop (s.setThm { s.thm with dieSd := true }))).driveLine 4))) ∧
    (s.powerState = 0 → ∃ u, exec .dieShutdown s = .next (finish u) ∧
      u.rst.asserted = true ∧ u.thm.dieHeld = true ∧ u.thm.dieSd = true ∧ u.rd Reg.RST_CAUSE = s.rd Reg.RST_CAUSE) ∧
    (s.thm.dieSd = true → ∃ u, exec .dieShutdownReset s = .next (finish u) ∧
      u.rst.asserted = true ∧ u.thm.dieHeld = true ∧ u.thm.dieSd = true ∧ u.rd Reg.RST_CAUSE = s.rd Reg.RST_CAUSE) ∧
    (s.thm.dieSd = false → exec .dieShutdownReset s = .next (finish s))) ∧
  (∀ (compat imgSel pinLow : Bool) (s : State), s.rst.asserted = true → s.thm.dieHeld = true →
    ∃ u, exec (.thermalRestart compat imgSel pinLow) s = .next (finish u) ∧ u.thm.dieHeld = false ∧ u.thm.dieSd = false ∧
      u.rst.asserted = pinLow ∧ u.rd Reg.RST_CAUSE = s.rd Reg.RST_CAUSE ||| 0x080#32) ∧
  (∀ s : State, s.nvm.words = [] → ∃ u, exec .vinLoss s = .next (finish u) ∧ u.rst.asserted = true ∧ u.rst.power = true ∧
    u.sram = [] ∧ u.mram = s.mram ∧ u.otp = s.otp ∧ u.rtc = s.rtc ∧ ∀ a, 0x060000 ≤ a → a < 0x070000 → u.rd a = s.rd a) ∧
  (∀ s : State, ∃ u, exec .vaoLoss s = .next (finish u) ∧ u.rtc = ⟨0, 0, 0⟩ ∧ u.rst = { s.rst with aoLost := true } ∧
    u.mram = s.mram ∧ u.sram = s.sram ∧ ∀ a, u.rd a = if a = Reg.RST_CAUSE ∨ a = Reg.RST_LAST ∨ 0x060000 ≤ a ∧ a < 0x070000
      then resetWord a else s.rd a) ∧
  (∀ s : State, Live s →
    (s.rst.firmware = true → exec .bootFirmwareSelect s = .next (finish s)) ∧
    (s.rst.firmware = false → s.life = true → s.fb Fld.OTP_STAT_FACT_ALM = true ∨ s.fb Fld.OTP_STAT_KEY_ALM = true →
      exec .bootFirmwareSelect s = .next (finish s)) ∧
    (s.rst.firmware = false → s.life = false ∨ (s.fb Fld.OTP_STAT_FACT_ALM = false ∧ s.fb Fld.OTP_STAT_KEY_ALM = false) →
      exec .bootFirmwareSelect s = .next (finish
        (bootBanks ((if s.bankSeq 0 < s.bankSeq 1 then [1, 0] else [0, 1]).filter s.bankValid) s)))) ∧
  (∀ (k : Nat) (r : List Nat) (s : State),
    bootBanks (k :: r) s = (if s.fwCheck (s.bankImage k) = 0 then firmwareRun k (bankResult k 0 s)
      else bootBanks r (bankResult k (s.fwCheck (s.bankImage k)) s)) ∧
    (firmwareRun k s).rst.firmware = true)

/-- R65, R69, R435, R436: a block reset names only blocks that may be reset, marks each and isolates it until its release,
drops its staged values and commits, and returns its registers to their reset values; a block in reset ignores it. Model's
choice: The release by a command of its own is log entry 24. -/
def Obligations.BlocksReset : Prop :=
  (∀ (p : Port) (mask : Word) (s : State), Reach p Reg.RST_BLK s →
    ((∃ n < 32, mask.getLsbD n = true ∧ n ∉ [5, 10, 13, 14, 16, 17, 18, 19, 20, 24, 25, 26]) →
      exec (.blockReset p mask) s = .next (finish (respond p stDecodeErr 0 s))) ∧
    (∀ n ∈ [5, 10, 13, 14, 16, 17, 18, 19, 20, 24, 25, 26],
      (s.inReset n = true → exec (.blockReset p (1#32 <<< n)) s = .next (finish (respond p stOk 0 s))) ∧
      (s.inReset n = false → exec (.blockReset p (1#32 <<< n)) s = .next (finish (respond p stOk 0 (oneBlock n s)))))) ∧
  (∀ (n : Nat) (s : State), n = 5 ∨ n = 13 ∨ n = 14 → s.image = none →
    let t := oneBlock n s
    t.inReset n = true ∧ (∀ m < 32, m ≠ n → t.inReset m = s.inReset m) ∧
    (∀ a, 65536 * n ≤ a → a < 65536 * n + 65536 → (∀ k < 4, n ≠ 13 ∨ a ≠ Reg.CAN_PRES k) → t.rd a = resetWord a)) ∧
  (∀ (n : Nat) (s : State), n ∈ [5, 10, 13, 14, 16, 17, 18, 19, 20, 24, 25, 26] →
    ∀ g ∈ blockGroups n, let t := dropGroup g s
      t.stagedOf g = [] ∧ t.cpend g = false ∧ (s.joint = none → t.joint = none)) ∧
  (∀ (n : Fin 32) (sub : Nat) (s : State), Live s →
    (s.inReset n = false → exec (.blockResetRelease n sub) s = .next (finish s)) ∧
    (s.inReset n = true → (n : Nat) ≠ 16 ∨ s.image = none → let v := aclkTo sub s
      exec (.blockResetRelease n sub) s = .next (finish
        ((v.wr Reg.RST_BSTAT (v.rd Reg.RST_BSTAT &&& ~~~(1#32 <<< (n : Nat)))).raise 102)))) ∧
  (∀ s : State, Live s → exec .isolationTimeout s =
    .next (finish (if s.rd Reg.RST_BSTAT = 0 then s else s.driveLine 3)))

/-- R421, R423 to R429: an asserted line is latched; a corrected one raises its event, a contained or fatal one declares a
fault or merges into the one that is handled; the pulse ends; an injected error is refused once LIFE is blown. -/
def Obligations.LinesDeclareFaults : Prop :=
  (∀ (src : Fin 64) (s : State), Live s → exec (.errorLineAssert src) s = .next (finish
    ((if (src : Nat) = 8 then s.finc Fld.NVC_ERR_UE else if (src : Nat) = 9 then s.finc Fld.NVC_ERR_CE else s).driveLine src))) ∧
  (∀ s : State, Live s → exec .faultPulseEnd s = .next (finish (s.fs Fld.FLT_PIN_PULSE 0))) ∧
  (∀ (p : Port) (src : Fin 64) (s : State), Reach p Reg.FLT_INJ s → exec (.faultInject p src) s = .next (finish
    (if s.fb Fld.ID_FUSE_LIFE = true then respond p stLocked 0 s else respond p stOk 0 (s.driveLine src)))) ∧
  (∀ (n : Nat) (s : State), (32 ≤ n → assertLine n s = s) ∧
    (n < 32 →
      let v := (s.wr Reg.FLT_STAT_LO (s.rd Reg.FLT_STAT_LO ||| 1#32 <<< n)).wakeWatch
      let t := if n ∈ s.flt.quiet then v else v.wakeDormant
      (t.faultClass n = clsCorrected → (s.rd Reg.FLT_STAT_LO).getLsbD n = true → assertLine n s = t) ∧
      (t.faultClass n = clsCorrected → (s.rd Reg.FLT_STAT_LO).getLsbD n = false →
        assertLine n s = (t.raise 101).logEvent 0x01 n clsCorrected false) ∧
      (t.faultClass n ≠ clsCorrected → assertLine n s = declareFault n (t.faultClass n) t))) ∧
  (∀ (n cls : Nat) (s : State),
    (s.fb Fld.FLT_HSTAT_HANDLING = true → cls = clsContained →
      declareFault n cls s = ((s.raise 100).finc Fld.FLT_HSTAT_MERGED).logEvent 0x01 n cls true) ∧
    (s.fb Fld.FLT_HSTAT_HANDLING = false →
      let t := ((((s.raise 100).fs Fld.FLT_HSTAT_HANDLING 1).fs Fld.FLT_HSTAT_FATAL (if cls = clsFatal then 1 else 0)).fs
        Fld.FLT_HSTAT_FIRST n).fs Fld.FLT_PIN_PULSE 1
      let u := (t.logEvent 0x01 n cls false).waveTrigger 0 n
      (u.awake = true → declareFault n cls s = (if cls = clsFatal then fatalActions (squashTo 0 6 (discardBegin u))
        else squashTo 0 6 (discardBegin u))) ∧
      (u.awake = false → declareFault n cls s =
        ((u.setFlt { u.flt with waiting := u.flt.waiting ++ [cls] }).wakeWatch).wakeDormant))) ∧
  (∀ s : State, (fatalActions s).fg Fld.ORD_CTL_ADMIT = 0 ∧ (∀ g < 12, (fatalActions s).mode g = 0) ∧
    ∀ n < 8, (s.kState n = 1 ∨ s.kState n = 2 ∨ s.kState n = 3 → (fatalActions s).kState n = 4))

/-! ### The propolis log, clocks and the calendar (chapters 13 and 14) -/

/-- R148, R438, R441 to R443, R445, R446: a ring frame takes the means of its results and follows the frame before it,
while the log runs at full rate; the oldest log entry is issued to MRAM under the next SEQ, and once it is written it
counts and waits for its report queue; the scan finds the highest valid SEQ; a record whose frames are complete is issued,
and sealed once it is written; the host's trigger and its mark. Model's choice: The order of entries and records is log
entries 10 and 23. -/
def Obligations.LogRecordsEvents : Prop :=
  (∀ s : State, Live s →
    let rs := s.mtr.feed.take s.feedSize
    let runs := s.feedSize ≤ s.mtr.feed.length ∧ s.fb Fld.MTR_STAT_FULL = true ∧ s.awake = true ∧ s.fb Fld.PRP_CFG_RUN = true ∧
      s.inReset 0x1A = false ∧ s.ringWaits = false
    let i := (s.fg Fld.PRP_STAT_WIDX + 1) % 49152
    (¬ runs → exec .ringFrameWrite s = .next (finish s)) ∧
    (runs → ∃ u, exec .ringFrameWrite s = .next (finish u) ∧ u.fg Fld.PRP_STAT_WIDX = i ∧
      u.rd Reg.PRP_FCNT = s.rd Reg.PRP_FCNT + 1 ∧ u.mtr.feed = s.mtr.feed.drop s.feedSize ∧
      (∀ b, b < 0x800000 + 64 * i ∨ 0x800000 + 64 * i + 64 ≤ b → u.sramByte b = s.sramByte b) ∧
      (∀ n < 20, ∀ c, frameCode (u.sramBytes (0x800000 + 64 * i) 64) n = some c → s.chUsed n = true ∧
        c = divRound ((rs.map (fun r => r.getD n 0)).foldl (· + ·) 0) s.feedSize))) ∧
  (∀ (v : EvEntry) (s : State), (eventBytes v s).length = 32 ∧
    u32At (eventBytes v s) 0 = ((s.rd Reg.PRP_EVSEQ).toNat + 1) % 2 ^ 32 ∧ u32At (eventBytes v s) 4 = v.sec % 2 ^ 32 ∧
    byteAt (eventBytes v s) 10 = v.code % 256 ∧ u32At (eventBytes v s) 16 = v.arg0 % 2 ^ 32) ∧
  (∀ s : State, Live s →
    (s.nvWaits wLog = true → exec .eventEntryWrite s = .next (finish s)) ∧
    (s.nvWaits wLog = false → s.nvBusy wLog = false →
      (s.logWrites = false ∨ s.prp.queue = [] → exec .eventEntryWrite s = .next (finish s)) ∧
      (∀ (v : EvEntry) (rest : List EvEntry), s.logWrites = true → s.prp.queue = v :: rest →
        exec .eventEntryWrite s = .next (finish
          (nvIssue wLog (byteWords (0x580000 + 32 * (s.prp.evSlot % 16384)) (eventBytes v s)) s)))) ∧
    (s.nvWaits wLog = false → s.nvBusy wLog = true →
      ∃ u : State, exec .eventEntryWrite s = .next (finish (u.raise 190)) ∧ u.nvBusy wLog = false ∧
        u.prp.queue = s.prp.queue.drop 1 ∧ u.prp.evSlot = (s.prp.evSlot + 1) % 16384 ∧
        u.rd Reg.PRP_EVSEQ = BitVec.ofNat 32 (u32At (s.mramBytes (0x580000 + 32 * (s.prp.evSlot % 16384)) 32) 0) ∧
        u.prp.deliver.length = s.prp.deliver.length + (if s.fb Fld.PRP_CFG_BQEN = true then 1 else 0))) ∧
  (∀ (b : List Byte) (rest : List (List Byte)) (s : State), Live s → s.prp.deliver = b :: rest →
    let q := 60 + s.fg Fld.PRP_CFG_BQ
    (s.qEnabled q = false → exec .bqDelivery s = .next (finish s)) ∧
    (s.qEnabled q = true → s.qRoom q = 0 → exec .bqDelivery s = .next (finish (s.fs (Fld.SYS_Q_STAT_OVF q) 1))) ∧
    (s.qEnabled q = true → s.qRoom q ≠ 0 →
      exec .bqDelivery s = .next (finish (qPush q b (s.setPrp { s.prp with deliver := rest }))))) ∧
  (∀ s : State, Live s → s.rst.firmware = true → s.prp.scanned = false →
    ∃ u, exec .eventLogScan s = .next (finish u) ∧ u.prp.scanned = true ∧
      (∀ e < 16384, s.eventSeq e ≤ (u.rd Reg.PRP_EVSEQ).toNat) ∧
      ((u.rd Reg.PRP_EVSEQ).toNat = 0 ∨ ∃ e < 16384, s.eventSeq e = (u.rd Reg.PRP_EVSEQ).toNat ∧
        u.prp.evSlot = (e + 1) % 16384)) ∧
  (∀ s : State, Live s →
    (s.nvWaits wWave = true ∨ (s.nvBusy wWave = false ∧ s.prp.capt = none) → exec .waveformSeal s = .next (finish s)) ∧
    (∀ (c : Capture) (sp : Nat × Nat × Nat × Nat), s.nvWaits wWave = false → s.prp.capt = some c → c.slot < 3 →
      (s.nvBusy wWave = false → s.rst.firmware = true → s.powerState ≠ 0 → s.seqr.noLog = false → s.waveSpan c = some sp →
        let seq := max (max (s.waveSeq 0) (s.waveSeq 1)) (s.waveSeq 2) + 1
        ∃ u, exec .waveformSeal s = .next (finish u) ∧ u.nvBusy wWave = true ∧
          u.nvm.words = s.nvm.words ++ (waveWords c.slot (waveBody c seq sp s) s).map (fun x => (wWave, x.1, x.2)) ∧
          bitOf (u.fg Fld.PRP_REC_LOCK_VALID) c.slot = false) ∧
      (s.nvBusy wWave = true → u16At (s.mramBytes (waveAt c.slot) 0x7D100) 2 = c.trigCnt →
        ∃ u : State, exec .waveformSeal s = .next (finish (u.raise 189)) ∧ u.prp.capt = none ∧
          u.fg Fld.PRP_STAT_CAPT = 0 ∧ u.nvBusy wWave = false ∧ bitOf (u.fg Fld.PRP_REC_LOCK_VALID) c.slot = true))) ∧
  (∀ (p : Port) (s : State), Reach p Reg.PRP_CTL s →
    exec (.waveformHostTrigger p) s = .next (finish (respond p stOk 0 (s.waveTrigger 6 0))) ∧
    exec (.hostMark p) s = .next (finish (respond p stOk 0 (s.logEvent 0x09 (s.rd Reg.PRP_MARK).toNat 0 false)))) ∧
  (∀ (trig arg : Nat) (s : State),
    (bitOf (s.fg Fld.PRP_TRIG_EN) trig = false → s.waveTrigger trig arg = s) ∧
    (∀ c, bitOf (s.fg Fld.PRP_TRIG_EN) trig = true → s.prp.capt = some c → ∃ c', (s.waveTrigger trig arg).prp.capt = some c' ∧
      c'.slot = c.slot ∧ c'.trig = c.trig ∧ c'.trigCnt = min 65535 (c.trigCnt + 1)) ∧
    (bitOf (s.fg Fld.PRP_TRIG_EN) trig = true → s.prp.capt = none → s.fg Fld.PRP_REC_LOCK_LOCK = 7 →
      s.waveTrigger trig arg = s.logEvent 0x08 0xFF trig false))

/-- R449 to R454, R556: HFXO is confirmed by eight good check windows in a row and lost by one bad one; it restarts after
a failed start; EN stops and starts it; a loss of PLL lock stops every group and holds the tiles until it is back, or the
device resets. R448, R455, R457 to R459, R464: ACLK falls back to LFRC when its crystal fails, which stops the trim, marks
the time as not trusted and drives FS13, and returns with it; a crossing that misses its bound or overruns is shown. -/
def Obligations.ClocksAreWatched : Prop :=
  ((∀ (count : Nat) (amp : Bool) (s : State), Live s →
      let v := s.fs Fld.CLK_HFXO_CHK_COUNT (min count (2 ^ Fld.CLK_HFXO_CHK_COUNT.width - 1))
      (s.fb Fld.CLK_STAT_HFXO_ON = false → exec (.hfxoCheckWindow count amp) s = .next (finish s)) ∧
      (s.fb Fld.CLK_STAT_HFXO_ON = true → (count < 767232 ∨ 768768 < count) → ∃ u,
        exec (.hfxoCheckWindow count amp) s = .next (finish u) ∧ u.fg Fld.CLK_STAT_HFXO_OK = 0 ∧
        u.fg Fld.CLK_STAT_HFXO_FAIL = 1 ∧ u.fg Fld.CLK_STAT_PLL_REF = 0 ∧ u.clk.okN = 0 ∧ u.flt.lines = s.flt.lines ++ [12]) ∧
      (s.fb Fld.CLK_STAT_HFXO_ON = true → s.fb Fld.CLK_STAT_HFXO_OK = false → amp = true → s.fb Fld.CLK_STAT_ACLK_SRC = false →
        767923 ≤ count → count ≤ 768077 →
        (s.clk.okN < 7 → exec (.hfxoCheckWindow count amp) s = .next (finish (v.setClk { v.clk with okN := s.clk.okN + 1 }))) ∧
        (7 ≤ s.clk.okN → ∃ u, exec (.hfxoCheckWindow count amp) s = .next (finish u) ∧ u.fg Fld.CLK_STAT_HFXO_OK = 1 ∧
          u.clk.okN = 0 ∧ (s.fb Fld.CLK_CFG_PLLREF = false → u.fg Fld.CLK_STAT_PLL_REF = 1) ∧
          (s.fb Fld.MTR_STAT_FULL = true → u.fg Fld.MTR_STAT_TB = 2)))) ∧
    (∀ s : State, Live s →
      (s.fb Fld.CLK_STAT_HFXO_ON = true → s.fb Fld.CLK_STAT_HFXO_OK = false → exec .hfxoStartTimeout s = .next (finish
        ((((s.fs Fld.CLK_STAT_HFXO_FAIL 1).fs Fld.CLK_STAT_HFXO_ON 0).driveLine 12).setClk
          { s.clk with okN := 0, waiting := true }))) ∧
      (s.clk.waiting = true → s.awake = true → s.fb Fld.CLK_CFG_HFXO_EN = true → s.fb Fld.CLK_STAT_HFXO_ON = false →
        exec .hfxoRestart s = .next (finish ((s.fs Fld.CLK_STAT_HFXO_ON 1).setClk { s.clk with okN := 0, waiting := false }))) ∧
      (s.fb Fld.CLK_STAT_HFXO_ON = true → s.fb Fld.MTR_STAT_FULL = false → exec .hfxoLoss s = .next (finish
        (((((s.fs Fld.CLK_STAT_HFXO_OK 0).fs Fld.CLK_STAT_HFXO_FAIL 1).setClk { s.clk with okN := 0 }).driveLine 12).fs
          Fld.CLK_STAT_PLL_REF 0)))) ∧
    (∀ (p : Port) (s : State), Reach p Reg.CLK_CFG s →
      (s.fb Fld.CLK_CFG_HFXO_EN = true → ∃ u, exec (.hfxoStop p) s = .next (finish (respond p stOk 0 u)) ∧
        u.fg Fld.CLK_CFG_HFXO_EN = 0 ∧ u.fg Fld.CLK_STAT_HFXO_ON = 0 ∧ u.fg Fld.CLK_STAT_HFXO_OK = 0 ∧
        u.fg Fld.CLK_STAT_PLL_REF = 0 ∧ u.fg Fld.CLK_STAT_HFXO_FAIL = s.fg Fld.CLK_STAT_HFXO_FAIL ∧ u.flt = s.flt) ∧
      (s.fb Fld.CLK_CFG_HFXO_EN = false → s.awake = true → ∃ u, exec (.hfxoStart p) s = .next (finish (respond p stOk 0 u)) ∧
        u.fg Fld.CLK_CFG_HFXO_EN = 1 ∧ u.fg Fld.CLK_STAT_HFXO_ON = 1)) ∧
    (∀ s : State, Live s →
      (s.fb Fld.CLK_STAT_PLL_LOCK = true → ∃ u, exec .pllLossOfLock s = .next (finish u) ∧ u.fg Fld.CLK_STAT_PLL_LOCK = 0 ∧
        u.fg Fld.CLK_STAT_SYSCLK = 0 ∧ u.fg Fld.CLK_STAT_PLL_LOL = 1 ∧ u.clk.tilesHeld = true ∧ u.flt.lines = s.flt.lines ++ [12] ∧
        ∀ g < 12, u.mode g = 0 ∧ (s.groupRunning g = true → Removal.group g ∈ u.removals)) ∧
      (s.clk.tilesHeld = true →
        exec .pllRelock s = .next (finish (((s.fs Fld.CLK_STAT_PLL_LOCK 1).fs Fld.CLK_STAT_SYSCLK 1).setClk
          { s.clk with tilesHeld := false })) ∧
        exec .pllRelockTimeout s = .next (finish (deviceReset 0x400 s))) ∧
      (s.clk.tilesHeld = false → exec .pllRelock s = .next (finish s) ∧ exec .pllRelockTimeout s = .next (finish s)) ∧
      (s.powerState ≠ 0 → exec .sysclkMonitorTrip s = .next (finish (deviceReset 0x400 s))) ∧
      (s.powerState = 0 → exec .sysclkMonitorTrip s = .next (finish s)))) ∧
  ((∀ s : State, Live s →
      (s.fb Fld.CLK_STAT_ACLK_SRC = true → exec .aclkCrystalFail s = .next (finish s)) ∧
      (s.fb Fld.CLK_STAT_ACLK_SRC = false → exec .aclkCrystalFail s = .next (finish
        ((((((s.fs Fld.CLK_STAT_ACLK_SRC 1).fs Fld.CLK_STAT_XT32_FAIL 1).fs Fld.RTC_STAT_OSF 1).setLdg
          { s.ldg with osf := true })).driveLine 13))) ∧
      exec .aclkCrystalReturn s = .next (finish (s.fs Fld.CLK_STAT_ACLK_SRC 0))) ∧
    (∀ (trim : BitVec 10) (err : Int) (s : State), Live s →
      (s.fb Fld.CLK_STAT_ACLK_SRC = true ∨ s.fb Fld.CLK_STAT_HFRC_ON = false → exec (.hfrcTrim trim err) s = .next (finish s)) ∧
      (s.fb Fld.CLK_STAT_ACLK_SRC = false → s.fb Fld.CLK_STAT_HFRC_ON = true → exec (.hfrcTrim trim err) s = .next (finish
        ((s.fs Fld.CLK_HFRC_TRIM_TRIM trim.toNat).fss Fld.CLK_HFRC_TRIM_ERR (max (-32768) (min err 32767)))))) ∧
    (∀ (g : Fin 8) (s : State), Live s →
      exec (.cdcTimeout g true) s = .next (finish
        ((s.fs Fld.CLK_CDC_OVR (s.fg Fld.CLK_CDC_OVR ||| 1 <<< (g : Nat))).driveLine 31)) ∧
      exec (.cdcTimeout g false) s = .next (finish ((s.fs Fld.CLK_CDC_TMO
        (min (s.fg Fld.CLK_CDC_TMO + 1) (2 ^ Fld.CLK_CDC_TMO.width - 1))).driveLine 31))))

/-- R460 to R466, R207: a second counts, and wraps after 2199 with OSF set; one second in 2^20 cycles is TRIM cycles shorter
(which one: the model's reading, log entry 24); an equal enabled alarm sets ALMF; a read of
RTC_SEC_LO captures the whole time, in the calendar's form; an accepted time applies with a full second; OSF clears only
while the crystal runs. -/
def Obligations.CalendarCounts : Prop :=
  (∀ s : State, s.rst.aoLost = true → exec .rtcSecond s = .next (finish s)) ∧
  (∀ s : State, s.rst.aoLost = false → ∃ u, exec .rtcSecond s = .next (finish u) ∧
    u.rtc = ⟨if 6311433599 ≤ s.rtc.sec then 0 else s.rtc.sec + 1, 0, s.rtc.cycles + (s.secondLength - s.rtc.ticks)⟩ ∧
    (6311433599 ≤ s.rtc.sec → u.fg Fld.RTC_STAT_OSF = 1) ∧
    (s.fb Fld.RTC_ALM_HI_EN = true → u.rtc.sec = (s.rd Reg.RTC_ALM_LO).toNat + 2 ^ 32 * s.fg Fld.RTC_ALM_HI_SEC →
      u.fg Fld.RTC_STAT_ALMF = 1) ∧
    (s.rst.asserted = false → u.ord.mono = s.ord.mono + 1)) ∧
  (∀ s : State, s.rtc.ticks ≤ s.rtc.cycles → (s.secondLength : Int) =
    if ((s.rtc.cycles - s.rtc.ticks : Int) + 32768 + 16384) % 2 ^ 20 < 32768 then 32768 - s.fgs Fld.RTC_CALIB_TRIM else 32768) ∧
  (∀ (p : Port) (s : State), Reach p Reg.RTC_SEC_LO s →
    exec (.rtcCapture p) s = .next (finish (respondRead p [BitVec.ofNat 32 s.rtc.sec] stOk
      ((((s.wr Reg.RTC_SEC_HI (BitVec.ofNat 32 (s.rtc.sec / 2 ^ 32))).wr Reg.RTC_SUB (BitVec.ofNat 32 s.rtc.ticks)).wr
        Reg.RTC_DATE (BitVec.ofNat 32 (dateWord s.rtc.sec))).wr Reg.RTC_TIME (BitVec.ofNat 32 (timeWord s.rtc.sec)))))) ∧
  (∀ d m y : Nat, y < 2200 → 2000 ≤ y → 1 ≤ m → m ≤ 12 → 1 ≤ d →
    d ≤ (monthLengths (decide (y % 4 = 0 ∧ y ≠ 2100))).getD (m - 1) 0 →
    let days := ((List.range (y - 2000)).map (fun k => if (2000 + k) % 4 = 0 ∧ 2000 + k ≠ 2100 then 366 else 365)).sum +
      ((monthLengths (decide (y % 4 = 0 ∧ y ≠ 2100))).take (m - 1)).sum + (d - 1)
    ∀ t < 86400, dateWord (86400 * days + t) = d + 256 * m + 4096 * ((6 + days) % 7) + 65536 * y) ∧
  (∀ (sub : Nat) (s : State), s.cpend .rtc = false ∨ s.rst.aoLost = true → exec (.rtcTimeApply sub) s = .next (finish s)) ∧
  (∀ (sub : Nat) (s : State), s.cpend .rtc = true → s.rst.aoLost = false →
    ∃ u, exec (.rtcTimeApply sub) s = .next (finish u) ∧ u.rtc.sec = s.rtcStaged ∧ u.rtc.ticks = 0 ∧
    u.rtc.cycles = s.rtc.cycles +
      (if s.rst.asserted = true then 0 else min 32767 (max sub s.rtc.ticks) - s.rtc.ticks) ∧ u.cpend .rtc = false ∧ u.stagedOf .rtc = [] ∧
    (s.rst.asserted = false → ∃ l, u.prp.queue = l ++ [⟨0x0B, false, s.now, s.rtcStaged % 2 ^ 32, s.rtcStaged % 2 ^ 32, 0, u.ttrust⟩])) ∧
  (∀ (p : Port) (s : State), Reach p Reg.RTC_STAT s → exec (.osfClear p) s = .next (finish (respond p stOk 0
    (if s.fb Fld.CLK_STAT_ACLK_SRC = true then s else s.fs Fld.RTC_STAT_OSF 0))))

/-! ### Timers, watchdogs and the event controller (chapters 14 and 15) -/

/-- R467 to R470, R472: a START loads the working copies and runs or arms a timer, and refuses a loop of masters; an edge
counts up to the period, and the next one laps and reloads; a compare that the count meets sets its flag; STOP, RESET and
capture. Model's choice: The first edge and the masters of a cascade are log entry 24. -/
def Obligations.TimersCount : Prop :=
  (∀ (p : Port) (n : Fin 16) (s : State), Reach p Reg.TMR_START s →
    (s.tmRuns n = true ∨ s.tmArmed n = true →
      exec (.tmrStart p (1#16 <<< (n : Nat))) s = .next (finish (respond p stOk 0 s))) ∧
    (s.tmRuns n = false → s.tmArmed n = false → s.tmLoops n 16 n = true →
      exec (.tmrStart p (1#16 <<< (n : Nat))) s = .next (finish (respond p stDecodeErr 0 s))) ∧
    (s.tmRuns n = false → s.tmArmed n = false → s.tmLoops n 16 n = false →
      exec (.tmrStart p (1#16 <<< (n : Nat))) s = .next (finish (respond p stOk 0
        (let t := s.setTmrW n ⟨(s.rd (Reg.TMR_TM_PERIOD n)).toNat, (s.rd (Reg.TMR_TM_CMP0 n)).toNat,
          (s.rd (Reg.TMR_TM_CMP1 n)).toNat, 0⟩
         if s.tmSlv n = 2 then t.setTmRun n false true else t.setTmRun n true false))))) ∧
  (∀ (p : Port) (mask : BitVec 16) (s : State), Reach p Reg.TMR_STOP s →
    ∃ u, exec (.tmrStop p mask) s = .next (finish (respond p stOk 0 u)) ∧ u.tmr = s.tmr ∧
      ∀ n < 16, (u.tmRuns n = (s.tmRuns n && !mask.getLsbD n)) ∧ (u.tmArmed n = (s.tmArmed n && !mask.getLsbD n))) ∧
  (∀ (p : Port) (mask : BitVec 16) (s : State), Reach p Reg.TMR_RESET s →
    ∃ u, exec (.tmrReset p mask) s = .next (finish (respond p stOk 0 u)) ∧ ∀ n < 16,
      (mask.getLsbD n = true → u.rd (Reg.TMR_TM_CNT n) = 0 ∧ (u.tmrW n).per = (s.rd (Reg.TMR_TM_PERIOD n)).toNat ∧
        (u.tmrW n).pre = 0) ∧
      (mask.getLsbD n = false → u.rd (Reg.TMR_TM_CNT n) = s.rd (Reg.TMR_TM_CNT n) ∧ u.tmrW n = s.tmrW n) ∧
      u.tmRuns n = s.tmRuns n) ∧
  (∀ (n : Fin 16) (s : State), Live s → s.tmSrc n ≠ 3 → (s.tmSrc n = 2 → (s.ballOf (0x70 + n)).isSome = true) →
    (s.tmRuns n = false ∨ s.tmAwake 16 n = false → exec (.timerClockEdge n) s = .next (finish s)) ∧
    (s.tmRuns n = true → s.tmAwake 16 n = true → s.tmSlv n = 0 →
      let c := (s.rd (Reg.TMR_TM_CNT n)).toNat
      let w := s.tmrW n
      (c < w.per → ∃ u, exec (.timerClockEdge n) s = .next (finish u) ∧ u.rd (Reg.TMR_TM_CNT n) = BitVec.ofNat 32 (c + 1) ∧
        u.fg (Fld.TMR_TM_FLAG_LAP n) = s.fg (Fld.TMR_TM_FLAG_LAP n) ∧
        u.fg (Fld.TMR_TM_FLAG_CMP0 n) = (if c + 1 = w.cmp0 then 1 else s.fg (Fld.TMR_TM_FLAG_CMP0 n)) ∧
        u.fg (Fld.TMR_TM_FLAG_CMP1 n) = (if c + 1 = w.cmp1 then 1 else s.fg (Fld.TMR_TM_FLAG_CMP1 n)) ∧ u.tmr = s.tmr) ∧
      (w.per ≤ c → (∀ m < 16, m = n ∨ s.tmMaster m ≠ n ∨ s.tmSlave m = false) →
        ∃ u, exec (.timerClockEdge n) s = .next (finish u) ∧ u.rd (Reg.TMR_TM_CNT n) = 0 ∧
          u.fg (Fld.TMR_TM_FLAG_LAP n) = 1 ∧ (u.tmrW n).per = (s.rd (Reg.TMR_TM_PERIOD n)).toNat ∧
          (u.tmrW n).cmp0 = (s.rd (Reg.TMR_TM_CMP0 n)).toNat ∧
          u.tmRuns n = !s.fb (Fld.TMR_TM_CFG_ONESHOT n)))) ∧
  (∀ (n : Fin 8) (s : State), Live s →
    (s.fg (Fld.TMR_TM_IO_FUNC n) ≠ 2 ∨ s.ballOf (0x70 + n) = none → exec (.timerCapture n) s = .next (finish s)) ∧
    (s.fg (Fld.TMR_TM_IO_FUNC n) = 2 → (s.ballOf (0x70 + n)).isSome = true →
      ∃ u, exec (.timerCapture n) s = .next (finish u) ∧ u.rd (Reg.TMR_TM_CAP n) = s.rd (Reg.TMR_TM_CNT n) ∧
        u.fg (Fld.TMR_TM_FLAG_CAP n) = 1 ∧ (s.fb (Fld.TMR_TM_FLAG_CAP n) = true → u.fg (Fld.TMR_TM_FLAG_OVR n) = 1)))

/-- R473 to R480: WD_H is enabled once and never disabled by the host; a service with the wrong key, before its window or
at the period's end resets the device, one in the window starts a new period; an expiry and a lost clock reset too; in
DORMANT every watchdog holds. Model's choice: Timestamps as operands are log entry 24. -/
def Obligations.WatchdogsReset : Prop :=
  (∀ (p : Port) (s : State), Reach p Reg.WDG_H_CTL s →
    (s.fb Fld.WDG_H_CTL_EN = true →
      exec (.watchdogEnable p true) s = .next (finish (respond p stOk 0 s)) ∧
      exec (.watchdogEnable p false) s = .next (finish (respond p stLocked 0 s))) ∧
    (s.fb Fld.WDG_H_CTL_EN = false → exec (.watchdogEnable p false) s = .next (finish (respond p stOk 0 s)) ∧
      ∃ u, exec (.watchdogEnable p true) s = .next (finish (respond p stOk 0 u)) ∧ u.fg Fld.WDG_H_CTL_EN = 1 ∧
        kvGet (fun _ => 0) u.wdg 0 = s.aclk ∧ u.fg Fld.WDG_H_STAT_OPEN = (if s.wdFraction 0 = 0 then 1 else 0))) ∧
  (∀ (p : Port) (v : Word) (stamp : Nat) (s : State), Reach p Reg.WDG_H_SVC s →
    let ends := s.fg Fld.WDG_H_CFG_PERIOD * (if s.fb Fld.WDG_H_CFG_CLKSEL = true then 15625 else 32)
    (v.toNat % 65536 ≠ 0x5C3A →
      exec (.watchdogService p v stamp) s = .next (finish (respond p stOk 0 (deviceReset 0x008 s)))) ∧
    (v.toNat % 65536 = 0x5C3A → s.fb Fld.WDG_H_CTL_EN = false →
      exec (.watchdogService p v stamp) s = .next (finish (respond p stOk 0 s))) ∧
    (v.toNat % 65536 = 0x5C3A → s.fb Fld.WDG_H_CTL_EN = true →
      (stamp < ends * s.wdFraction 0 / 16 ∨ ends ≤ stamp →
        exec (.watchdogService p v stamp) s = .next (finish (respond p stOk 0 (deviceReset 0x008 s)))) ∧
      (ends * s.wdFraction 0 / 16 ≤ stamp → stamp < ends → s.wdFraction 0 ≠ 0 →
        exec (.watchdogService p v stamp) s = .next (finish (respond p stOk 0
          ((s.fs Fld.WDG_H_STAT_OPEN 0).setWdg (kvSet (fun _ => 0) s.wdg 0
            (if s.fb Fld.WDG_H_CFG_CLKSEL = true then s.aclk else kvGet (fun _ => 0) s.wdg 0 + stamp)))))))) ∧
  (∀ (w : Fin 3) (s : State), Live s →
    (s.powerState = 0 ∨ s.wdEnabled w = false → exec (.watchdogWindowOpen w) s = .next (finish s) ∧
      exec (.watchdogExpiry w) s = .next (finish s)) ∧
    (s.powerState ≠ 0 → s.wdEnabled w = true →
      exec (.watchdogExpiry w) s = .next (finish (deviceReset (2 ^ (3 + (w : Nat))) s)) ∧
      (s.fb (wdOpenFld w) = false → exec (.watchdogWindowOpen w) s = .next (finish
        (if (w : Nat) = 0 then (s.fs (wdOpenFld w) 1).raise 107 else s.fs (wdOpenFld w) 1))))) ∧
  (∀ s : State, Live s →
    (s.powerState = 0 ∨ (∀ w < 3, s.wdEnabled w = false) → exec .watchdogClockTrip s = .next (finish s)) ∧
    (s.powerState ≠ 0 → (∃ w < 3, s.wdEnabled w = true) →
      exec .watchdogClockTrip s = .next (finish (deviceReset 0x400 s))))

/-- R484 to R486, R488 to R490: a write of word 0 or 7 is refused; MASK_SET and MASK_CLR set and clear masks, PEND_SET and
PEND_CLR the latches of sources that are not reserved, ROUTE the targets; a ball's level is taken in; a coalescing timer
that runs asserts its ball. Model's choice: The reserved bits of words 1 to 6 are log entry 21. -/
def Obligations.EventRegistersAct : Prop :=
  (∀ (p : Port) (i : Fin 8) (v : Word) (s : State), (i : Nat) = 0 ∨ (i : Nat) = 7 →
    (Reach p (Reg.INTC_MASK_SET i) s → exec (.intcMaskSet p i v) s = .next (finish (respond p stDecodeErr 0 s))) ∧
    (Reach p (Reg.INTC_MASK_CLR i) s → exec (.intcMaskClr p i v) s = .next (finish (respond p stDecodeErr 0 s))) ∧
    (Reach p (Reg.INTC_PEND_SET i) s → exec (.intcPendSet p i v) s = .next (finish (respond p stDecodeErr 0 s))) ∧
    (Reach p (Reg.INTC_PEND_CLR i) s → exec (.intcPendClr p i v) s = .next (finish (respond p stDecodeErr 0 s)))) ∧
  (∀ (p : Port) (i : Fin 8) (v : Word) (s : State), 1 ≤ (i : Nat) → (i : Nat) ≤ 6 →
    (Reach p (Reg.INTC_MASK_SET i) s → exec (.intcMaskSet p i v) s = .next (finish (respond p stOk 0
      (s.wr (Reg.INTC_MASK_SET i) (s.rd (Reg.INTC_MASK_SET i) ||| v))))) ∧
    (Reach p (Reg.INTC_MASK_CLR i) s → exec (.intcMaskClr p i v) s = .next (finish (respond p stOk 0
      (s.wr (Reg.INTC_MASK_SET i) (s.rd (Reg.INTC_MASK_SET i) &&& ~~~v))))) ∧
    (Reach p (Reg.INTC_PEND_SET i) s → ∃ m, exec (.intcPendSet p i v) s =
      .next (finish (respond p stOk 0 (s.setIrq { s.irq with latch := m }))) ∧ ∀ ev < 256,
        m.testBit ev = (s.irq.latch.testBit ev || (decide (ev / 32 = i) && v.getLsbD (ev % 32) && !eventReserved ev))) ∧
    (Reach p (Reg.INTC_PEND_CLR i) s → ∃ m, exec (.intcPendClr p i v) s =
      .next (finish (respond p stOk 0 (s.setIrq { s.irq with latch := m }))) ∧ ∀ ev < 256,
        m.testBit ev = (s.irq.latch.testBit ev && !(decide (ev / 32 = i) && v.getLsbD (ev % 32))))) ∧
  (∀ (p : Port) (i : Fin 8) (v : Word) (s : State), Reach p (Reg.INTC_ROUTE i) s →
    (i < 2 ∨ (i : Nat) = 7 → exec (.intcRouteWrite p i v) s = .next (finish (respond p stDecodeErr 0 s))) ∧
    (2 ≤ i → (i : Nat) ≠ 7 → exec (.intcRouteWrite p i v) s =
      .next (finish (respond p stOk 0 (s.wr (Reg.INTC_ROUTE i) v))))) ∧
  (∀ (n : Fin 8) (level : Bool) (s : State), exec (.evinBallEvent n level) s = .next (finish
    (s.setIrq { s.irq with evinLevel := setBit s.irq.evinLevel n level }))) ∧
  (∀ s : State, Live s → s.powerState ≠ 0 →
    (s.irq.t0.n ≠ 0 → (s.rd (Reg.INTC_COAL_H 0)).toNat / 65536 ≠ 0 → exec (.coalesceTimeout 0) s =
      .next (finish (s.setIrq { s.irq with t0 := { s.irq.t0 with ball := true } }))) ∧
    (s.irq.t1.n ≠ 0 → (s.rd (Reg.INTC_COAL_H 1)).toNat / 65536 ≠ 0 → exec (.coalesceTimeout 1) s =
      .next (finish (s.setIrq { s.irq with t1 := { s.irq.t1 with ball := true } }))) ∧
    (s.irq.t0.n = 0 ∨ (s.rd (Reg.INTC_COAL_H 0)).toNat / 65536 = 0 → exec (.coalesceTimeout 0) s = .next (finish s)))

/-- R485, R488, R490, R491: what a pass of the event controller leaves: the sources signalled at each target, a released
ball where there is none, an asserted one that stays while there is one, and an urgent one that asserts it at once. -/
def Obligations.TargetsFollowSignals : Prop :=
  ∀ s : State, Live s → s.powerState ≠ 0 →
    let u := settle s
    let new0 := newlyIn s.irq.sig0 (u.signalledAt 0)
    u.irq.sig0 = u.signalledAt 0 ∧ u.irq.sig1 = u.signalledAt 1 ∧
    (u.signalledAt 0 = 0 → u.irq.t0 = ⟨0, false⟩) ∧ (u.signalledAt 1 = 0 → u.irq.t1 = ⟨0, false⟩) ∧
    (u.signalledAt 0 ≠ 0 → s.irq.t0.ball = true → u.irq.t0.ball = true) ∧
    (u.signalledAt 0 ≠ 0 → s.irq.t0.ball = false → (u.irq.t0.ball = true ↔
      (new0 ≠ [] ∧ u.fg (Fld.INTC_COAL_H_COUNT 0) ≤ min 255 (s.irq.t0.n + new0.length)) ∨ ∃ ev ∈ new0, u.urgent ev = true))

/-! ### Temperature (chapter 16) -/

/-- R500: the derating curve meets each of its points, and is flat before the first and after the last. R502: a throttle
is requested by the third hot result in a row, and withdrawn, while not enforced, more than 5 °C below its level. -/
def Obligations.DeratingAndThrottle : Prop :=
  (∀ (pts : List (Int × Nat)), pts.Pairwise (fun a b => a.1 < b.1) →
      (∀ p ∈ pts, deratingAt pts p.1 = p.2) ∧
      (∀ (t : Int) (h : pts ≠ []), (t ≤ (pts.head h).1 → deratingAt pts t = (pts.head h).2) ∧
        ((pts.getLast h).1 ≤ t → deratingAt pts t = (pts.getLast h).2))) ∧
  (∀ (thr n : Nat) (t : Int) (req enf : Bool), thr ≠ 0 → n ≤ 3 →
      let r := throttleStep thr t req n enf
      (req = false → (r.1 = true ↔ (thr : Int) ≤ t ∧ 2 ≤ n)) ∧ (r.2.2 = true ↔ req = false ∧ (thr : Int) ≤ t ∧ 2 ≤ n) ∧
      (req = true → (r.1 = false ↔ enf = false ∧ t < (thr : Int) - 50)) ∧
      (r.2.1 = if (thr : Int) ≤ t then min 3 (n + 1) else 0))

/-- R495, R496, R498, R499, R501 to R505: what conversions show, an open or a shorted input among them; what a throttle that
is not met within its grace time enforces, how it and a zone shutdown end after 60 s; an input that is switched off at its
next slot, and a FLAG read that ends an exclusion. -/
def Obligations.TemperaturesAct : Prop :=
  (∀ (t : List Int) (s : State), Live s → s.powerState = 0 → exec (.dieConversion t) s = .next (finish s)) ∧
  (∀ (t : List Int) (s : State), Live s → s.powerState ≠ 0 → (∀ k < 4, -32768 ≤ t.getD k 0 ∧ t.getD k 0 < 32768) →
    ∃ u, exec (.dieConversion t) s = .next (finish u) ∧ u.fgs (Fld.THM_DIE_T0 0) = t.getD 0 0 ∧
      u.fgs (Fld.THM_DIE_T1 0) = t.getD 1 0 ∧ u.fgs (Fld.THM_DIE_T0 1) = t.getD 2 0 ∧ u.fgs (Fld.THM_DIE_T1 1) = t.getD 3 0) ∧
  (∀ (res : List (Nat × Int)) (s : State), Live s →
    (s.powerState = 0 → exec (.remoteConversion res) s = .next (finish s)) ∧
    (s.powerState ≠ 0 → ∃ u, exec (.remoteConversion res) s = .next (finish u) ∧
      ∀ n < 16, kvGet (fun _ => none) s.thm.off n = none → s.tsOn n = true →
        let r := res.getD n (0, 0)
        let diode := s.fg (Fld.THM_TS_CFG_TYPE n) = 1
        let low := if diode then 200 else 20
        let high := if diode then 900 else 980
        (low ≤ r.1 → r.1 ≤ high → -32768 ≤ r.2 → r.2 < 32768 → u.tsTemp n = r.2) ∧
        (high < r.1 → u.fg (Fld.THM_TS_FLAG_OPEN n) = 1 ∧ (u.thmIn n).valid = false) ∧
        (r.1 < low → u.fg (Fld.THM_TS_FLAG_SHORT n) = 1 ∧ (u.thmIn n).valid = false))) ∧
  (∀ (h : Fin 5) (s : State), Live s → (h : Nat) < 4 →
    let thr := (s.fg (Fld.THM_Z_THR_THR h) : Int)
    let temp := s.fgs (Fld.THM_Z_STAT_TEMP h)
    let met := thr ≠ 0 ∧ s.fg (Fld.THM_Z_STAT_NOSENSE h) = 0
    let past := (s.thmZone h).reqAt + 10 * fldOf (s.rd (Reg.THM_Z_THR h)) 16 8 ≤ s.thm.clock
    let cool := (s.thmZone h).warmAt + 600 ≤ s.thm.clock
    (bitOf (s.fg Fld.THM_STAT_REQ) h = true → met → past → thr - 50 ≤ temp → exec (.throttleGraceExpiry h) s = .next (finish
      (derateRemoval h ((s.fs Fld.THM_STAT_ENF (setBit (s.fg Fld.THM_STAT_ENF) h true)).driveLine 25)))) ∧
    (bitOf (s.fg Fld.THM_STAT_REQ) h = false ∨ ¬ met ∨ ¬ past ∨ temp < thr - 50 →
      exec (.throttleGraceExpiry h) s = .next (finish s)) ∧
    (met → cool → temp < thr - 50 → exec (.throttleRelease h) s = .next (finish
      ((s.fs Fld.THM_STAT_REQ (setBit (s.fg Fld.THM_STAT_REQ) h false)).fs Fld.THM_STAT_ENF
        (setBit (s.fg Fld.THM_STAT_ENF) h false)))) ∧
    (¬ met ∨ ¬ cool ∨ thr - 50 ≤ temp → exec (.throttleRelease h) s = .next (finish s))) ∧
  (∀ s : State, Live s → s.dieTemp < (s.fg Fld.THM_DIECFG_TDTHR : Int) - 50 →
    (s.thm.dieWarm + 6000 ≤ s.thm.dieClk →
      exec (.throttleRelease 4) s = .next (finish ((s.fs Fld.THM_STAT_DREQ 0).fs Fld.THM_STAT_DENF 0))) ∧
    (s.thm.dieClk < s.thm.dieWarm + 6000 → exec (.throttleRelease 4) s = .next (finish s)) ∧
    exec (.throttleGraceExpiry 4) s = .next (finish s)) ∧
  (∀ (h : Fin 4) (s : State), Live s →
    let warm := ∃ n ∈ s.zoneInputs h, s.fg (Fld.THM_TS_SD_SD n) ≠ 0 ∧ s.tsOn n = true ∧
      ((s.fg (Fld.THM_TS_SD_SD n) : Int) - 100 ≤ s.tsTemp n ∨ s.thm.clock < (s.thmIn n).hotAt + 600)
    (warm → exec (.zoneShutdownClear h) s = .next (finish s)) ∧
    (¬ warm → exec (.zoneShutdownClear h) s = .next (finish (s.fs Fld.THM_STAT_SDZ (setBit (s.fg Fld.THM_STAT_SDZ) h false))))) ∧
  (∀ (p : Port) (n : Fin 16) (group : Fin 8) (s : State), Reach p (Reg.THM_TS_CFG n) s →
    exec (.sensorDisable p n group) s = .next (finish (respond p stOk 0 (s.setThm { s.thm with
      off := kvSet (fun _ => none) s.thm.off n (some (group : Nat)) })))) ∧
  (∀ (p : Port) (n : Fin 16) (s : State), Reach p (Reg.THM_TS_FLAG n) s →
    (s.suspect n = false → exec (.thmFlagRead p n) s =
      .next (finish (respondRead p [s.rd (Reg.THM_TS_FLAG n)] stOk (s.wr (Reg.THM_TS_FLAG n) 0)))) ∧
    (s.suspect n = true → s.tsValid n = true → s.deviates n false = true → exec (.thmFlagRead p n) s =
      .next (finish (respondRead p [s.rd (Reg.THM_TS_FLAG n)] stOk (s.wr (Reg.THM_TS_FLAG n) 4)))) ∧
    (s.suspect n = true → s.tsValid n = false → exec (.thmFlagRead p n) s =
      .next (finish (respondRead p [s.rd (Reg.THM_TS_FLAG n)] stOk (unexclude n (s.wr (Reg.THM_TS_FLAG n) 0)))))) ∧
  (∀ (h : Nat) (s : State), h < 4 → bitOf (s.fg Fld.THM_STAT_SDZ) h = false →
    let t := zoneShutdown h s
    bitOf (t.fg Fld.THM_STAT_SDZ) h = true ∧ t.fg (Fld.THM_Z_STAT_FRAC h) = 0 ∧ t.flt.lines = s.flt.lines ++ [4] ∧
    ∀ n ∈ s.zoneStrings h, Removal.string n ∈ t.removals)

/-! ### Fuses, firmware and the MRAM controller (chapter 17) -/

/-- R509, R510, R512, R513: a fuse read answers with the word, and refuses the device key and an uncorrectable word; GO of
an operation that is locked, meets BUSY or a missing OTP_VPP is refused; one that ends has set its bits, whole or in part,
and no fuse that is blown is ever clear again. Model's choice: OTP_VPP and read errors as operands are log entry 24. -/
def Obligations.FusesAreBlown : Prop :=
  (∀ (p : Port) (w : Fin 1024) (bad : Bool) (s : State), Reach p (0x081000 + 4 * w) s →
    let key := 0x100 ≤ (w : Nat) ∧ (w : Nat) ≤ 0x107
    (key → exec (.otpWordRead p w bad) s = .next (finish (respondRead p [0] stLocked s))) ∧
    (¬ key → exec (.otpWordRead p w false) s = .next (finish (respondRead p [s.otpWord w] stOk s))) ∧
    (¬ key → exec (.otpWordRead p w true) s =
      .next (finish (respondRead p [0] stDecodeErr ((s.fs Fld.OTP_STAT_RDERR 1).driveLine 11))))) ∧
  (∀ (p : Port) (vpp : Bool) (op : Fin 4) (s : State), Reach p Reg.OTP_PCTL s →
    let c : Instr := match op with
      | 0 => .otpProgram p vpp
      | 1 => .otpSeal p vpp
      | 2 => .otpRevoke p vpp
      | 3 => .otpRollback p vpp
    let w := s.fg Fld.OTP_PADDR_WORD
    let d := (s.rd Reg.OTP_PDATA).toNat
    let locked := match op with
      | 0 => decide (w < 0x180) && s.life || decide (w = 0xFF ∨ w = 0x17F ∨ w = 0x180 ∨ w = 0x181 ∨ (0x184 ≤ w ∧ w ≤ 0x187))
      | 1 => s.life
      | 2 => decide (d % 16 < 4) && s.revokeLocked (bitOf d 4) (d % 16)
      | 3 => decide (s.runSvn < s.rollback)
    let words := match op with
      | 0 => [(w, d)]
      | 1 => sealWords s
      | 2 => [(0x181, 2 ^ (d % 16 + if bitOf d 4 = true then 8 else 0))]
      | 3 => rollbackWords s
    let v := s.fs Fld.OTP_STAT_VPPOK (if vpp = true then 1 else 0)
    exec c s = .next (finish
      (if locked = true then respond p stLocked 0 v else if s.fb Fld.OTP_STAT_BUSY = true then respond p stBusy 0 v
      else if vpp = false then respond p stHeld 0 (v.fs Fld.OTP_STAT_VPPERR 1)
      else if op = 2 ∧ 4 ≤ d % 16 then respond p stDecodeErr 0 v
      else respond p stOk 0 ((v.fs Fld.OTP_STAT_BUSY 1).setNvm { v.nvm with otp := words })))) ∧
  (∀ (p : Port) (s : State), Reach p Reg.OTP_PCTL s → s.fb Fld.OTP_STAT_BUSY = false →
    let w := s.fg Fld.OTP_PADDR_WORD
    let d := (s.rd Reg.OTP_PDATA).toNat
    let go : List (Nat × Nat) → State := fun ws => respond p stOk 0
      (((s.fs Fld.OTP_STAT_VPPOK 1).fs Fld.OTP_STAT_BUSY 1).setNvm { s.nvm with otp := ws })
    (s.otpLocked w = false → exec (.otpProgram p true) s = .next (finish (go [(w, d)]))) ∧
    (s.life = false → exec (.otpSeal p true) s = .next (finish (go (sealWords s)))) ∧
    (d % 16 < 4 → s.revokeLocked (bitOf d 4) (d % 16) = false → exec (.otpRevoke p true) s =
      .next (finish (go [(0x181, 2 ^ (d % 16 + if bitOf d 4 = true then 8 else 0))]))) ∧
    (s.rollback ≤ s.runSvn → exec (.otpRollback p true) s = .next (finish (go (rollbackWords s))))) ∧
  (∀ (n : Nat) (part : Word) (res : Fin 3) (s : State), Live s →
    (s.fb Fld.OTP_STAT_BUSY = false → exec (.otpOperationEnd n part res) s = .next (finish s)) ∧
    (s.fb Fld.OTP_STAT_BUSY = true → ∃ u : State, exec (.otpOperationEnd n part res) s = .next (finish (u.raise 194)) ∧
      u.fg Fld.OTP_STAT_BUSY = 0 ∧ u.fg Fld.OTP_STAT_RESULT = [0, 7, 8].getD res 0 ∧ u.nvm.otp = [] ∧
      (∀ w b, (s.otpWord w).getLsbD b = true → (u.otpWord w).getLsbD b = true) ∧
      (∀ w, (∀ x ∈ s.nvm.otp, x.1 ≠ w) → u.otpWord w = s.otpWord w) ∧
      ((res : Nat) = 0 → ∀ x ∈ s.nvm.otp, BitVec.ofNat 32 x.2 &&& ~~~(u.otpWord x.1) = 0)))

/-- R514 to R516, R522: an operation on the bank that runs, or while one runs, is refused; its words wait for the MRAM
controller, which writes one word of the first writer; the operation ends once its words are written; a word that fails
its read-back counts and ends its operation. Model's choice: The details of an NVC operation are log entry 21. -/
def Obligations.BankUpdatesRun : Prop :=
  (∀ (p : Port) (s : State), Reach p Reg.NVC_CTL s →
    let k := s.fg Fld.NVC_ARG_BANK
    let held := s.opRuns = true ∨ k = s.runBank
    let start : Nat → Nat → List (Nat × Nat × Word) → State := fun op res ws =>
      respond p stOk 0 (((s.fs Fld.NVC_CTL_OP op).fs Fld.NVC_STAT_BUSY 1).setNvm
        { s.nvm with words := s.nvm.words ++ ws, res := res })
    (held → exec (.nvcWrite p) s = .next (finish (respond p stHeld 0 s)) ∧
      exec (.nvcCommit p) s = .next (finish (respond p stHeld 0 s)) ∧
      exec (.nvcClear p) s = .next (finish (respond p stHeld 0 s))) ∧
    (¬ held → s.nvcRange = false →
      exec (.nvcWrite p) s = .next (finish (respond p stHeld 0 (s.fs Fld.NVC_STAT_RESULT 5)))) ∧
    (¬ held → s.nvcRange = true → exec (.nvcWrite p) s = .next (finish (start 0 0 (nvcWords 0 k s)))) ∧
    (¬ held → exec (.nvcCommit p) s = .next (finish (start 1 (s.fwCheck (s.bankImage k))
      (if s.fwCheck (s.bankImage k) = 0 then nvcWords 1 k s else [])))) ∧
    (¬ held → exec (.nvcClear p) s = .next (finish (start 2 0 (nvcWords 2 k s))))) ∧
  (∀ s : State, Live s →
    (s.fb Fld.NVC_STAT_BUSY = false ∨ (∃ x ∈ s.nvm.words, x.1 = wHost) → exec .nvcOperationEnd s = .next (finish s)) ∧
    (s.fb Fld.NVC_STAT_BUSY = true → (∀ x ∈ s.nvm.words, x.1 ≠ wHost) → exec .nvcOperationEnd s =
      .next (finish (((s.fs Fld.NVC_STAT_BUSY 0).fs Fld.NVC_STAT_RESULT s.nvm.res).raise 193)))) ∧
  (∀ (aged : List Nat) (s : State), Live s → s.nvm.words = [] → exec (.mramWordWrite aged false) s = .next (finish s)) ∧
  (∀ (aged : List Nat) (w a : Nat) (v : Word) (rest : List (Nat × Nat × Word)) (s : State), Live s →
    s.nvm.words = (w, a, v) :: rest → (∀ x ∈ rest, x.1 = w) → w < 8 →
    (w ≠ wProgram ∨ rest ≠ [] → exec (.mramWordWrite aged false) s =
      .next (finish ((s.setMramWord a v).setNvm { s.nvm with words := rest }))) ∧
    (w = wHost → ∃ u, exec (.mramWordWrite aged true) s = .next (finish u) ∧ u.nvm.words = [] ∧ u.nvm.res = 6 ∧
      u.fg Fld.NVC_ERR_REFUSED = min (s.fg Fld.NVC_ERR_REFUSED + 1) (2 ^ Fld.NVC_ERR_REFUSED.width - 1) ∧
      u.flt.lines = s.flt.lines ++ [10] ∧ ∀ b, b < a ∨ a + 4 ≤ b → u.mramByte b = s.mramByte b))

/-! ### The port TW1 (chapter 03) -/

/-- R128 to R130: a transfer starts while the port is enabled and idle, and ends with DONE: with its data, with a missing
acknowledge, with a failed PEC, with a lost arbitration that no retry is left for, or by a timeout; as a target the port
takes bytes in while its buffer is free and sends its transmit buffer. Model's choice: The idle port and the held buffer
are log entry 25. -/
def Obligations.Tw1Transfers : Prop :=
  (∀ (p : Port) (v : Word) (s : State), Reach p Reg.TWI_TW1_CTL s →
    let w := v &&& 0x003F3FFF#32
    let t := s.wr Reg.TWI_TW1_CTL w
    (s.fb Fld.TWI_TW1_STAT_BUSY = true → exec (.tw1TransferGo p v) s = .next (finish (respond p stBusy 0 s))) ∧
    (s.fb Fld.TWI_TW1_STAT_BUSY = false → 32 < fldOf v 8 6 ∨ 32 < fldOf v 16 6 →
      exec (.tw1TransferGo p v) s = .next (finish (respond p stDecodeErr 0 s))) ∧
    (s.fb Fld.TWI_TW1_STAT_BUSY = false → fldOf v 8 6 ≤ 32 → fldOf v 16 6 ≤ 32 →
      (s.fb Fld.TWI_TW1_CFG_EN = true → exec (.tw1TransferGo p v) s = .next (finish (respond p stOk 0
        ((t.setTw1 { s.tw1 with ctl := w, left := s.fg Fld.TWI_TW1_CFG_RETRY }).fs Fld.TWI_TW1_STAT_BUSY 1)))) ∧
      (s.fb Fld.TWI_TW1_CFG_EN = false → exec (.tw1TransferGo p v) s = .next (finish (respond p stOk 0 t))))) ∧
  (∀ (rx : List Byte) (s : State), Live s →
    let e := (s.fs Fld.TWI_TW1_STAT_BUSY 0).fs Fld.TWI_TW1_STAT_DONE 1
    let n := fldOf s.tw1.ctl 16 6
    (∀ nack, s.fb Fld.TWI_TW1_STAT_BUSY = false → exec (.tw1TransferDone nack rx) s = .next (finish s)) ∧
    let o := e.setTw1 { s.tw1 with out := s.tw1Frame }
    (s.fb Fld.TWI_TW1_STAT_BUSY = true →
      (∀ k : Nat, exec (.tw1TransferDone (some k) rx) s =
        .next (finish ((e.setTw1 { s.tw1 with out := s.tw1Frame.take (k + 1) }).fs Fld.TWI_TW1_STAT_NACK 1))) ∧
      (n = 0 → exec (.tw1TransferDone none rx) s = .next (finish o)) ∧
      (n ≠ 0 → fldOf s.tw1.ctl 7 1 = 0 ∨ (rx.getD n 0).toNat = pec (s.tw1Covered (rx.take n)) →
        exec (.tw1TransferDone none rx) s = .next (finish (rxStore (rx.take n) o))) ∧
      (n ≠ 0 → fldOf s.tw1.ctl 7 1 = 1 → (rx.getD n 0).toNat ≠ pec (s.tw1Covered (rx.take n)) →
        exec (.tw1TransferDone none rx) s =
          .next (finish (((rxStore (rx.take n) o).fs Fld.TWI_TW1_STAT_PECFAIL 1).driveLine 27))))) ∧
  (∀ s : State,
    let a : Byte := BitVec.ofNat 8 (2 * fldOf s.tw1.ctl 0 7)
    let w := fldOf s.tw1.ctl 8 6
    (fldOf s.tw1.ctl 16 6 = 0 → 0 < w → fldOf s.tw1.ctl 7 1 = 1 →
      s.tw1Frame = (a :: s.txBytes.take w) ++ [BitVec.ofNat 8 (pec (a :: s.txBytes.take w))]) ∧
    (fldOf s.tw1.ctl 16 6 = 0 → 0 < w → fldOf s.tw1.ctl 7 1 = 0 → s.tw1Frame = a :: s.txBytes.take w)) ∧
  (∀ s : State, Live s → s.fb Fld.TWI_TW1_STAT_BUSY = true →
    let e := (s.fs Fld.TWI_TW1_STAT_BUSY 0).fs Fld.TWI_TW1_STAT_DONE 1
    (∀ own, exec (.tw1ArbitrationLost true own) s = .next (finish (e.fs Fld.TWI_TW1_STAT_ARB_COND 1))) ∧
    (s.tw1.left = 0 → exec (.tw1ArbitrationLost false none) s = .next (finish (e.fs Fld.TWI_TW1_STAT_ARB 1))) ∧
    (s.tw1.left ≠ 0 → exec (.tw1ArbitrationLost false none) s =
      .next (finish (s.setTw1 { s.tw1 with left := s.tw1.left - 1 }))) ∧
    (∀ b, exec (.tw1ArbitrationLost false (some (.inl b))) s =
      .next (finish (tw1Written b (e.fs Fld.TWI_TW1_STAT_ARB 1))))) ∧
  (∀ (b : List Byte) (n : Nat) (s : State), Live s →
    (s.tw1Answers = true → exec (.tw1TargetWrite b) s = .next (finish ((rxStore b s).fs Fld.TWI_TW1_STAT_RXFULL 1)) ∧
      exec (.tw1TargetRead n) s = .next (finish (s.setTw1 { s.tw1 with
        sent := (s.txBytes ++ List.replicate (n - 32) 0xFF).take n }))) ∧
    (s.tw1Answers = false → exec (.tw1TargetWrite b) s = .next (finish s) ∧ exec (.tw1TargetRead n) s = .next (finish s))) ∧
  (∀ s : State, Live s →
    (s.fb Fld.TWI_TW1_CFG_EN = true → s.fb Fld.TWI_TW1_CFG_TMO_EN = true → exec .tw1Timeout s = .next (finish
      (((if s.fb Fld.TWI_TW1_STAT_BUSY = true then (s.fs Fld.TWI_TW1_STAT_BUSY 0).fs Fld.TWI_TW1_STAT_DONE 1 else s).fs
        Fld.TWI_TW1_STAT_TMO 1).driveLine 27))) ∧
    (s.fb Fld.TWI_TW1_CFG_EN = false ∨ s.fb Fld.TWI_TW1_CFG_TMO_EN = false → exec .tw1Timeout s = .next (finish s))) ∧
  (∀ (b : List Byte) (s : State), b.length ≤ 32 →
    let u := rxStore b s
    u.fg Fld.TWI_TW1_STAT_RXCNT = b.length ∧
    ∀ k < b.length, fldOf (u.rd (Reg.TWI_TW1_RX (k / 4))) (8 * (k % 4)) 8 = (b.getD k 0).toNat)
end

