-- ==== Sys2Proof/Laws/Maps.lean ====
section
/-! SUPPORT. The laws of the sparse maps: read after write, and the canonical form. -/
namespace Sys2Proof.Machine

variable {α : Type} (d : Nat → α)

theorem kvGet_filter_other (m : KV α) (p : Nat × α → Bool) (k : Nat) (h : ∀ v, p (k, v) = true) :
    kvGet d (m.filter p) k = kvGet d m k := by
  induction m with
  | nil => rfl
  | cons c r ih =>
    obtain ⟨a, v⟩ := c
    by_cases e : a = k
    · subst e; simp [List.filter, h v, kvGet]
    · by_cases hp : p (a, v) = true <;> simp [List.filter, hp, kvGet, e, ih]

theorem kvGet_filter_gone (m : KV α) (p : Nat × α → Bool) (k : Nat) (h : ∀ v, p (k, v) = false) :
    kvGet d (m.filter p) k = d k := by
  induction m with
  | nil => rfl
  | cons c r ih =>
    obtain ⟨a, v⟩ := c
    by_cases e : a = k
    · subst e; simp [List.filter, h v, ih]
    · by_cases hp : p (a, v) = true <;> simp [List.filter, hp, kvGet, e, ih]

theorem kvGet_insert_same (m : KV α) (k : Nat) (v : α) : kvGet d (kvInsert k v m) k = v := by
  induction m with
  | nil => simp [kvInsert, kvGet]
  | cons c r ih =>
    obtain ⟨a, w⟩ := c
    simp only [kvInsert]
    split_ifs with h1 h2
    · simp [kvGet]
    · simp [kvGet]
    · simp [kvGet, h2, ih]

theorem kvGet_insert_other (m : KV α) (k j : Nat) (v : α) (h : j ≠ k) :
    kvGet d (kvInsert k v m) j = kvGet d m j := by
  induction m with
  | nil => simp [kvInsert, kvGet, Ne.symm h]
  | cons c r ih =>
    obtain ⟨a, w⟩ := c
    simp only [kvInsert]
    split_ifs with h1 h2
    · simp [kvGet, Ne.symm h]
    · subst h2; simp [kvGet, Ne.symm h]
    · simp [kvGet, ih]

variable [DecidableEq α]

/-- A read after a write to the same key. -/
theorem kvGet_set_same (m : KV α) (k : Nat) (v : α) : kvGet d (kvSet d m k v) k = v := by
  unfold kvSet
  split_ifs with h
  · rw [kvErase, kvGet_filter_gone d m _ k (by simp), h]
  · exact kvGet_insert_same d m k v

/-- A write leaves every other key alone. -/
theorem kvGet_set_other (m : KV α) (k j : Nat) (v : α) (h : j ≠ k) : kvGet d (kvSet d m k v) j = kvGet d m j := by
  unfold kvSet
  split_ifs
  · exact kvGet_filter_other d m _ j (by simp [h])
  · exact kvGet_insert_other d m k j v h

theorem kvGet_set (m : KV α) (k j : Nat) (v : α) :
    kvGet d (kvSet d m k v) j = if j = k then v else kvGet d m j := by
  split_ifs with h
  · subst h; exact kvGet_set_same d m j v
  · exact kvGet_set_other d m k j v h

/-! ### The canonical form -/

theorem kvWf_cons (a : Nat) (v : α) (r : KV α) :
    kvWf d ((a, v) :: r) = true ↔ v ≠ d a ∧ (∀ c ∈ r, a < c.1) ∧ kvWf d r = true := by
  simp [kvWf, and_assoc]

theorem kvWf_filter (m : KV α) (p : Nat × α → Bool) (h : kvWf d m = true) : kvWf d (m.filter p) = true := by
  induction m with
  | nil => rfl
  | cons c r ih =>
    obtain ⟨a, v⟩ := c
    rw [kvWf_cons] at h
    by_cases hp : p (a, v) = true
    · simp only [List.filter, hp]
      rw [kvWf_cons]
      exact ⟨h.1, fun c hc => h.2.1 c (List.mem_of_mem_filter hc), ih h.2.2⟩
    · simp only [List.filter, hp]
      exact ih h.2.2

omit [DecidableEq α] in
theorem kvInsert_key (m : KV α) (k : Nat) (v : α) (c : Nat × α) (h : c ∈ kvInsert k v m) : c.1 = k ∨ c ∈ m := by
  induction m with
  | nil => simp [kvInsert] at h; exact .inl (by rw [h])
  | cons x r ih =>
    obtain ⟨a, w⟩ := x
    simp only [kvInsert] at h
    split_ifs at h with h1 h2
    · rcases List.mem_cons.1 h with rfl | h
      · exact .inl rfl
      · exact .inr h
    · rcases List.mem_cons.1 h with rfl | h
      · exact .inl rfl
      · exact .inr (List.mem_cons_of_mem _ h)
    · rcases List.mem_cons.1 h with rfl | h
      · exact .inr (by simp)
      · exact (ih h).imp id (List.mem_cons_of_mem _)

theorem kvWf_insert (m : KV α) (k : Nat) (v : α) (hv : v ≠ d k) (h : kvWf d m = true) :
    kvWf d (kvInsert k v m) = true := by
  induction m with
  | nil => simp [kvInsert, kvWf, hv]
  | cons c r ih =>
    obtain ⟨a, w⟩ := c
    have h' := h
    rw [kvWf_cons] at h'
    simp only [kvInsert]
    split_ifs with h1 h2
    · rw [kvWf_cons]
      refine ⟨hv, fun c hc => ?_, h⟩
      rcases List.mem_cons.1 hc with rfl | hc
      · exact h1
      · exact lt_trans h1 (h'.2.1 c hc)
    · subst h2
      rw [kvWf_cons]
      exact ⟨hv, h'.2.1, h'.2.2⟩
    · rw [kvWf_cons]
      refine ⟨h'.1, fun c hc => ?_, ih h'.2.2⟩
      rcases kvInsert_key r k v c hc with e | hc
      · omega
      · exact h'.2.1 c hc

/-- A write keeps the canonical form. -/
theorem kvWf_set (m : KV α) (k : Nat) (v : α) (h : kvWf d m = true) : kvWf d (kvSet d m k v) = true := by
  unfold kvSet
  split_ifs with hv
  · exact kvWf_filter d m _ h
  · exact kvWf_insert d m k v hv h

theorem kvWf_clear (m : KV α) (lo hi : Nat) (h : kvWf d m = true) : kvWf d (kvClear m lo hi) = true :=
  kvWf_filter d m _ h

/-- Two canonical maps that read alike at every key are the same data. -/
theorem kvWf_ext (m n : KV α) (hm : kvWf d m = true) (hn : kvWf d n = true)
    (h : ∀ k, kvGet d m k = kvGet d n k) : m = n := by
  have low : ∀ (r : KV α) (b : Nat), (∀ c ∈ r, b < c.1) → kvGet d r b = d b := by
    intro r b hb
    induction r with
    | nil => rfl
    | cons c r ih =>
      obtain ⟨a, v⟩ := c
      have := hb (a, v) (by simp)
      simp only [kvGet]
      rw [if_neg (by simp only at this; omega)]
      exact ih (fun c hc => hb c (List.mem_cons_of_mem _ hc))
  have lt : ∀ (r : KV α) (b : Nat) (a : Nat), (∀ c ∈ r, a < c.1) → b ≤ a → kvGet d r b = d b :=
    fun r b a hr hb => low r b (fun c hc => lt_of_le_of_lt hb (hr c hc))
  induction m generalizing n with
  | nil =>
    cases n with
    | nil => rfl
    | cons c r =>
      obtain ⟨a, v⟩ := c
      rw [kvWf_cons] at hn
      have := h a
      simp [kvGet] at this
      exact absurd this.symm hn.1
  | cons c r ih =>
    obtain ⟨a, v⟩ := c
    rw [kvWf_cons] at hm
    cases n with
    | nil =>
      have := h a
      simp [kvGet] at this
      exact absurd this hm.1
    | cons c' r' =>
      obtain ⟨a', v'⟩ := c'
      rw [kvWf_cons] at hn
      have ha : a = a' := by
        rcases Nat.lt_trichotomy a a' with hlt | he | hgt
        · have := h a
          simp only [kvGet, if_true, if_neg (by omega : ¬ a' = a)] at this
          rw [lt r' a a' hn.2.1 (by omega)] at this
          exact absurd this hm.1
        · exact he
        · have := h a'
          simp only [kvGet, if_true, if_neg (by omega : ¬ a = a')] at this
          rw [lt r a' a hm.2.1 (by omega)] at this
          exact absurd this.symm hn.1
      subst ha
      have hv : v = v' := by simpa [kvGet] using h a
      subst hv
      congr 1
      refine ih r' hm.2.2 hn.2.2 (fun k => ?_)
      by_cases hk : a = k
      · subst hk
        rw [lt r a a hm.2.1 le_rfl, lt r' a a hn.2.1 le_rfl]
      · simpa [kvGet, hk] using h k

end Sys2Proof.Machine
end

