-- ==== Sys2Proof/Laws/State.lean ====
section
/-! SUPPORT. What each elementary update of the state leaves alone, field by field. -/
namespace Sys2Proof.Machine

variable (s : State)

@[simp] theorem State.wr_pending (a : Nat) (v : Word) : (s.wr a v).pending = s.pending := (rfl)
@[simp] theorem State.wr_sram (a : Nat) (v : Word) : (s.wr a v).sram = s.sram := (rfl)
@[simp] theorem State.wr_mram (a : Nat) (v : Word) : (s.wr a v).mram = s.mram := (rfl)
@[simp] theorem State.wr_otp (a : Nat) (v : Word) : (s.wr a v).otp = s.otp := (rfl)
@[simp] theorem State.wr_staging (a : Nat) (v : Word) : (s.wr a v).staging = s.staging := (rfl)
@[simp] theorem State.wr_commits (a : Nat) (v : Word) : (s.wr a v).commits = s.commits := (rfl)
@[simp] theorem State.wr_joint (a : Nat) (v : Word) : (s.wr a v).joint = s.joint := (rfl)
@[simp] theorem State.wr_free (a : Nat) (v : Word) : (s.wr a v).free = s.free := (rfl)
@[simp] theorem State.wr_irq (a : Nat) (v : Word) : (s.wr a v).irq = s.irq := (rfl)
@[simp] theorem State.wr_port0 (a : Nat) (v : Word) : (s.wr a v).port0 = s.port0 := (rfl)
@[simp] theorem State.wr_port1 (a : Nat) (v : Word) : (s.wr a v).port1 = s.port1 := (rfl)
@[simp] theorem State.wr_caps (a : Nat) (v : Word) : (s.wr a v).caps = s.caps := (rfl)
@[simp] theorem State.wr_image (a : Nat) (v : Word) : (s.wr a v).image = s.image := (rfl)
@[simp] theorem State.wr_tiles (a : Nat) (v : Word) : (s.wr a v).tiles = s.tiles := (rfl)
@[simp] theorem State.wr_pub (a : Nat) (v : Word) : (s.wr a v).pub = s.pub := (rfl)
@[simp] theorem State.wr_rst (a : Nat) (v : Word) : (s.wr a v).rst = s.rst := (rfl)
@[simp] theorem State.wr_prp (a : Nat) (v : Word) : (s.wr a v).prp = s.prp := (rfl)
@[simp] theorem State.wr_cnv (a : Nat) (v : Word) : (s.wr a v).cnv = s.cnv := (rfl)
@[simp] theorem State.wr_prot (a : Nat) (v : Word) : (s.wr a v).prot = s.prot := (rfl)
@[simp] theorem State.wr_ord (a : Nat) (v : Word) : (s.wr a v).ord = s.ord := (rfl)
@[simp] theorem State.wr_sct (a : Nat) (v : Word) : (s.wr a v).sct = s.sct := (rfl)
@[simp] theorem State.wr_flt (a : Nat) (v : Word) : (s.wr a v).flt = s.flt := (rfl)
@[simp] theorem State.wr_clk (a : Nat) (v : Word) : (s.wr a v).clk = s.clk := (rfl)
@[simp] theorem State.wr_pwr (a : Nat) (v : Word) : (s.wr a v).pwr = s.pwr := (rfl)
@[simp] theorem State.wr_rtc (a : Nat) (v : Word) : (s.wr a v).rtc = s.rtc := (rfl)
@[simp] theorem State.wr_seqr (a : Nat) (v : Word) : (s.wr a v).seqr = s.seqr := (rfl)
@[simp] theorem State.wr_wgl (a : Nat) (v : Word) : (s.wr a v).wgl = s.wgl := (rfl)
@[simp] theorem State.wr_mtr (a : Nat) (v : Word) : (s.wr a v).mtr = s.mtr := (rfl)
@[simp] theorem State.wr_thm (a : Nat) (v : Word) : (s.wr a v).thm = s.thm := (rfl)
@[simp] theorem State.wr_ldg (a : Nat) (v : Word) : (s.wr a v).ldg = s.ldg := (rfl)
@[simp] theorem State.wr_chg (a : Nat) (v : Word) : (s.wr a v).chg = s.chg := (rfl)
@[simp] theorem State.wr_est (a : Nat) (v : Word) : (s.wr a v).est = s.est := (rfl)
@[simp] theorem State.wr_can (a : Nat) (v : Word) : (s.wr a v).can = s.can := (rfl)
@[simp] theorem State.wr_tmr (a : Nat) (v : Word) : (s.wr a v).tmr = s.tmr := (rfl)
@[simp] theorem State.wr_wdg (a : Nat) (v : Word) : (s.wr a v).wdg = s.wdg := (rfl)
@[simp] theorem State.wr_nvm (a : Nat) (v : Word) : (s.wr a v).nvm = s.nvm := (rfl)
@[simp] theorem State.wr_tw1 (a : Nat) (v : Word) : (s.wr a v).tw1 = s.tw1 := (rfl)
@[simp] theorem State.wr_keyed (a : Nat) (v : Word) : (s.wr a v).keyed = s.keyed := (rfl)
@[simp] theorem State.wr_removals (a : Nat) (v : Word) : (s.wr a v).removals = s.removals := (rfl)

@[simp] theorem State.fs_pending (f : Fld) (v : Nat) : (s.fs f v).pending = s.pending := (rfl)
@[simp] theorem State.fs_sram (f : Fld) (v : Nat) : (s.fs f v).sram = s.sram := (rfl)
@[simp] theorem State.fs_mram (f : Fld) (v : Nat) : (s.fs f v).mram = s.mram := (rfl)
@[simp] theorem State.fs_otp (f : Fld) (v : Nat) : (s.fs f v).otp = s.otp := (rfl)
@[simp] theorem State.fs_staging (f : Fld) (v : Nat) : (s.fs f v).staging = s.staging := (rfl)
@[simp] theorem State.fs_commits (f : Fld) (v : Nat) : (s.fs f v).commits = s.commits := (rfl)
@[simp] theorem State.fs_joint (f : Fld) (v : Nat) : (s.fs f v).joint = s.joint := (rfl)
@[simp] theorem State.fs_free (f : Fld) (v : Nat) : (s.fs f v).free = s.free := (rfl)
@[simp] theorem State.fs_irq (f : Fld) (v : Nat) : (s.fs f v).irq = s.irq := (rfl)
@[simp] theorem State.fs_port0 (f : Fld) (v : Nat) : (s.fs f v).port0 = s.port0 := (rfl)
@[simp] theorem State.fs_port1 (f : Fld) (v : Nat) : (s.fs f v).port1 = s.port1 := (rfl)
@[simp] theorem State.fs_caps (f : Fld) (v : Nat) : (s.fs f v).caps = s.caps := (rfl)
@[simp] theorem State.fs_image (f : Fld) (v : Nat) : (s.fs f v).image = s.image := (rfl)
@[simp] theorem State.fs_tiles (f : Fld) (v : Nat) : (s.fs f v).tiles = s.tiles := (rfl)
@[simp] theorem State.fs_pub (f : Fld) (v : Nat) : (s.fs f v).pub = s.pub := (rfl)
@[simp] theorem State.fs_rst (f : Fld) (v : Nat) : (s.fs f v).rst = s.rst := (rfl)
@[simp] theorem State.fs_prp (f : Fld) (v : Nat) : (s.fs f v).prp = s.prp := (rfl)
@[simp] theorem State.fs_cnv (f : Fld) (v : Nat) : (s.fs f v).cnv = s.cnv := (rfl)
@[simp] theorem State.fs_prot (f : Fld) (v : Nat) : (s.fs f v).prot = s.prot := (rfl)
@[simp] theorem State.fs_ord (f : Fld) (v : Nat) : (s.fs f v).ord = s.ord := (rfl)
@[simp] theorem State.fs_sct (f : Fld) (v : Nat) : (s.fs f v).sct = s.sct := (rfl)
@[simp] theorem State.fs_flt (f : Fld) (v : Nat) : (s.fs f v).flt = s.flt := (rfl)
@[simp] theorem State.fs_clk (f : Fld) (v : Nat) : (s.fs f v).clk = s.clk := (rfl)
@[simp] theorem State.fs_pwr (f : Fld) (v : Nat) : (s.fs f v).pwr = s.pwr := (rfl)
@[simp] theorem State.fs_rtc (f : Fld) (v : Nat) : (s.fs f v).rtc = s.rtc := (rfl)
@[simp] theorem State.fs_seqr (f : Fld) (v : Nat) : (s.fs f v).seqr = s.seqr := (rfl)
@[simp] theorem State.fs_wgl (f : Fld) (v : Nat) : (s.fs f v).wgl = s.wgl := (rfl)
@[simp] theorem State.fs_mtr (f : Fld) (v : Nat) : (s.fs f v).mtr = s.mtr := (rfl)
@[simp] theorem State.fs_thm (f : Fld) (v : Nat) : (s.fs f v).thm = s.thm := (rfl)
@[simp] theorem State.fs_ldg (f : Fld) (v : Nat) : (s.fs f v).ldg = s.ldg := (rfl)
@[simp] theorem State.fs_chg (f : Fld) (v : Nat) : (s.fs f v).chg = s.chg := (rfl)
@[simp] theorem State.fs_est (f : Fld) (v : Nat) : (s.fs f v).est = s.est := (rfl)
@[simp] theorem State.fs_can (f : Fld) (v : Nat) : (s.fs f v).can = s.can := (rfl)
@[simp] theorem State.fs_tmr (f : Fld) (v : Nat) : (s.fs f v).tmr = s.tmr := (rfl)
@[simp] theorem State.fs_wdg (f : Fld) (v : Nat) : (s.fs f v).wdg = s.wdg := (rfl)
@[simp] theorem State.fs_nvm (f : Fld) (v : Nat) : (s.fs f v).nvm = s.nvm := (rfl)
@[simp] theorem State.fs_tw1 (f : Fld) (v : Nat) : (s.fs f v).tw1 = s.tw1 := (rfl)
@[simp] theorem State.fs_keyed (f : Fld) (v : Nat) : (s.fs f v).keyed = s.keyed := (rfl)
@[simp] theorem State.fs_removals (f : Fld) (v : Nat) : (s.fs f v).removals = s.removals := (rfl)

@[simp] theorem State.setSramByte_pending (a : Nat) (v : Byte) : (s.setSramByte a v).pending = s.pending := (rfl)
@[simp] theorem State.setSramByte_regs (a : Nat) (v : Byte) : (s.setSramByte a v).regs = s.regs := (rfl)
@[simp] theorem State.setSramByte_mram (a : Nat) (v : Byte) : (s.setSramByte a v).mram = s.mram := (rfl)
@[simp] theorem State.setSramByte_otp (a : Nat) (v : Byte) : (s.setSramByte a v).otp = s.otp := (rfl)
@[simp] theorem State.setSramByte_staging (a : Nat) (v : Byte) : (s.setSramByte a v).staging = s.staging := (rfl)
@[simp] theorem State.setSramByte_commits (a : Nat) (v : Byte) : (s.setSramByte a v).commits = s.commits := (rfl)
@[simp] theorem State.setSramByte_joint (a : Nat) (v : Byte) : (s.setSramByte a v).joint = s.joint := (rfl)
@[simp] theorem State.setSramByte_free (a : Nat) (v : Byte) : (s.setSramByte a v).free = s.free := (rfl)
@[simp] theorem State.setSramByte_irq (a : Nat) (v : Byte) : (s.setSramByte a v).irq = s.irq := (rfl)
@[simp] theorem State.setSramByte_port0 (a : Nat) (v : Byte) : (s.setSramByte a v).port0 = s.port0 := (rfl)
@[simp] theorem State.setSramByte_port1 (a : Nat) (v : Byte) : (s.setSramByte a v).port1 = s.port1 := (rfl)
@[simp] theorem State.setSramByte_caps (a : Nat) (v : Byte) : (s.setSramByte a v).caps = s.caps := (rfl)
@[simp] theorem State.setSramByte_image (a : Nat) (v : Byte) : (s.setSramByte a v).image = s.image := (rfl)
@[simp] theorem State.setSramByte_tiles (a : Nat) (v : Byte) : (s.setSramByte a v).tiles = s.tiles := (rfl)
@[simp] theorem State.setSramByte_pub (a : Nat) (v : Byte) : (s.setSramByte a v).pub = s.pub := (rfl)
@[simp] theorem State.setSramByte_rst (a : Nat) (v : Byte) : (s.setSramByte a v).rst = s.rst := (rfl)
@[simp] theorem State.setSramByte_prp (a : Nat) (v : Byte) : (s.setSramByte a v).prp = s.prp := (rfl)
@[simp] theorem State.setSramByte_cnv (a : Nat) (v : Byte) : (s.setSramByte a v).cnv = s.cnv := (rfl)
@[simp] theorem State.setSramByte_prot (a : Nat) (v : Byte) : (s.setSramByte a v).prot = s.prot := (rfl)
@[simp] theorem State.setSramByte_ord (a : Nat) (v : Byte) : (s.setSramByte a v).ord = s.ord := (rfl)
@[simp] theorem State.setSramByte_sct (a : Nat) (v : Byte) : (s.setSramByte a v).sct = s.sct := (rfl)
@[simp] theorem State.setSramByte_flt (a : Nat) (v : Byte) : (s.setSramByte a v).flt = s.flt := (rfl)
@[simp] theorem State.setSramByte_clk (a : Nat) (v : Byte) : (s.setSramByte a v).clk = s.clk := (rfl)
@[simp] theorem State.setSramByte_pwr (a : Nat) (v : Byte) : (s.setSramByte a v).pwr = s.pwr := (rfl)
@[simp] theorem State.setSramByte_rtc (a : Nat) (v : Byte) : (s.setSramByte a v).rtc = s.rtc := (rfl)
@[simp] theorem State.setSramByte_seqr (a : Nat) (v : Byte) : (s.setSramByte a v).seqr = s.seqr := (rfl)
@[simp] theorem State.setSramByte_wgl (a : Nat) (v : Byte) : (s.setSramByte a v).wgl = s.wgl := (rfl)
@[simp] theorem State.setSramByte_mtr (a : Nat) (v : Byte) : (s.setSramByte a v).mtr = s.mtr := (rfl)
@[simp] theorem State.setSramByte_thm (a : Nat) (v : Byte) : (s.setSramByte a v).thm = s.thm := (rfl)
@[simp] theorem State.setSramByte_ldg (a : Nat) (v : Byte) : (s.setSramByte a v).ldg = s.ldg := (rfl)
@[simp] theorem State.setSramByte_chg (a : Nat) (v : Byte) : (s.setSramByte a v).chg = s.chg := (rfl)
@[simp] theorem State.setSramByte_est (a : Nat) (v : Byte) : (s.setSramByte a v).est = s.est := (rfl)
@[simp] theorem State.setSramByte_can (a : Nat) (v : Byte) : (s.setSramByte a v).can = s.can := (rfl)
@[simp] theorem State.setSramByte_tmr (a : Nat) (v : Byte) : (s.setSramByte a v).tmr = s.tmr := (rfl)
@[simp] theorem State.setSramByte_wdg (a : Nat) (v : Byte) : (s.setSramByte a v).wdg = s.wdg := (rfl)
@[simp] theorem State.setSramByte_nvm (a : Nat) (v : Byte) : (s.setSramByte a v).nvm = s.nvm := (rfl)
@[simp] theorem State.setSramByte_tw1 (a : Nat) (v : Byte) : (s.setSramByte a v).tw1 = s.tw1 := (rfl)
@[simp] theorem State.setSramByte_keyed (a : Nat) (v : Byte) : (s.setSramByte a v).keyed = s.keyed := (rfl)
@[simp] theorem State.setSramByte_removals (a : Nat) (v : Byte) : (s.setSramByte a v).removals = s.removals := (rfl)

@[simp] theorem State.setMramByte_pending (a : Nat) (v : Byte) : (s.setMramByte a v).pending = s.pending := (rfl)
@[simp] theorem State.setMramByte_regs (a : Nat) (v : Byte) : (s.setMramByte a v).regs = s.regs := (rfl)
@[simp] theorem State.setMramByte_sram (a : Nat) (v : Byte) : (s.setMramByte a v).sram = s.sram := (rfl)
@[simp] theorem State.setMramByte_otp (a : Nat) (v : Byte) : (s.setMramByte a v).otp = s.otp := (rfl)
@[simp] theorem State.setMramByte_staging (a : Nat) (v : Byte) : (s.setMramByte a v).staging = s.staging := (rfl)
@[simp] theorem State.setMramByte_commits (a : Nat) (v : Byte) : (s.setMramByte a v).commits = s.commits := (rfl)
@[simp] theorem State.setMramByte_joint (a : Nat) (v : Byte) : (s.setMramByte a v).joint = s.joint := (rfl)
@[simp] theorem State.setMramByte_free (a : Nat) (v : Byte) : (s.setMramByte a v).free = s.free := (rfl)
@[simp] theorem State.setMramByte_irq (a : Nat) (v : Byte) : (s.setMramByte a v).irq = s.irq := (rfl)
@[simp] theorem State.setMramByte_port0 (a : Nat) (v : Byte) : (s.setMramByte a v).port0 = s.port0 := (rfl)
@[simp] theorem State.setMramByte_port1 (a : Nat) (v : Byte) : (s.setMramByte a v).port1 = s.port1 := (rfl)
@[simp] theorem State.setMramByte_caps (a : Nat) (v : Byte) : (s.setMramByte a v).caps = s.caps := (rfl)
@[simp] theorem State.setMramByte_image (a : Nat) (v : Byte) : (s.setMramByte a v).image = s.image := (rfl)
@[simp] theorem State.setMramByte_tiles (a : Nat) (v : Byte) : (s.setMramByte a v).tiles = s.tiles := (rfl)
@[simp] theorem State.setMramByte_pub (a : Nat) (v : Byte) : (s.setMramByte a v).pub = s.pub := (rfl)
@[simp] theorem State.setMramByte_rst (a : Nat) (v : Byte) : (s.setMramByte a v).rst = s.rst := (rfl)
@[simp] theorem State.setMramByte_prp (a : Nat) (v : Byte) : (s.setMramByte a v).prp = s.prp := (rfl)
@[simp] theorem State.setMramByte_cnv (a : Nat) (v : Byte) : (s.setMramByte a v).cnv = s.cnv := (rfl)
@[simp] theorem State.setMramByte_prot (a : Nat) (v : Byte) : (s.setMramByte a v).prot = s.prot := (rfl)
@[simp] theorem State.setMramByte_ord (a : Nat) (v : Byte) : (s.setMramByte a v).ord = s.ord := (rfl)
@[simp] theorem State.setMramByte_sct (a : Nat) (v : Byte) : (s.setMramByte a v).sct = s.sct := (rfl)
@[simp] theorem State.setMramByte_flt (a : Nat) (v : Byte) : (s.setMramByte a v).flt = s.flt := (rfl)
@[simp] theorem State.setMramByte_clk (a : Nat) (v : Byte) : (s.setMramByte a v).clk = s.clk := (rfl)
@[simp] theorem State.setMramByte_pwr (a : Nat) (v : Byte) : (s.setMramByte a v).pwr = s.pwr := (rfl)
@[simp] theorem State.setMramByte_rtc (a : Nat) (v : Byte) : (s.setMramByte a v).rtc = s.rtc := (rfl)
@[simp] theorem State.setMramByte_seqr (a : Nat) (v : Byte) : (s.setMramByte a v).seqr = s.seqr := (rfl)
@[simp] theorem State.setMramByte_wgl (a : Nat) (v : Byte) : (s.setMramByte a v).wgl = s.wgl := (rfl)
@[simp] theorem State.setMramByte_mtr (a : Nat) (v : Byte) : (s.setMramByte a v).mtr = s.mtr := (rfl)
@[simp] theorem State.setMramByte_thm (a : Nat) (v : Byte) : (s.setMramByte a v).thm = s.thm := (rfl)
@[simp] theorem State.setMramByte_ldg (a : Nat) (v : Byte) : (s.setMramByte a v).ldg = s.ldg := (rfl)
@[simp] theorem State.setMramByte_chg (a : Nat) (v : Byte) : (s.setMramByte a v).chg = s.chg := (rfl)
@[simp] theorem State.setMramByte_est (a : Nat) (v : Byte) : (s.setMramByte a v).est = s.est := (rfl)
@[simp] theorem State.setMramByte_can (a : Nat) (v : Byte) : (s.setMramByte a v).can = s.can := (rfl)
@[simp] theorem State.setMramByte_tmr (a : Nat) (v : Byte) : (s.setMramByte a v).tmr = s.tmr := (rfl)
@[simp] theorem State.setMramByte_wdg (a : Nat) (v : Byte) : (s.setMramByte a v).wdg = s.wdg := (rfl)
@[simp] theorem State.setMramByte_nvm (a : Nat) (v : Byte) : (s.setMramByte a v).nvm = s.nvm := (rfl)
@[simp] theorem State.setMramByte_tw1 (a : Nat) (v : Byte) : (s.setMramByte a v).tw1 = s.tw1 := (rfl)
@[simp] theorem State.setMramByte_keyed (a : Nat) (v : Byte) : (s.setMramByte a v).keyed = s.keyed := (rfl)
@[simp] theorem State.setMramByte_removals (a : Nat) (v : Byte) : (s.setMramByte a v).removals = s.removals := (rfl)

@[simp] theorem State.setOtpWord_pending (a : Nat) (v : Word) : (s.setOtpWord a v).pending = s.pending := (rfl)
@[simp] theorem State.setOtpWord_regs (a : Nat) (v : Word) : (s.setOtpWord a v).regs = s.regs := (rfl)
@[simp] theorem State.setOtpWord_sram (a : Nat) (v : Word) : (s.setOtpWord a v).sram = s.sram := (rfl)
@[simp] theorem State.setOtpWord_mram (a : Nat) (v : Word) : (s.setOtpWord a v).mram = s.mram := (rfl)
@[simp] theorem State.setOtpWord_staging (a : Nat) (v : Word) : (s.setOtpWord a v).staging = s.staging := (rfl)
@[simp] theorem State.setOtpWord_commits (a : Nat) (v : Word) : (s.setOtpWord a v).commits = s.commits := (rfl)
@[simp] theorem State.setOtpWord_joint (a : Nat) (v : Word) : (s.setOtpWord a v).joint = s.joint := (rfl)
@[simp] theorem State.setOtpWord_free (a : Nat) (v : Word) : (s.setOtpWord a v).free = s.free := (rfl)
@[simp] theorem State.setOtpWord_irq (a : Nat) (v : Word) : (s.setOtpWord a v).irq = s.irq := (rfl)
@[simp] theorem State.setOtpWord_port0 (a : Nat) (v : Word) : (s.setOtpWord a v).port0 = s.port0 := (rfl)
@[simp] theorem State.setOtpWord_port1 (a : Nat) (v : Word) : (s.setOtpWord a v).port1 = s.port1 := (rfl)
@[simp] theorem State.setOtpWord_caps (a : Nat) (v : Word) : (s.setOtpWord a v).caps = s.caps := (rfl)
@[simp] theorem State.setOtpWord_image (a : Nat) (v : Word) : (s.setOtpWord a v).image = s.image := (rfl)
@[simp] theorem State.setOtpWord_tiles (a : Nat) (v : Word) : (s.setOtpWord a v).tiles = s.tiles := (rfl)
@[simp] theorem State.setOtpWord_pub (a : Nat) (v : Word) : (s.setOtpWord a v).pub = s.pub := (rfl)
@[simp] theorem State.setOtpWord_rst (a : Nat) (v : Word) : (s.setOtpWord a v).rst = s.rst := (rfl)
@[simp] theorem State.setOtpWord_prp (a : Nat) (v : Word) : (s.setOtpWord a v).prp = s.prp := (rfl)
@[simp] theorem State.setOtpWord_cnv (a : Nat) (v : Word) : (s.setOtpWord a v).cnv = s.cnv := (rfl)
@[simp] theorem State.setOtpWord_prot (a : Nat) (v : Word) : (s.setOtpWord a v).prot = s.prot := (rfl)
@[simp] theorem State.setOtpWord_ord (a : Nat) (v : Word) : (s.setOtpWord a v).ord = s.ord := (rfl)
@[simp] theorem State.setOtpWord_sct (a : Nat) (v : Word) : (s.setOtpWord a v).sct = s.sct := (rfl)
@[simp] theorem State.setOtpWord_flt (a : Nat) (v : Word) : (s.setOtpWord a v).flt = s.flt := (rfl)
@[simp] theorem State.setOtpWord_clk (a : Nat) (v : Word) : (s.setOtpWord a v).clk = s.clk := (rfl)
@[simp] theorem State.setOtpWord_pwr (a : Nat) (v : Word) : (s.setOtpWord a v).pwr = s.pwr := (rfl)
@[simp] theorem State.setOtpWord_rtc (a : Nat) (v : Word) : (s.setOtpWord a v).rtc = s.rtc := (rfl)
@[simp] theorem State.setOtpWord_seqr (a : Nat) (v : Word) : (s.setOtpWord a v).seqr = s.seqr := (rfl)
@[simp] theorem State.setOtpWord_wgl (a : Nat) (v : Word) : (s.setOtpWord a v).wgl = s.wgl := (rfl)
@[simp] theorem State.setOtpWord_mtr (a : Nat) (v : Word) : (s.setOtpWord a v).mtr = s.mtr := (rfl)
@[simp] theorem State.setOtpWord_thm (a : Nat) (v : Word) : (s.setOtpWord a v).thm = s.thm := (rfl)
@[simp] theorem State.setOtpWord_ldg (a : Nat) (v : Word) : (s.setOtpWord a v).ldg = s.ldg := (rfl)
@[simp] theorem State.setOtpWord_chg (a : Nat) (v : Word) : (s.setOtpWord a v).chg = s.chg := (rfl)
@[simp] theorem State.setOtpWord_est (a : Nat) (v : Word) : (s.setOtpWord a v).est = s.est := (rfl)
@[simp] theorem State.setOtpWord_can (a : Nat) (v : Word) : (s.setOtpWord a v).can = s.can := (rfl)
@[simp] theorem State.setOtpWord_tmr (a : Nat) (v : Word) : (s.setOtpWord a v).tmr = s.tmr := (rfl)
@[simp] theorem State.setOtpWord_wdg (a : Nat) (v : Word) : (s.setOtpWord a v).wdg = s.wdg := (rfl)
@[simp] theorem State.setOtpWord_nvm (a : Nat) (v : Word) : (s.setOtpWord a v).nvm = s.nvm := (rfl)
@[simp] theorem State.setOtpWord_tw1 (a : Nat) (v : Word) : (s.setOtpWord a v).tw1 = s.tw1 := (rfl)
@[simp] theorem State.setOtpWord_keyed (a : Nat) (v : Word) : (s.setOtpWord a v).keyed = s.keyed := (rfl)
@[simp] theorem State.setOtpWord_removals (a : Nat) (v : Word) : (s.setOtpWord a v).removals = s.removals := (rfl)

@[simp] theorem State.driveLine_pending (n : Nat) : (s.driveLine n).pending = s.pending := (rfl)
@[simp] theorem State.driveLine_regs (n : Nat) : (s.driveLine n).regs = s.regs := (rfl)
@[simp] theorem State.driveLine_sram (n : Nat) : (s.driveLine n).sram = s.sram := (rfl)
@[simp] theorem State.driveLine_mram (n : Nat) : (s.driveLine n).mram = s.mram := (rfl)
@[simp] theorem State.driveLine_otp (n : Nat) : (s.driveLine n).otp = s.otp := (rfl)
@[simp] theorem State.driveLine_staging (n : Nat) : (s.driveLine n).staging = s.staging := (rfl)
@[simp] theorem State.driveLine_commits (n : Nat) : (s.driveLine n).commits = s.commits := (rfl)
@[simp] theorem State.driveLine_joint (n : Nat) : (s.driveLine n).joint = s.joint := (rfl)
@[simp] theorem State.driveLine_free (n : Nat) : (s.driveLine n).free = s.free := (rfl)
@[simp] theorem State.driveLine_irq (n : Nat) : (s.driveLine n).irq = s.irq := (rfl)
@[simp] theorem State.driveLine_port0 (n : Nat) : (s.driveLine n).port0 = s.port0 := (rfl)
@[simp] theorem State.driveLine_port1 (n : Nat) : (s.driveLine n).port1 = s.port1 := (rfl)
@[simp] theorem State.driveLine_caps (n : Nat) : (s.driveLine n).caps = s.caps := (rfl)
@[simp] theorem State.driveLine_image (n : Nat) : (s.driveLine n).image = s.image := (rfl)
@[simp] theorem State.driveLine_tiles (n : Nat) : (s.driveLine n).tiles = s.tiles := (rfl)
@[simp] theorem State.driveLine_pub (n : Nat) : (s.driveLine n).pub = s.pub := (rfl)
@[simp] theorem State.driveLine_rst (n : Nat) : (s.driveLine n).rst = s.rst := (rfl)
@[simp] theorem State.driveLine_prp (n : Nat) : (s.driveLine n).prp = s.prp := (rfl)
@[simp] theorem State.driveLine_cnv (n : Nat) : (s.driveLine n).cnv = s.cnv := (rfl)
@[simp] theorem State.driveLine_prot (n : Nat) : (s.driveLine n).prot = s.prot := (rfl)
@[simp] theorem State.driveLine_ord (n : Nat) : (s.driveLine n).ord = s.ord := (rfl)
@[simp] theorem State.driveLine_sct (n : Nat) : (s.driveLine n).sct = s.sct := (rfl)
@[simp] theorem State.driveLine_clk (n : Nat) : (s.driveLine n).clk = s.clk := (rfl)
@[simp] theorem State.driveLine_pwr (n : Nat) : (s.driveLine n).pwr = s.pwr := (rfl)
@[simp] theorem State.driveLine_rtc (n : Nat) : (s.driveLine n).rtc = s.rtc := (rfl)
@[simp] theorem State.driveLine_seqr (n : Nat) : (s.driveLine n).seqr = s.seqr := (rfl)
@[simp] theorem State.driveLine_wgl (n : Nat) : (s.driveLine n).wgl = s.wgl := (rfl)
@[simp] theorem State.driveLine_mtr (n : Nat) : (s.driveLine n).mtr = s.mtr := (rfl)
@[simp] theorem State.driveLine_thm (n : Nat) : (s.driveLine n).thm = s.thm := (rfl)
@[simp] theorem State.driveLine_ldg (n : Nat) : (s.driveLine n).ldg = s.ldg := (rfl)
@[simp] theorem State.driveLine_chg (n : Nat) : (s.driveLine n).chg = s.chg := (rfl)
@[simp] theorem State.driveLine_est (n : Nat) : (s.driveLine n).est = s.est := (rfl)
@[simp] theorem State.driveLine_can (n : Nat) : (s.driveLine n).can = s.can := (rfl)
@[simp] theorem State.driveLine_tmr (n : Nat) : (s.driveLine n).tmr = s.tmr := (rfl)
@[simp] theorem State.driveLine_wdg (n : Nat) : (s.driveLine n).wdg = s.wdg := (rfl)
@[simp] theorem State.driveLine_nvm (n : Nat) : (s.driveLine n).nvm = s.nvm := (rfl)
@[simp] theorem State.driveLine_tw1 (n : Nat) : (s.driveLine n).tw1 = s.tw1 := (rfl)
@[simp] theorem State.driveLine_keyed (n : Nat) : (s.driveLine n).keyed = s.keyed := (rfl)
@[simp] theorem State.driveLine_removals (n : Nat) : (s.driveLine n).removals = s.removals := (rfl)

@[simp] theorem State.logEvent_pending (c x y : Nat) (m : Bool) : (s.logEvent c x y m).pending = s.pending := (rfl)
@[simp] theorem State.logEvent_regs (c x y : Nat) (m : Bool) : (s.logEvent c x y m).regs = s.regs := (rfl)
@[simp] theorem State.logEvent_sram (c x y : Nat) (m : Bool) : (s.logEvent c x y m).sram = s.sram := (rfl)
@[simp] theorem State.logEvent_mram (c x y : Nat) (m : Bool) : (s.logEvent c x y m).mram = s.mram := (rfl)
@[simp] theorem State.logEvent_otp (c x y : Nat) (m : Bool) : (s.logEvent c x y m).otp = s.otp := (rfl)
@[simp] theorem State.logEvent_staging (c x y : Nat) (m : Bool) : (s.logEvent c x y m).staging = s.staging := (rfl)
@[simp] theorem State.logEvent_commits (c x y : Nat) (m : Bool) : (s.logEvent c x y m).commits = s.commits := (rfl)
@[simp] theorem State.logEvent_joint (c x y : Nat) (m : Bool) : (s.logEvent c x y m).joint = s.joint := (rfl)
@[simp] theorem State.logEvent_free (c x y : Nat) (m : Bool) : (s.logEvent c x y m).free = s.free := (rfl)
@[simp] theorem State.logEvent_irq (c x y : Nat) (m : Bool) : (s.logEvent c x y m).irq = s.irq := (rfl)
@[simp] theorem State.logEvent_port0 (c x y : Nat) (m : Bool) : (s.logEvent c x y m).port0 = s.port0 := (rfl)
@[simp] theorem State.logEvent_port1 (c x y : Nat) (m : Bool) : (s.logEvent c x y m).port1 = s.port1 := (rfl)
@[simp] theorem State.logEvent_caps (c x y : Nat) (m : Bool) : (s.logEvent c x y m).caps = s.caps := (rfl)
@[simp] theorem State.logEvent_image (c x y : Nat) (m : Bool) : (s.logEvent c x y m).image = s.image := (rfl)
@[simp] theorem State.logEvent_tiles (c x y : Nat) (m : Bool) : (s.logEvent c x y m).tiles = s.tiles := (rfl)
@[simp] theorem State.logEvent_pub (c x y : Nat) (m : Bool) : (s.logEvent c x y m).pub = s.pub := (rfl)
@[simp] theorem State.logEvent_rst (c x y : Nat) (m : Bool) : (s.logEvent c x y m).rst = s.rst := (rfl)
@[simp] theorem State.logEvent_cnv (c x y : Nat) (m : Bool) : (s.logEvent c x y m).cnv = s.cnv := (rfl)
@[simp] theorem State.logEvent_prot (c x y : Nat) (m : Bool) : (s.logEvent c x y m).prot = s.prot := (rfl)
@[simp] theorem State.logEvent_ord (c x y : Nat) (m : Bool) : (s.logEvent c x y m).ord = s.ord := (rfl)
@[simp] theorem State.logEvent_sct (c x y : Nat) (m : Bool) : (s.logEvent c x y m).sct = s.sct := (rfl)
@[simp] theorem State.logEvent_flt (c x y : Nat) (m : Bool) : (s.logEvent c x y m).flt = s.flt := (rfl)
@[simp] theorem State.logEvent_clk (c x y : Nat) (m : Bool) : (s.logEvent c x y m).clk = s.clk := (rfl)
@[simp] theorem State.logEvent_pwr (c x y : Nat) (m : Bool) : (s.logEvent c x y m).pwr = s.pwr := (rfl)
@[simp] theorem State.logEvent_rtc (c x y : Nat) (m : Bool) : (s.logEvent c x y m).rtc = s.rtc := (rfl)
@[simp] theorem State.logEvent_seqr (c x y : Nat) (m : Bool) : (s.logEvent c x y m).seqr = s.seqr := (rfl)
@[simp] theorem State.logEvent_wgl (c x y : Nat) (m : Bool) : (s.logEvent c x y m).wgl = s.wgl := (rfl)
@[simp] theorem State.logEvent_mtr (c x y : Nat) (m : Bool) : (s.logEvent c x y m).mtr = s.mtr := (rfl)
@[simp] theorem State.logEvent_thm (c x y : Nat) (m : Bool) : (s.logEvent c x y m).thm = s.thm := (rfl)
@[simp] theorem State.logEvent_ldg (c x y : Nat) (m : Bool) : (s.logEvent c x y m).ldg = s.ldg := (rfl)
@[simp] theorem State.logEvent_chg (c x y : Nat) (m : Bool) : (s.logEvent c x y m).chg = s.chg := (rfl)
@[simp] theorem State.logEvent_est (c x y : Nat) (m : Bool) : (s.logEvent c x y m).est = s.est := (rfl)
@[simp] theorem State.logEvent_can (c x y : Nat) (m : Bool) : (s.logEvent c x y m).can = s.can := (rfl)
@[simp] theorem State.logEvent_tmr (c x y : Nat) (m : Bool) : (s.logEvent c x y m).tmr = s.tmr := (rfl)
@[simp] theorem State.logEvent_wdg (c x y : Nat) (m : Bool) : (s.logEvent c x y m).wdg = s.wdg := (rfl)
@[simp] theorem State.logEvent_nvm (c x y : Nat) (m : Bool) : (s.logEvent c x y m).nvm = s.nvm := (rfl)
@[simp] theorem State.logEvent_tw1 (c x y : Nat) (m : Bool) : (s.logEvent c x y m).tw1 = s.tw1 := (rfl)
@[simp] theorem State.logEvent_keyed (c x y : Nat) (m : Bool) : (s.logEvent c x y m).keyed = s.keyed := (rfl)
@[simp] theorem State.logEvent_removals (c x y : Nat) (m : Bool) : (s.logEvent c x y m).removals = s.removals := (rfl)

@[simp] theorem setRegs_pending (v : KV Word) : (s.setRegs v).pending = s.pending := (rfl)
@[simp] theorem setRegs_sram (v : KV Word) : (s.setRegs v).sram = s.sram := (rfl)
@[simp] theorem setRegs_mram (v : KV Word) : (s.setRegs v).mram = s.mram := (rfl)
@[simp] theorem setRegs_otp (v : KV Word) : (s.setRegs v).otp = s.otp := (rfl)
@[simp] theorem setRegs_staging (v : KV Word) : (s.setRegs v).staging = s.staging := (rfl)
@[simp] theorem setRegs_commits (v : KV Word) : (s.setRegs v).commits = s.commits := (rfl)
@[simp] theorem setRegs_joint (v : KV Word) : (s.setRegs v).joint = s.joint := (rfl)
@[simp] theorem setRegs_free (v : KV Word) : (s.setRegs v).free = s.free := (rfl)
@[simp] theorem setRegs_irq (v : KV Word) : (s.setRegs v).irq = s.irq := (rfl)
@[simp] theorem setRegs_port0 (v : KV Word) : (s.setRegs v).port0 = s.port0 := (rfl)
@[simp] theorem setRegs_port1 (v : KV Word) : (s.setRegs v).port1 = s.port1 := (rfl)
@[simp] theorem setRegs_caps (v : KV Word) : (s.setRegs v).caps = s.caps := (rfl)
@[simp] theorem setRegs_image (v : KV Word) : (s.setRegs v).image = s.image := (rfl)
@[simp] theorem setRegs_tiles (v : KV Word) : (s.setRegs v).tiles = s.tiles := (rfl)
@[simp] theorem setRegs_pub (v : KV Word) : (s.setRegs v).pub = s.pub := (rfl)
@[simp] theorem setRegs_rst (v : KV Word) : (s.setRegs v).rst = s.rst := (rfl)
@[simp] theorem setRegs_prp (v : KV Word) : (s.setRegs v).prp = s.prp := (rfl)
@[simp] theorem setRegs_cnv (v : KV Word) : (s.setRegs v).cnv = s.cnv := (rfl)
@[simp] theorem setRegs_prot (v : KV Word) : (s.setRegs v).prot = s.prot := (rfl)
@[simp] theorem setRegs_ord (v : KV Word) : (s.setRegs v).ord = s.ord := (rfl)
@[simp] theorem setRegs_sct (v : KV Word) : (s.setRegs v).sct = s.sct := (rfl)
@[simp] theorem setRegs_flt (v : KV Word) : (s.setRegs v).flt = s.flt := (rfl)
@[simp] theorem setRegs_clk (v : KV Word) : (s.setRegs v).clk = s.clk := (rfl)
@[simp] theorem setRegs_pwr (v : KV Word) : (s.setRegs v).pwr = s.pwr := (rfl)
@[simp] theorem setRegs_rtc (v : KV Word) : (s.setRegs v).rtc = s.rtc := (rfl)
@[simp] theorem setRegs_seqr (v : KV Word) : (s.setRegs v).seqr = s.seqr := (rfl)
@[simp] theorem setRegs_wgl (v : KV Word) : (s.setRegs v).wgl = s.wgl := (rfl)
@[simp] theorem setRegs_mtr (v : KV Word) : (s.setRegs v).mtr = s.mtr := (rfl)
@[simp] theorem setRegs_thm (v : KV Word) : (s.setRegs v).thm = s.thm := (rfl)
@[simp] theorem setRegs_ldg (v : KV Word) : (s.setRegs v).ldg = s.ldg := (rfl)
@[simp] theorem setRegs_chg (v : KV Word) : (s.setRegs v).chg = s.chg := (rfl)
@[simp] theorem setRegs_est (v : KV Word) : (s.setRegs v).est = s.est := (rfl)
@[simp] theorem setRegs_can (v : KV Word) : (s.setRegs v).can = s.can := (rfl)
@[simp] theorem setRegs_tmr (v : KV Word) : (s.setRegs v).tmr = s.tmr := (rfl)
@[simp] theorem setRegs_wdg (v : KV Word) : (s.setRegs v).wdg = s.wdg := (rfl)
@[simp] theorem setRegs_nvm (v : KV Word) : (s.setRegs v).nvm = s.nvm := (rfl)
@[simp] theorem setRegs_tw1 (v : KV Word) : (s.setRegs v).tw1 = s.tw1 := (rfl)
@[simp] theorem setRegs_keyed (v : KV Word) : (s.setRegs v).keyed = s.keyed := (rfl)
@[simp] theorem setRegs_removals (v : KV Word) : (s.setRegs v).removals = s.removals := (rfl)
@[simp] theorem setRegs_regs (v : KV Word) : (s.setRegs v).regs = v := (rfl)

@[simp] theorem setSram_pending (v : KV Byte) : (s.setSram v).pending = s.pending := (rfl)
@[simp] theorem setSram_regs (v : KV Byte) : (s.setSram v).regs = s.regs := (rfl)
@[simp] theorem setSram_mram (v : KV Byte) : (s.setSram v).mram = s.mram := (rfl)
@[simp] theorem setSram_otp (v : KV Byte) : (s.setSram v).otp = s.otp := (rfl)
@[simp] theorem setSram_staging (v : KV Byte) : (s.setSram v).staging = s.staging := (rfl)
@[simp] theorem setSram_commits (v : KV Byte) : (s.setSram v).commits = s.commits := (rfl)
@[simp] theorem setSram_joint (v : KV Byte) : (s.setSram v).joint = s.joint := (rfl)
@[simp] theorem setSram_free (v : KV Byte) : (s.setSram v).free = s.free := (rfl)
@[simp] theorem setSram_irq (v : KV Byte) : (s.setSram v).irq = s.irq := (rfl)
@[simp] theorem setSram_port0 (v : KV Byte) : (s.setSram v).port0 = s.port0 := (rfl)
@[simp] theorem setSram_port1 (v : KV Byte) : (s.setSram v).port1 = s.port1 := (rfl)
@[simp] theorem setSram_caps (v : KV Byte) : (s.setSram v).caps = s.caps := (rfl)
@[simp] theorem setSram_image (v : KV Byte) : (s.setSram v).image = s.image := (rfl)
@[simp] theorem setSram_tiles (v : KV Byte) : (s.setSram v).tiles = s.tiles := (rfl)
@[simp] theorem setSram_pub (v : KV Byte) : (s.setSram v).pub = s.pub := (rfl)
@[simp] theorem setSram_rst (v : KV Byte) : (s.setSram v).rst = s.rst := (rfl)
@[simp] theorem setSram_prp (v : KV Byte) : (s.setSram v).prp = s.prp := (rfl)
@[simp] theorem setSram_cnv (v : KV Byte) : (s.setSram v).cnv = s.cnv := (rfl)
@[simp] theorem setSram_prot (v : KV Byte) : (s.setSram v).prot = s.prot := (rfl)
@[simp] theorem setSram_ord (v : KV Byte) : (s.setSram v).ord = s.ord := (rfl)
@[simp] theorem setSram_sct (v : KV Byte) : (s.setSram v).sct = s.sct := (rfl)
@[simp] theorem setSram_flt (v : KV Byte) : (s.setSram v).flt = s.flt := (rfl)
@[simp] theorem setSram_clk (v : KV Byte) : (s.setSram v).clk = s.clk := (rfl)
@[simp] theorem setSram_pwr (v : KV Byte) : (s.setSram v).pwr = s.pwr := (rfl)
@[simp] theorem setSram_rtc (v : KV Byte) : (s.setSram v).rtc = s.rtc := (rfl)
@[simp] theorem setSram_seqr (v : KV Byte) : (s.setSram v).seqr = s.seqr := (rfl)
@[simp] theorem setSram_wgl (v : KV Byte) : (s.setSram v).wgl = s.wgl := (rfl)
@[simp] theorem setSram_mtr (v : KV Byte) : (s.setSram v).mtr = s.mtr := (rfl)
@[simp] theorem setSram_thm (v : KV Byte) : (s.setSram v).thm = s.thm := (rfl)
@[simp] theorem setSram_ldg (v : KV Byte) : (s.setSram v).ldg = s.ldg := (rfl)
@[simp] theorem setSram_chg (v : KV Byte) : (s.setSram v).chg = s.chg := (rfl)
@[simp] theorem setSram_est (v : KV Byte) : (s.setSram v).est = s.est := (rfl)
@[simp] theorem setSram_can (v : KV Byte) : (s.setSram v).can = s.can := (rfl)
@[simp] theorem setSram_tmr (v : KV Byte) : (s.setSram v).tmr = s.tmr := (rfl)
@[simp] theorem setSram_wdg (v : KV Byte) : (s.setSram v).wdg = s.wdg := (rfl)
@[simp] theorem setSram_nvm (v : KV Byte) : (s.setSram v).nvm = s.nvm := (rfl)
@[simp] theorem setSram_tw1 (v : KV Byte) : (s.setSram v).tw1 = s.tw1 := (rfl)
@[simp] theorem setSram_keyed (v : KV Byte) : (s.setSram v).keyed = s.keyed := (rfl)
@[simp] theorem setSram_removals (v : KV Byte) : (s.setSram v).removals = s.removals := (rfl)
@[simp] theorem setSram_sram (v : KV Byte) : (s.setSram v).sram = v := (rfl)

@[simp] theorem setMram_pending (v : KV Byte) : (s.setMram v).pending = s.pending := (rfl)
@[simp] theorem setMram_regs (v : KV Byte) : (s.setMram v).regs = s.regs := (rfl)
@[simp] theorem setMram_sram (v : KV Byte) : (s.setMram v).sram = s.sram := (rfl)
@[simp] theorem setMram_otp (v : KV Byte) : (s.setMram v).otp = s.otp := (rfl)
@[simp] theorem setMram_staging (v : KV Byte) : (s.setMram v).staging = s.staging := (rfl)
@[simp] theorem setMram_commits (v : KV Byte) : (s.setMram v).commits = s.commits := (rfl)
@[simp] theorem setMram_joint (v : KV Byte) : (s.setMram v).joint = s.joint := (rfl)
@[simp] theorem setMram_free (v : KV Byte) : (s.setMram v).free = s.free := (rfl)
@[simp] theorem setMram_irq (v : KV Byte) : (s.setMram v).irq = s.irq := (rfl)
@[simp] theorem setMram_port0 (v : KV Byte) : (s.setMram v).port0 = s.port0 := (rfl)
@[simp] theorem setMram_port1 (v : KV Byte) : (s.setMram v).port1 = s.port1 := (rfl)
@[simp] theorem setMram_caps (v : KV Byte) : (s.setMram v).caps = s.caps := (rfl)
@[simp] theorem setMram_image (v : KV Byte) : (s.setMram v).image = s.image := (rfl)
@[simp] theorem setMram_tiles (v : KV Byte) : (s.setMram v).tiles = s.tiles := (rfl)
@[simp] theorem setMram_pub (v : KV Byte) : (s.setMram v).pub = s.pub := (rfl)
@[simp] theorem setMram_rst (v : KV Byte) : (s.setMram v).rst = s.rst := (rfl)
@[simp] theorem setMram_prp (v : KV Byte) : (s.setMram v).prp = s.prp := (rfl)
@[simp] theorem setMram_cnv (v : KV Byte) : (s.setMram v).cnv = s.cnv := (rfl)
@[simp] theorem setMram_prot (v : KV Byte) : (s.setMram v).prot = s.prot := (rfl)
@[simp] theorem setMram_ord (v : KV Byte) : (s.setMram v).ord = s.ord := (rfl)
@[simp] theorem setMram_sct (v : KV Byte) : (s.setMram v).sct = s.sct := (rfl)
@[simp] theorem setMram_flt (v : KV Byte) : (s.setMram v).flt = s.flt := (rfl)
@[simp] theorem setMram_clk (v : KV Byte) : (s.setMram v).clk = s.clk := (rfl)
@[simp] theorem setMram_pwr (v : KV Byte) : (s.setMram v).pwr = s.pwr := (rfl)
@[simp] theorem setMram_rtc (v : KV Byte) : (s.setMram v).rtc = s.rtc := (rfl)
@[simp] theorem setMram_seqr (v : KV Byte) : (s.setMram v).seqr = s.seqr := (rfl)
@[simp] theorem setMram_wgl (v : KV Byte) : (s.setMram v).wgl = s.wgl := (rfl)
@[simp] theorem setMram_mtr (v : KV Byte) : (s.setMram v).mtr = s.mtr := (rfl)
@[simp] theorem setMram_thm (v : KV Byte) : (s.setMram v).thm = s.thm := (rfl)
@[simp] theorem setMram_ldg (v : KV Byte) : (s.setMram v).ldg = s.ldg := (rfl)
@[simp] theorem setMram_chg (v : KV Byte) : (s.setMram v).chg = s.chg := (rfl)
@[simp] theorem setMram_est (v : KV Byte) : (s.setMram v).est = s.est := (rfl)
@[simp] theorem setMram_can (v : KV Byte) : (s.setMram v).can = s.can := (rfl)
@[simp] theorem setMram_tmr (v : KV Byte) : (s.setMram v).tmr = s.tmr := (rfl)
@[simp] theorem setMram_wdg (v : KV Byte) : (s.setMram v).wdg = s.wdg := (rfl)
@[simp] theorem setMram_nvm (v : KV Byte) : (s.setMram v).nvm = s.nvm := (rfl)
@[simp] theorem setMram_tw1 (v : KV Byte) : (s.setMram v).tw1 = s.tw1 := (rfl)
@[simp] theorem setMram_keyed (v : KV Byte) : (s.setMram v).keyed = s.keyed := (rfl)
@[simp] theorem setMram_removals (v : KV Byte) : (s.setMram v).removals = s.removals := (rfl)
@[simp] theorem setMram_mram (v : KV Byte) : (s.setMram v).mram = v := (rfl)

@[simp] theorem setOtp_pending (v : KV Word) : (s.setOtp v).pending = s.pending := (rfl)
@[simp] theorem setOtp_regs (v : KV Word) : (s.setOtp v).regs = s.regs := (rfl)
@[simp] theorem setOtp_sram (v : KV Word) : (s.setOtp v).sram = s.sram := (rfl)
@[simp] theorem setOtp_mram (v : KV Word) : (s.setOtp v).mram = s.mram := (rfl)
@[simp] theorem setOtp_staging (v : KV Word) : (s.setOtp v).staging = s.staging := (rfl)
@[simp] theorem setOtp_commits (v : KV Word) : (s.setOtp v).commits = s.commits := (rfl)
@[simp] theorem setOtp_joint (v : KV Word) : (s.setOtp v).joint = s.joint := (rfl)
@[simp] theorem setOtp_free (v : KV Word) : (s.setOtp v).free = s.free := (rfl)
@[simp] theorem setOtp_irq (v : KV Word) : (s.setOtp v).irq = s.irq := (rfl)
@[simp] theorem setOtp_port0 (v : KV Word) : (s.setOtp v).port0 = s.port0 := (rfl)
@[simp] theorem setOtp_port1 (v : KV Word) : (s.setOtp v).port1 = s.port1 := (rfl)
@[simp] theorem setOtp_caps (v : KV Word) : (s.setOtp v).caps = s.caps := (rfl)
@[simp] theorem setOtp_image (v : KV Word) : (s.setOtp v).image = s.image := (rfl)
@[simp] theorem setOtp_tiles (v : KV Word) : (s.setOtp v).tiles = s.tiles := (rfl)
@[simp] theorem setOtp_pub (v : KV Word) : (s.setOtp v).pub = s.pub := (rfl)
@[simp] theorem setOtp_rst (v : KV Word) : (s.setOtp v).rst = s.rst := (rfl)
@[simp] theorem setOtp_prp (v : KV Word) : (s.setOtp v).prp = s.prp := (rfl)
@[simp] theorem setOtp_cnv (v : KV Word) : (s.setOtp v).cnv = s.cnv := (rfl)
@[simp] theorem setOtp_prot (v : KV Word) : (s.setOtp v).prot = s.prot := (rfl)
@[simp] theorem setOtp_ord (v : KV Word) : (s.setOtp v).ord = s.ord := (rfl)
@[simp] theorem setOtp_sct (v : KV Word) : (s.setOtp v).sct = s.sct := (rfl)
@[simp] theorem setOtp_flt (v : KV Word) : (s.setOtp v).flt = s.flt := (rfl)
@[simp] theorem setOtp_clk (v : KV Word) : (s.setOtp v).clk = s.clk := (rfl)
@[simp] theorem setOtp_pwr (v : KV Word) : (s.setOtp v).pwr = s.pwr := (rfl)
@[simp] theorem setOtp_rtc (v : KV Word) : (s.setOtp v).rtc = s.rtc := (rfl)
@[simp] theorem setOtp_seqr (v : KV Word) : (s.setOtp v).seqr = s.seqr := (rfl)
@[simp] theorem setOtp_wgl (v : KV Word) : (s.setOtp v).wgl = s.wgl := (rfl)
@[simp] theorem setOtp_mtr (v : KV Word) : (s.setOtp v).mtr = s.mtr := (rfl)
@[simp] theorem setOtp_thm (v : KV Word) : (s.setOtp v).thm = s.thm := (rfl)
@[simp] theorem setOtp_ldg (v : KV Word) : (s.setOtp v).ldg = s.ldg := (rfl)
@[simp] theorem setOtp_chg (v : KV Word) : (s.setOtp v).chg = s.chg := (rfl)
@[simp] theorem setOtp_est (v : KV Word) : (s.setOtp v).est = s.est := (rfl)
@[simp] theorem setOtp_can (v : KV Word) : (s.setOtp v).can = s.can := (rfl)
@[simp] theorem setOtp_tmr (v : KV Word) : (s.setOtp v).tmr = s.tmr := (rfl)
@[simp] theorem setOtp_wdg (v : KV Word) : (s.setOtp v).wdg = s.wdg := (rfl)
@[simp] theorem setOtp_nvm (v : KV Word) : (s.setOtp v).nvm = s.nvm := (rfl)
@[simp] theorem setOtp_tw1 (v : KV Word) : (s.setOtp v).tw1 = s.tw1 := (rfl)
@[simp] theorem setOtp_keyed (v : KV Word) : (s.setOtp v).keyed = s.keyed := (rfl)
@[simp] theorem setOtp_removals (v : KV Word) : (s.setOtp v).removals = s.removals := (rfl)
@[simp] theorem setOtp_otp (v : KV Word) : (s.setOtp v).otp = v := (rfl)

@[simp] theorem setStaging_pending (v : List Staged) : (s.setStaging v).pending = s.pending := (rfl)
@[simp] theorem setStaging_regs (v : List Staged) : (s.setStaging v).regs = s.regs := (rfl)
@[simp] theorem setStaging_sram (v : List Staged) : (s.setStaging v).sram = s.sram := (rfl)
@[simp] theorem setStaging_mram (v : List Staged) : (s.setStaging v).mram = s.mram := (rfl)
@[simp] theorem setStaging_otp (v : List Staged) : (s.setStaging v).otp = s.otp := (rfl)
@[simp] theorem setStaging_commits (v : List Staged) : (s.setStaging v).commits = s.commits := (rfl)
@[simp] theorem setStaging_joint (v : List Staged) : (s.setStaging v).joint = s.joint := (rfl)
@[simp] theorem setStaging_free (v : List Staged) : (s.setStaging v).free = s.free := (rfl)
@[simp] theorem setStaging_irq (v : List Staged) : (s.setStaging v).irq = s.irq := (rfl)
@[simp] theorem setStaging_port0 (v : List Staged) : (s.setStaging v).port0 = s.port0 := (rfl)
@[simp] theorem setStaging_port1 (v : List Staged) : (s.setStaging v).port1 = s.port1 := (rfl)
@[simp] theorem setStaging_caps (v : List Staged) : (s.setStaging v).caps = s.caps := (rfl)
@[simp] theorem setStaging_image (v : List Staged) : (s.setStaging v).image = s.image := (rfl)
@[simp] theorem setStaging_tiles (v : List Staged) : (s.setStaging v).tiles = s.tiles := (rfl)
@[simp] theorem setStaging_pub (v : List Staged) : (s.setStaging v).pub = s.pub := (rfl)
@[simp] theorem setStaging_rst (v : List Staged) : (s.setStaging v).rst = s.rst := (rfl)
@[simp] theorem setStaging_prp (v : List Staged) : (s.setStaging v).prp = s.prp := (rfl)
@[simp] theorem setStaging_cnv (v : List Staged) : (s.setStaging v).cnv = s.cnv := (rfl)
@[simp] theorem setStaging_prot (v : List Staged) : (s.setStaging v).prot = s.prot := (rfl)
@[simp] theorem setStaging_ord (v : List Staged) : (s.setStaging v).ord = s.ord := (rfl)
@[simp] theorem setStaging_sct (v : List Staged) : (s.setStaging v).sct = s.sct := (rfl)
@[simp] theorem setStaging_flt (v : List Staged) : (s.setStaging v).flt = s.flt := (rfl)
@[simp] theorem setStaging_clk (v : List Staged) : (s.setStaging v).clk = s.clk := (rfl)
@[simp] theorem setStaging_pwr (v : List Staged) : (s.setStaging v).pwr = s.pwr := (rfl)
@[simp] theorem setStaging_rtc (v : List Staged) : (s.setStaging v).rtc = s.rtc := (rfl)
@[simp] theorem setStaging_seqr (v : List Staged) : (s.setStaging v).seqr = s.seqr := (rfl)
@[simp] theorem setStaging_wgl (v : List Staged) : (s.setStaging v).wgl = s.wgl := (rfl)
@[simp] theorem setStaging_mtr (v : List Staged) : (s.setStaging v).mtr = s.mtr := (rfl)
@[simp] theorem setStaging_thm (v : List Staged) : (s.setStaging v).thm = s.thm := (rfl)
@[simp] theorem setStaging_ldg (v : List Staged) : (s.setStaging v).ldg = s.ldg := (rfl)
@[simp] theorem setStaging_chg (v : List Staged) : (s.setStaging v).chg = s.chg := (rfl)
@[simp] theorem setStaging_est (v : List Staged) : (s.setStaging v).est = s.est := (rfl)
@[simp] theorem setStaging_can (v : List Staged) : (s.setStaging v).can = s.can := (rfl)
@[simp] theorem setStaging_tmr (v : List Staged) : (s.setStaging v).tmr = s.tmr := (rfl)
@[simp] theorem setStaging_wdg (v : List Staged) : (s.setStaging v).wdg = s.wdg := (rfl)
@[simp] theorem setStaging_nvm (v : List Staged) : (s.setStaging v).nvm = s.nvm := (rfl)
@[simp] theorem setStaging_tw1 (v : List Staged) : (s.setStaging v).tw1 = s.tw1 := (rfl)
@[simp] theorem setStaging_keyed (v : List Staged) : (s.setStaging v).keyed = s.keyed := (rfl)
@[simp] theorem setStaging_removals (v : List Staged) : (s.setStaging v).removals = s.removals := (rfl)
@[simp] theorem setStaging_staging (v : List Staged) : (s.setStaging v).staging = v := (rfl)

@[simp] theorem setCommits_pending (v : List Group) : (s.setCommits v).pending = s.pending := (rfl)
@[simp] theorem setCommits_regs (v : List Group) : (s.setCommits v).regs = s.regs := (rfl)
@[simp] theorem setCommits_sram (v : List Group) : (s.setCommits v).sram = s.sram := (rfl)
@[simp] theorem setCommits_mram (v : List Group) : (s.setCommits v).mram = s.mram := (rfl)
@[simp] theorem setCommits_otp (v : List Group) : (s.setCommits v).otp = s.otp := (rfl)
@[simp] theorem setCommits_staging (v : List Group) : (s.setCommits v).staging = s.staging := (rfl)
@[simp] theorem setCommits_joint (v : List Group) : (s.setCommits v).joint = s.joint := (rfl)
@[simp] theorem setCommits_free (v : List Group) : (s.setCommits v).free = s.free := (rfl)
@[simp] theorem setCommits_irq (v : List Group) : (s.setCommits v).irq = s.irq := (rfl)
@[simp] theorem setCommits_port0 (v : List Group) : (s.setCommits v).port0 = s.port0 := (rfl)
@[simp] theorem setCommits_port1 (v : List Group) : (s.setCommits v).port1 = s.port1 := (rfl)
@[simp] theorem setCommits_caps (v : List Group) : (s.setCommits v).caps = s.caps := (rfl)
@[simp] theorem setCommits_image (v : List Group) : (s.setCommits v).image = s.image := (rfl)
@[simp] theorem setCommits_tiles (v : List Group) : (s.setCommits v).tiles = s.tiles := (rfl)
@[simp] theorem setCommits_pub (v : List Group) : (s.setCommits v).pub = s.pub := (rfl)
@[simp] theorem setCommits_rst (v : List Group) : (s.setCommits v).rst = s.rst := (rfl)
@[simp] theorem setCommits_prp (v : List Group) : (s.setCommits v).prp = s.prp := (rfl)
@[simp] theorem setCommits_cnv (v : List Group) : (s.setCommits v).cnv = s.cnv := (rfl)
@[simp] theorem setCommits_prot (v : List Group) : (s.setCommits v).prot = s.prot := (rfl)
@[simp] theorem setCommits_ord (v : List Group) : (s.setCommits v).ord = s.ord := (rfl)
@[simp] theorem setCommits_sct (v : List Group) : (s.setCommits v).sct = s.sct := (rfl)
@[simp] theorem setCommits_flt (v : List Group) : (s.setCommits v).flt = s.flt := (rfl)
@[simp] theorem setCommits_clk (v : List Group) : (s.setCommits v).clk = s.clk := (rfl)
@[simp] theorem setCommits_pwr (v : List Group) : (s.setCommits v).pwr = s.pwr := (rfl)
@[simp] theorem setCommits_rtc (v : List Group) : (s.setCommits v).rtc = s.rtc := (rfl)
@[simp] theorem setCommits_seqr (v : List Group) : (s.setCommits v).seqr = s.seqr := (rfl)
@[simp] theorem setCommits_wgl (v : List Group) : (s.setCommits v).wgl = s.wgl := (rfl)
@[simp] theorem setCommits_mtr (v : List Group) : (s.setCommits v).mtr = s.mtr := (rfl)
@[simp] theorem setCommits_thm (v : List Group) : (s.setCommits v).thm = s.thm := (rfl)
@[simp] theorem setCommits_ldg (v : List Group) : (s.setCommits v).ldg = s.ldg := (rfl)
@[simp] theorem setCommits_chg (v : List Group) : (s.setCommits v).chg = s.chg := (rfl)
@[simp] theorem setCommits_est (v : List Group) : (s.setCommits v).est = s.est := (rfl)
@[simp] theorem setCommits_can (v : List Group) : (s.setCommits v).can = s.can := (rfl)
@[simp] theorem setCommits_tmr (v : List Group) : (s.setCommits v).tmr = s.tmr := (rfl)
@[simp] theorem setCommits_wdg (v : List Group) : (s.setCommits v).wdg = s.wdg := (rfl)
@[simp] theorem setCommits_nvm (v : List Group) : (s.setCommits v).nvm = s.nvm := (rfl)
@[simp] theorem setCommits_tw1 (v : List Group) : (s.setCommits v).tw1 = s.tw1 := (rfl)
@[simp] theorem setCommits_keyed (v : List Group) : (s.setCommits v).keyed = s.keyed := (rfl)
@[simp] theorem setCommits_removals (v : List Group) : (s.setCommits v).removals = s.removals := (rfl)
@[simp] theorem setCommits_commits (v : List Group) : (s.setCommits v).commits = v := (rfl)

@[simp] theorem setJoint_pending (v : Option (List Group)) : (s.setJoint v).pending = s.pending := (rfl)
@[simp] theorem setJoint_regs (v : Option (List Group)) : (s.setJoint v).regs = s.regs := (rfl)
@[simp] theorem setJoint_sram (v : Option (List Group)) : (s.setJoint v).sram = s.sram := (rfl)
@[simp] theorem setJoint_mram (v : Option (List Group)) : (s.setJoint v).mram = s.mram := (rfl)
@[simp] theorem setJoint_otp (v : Option (List Group)) : (s.setJoint v).otp = s.otp := (rfl)
@[simp] theorem setJoint_staging (v : Option (List Group)) : (s.setJoint v).staging = s.staging := (rfl)
@[simp] theorem setJoint_commits (v : Option (List Group)) : (s.setJoint v).commits = s.commits := (rfl)
@[simp] theorem setJoint_free (v : Option (List Group)) : (s.setJoint v).free = s.free := (rfl)
@[simp] theorem setJoint_irq (v : Option (List Group)) : (s.setJoint v).irq = s.irq := (rfl)
@[simp] theorem setJoint_port0 (v : Option (List Group)) : (s.setJoint v).port0 = s.port0 := (rfl)
@[simp] theorem setJoint_port1 (v : Option (List Group)) : (s.setJoint v).port1 = s.port1 := (rfl)
@[simp] theorem setJoint_caps (v : Option (List Group)) : (s.setJoint v).caps = s.caps := (rfl)
@[simp] theorem setJoint_image (v : Option (List Group)) : (s.setJoint v).image = s.image := (rfl)
@[simp] theorem setJoint_tiles (v : Option (List Group)) : (s.setJoint v).tiles = s.tiles := (rfl)
@[simp] theorem setJoint_pub (v : Option (List Group)) : (s.setJoint v).pub = s.pub := (rfl)
@[simp] theorem setJoint_rst (v : Option (List Group)) : (s.setJoint v).rst = s.rst := (rfl)
@[simp] theorem setJoint_prp (v : Option (List Group)) : (s.setJoint v).prp = s.prp := (rfl)
@[simp] theorem setJoint_cnv (v : Option (List Group)) : (s.setJoint v).cnv = s.cnv := (rfl)
@[simp] theorem setJoint_prot (v : Option (List Group)) : (s.setJoint v).prot = s.prot := (rfl)
@[simp] theorem setJoint_ord (v : Option (List Group)) : (s.setJoint v).ord = s.ord := (rfl)
@[simp] theorem setJoint_sct (v : Option (List Group)) : (s.setJoint v).sct = s.sct := (rfl)
@[simp] theorem setJoint_flt (v : Option (List Group)) : (s.setJoint v).flt = s.flt := (rfl)
@[simp] theorem setJoint_clk (v : Option (List Group)) : (s.setJoint v).clk = s.clk := (rfl)
@[simp] theorem setJoint_pwr (v : Option (List Group)) : (s.setJoint v).pwr = s.pwr := (rfl)
@[simp] theorem setJoint_rtc (v : Option (List Group)) : (s.setJoint v).rtc = s.rtc := (rfl)
@[simp] theorem setJoint_seqr (v : Option (List Group)) : (s.setJoint v).seqr = s.seqr := (rfl)
@[simp] theorem setJoint_wgl (v : Option (List Group)) : (s.setJoint v).wgl = s.wgl := (rfl)
@[simp] theorem setJoint_mtr (v : Option (List Group)) : (s.setJoint v).mtr = s.mtr := (rfl)
@[simp] theorem setJoint_thm (v : Option (List Group)) : (s.setJoint v).thm = s.thm := (rfl)
@[simp] theorem setJoint_ldg (v : Option (List Group)) : (s.setJoint v).ldg = s.ldg := (rfl)
@[simp] theorem setJoint_chg (v : Option (List Group)) : (s.setJoint v).chg = s.chg := (rfl)
@[simp] theorem setJoint_est (v : Option (List Group)) : (s.setJoint v).est = s.est := (rfl)
@[simp] theorem setJoint_can (v : Option (List Group)) : (s.setJoint v).can = s.can := (rfl)
@[simp] theorem setJoint_tmr (v : Option (List Group)) : (s.setJoint v).tmr = s.tmr := (rfl)
@[simp] theorem setJoint_wdg (v : Option (List Group)) : (s.setJoint v).wdg = s.wdg := (rfl)
@[simp] theorem setJoint_nvm (v : Option (List Group)) : (s.setJoint v).nvm = s.nvm := (rfl)
@[simp] theorem setJoint_tw1 (v : Option (List Group)) : (s.setJoint v).tw1 = s.tw1 := (rfl)
@[simp] theorem setJoint_keyed (v : Option (List Group)) : (s.setJoint v).keyed = s.keyed := (rfl)
@[simp] theorem setJoint_removals (v : Option (List Group)) : (s.setJoint v).removals = s.removals := (rfl)
@[simp] theorem setJoint_joint (v : Option (List Group)) : (s.setJoint v).joint = v := (rfl)

@[simp] theorem setFree_pending (v : Nat) : (s.setFree v).pending = s.pending := (rfl)
@[simp] theorem setFree_regs (v : Nat) : (s.setFree v).regs = s.regs := (rfl)
@[simp] theorem setFree_sram (v : Nat) : (s.setFree v).sram = s.sram := (rfl)
@[simp] theorem setFree_mram (v : Nat) : (s.setFree v).mram = s.mram := (rfl)
@[simp] theorem setFree_otp (v : Nat) : (s.setFree v).otp = s.otp := (rfl)
@[simp] theorem setFree_staging (v : Nat) : (s.setFree v).staging = s.staging := (rfl)
@[simp] theorem setFree_commits (v : Nat) : (s.setFree v).commits = s.commits := (rfl)
@[simp] theorem setFree_joint (v : Nat) : (s.setFree v).joint = s.joint := (rfl)
@[simp] theorem setFree_irq (v : Nat) : (s.setFree v).irq = s.irq := (rfl)
@[simp] theorem setFree_port0 (v : Nat) : (s.setFree v).port0 = s.port0 := (rfl)
@[simp] theorem setFree_port1 (v : Nat) : (s.setFree v).port1 = s.port1 := (rfl)
@[simp] theorem setFree_caps (v : Nat) : (s.setFree v).caps = s.caps := (rfl)
@[simp] theorem setFree_image (v : Nat) : (s.setFree v).image = s.image := (rfl)
@[simp] theorem setFree_tiles (v : Nat) : (s.setFree v).tiles = s.tiles := (rfl)
@[simp] theorem setFree_pub (v : Nat) : (s.setFree v).pub = s.pub := (rfl)
@[simp] theorem setFree_rst (v : Nat) : (s.setFree v).rst = s.rst := (rfl)
@[simp] theorem setFree_prp (v : Nat) : (s.setFree v).prp = s.prp := (rfl)
@[simp] theorem setFree_cnv (v : Nat) : (s.setFree v).cnv = s.cnv := (rfl)
@[simp] theorem setFree_prot (v : Nat) : (s.setFree v).prot = s.prot := (rfl)
@[simp] theorem setFree_ord (v : Nat) : (s.setFree v).ord = s.ord := (rfl)
@[simp] theorem setFree_sct (v : Nat) : (s.setFree v).sct = s.sct := (rfl)
@[simp] theorem setFree_flt (v : Nat) : (s.setFree v).flt = s.flt := (rfl)
@[simp] theorem setFree_clk (v : Nat) : (s.setFree v).clk = s.clk := (rfl)
@[simp] theorem setFree_pwr (v : Nat) : (s.setFree v).pwr = s.pwr := (rfl)
@[simp] theorem setFree_rtc (v : Nat) : (s.setFree v).rtc = s.rtc := (rfl)
@[simp] theorem setFree_seqr (v : Nat) : (s.setFree v).seqr = s.seqr := (rfl)
@[simp] theorem setFree_wgl (v : Nat) : (s.setFree v).wgl = s.wgl := (rfl)
@[simp] theorem setFree_mtr (v : Nat) : (s.setFree v).mtr = s.mtr := (rfl)
@[simp] theorem setFree_thm (v : Nat) : (s.setFree v).thm = s.thm := (rfl)
@[simp] theorem setFree_ldg (v : Nat) : (s.setFree v).ldg = s.ldg := (rfl)
@[simp] theorem setFree_chg (v : Nat) : (s.setFree v).chg = s.chg := (rfl)
@[simp] theorem setFree_est (v : Nat) : (s.setFree v).est = s.est := (rfl)
@[simp] theorem setFree_can (v : Nat) : (s.setFree v).can = s.can := (rfl)
@[simp] theorem setFree_tmr (v : Nat) : (s.setFree v).tmr = s.tmr := (rfl)
@[simp] theorem setFree_wdg (v : Nat) : (s.setFree v).wdg = s.wdg := (rfl)
@[simp] theorem setFree_nvm (v : Nat) : (s.setFree v).nvm = s.nvm := (rfl)
@[simp] theorem setFree_tw1 (v : Nat) : (s.setFree v).tw1 = s.tw1 := (rfl)
@[simp] theorem setFree_keyed (v : Nat) : (s.setFree v).keyed = s.keyed := (rfl)
@[simp] theorem setFree_removals (v : Nat) : (s.setFree v).removals = s.removals := (rfl)
@[simp] theorem setFree_free (v : Nat) : (s.setFree v).free = v := (rfl)

@[simp] theorem setIrq_pending (v : Irq) : (s.setIrq v).pending = s.pending := (rfl)
@[simp] theorem setIrq_regs (v : Irq) : (s.setIrq v).regs = s.regs := (rfl)
@[simp] theorem setIrq_sram (v : Irq) : (s.setIrq v).sram = s.sram := (rfl)
@[simp] theorem setIrq_mram (v : Irq) : (s.setIrq v).mram = s.mram := (rfl)
@[simp] theorem setIrq_otp (v : Irq) : (s.setIrq v).otp = s.otp := (rfl)
@[simp] theorem setIrq_staging (v : Irq) : (s.setIrq v).staging = s.staging := (rfl)
@[simp] theorem setIrq_commits (v : Irq) : (s.setIrq v).commits = s.commits := (rfl)
@[simp] theorem setIrq_joint (v : Irq) : (s.setIrq v).joint = s.joint := (rfl)
@[simp] theorem setIrq_free (v : Irq) : (s.setIrq v).free = s.free := (rfl)
@[simp] theorem setIrq_port0 (v : Irq) : (s.setIrq v).port0 = s.port0 := (rfl)
@[simp] theorem setIrq_port1 (v : Irq) : (s.setIrq v).port1 = s.port1 := (rfl)
@[simp] theorem setIrq_caps (v : Irq) : (s.setIrq v).caps = s.caps := (rfl)
@[simp] theorem setIrq_image (v : Irq) : (s.setIrq v).image = s.image := (rfl)
@[simp] theorem setIrq_tiles (v : Irq) : (s.setIrq v).tiles = s.tiles := (rfl)
@[simp] theorem setIrq_pub (v : Irq) : (s.setIrq v).pub = s.pub := (rfl)
@[simp] theorem setIrq_rst (v : Irq) : (s.setIrq v).rst = s.rst := (rfl)
@[simp] theorem setIrq_prp (v : Irq) : (s.setIrq v).prp = s.prp := (rfl)
@[simp] theorem setIrq_cnv (v : Irq) : (s.setIrq v).cnv = s.cnv := (rfl)
@[simp] theorem setIrq_prot (v : Irq) : (s.setIrq v).prot = s.prot := (rfl)
@[simp] theorem setIrq_ord (v : Irq) : (s.setIrq v).ord = s.ord := (rfl)
@[simp] theorem setIrq_sct (v : Irq) : (s.setIrq v).sct = s.sct := (rfl)
@[simp] theorem setIrq_flt (v : Irq) : (s.setIrq v).flt = s.flt := (rfl)
@[simp] theorem setIrq_clk (v : Irq) : (s.setIrq v).clk = s.clk := (rfl)
@[simp] theorem setIrq_pwr (v : Irq) : (s.setIrq v).pwr = s.pwr := (rfl)
@[simp] theorem setIrq_rtc (v : Irq) : (s.setIrq v).rtc = s.rtc := (rfl)
@[simp] theorem setIrq_seqr (v : Irq) : (s.setIrq v).seqr = s.seqr := (rfl)
@[simp] theorem setIrq_wgl (v : Irq) : (s.setIrq v).wgl = s.wgl := (rfl)
@[simp] theorem setIrq_mtr (v : Irq) : (s.setIrq v).mtr = s.mtr := (rfl)
@[simp] theorem setIrq_thm (v : Irq) : (s.setIrq v).thm = s.thm := (rfl)
@[simp] theorem setIrq_ldg (v : Irq) : (s.setIrq v).ldg = s.ldg := (rfl)
@[simp] theorem setIrq_chg (v : Irq) : (s.setIrq v).chg = s.chg := (rfl)
@[simp] theorem setIrq_est (v : Irq) : (s.setIrq v).est = s.est := (rfl)
@[simp] theorem setIrq_can (v : Irq) : (s.setIrq v).can = s.can := (rfl)
@[simp] theorem setIrq_tmr (v : Irq) : (s.setIrq v).tmr = s.tmr := (rfl)
@[simp] theorem setIrq_wdg (v : Irq) : (s.setIrq v).wdg = s.wdg := (rfl)
@[simp] theorem setIrq_nvm (v : Irq) : (s.setIrq v).nvm = s.nvm := (rfl)
@[simp] theorem setIrq_tw1 (v : Irq) : (s.setIrq v).tw1 = s.tw1 := (rfl)
@[simp] theorem setIrq_keyed (v : Irq) : (s.setIrq v).keyed = s.keyed := (rfl)
@[simp] theorem setIrq_removals (v : Irq) : (s.setIrq v).removals = s.removals := (rfl)
@[simp] theorem setIrq_irq (v : Irq) : (s.setIrq v).irq = v := (rfl)

@[simp] theorem setPort0_pending (v : PortState) : (s.setPort0 v).pending = s.pending := (rfl)
@[simp] theorem setPort0_regs (v : PortState) : (s.setPort0 v).regs = s.regs := (rfl)
@[simp] theorem setPort0_sram (v : PortState) : (s.setPort0 v).sram = s.sram := (rfl)
@[simp] theorem setPort0_mram (v : PortState) : (s.setPort0 v).mram = s.mram := (rfl)
@[simp] theorem setPort0_otp (v : PortState) : (s.setPort0 v).otp = s.otp := (rfl)
@[simp] theorem setPort0_staging (v : PortState) : (s.setPort0 v).staging = s.staging := (rfl)
@[simp] theorem setPort0_commits (v : PortState) : (s.setPort0 v).commits = s.commits := (rfl)
@[simp] theorem setPort0_joint (v : PortState) : (s.setPort0 v).joint = s.joint := (rfl)
@[simp] theorem setPort0_free (v : PortState) : (s.setPort0 v).free = s.free := (rfl)
@[simp] theorem setPort0_irq (v : PortState) : (s.setPort0 v).irq = s.irq := (rfl)
@[simp] theorem setPort0_port1 (v : PortState) : (s.setPort0 v).port1 = s.port1 := (rfl)
@[simp] theorem setPort0_caps (v : PortState) : (s.setPort0 v).caps = s.caps := (rfl)
@[simp] theorem setPort0_image (v : PortState) : (s.setPort0 v).image = s.image := (rfl)
@[simp] theorem setPort0_tiles (v : PortState) : (s.setPort0 v).tiles = s.tiles := (rfl)
@[simp] theorem setPort0_pub (v : PortState) : (s.setPort0 v).pub = s.pub := (rfl)
@[simp] theorem setPort0_rst (v : PortState) : (s.setPort0 v).rst = s.rst := (rfl)
@[simp] theorem setPort0_prp (v : PortState) : (s.setPort0 v).prp = s.prp := (rfl)
@[simp] theorem setPort0_cnv (v : PortState) : (s.setPort0 v).cnv = s.cnv := (rfl)
@[simp] theorem setPort0_prot (v : PortState) : (s.setPort0 v).prot = s.prot := (rfl)
@[simp] theorem setPort0_ord (v : PortState) : (s.setPort0 v).ord = s.ord := (rfl)
@[simp] theorem setPort0_sct (v : PortState) : (s.setPort0 v).sct = s.sct := (rfl)
@[simp] theorem setPort0_flt (v : PortState) : (s.setPort0 v).flt = s.flt := (rfl)
@[simp] theorem setPort0_clk (v : PortState) : (s.setPort0 v).clk = s.clk := (rfl)
@[simp] theorem setPort0_pwr (v : PortState) : (s.setPort0 v).pwr = s.pwr := (rfl)
@[simp] theorem setPort0_rtc (v : PortState) : (s.setPort0 v).rtc = s.rtc := (rfl)
@[simp] theorem setPort0_seqr (v : PortState) : (s.setPort0 v).seqr = s.seqr := (rfl)
@[simp] theorem setPort0_wgl (v : PortState) : (s.setPort0 v).wgl = s.wgl := (rfl)
@[simp] theorem setPort0_mtr (v : PortState) : (s.setPort0 v).mtr = s.mtr := (rfl)
@[simp] theorem setPort0_thm (v : PortState) : (s.setPort0 v).thm = s.thm := (rfl)
@[simp] theorem setPort0_ldg (v : PortState) : (s.setPort0 v).ldg = s.ldg := (rfl)
@[simp] theorem setPort0_chg (v : PortState) : (s.setPort0 v).chg = s.chg := (rfl)
@[simp] theorem setPort0_est (v : PortState) : (s.setPort0 v).est = s.est := (rfl)
@[simp] theorem setPort0_can (v : PortState) : (s.setPort0 v).can = s.can := (rfl)
@[simp] theorem setPort0_tmr (v : PortState) : (s.setPort0 v).tmr = s.tmr := (rfl)
@[simp] theorem setPort0_wdg (v : PortState) : (s.setPort0 v).wdg = s.wdg := (rfl)
@[simp] theorem setPort0_nvm (v : PortState) : (s.setPort0 v).nvm = s.nvm := (rfl)
@[simp] theorem setPort0_tw1 (v : PortState) : (s.setPort0 v).tw1 = s.tw1 := (rfl)
@[simp] theorem setPort0_keyed (v : PortState) : (s.setPort0 v).keyed = s.keyed := (rfl)
@[simp] theorem setPort0_removals (v : PortState) : (s.setPort0 v).removals = s.removals := (rfl)
@[simp] theorem setPort0_port0 (v : PortState) : (s.setPort0 v).port0 = v := (rfl)

@[simp] theorem setPort1_pending (v : PortState) : (s.setPort1 v).pending = s.pending := (rfl)
@[simp] theorem setPort1_regs (v : PortState) : (s.setPort1 v).regs = s.regs := (rfl)
@[simp] theorem setPort1_sram (v : PortState) : (s.setPort1 v).sram = s.sram := (rfl)
@[simp] theorem setPort1_mram (v : PortState) : (s.setPort1 v).mram = s.mram := (rfl)
@[simp] theorem setPort1_otp (v : PortState) : (s.setPort1 v).otp = s.otp := (rfl)
@[simp] theorem setPort1_staging (v : PortState) : (s.setPort1 v).staging = s.staging := (rfl)
@[simp] theorem setPort1_commits (v : PortState) : (s.setPort1 v).commits = s.commits := (rfl)
@[simp] theorem setPort1_joint (v : PortState) : (s.setPort1 v).joint = s.joint := (rfl)
@[simp] theorem setPort1_free (v : PortState) : (s.setPort1 v).free = s.free := (rfl)
@[simp] theorem setPort1_irq (v : PortState) : (s.setPort1 v).irq = s.irq := (rfl)
@[simp] theorem setPort1_port0 (v : PortState) : (s.setPort1 v).port0 = s.port0 := (rfl)
@[simp] theorem setPort1_caps (v : PortState) : (s.setPort1 v).caps = s.caps := (rfl)
@[simp] theorem setPort1_image (v : PortState) : (s.setPort1 v).image = s.image := (rfl)
@[simp] theorem setPort1_tiles (v : PortState) : (s.setPort1 v).tiles = s.tiles := (rfl)
@[simp] theorem setPort1_pub (v : PortState) : (s.setPort1 v).pub = s.pub := (rfl)
@[simp] theorem setPort1_rst (v : PortState) : (s.setPort1 v).rst = s.rst := (rfl)
@[simp] theorem setPort1_prp (v : PortState) : (s.setPort1 v).prp = s.prp := (rfl)
@[simp] theorem setPort1_cnv (v : PortState) : (s.setPort1 v).cnv = s.cnv := (rfl)
@[simp] theorem setPort1_prot (v : PortState) : (s.setPort1 v).prot = s.prot := (rfl)
@[simp] theorem setPort1_ord (v : PortState) : (s.setPort1 v).ord = s.ord := (rfl)
@[simp] theorem setPort1_sct (v : PortState) : (s.setPort1 v).sct = s.sct := (rfl)
@[simp] theorem setPort1_flt (v : PortState) : (s.setPort1 v).flt = s.flt := (rfl)
@[simp] theorem setPort1_clk (v : PortState) : (s.setPort1 v).clk = s.clk := (rfl)
@[simp] theorem setPort1_pwr (v : PortState) : (s.setPort1 v).pwr = s.pwr := (rfl)
@[simp] theorem setPort1_rtc (v : PortState) : (s.setPort1 v).rtc = s.rtc := (rfl)
@[simp] theorem setPort1_seqr (v : PortState) : (s.setPort1 v).seqr = s.seqr := (rfl)
@[simp] theorem setPort1_wgl (v : PortState) : (s.setPort1 v).wgl = s.wgl := (rfl)
@[simp] theorem setPort1_mtr (v : PortState) : (s.setPort1 v).mtr = s.mtr := (rfl)
@[simp] theorem setPort1_thm (v : PortState) : (s.setPort1 v).thm = s.thm := (rfl)
@[simp] theorem setPort1_ldg (v : PortState) : (s.setPort1 v).ldg = s.ldg := (rfl)
@[simp] theorem setPort1_chg (v : PortState) : (s.setPort1 v).chg = s.chg := (rfl)
@[simp] theorem setPort1_est (v : PortState) : (s.setPort1 v).est = s.est := (rfl)
@[simp] theorem setPort1_can (v : PortState) : (s.setPort1 v).can = s.can := (rfl)
@[simp] theorem setPort1_tmr (v : PortState) : (s.setPort1 v).tmr = s.tmr := (rfl)
@[simp] theorem setPort1_wdg (v : PortState) : (s.setPort1 v).wdg = s.wdg := (rfl)
@[simp] theorem setPort1_nvm (v : PortState) : (s.setPort1 v).nvm = s.nvm := (rfl)
@[simp] theorem setPort1_tw1 (v : PortState) : (s.setPort1 v).tw1 = s.tw1 := (rfl)
@[simp] theorem setPort1_keyed (v : PortState) : (s.setPort1 v).keyed = s.keyed := (rfl)
@[simp] theorem setPort1_removals (v : PortState) : (s.setPort1 v).removals = s.removals := (rfl)
@[simp] theorem setPort1_port1 (v : PortState) : (s.setPort1 v).port1 = v := (rfl)

@[simp] theorem setCaps_pending (v : KV (Option Word)) : (s.setCaps v).pending = s.pending := (rfl)
@[simp] theorem setCaps_regs (v : KV (Option Word)) : (s.setCaps v).regs = s.regs := (rfl)
@[simp] theorem setCaps_sram (v : KV (Option Word)) : (s.setCaps v).sram = s.sram := (rfl)
@[simp] theorem setCaps_mram (v : KV (Option Word)) : (s.setCaps v).mram = s.mram := (rfl)
@[simp] theorem setCaps_otp (v : KV (Option Word)) : (s.setCaps v).otp = s.otp := (rfl)
@[simp] theorem setCaps_staging (v : KV (Option Word)) : (s.setCaps v).staging = s.staging := (rfl)
@[simp] theorem setCaps_commits (v : KV (Option Word)) : (s.setCaps v).commits = s.commits := (rfl)
@[simp] theorem setCaps_joint (v : KV (Option Word)) : (s.setCaps v).joint = s.joint := (rfl)
@[simp] theorem setCaps_free (v : KV (Option Word)) : (s.setCaps v).free = s.free := (rfl)
@[simp] theorem setCaps_irq (v : KV (Option Word)) : (s.setCaps v).irq = s.irq := (rfl)
@[simp] theorem setCaps_port0 (v : KV (Option Word)) : (s.setCaps v).port0 = s.port0 := (rfl)
@[simp] theorem setCaps_port1 (v : KV (Option Word)) : (s.setCaps v).port1 = s.port1 := (rfl)
@[simp] theorem setCaps_image (v : KV (Option Word)) : (s.setCaps v).image = s.image := (rfl)
@[simp] theorem setCaps_tiles (v : KV (Option Word)) : (s.setCaps v).tiles = s.tiles := (rfl)
@[simp] theorem setCaps_pub (v : KV (Option Word)) : (s.setCaps v).pub = s.pub := (rfl)
@[simp] theorem setCaps_rst (v : KV (Option Word)) : (s.setCaps v).rst = s.rst := (rfl)
@[simp] theorem setCaps_prp (v : KV (Option Word)) : (s.setCaps v).prp = s.prp := (rfl)
@[simp] theorem setCaps_cnv (v : KV (Option Word)) : (s.setCaps v).cnv = s.cnv := (rfl)
@[simp] theorem setCaps_prot (v : KV (Option Word)) : (s.setCaps v).prot = s.prot := (rfl)
@[simp] theorem setCaps_ord (v : KV (Option Word)) : (s.setCaps v).ord = s.ord := (rfl)
@[simp] theorem setCaps_sct (v : KV (Option Word)) : (s.setCaps v).sct = s.sct := (rfl)
@[simp] theorem setCaps_flt (v : KV (Option Word)) : (s.setCaps v).flt = s.flt := (rfl)
@[simp] theorem setCaps_clk (v : KV (Option Word)) : (s.setCaps v).clk = s.clk := (rfl)
@[simp] theorem setCaps_pwr (v : KV (Option Word)) : (s.setCaps v).pwr = s.pwr := (rfl)
@[simp] theorem setCaps_rtc (v : KV (Option Word)) : (s.setCaps v).rtc = s.rtc := (rfl)
@[simp] theorem setCaps_seqr (v : KV (Option Word)) : (s.setCaps v).seqr = s.seqr := (rfl)
@[simp] theorem setCaps_wgl (v : KV (Option Word)) : (s.setCaps v).wgl = s.wgl := (rfl)
@[simp] theorem setCaps_mtr (v : KV (Option Word)) : (s.setCaps v).mtr = s.mtr := (rfl)
@[simp] theorem setCaps_thm (v : KV (Option Word)) : (s.setCaps v).thm = s.thm := (rfl)
@[simp] theorem setCaps_ldg (v : KV (Option Word)) : (s.setCaps v).ldg = s.ldg := (rfl)
@[simp] theorem setCaps_chg (v : KV (Option Word)) : (s.setCaps v).chg = s.chg := (rfl)
@[simp] theorem setCaps_est (v : KV (Option Word)) : (s.setCaps v).est = s.est := (rfl)
@[simp] theorem setCaps_can (v : KV (Option Word)) : (s.setCaps v).can = s.can := (rfl)
@[simp] theorem setCaps_tmr (v : KV (Option Word)) : (s.setCaps v).tmr = s.tmr := (rfl)
@[simp] theorem setCaps_wdg (v : KV (Option Word)) : (s.setCaps v).wdg = s.wdg := (rfl)
@[simp] theorem setCaps_nvm (v : KV (Option Word)) : (s.setCaps v).nvm = s.nvm := (rfl)
@[simp] theorem setCaps_tw1 (v : KV (Option Word)) : (s.setCaps v).tw1 = s.tw1 := (rfl)
@[simp] theorem setCaps_keyed (v : KV (Option Word)) : (s.setCaps v).keyed = s.keyed := (rfl)
@[simp] theorem setCaps_removals (v : KV (Option Word)) : (s.setCaps v).removals = s.removals := (rfl)
@[simp] theorem setCaps_caps (v : KV (Option Word)) : (s.setCaps v).caps = v := (rfl)

@[simp] theorem setImage_pending (v : Option Image) : (s.setImage v).pending = s.pending := (rfl)
@[simp] theorem setImage_regs (v : Option Image) : (s.setImage v).regs = s.regs := (rfl)
@[simp] theorem setImage_sram (v : Option Image) : (s.setImage v).sram = s.sram := (rfl)
@[simp] theorem setImage_mram (v : Option Image) : (s.setImage v).mram = s.mram := (rfl)
@[simp] theorem setImage_otp (v : Option Image) : (s.setImage v).otp = s.otp := (rfl)
@[simp] theorem setImage_staging (v : Option Image) : (s.setImage v).staging = s.staging := (rfl)
@[simp] theorem setImage_commits (v : Option Image) : (s.setImage v).commits = s.commits := (rfl)
@[simp] theorem setImage_joint (v : Option Image) : (s.setImage v).joint = s.joint := (rfl)
@[simp] theorem setImage_free (v : Option Image) : (s.setImage v).free = s.free := (rfl)
@[simp] theorem setImage_irq (v : Option Image) : (s.setImage v).irq = s.irq := (rfl)
@[simp] theorem setImage_port0 (v : Option Image) : (s.setImage v).port0 = s.port0 := (rfl)
@[simp] theorem setImage_port1 (v : Option Image) : (s.setImage v).port1 = s.port1 := (rfl)
@[simp] theorem setImage_caps (v : Option Image) : (s.setImage v).caps = s.caps := (rfl)
@[simp] theorem setImage_tiles (v : Option Image) : (s.setImage v).tiles = s.tiles := (rfl)
@[simp] theorem setImage_pub (v : Option Image) : (s.setImage v).pub = s.pub := (rfl)
@[simp] theorem setImage_rst (v : Option Image) : (s.setImage v).rst = s.rst := (rfl)
@[simp] theorem setImage_prp (v : Option Image) : (s.setImage v).prp = s.prp := (rfl)
@[simp] theorem setImage_cnv (v : Option Image) : (s.setImage v).cnv = s.cnv := (rfl)
@[simp] theorem setImage_prot (v : Option Image) : (s.setImage v).prot = s.prot := (rfl)
@[simp] theorem setImage_ord (v : Option Image) : (s.setImage v).ord = s.ord := (rfl)
@[simp] theorem setImage_sct (v : Option Image) : (s.setImage v).sct = s.sct := (rfl)
@[simp] theorem setImage_flt (v : Option Image) : (s.setImage v).flt = s.flt := (rfl)
@[simp] theorem setImage_clk (v : Option Image) : (s.setImage v).clk = s.clk := (rfl)
@[simp] theorem setImage_pwr (v : Option Image) : (s.setImage v).pwr = s.pwr := (rfl)
@[simp] theorem setImage_rtc (v : Option Image) : (s.setImage v).rtc = s.rtc := (rfl)
@[simp] theorem setImage_seqr (v : Option Image) : (s.setImage v).seqr = s.seqr := (rfl)
@[simp] theorem setImage_wgl (v : Option Image) : (s.setImage v).wgl = s.wgl := (rfl)
@[simp] theorem setImage_mtr (v : Option Image) : (s.setImage v).mtr = s.mtr := (rfl)
@[simp] theorem setImage_thm (v : Option Image) : (s.setImage v).thm = s.thm := (rfl)
@[simp] theorem setImage_ldg (v : Option Image) : (s.setImage v).ldg = s.ldg := (rfl)
@[simp] theorem setImage_chg (v : Option Image) : (s.setImage v).chg = s.chg := (rfl)
@[simp] theorem setImage_est (v : Option Image) : (s.setImage v).est = s.est := (rfl)
@[simp] theorem setImage_can (v : Option Image) : (s.setImage v).can = s.can := (rfl)
@[simp] theorem setImage_tmr (v : Option Image) : (s.setImage v).tmr = s.tmr := (rfl)
@[simp] theorem setImage_wdg (v : Option Image) : (s.setImage v).wdg = s.wdg := (rfl)
@[simp] theorem setImage_nvm (v : Option Image) : (s.setImage v).nvm = s.nvm := (rfl)
@[simp] theorem setImage_tw1 (v : Option Image) : (s.setImage v).tw1 = s.tw1 := (rfl)
@[simp] theorem setImage_keyed (v : Option Image) : (s.setImage v).keyed = s.keyed := (rfl)
@[simp] theorem setImage_removals (v : Option Image) : (s.setImage v).removals = s.removals := (rfl)
@[simp] theorem setImage_image (v : Option Image) : (s.setImage v).image = v := (rfl)

@[simp] theorem setTiles_pending (v : KV TileHid) : (s.setTiles v).pending = s.pending := (rfl)
@[simp] theorem setTiles_regs (v : KV TileHid) : (s.setTiles v).regs = s.regs := (rfl)
@[simp] theorem setTiles_sram (v : KV TileHid) : (s.setTiles v).sram = s.sram := (rfl)
@[simp] theorem setTiles_mram (v : KV TileHid) : (s.setTiles v).mram = s.mram := (rfl)
@[simp] theorem setTiles_otp (v : KV TileHid) : (s.setTiles v).otp = s.otp := (rfl)
@[simp] theorem setTiles_staging (v : KV TileHid) : (s.setTiles v).staging = s.staging := (rfl)
@[simp] theorem setTiles_commits (v : KV TileHid) : (s.setTiles v).commits = s.commits := (rfl)
@[simp] theorem setTiles_joint (v : KV TileHid) : (s.setTiles v).joint = s.joint := (rfl)
@[simp] theorem setTiles_free (v : KV TileHid) : (s.setTiles v).free = s.free := (rfl)
@[simp] theorem setTiles_irq (v : KV TileHid) : (s.setTiles v).irq = s.irq := (rfl)
@[simp] theorem setTiles_port0 (v : KV TileHid) : (s.setTiles v).port0 = s.port0 := (rfl)
@[simp] theorem setTiles_port1 (v : KV TileHid) : (s.setTiles v).port1 = s.port1 := (rfl)
@[simp] theorem setTiles_caps (v : KV TileHid) : (s.setTiles v).caps = s.caps := (rfl)
@[simp] theorem setTiles_image (v : KV TileHid) : (s.setTiles v).image = s.image := (rfl)
@[simp] theorem setTiles_pub (v : KV TileHid) : (s.setTiles v).pub = s.pub := (rfl)
@[simp] theorem setTiles_rst (v : KV TileHid) : (s.setTiles v).rst = s.rst := (rfl)
@[simp] theorem setTiles_prp (v : KV TileHid) : (s.setTiles v).prp = s.prp := (rfl)
@[simp] theorem setTiles_cnv (v : KV TileHid) : (s.setTiles v).cnv = s.cnv := (rfl)
@[simp] theorem setTiles_prot (v : KV TileHid) : (s.setTiles v).prot = s.prot := (rfl)
@[simp] theorem setTiles_ord (v : KV TileHid) : (s.setTiles v).ord = s.ord := (rfl)
@[simp] theorem setTiles_sct (v : KV TileHid) : (s.setTiles v).sct = s.sct := (rfl)
@[simp] theorem setTiles_flt (v : KV TileHid) : (s.setTiles v).flt = s.flt := (rfl)
@[simp] theorem setTiles_clk (v : KV TileHid) : (s.setTiles v).clk = s.clk := (rfl)
@[simp] theorem setTiles_pwr (v : KV TileHid) : (s.setTiles v).pwr = s.pwr := (rfl)
@[simp] theorem setTiles_rtc (v : KV TileHid) : (s.setTiles v).rtc = s.rtc := (rfl)
@[simp] theorem setTiles_seqr (v : KV TileHid) : (s.setTiles v).seqr = s.seqr := (rfl)
@[simp] theorem setTiles_wgl (v : KV TileHid) : (s.setTiles v).wgl = s.wgl := (rfl)
@[simp] theorem setTiles_mtr (v : KV TileHid) : (s.setTiles v).mtr = s.mtr := (rfl)
@[simp] theorem setTiles_thm (v : KV TileHid) : (s.setTiles v).thm = s.thm := (rfl)
@[simp] theorem setTiles_ldg (v : KV TileHid) : (s.setTiles v).ldg = s.ldg := (rfl)
@[simp] theorem setTiles_chg (v : KV TileHid) : (s.setTiles v).chg = s.chg := (rfl)
@[simp] theorem setTiles_est (v : KV TileHid) : (s.setTiles v).est = s.est := (rfl)
@[simp] theorem setTiles_can (v : KV TileHid) : (s.setTiles v).can = s.can := (rfl)
@[simp] theorem setTiles_tmr (v : KV TileHid) : (s.setTiles v).tmr = s.tmr := (rfl)
@[simp] theorem setTiles_wdg (v : KV TileHid) : (s.setTiles v).wdg = s.wdg := (rfl)
@[simp] theorem setTiles_nvm (v : KV TileHid) : (s.setTiles v).nvm = s.nvm := (rfl)
@[simp] theorem setTiles_tw1 (v : KV TileHid) : (s.setTiles v).tw1 = s.tw1 := (rfl)
@[simp] theorem setTiles_keyed (v : KV TileHid) : (s.setTiles v).keyed = s.keyed := (rfl)
@[simp] theorem setTiles_removals (v : KV TileHid) : (s.setTiles v).removals = s.removals := (rfl)
@[simp] theorem setTiles_tiles (v : KV TileHid) : (s.setTiles v).tiles = v := (rfl)

@[simp] theorem setPub_pending (v : KV Int) : (s.setPub v).pending = s.pending := (rfl)
@[simp] theorem setPub_regs (v : KV Int) : (s.setPub v).regs = s.regs := (rfl)
@[simp] theorem setPub_sram (v : KV Int) : (s.setPub v).sram = s.sram := (rfl)
@[simp] theorem setPub_mram (v : KV Int) : (s.setPub v).mram = s.mram := (rfl)
@[simp] theorem setPub_otp (v : KV Int) : (s.setPub v).otp = s.otp := (rfl)
@[simp] theorem setPub_staging (v : KV Int) : (s.setPub v).staging = s.staging := (rfl)
@[simp] theorem setPub_commits (v : KV Int) : (s.setPub v).commits = s.commits := (rfl)
@[simp] theorem setPub_joint (v : KV Int) : (s.setPub v).joint = s.joint := (rfl)
@[simp] theorem setPub_free (v : KV Int) : (s.setPub v).free = s.free := (rfl)
@[simp] theorem setPub_irq (v : KV Int) : (s.setPub v).irq = s.irq := (rfl)
@[simp] theorem setPub_port0 (v : KV Int) : (s.setPub v).port0 = s.port0 := (rfl)
@[simp] theorem setPub_port1 (v : KV Int) : (s.setPub v).port1 = s.port1 := (rfl)
@[simp] theorem setPub_caps (v : KV Int) : (s.setPub v).caps = s.caps := (rfl)
@[simp] theorem setPub_image (v : KV Int) : (s.setPub v).image = s.image := (rfl)
@[simp] theorem setPub_tiles (v : KV Int) : (s.setPub v).tiles = s.tiles := (rfl)
@[simp] theorem setPub_rst (v : KV Int) : (s.setPub v).rst = s.rst := (rfl)
@[simp] theorem setPub_prp (v : KV Int) : (s.setPub v).prp = s.prp := (rfl)
@[simp] theorem setPub_cnv (v : KV Int) : (s.setPub v).cnv = s.cnv := (rfl)
@[simp] theorem setPub_prot (v : KV Int) : (s.setPub v).prot = s.prot := (rfl)
@[simp] theorem setPub_ord (v : KV Int) : (s.setPub v).ord = s.ord := (rfl)
@[simp] theorem setPub_sct (v : KV Int) : (s.setPub v).sct = s.sct := (rfl)
@[simp] theorem setPub_flt (v : KV Int) : (s.setPub v).flt = s.flt := (rfl)
@[simp] theorem setPub_clk (v : KV Int) : (s.setPub v).clk = s.clk := (rfl)
@[simp] theorem setPub_pwr (v : KV Int) : (s.setPub v).pwr = s.pwr := (rfl)
@[simp] theorem setPub_rtc (v : KV Int) : (s.setPub v).rtc = s.rtc := (rfl)
@[simp] theorem setPub_seqr (v : KV Int) : (s.setPub v).seqr = s.seqr := (rfl)
@[simp] theorem setPub_wgl (v : KV Int) : (s.setPub v).wgl = s.wgl := (rfl)
@[simp] theorem setPub_mtr (v : KV Int) : (s.setPub v).mtr = s.mtr := (rfl)
@[simp] theorem setPub_thm (v : KV Int) : (s.setPub v).thm = s.thm := (rfl)
@[simp] theorem setPub_ldg (v : KV Int) : (s.setPub v).ldg = s.ldg := (rfl)
@[simp] theorem setPub_chg (v : KV Int) : (s.setPub v).chg = s.chg := (rfl)
@[simp] theorem setPub_est (v : KV Int) : (s.setPub v).est = s.est := (rfl)
@[simp] theorem setPub_can (v : KV Int) : (s.setPub v).can = s.can := (rfl)
@[simp] theorem setPub_tmr (v : KV Int) : (s.setPub v).tmr = s.tmr := (rfl)
@[simp] theorem setPub_wdg (v : KV Int) : (s.setPub v).wdg = s.wdg := (rfl)
@[simp] theorem setPub_nvm (v : KV Int) : (s.setPub v).nvm = s.nvm := (rfl)
@[simp] theorem setPub_tw1 (v : KV Int) : (s.setPub v).tw1 = s.tw1 := (rfl)
@[simp] theorem setPub_keyed (v : KV Int) : (s.setPub v).keyed = s.keyed := (rfl)
@[simp] theorem setPub_removals (v : KV Int) : (s.setPub v).removals = s.removals := (rfl)
@[simp] theorem setPub_pub (v : KV Int) : (s.setPub v).pub = v := (rfl)

@[simp] theorem setRst_pending (v : Rst) : (s.setRst v).pending = s.pending := (rfl)
@[simp] theorem setRst_regs (v : Rst) : (s.setRst v).regs = s.regs := (rfl)
@[simp] theorem setRst_sram (v : Rst) : (s.setRst v).sram = s.sram := (rfl)
@[simp] theorem setRst_mram (v : Rst) : (s.setRst v).mram = s.mram := (rfl)
@[simp] theorem setRst_otp (v : Rst) : (s.setRst v).otp = s.otp := (rfl)
@[simp] theorem setRst_staging (v : Rst) : (s.setRst v).staging = s.staging := (rfl)
@[simp] theorem setRst_commits (v : Rst) : (s.setRst v).commits = s.commits := (rfl)
@[simp] theorem setRst_joint (v : Rst) : (s.setRst v).joint = s.joint := (rfl)
@[simp] theorem setRst_free (v : Rst) : (s.setRst v).free = s.free := (rfl)
@[simp] theorem setRst_irq (v : Rst) : (s.setRst v).irq = s.irq := (rfl)
@[simp] theorem setRst_port0 (v : Rst) : (s.setRst v).port0 = s.port0 := (rfl)
@[simp] theorem setRst_port1 (v : Rst) : (s.setRst v).port1 = s.port1 := (rfl)
@[simp] theorem setRst_caps (v : Rst) : (s.setRst v).caps = s.caps := (rfl)
@[simp] theorem setRst_image (v : Rst) : (s.setRst v).image = s.image := (rfl)
@[simp] theorem setRst_tiles (v : Rst) : (s.setRst v).tiles = s.tiles := (rfl)
@[simp] theorem setRst_pub (v : Rst) : (s.setRst v).pub = s.pub := (rfl)
@[simp] theorem setRst_prp (v : Rst) : (s.setRst v).prp = s.prp := (rfl)
@[simp] theorem setRst_cnv (v : Rst) : (s.setRst v).cnv = s.cnv := (rfl)
@[simp] theorem setRst_prot (v : Rst) : (s.setRst v).prot = s.prot := (rfl)
@[simp] theorem setRst_ord (v : Rst) : (s.setRst v).ord = s.ord := (rfl)
@[simp] theorem setRst_sct (v : Rst) : (s.setRst v).sct = s.sct := (rfl)
@[simp] theorem setRst_flt (v : Rst) : (s.setRst v).flt = s.flt := (rfl)
@[simp] theorem setRst_clk (v : Rst) : (s.setRst v).clk = s.clk := (rfl)
@[simp] theorem setRst_pwr (v : Rst) : (s.setRst v).pwr = s.pwr := (rfl)
@[simp] theorem setRst_rtc (v : Rst) : (s.setRst v).rtc = s.rtc := (rfl)
@[simp] theorem setRst_seqr (v : Rst) : (s.setRst v).seqr = s.seqr := (rfl)
@[simp] theorem setRst_wgl (v : Rst) : (s.setRst v).wgl = s.wgl := (rfl)
@[simp] theorem setRst_mtr (v : Rst) : (s.setRst v).mtr = s.mtr := (rfl)
@[simp] theorem setRst_thm (v : Rst) : (s.setRst v).thm = s.thm := (rfl)
@[simp] theorem setRst_ldg (v : Rst) : (s.setRst v).ldg = s.ldg := (rfl)
@[simp] theorem setRst_chg (v : Rst) : (s.setRst v).chg = s.chg := (rfl)
@[simp] theorem setRst_est (v : Rst) : (s.setRst v).est = s.est := (rfl)
@[simp] theorem setRst_can (v : Rst) : (s.setRst v).can = s.can := (rfl)
@[simp] theorem setRst_tmr (v : Rst) : (s.setRst v).tmr = s.tmr := (rfl)
@[simp] theorem setRst_wdg (v : Rst) : (s.setRst v).wdg = s.wdg := (rfl)
@[simp] theorem setRst_nvm (v : Rst) : (s.setRst v).nvm = s.nvm := (rfl)
@[simp] theorem setRst_tw1 (v : Rst) : (s.setRst v).tw1 = s.tw1 := (rfl)
@[simp] theorem setRst_keyed (v : Rst) : (s.setRst v).keyed = s.keyed := (rfl)
@[simp] theorem setRst_removals (v : Rst) : (s.setRst v).removals = s.removals := (rfl)
@[simp] theorem setRst_rst (v : Rst) : (s.setRst v).rst = v := (rfl)

@[simp] theorem setPrp_pending (v : Prp) : (s.setPrp v).pending = s.pending := (rfl)
@[simp] theorem setPrp_regs (v : Prp) : (s.setPrp v).regs = s.regs := (rfl)
@[simp] theorem setPrp_sram (v : Prp) : (s.setPrp v).sram = s.sram := (rfl)
@[simp] theorem setPrp_mram (v : Prp) : (s.setPrp v).mram = s.mram := (rfl)
@[simp] theorem setPrp_otp (v : Prp) : (s.setPrp v).otp = s.otp := (rfl)
@[simp] theorem setPrp_staging (v : Prp) : (s.setPrp v).staging = s.staging := (rfl)
@[simp] theorem setPrp_commits (v : Prp) : (s.setPrp v).commits = s.commits := (rfl)
@[simp] theorem setPrp_joint (v : Prp) : (s.setPrp v).joint = s.joint := (rfl)
@[simp] theorem setPrp_free (v : Prp) : (s.setPrp v).free = s.free := (rfl)
@[simp] theorem setPrp_irq (v : Prp) : (s.setPrp v).irq = s.irq := (rfl)
@[simp] theorem setPrp_port0 (v : Prp) : (s.setPrp v).port0 = s.port0 := (rfl)
@[simp] theorem setPrp_port1 (v : Prp) : (s.setPrp v).port1 = s.port1 := (rfl)
@[simp] theorem setPrp_caps (v : Prp) : (s.setPrp v).caps = s.caps := (rfl)
@[simp] theorem setPrp_image (v : Prp) : (s.setPrp v).image = s.image := (rfl)
@[simp] theorem setPrp_tiles (v : Prp) : (s.setPrp v).tiles = s.tiles := (rfl)
@[simp] theorem setPrp_pub (v : Prp) : (s.setPrp v).pub = s.pub := (rfl)
@[simp] theorem setPrp_rst (v : Prp) : (s.setPrp v).rst = s.rst := (rfl)
@[simp] theorem setPrp_cnv (v : Prp) : (s.setPrp v).cnv = s.cnv := (rfl)
@[simp] theorem setPrp_prot (v : Prp) : (s.setPrp v).prot = s.prot := (rfl)
@[simp] theorem setPrp_ord (v : Prp) : (s.setPrp v).ord = s.ord := (rfl)
@[simp] theorem setPrp_sct (v : Prp) : (s.setPrp v).sct = s.sct := (rfl)
@[simp] theorem setPrp_flt (v : Prp) : (s.setPrp v).flt = s.flt := (rfl)
@[simp] theorem setPrp_clk (v : Prp) : (s.setPrp v).clk = s.clk := (rfl)
@[simp] theorem setPrp_pwr (v : Prp) : (s.setPrp v).pwr = s.pwr := (rfl)
@[simp] theorem setPrp_rtc (v : Prp) : (s.setPrp v).rtc = s.rtc := (rfl)
@[simp] theorem setPrp_seqr (v : Prp) : (s.setPrp v).seqr = s.seqr := (rfl)
@[simp] theorem setPrp_wgl (v : Prp) : (s.setPrp v).wgl = s.wgl := (rfl)
@[simp] theorem setPrp_mtr (v : Prp) : (s.setPrp v).mtr = s.mtr := (rfl)
@[simp] theorem setPrp_thm (v : Prp) : (s.setPrp v).thm = s.thm := (rfl)
@[simp] theorem setPrp_ldg (v : Prp) : (s.setPrp v).ldg = s.ldg := (rfl)
@[simp] theorem setPrp_chg (v : Prp) : (s.setPrp v).chg = s.chg := (rfl)
@[simp] theorem setPrp_est (v : Prp) : (s.setPrp v).est = s.est := (rfl)
@[simp] theorem setPrp_can (v : Prp) : (s.setPrp v).can = s.can := (rfl)
@[simp] theorem setPrp_tmr (v : Prp) : (s.setPrp v).tmr = s.tmr := (rfl)
@[simp] theorem setPrp_wdg (v : Prp) : (s.setPrp v).wdg = s.wdg := (rfl)
@[simp] theorem setPrp_nvm (v : Prp) : (s.setPrp v).nvm = s.nvm := (rfl)
@[simp] theorem setPrp_tw1 (v : Prp) : (s.setPrp v).tw1 = s.tw1 := (rfl)
@[simp] theorem setPrp_keyed (v : Prp) : (s.setPrp v).keyed = s.keyed := (rfl)
@[simp] theorem setPrp_removals (v : Prp) : (s.setPrp v).removals = s.removals := (rfl)
@[simp] theorem setPrp_prp (v : Prp) : (s.setPrp v).prp = v := (rfl)

@[simp] theorem setCnv_pending (v : Cnv) : (s.setCnv v).pending = s.pending := (rfl)
@[simp] theorem setCnv_regs (v : Cnv) : (s.setCnv v).regs = s.regs := (rfl)
@[simp] theorem setCnv_sram (v : Cnv) : (s.setCnv v).sram = s.sram := (rfl)
@[simp] theorem setCnv_mram (v : Cnv) : (s.setCnv v).mram = s.mram := (rfl)
@[simp] theorem setCnv_otp (v : Cnv) : (s.setCnv v).otp = s.otp := (rfl)
@[simp] theorem setCnv_staging (v : Cnv) : (s.setCnv v).staging = s.staging := (rfl)
@[simp] theorem setCnv_commits (v : Cnv) : (s.setCnv v).commits = s.commits := (rfl)
@[simp] theorem setCnv_joint (v : Cnv) : (s.setCnv v).joint = s.joint := (rfl)
@[simp] theorem setCnv_free (v : Cnv) : (s.setCnv v).free = s.free := (rfl)
@[simp] theorem setCnv_irq (v : Cnv) : (s.setCnv v).irq = s.irq := (rfl)
@[simp] theorem setCnv_port0 (v : Cnv) : (s.setCnv v).port0 = s.port0 := (rfl)
@[simp] theorem setCnv_port1 (v : Cnv) : (s.setCnv v).port1 = s.port1 := (rfl)
@[simp] theorem setCnv_caps (v : Cnv) : (s.setCnv v).caps = s.caps := (rfl)
@[simp] theorem setCnv_image (v : Cnv) : (s.setCnv v).image = s.image := (rfl)
@[simp] theorem setCnv_tiles (v : Cnv) : (s.setCnv v).tiles = s.tiles := (rfl)
@[simp] theorem setCnv_pub (v : Cnv) : (s.setCnv v).pub = s.pub := (rfl)
@[simp] theorem setCnv_rst (v : Cnv) : (s.setCnv v).rst = s.rst := (rfl)
@[simp] theorem setCnv_prp (v : Cnv) : (s.setCnv v).prp = s.prp := (rfl)
@[simp] theorem setCnv_prot (v : Cnv) : (s.setCnv v).prot = s.prot := (rfl)
@[simp] theorem setCnv_ord (v : Cnv) : (s.setCnv v).ord = s.ord := (rfl)
@[simp] theorem setCnv_sct (v : Cnv) : (s.setCnv v).sct = s.sct := (rfl)
@[simp] theorem setCnv_flt (v : Cnv) : (s.setCnv v).flt = s.flt := (rfl)
@[simp] theorem setCnv_clk (v : Cnv) : (s.setCnv v).clk = s.clk := (rfl)
@[simp] theorem setCnv_pwr (v : Cnv) : (s.setCnv v).pwr = s.pwr := (rfl)
@[simp] theorem setCnv_rtc (v : Cnv) : (s.setCnv v).rtc = s.rtc := (rfl)
@[simp] theorem setCnv_seqr (v : Cnv) : (s.setCnv v).seqr = s.seqr := (rfl)
@[simp] theorem setCnv_wgl (v : Cnv) : (s.setCnv v).wgl = s.wgl := (rfl)
@[simp] theorem setCnv_mtr (v : Cnv) : (s.setCnv v).mtr = s.mtr := (rfl)
@[simp] theorem setCnv_thm (v : Cnv) : (s.setCnv v).thm = s.thm := (rfl)
@[simp] theorem setCnv_ldg (v : Cnv) : (s.setCnv v).ldg = s.ldg := (rfl)
@[simp] theorem setCnv_chg (v : Cnv) : (s.setCnv v).chg = s.chg := (rfl)
@[simp] theorem setCnv_est (v : Cnv) : (s.setCnv v).est = s.est := (rfl)
@[simp] theorem setCnv_can (v : Cnv) : (s.setCnv v).can = s.can := (rfl)
@[simp] theorem setCnv_tmr (v : Cnv) : (s.setCnv v).tmr = s.tmr := (rfl)
@[simp] theorem setCnv_wdg (v : Cnv) : (s.setCnv v).wdg = s.wdg := (rfl)
@[simp] theorem setCnv_nvm (v : Cnv) : (s.setCnv v).nvm = s.nvm := (rfl)
@[simp] theorem setCnv_tw1 (v : Cnv) : (s.setCnv v).tw1 = s.tw1 := (rfl)
@[simp] theorem setCnv_keyed (v : Cnv) : (s.setCnv v).keyed = s.keyed := (rfl)
@[simp] theorem setCnv_removals (v : Cnv) : (s.setCnv v).removals = s.removals := (rfl)
@[simp] theorem setCnv_cnv (v : Cnv) : (s.setCnv v).cnv = v := (rfl)

@[simp] theorem setProt_pending (v : Prot) : (s.setProt v).pending = s.pending := (rfl)
@[simp] theorem setProt_regs (v : Prot) : (s.setProt v).regs = s.regs := (rfl)
@[simp] theorem setProt_sram (v : Prot) : (s.setProt v).sram = s.sram := (rfl)
@[simp] theorem setProt_mram (v : Prot) : (s.setProt v).mram = s.mram := (rfl)
@[simp] theorem setProt_otp (v : Prot) : (s.setProt v).otp = s.otp := (rfl)
@[simp] theorem setProt_staging (v : Prot) : (s.setProt v).staging = s.staging := (rfl)
@[simp] theorem setProt_commits (v : Prot) : (s.setProt v).commits = s.commits := (rfl)
@[simp] theorem setProt_joint (v : Prot) : (s.setProt v).joint = s.joint := (rfl)
@[simp] theorem setProt_free (v : Prot) : (s.setProt v).free = s.free := (rfl)
@[simp] theorem setProt_irq (v : Prot) : (s.setProt v).irq = s.irq := (rfl)
@[simp] theorem setProt_port0 (v : Prot) : (s.setProt v).port0 = s.port0 := (rfl)
@[simp] theorem setProt_port1 (v : Prot) : (s.setProt v).port1 = s.port1 := (rfl)
@[simp] theorem setProt_caps (v : Prot) : (s.setProt v).caps = s.caps := (rfl)
@[simp] theorem setProt_image (v : Prot) : (s.setProt v).image = s.image := (rfl)
@[simp] theorem setProt_tiles (v : Prot) : (s.setProt v).tiles = s.tiles := (rfl)
@[simp] theorem setProt_pub (v : Prot) : (s.setProt v).pub = s.pub := (rfl)
@[simp] theorem setProt_rst (v : Prot) : (s.setProt v).rst = s.rst := (rfl)
@[simp] theorem setProt_prp (v : Prot) : (s.setProt v).prp = s.prp := (rfl)
@[simp] theorem setProt_cnv (v : Prot) : (s.setProt v).cnv = s.cnv := (rfl)
@[simp] theorem setProt_ord (v : Prot) : (s.setProt v).ord = s.ord := (rfl)
@[simp] theorem setProt_sct (v : Prot) : (s.setProt v).sct = s.sct := (rfl)
@[simp] theorem setProt_flt (v : Prot) : (s.setProt v).flt = s.flt := (rfl)
@[simp] theorem setProt_clk (v : Prot) : (s.setProt v).clk = s.clk := (rfl)
@[simp] theorem setProt_pwr (v : Prot) : (s.setProt v).pwr = s.pwr := (rfl)
@[simp] theorem setProt_rtc (v : Prot) : (s.setProt v).rtc = s.rtc := (rfl)
@[simp] theorem setProt_seqr (v : Prot) : (s.setProt v).seqr = s.seqr := (rfl)
@[simp] theorem setProt_wgl (v : Prot) : (s.setProt v).wgl = s.wgl := (rfl)
@[simp] theorem setProt_mtr (v : Prot) : (s.setProt v).mtr = s.mtr := (rfl)
@[simp] theorem setProt_thm (v : Prot) : (s.setProt v).thm = s.thm := (rfl)
@[simp] theorem setProt_ldg (v : Prot) : (s.setProt v).ldg = s.ldg := (rfl)
@[simp] theorem setProt_chg (v : Prot) : (s.setProt v).chg = s.chg := (rfl)
@[simp] theorem setProt_est (v : Prot) : (s.setProt v).est = s.est := (rfl)
@[simp] theorem setProt_can (v : Prot) : (s.setProt v).can = s.can := (rfl)
@[simp] theorem setProt_tmr (v : Prot) : (s.setProt v).tmr = s.tmr := (rfl)
@[simp] theorem setProt_wdg (v : Prot) : (s.setProt v).wdg = s.wdg := (rfl)
@[simp] theorem setProt_nvm (v : Prot) : (s.setProt v).nvm = s.nvm := (rfl)
@[simp] theorem setProt_tw1 (v : Prot) : (s.setProt v).tw1 = s.tw1 := (rfl)
@[simp] theorem setProt_keyed (v : Prot) : (s.setProt v).keyed = s.keyed := (rfl)
@[simp] theorem setProt_removals (v : Prot) : (s.setProt v).removals = s.removals := (rfl)
@[simp] theorem setProt_prot (v : Prot) : (s.setProt v).prot = v := (rfl)

@[simp] theorem setOrd_pending (v : Ord) : (s.setOrd v).pending = s.pending := (rfl)
@[simp] theorem setOrd_regs (v : Ord) : (s.setOrd v).regs = s.regs := (rfl)
@[simp] theorem setOrd_sram (v : Ord) : (s.setOrd v).sram = s.sram := (rfl)
@[simp] theorem setOrd_mram (v : Ord) : (s.setOrd v).mram = s.mram := (rfl)
@[simp] theorem setOrd_otp (v : Ord) : (s.setOrd v).otp = s.otp := (rfl)
@[simp] theorem setOrd_staging (v : Ord) : (s.setOrd v).staging = s.staging := (rfl)
@[simp] theorem setOrd_commits (v : Ord) : (s.setOrd v).commits = s.commits := (rfl)
@[simp] theorem setOrd_joint (v : Ord) : (s.setOrd v).joint = s.joint := (rfl)
@[simp] theorem setOrd_free (v : Ord) : (s.setOrd v).free = s.free := (rfl)
@[simp] theorem setOrd_irq (v : Ord) : (s.setOrd v).irq = s.irq := (rfl)
@[simp] theorem setOrd_port0 (v : Ord) : (s.setOrd v).port0 = s.port0 := (rfl)
@[simp] theorem setOrd_port1 (v : Ord) : (s.setOrd v).port1 = s.port1 := (rfl)
@[simp] theorem setOrd_caps (v : Ord) : (s.setOrd v).caps = s.caps := (rfl)
@[simp] theorem setOrd_image (v : Ord) : (s.setOrd v).image = s.image := (rfl)
@[simp] theorem setOrd_tiles (v : Ord) : (s.setOrd v).tiles = s.tiles := (rfl)
@[simp] theorem setOrd_pub (v : Ord) : (s.setOrd v).pub = s.pub := (rfl)
@[simp] theorem setOrd_rst (v : Ord) : (s.setOrd v).rst = s.rst := (rfl)
@[simp] theorem setOrd_prp (v : Ord) : (s.setOrd v).prp = s.prp := (rfl)
@[simp] theorem setOrd_cnv (v : Ord) : (s.setOrd v).cnv = s.cnv := (rfl)
@[simp] theorem setOrd_prot (v : Ord) : (s.setOrd v).prot = s.prot := (rfl)
@[simp] theorem setOrd_sct (v : Ord) : (s.setOrd v).sct = s.sct := (rfl)
@[simp] theorem setOrd_flt (v : Ord) : (s.setOrd v).flt = s.flt := (rfl)
@[simp] theorem setOrd_clk (v : Ord) : (s.setOrd v).clk = s.clk := (rfl)
@[simp] theorem setOrd_pwr (v : Ord) : (s.setOrd v).pwr = s.pwr := (rfl)
@[simp] theorem setOrd_rtc (v : Ord) : (s.setOrd v).rtc = s.rtc := (rfl)
@[simp] theorem setOrd_seqr (v : Ord) : (s.setOrd v).seqr = s.seqr := (rfl)
@[simp] theorem setOrd_wgl (v : Ord) : (s.setOrd v).wgl = s.wgl := (rfl)
@[simp] theorem setOrd_mtr (v : Ord) : (s.setOrd v).mtr = s.mtr := (rfl)
@[simp] theorem setOrd_thm (v : Ord) : (s.setOrd v).thm = s.thm := (rfl)
@[simp] theorem setOrd_ldg (v : Ord) : (s.setOrd v).ldg = s.ldg := (rfl)
@[simp] theorem setOrd_chg (v : Ord) : (s.setOrd v).chg = s.chg := (rfl)
@[simp] theorem setOrd_est (v : Ord) : (s.setOrd v).est = s.est := (rfl)
@[simp] theorem setOrd_can (v : Ord) : (s.setOrd v).can = s.can := (rfl)
@[simp] theorem setOrd_tmr (v : Ord) : (s.setOrd v).tmr = s.tmr := (rfl)
@[simp] theorem setOrd_wdg (v : Ord) : (s.setOrd v).wdg = s.wdg := (rfl)
@[simp] theorem setOrd_nvm (v : Ord) : (s.setOrd v).nvm = s.nvm := (rfl)
@[simp] theorem setOrd_tw1 (v : Ord) : (s.setOrd v).tw1 = s.tw1 := (rfl)
@[simp] theorem setOrd_keyed (v : Ord) : (s.setOrd v).keyed = s.keyed := (rfl)
@[simp] theorem setOrd_removals (v : Ord) : (s.setOrd v).removals = s.removals := (rfl)
@[simp] theorem setOrd_ord (v : Ord) : (s.setOrd v).ord = v := (rfl)

@[simp] theorem setSct_pending (v : Sct) : (s.setSct v).pending = s.pending := (rfl)
@[simp] theorem setSct_regs (v : Sct) : (s.setSct v).regs = s.regs := (rfl)
@[simp] theorem setSct_sram (v : Sct) : (s.setSct v).sram = s.sram := (rfl)
@[simp] theorem setSct_mram (v : Sct) : (s.setSct v).mram = s.mram := (rfl)
@[simp] theorem setSct_otp (v : Sct) : (s.setSct v).otp = s.otp := (rfl)
@[simp] theorem setSct_staging (v : Sct) : (s.setSct v).staging = s.staging := (rfl)
@[simp] theorem setSct_commits (v : Sct) : (s.setSct v).commits = s.commits := (rfl)
@[simp] theorem setSct_joint (v : Sct) : (s.setSct v).joint = s.joint := (rfl)
@[simp] theorem setSct_free (v : Sct) : (s.setSct v).free = s.free := (rfl)
@[simp] theorem setSct_irq (v : Sct) : (s.setSct v).irq = s.irq := (rfl)
@[simp] theorem setSct_port0 (v : Sct) : (s.setSct v).port0 = s.port0 := (rfl)
@[simp] theorem setSct_port1 (v : Sct) : (s.setSct v).port1 = s.port1 := (rfl)
@[simp] theorem setSct_caps (v : Sct) : (s.setSct v).caps = s.caps := (rfl)
@[simp] theorem setSct_image (v : Sct) : (s.setSct v).image = s.image := (rfl)
@[simp] theorem setSct_tiles (v : Sct) : (s.setSct v).tiles = s.tiles := (rfl)
@[simp] theorem setSct_pub (v : Sct) : (s.setSct v).pub = s.pub := (rfl)
@[simp] theorem setSct_rst (v : Sct) : (s.setSct v).rst = s.rst := (rfl)
@[simp] theorem setSct_prp (v : Sct) : (s.setSct v).prp = s.prp := (rfl)
@[simp] theorem setSct_cnv (v : Sct) : (s.setSct v).cnv = s.cnv := (rfl)
@[simp] theorem setSct_prot (v : Sct) : (s.setSct v).prot = s.prot := (rfl)
@[simp] theorem setSct_ord (v : Sct) : (s.setSct v).ord = s.ord := (rfl)
@[simp] theorem setSct_flt (v : Sct) : (s.setSct v).flt = s.flt := (rfl)
@[simp] theorem setSct_clk (v : Sct) : (s.setSct v).clk = s.clk := (rfl)
@[simp] theorem setSct_pwr (v : Sct) : (s.setSct v).pwr = s.pwr := (rfl)
@[simp] theorem setSct_rtc (v : Sct) : (s.setSct v).rtc = s.rtc := (rfl)
@[simp] theorem setSct_seqr (v : Sct) : (s.setSct v).seqr = s.seqr := (rfl)
@[simp] theorem setSct_wgl (v : Sct) : (s.setSct v).wgl = s.wgl := (rfl)
@[simp] theorem setSct_mtr (v : Sct) : (s.setSct v).mtr = s.mtr := (rfl)
@[simp] theorem setSct_thm (v : Sct) : (s.setSct v).thm = s.thm := (rfl)
@[simp] theorem setSct_ldg (v : Sct) : (s.setSct v).ldg = s.ldg := (rfl)
@[simp] theorem setSct_chg (v : Sct) : (s.setSct v).chg = s.chg := (rfl)
@[simp] theorem setSct_est (v : Sct) : (s.setSct v).est = s.est := (rfl)
@[simp] theorem setSct_can (v : Sct) : (s.setSct v).can = s.can := (rfl)
@[simp] theorem setSct_tmr (v : Sct) : (s.setSct v).tmr = s.tmr := (rfl)
@[simp] theorem setSct_wdg (v : Sct) : (s.setSct v).wdg = s.wdg := (rfl)
@[simp] theorem setSct_nvm (v : Sct) : (s.setSct v).nvm = s.nvm := (rfl)
@[simp] theorem setSct_tw1 (v : Sct) : (s.setSct v).tw1 = s.tw1 := (rfl)
@[simp] theorem setSct_keyed (v : Sct) : (s.setSct v).keyed = s.keyed := (rfl)
@[simp] theorem setSct_removals (v : Sct) : (s.setSct v).removals = s.removals := (rfl)
@[simp] theorem setSct_sct (v : Sct) : (s.setSct v).sct = v := (rfl)

@[simp] theorem setFlt_pending (v : Flt) : (s.setFlt v).pending = s.pending := (rfl)
@[simp] theorem setFlt_regs (v : Flt) : (s.setFlt v).regs = s.regs := (rfl)
@[simp] theorem setFlt_sram (v : Flt) : (s.setFlt v).sram = s.sram := (rfl)
@[simp] theorem setFlt_mram (v : Flt) : (s.setFlt v).mram = s.mram := (rfl)
@[simp] theorem setFlt_otp (v : Flt) : (s.setFlt v).otp = s.otp := (rfl)
@[simp] theorem setFlt_staging (v : Flt) : (s.setFlt v).staging = s.staging := (rfl)
@[simp] theorem setFlt_commits (v : Flt) : (s.setFlt v).commits = s.commits := (rfl)
@[simp] theorem setFlt_joint (v : Flt) : (s.setFlt v).joint = s.joint := (rfl)
@[simp] theorem setFlt_free (v : Flt) : (s.setFlt v).free = s.free := (rfl)
@[simp] theorem setFlt_irq (v : Flt) : (s.setFlt v).irq = s.irq := (rfl)
@[simp] theorem setFlt_port0 (v : Flt) : (s.setFlt v).port0 = s.port0 := (rfl)
@[simp] theorem setFlt_port1 (v : Flt) : (s.setFlt v).port1 = s.port1 := (rfl)
@[simp] theorem setFlt_caps (v : Flt) : (s.setFlt v).caps = s.caps := (rfl)
@[simp] theorem setFlt_image (v : Flt) : (s.setFlt v).image = s.image := (rfl)
@[simp] theorem setFlt_tiles (v : Flt) : (s.setFlt v).tiles = s.tiles := (rfl)
@[simp] theorem setFlt_pub (v : Flt) : (s.setFlt v).pub = s.pub := (rfl)
@[simp] theorem setFlt_rst (v : Flt) : (s.setFlt v).rst = s.rst := (rfl)
@[simp] theorem setFlt_prp (v : Flt) : (s.setFlt v).prp = s.prp := (rfl)
@[simp] theorem setFlt_cnv (v : Flt) : (s.setFlt v).cnv = s.cnv := (rfl)
@[simp] theorem setFlt_prot (v : Flt) : (s.setFlt v).prot = s.prot := (rfl)
@[simp] theorem setFlt_ord (v : Flt) : (s.setFlt v).ord = s.ord := (rfl)
@[simp] theorem setFlt_sct (v : Flt) : (s.setFlt v).sct = s.sct := (rfl)
@[simp] theorem setFlt_clk (v : Flt) : (s.setFlt v).clk = s.clk := (rfl)
@[simp] theorem setFlt_pwr (v : Flt) : (s.setFlt v).pwr = s.pwr := (rfl)
@[simp] theorem setFlt_rtc (v : Flt) : (s.setFlt v).rtc = s.rtc := (rfl)
@[simp] theorem setFlt_seqr (v : Flt) : (s.setFlt v).seqr = s.seqr := (rfl)
@[simp] theorem setFlt_wgl (v : Flt) : (s.setFlt v).wgl = s.wgl := (rfl)
@[simp] theorem setFlt_mtr (v : Flt) : (s.setFlt v).mtr = s.mtr := (rfl)
@[simp] theorem setFlt_thm (v : Flt) : (s.setFlt v).thm = s.thm := (rfl)
@[simp] theorem setFlt_ldg (v : Flt) : (s.setFlt v).ldg = s.ldg := (rfl)
@[simp] theorem setFlt_chg (v : Flt) : (s.setFlt v).chg = s.chg := (rfl)
@[simp] theorem setFlt_est (v : Flt) : (s.setFlt v).est = s.est := (rfl)
@[simp] theorem setFlt_can (v : Flt) : (s.setFlt v).can = s.can := (rfl)
@[simp] theorem setFlt_tmr (v : Flt) : (s.setFlt v).tmr = s.tmr := (rfl)
@[simp] theorem setFlt_wdg (v : Flt) : (s.setFlt v).wdg = s.wdg := (rfl)
@[simp] theorem setFlt_nvm (v : Flt) : (s.setFlt v).nvm = s.nvm := (rfl)
@[simp] theorem setFlt_tw1 (v : Flt) : (s.setFlt v).tw1 = s.tw1 := (rfl)
@[simp] theorem setFlt_keyed (v : Flt) : (s.setFlt v).keyed = s.keyed := (rfl)
@[simp] theorem setFlt_removals (v : Flt) : (s.setFlt v).removals = s.removals := (rfl)
@[simp] theorem setFlt_flt (v : Flt) : (s.setFlt v).flt = v := (rfl)

@[simp] theorem setClk_pending (v : Clk) : (s.setClk v).pending = s.pending := (rfl)
@[simp] theorem setClk_regs (v : Clk) : (s.setClk v).regs = s.regs := (rfl)
@[simp] theorem setClk_sram (v : Clk) : (s.setClk v).sram = s.sram := (rfl)
@[simp] theorem setClk_mram (v : Clk) : (s.setClk v).mram = s.mram := (rfl)
@[simp] theorem setClk_otp (v : Clk) : (s.setClk v).otp = s.otp := (rfl)
@[simp] theorem setClk_staging (v : Clk) : (s.setClk v).staging = s.staging := (rfl)
@[simp] theorem setClk_commits (v : Clk) : (s.setClk v).commits = s.commits := (rfl)
@[simp] theorem setClk_joint (v : Clk) : (s.setClk v).joint = s.joint := (rfl)
@[simp] theorem setClk_free (v : Clk) : (s.setClk v).free = s.free := (rfl)
@[simp] theorem setClk_irq (v : Clk) : (s.setClk v).irq = s.irq := (rfl)
@[simp] theorem setClk_port0 (v : Clk) : (s.setClk v).port0 = s.port0 := (rfl)
@[simp] theorem setClk_port1 (v : Clk) : (s.setClk v).port1 = s.port1 := (rfl)
@[simp] theorem setClk_caps (v : Clk) : (s.setClk v).caps = s.caps := (rfl)
@[simp] theorem setClk_image (v : Clk) : (s.setClk v).image = s.image := (rfl)
@[simp] theorem setClk_tiles (v : Clk) : (s.setClk v).tiles = s.tiles := (rfl)
@[simp] theorem setClk_pub (v : Clk) : (s.setClk v).pub = s.pub := (rfl)
@[simp] theorem setClk_rst (v : Clk) : (s.setClk v).rst = s.rst := (rfl)
@[simp] theorem setClk_prp (v : Clk) : (s.setClk v).prp = s.prp := (rfl)
@[simp] theorem setClk_cnv (v : Clk) : (s.setClk v).cnv = s.cnv := (rfl)
@[simp] theorem setClk_prot (v : Clk) : (s.setClk v).prot = s.prot := (rfl)
@[simp] theorem setClk_ord (v : Clk) : (s.setClk v).ord = s.ord := (rfl)
@[simp] theorem setClk_sct (v : Clk) : (s.setClk v).sct = s.sct := (rfl)
@[simp] theorem setClk_flt (v : Clk) : (s.setClk v).flt = s.flt := (rfl)
@[simp] theorem setClk_pwr (v : Clk) : (s.setClk v).pwr = s.pwr := (rfl)
@[simp] theorem setClk_rtc (v : Clk) : (s.setClk v).rtc = s.rtc := (rfl)
@[simp] theorem setClk_seqr (v : Clk) : (s.setClk v).seqr = s.seqr := (rfl)
@[simp] theorem setClk_wgl (v : Clk) : (s.setClk v).wgl = s.wgl := (rfl)
@[simp] theorem setClk_mtr (v : Clk) : (s.setClk v).mtr = s.mtr := (rfl)
@[simp] theorem setClk_thm (v : Clk) : (s.setClk v).thm = s.thm := (rfl)
@[simp] theorem setClk_ldg (v : Clk) : (s.setClk v).ldg = s.ldg := (rfl)
@[simp] theorem setClk_chg (v : Clk) : (s.setClk v).chg = s.chg := (rfl)
@[simp] theorem setClk_est (v : Clk) : (s.setClk v).est = s.est := (rfl)
@[simp] theorem setClk_can (v : Clk) : (s.setClk v).can = s.can := (rfl)
@[simp] theorem setClk_tmr (v : Clk) : (s.setClk v).tmr = s.tmr := (rfl)
@[simp] theorem setClk_wdg (v : Clk) : (s.setClk v).wdg = s.wdg := (rfl)
@[simp] theorem setClk_nvm (v : Clk) : (s.setClk v).nvm = s.nvm := (rfl)
@[simp] theorem setClk_tw1 (v : Clk) : (s.setClk v).tw1 = s.tw1 := (rfl)
@[simp] theorem setClk_keyed (v : Clk) : (s.setClk v).keyed = s.keyed := (rfl)
@[simp] theorem setClk_removals (v : Clk) : (s.setClk v).removals = s.removals := (rfl)
@[simp] theorem setClk_clk (v : Clk) : (s.setClk v).clk = v := (rfl)

@[simp] theorem setPwr_pending (v : Pwr) : (s.setPwr v).pending = s.pending := (rfl)
@[simp] theorem setPwr_regs (v : Pwr) : (s.setPwr v).regs = s.regs := (rfl)
@[simp] theorem setPwr_sram (v : Pwr) : (s.setPwr v).sram = s.sram := (rfl)
@[simp] theorem setPwr_mram (v : Pwr) : (s.setPwr v).mram = s.mram := (rfl)
@[simp] theorem setPwr_otp (v : Pwr) : (s.setPwr v).otp = s.otp := (rfl)
@[simp] theorem setPwr_staging (v : Pwr) : (s.setPwr v).staging = s.staging := (rfl)
@[simp] theorem setPwr_commits (v : Pwr) : (s.setPwr v).commits = s.commits := (rfl)
@[simp] theorem setPwr_joint (v : Pwr) : (s.setPwr v).joint = s.joint := (rfl)
@[simp] theorem setPwr_free (v : Pwr) : (s.setPwr v).free = s.free := (rfl)
@[simp] theorem setPwr_irq (v : Pwr) : (s.setPwr v).irq = s.irq := (rfl)
@[simp] theorem setPwr_port0 (v : Pwr) : (s.setPwr v).port0 = s.port0 := (rfl)
@[simp] theorem setPwr_port1 (v : Pwr) : (s.setPwr v).port1 = s.port1 := (rfl)
@[simp] theorem setPwr_caps (v : Pwr) : (s.setPwr v).caps = s.caps := (rfl)
@[simp] theorem setPwr_image (v : Pwr) : (s.setPwr v).image = s.image := (rfl)
@[simp] theorem setPwr_tiles (v : Pwr) : (s.setPwr v).tiles = s.tiles := (rfl)
@[simp] theorem setPwr_pub (v : Pwr) : (s.setPwr v).pub = s.pub := (rfl)
@[simp] theorem setPwr_rst (v : Pwr) : (s.setPwr v).rst = s.rst := (rfl)
@[simp] theorem setPwr_prp (v : Pwr) : (s.setPwr v).prp = s.prp := (rfl)
@[simp] theorem setPwr_cnv (v : Pwr) : (s.setPwr v).cnv = s.cnv := (rfl)
@[simp] theorem setPwr_prot (v : Pwr) : (s.setPwr v).prot = s.prot := (rfl)
@[simp] theorem setPwr_ord (v : Pwr) : (s.setPwr v).ord = s.ord := (rfl)
@[simp] theorem setPwr_sct (v : Pwr) : (s.setPwr v).sct = s.sct := (rfl)
@[simp] theorem setPwr_flt (v : Pwr) : (s.setPwr v).flt = s.flt := (rfl)
@[simp] theorem setPwr_clk (v : Pwr) : (s.setPwr v).clk = s.clk := (rfl)
@[simp] theorem setPwr_rtc (v : Pwr) : (s.setPwr v).rtc = s.rtc := (rfl)
@[simp] theorem setPwr_seqr (v : Pwr) : (s.setPwr v).seqr = s.seqr := (rfl)
@[simp] theorem setPwr_wgl (v : Pwr) : (s.setPwr v).wgl = s.wgl := (rfl)
@[simp] theorem setPwr_mtr (v : Pwr) : (s.setPwr v).mtr = s.mtr := (rfl)
@[simp] theorem setPwr_thm (v : Pwr) : (s.setPwr v).thm = s.thm := (rfl)
@[simp] theorem setPwr_ldg (v : Pwr) : (s.setPwr v).ldg = s.ldg := (rfl)
@[simp] theorem setPwr_chg (v : Pwr) : (s.setPwr v).chg = s.chg := (rfl)
@[simp] theorem setPwr_est (v : Pwr) : (s.setPwr v).est = s.est := (rfl)
@[simp] theorem setPwr_can (v : Pwr) : (s.setPwr v).can = s.can := (rfl)
@[simp] theorem setPwr_tmr (v : Pwr) : (s.setPwr v).tmr = s.tmr := (rfl)
@[simp] theorem setPwr_wdg (v : Pwr) : (s.setPwr v).wdg = s.wdg := (rfl)
@[simp] theorem setPwr_nvm (v : Pwr) : (s.setPwr v).nvm = s.nvm := (rfl)
@[simp] theorem setPwr_tw1 (v : Pwr) : (s.setPwr v).tw1 = s.tw1 := (rfl)
@[simp] theorem setPwr_keyed (v : Pwr) : (s.setPwr v).keyed = s.keyed := (rfl)
@[simp] theorem setPwr_removals (v : Pwr) : (s.setPwr v).removals = s.removals := (rfl)
@[simp] theorem setPwr_pwr (v : Pwr) : (s.setPwr v).pwr = v := (rfl)

@[simp] theorem setRtc_pending (v : Rtc) : (s.setRtc v).pending = s.pending := (rfl)
@[simp] theorem setRtc_regs (v : Rtc) : (s.setRtc v).regs = s.regs := (rfl)
@[simp] theorem setRtc_sram (v : Rtc) : (s.setRtc v).sram = s.sram := (rfl)
@[simp] theorem setRtc_mram (v : Rtc) : (s.setRtc v).mram = s.mram := (rfl)
@[simp] theorem setRtc_otp (v : Rtc) : (s.setRtc v).otp = s.otp := (rfl)
@[simp] theorem setRtc_staging (v : Rtc) : (s.setRtc v).staging = s.staging := (rfl)
@[simp] theorem setRtc_commits (v : Rtc) : (s.setRtc v).commits = s.commits := (rfl)
@[simp] theorem setRtc_joint (v : Rtc) : (s.setRtc v).joint = s.joint := (rfl)
@[simp] theorem setRtc_free (v : Rtc) : (s.setRtc v).free = s.free := (rfl)
@[simp] theorem setRtc_irq (v : Rtc) : (s.setRtc v).irq = s.irq := (rfl)
@[simp] theorem setRtc_port0 (v : Rtc) : (s.setRtc v).port0 = s.port0 := (rfl)
@[simp] theorem setRtc_port1 (v : Rtc) : (s.setRtc v).port1 = s.port1 := (rfl)
@[simp] theorem setRtc_caps (v : Rtc) : (s.setRtc v).caps = s.caps := (rfl)
@[simp] theorem setRtc_image (v : Rtc) : (s.setRtc v).image = s.image := (rfl)
@[simp] theorem setRtc_tiles (v : Rtc) : (s.setRtc v).tiles = s.tiles := (rfl)
@[simp] theorem setRtc_pub (v : Rtc) : (s.setRtc v).pub = s.pub := (rfl)
@[simp] theorem setRtc_rst (v : Rtc) : (s.setRtc v).rst = s.rst := (rfl)
@[simp] theorem setRtc_prp (v : Rtc) : (s.setRtc v).prp = s.prp := (rfl)
@[simp] theorem setRtc_cnv (v : Rtc) : (s.setRtc v).cnv = s.cnv := (rfl)
@[simp] theorem setRtc_prot (v : Rtc) : (s.setRtc v).prot = s.prot := (rfl)
@[simp] theorem setRtc_ord (v : Rtc) : (s.setRtc v).ord = s.ord := (rfl)
@[simp] theorem setRtc_sct (v : Rtc) : (s.setRtc v).sct = s.sct := (rfl)
@[simp] theorem setRtc_flt (v : Rtc) : (s.setRtc v).flt = s.flt := (rfl)
@[simp] theorem setRtc_clk (v : Rtc) : (s.setRtc v).clk = s.clk := (rfl)
@[simp] theorem setRtc_pwr (v : Rtc) : (s.setRtc v).pwr = s.pwr := (rfl)
@[simp] theorem setRtc_seqr (v : Rtc) : (s.setRtc v).seqr = s.seqr := (rfl)
@[simp] theorem setRtc_wgl (v : Rtc) : (s.setRtc v).wgl = s.wgl := (rfl)
@[simp] theorem setRtc_mtr (v : Rtc) : (s.setRtc v).mtr = s.mtr := (rfl)
@[simp] theorem setRtc_thm (v : Rtc) : (s.setRtc v).thm = s.thm := (rfl)
@[simp] theorem setRtc_ldg (v : Rtc) : (s.setRtc v).ldg = s.ldg := (rfl)
@[simp] theorem setRtc_chg (v : Rtc) : (s.setRtc v).chg = s.chg := (rfl)
@[simp] theorem setRtc_est (v : Rtc) : (s.setRtc v).est = s.est := (rfl)
@[simp] theorem setRtc_can (v : Rtc) : (s.setRtc v).can = s.can := (rfl)
@[simp] theorem setRtc_tmr (v : Rtc) : (s.setRtc v).tmr = s.tmr := (rfl)
@[simp] theorem setRtc_wdg (v : Rtc) : (s.setRtc v).wdg = s.wdg := (rfl)
@[simp] theorem setRtc_nvm (v : Rtc) : (s.setRtc v).nvm = s.nvm := (rfl)
@[simp] theorem setRtc_tw1 (v : Rtc) : (s.setRtc v).tw1 = s.tw1 := (rfl)
@[simp] theorem setRtc_keyed (v : Rtc) : (s.setRtc v).keyed = s.keyed := (rfl)
@[simp] theorem setRtc_removals (v : Rtc) : (s.setRtc v).removals = s.removals := (rfl)
@[simp] theorem setRtc_rtc (v : Rtc) : (s.setRtc v).rtc = v := (rfl)

@[simp] theorem setSeqr_pending (v : Seqr) : (s.setSeqr v).pending = s.pending := (rfl)
@[simp] theorem setSeqr_regs (v : Seqr) : (s.setSeqr v).regs = s.regs := (rfl)
@[simp] theorem setSeqr_sram (v : Seqr) : (s.setSeqr v).sram = s.sram := (rfl)
@[simp] theorem setSeqr_mram (v : Seqr) : (s.setSeqr v).mram = s.mram := (rfl)
@[simp] theorem setSeqr_otp (v : Seqr) : (s.setSeqr v).otp = s.otp := (rfl)
@[simp] theorem setSeqr_staging (v : Seqr) : (s.setSeqr v).staging = s.staging := (rfl)
@[simp] theorem setSeqr_commits (v : Seqr) : (s.setSeqr v).commits = s.commits := (rfl)
@[simp] theorem setSeqr_joint (v : Seqr) : (s.setSeqr v).joint = s.joint := (rfl)
@[simp] theorem setSeqr_free (v : Seqr) : (s.setSeqr v).free = s.free := (rfl)
@[simp] theorem setSeqr_irq (v : Seqr) : (s.setSeqr v).irq = s.irq := (rfl)
@[simp] theorem setSeqr_port0 (v : Seqr) : (s.setSeqr v).port0 = s.port0 := (rfl)
@[simp] theorem setSeqr_port1 (v : Seqr) : (s.setSeqr v).port1 = s.port1 := (rfl)
@[simp] theorem setSeqr_caps (v : Seqr) : (s.setSeqr v).caps = s.caps := (rfl)
@[simp] theorem setSeqr_image (v : Seqr) : (s.setSeqr v).image = s.image := (rfl)
@[simp] theorem setSeqr_tiles (v : Seqr) : (s.setSeqr v).tiles = s.tiles := (rfl)
@[simp] theorem setSeqr_pub (v : Seqr) : (s.setSeqr v).pub = s.pub := (rfl)
@[simp] theorem setSeqr_rst (v : Seqr) : (s.setSeqr v).rst = s.rst := (rfl)
@[simp] theorem setSeqr_prp (v : Seqr) : (s.setSeqr v).prp = s.prp := (rfl)
@[simp] theorem setSeqr_cnv (v : Seqr) : (s.setSeqr v).cnv = s.cnv := (rfl)
@[simp] theorem setSeqr_prot (v : Seqr) : (s.setSeqr v).prot = s.prot := (rfl)
@[simp] theorem setSeqr_ord (v : Seqr) : (s.setSeqr v).ord = s.ord := (rfl)
@[simp] theorem setSeqr_sct (v : Seqr) : (s.setSeqr v).sct = s.sct := (rfl)
@[simp] theorem setSeqr_flt (v : Seqr) : (s.setSeqr v).flt = s.flt := (rfl)
@[simp] theorem setSeqr_clk (v : Seqr) : (s.setSeqr v).clk = s.clk := (rfl)
@[simp] theorem setSeqr_pwr (v : Seqr) : (s.setSeqr v).pwr = s.pwr := (rfl)
@[simp] theorem setSeqr_rtc (v : Seqr) : (s.setSeqr v).rtc = s.rtc := (rfl)
@[simp] theorem setSeqr_wgl (v : Seqr) : (s.setSeqr v).wgl = s.wgl := (rfl)
@[simp] theorem setSeqr_mtr (v : Seqr) : (s.setSeqr v).mtr = s.mtr := (rfl)
@[simp] theorem setSeqr_thm (v : Seqr) : (s.setSeqr v).thm = s.thm := (rfl)
@[simp] theorem setSeqr_ldg (v : Seqr) : (s.setSeqr v).ldg = s.ldg := (rfl)
@[simp] theorem setSeqr_chg (v : Seqr) : (s.setSeqr v).chg = s.chg := (rfl)
@[simp] theorem setSeqr_est (v : Seqr) : (s.setSeqr v).est = s.est := (rfl)
@[simp] theorem setSeqr_can (v : Seqr) : (s.setSeqr v).can = s.can := (rfl)
@[simp] theorem setSeqr_tmr (v : Seqr) : (s.setSeqr v).tmr = s.tmr := (rfl)
@[simp] theorem setSeqr_wdg (v : Seqr) : (s.setSeqr v).wdg = s.wdg := (rfl)
@[simp] theorem setSeqr_nvm (v : Seqr) : (s.setSeqr v).nvm = s.nvm := (rfl)
@[simp] theorem setSeqr_tw1 (v : Seqr) : (s.setSeqr v).tw1 = s.tw1 := (rfl)
@[simp] theorem setSeqr_keyed (v : Seqr) : (s.setSeqr v).keyed = s.keyed := (rfl)
@[simp] theorem setSeqr_removals (v : Seqr) : (s.setSeqr v).removals = s.removals := (rfl)
@[simp] theorem setSeqr_seqr (v : Seqr) : (s.setSeqr v).seqr = v := (rfl)

@[simp] theorem setWgl_pending (v : Wgl) : (s.setWgl v).pending = s.pending := (rfl)
@[simp] theorem setWgl_regs (v : Wgl) : (s.setWgl v).regs = s.regs := (rfl)
@[simp] theorem setWgl_sram (v : Wgl) : (s.setWgl v).sram = s.sram := (rfl)
@[simp] theorem setWgl_mram (v : Wgl) : (s.setWgl v).mram = s.mram := (rfl)
@[simp] theorem setWgl_otp (v : Wgl) : (s.setWgl v).otp = s.otp := (rfl)
@[simp] theorem setWgl_staging (v : Wgl) : (s.setWgl v).staging = s.staging := (rfl)
@[simp] theorem setWgl_commits (v : Wgl) : (s.setWgl v).commits = s.commits := (rfl)
@[simp] theorem setWgl_joint (v : Wgl) : (s.setWgl v).joint = s.joint := (rfl)
@[simp] theorem setWgl_free (v : Wgl) : (s.setWgl v).free = s.free := (rfl)
@[simp] theorem setWgl_irq (v : Wgl) : (s.setWgl v).irq = s.irq := (rfl)
@[simp] theorem setWgl_port0 (v : Wgl) : (s.setWgl v).port0 = s.port0 := (rfl)
@[simp] theorem setWgl_port1 (v : Wgl) : (s.setWgl v).port1 = s.port1 := (rfl)
@[simp] theorem setWgl_caps (v : Wgl) : (s.setWgl v).caps = s.caps := (rfl)
@[simp] theorem setWgl_image (v : Wgl) : (s.setWgl v).image = s.image := (rfl)
@[simp] theorem setWgl_tiles (v : Wgl) : (s.setWgl v).tiles = s.tiles := (rfl)
@[simp] theorem setWgl_pub (v : Wgl) : (s.setWgl v).pub = s.pub := (rfl)
@[simp] theorem setWgl_rst (v : Wgl) : (s.setWgl v).rst = s.rst := (rfl)
@[simp] theorem setWgl_prp (v : Wgl) : (s.setWgl v).prp = s.prp := (rfl)
@[simp] theorem setWgl_cnv (v : Wgl) : (s.setWgl v).cnv = s.cnv := (rfl)
@[simp] theorem setWgl_prot (v : Wgl) : (s.setWgl v).prot = s.prot := (rfl)
@[simp] theorem setWgl_ord (v : Wgl) : (s.setWgl v).ord = s.ord := (rfl)
@[simp] theorem setWgl_sct (v : Wgl) : (s.setWgl v).sct = s.sct := (rfl)
@[simp] theorem setWgl_flt (v : Wgl) : (s.setWgl v).flt = s.flt := (rfl)
@[simp] theorem setWgl_clk (v : Wgl) : (s.setWgl v).clk = s.clk := (rfl)
@[simp] theorem setWgl_pwr (v : Wgl) : (s.setWgl v).pwr = s.pwr := (rfl)
@[simp] theorem setWgl_rtc (v : Wgl) : (s.setWgl v).rtc = s.rtc := (rfl)
@[simp] theorem setWgl_seqr (v : Wgl) : (s.setWgl v).seqr = s.seqr := (rfl)
@[simp] theorem setWgl_mtr (v : Wgl) : (s.setWgl v).mtr = s.mtr := (rfl)
@[simp] theorem setWgl_thm (v : Wgl) : (s.setWgl v).thm = s.thm := (rfl)
@[simp] theorem setWgl_ldg (v : Wgl) : (s.setWgl v).ldg = s.ldg := (rfl)
@[simp] theorem setWgl_chg (v : Wgl) : (s.setWgl v).chg = s.chg := (rfl)
@[simp] theorem setWgl_est (v : Wgl) : (s.setWgl v).est = s.est := (rfl)
@[simp] theorem setWgl_can (v : Wgl) : (s.setWgl v).can = s.can := (rfl)
@[simp] theorem setWgl_tmr (v : Wgl) : (s.setWgl v).tmr = s.tmr := (rfl)
@[simp] theorem setWgl_wdg (v : Wgl) : (s.setWgl v).wdg = s.wdg := (rfl)
@[simp] theorem setWgl_nvm (v : Wgl) : (s.setWgl v).nvm = s.nvm := (rfl)
@[simp] theorem setWgl_tw1 (v : Wgl) : (s.setWgl v).tw1 = s.tw1 := (rfl)
@[simp] theorem setWgl_keyed (v : Wgl) : (s.setWgl v).keyed = s.keyed := (rfl)
@[simp] theorem setWgl_removals (v : Wgl) : (s.setWgl v).removals = s.removals := (rfl)
@[simp] theorem setWgl_wgl (v : Wgl) : (s.setWgl v).wgl = v := (rfl)

@[simp] theorem setMtr_pending (v : Mtr) : (s.setMtr v).pending = s.pending := (rfl)
@[simp] theorem setMtr_regs (v : Mtr) : (s.setMtr v).regs = s.regs := (rfl)
@[simp] theorem setMtr_sram (v : Mtr) : (s.setMtr v).sram = s.sram := (rfl)
@[simp] theorem setMtr_mram (v : Mtr) : (s.setMtr v).mram = s.mram := (rfl)
@[simp] theorem setMtr_otp (v : Mtr) : (s.setMtr v).otp = s.otp := (rfl)
@[simp] theorem setMtr_staging (v : Mtr) : (s.setMtr v).staging = s.staging := (rfl)
@[simp] theorem setMtr_commits (v : Mtr) : (s.setMtr v).commits = s.commits := (rfl)
@[simp] theorem setMtr_joint (v : Mtr) : (s.setMtr v).joint = s.joint := (rfl)
@[simp] theorem setMtr_free (v : Mtr) : (s.setMtr v).free = s.free := (rfl)
@[simp] theorem setMtr_irq (v : Mtr) : (s.setMtr v).irq = s.irq := (rfl)
@[simp] theorem setMtr_port0 (v : Mtr) : (s.setMtr v).port0 = s.port0 := (rfl)
@[simp] theorem setMtr_port1 (v : Mtr) : (s.setMtr v).port1 = s.port1 := (rfl)
@[simp] theorem setMtr_caps (v : Mtr) : (s.setMtr v).caps = s.caps := (rfl)
@[simp] theorem setMtr_image (v : Mtr) : (s.setMtr v).image = s.image := (rfl)
@[simp] theorem setMtr_tiles (v : Mtr) : (s.setMtr v).tiles = s.tiles := (rfl)
@[simp] theorem setMtr_pub (v : Mtr) : (s.setMtr v).pub = s.pub := (rfl)
@[simp] theorem setMtr_rst (v : Mtr) : (s.setMtr v).rst = s.rst := (rfl)
@[simp] theorem setMtr_prp (v : Mtr) : (s.setMtr v).prp = s.prp := (rfl)
@[simp] theorem setMtr_cnv (v : Mtr) : (s.setMtr v).cnv = s.cnv := (rfl)
@[simp] theorem setMtr_prot (v : Mtr) : (s.setMtr v).prot = s.prot := (rfl)
@[simp] theorem setMtr_ord (v : Mtr) : (s.setMtr v).ord = s.ord := (rfl)
@[simp] theorem setMtr_sct (v : Mtr) : (s.setMtr v).sct = s.sct := (rfl)
@[simp] theorem setMtr_flt (v : Mtr) : (s.setMtr v).flt = s.flt := (rfl)
@[simp] theorem setMtr_clk (v : Mtr) : (s.setMtr v).clk = s.clk := (rfl)
@[simp] theorem setMtr_pwr (v : Mtr) : (s.setMtr v).pwr = s.pwr := (rfl)
@[simp] theorem setMtr_rtc (v : Mtr) : (s.setMtr v).rtc = s.rtc := (rfl)
@[simp] theorem setMtr_seqr (v : Mtr) : (s.setMtr v).seqr = s.seqr := (rfl)
@[simp] theorem setMtr_wgl (v : Mtr) : (s.setMtr v).wgl = s.wgl := (rfl)
@[simp] theorem setMtr_thm (v : Mtr) : (s.setMtr v).thm = s.thm := (rfl)
@[simp] theorem setMtr_ldg (v : Mtr) : (s.setMtr v).ldg = s.ldg := (rfl)
@[simp] theorem setMtr_chg (v : Mtr) : (s.setMtr v).chg = s.chg := (rfl)
@[simp] theorem setMtr_est (v : Mtr) : (s.setMtr v).est = s.est := (rfl)
@[simp] theorem setMtr_can (v : Mtr) : (s.setMtr v).can = s.can := (rfl)
@[simp] theorem setMtr_tmr (v : Mtr) : (s.setMtr v).tmr = s.tmr := (rfl)
@[simp] theorem setMtr_wdg (v : Mtr) : (s.setMtr v).wdg = s.wdg := (rfl)
@[simp] theorem setMtr_nvm (v : Mtr) : (s.setMtr v).nvm = s.nvm := (rfl)
@[simp] theorem setMtr_tw1 (v : Mtr) : (s.setMtr v).tw1 = s.tw1 := (rfl)
@[simp] theorem setMtr_keyed (v : Mtr) : (s.setMtr v).keyed = s.keyed := (rfl)
@[simp] theorem setMtr_removals (v : Mtr) : (s.setMtr v).removals = s.removals := (rfl)
@[simp] theorem setMtr_mtr (v : Mtr) : (s.setMtr v).mtr = v := (rfl)

@[simp] theorem setThm_pending (v : Thm) : (s.setThm v).pending = s.pending := (rfl)
@[simp] theorem setThm_regs (v : Thm) : (s.setThm v).regs = s.regs := (rfl)
@[simp] theorem setThm_sram (v : Thm) : (s.setThm v).sram = s.sram := (rfl)
@[simp] theorem setThm_mram (v : Thm) : (s.setThm v).mram = s.mram := (rfl)
@[simp] theorem setThm_otp (v : Thm) : (s.setThm v).otp = s.otp := (rfl)
@[simp] theorem setThm_staging (v : Thm) : (s.setThm v).staging = s.staging := (rfl)
@[simp] theorem setThm_commits (v : Thm) : (s.setThm v).commits = s.commits := (rfl)
@[simp] theorem setThm_joint (v : Thm) : (s.setThm v).joint = s.joint := (rfl)
@[simp] theorem setThm_free (v : Thm) : (s.setThm v).free = s.free := (rfl)
@[simp] theorem setThm_irq (v : Thm) : (s.setThm v).irq = s.irq := (rfl)
@[simp] theorem setThm_port0 (v : Thm) : (s.setThm v).port0 = s.port0 := (rfl)
@[simp] theorem setThm_port1 (v : Thm) : (s.setThm v).port1 = s.port1 := (rfl)
@[simp] theorem setThm_caps (v : Thm) : (s.setThm v).caps = s.caps := (rfl)
@[simp] theorem setThm_image (v : Thm) : (s.setThm v).image = s.image := (rfl)
@[simp] theorem setThm_tiles (v : Thm) : (s.setThm v).tiles = s.tiles := (rfl)
@[simp] theorem setThm_pub (v : Thm) : (s.setThm v).pub = s.pub := (rfl)
@[simp] theorem setThm_rst (v : Thm) : (s.setThm v).rst = s.rst := (rfl)
@[simp] theorem setThm_prp (v : Thm) : (s.setThm v).prp = s.prp := (rfl)
@[simp] theorem setThm_cnv (v : Thm) : (s.setThm v).cnv = s.cnv := (rfl)
@[simp] theorem setThm_prot (v : Thm) : (s.setThm v).prot = s.prot := (rfl)
@[simp] theorem setThm_ord (v : Thm) : (s.setThm v).ord = s.ord := (rfl)
@[simp] theorem setThm_sct (v : Thm) : (s.setThm v).sct = s.sct := (rfl)
@[simp] theorem setThm_flt (v : Thm) : (s.setThm v).flt = s.flt := (rfl)
@[simp] theorem setThm_clk (v : Thm) : (s.setThm v).clk = s.clk := (rfl)
@[simp] theorem setThm_pwr (v : Thm) : (s.setThm v).pwr = s.pwr := (rfl)
@[simp] theorem setThm_rtc (v : Thm) : (s.setThm v).rtc = s.rtc := (rfl)
@[simp] theorem setThm_seqr (v : Thm) : (s.setThm v).seqr = s.seqr := (rfl)
@[simp] theorem setThm_wgl (v : Thm) : (s.setThm v).wgl = s.wgl := (rfl)
@[simp] theorem setThm_mtr (v : Thm) : (s.setThm v).mtr = s.mtr := (rfl)
@[simp] theorem setThm_ldg (v : Thm) : (s.setThm v).ldg = s.ldg := (rfl)
@[simp] theorem setThm_chg (v : Thm) : (s.setThm v).chg = s.chg := (rfl)
@[simp] theorem setThm_est (v : Thm) : (s.setThm v).est = s.est := (rfl)
@[simp] theorem setThm_can (v : Thm) : (s.setThm v).can = s.can := (rfl)
@[simp] theorem setThm_tmr (v : Thm) : (s.setThm v).tmr = s.tmr := (rfl)
@[simp] theorem setThm_wdg (v : Thm) : (s.setThm v).wdg = s.wdg := (rfl)
@[simp] theorem setThm_nvm (v : Thm) : (s.setThm v).nvm = s.nvm := (rfl)
@[simp] theorem setThm_tw1 (v : Thm) : (s.setThm v).tw1 = s.tw1 := (rfl)
@[simp] theorem setThm_keyed (v : Thm) : (s.setThm v).keyed = s.keyed := (rfl)
@[simp] theorem setThm_removals (v : Thm) : (s.setThm v).removals = s.removals := (rfl)
@[simp] theorem setThm_thm (v : Thm) : (s.setThm v).thm = v := (rfl)

@[simp] theorem setLdg_pending (v : Ldg) : (s.setLdg v).pending = s.pending := (rfl)
@[simp] theorem setLdg_regs (v : Ldg) : (s.setLdg v).regs = s.regs := (rfl)
@[simp] theorem setLdg_sram (v : Ldg) : (s.setLdg v).sram = s.sram := (rfl)
@[simp] theorem setLdg_mram (v : Ldg) : (s.setLdg v).mram = s.mram := (rfl)
@[simp] theorem setLdg_otp (v : Ldg) : (s.setLdg v).otp = s.otp := (rfl)
@[simp] theorem setLdg_staging (v : Ldg) : (s.setLdg v).staging = s.staging := (rfl)
@[simp] theorem setLdg_commits (v : Ldg) : (s.setLdg v).commits = s.commits := (rfl)
@[simp] theorem setLdg_joint (v : Ldg) : (s.setLdg v).joint = s.joint := (rfl)
@[simp] theorem setLdg_free (v : Ldg) : (s.setLdg v).free = s.free := (rfl)
@[simp] theorem setLdg_irq (v : Ldg) : (s.setLdg v).irq = s.irq := (rfl)
@[simp] theorem setLdg_port0 (v : Ldg) : (s.setLdg v).port0 = s.port0 := (rfl)
@[simp] theorem setLdg_port1 (v : Ldg) : (s.setLdg v).port1 = s.port1 := (rfl)
@[simp] theorem setLdg_caps (v : Ldg) : (s.setLdg v).caps = s.caps := (rfl)
@[simp] theorem setLdg_image (v : Ldg) : (s.setLdg v).image = s.image := (rfl)
@[simp] theorem setLdg_tiles (v : Ldg) : (s.setLdg v).tiles = s.tiles := (rfl)
@[simp] theorem setLdg_pub (v : Ldg) : (s.setLdg v).pub = s.pub := (rfl)
@[simp] theorem setLdg_rst (v : Ldg) : (s.setLdg v).rst = s.rst := (rfl)
@[simp] theorem setLdg_prp (v : Ldg) : (s.setLdg v).prp = s.prp := (rfl)
@[simp] theorem setLdg_cnv (v : Ldg) : (s.setLdg v).cnv = s.cnv := (rfl)
@[simp] theorem setLdg_prot (v : Ldg) : (s.setLdg v).prot = s.prot := (rfl)
@[simp] theorem setLdg_ord (v : Ldg) : (s.setLdg v).ord = s.ord := (rfl)
@[simp] theorem setLdg_sct (v : Ldg) : (s.setLdg v).sct = s.sct := (rfl)
@[simp] theorem setLdg_flt (v : Ldg) : (s.setLdg v).flt = s.flt := (rfl)
@[simp] theorem setLdg_clk (v : Ldg) : (s.setLdg v).clk = s.clk := (rfl)
@[simp] theorem setLdg_pwr (v : Ldg) : (s.setLdg v).pwr = s.pwr := (rfl)
@[simp] theorem setLdg_rtc (v : Ldg) : (s.setLdg v).rtc = s.rtc := (rfl)
@[simp] theorem setLdg_seqr (v : Ldg) : (s.setLdg v).seqr = s.seqr := (rfl)
@[simp] theorem setLdg_wgl (v : Ldg) : (s.setLdg v).wgl = s.wgl := (rfl)
@[simp] theorem setLdg_mtr (v : Ldg) : (s.setLdg v).mtr = s.mtr := (rfl)
@[simp] theorem setLdg_thm (v : Ldg) : (s.setLdg v).thm = s.thm := (rfl)
@[simp] theorem setLdg_chg (v : Ldg) : (s.setLdg v).chg = s.chg := (rfl)
@[simp] theorem setLdg_est (v : Ldg) : (s.setLdg v).est = s.est := (rfl)
@[simp] theorem setLdg_can (v : Ldg) : (s.setLdg v).can = s.can := (rfl)
@[simp] theorem setLdg_tmr (v : Ldg) : (s.setLdg v).tmr = s.tmr := (rfl)
@[simp] theorem setLdg_wdg (v : Ldg) : (s.setLdg v).wdg = s.wdg := (rfl)
@[simp] theorem setLdg_nvm (v : Ldg) : (s.setLdg v).nvm = s.nvm := (rfl)
@[simp] theorem setLdg_tw1 (v : Ldg) : (s.setLdg v).tw1 = s.tw1 := (rfl)
@[simp] theorem setLdg_keyed (v : Ldg) : (s.setLdg v).keyed = s.keyed := (rfl)
@[simp] theorem setLdg_removals (v : Ldg) : (s.setLdg v).removals = s.removals := (rfl)
@[simp] theorem setLdg_ldg (v : Ldg) : (s.setLdg v).ldg = v := (rfl)

@[simp] theorem setChg_pending (v : Chg) : (s.setChg v).pending = s.pending := (rfl)
@[simp] theorem setChg_regs (v : Chg) : (s.setChg v).regs = s.regs := (rfl)
@[simp] theorem setChg_sram (v : Chg) : (s.setChg v).sram = s.sram := (rfl)
@[simp] theorem setChg_mram (v : Chg) : (s.setChg v).mram = s.mram := (rfl)
@[simp] theorem setChg_otp (v : Chg) : (s.setChg v).otp = s.otp := (rfl)
@[simp] theorem setChg_staging (v : Chg) : (s.setChg v).staging = s.staging := (rfl)
@[simp] theorem setChg_commits (v : Chg) : (s.setChg v).commits = s.commits := (rfl)
@[simp] theorem setChg_joint (v : Chg) : (s.setChg v).joint = s.joint := (rfl)
@[simp] theorem setChg_free (v : Chg) : (s.setChg v).free = s.free := (rfl)
@[simp] theorem setChg_irq (v : Chg) : (s.setChg v).irq = s.irq := (rfl)
@[simp] theorem setChg_port0 (v : Chg) : (s.setChg v).port0 = s.port0 := (rfl)
@[simp] theorem setChg_port1 (v : Chg) : (s.setChg v).port1 = s.port1 := (rfl)
@[simp] theorem setChg_caps (v : Chg) : (s.setChg v).caps = s.caps := (rfl)
@[simp] theorem setChg_image (v : Chg) : (s.setChg v).image = s.image := (rfl)
@[simp] theorem setChg_tiles (v : Chg) : (s.setChg v).tiles = s.tiles := (rfl)
@[simp] theorem setChg_pub (v : Chg) : (s.setChg v).pub = s.pub := (rfl)
@[simp] theorem setChg_rst (v : Chg) : (s.setChg v).rst = s.rst := (rfl)
@[simp] theorem setChg_prp (v : Chg) : (s.setChg v).prp = s.prp := (rfl)
@[simp] theorem setChg_cnv (v : Chg) : (s.setChg v).cnv = s.cnv := (rfl)
@[simp] theorem setChg_prot (v : Chg) : (s.setChg v).prot = s.prot := (rfl)
@[simp] theorem setChg_ord (v : Chg) : (s.setChg v).ord = s.ord := (rfl)
@[simp] theorem setChg_sct (v : Chg) : (s.setChg v).sct = s.sct := (rfl)
@[simp] theorem setChg_flt (v : Chg) : (s.setChg v).flt = s.flt := (rfl)
@[simp] theorem setChg_clk (v : Chg) : (s.setChg v).clk = s.clk := (rfl)
@[simp] theorem setChg_pwr (v : Chg) : (s.setChg v).pwr = s.pwr := (rfl)
@[simp] theorem setChg_rtc (v : Chg) : (s.setChg v).rtc = s.rtc := (rfl)
@[simp] theorem setChg_seqr (v : Chg) : (s.setChg v).seqr = s.seqr := (rfl)
@[simp] theorem setChg_wgl (v : Chg) : (s.setChg v).wgl = s.wgl := (rfl)
@[simp] theorem setChg_mtr (v : Chg) : (s.setChg v).mtr = s.mtr := (rfl)
@[simp] theorem setChg_thm (v : Chg) : (s.setChg v).thm = s.thm := (rfl)
@[simp] theorem setChg_ldg (v : Chg) : (s.setChg v).ldg = s.ldg := (rfl)
@[simp] theorem setChg_est (v : Chg) : (s.setChg v).est = s.est := (rfl)
@[simp] theorem setChg_can (v : Chg) : (s.setChg v).can = s.can := (rfl)
@[simp] theorem setChg_tmr (v : Chg) : (s.setChg v).tmr = s.tmr := (rfl)
@[simp] theorem setChg_wdg (v : Chg) : (s.setChg v).wdg = s.wdg := (rfl)
@[simp] theorem setChg_nvm (v : Chg) : (s.setChg v).nvm = s.nvm := (rfl)
@[simp] theorem setChg_tw1 (v : Chg) : (s.setChg v).tw1 = s.tw1 := (rfl)
@[simp] theorem setChg_keyed (v : Chg) : (s.setChg v).keyed = s.keyed := (rfl)
@[simp] theorem setChg_removals (v : Chg) : (s.setChg v).removals = s.removals := (rfl)
@[simp] theorem setChg_chg (v : Chg) : (s.setChg v).chg = v := (rfl)

@[simp] theorem setEst_pending (v : Est) : (s.setEst v).pending = s.pending := (rfl)
@[simp] theorem setEst_regs (v : Est) : (s.setEst v).regs = s.regs := (rfl)
@[simp] theorem setEst_sram (v : Est) : (s.setEst v).sram = s.sram := (rfl)
@[simp] theorem setEst_mram (v : Est) : (s.setEst v).mram = s.mram := (rfl)
@[simp] theorem setEst_otp (v : Est) : (s.setEst v).otp = s.otp := (rfl)
@[simp] theorem setEst_staging (v : Est) : (s.setEst v).staging = s.staging := (rfl)
@[simp] theorem setEst_commits (v : Est) : (s.setEst v).commits = s.commits := (rfl)
@[simp] theorem setEst_joint (v : Est) : (s.setEst v).joint = s.joint := (rfl)
@[simp] theorem setEst_free (v : Est) : (s.setEst v).free = s.free := (rfl)
@[simp] theorem setEst_irq (v : Est) : (s.setEst v).irq = s.irq := (rfl)
@[simp] theorem setEst_port0 (v : Est) : (s.setEst v).port0 = s.port0 := (rfl)
@[simp] theorem setEst_port1 (v : Est) : (s.setEst v).port1 = s.port1 := (rfl)
@[simp] theorem setEst_caps (v : Est) : (s.setEst v).caps = s.caps := (rfl)
@[simp] theorem setEst_image (v : Est) : (s.setEst v).image = s.image := (rfl)
@[simp] theorem setEst_tiles (v : Est) : (s.setEst v).tiles = s.tiles := (rfl)
@[simp] theorem setEst_pub (v : Est) : (s.setEst v).pub = s.pub := (rfl)
@[simp] theorem setEst_rst (v : Est) : (s.setEst v).rst = s.rst := (rfl)
@[simp] theorem setEst_prp (v : Est) : (s.setEst v).prp = s.prp := (rfl)
@[simp] theorem setEst_cnv (v : Est) : (s.setEst v).cnv = s.cnv := (rfl)
@[simp] theorem setEst_prot (v : Est) : (s.setEst v).prot = s.prot := (rfl)
@[simp] theorem setEst_ord (v : Est) : (s.setEst v).ord = s.ord := (rfl)
@[simp] theorem setEst_sct (v : Est) : (s.setEst v).sct = s.sct := (rfl)
@[simp] theorem setEst_flt (v : Est) : (s.setEst v).flt = s.flt := (rfl)
@[simp] theorem setEst_clk (v : Est) : (s.setEst v).clk = s.clk := (rfl)
@[simp] theorem setEst_pwr (v : Est) : (s.setEst v).pwr = s.pwr := (rfl)
@[simp] theorem setEst_rtc (v : Est) : (s.setEst v).rtc = s.rtc := (rfl)
@[simp] theorem setEst_seqr (v : Est) : (s.setEst v).seqr = s.seqr := (rfl)
@[simp] theorem setEst_wgl (v : Est) : (s.setEst v).wgl = s.wgl := (rfl)
@[simp] theorem setEst_mtr (v : Est) : (s.setEst v).mtr = s.mtr := (rfl)
@[simp] theorem setEst_thm (v : Est) : (s.setEst v).thm = s.thm := (rfl)
@[simp] theorem setEst_ldg (v : Est) : (s.setEst v).ldg = s.ldg := (rfl)
@[simp] theorem setEst_chg (v : Est) : (s.setEst v).chg = s.chg := (rfl)
@[simp] theorem setEst_can (v : Est) : (s.setEst v).can = s.can := (rfl)
@[simp] theorem setEst_tmr (v : Est) : (s.setEst v).tmr = s.tmr := (rfl)
@[simp] theorem setEst_wdg (v : Est) : (s.setEst v).wdg = s.wdg := (rfl)
@[simp] theorem setEst_nvm (v : Est) : (s.setEst v).nvm = s.nvm := (rfl)
@[simp] theorem setEst_tw1 (v : Est) : (s.setEst v).tw1 = s.tw1 := (rfl)
@[simp] theorem setEst_keyed (v : Est) : (s.setEst v).keyed = s.keyed := (rfl)
@[simp] theorem setEst_removals (v : Est) : (s.setEst v).removals = s.removals := (rfl)
@[simp] theorem setEst_est (v : Est) : (s.setEst v).est = v := (rfl)

@[simp] theorem setCan_pending (v : Can) : (s.setCan v).pending = s.pending := (rfl)
@[simp] theorem setCan_regs (v : Can) : (s.setCan v).regs = s.regs := (rfl)
@[simp] theorem setCan_sram (v : Can) : (s.setCan v).sram = s.sram := (rfl)
@[simp] theorem setCan_mram (v : Can) : (s.setCan v).mram = s.mram := (rfl)
@[simp] theorem setCan_otp (v : Can) : (s.setCan v).otp = s.otp := (rfl)
@[simp] theorem setCan_staging (v : Can) : (s.setCan v).staging = s.staging := (rfl)
@[simp] theorem setCan_commits (v : Can) : (s.setCan v).commits = s.commits := (rfl)
@[simp] theorem setCan_joint (v : Can) : (s.setCan v).joint = s.joint := (rfl)
@[simp] theorem setCan_free (v : Can) : (s.setCan v).free = s.free := (rfl)
@[simp] theorem setCan_irq (v : Can) : (s.setCan v).irq = s.irq := (rfl)
@[simp] theorem setCan_port0 (v : Can) : (s.setCan v).port0 = s.port0 := (rfl)
@[simp] theorem setCan_port1 (v : Can) : (s.setCan v).port1 = s.port1 := (rfl)
@[simp] theorem setCan_caps (v : Can) : (s.setCan v).caps = s.caps := (rfl)
@[simp] theorem setCan_image (v : Can) : (s.setCan v).image = s.image := (rfl)
@[simp] theorem setCan_tiles (v : Can) : (s.setCan v).tiles = s.tiles := (rfl)
@[simp] theorem setCan_pub (v : Can) : (s.setCan v).pub = s.pub := (rfl)
@[simp] theorem setCan_rst (v : Can) : (s.setCan v).rst = s.rst := (rfl)
@[simp] theorem setCan_prp (v : Can) : (s.setCan v).prp = s.prp := (rfl)
@[simp] theorem setCan_cnv (v : Can) : (s.setCan v).cnv = s.cnv := (rfl)
@[simp] theorem setCan_prot (v : Can) : (s.setCan v).prot = s.prot := (rfl)
@[simp] theorem setCan_ord (v : Can) : (s.setCan v).ord = s.ord := (rfl)
@[simp] theorem setCan_sct (v : Can) : (s.setCan v).sct = s.sct := (rfl)
@[simp] theorem setCan_flt (v : Can) : (s.setCan v).flt = s.flt := (rfl)
@[simp] theorem setCan_clk (v : Can) : (s.setCan v).clk = s.clk := (rfl)
@[simp] theorem setCan_pwr (v : Can) : (s.setCan v).pwr = s.pwr := (rfl)
@[simp] theorem setCan_rtc (v : Can) : (s.setCan v).rtc = s.rtc := (rfl)
@[simp] theorem setCan_seqr (v : Can) : (s.setCan v).seqr = s.seqr := (rfl)
@[simp] theorem setCan_wgl (v : Can) : (s.setCan v).wgl = s.wgl := (rfl)
@[simp] theorem setCan_mtr (v : Can) : (s.setCan v).mtr = s.mtr := (rfl)
@[simp] theorem setCan_thm (v : Can) : (s.setCan v).thm = s.thm := (rfl)
@[simp] theorem setCan_ldg (v : Can) : (s.setCan v).ldg = s.ldg := (rfl)
@[simp] theorem setCan_chg (v : Can) : (s.setCan v).chg = s.chg := (rfl)
@[simp] theorem setCan_est (v : Can) : (s.setCan v).est = s.est := (rfl)
@[simp] theorem setCan_tmr (v : Can) : (s.setCan v).tmr = s.tmr := (rfl)
@[simp] theorem setCan_wdg (v : Can) : (s.setCan v).wdg = s.wdg := (rfl)
@[simp] theorem setCan_nvm (v : Can) : (s.setCan v).nvm = s.nvm := (rfl)
@[simp] theorem setCan_tw1 (v : Can) : (s.setCan v).tw1 = s.tw1 := (rfl)
@[simp] theorem setCan_keyed (v : Can) : (s.setCan v).keyed = s.keyed := (rfl)
@[simp] theorem setCan_removals (v : Can) : (s.setCan v).removals = s.removals := (rfl)
@[simp] theorem setCan_can (v : Can) : (s.setCan v).can = v := (rfl)

@[simp] theorem setTmr_pending (v : KV TmrW) : (s.setTmr v).pending = s.pending := (rfl)
@[simp] theorem setTmr_regs (v : KV TmrW) : (s.setTmr v).regs = s.regs := (rfl)
@[simp] theorem setTmr_sram (v : KV TmrW) : (s.setTmr v).sram = s.sram := (rfl)
@[simp] theorem setTmr_mram (v : KV TmrW) : (s.setTmr v).mram = s.mram := (rfl)
@[simp] theorem setTmr_otp (v : KV TmrW) : (s.setTmr v).otp = s.otp := (rfl)
@[simp] theorem setTmr_staging (v : KV TmrW) : (s.setTmr v).staging = s.staging := (rfl)
@[simp] theorem setTmr_commits (v : KV TmrW) : (s.setTmr v).commits = s.commits := (rfl)
@[simp] theorem setTmr_joint (v : KV TmrW) : (s.setTmr v).joint = s.joint := (rfl)
@[simp] theorem setTmr_free (v : KV TmrW) : (s.setTmr v).free = s.free := (rfl)
@[simp] theorem setTmr_irq (v : KV TmrW) : (s.setTmr v).irq = s.irq := (rfl)
@[simp] theorem setTmr_port0 (v : KV TmrW) : (s.setTmr v).port0 = s.port0 := (rfl)
@[simp] theorem setTmr_port1 (v : KV TmrW) : (s.setTmr v).port1 = s.port1 := (rfl)
@[simp] theorem setTmr_caps (v : KV TmrW) : (s.setTmr v).caps = s.caps := (rfl)
@[simp] theorem setTmr_image (v : KV TmrW) : (s.setTmr v).image = s.image := (rfl)
@[simp] theorem setTmr_tiles (v : KV TmrW) : (s.setTmr v).tiles = s.tiles := (rfl)
@[simp] theorem setTmr_pub (v : KV TmrW) : (s.setTmr v).pub = s.pub := (rfl)
@[simp] theorem setTmr_rst (v : KV TmrW) : (s.setTmr v).rst = s.rst := (rfl)
@[simp] theorem setTmr_prp (v : KV TmrW) : (s.setTmr v).prp = s.prp := (rfl)
@[simp] theorem setTmr_cnv (v : KV TmrW) : (s.setTmr v).cnv = s.cnv := (rfl)
@[simp] theorem setTmr_prot (v : KV TmrW) : (s.setTmr v).prot = s.prot := (rfl)
@[simp] theorem setTmr_ord (v : KV TmrW) : (s.setTmr v).ord = s.ord := (rfl)
@[simp] theorem setTmr_sct (v : KV TmrW) : (s.setTmr v).sct = s.sct := (rfl)
@[simp] theorem setTmr_flt (v : KV TmrW) : (s.setTmr v).flt = s.flt := (rfl)
@[simp] theorem setTmr_clk (v : KV TmrW) : (s.setTmr v).clk = s.clk := (rfl)
@[simp] theorem setTmr_pwr (v : KV TmrW) : (s.setTmr v).pwr = s.pwr := (rfl)
@[simp] theorem setTmr_rtc (v : KV TmrW) : (s.setTmr v).rtc = s.rtc := (rfl)
@[simp] theorem setTmr_seqr (v : KV TmrW) : (s.setTmr v).seqr = s.seqr := (rfl)
@[simp] theorem setTmr_wgl (v : KV TmrW) : (s.setTmr v).wgl = s.wgl := (rfl)
@[simp] theorem setTmr_mtr (v : KV TmrW) : (s.setTmr v).mtr = s.mtr := (rfl)
@[simp] theorem setTmr_thm (v : KV TmrW) : (s.setTmr v).thm = s.thm := (rfl)
@[simp] theorem setTmr_ldg (v : KV TmrW) : (s.setTmr v).ldg = s.ldg := (rfl)
@[simp] theorem setTmr_chg (v : KV TmrW) : (s.setTmr v).chg = s.chg := (rfl)
@[simp] theorem setTmr_est (v : KV TmrW) : (s.setTmr v).est = s.est := (rfl)
@[simp] theorem setTmr_can (v : KV TmrW) : (s.setTmr v).can = s.can := (rfl)
@[simp] theorem setTmr_wdg (v : KV TmrW) : (s.setTmr v).wdg = s.wdg := (rfl)
@[simp] theorem setTmr_nvm (v : KV TmrW) : (s.setTmr v).nvm = s.nvm := (rfl)
@[simp] theorem setTmr_tw1 (v : KV TmrW) : (s.setTmr v).tw1 = s.tw1 := (rfl)
@[simp] theorem setTmr_keyed (v : KV TmrW) : (s.setTmr v).keyed = s.keyed := (rfl)
@[simp] theorem setTmr_removals (v : KV TmrW) : (s.setTmr v).removals = s.removals := (rfl)
@[simp] theorem setTmr_tmr (v : KV TmrW) : (s.setTmr v).tmr = v := (rfl)

@[simp] theorem setWdg_pending (v : KV Nat) : (s.setWdg v).pending = s.pending := (rfl)
@[simp] theorem setWdg_regs (v : KV Nat) : (s.setWdg v).regs = s.regs := (rfl)
@[simp] theorem setWdg_sram (v : KV Nat) : (s.setWdg v).sram = s.sram := (rfl)
@[simp] theorem setWdg_mram (v : KV Nat) : (s.setWdg v).mram = s.mram := (rfl)
@[simp] theorem setWdg_otp (v : KV Nat) : (s.setWdg v).otp = s.otp := (rfl)
@[simp] theorem setWdg_staging (v : KV Nat) : (s.setWdg v).staging = s.staging := (rfl)
@[simp] theorem setWdg_commits (v : KV Nat) : (s.setWdg v).commits = s.commits := (rfl)
@[simp] theorem setWdg_joint (v : KV Nat) : (s.setWdg v).joint = s.joint := (rfl)
@[simp] theorem setWdg_free (v : KV Nat) : (s.setWdg v).free = s.free := (rfl)
@[simp] theorem setWdg_irq (v : KV Nat) : (s.setWdg v).irq = s.irq := (rfl)
@[simp] theorem setWdg_port0 (v : KV Nat) : (s.setWdg v).port0 = s.port0 := (rfl)
@[simp] theorem setWdg_port1 (v : KV Nat) : (s.setWdg v).port1 = s.port1 := (rfl)
@[simp] theorem setWdg_caps (v : KV Nat) : (s.setWdg v).caps = s.caps := (rfl)
@[simp] theorem setWdg_image (v : KV Nat) : (s.setWdg v).image = s.image := (rfl)
@[simp] theorem setWdg_tiles (v : KV Nat) : (s.setWdg v).tiles = s.tiles := (rfl)
@[simp] theorem setWdg_pub (v : KV Nat) : (s.setWdg v).pub = s.pub := (rfl)
@[simp] theorem setWdg_rst (v : KV Nat) : (s.setWdg v).rst = s.rst := (rfl)
@[simp] theorem setWdg_prp (v : KV Nat) : (s.setWdg v).prp = s.prp := (rfl)
@[simp] theorem setWdg_cnv (v : KV Nat) : (s.setWdg v).cnv = s.cnv := (rfl)
@[simp] theorem setWdg_prot (v : KV Nat) : (s.setWdg v).prot = s.prot := (rfl)
@[simp] theorem setWdg_ord (v : KV Nat) : (s.setWdg v).ord = s.ord := (rfl)
@[simp] theorem setWdg_sct (v : KV Nat) : (s.setWdg v).sct = s.sct := (rfl)
@[simp] theorem setWdg_flt (v : KV Nat) : (s.setWdg v).flt = s.flt := (rfl)
@[simp] theorem setWdg_clk (v : KV Nat) : (s.setWdg v).clk = s.clk := (rfl)
@[simp] theorem setWdg_pwr (v : KV Nat) : (s.setWdg v).pwr = s.pwr := (rfl)
@[simp] theorem setWdg_rtc (v : KV Nat) : (s.setWdg v).rtc = s.rtc := (rfl)
@[simp] theorem setWdg_seqr (v : KV Nat) : (s.setWdg v).seqr = s.seqr := (rfl)
@[simp] theorem setWdg_wgl (v : KV Nat) : (s.setWdg v).wgl = s.wgl := (rfl)
@[simp] theorem setWdg_mtr (v : KV Nat) : (s.setWdg v).mtr = s.mtr := (rfl)
@[simp] theorem setWdg_thm (v : KV Nat) : (s.setWdg v).thm = s.thm := (rfl)
@[simp] theorem setWdg_ldg (v : KV Nat) : (s.setWdg v).ldg = s.ldg := (rfl)
@[simp] theorem setWdg_chg (v : KV Nat) : (s.setWdg v).chg = s.chg := (rfl)
@[simp] theorem setWdg_est (v : KV Nat) : (s.setWdg v).est = s.est := (rfl)
@[simp] theorem setWdg_can (v : KV Nat) : (s.setWdg v).can = s.can := (rfl)
@[simp] theorem setWdg_tmr (v : KV Nat) : (s.setWdg v).tmr = s.tmr := (rfl)
@[simp] theorem setWdg_nvm (v : KV Nat) : (s.setWdg v).nvm = s.nvm := (rfl)
@[simp] theorem setWdg_tw1 (v : KV Nat) : (s.setWdg v).tw1 = s.tw1 := (rfl)
@[simp] theorem setWdg_keyed (v : KV Nat) : (s.setWdg v).keyed = s.keyed := (rfl)
@[simp] theorem setWdg_removals (v : KV Nat) : (s.setWdg v).removals = s.removals := (rfl)
@[simp] theorem setWdg_wdg (v : KV Nat) : (s.setWdg v).wdg = v := (rfl)

@[simp] theorem setNvm_pending (v : Nvm) : (s.setNvm v).pending = s.pending := (rfl)
@[simp] theorem setNvm_regs (v : Nvm) : (s.setNvm v).regs = s.regs := (rfl)
@[simp] theorem setNvm_sram (v : Nvm) : (s.setNvm v).sram = s.sram := (rfl)
@[simp] theorem setNvm_mram (v : Nvm) : (s.setNvm v).mram = s.mram := (rfl)
@[simp] theorem setNvm_otp (v : Nvm) : (s.setNvm v).otp = s.otp := (rfl)
@[simp] theorem setNvm_staging (v : Nvm) : (s.setNvm v).staging = s.staging := (rfl)
@[simp] theorem setNvm_commits (v : Nvm) : (s.setNvm v).commits = s.commits := (rfl)
@[simp] theorem setNvm_joint (v : Nvm) : (s.setNvm v).joint = s.joint := (rfl)
@[simp] theorem setNvm_free (v : Nvm) : (s.setNvm v).free = s.free := (rfl)
@[simp] theorem setNvm_irq (v : Nvm) : (s.setNvm v).irq = s.irq := (rfl)
@[simp] theorem setNvm_port0 (v : Nvm) : (s.setNvm v).port0 = s.port0 := (rfl)
@[simp] theorem setNvm_port1 (v : Nvm) : (s.setNvm v).port1 = s.port1 := (rfl)
@[simp] theorem setNvm_caps (v : Nvm) : (s.setNvm v).caps = s.caps := (rfl)
@[simp] theorem setNvm_image (v : Nvm) : (s.setNvm v).image = s.image := (rfl)
@[simp] theorem setNvm_tiles (v : Nvm) : (s.setNvm v).tiles = s.tiles := (rfl)
@[simp] theorem setNvm_pub (v : Nvm) : (s.setNvm v).pub = s.pub := (rfl)
@[simp] theorem setNvm_rst (v : Nvm) : (s.setNvm v).rst = s.rst := (rfl)
@[simp] theorem setNvm_prp (v : Nvm) : (s.setNvm v).prp = s.prp := (rfl)
@[simp] theorem setNvm_cnv (v : Nvm) : (s.setNvm v).cnv = s.cnv := (rfl)
@[simp] theorem setNvm_prot (v : Nvm) : (s.setNvm v).prot = s.prot := (rfl)
@[simp] theorem setNvm_ord (v : Nvm) : (s.setNvm v).ord = s.ord := (rfl)
@[simp] theorem setNvm_sct (v : Nvm) : (s.setNvm v).sct = s.sct := (rfl)
@[simp] theorem setNvm_flt (v : Nvm) : (s.setNvm v).flt = s.flt := (rfl)
@[simp] theorem setNvm_clk (v : Nvm) : (s.setNvm v).clk = s.clk := (rfl)
@[simp] theorem setNvm_pwr (v : Nvm) : (s.setNvm v).pwr = s.pwr := (rfl)
@[simp] theorem setNvm_rtc (v : Nvm) : (s.setNvm v).rtc = s.rtc := (rfl)
@[simp] theorem setNvm_seqr (v : Nvm) : (s.setNvm v).seqr = s.seqr := (rfl)
@[simp] theorem setNvm_wgl (v : Nvm) : (s.setNvm v).wgl = s.wgl := (rfl)
@[simp] theorem setNvm_mtr (v : Nvm) : (s.setNvm v).mtr = s.mtr := (rfl)
@[simp] theorem setNvm_thm (v : Nvm) : (s.setNvm v).thm = s.thm := (rfl)
@[simp] theorem setNvm_ldg (v : Nvm) : (s.setNvm v).ldg = s.ldg := (rfl)
@[simp] theorem setNvm_chg (v : Nvm) : (s.setNvm v).chg = s.chg := (rfl)
@[simp] theorem setNvm_est (v : Nvm) : (s.setNvm v).est = s.est := (rfl)
@[simp] theorem setNvm_can (v : Nvm) : (s.setNvm v).can = s.can := (rfl)
@[simp] theorem setNvm_tmr (v : Nvm) : (s.setNvm v).tmr = s.tmr := (rfl)
@[simp] theorem setNvm_wdg (v : Nvm) : (s.setNvm v).wdg = s.wdg := (rfl)
@[simp] theorem setNvm_tw1 (v : Nvm) : (s.setNvm v).tw1 = s.tw1 := (rfl)
@[simp] theorem setNvm_keyed (v : Nvm) : (s.setNvm v).keyed = s.keyed := (rfl)
@[simp] theorem setNvm_removals (v : Nvm) : (s.setNvm v).removals = s.removals := (rfl)
@[simp] theorem setNvm_nvm (v : Nvm) : (s.setNvm v).nvm = v := (rfl)

@[simp] theorem setTw1_pending (v : Tw1) : (s.setTw1 v).pending = s.pending := (rfl)
@[simp] theorem setTw1_regs (v : Tw1) : (s.setTw1 v).regs = s.regs := (rfl)
@[simp] theorem setTw1_sram (v : Tw1) : (s.setTw1 v).sram = s.sram := (rfl)
@[simp] theorem setTw1_mram (v : Tw1) : (s.setTw1 v).mram = s.mram := (rfl)
@[simp] theorem setTw1_otp (v : Tw1) : (s.setTw1 v).otp = s.otp := (rfl)
@[simp] theorem setTw1_staging (v : Tw1) : (s.setTw1 v).staging = s.staging := (rfl)
@[simp] theorem setTw1_commits (v : Tw1) : (s.setTw1 v).commits = s.commits := (rfl)
@[simp] theorem setTw1_joint (v : Tw1) : (s.setTw1 v).joint = s.joint := (rfl)
@[simp] theorem setTw1_free (v : Tw1) : (s.setTw1 v).free = s.free := (rfl)
@[simp] theorem setTw1_irq (v : Tw1) : (s.setTw1 v).irq = s.irq := (rfl)
@[simp] theorem setTw1_port0 (v : Tw1) : (s.setTw1 v).port0 = s.port0 := (rfl)
@[simp] theorem setTw1_port1 (v : Tw1) : (s.setTw1 v).port1 = s.port1 := (rfl)
@[simp] theorem setTw1_caps (v : Tw1) : (s.setTw1 v).caps = s.caps := (rfl)
@[simp] theorem setTw1_image (v : Tw1) : (s.setTw1 v).image = s.image := (rfl)
@[simp] theorem setTw1_tiles (v : Tw1) : (s.setTw1 v).tiles = s.tiles := (rfl)
@[simp] theorem setTw1_pub (v : Tw1) : (s.setTw1 v).pub = s.pub := (rfl)
@[simp] theorem setTw1_rst (v : Tw1) : (s.setTw1 v).rst = s.rst := (rfl)
@[simp] theorem setTw1_prp (v : Tw1) : (s.setTw1 v).prp = s.prp := (rfl)
@[simp] theorem setTw1_cnv (v : Tw1) : (s.setTw1 v).cnv = s.cnv := (rfl)
@[simp] theorem setTw1_prot (v : Tw1) : (s.setTw1 v).prot = s.prot := (rfl)
@[simp] theorem setTw1_ord (v : Tw1) : (s.setTw1 v).ord = s.ord := (rfl)
@[simp] theorem setTw1_sct (v : Tw1) : (s.setTw1 v).sct = s.sct := (rfl)
@[simp] theorem setTw1_flt (v : Tw1) : (s.setTw1 v).flt = s.flt := (rfl)
@[simp] theorem setTw1_clk (v : Tw1) : (s.setTw1 v).clk = s.clk := (rfl)
@[simp] theorem setTw1_pwr (v : Tw1) : (s.setTw1 v).pwr = s.pwr := (rfl)
@[simp] theorem setTw1_rtc (v : Tw1) : (s.setTw1 v).rtc = s.rtc := (rfl)
@[simp] theorem setTw1_seqr (v : Tw1) : (s.setTw1 v).seqr = s.seqr := (rfl)
@[simp] theorem setTw1_wgl (v : Tw1) : (s.setTw1 v).wgl = s.wgl := (rfl)
@[simp] theorem setTw1_mtr (v : Tw1) : (s.setTw1 v).mtr = s.mtr := (rfl)
@[simp] theorem setTw1_thm (v : Tw1) : (s.setTw1 v).thm = s.thm := (rfl)
@[simp] theorem setTw1_ldg (v : Tw1) : (s.setTw1 v).ldg = s.ldg := (rfl)
@[simp] theorem setTw1_chg (v : Tw1) : (s.setTw1 v).chg = s.chg := (rfl)
@[simp] theorem setTw1_est (v : Tw1) : (s.setTw1 v).est = s.est := (rfl)
@[simp] theorem setTw1_can (v : Tw1) : (s.setTw1 v).can = s.can := (rfl)
@[simp] theorem setTw1_tmr (v : Tw1) : (s.setTw1 v).tmr = s.tmr := (rfl)
@[simp] theorem setTw1_wdg (v : Tw1) : (s.setTw1 v).wdg = s.wdg := (rfl)
@[simp] theorem setTw1_nvm (v : Tw1) : (s.setTw1 v).nvm = s.nvm := (rfl)
@[simp] theorem setTw1_keyed (v : Tw1) : (s.setTw1 v).keyed = s.keyed := (rfl)
@[simp] theorem setTw1_removals (v : Tw1) : (s.setTw1 v).removals = s.removals := (rfl)
@[simp] theorem setTw1_tw1 (v : Tw1) : (s.setTw1 v).tw1 = v := (rfl)

@[simp] theorem setKeyed_pending (v : List Nat) : (s.setKeyed v).pending = s.pending := (rfl)
@[simp] theorem setKeyed_regs (v : List Nat) : (s.setKeyed v).regs = s.regs := (rfl)
@[simp] theorem setKeyed_sram (v : List Nat) : (s.setKeyed v).sram = s.sram := (rfl)
@[simp] theorem setKeyed_mram (v : List Nat) : (s.setKeyed v).mram = s.mram := (rfl)
@[simp] theorem setKeyed_otp (v : List Nat) : (s.setKeyed v).otp = s.otp := (rfl)
@[simp] theorem setKeyed_staging (v : List Nat) : (s.setKeyed v).staging = s.staging := (rfl)
@[simp] theorem setKeyed_commits (v : List Nat) : (s.setKeyed v).commits = s.commits := (rfl)
@[simp] theorem setKeyed_joint (v : List Nat) : (s.setKeyed v).joint = s.joint := (rfl)
@[simp] theorem setKeyed_free (v : List Nat) : (s.setKeyed v).free = s.free := (rfl)
@[simp] theorem setKeyed_irq (v : List Nat) : (s.setKeyed v).irq = s.irq := (rfl)
@[simp] theorem setKeyed_port0 (v : List Nat) : (s.setKeyed v).port0 = s.port0 := (rfl)
@[simp] theorem setKeyed_port1 (v : List Nat) : (s.setKeyed v).port1 = s.port1 := (rfl)
@[simp] theorem setKeyed_caps (v : List Nat) : (s.setKeyed v).caps = s.caps := (rfl)
@[simp] theorem setKeyed_image (v : List Nat) : (s.setKeyed v).image = s.image := (rfl)
@[simp] theorem setKeyed_tiles (v : List Nat) : (s.setKeyed v).tiles = s.tiles := (rfl)
@[simp] theorem setKeyed_pub (v : List Nat) : (s.setKeyed v).pub = s.pub := (rfl)
@[simp] theorem setKeyed_rst (v : List Nat) : (s.setKeyed v).rst = s.rst := (rfl)
@[simp] theorem setKeyed_prp (v : List Nat) : (s.setKeyed v).prp = s.prp := (rfl)
@[simp] theorem setKeyed_cnv (v : List Nat) : (s.setKeyed v).cnv = s.cnv := (rfl)
@[simp] theorem setKeyed_prot (v : List Nat) : (s.setKeyed v).prot = s.prot := (rfl)
@[simp] theorem setKeyed_ord (v : List Nat) : (s.setKeyed v).ord = s.ord := (rfl)
@[simp] theorem setKeyed_sct (v : List Nat) : (s.setKeyed v).sct = s.sct := (rfl)
@[simp] theorem setKeyed_flt (v : List Nat) : (s.setKeyed v).flt = s.flt := (rfl)
@[simp] theorem setKeyed_clk (v : List Nat) : (s.setKeyed v).clk = s.clk := (rfl)
@[simp] theorem setKeyed_pwr (v : List Nat) : (s.setKeyed v).pwr = s.pwr := (rfl)
@[simp] theorem setKeyed_rtc (v : List Nat) : (s.setKeyed v).rtc = s.rtc := (rfl)
@[simp] theorem setKeyed_seqr (v : List Nat) : (s.setKeyed v).seqr = s.seqr := (rfl)
@[simp] theorem setKeyed_wgl (v : List Nat) : (s.setKeyed v).wgl = s.wgl := (rfl)
@[simp] theorem setKeyed_mtr (v : List Nat) : (s.setKeyed v).mtr = s.mtr := (rfl)
@[simp] theorem setKeyed_thm (v : List Nat) : (s.setKeyed v).thm = s.thm := (rfl)
@[simp] theorem setKeyed_ldg (v : List Nat) : (s.setKeyed v).ldg = s.ldg := (rfl)
@[simp] theorem setKeyed_chg (v : List Nat) : (s.setKeyed v).chg = s.chg := (rfl)
@[simp] theorem setKeyed_est (v : List Nat) : (s.setKeyed v).est = s.est := (rfl)
@[simp] theorem setKeyed_can (v : List Nat) : (s.setKeyed v).can = s.can := (rfl)
@[simp] theorem setKeyed_tmr (v : List Nat) : (s.setKeyed v).tmr = s.tmr := (rfl)
@[simp] theorem setKeyed_wdg (v : List Nat) : (s.setKeyed v).wdg = s.wdg := (rfl)
@[simp] theorem setKeyed_nvm (v : List Nat) : (s.setKeyed v).nvm = s.nvm := (rfl)
@[simp] theorem setKeyed_tw1 (v : List Nat) : (s.setKeyed v).tw1 = s.tw1 := (rfl)
@[simp] theorem setKeyed_removals (v : List Nat) : (s.setKeyed v).removals = s.removals := (rfl)
@[simp] theorem setKeyed_keyed (v : List Nat) : (s.setKeyed v).keyed = v := (rfl)

@[simp] theorem setRemovals_pending (v : List Removal) : (s.setRemovals v).pending = s.pending := (rfl)
@[simp] theorem setRemovals_regs (v : List Removal) : (s.setRemovals v).regs = s.regs := (rfl)
@[simp] theorem setRemovals_sram (v : List Removal) : (s.setRemovals v).sram = s.sram := (rfl)
@[simp] theorem setRemovals_mram (v : List Removal) : (s.setRemovals v).mram = s.mram := (rfl)
@[simp] theorem setRemovals_otp (v : List Removal) : (s.setRemovals v).otp = s.otp := (rfl)
@[simp] theorem setRemovals_staging (v : List Removal) : (s.setRemovals v).staging = s.staging := (rfl)
@[simp] theorem setRemovals_commits (v : List Removal) : (s.setRemovals v).commits = s.commits := (rfl)
@[simp] theorem setRemovals_joint (v : List Removal) : (s.setRemovals v).joint = s.joint := (rfl)
@[simp] theorem setRemovals_free (v : List Removal) : (s.setRemovals v).free = s.free := (rfl)
@[simp] theorem setRemovals_irq (v : List Removal) : (s.setRemovals v).irq = s.irq := (rfl)
@[simp] theorem setRemovals_port0 (v : List Removal) : (s.setRemovals v).port0 = s.port0 := (rfl)
@[simp] theorem setRemovals_port1 (v : List Removal) : (s.setRemovals v).port1 = s.port1 := (rfl)
@[simp] theorem setRemovals_caps (v : List Removal) : (s.setRemovals v).caps = s.caps := (rfl)
@[simp] theorem setRemovals_image (v : List Removal) : (s.setRemovals v).image = s.image := (rfl)
@[simp] theorem setRemovals_tiles (v : List Removal) : (s.setRemovals v).tiles = s.tiles := (rfl)
@[simp] theorem setRemovals_pub (v : List Removal) : (s.setRemovals v).pub = s.pub := (rfl)
@[simp] theorem setRemovals_rst (v : List Removal) : (s.setRemovals v).rst = s.rst := (rfl)
@[simp] theorem setRemovals_prp (v : List Removal) : (s.setRemovals v).prp = s.prp := (rfl)
@[simp] theorem setRemovals_cnv (v : List Removal) : (s.setRemovals v).cnv = s.cnv := (rfl)
@[simp] theorem setRemovals_prot (v : List Removal) : (s.setRemovals v).prot = s.prot := (rfl)
@[simp] theorem setRemovals_ord (v : List Removal) : (s.setRemovals v).ord = s.ord := (rfl)
@[simp] theorem setRemovals_sct (v : List Removal) : (s.setRemovals v).sct = s.sct := (rfl)
@[simp] theorem setRemovals_flt (v : List Removal) : (s.setRemovals v).flt = s.flt := (rfl)
@[simp] theorem setRemovals_clk (v : List Removal) : (s.setRemovals v).clk = s.clk := (rfl)
@[simp] theorem setRemovals_pwr (v : List Removal) : (s.setRemovals v).pwr = s.pwr := (rfl)
@[simp] theorem setRemovals_rtc (v : List Removal) : (s.setRemovals v).rtc = s.rtc := (rfl)
@[simp] theorem setRemovals_seqr (v : List Removal) : (s.setRemovals v).seqr = s.seqr := (rfl)
@[simp] theorem setRemovals_wgl (v : List Removal) : (s.setRemovals v).wgl = s.wgl := (rfl)
@[simp] theorem setRemovals_mtr (v : List Removal) : (s.setRemovals v).mtr = s.mtr := (rfl)
@[simp] theorem setRemovals_thm (v : List Removal) : (s.setRemovals v).thm = s.thm := (rfl)
@[simp] theorem setRemovals_ldg (v : List Removal) : (s.setRemovals v).ldg = s.ldg := (rfl)
@[simp] theorem setRemovals_chg (v : List Removal) : (s.setRemovals v).chg = s.chg := (rfl)
@[simp] theorem setRemovals_est (v : List Removal) : (s.setRemovals v).est = s.est := (rfl)
@[simp] theorem setRemovals_can (v : List Removal) : (s.setRemovals v).can = s.can := (rfl)
@[simp] theorem setRemovals_tmr (v : List Removal) : (s.setRemovals v).tmr = s.tmr := (rfl)
@[simp] theorem setRemovals_wdg (v : List Removal) : (s.setRemovals v).wdg = s.wdg := (rfl)
@[simp] theorem setRemovals_nvm (v : List Removal) : (s.setRemovals v).nvm = s.nvm := (rfl)
@[simp] theorem setRemovals_tw1 (v : List Removal) : (s.setRemovals v).tw1 = s.tw1 := (rfl)
@[simp] theorem setRemovals_keyed (v : List Removal) : (s.setRemovals v).keyed = s.keyed := (rfl)
@[simp] theorem setRemovals_removals (v : List Removal) : (s.setRemovals v).removals = v := (rfl)

/-! A source set pending changes the latches only. -/
@[simp] theorem State.raise_pending (ev : Nat) : (s.raise ev).pending = s.pending := by unfold State.raise; split <;> simp
@[simp] theorem State.raise_regs (ev : Nat) : (s.raise ev).regs = s.regs := by unfold State.raise; split <;> simp
@[simp] theorem State.raise_sram (ev : Nat) : (s.raise ev).sram = s.sram := by unfold State.raise; split <;> simp
@[simp] theorem State.raise_mram (ev : Nat) : (s.raise ev).mram = s.mram := by unfold State.raise; split <;> simp
@[simp] theorem State.raise_otp (ev : Nat) : (s.raise ev).otp = s.otp := by unfold State.raise; split <;> simp
@[simp] theorem State.raise_staging (ev : Nat) : (s.raise ev).staging = s.staging := by unfold State.raise; split <;> simp
@[simp] theorem State.raise_commits (ev : Nat) : (s.raise ev).commits = s.commits := by unfold State.raise; split <;> simp
@[simp] theorem State.raise_joint (ev : Nat) : (s.raise ev).joint = s.joint := by unfold State.raise; split <;> simp
@[simp] theorem State.raise_free (ev : Nat) : (s.raise ev).free = s.free := by unfold State.raise; split <;> simp
@[simp] theorem State.raise_port0 (ev : Nat) : (s.raise ev).port0 = s.port0 := by unfold State.raise; split <;> simp
@[simp] theorem State.raise_port1 (ev : Nat) : (s.raise ev).port1 = s.port1 := by unfold State.raise; split <;> simp
@[simp] theorem State.raise_caps (ev : Nat) : (s.raise ev).caps = s.caps := by unfold State.raise; split <;> simp
@[simp] theorem State.raise_image (ev : Nat) : (s.raise ev).image = s.image := by unfold State.raise; split <;> simp
@[simp] theorem State.raise_tiles (ev : Nat) : (s.raise ev).tiles = s.tiles := by unfold State.raise; split <;> simp
@[simp] theorem State.raise_pub (ev : Nat) : (s.raise ev).pub = s.pub := by unfold State.raise; split <;> simp
@[simp] theorem State.raise_rst (ev : Nat) : (s.raise ev).rst = s.rst := by unfold State.raise; split <;> simp
@[simp] theorem State.raise_prp (ev : Nat) : (s.raise ev).prp = s.prp := by unfold State.raise; split <;> simp
@[simp] theorem State.raise_cnv (ev : Nat) : (s.raise ev).cnv = s.cnv := by unfold State.raise; split <;> simp
@[simp] theorem State.raise_prot (ev : Nat) : (s.raise ev).prot = s.prot := by unfold State.raise; split <;> simp
@[simp] theorem State.raise_ord (ev : Nat) : (s.raise ev).ord = s.ord := by unfold State.raise; split <;> simp
@[simp] theorem State.raise_sct (ev : Nat) : (s.raise ev).sct = s.sct := by unfold State.raise; split <;> simp
@[simp] theorem State.raise_flt (ev : Nat) : (s.raise ev).flt = s.flt := by unfold State.raise; split <;> simp
@[simp] theorem State.raise_clk (ev : Nat) : (s.raise ev).clk = s.clk := by unfold State.raise; split <;> simp
@[simp] theorem State.raise_pwr (ev : Nat) : (s.raise ev).pwr = s.pwr := by unfold State.raise; split <;> simp
@[simp] theorem State.raise_rtc (ev : Nat) : (s.raise ev).rtc = s.rtc := by unfold State.raise; split <;> simp
@[simp] theorem State.raise_seqr (ev : Nat) : (s.raise ev).seqr = s.seqr := by unfold State.raise; split <;> simp
@[simp] theorem State.raise_wgl (ev : Nat) : (s.raise ev).wgl = s.wgl := by unfold State.raise; split <;> simp
@[simp] theorem State.raise_mtr (ev : Nat) : (s.raise ev).mtr = s.mtr := by unfold State.raise; split <;> simp
@[simp] theorem State.raise_thm (ev : Nat) : (s.raise ev).thm = s.thm := by unfold State.raise; split <;> simp
@[simp] theorem State.raise_ldg (ev : Nat) : (s.raise ev).ldg = s.ldg := by unfold State.raise; split <;> simp
@[simp] theorem State.raise_chg (ev : Nat) : (s.raise ev).chg = s.chg := by unfold State.raise; split <;> simp
@[simp] theorem State.raise_est (ev : Nat) : (s.raise ev).est = s.est := by unfold State.raise; split <;> simp
@[simp] theorem State.raise_can (ev : Nat) : (s.raise ev).can = s.can := by unfold State.raise; split <;> simp
@[simp] theorem State.raise_tmr (ev : Nat) : (s.raise ev).tmr = s.tmr := by unfold State.raise; split <;> simp
@[simp] theorem State.raise_wdg (ev : Nat) : (s.raise ev).wdg = s.wdg := by unfold State.raise; split <;> simp
@[simp] theorem State.raise_nvm (ev : Nat) : (s.raise ev).nvm = s.nvm := by unfold State.raise; split <;> simp
@[simp] theorem State.raise_tw1 (ev : Nat) : (s.raise ev).tw1 = s.tw1 := by unfold State.raise; split <;> simp
@[simp] theorem State.raise_keyed (ev : Nat) : (s.raise ev).keyed = s.keyed := by unfold State.raise; split <;> simp
@[simp] theorem State.raise_removals (ev : Nat) : (s.raise ev).removals = s.removals := by unfold State.raise; split <;> simp

theorem State.raise_latch (ev : Nat) :
    (s.raise ev).irq = { s.irq with latch := if eventReserved ev then s.irq.latch else s.irq.latch ||| 2 ^ ev } := by
  unfold State.raise; split <;> simp

@[simp] theorem State.driveLine_lines (n : Nat) : (s.driveLine n).flt.lines = s.flt.lines ++ [n] := (rfl)

end Sys2Proof.Machine
end

