-- ==== Sys2Proof/Laws/Registers.lean ====
section
/-! SUPPORT. Registers and their fields: what a read answers after a write, and that the memories keep their form. -/
namespace Sys2Proof.Machine

variable (s : State)

/-! ### Words -/

@[simp] theorem rd_wr_same (a : Nat) (v : Word) : (s.wr a v).rd a = v := kvGet_set_same _ _ _ _

theorem rd_wr_other (a b : Nat) (v : Word) (h : b ≠ a) : (s.wr a v).rd b = s.rd b := kvGet_set_other _ _ _ _ _ h

theorem rd_wr (a b : Nat) (v : Word) : (s.wr a v).rd b = if b = a then v else s.rd b := kvGet_set _ _ _ _ _

/-- A register reads alike in states with the same register words. -/
theorem rd_congr {s t : State} (h : t.regs = s.regs) (a : Nat) : t.rd a = s.rd a := by unfold State.rd; rw [h]

theorem fg_congr {s t : State} (h : t.regs = s.regs) (f : Fld) : t.fg f = s.fg f := by unfold State.fg; rw [rd_congr h]

/-! ### Fields -/

theorem fldOf_lt (w : Word) (lo n : Nat) : fldOf w lo n < 2 ^ n := Nat.mod_lt _ (by positivity)

/-- A number cut at the ends of a bit field. -/
theorem fld_split (w lo n : Nat) : ∃ a b c, a < 2 ^ lo ∧ b < 2 ^ n ∧ w = a + 2 ^ lo * (b + 2 ^ n * c) ∧
    w / 2 ^ lo % 2 ^ n = b ∧ c = w / 2 ^ (lo + n) ∧ a = w % 2 ^ lo := by
  refine ⟨w % 2 ^ lo, w / 2 ^ lo % 2 ^ n, w / 2 ^ lo / 2 ^ n, Nat.mod_lt _ (by positivity), Nat.mod_lt _ (by positivity),
    ?_, rfl, ?_, rfl⟩
  · rw [Nat.mod_add_div, Nat.mod_add_div]
  · rw [Nat.div_div_eq_div_mul, ← pow_add]

theorem fldPut_toNat (w : Word) (lo n v : Nat) (h : lo + n ≤ 32) :
    (fldPut w lo n v).toNat = w.toNat % 2 ^ lo + 2 ^ lo * (v % 2 ^ n + 2 ^ n * (w.toNat / 2 ^ (lo + n))) := by
  obtain ⟨a, b, c, ha, hb, e, eb, ec, ea⟩ := fld_split w.toNat lo n
  have hw := w.isLt
  have hc : c < 2 ^ (32 - (lo + n)) := by
    rw [ec, Nat.div_lt_iff_lt_mul (by positivity), ← pow_add, Nat.sub_add_cancel h]; exact hw
  have hv : v % 2 ^ n < 2 ^ n := Nat.mod_lt _ (by positivity)
  have hs : a + 2 ^ lo * (v % 2 ^ n + 2 ^ n * c) < 2 ^ 32 := by
    have h1 : v % 2 ^ n + 2 ^ n * c + 1 ≤ 2 ^ n * 2 ^ (32 - (lo + n)) := by
      calc v % 2 ^ n + 2 ^ n * c + 1 ≤ 2 ^ n + 2 ^ n * c := by omega
        _ = 2 ^ n * (c + 1) := by ring
        _ ≤ _ := Nat.mul_le_mul_left _ hc
    have h2 : 2 ^ lo * (v % 2 ^ n + 2 ^ n * c + 1) ≤ 2 ^ lo * (2 ^ n * 2 ^ (32 - (lo + n))) := Nat.mul_le_mul_left _ h1
    have h3 : 2 ^ lo * (2 ^ n * 2 ^ (32 - (lo + n))) = 2 ^ 32 := by
      rw [← mul_assoc, ← pow_add, ← pow_add, Nat.add_sub_cancel' h]
    rw [h3, Nat.mul_add (2 ^ lo)] at h2
    omega
  have e2 : w.toNat - fldOf w lo n * 2 ^ lo + v % 2 ^ n * 2 ^ lo = a + 2 ^ lo * (v % 2 ^ n + 2 ^ n * c) := by
    have : fldOf w lo n = b := eb
    rw [this, e]
    have : a + 2 ^ lo * (b + 2 ^ n * c) - b * 2 ^ lo = a + 2 ^ lo * (2 ^ n * c) := by
      rw [Nat.mul_add, Nat.mul_comm b]; omega
    rw [this]; ring
  unfold fldPut
  rw [e2, BitVec.toNat_ofNat, Nat.mod_eq_of_lt hs, ea, ec]

/-- A field holds what was put into it. -/
theorem fldOf_put (w : Word) (lo n v : Nat) (h : lo + n ≤ 32) : fldOf (fldPut w lo n v) lo n = v % 2 ^ n := by
  unfold fldOf
  rw [fldPut_toNat w lo n v h, Nat.add_mul_div_left _ _ (by positivity), Nat.div_eq_of_lt (Nat.mod_lt _ (by positivity)),
    Nat.zero_add, Nat.add_mul_mod_self_left, Nat.mod_mod]

/-- A field that shares no bit with the one written keeps its value. -/
theorem fldOf_put_other (w : Word) (lo n v lo' n' : Nat) (h : lo + n ≤ 32) (hd : lo' + n' ≤ lo ∨ lo + n ≤ lo') :
    fldOf (fldPut w lo n v) lo' n' = fldOf w lo' n' := by
  unfold fldOf
  rw [fldPut_toNat w lo n v h]
  rcases hd with hd | hd
  · have low : ∀ x y : Nat, x % 2 ^ lo = y % 2 ^ lo → x / 2 ^ lo' % 2 ^ n' = y / 2 ^ lo' % 2 ^ n' := by
      intro x y e
      have f : ∀ z : Nat, z / 2 ^ lo' % 2 ^ n' = z % 2 ^ lo / 2 ^ lo' % 2 ^ n' := by
        intro z
        rw [← Nat.mod_mul_right_div_self, ← Nat.mod_mul_right_div_self, ← pow_add,
          Nat.mod_mod_of_dvd _ (pow_dvd_pow 2 hd)]
      rw [f x, f y, e]
    exact low _ _ (by rw [Nat.add_mul_mod_self_left, Nat.mod_mod])
  · have high : ∀ x y : Nat, x / 2 ^ (lo + n) = y / 2 ^ (lo + n) → x / 2 ^ lo' % 2 ^ n' = y / 2 ^ lo' % 2 ^ n' := by
      intro x y e
      have f : ∀ z : Nat, z / 2 ^ lo' = z / 2 ^ (lo + n) / 2 ^ (lo' - (lo + n)) := by
        intro z
        rw [Nat.div_div_eq_div_mul, ← pow_add, Nat.add_sub_cancel' hd]
      rw [f x, f y, e]
    refine high _ _ ?_
    rw [pow_add, ← Nat.div_div_eq_div_mul, Nat.add_mul_div_left _ _ (by positivity),
      Nat.div_eq_of_lt (Nat.mod_lt _ (by positivity)), Nat.zero_add, Nat.add_mul_div_left _ _ (by positivity),
      Nat.div_eq_of_lt (Nat.mod_lt _ (by positivity)), Nat.zero_add]

/-- A field whose value is put back leaves the word as it was. -/
theorem fldPut_self (w : Word) (lo n : Nat) (h : lo + n ≤ 32) : fldPut w lo n (fldOf w lo n) = w := by
  apply BitVec.eq_of_toNat_eq
  rw [fldPut_toNat w lo n _ h]
  obtain ⟨a, b, c, ha, hb, e, eb, ec, ea⟩ := fld_split w.toNat lo n
  have : fldOf w lo n = b := eb
  rw [this, Nat.mod_eq_of_lt hb, ← ec, ← ea]
  exact e.symm

theorem fg_fs_same (f : Fld) (v : Nat) (h : f.lo + f.width ≤ 32) : (s.fs f v).fg f = v % 2 ^ f.width := by
  unfold State.fg State.fs
  rw [rd_wr_same, fldOf_put _ _ _ _ h]

theorem rd_fs_other (f : Fld) (v a : Nat) (h : a ≠ f.addr) : (s.fs f v).rd a = s.rd a := rd_wr_other _ _ _ _ h

theorem rd_fs_same (f : Fld) (v : Nat) : (s.fs f v).rd f.addr = fldPut (s.rd f.addr) f.lo f.width v := rd_wr_same _ _ _

theorem rd_fs (f : Fld) (v a : Nat) :
    (s.fs f v).rd a = if a = f.addr then fldPut (s.rd f.addr) f.lo f.width v else s.rd a := rd_wr _ _ _ _

theorem fg_fs_addr (f g : Fld) (v : Nat) (h : g.addr ≠ f.addr) : (s.fs f v).fg g = s.fg g := by
  unfold State.fg
  rw [rd_fs_other _ _ _ _ h]

/-- A field write leaves every field that shares no bit with it as it was. -/
theorem fg_fs_other (f g : Fld) (v : Nat) (hf : f.lo + f.width ≤ 32)
    (h : g.addr ≠ f.addr ∨ g.lo + g.width ≤ f.lo ∨ f.lo + f.width ≤ g.lo) : (s.fs f v).fg g = s.fg g := by
  by_cases e : g.addr = f.addr
  · unfold State.fg
    rw [e, rd_fs_same, fldOf_put_other _ _ _ _ _ _ hf (by tauto)]
  · exact fg_fs_addr s f g v e

theorem fg_wr_other (a : Nat) (v : Word) (f : Fld) (h : f.addr ≠ a) : (s.wr a v).fg f = s.fg f := by
  unfold State.fg
  rw [rd_wr_other _ _ _ _ h]

theorem fb_of_fg {s t : State} (f : Fld) (h : t.fg f = s.fg f) : t.fb f = s.fb f := by unfold State.fb; rw [h]

/-! ### Memories -/

theorem sramByte_set (a b : Nat) (v : Byte) : (s.setSramByte a v).sramByte b = if b = a then v else s.sramByte b :=
  kvGet_set _ _ _ _ _

theorem mramByte_set (a b : Nat) (v : Byte) : (s.setMramByte a v).mramByte b = if b = a then v else s.mramByte b :=
  kvGet_set _ _ _ _ _

theorem otpWord_set (a b : Nat) (v : Word) : (s.setOtpWord a v).otpWord b = if b = a then v else s.otpWord b :=
  kvGet_set _ _ _ _ _

/-- The words of registers keep their form under each elementary write, and so do SRAM, MRAM and OTP. -/
theorem wf_iff : Memory.wf s = true ↔ kvWf resetWord s.regs = true ∧ kvWf sramDefault s.sram = true ∧
    kvWf mramDefault s.mram = true ∧ kvWf otpDefault s.otp = true := by
  simp [Memory.wf, and_assoc]

theorem wf_wr (a : Nat) (v : Word) (h : Memory.wf s = true) : Memory.wf (s.wr a v) = true := by
  rw [wf_iff] at *
  exact ⟨kvWf_set _ _ _ _ h.1, h.2⟩

theorem wf_fs (f : Fld) (v : Nat) (h : Memory.wf s = true) : Memory.wf (s.fs f v) = true := wf_wr s _ _ h

theorem wf_resetRegs (lo hi : Nat) (h : Memory.wf s = true) : Memory.wf (s.resetRegs lo hi) = true := by
  rw [wf_iff] at *
  exact ⟨kvWf_clear _ _ _ _ h.1, h.2⟩

theorem wf_setSramByte (a : Nat) (v : Byte) (h : Memory.wf s = true) : Memory.wf (s.setSramByte a v) = true := by
  rw [wf_iff] at *
  exact ⟨h.1, kvWf_set _ _ _ _ h.2.1, h.2.2⟩

theorem wf_setMramByte (a : Nat) (v : Byte) (h : Memory.wf s = true) : Memory.wf (s.setMramByte a v) = true := by
  rw [wf_iff] at *
  exact ⟨h.1, h.2.1, kvWf_set _ _ _ _ h.2.2.1, h.2.2.2⟩

theorem wf_setOtpWord (a : Nat) (v : Word) (h : Memory.wf s = true) : Memory.wf (s.setOtpWord a v) = true := by
  rw [wf_iff] at *
  exact ⟨h.1, h.2.1, h.2.2.1, kvWf_set _ _ _ _ h.2.2.2⟩

theorem wf_setSramBytes (b : List Byte) (a : Nat) (h : Memory.wf s = true) : Memory.wf (s.setSramBytes a b) = true := by
  induction b generalizing s a with
  | nil => exact h
  | cons x r ih => exact ih _ _ (wf_setSramByte s a x h)

theorem wf_setMramBytes (b : List Byte) (a : Nat) (h : Memory.wf s = true) : Memory.wf (s.setMramBytes a b) = true := by
  induction b generalizing s a with
  | nil => exact h
  | cons x r ih => exact ih _ _ (wf_setMramByte s a x h)

theorem wf_setSramWord (a : Nat) (v : Word) (h : Memory.wf s = true) : Memory.wf (s.setSramWord a v) = true :=
  wf_setSramBytes s _ _ h

theorem wf_setMramWord (a : Nat) (v : Word) (h : Memory.wf s = true) : Memory.wf (s.setMramWord a v) = true :=
  wf_setMramBytes s _ _ h

/-- The memories keep their form under whatever changes none of them. -/
theorem wf_congr {s t : State} (h : Memory.wf s = true) (hr : t.regs = s.regs) (hs : t.sram = s.sram)
    (hm : t.mram = s.mram) (ho : t.otp = s.otp) : Memory.wf t = true := by
  rw [wf_iff] at *
  rw [hr, hs, hm, ho]; exact h

/-- Every byte outside a run of SRAM bytes reads as before the write, and the run reads as written. -/
theorem sramByte_setBytes (b : List Byte) (a k : Nat) :
    (s.setSramBytes a b).sramByte k = if a ≤ k ∧ k < a + b.length then b.getD (k - a) 0 else s.sramByte k := by
  induction b generalizing s a with
  | nil => simp [State.setSramBytes]
  | cons x r ih =>
    rw [State.setSramBytes, ih, sramByte_set]
    by_cases h1 : k = a
    · subst h1; simp
    · by_cases h2 : a + 1 ≤ k ∧ k < a + 1 + r.length
      · rw [if_pos h2, if_pos (by simp; omega)]
        have : k - a = k - (a + 1) + 1 := by omega
        rw [this]; simp
      · rw [if_neg h2, if_neg h1, if_neg (by simp; omega)]

theorem mramByte_setBytes (b : List Byte) (a k : Nat) :
    (s.setMramBytes a b).mramByte k = if a ≤ k ∧ k < a + b.length then b.getD (k - a) 0 else s.mramByte k := by
  induction b generalizing s a with
  | nil => simp [State.setMramBytes]
  | cons x r ih =>
    rw [State.setMramBytes, ih, mramByte_set]
    by_cases h1 : k = a
    · subst h1; simp
    · by_cases h2 : a + 1 ≤ k ∧ k < a + 1 + r.length
      · rw [if_pos h2, if_pos (by simp; omega)]
        have : k - a = k - (a + 1) + 1 := by omega
        rw [this]; simp
      · rw [if_neg h2, if_neg h1, if_neg (by simp; omega)]

end Sys2Proof.Machine
end

