-- ==== Sys2Proof/Laws/Events.lean ====
section
/-! SUPPORT. How every meaning ends: the answer of a port, the collector with no line driven, and the event controller's
pass, each with everything it can change. -/
namespace Sys2Proof.Machine

variable (s : State)

/-! ### The event controller's pass -/

theorem foldl_field {α β γ : Type} (g : β → γ) (f : β → α → β) (h : ∀ b a, g (f b a) = g b) (l : List α) (b : β) :
    g (l.foldl f b) = g b := by
  induction l generalizing b with
  | nil => rfl
  | cons a r ih => rw [List.foldl_cons, ih, h]


/-! What the pass keeps, field by field. -/
@[simp] theorem senseEvents_pending : (senseEvents s).pending = s.pending := by
  unfold senseEvents
  split
  · rfl
  · exact foldl_field State.pending _ (fun b a => State.raise_pending b (128 + a)) _ _
@[simp] theorem senseEvents_regs : (senseEvents s).regs = s.regs := by
  unfold senseEvents
  split
  · rfl
  · exact foldl_field State.regs _ (fun b a => State.raise_regs b (128 + a)) _ _
@[simp] theorem senseEvents_sram : (senseEvents s).sram = s.sram := by
  unfold senseEvents
  split
  · rfl
  · exact foldl_field State.sram _ (fun b a => State.raise_sram b (128 + a)) _ _
@[simp] theorem senseEvents_mram : (senseEvents s).mram = s.mram := by
  unfold senseEvents
  split
  · rfl
  · exact foldl_field State.mram _ (fun b a => State.raise_mram b (128 + a)) _ _
@[simp] theorem senseEvents_otp : (senseEvents s).otp = s.otp := by
  unfold senseEvents
  split
  · rfl
  · exact foldl_field State.otp _ (fun b a => State.raise_otp b (128 + a)) _ _
@[simp] theorem senseEvents_staging : (senseEvents s).staging = s.staging := by
  unfold senseEvents
  split
  · rfl
  · exact foldl_field State.staging _ (fun b a => State.raise_staging b (128 + a)) _ _
@[simp] theorem senseEvents_commits : (senseEvents s).commits = s.commits := by
  unfold senseEvents
  split
  · rfl
  · exact foldl_field State.commits _ (fun b a => State.raise_commits b (128 + a)) _ _
@[simp] theorem senseEvents_joint : (senseEvents s).joint = s.joint := by
  unfold senseEvents
  split
  · rfl
  · exact foldl_field State.joint _ (fun b a => State.raise_joint b (128 + a)) _ _
@[simp] theorem senseEvents_free : (senseEvents s).free = s.free := by
  unfold senseEvents
  split
  · rfl
  · exact foldl_field State.free _ (fun b a => State.raise_free b (128 + a)) _ _
@[simp] theorem senseEvents_port0 : (senseEvents s).port0 = s.port0 := by
  unfold senseEvents
  split
  · rfl
  · exact foldl_field State.port0 _ (fun b a => State.raise_port0 b (128 + a)) _ _
@[simp] theorem senseEvents_port1 : (senseEvents s).port1 = s.port1 := by
  unfold senseEvents
  split
  · rfl
  · exact foldl_field State.port1 _ (fun b a => State.raise_port1 b (128 + a)) _ _
@[simp] theorem senseEvents_caps : (senseEvents s).caps = s.caps := by
  unfold senseEvents
  split
  · rfl
  · exact foldl_field State.caps _ (fun b a => State.raise_caps b (128 + a)) _ _
@[simp] theorem senseEvents_image : (senseEvents s).image = s.image := by
  unfold senseEvents
  split
  · rfl
  · exact foldl_field State.image _ (fun b a => State.raise_image b (128 + a)) _ _
@[simp] theorem senseEvents_tiles : (senseEvents s).tiles = s.tiles := by
  unfold senseEvents
  split
  · rfl
  · exact foldl_field State.tiles _ (fun b a => State.raise_tiles b (128 + a)) _ _
@[simp] theorem senseEvents_pub : (senseEvents s).pub = s.pub := by
  unfold senseEvents
  split
  · rfl
  · exact foldl_field State.pub _ (fun b a => State.raise_pub b (128 + a)) _ _
@[simp] theorem senseEvents_rst : (senseEvents s).rst = s.rst := by
  unfold senseEvents
  split
  · rfl
  · exact foldl_field State.rst _ (fun b a => State.raise_rst b (128 + a)) _ _
@[simp] theorem senseEvents_prp : (senseEvents s).prp = s.prp := by
  unfold senseEvents
  split
  · rfl
  · exact foldl_field State.prp _ (fun b a => State.raise_prp b (128 + a)) _ _
@[simp] theorem senseEvents_cnv : (senseEvents s).cnv = s.cnv := by
  unfold senseEvents
  split
  · rfl
  · exact foldl_field State.cnv _ (fun b a => State.raise_cnv b (128 + a)) _ _
@[simp] theorem senseEvents_prot : (senseEvents s).prot = s.prot := by
  unfold senseEvents
  split
  · rfl
  · exact foldl_field State.prot _ (fun b a => State.raise_prot b (128 + a)) _ _
@[simp] theorem senseEvents_ord : (senseEvents s).ord = s.ord := by
  unfold senseEvents
  split
  · rfl
  · exact foldl_field State.ord _ (fun b a => State.raise_ord b (128 + a)) _ _
@[simp] theorem senseEvents_sct : (senseEvents s).sct = s.sct := by
  unfold senseEvents
  split
  · rfl
  · exact foldl_field State.sct _ (fun b a => State.raise_sct b (128 + a)) _ _
@[simp] theorem senseEvents_flt : (senseEvents s).flt = s.flt := by
  unfold senseEvents
  split
  · rfl
  · exact foldl_field State.flt _ (fun b a => State.raise_flt b (128 + a)) _ _
@[simp] theorem senseEvents_clk : (senseEvents s).clk = s.clk := by
  unfold senseEvents
  split
  · rfl
  · exact foldl_field State.clk _ (fun b a => State.raise_clk b (128 + a)) _ _
@[simp] theorem senseEvents_pwr : (senseEvents s).pwr = s.pwr := by
  unfold senseEvents
  split
  · rfl
  · exact foldl_field State.pwr _ (fun b a => State.raise_pwr b (128 + a)) _ _
@[simp] theorem senseEvents_rtc : (senseEvents s).rtc = s.rtc := by
  unfold senseEvents
  split
  · rfl
  · exact foldl_field State.rtc _ (fun b a => State.raise_rtc b (128 + a)) _ _
@[simp] theorem senseEvents_seqr : (senseEvents s).seqr = s.seqr := by
  unfold senseEvents
  split
  · rfl
  · exact foldl_field State.seqr _ (fun b a => State.raise_seqr b (128 + a)) _ _
@[simp] theorem senseEvents_wgl : (senseEvents s).wgl = s.wgl := by
  unfold senseEvents
  split
  · rfl
  · exact foldl_field State.wgl _ (fun b a => State.raise_wgl b (128 + a)) _ _
@[simp] theorem senseEvents_mtr : (senseEvents s).mtr = s.mtr := by
  unfold senseEvents
  split
  · rfl
  · exact foldl_field State.mtr _ (fun b a => State.raise_mtr b (128 + a)) _ _
@[simp] theorem senseEvents_thm : (senseEvents s).thm = s.thm := by
  unfold senseEvents
  split
  · rfl
  · exact foldl_field State.thm _ (fun b a => State.raise_thm b (128 + a)) _ _
@[simp] theorem senseEvents_ldg : (senseEvents s).ldg = s.ldg := by
  unfold senseEvents
  split
  · rfl
  · exact foldl_field State.ldg _ (fun b a => State.raise_ldg b (128 + a)) _ _
@[simp] theorem senseEvents_chg : (senseEvents s).chg = s.chg := by
  unfold senseEvents
  split
  · rfl
  · exact foldl_field State.chg _ (fun b a => State.raise_chg b (128 + a)) _ _
@[simp] theorem senseEvents_est : (senseEvents s).est = s.est := by
  unfold senseEvents
  split
  · rfl
  · exact foldl_field State.est _ (fun b a => State.raise_est b (128 + a)) _ _
@[simp] theorem senseEvents_can : (senseEvents s).can = s.can := by
  unfold senseEvents
  split
  · rfl
  · exact foldl_field State.can _ (fun b a => State.raise_can b (128 + a)) _ _
@[simp] theorem senseEvents_tmr : (senseEvents s).tmr = s.tmr := by
  unfold senseEvents
  split
  · rfl
  · exact foldl_field State.tmr _ (fun b a => State.raise_tmr b (128 + a)) _ _
@[simp] theorem senseEvents_wdg : (senseEvents s).wdg = s.wdg := by
  unfold senseEvents
  split
  · rfl
  · exact foldl_field State.wdg _ (fun b a => State.raise_wdg b (128 + a)) _ _
@[simp] theorem senseEvents_nvm : (senseEvents s).nvm = s.nvm := by
  unfold senseEvents
  split
  · rfl
  · exact foldl_field State.nvm _ (fun b a => State.raise_nvm b (128 + a)) _ _
@[simp] theorem senseEvents_tw1 : (senseEvents s).tw1 = s.tw1 := by
  unfold senseEvents
  split
  · rfl
  · exact foldl_field State.tw1 _ (fun b a => State.raise_tw1 b (128 + a)) _ _
@[simp] theorem senseEvents_keyed : (senseEvents s).keyed = s.keyed := by
  unfold senseEvents
  split
  · rfl
  · exact foldl_field State.keyed _ (fun b a => State.raise_keyed b (128 + a)) _ _
@[simp] theorem senseEvents_removals : (senseEvents s).removals = s.removals := by
  unfold senseEvents
  split
  · rfl
  · exact foldl_field State.removals _ (fun b a => State.raise_removals b (128 + a)) _ _
@[simp] theorem abandonWatch_pending : (abandonWatch s).pending = s.pending := by unfold abandonWatch; split <;> simp
@[simp] theorem abandonWatch_sram : (abandonWatch s).sram = s.sram := by unfold abandonWatch; split <;> simp
@[simp] theorem abandonWatch_mram : (abandonWatch s).mram = s.mram := by unfold abandonWatch; split <;> simp
@[simp] theorem abandonWatch_otp : (abandonWatch s).otp = s.otp := by unfold abandonWatch; split <;> simp
@[simp] theorem abandonWatch_staging : (abandonWatch s).staging = s.staging := by unfold abandonWatch; split <;> simp
@[simp] theorem abandonWatch_commits : (abandonWatch s).commits = s.commits := by unfold abandonWatch; split <;> simp
@[simp] theorem abandonWatch_joint : (abandonWatch s).joint = s.joint := by unfold abandonWatch; split <;> simp
@[simp] theorem abandonWatch_free : (abandonWatch s).free = s.free := by unfold abandonWatch; split <;> simp
@[simp] theorem abandonWatch_irq : (abandonWatch s).irq = s.irq := by unfold abandonWatch; split <;> simp
@[simp] theorem abandonWatch_port0 : (abandonWatch s).port0 = s.port0 := by unfold abandonWatch; split <;> simp
@[simp] theorem abandonWatch_port1 : (abandonWatch s).port1 = s.port1 := by unfold abandonWatch; split <;> simp
@[simp] theorem abandonWatch_caps : (abandonWatch s).caps = s.caps := by unfold abandonWatch; split <;> simp
@[simp] theorem abandonWatch_image : (abandonWatch s).image = s.image := by unfold abandonWatch; split <;> simp
@[simp] theorem abandonWatch_tiles : (abandonWatch s).tiles = s.tiles := by unfold abandonWatch; split <;> simp
@[simp] theorem abandonWatch_pub : (abandonWatch s).pub = s.pub := by unfold abandonWatch; split <;> simp
@[simp] theorem abandonWatch_rst : (abandonWatch s).rst = s.rst := by unfold abandonWatch; split <;> simp
@[simp] theorem abandonWatch_prp : (abandonWatch s).prp = s.prp := by unfold abandonWatch; split <;> simp
@[simp] theorem abandonWatch_cnv : (abandonWatch s).cnv = s.cnv := by unfold abandonWatch; split <;> simp
@[simp] theorem abandonWatch_prot : (abandonWatch s).prot = s.prot := by unfold abandonWatch; split <;> simp
@[simp] theorem abandonWatch_ord : (abandonWatch s).ord = s.ord := by unfold abandonWatch; split <;> simp
@[simp] theorem abandonWatch_sct : (abandonWatch s).sct = s.sct := by unfold abandonWatch; split <;> simp
@[simp] theorem abandonWatch_flt : (abandonWatch s).flt = s.flt := by unfold abandonWatch; split <;> simp
@[simp] theorem abandonWatch_clk : (abandonWatch s).clk = s.clk := by unfold abandonWatch; split <;> simp
@[simp] theorem abandonWatch_pwr : (abandonWatch s).pwr = s.pwr := by unfold abandonWatch; split <;> simp
@[simp] theorem abandonWatch_rtc : (abandonWatch s).rtc = s.rtc := by unfold abandonWatch; split <;> simp
@[simp] theorem abandonWatch_seqr : (abandonWatch s).seqr = s.seqr := by unfold abandonWatch; split <;> simp
@[simp] theorem abandonWatch_wgl : (abandonWatch s).wgl = s.wgl := by unfold abandonWatch; split <;> simp
@[simp] theorem abandonWatch_mtr : (abandonWatch s).mtr = s.mtr := by unfold abandonWatch; split <;> simp
@[simp] theorem abandonWatch_thm : (abandonWatch s).thm = s.thm := by unfold abandonWatch; split <;> simp
@[simp] theorem abandonWatch_ldg : (abandonWatch s).ldg = s.ldg := by unfold abandonWatch; split <;> simp
@[simp] theorem abandonWatch_chg : (abandonWatch s).chg = s.chg := by unfold abandonWatch; split <;> simp
@[simp] theorem abandonWatch_est : (abandonWatch s).est = s.est := by unfold abandonWatch; split <;> simp
@[simp] theorem abandonWatch_can : (abandonWatch s).can = s.can := by unfold abandonWatch; split <;> simp
@[simp] theorem abandonWatch_tmr : (abandonWatch s).tmr = s.tmr := by unfold abandonWatch; split <;> simp
@[simp] theorem abandonWatch_wdg : (abandonWatch s).wdg = s.wdg := by unfold abandonWatch; split <;> simp
@[simp] theorem abandonWatch_nvm : (abandonWatch s).nvm = s.nvm := by unfold abandonWatch; split <;> simp
@[simp] theorem abandonWatch_tw1 : (abandonWatch s).tw1 = s.tw1 := by unfold abandonWatch; split <;> simp
@[simp] theorem abandonWatch_keyed : (abandonWatch s).keyed = s.keyed := by unfold abandonWatch; split <;> simp
@[simp] theorem abandonWatch_removals : (abandonWatch s).removals = s.removals := by unfold abandonWatch; split <;> simp
@[simp] theorem settle_pending : (settle s).pending = s.pending := by
  unfold settle abandonIf
  split
  · rfl
  · split
    · rfl
    · simp only [setIrq_pending]
      split <;> simp
@[simp] theorem settle_sram : (settle s).sram = s.sram := by
  unfold settle abandonIf
  split
  · rfl
  · split
    · rfl
    · simp only [setIrq_sram]
      split <;> simp
@[simp] theorem settle_mram : (settle s).mram = s.mram := by
  unfold settle abandonIf
  split
  · rfl
  · split
    · rfl
    · simp only [setIrq_mram]
      split <;> simp
@[simp] theorem settle_otp : (settle s).otp = s.otp := by
  unfold settle abandonIf
  split
  · rfl
  · split
    · rfl
    · simp only [setIrq_otp]
      split <;> simp
@[simp] theorem settle_staging : (settle s).staging = s.staging := by
  unfold settle abandonIf
  split
  · rfl
  · split
    · rfl
    · simp only [setIrq_staging]
      split <;> simp
@[simp] theorem settle_commits : (settle s).commits = s.commits := by
  unfold settle abandonIf
  split
  · rfl
  · split
    · rfl
    · simp only [setIrq_commits]
      split <;> simp
@[simp] theorem settle_joint : (settle s).joint = s.joint := by
  unfold settle abandonIf
  split
  · rfl
  · split
    · rfl
    · simp only [setIrq_joint]
      split <;> simp
@[simp] theorem settle_free : (settle s).free = s.free := by
  unfold settle abandonIf
  split
  · rfl
  · split
    · rfl
    · simp only [setIrq_free]
      split <;> simp
@[simp] theorem settle_port0 : (settle s).port0 = s.port0 := by
  unfold settle abandonIf
  split
  · rfl
  · split
    · rfl
    · simp only [setIrq_port0]
      split <;> simp
@[simp] theorem settle_port1 : (settle s).port1 = s.port1 := by
  unfold settle abandonIf
  split
  · rfl
  · split
    · rfl
    · simp only [setIrq_port1]
      split <;> simp
@[simp] theorem settle_caps : (settle s).caps = s.caps := by
  unfold settle abandonIf
  split
  · rfl
  · split
    · rfl
    · simp only [setIrq_caps]
      split <;> simp
@[simp] theorem settle_image : (settle s).image = s.image := by
  unfold settle abandonIf
  split
  · rfl
  · split
    · rfl
    · simp only [setIrq_image]
      split <;> simp
@[simp] theorem settle_tiles : (settle s).tiles = s.tiles := by
  unfold settle abandonIf
  split
  · rfl
  · split
    · rfl
    · simp only [setIrq_tiles]
      split <;> simp
@[simp] theorem settle_pub : (settle s).pub = s.pub := by
  unfold settle abandonIf
  split
  · rfl
  · split
    · rfl
    · simp only [setIrq_pub]
      split <;> simp
@[simp] theorem settle_rst : (settle s).rst = s.rst := by
  unfold settle abandonIf
  split
  · rfl
  · split
    · rfl
    · simp only [setIrq_rst]
      split <;> simp
@[simp] theorem settle_prp : (settle s).prp = s.prp := by
  unfold settle abandonIf
  split
  · rfl
  · split
    · rfl
    · simp only [setIrq_prp]
      split <;> simp
@[simp] theorem settle_cnv : (settle s).cnv = s.cnv := by
  unfold settle abandonIf
  split
  · rfl
  · split
    · rfl
    · simp only [setIrq_cnv]
      split <;> simp
@[simp] theorem settle_prot : (settle s).prot = s.prot := by
  unfold settle abandonIf
  split
  · rfl
  · split
    · rfl
    · simp only [setIrq_prot]
      split <;> simp
@[simp] theorem settle_ord : (settle s).ord = s.ord := by
  unfold settle abandonIf
  split
  · rfl
  · split
    · rfl
    · simp only [setIrq_ord]
      split <;> simp
@[simp] theorem settle_sct : (settle s).sct = s.sct := by
  unfold settle abandonIf
  split
  · rfl
  · split
    · rfl
    · simp only [setIrq_sct]
      split <;> simp
@[simp] theorem settle_flt : (settle s).flt = s.flt := by
  unfold settle abandonIf
  split
  · rfl
  · split
    · rfl
    · simp only [setIrq_flt]
      split <;> simp
@[simp] theorem settle_clk : (settle s).clk = s.clk := by
  unfold settle abandonIf
  split
  · rfl
  · split
    · rfl
    · simp only [setIrq_clk]
      split <;> simp
@[simp] theorem settle_pwr : (settle s).pwr = s.pwr := by
  unfold settle abandonIf
  split
  · rfl
  · split
    · rfl
    · simp only [setIrq_pwr]
      split <;> simp
@[simp] theorem settle_rtc : (settle s).rtc = s.rtc := by
  unfold settle abandonIf
  split
  · rfl
  · split
    · rfl
    · simp only [setIrq_rtc]
      split <;> simp
@[simp] theorem settle_seqr : (settle s).seqr = s.seqr := by
  unfold settle abandonIf
  split
  · rfl
  · split
    · rfl
    · simp only [setIrq_seqr]
      split <;> simp
@[simp] theorem settle_wgl : (settle s).wgl = s.wgl := by
  unfold settle abandonIf
  split
  · rfl
  · split
    · rfl
    · simp only [setIrq_wgl]
      split <;> simp
@[simp] theorem settle_mtr : (settle s).mtr = s.mtr := by
  unfold settle abandonIf
  split
  · rfl
  · split
    · rfl
    · simp only [setIrq_mtr]
      split <;> simp
@[simp] theorem settle_thm : (settle s).thm = s.thm := by
  unfold settle abandonIf
  split
  · rfl
  · split
    · rfl
    · simp only [setIrq_thm]
      split <;> simp
@[simp] theorem settle_ldg : (settle s).ldg = s.ldg := by
  unfold settle abandonIf
  split
  · rfl
  · split
    · rfl
    · simp only [setIrq_ldg]
      split <;> simp
@[simp] theorem settle_chg : (settle s).chg = s.chg := by
  unfold settle abandonIf
  split
  · rfl
  · split
    · rfl
    · simp only [setIrq_chg]
      split <;> simp
@[simp] theorem settle_est : (settle s).est = s.est := by
  unfold settle abandonIf
  split
  · rfl
  · split
    · rfl
    · simp only [setIrq_est]
      split <;> simp
@[simp] theorem settle_can : (settle s).can = s.can := by
  unfold settle abandonIf
  split
  · rfl
  · split
    · rfl
    · simp only [setIrq_can]
      split <;> simp
@[simp] theorem settle_tmr : (settle s).tmr = s.tmr := by
  unfold settle abandonIf
  split
  · rfl
  · split
    · rfl
    · simp only [setIrq_tmr]
      split <;> simp
@[simp] theorem settle_wdg : (settle s).wdg = s.wdg := by
  unfold settle abandonIf
  split
  · rfl
  · split
    · rfl
    · simp only [setIrq_wdg]
      split <;> simp
@[simp] theorem settle_nvm : (settle s).nvm = s.nvm := by
  unfold settle abandonIf
  split
  · rfl
  · split
    · rfl
    · simp only [setIrq_nvm]
      split <;> simp
@[simp] theorem settle_tw1 : (settle s).tw1 = s.tw1 := by
  unfold settle abandonIf
  split
  · rfl
  · split
    · rfl
    · simp only [setIrq_tw1]
      split <;> simp
@[simp] theorem settle_keyed : (settle s).keyed = s.keyed := by
  unfold settle abandonIf
  split
  · rfl
  · split
    · rfl
    · simp only [setIrq_keyed]
      split <;> simp
@[simp] theorem settle_removals : (settle s).removals = s.removals := by
  unfold settle abandonIf
  split
  · rfl
  · split
    · rfl
    · simp only [setIrq_removals]
      split <;> simp

theorem senseEvents_rd (a : Nat) : (senseEvents s).rd a = s.rd a := rd_congr (senseEvents_regs s) a

theorem abandonWatch_rd (a : Nat) (h1 : a ≠ Reg.SYS_PWR_STAT) (h2 : a ≠ Reg.MTR_STAT) :
    (abandonWatch s).rd a = s.rd a := by
  unfold abandonWatch
  split
  · rw [rd_fs_other _ _ _ _ (by simpa [Fld.MTR_STAT_HAND, Reg.MTR_STAT] using h2),
      rd_fs_other _ _ _ _ (by simpa [Fld.MTR_STAT_SLOW, Reg.MTR_STAT] using h2),
      rd_fs_other _ _ _ _ (by simpa [Fld.SYS_PWR_STAT_TRANS, Reg.SYS_PWR_STAT] using h1)]
  · rfl

theorem abandonWatch_idle (h : s.fb Fld.SYS_PWR_STAT_TRANS = false) : abandonWatch s = s := by
  unfold abandonWatch; rw [if_neg (by simp [h])]

theorem abandonWatch_state : (abandonWatch s).fg Fld.SYS_PWR_STAT_STATE = s.fg Fld.SYS_PWR_STAT_STATE := by
  unfold abandonWatch
  split
  · rw [fg_fs_other _ _ _ _ (by decide) (by decide), fg_fs_other _ _ _ _ (by decide) (by decide),
      fg_fs_other _ _ _ _ (by decide) (by decide)]
  · rfl

/-- What the pass does to the registers: nothing, or the way into WATCH is abandoned. -/
theorem settle_regs_cases : (settle s).regs = s.regs ∨ (settle s).regs = (abandonWatch (senseEvents s)).regs := by
  unfold settle abandonIf
  split
  · exact .inl rfl
  · split
    · exact .inl rfl
    · simp only [setIrq_regs]
      split
      · exact .inr rfl
      · exact .inl (senseEvents_regs s)

theorem settle_rd (a : Nat) (h1 : a ≠ Reg.SYS_PWR_STAT) (h2 : a ≠ Reg.MTR_STAT) : (settle s).rd a = s.rd a := by
  rcases settle_regs_cases s with h | h
  · exact rd_congr h a
  · rw [rd_congr h a, abandonWatch_rd _ a h1 h2, senseEvents_rd]

theorem settle_fg (f : Fld) (h1 : f.addr ≠ Reg.SYS_PWR_STAT) (h2 : f.addr ≠ Reg.MTR_STAT) : (settle s).fg f = s.fg f := by
  unfold State.fg; rw [settle_rd s _ h1 h2]

/-- While no way into WATCH has begun, the pass changes no register at all. -/
theorem settle_regs (h : s.fb Fld.SYS_PWR_STAT_TRANS = false) : (settle s).regs = s.regs := by
  rcases settle_regs_cases s with e | e
  · exact e
  · rw [e, abandonWatch_idle, senseEvents_regs]
    rw [fb_of_fg _ (fg_congr (senseEvents_regs s) _)]; exact h

theorem settle_state : (settle s).fg Fld.SYS_PWR_STAT_STATE = s.fg Fld.SYS_PWR_STAT_STATE := by
  rcases settle_regs_cases s with h | h
  · exact fg_congr h _
  · rw [fg_congr h, abandonWatch_state, fg_congr (senseEvents_regs s)]

theorem settle_wf (h : Memory.wf s = true) : Memory.wf (settle s) = true := by
  rcases settle_regs_cases s with e | e
  · exact wf_congr h e (by simp) (by simp) (by simp)
  · have h1 : Memory.wf (senseEvents s) = true := wf_congr h (by simp) (by simp) (by simp) (by simp)
    refine wf_congr (s := abandonWatch (senseEvents s)) ?_ e (by simp) (by simp) (by simp)
    unfold abandonWatch
    split
    · exact wf_fs _ _ _ (wf_fs _ _ _ (wf_fs _ _ _ h1))
    · exact h1


/-! ### The collector -/

/-- With no line driven the collector does nothing. -/
theorem collect_quiet (h : s.flt.lines = []) : collect s = s := by unfold collect; simp [h]

/-- What a meaning answers out of reset. -/
theorem done_next {old : State} (h : old.rst.asserted = false) : done old s = .next (finish s) := by
  unfold done doneRst; simp [h]

/-- With no line driven, a command ends with the event controller's pass alone. -/
theorem finish_quiet (h : s.flt.lines = []) : finish s = settle s := by unfold finish; rw [collect_quiet s h]

/-- While device-wide reset is asserted a meaning that stays outside the AO domain changes nothing. -/
theorem done_reset {old : State} (h : old.rst.asserted = true) : done old s = .next old := by
  unfold done; simp [h]

/-! ### The ports -/

theorem asWrite_reach (p : Port) (a : Nat) (f : State → Nat × State) (h1 : s.portRuns p = true)
    (h2 : s.isolated a = false) : asWrite p a f s = respond p (f s).1 0 (f s).2 := by unfold asWrite; simp [h1, h2]

theorem asWrite_isolated (p : Port) (a : Nat) (f : State → Nat × State) (h1 : s.portRuns p = true)
    (h2 : s.isolated a = true) : asWrite p a f s = respond p stIsolated 0 s := by unfold asWrite; simp [h1, h2]

theorem asWrite_closed (p : Port) (a : Nat) (f : State → Nat × State) (h1 : s.portRuns p = false) :
    asWrite p a f s = s := by unfold asWrite; simp [h1]

theorem asRead_reach (p : Port) (a : Nat) (v : State → Word) (f : State → State) (h1 : s.portRuns p = true)
    (h2 : s.isolated a = false) : asRead p a v f s = respondRead p [v s] stOk (f s) := by unfold asRead; simp [h1, h2]

@[simp] theorem setPort_pending (p : Port) (v : PortState) : (s.setPort p v).pending = s.pending := by cases p <;> rfl
@[simp] theorem setPort_regs (p : Port) (v : PortState) : (s.setPort p v).regs = s.regs := by cases p <;> rfl
@[simp] theorem setPort_sram (p : Port) (v : PortState) : (s.setPort p v).sram = s.sram := by cases p <;> rfl
@[simp] theorem setPort_mram (p : Port) (v : PortState) : (s.setPort p v).mram = s.mram := by cases p <;> rfl
@[simp] theorem setPort_otp (p : Port) (v : PortState) : (s.setPort p v).otp = s.otp := by cases p <;> rfl
@[simp] theorem setPort_staging (p : Port) (v : PortState) : (s.setPort p v).staging = s.staging := by cases p <;> rfl
@[simp] theorem setPort_commits (p : Port) (v : PortState) : (s.setPort p v).commits = s.commits := by cases p <;> rfl
@[simp] theorem setPort_joint (p : Port) (v : PortState) : (s.setPort p v).joint = s.joint := by cases p <;> rfl
@[simp] theorem setPort_free (p : Port) (v : PortState) : (s.setPort p v).free = s.free := by cases p <;> rfl
@[simp] theorem setPort_irq (p : Port) (v : PortState) : (s.setPort p v).irq = s.irq := by cases p <;> rfl
@[simp] theorem setPort_caps (p : Port) (v : PortState) : (s.setPort p v).caps = s.caps := by cases p <;> rfl
@[simp] theorem setPort_image (p : Port) (v : PortState) : (s.setPort p v).image = s.image := by cases p <;> rfl
@[simp] theorem setPort_tiles (p : Port) (v : PortState) : (s.setPort p v).tiles = s.tiles := by cases p <;> rfl
@[simp] theorem setPort_pub (p : Port) (v : PortState) : (s.setPort p v).pub = s.pub := by cases p <;> rfl
@[simp] theorem setPort_rst (p : Port) (v : PortState) : (s.setPort p v).rst = s.rst := by cases p <;> rfl
@[simp] theorem setPort_prp (p : Port) (v : PortState) : (s.setPort p v).prp = s.prp := by cases p <;> rfl
@[simp] theorem setPort_cnv (p : Port) (v : PortState) : (s.setPort p v).cnv = s.cnv := by cases p <;> rfl
@[simp] theorem setPort_prot (p : Port) (v : PortState) : (s.setPort p v).prot = s.prot := by cases p <;> rfl
@[simp] theorem setPort_ord (p : Port) (v : PortState) : (s.setPort p v).ord = s.ord := by cases p <;> rfl
@[simp] theorem setPort_sct (p : Port) (v : PortState) : (s.setPort p v).sct = s.sct := by cases p <;> rfl
@[simp] theorem setPort_flt (p : Port) (v : PortState) : (s.setPort p v).flt = s.flt := by cases p <;> rfl
@[simp] theorem setPort_clk (p : Port) (v : PortState) : (s.setPort p v).clk = s.clk := by cases p <;> rfl
@[simp] theorem setPort_pwr (p : Port) (v : PortState) : (s.setPort p v).pwr = s.pwr := by cases p <;> rfl
@[simp] theorem setPort_rtc (p : Port) (v : PortState) : (s.setPort p v).rtc = s.rtc := by cases p <;> rfl
@[simp] theorem setPort_seqr (p : Port) (v : PortState) : (s.setPort p v).seqr = s.seqr := by cases p <;> rfl
@[simp] theorem setPort_wgl (p : Port) (v : PortState) : (s.setPort p v).wgl = s.wgl := by cases p <;> rfl
@[simp] theorem setPort_mtr (p : Port) (v : PortState) : (s.setPort p v).mtr = s.mtr := by cases p <;> rfl
@[simp] theorem setPort_thm (p : Port) (v : PortState) : (s.setPort p v).thm = s.thm := by cases p <;> rfl
@[simp] theorem setPort_ldg (p : Port) (v : PortState) : (s.setPort p v).ldg = s.ldg := by cases p <;> rfl
@[simp] theorem setPort_chg (p : Port) (v : PortState) : (s.setPort p v).chg = s.chg := by cases p <;> rfl
@[simp] theorem setPort_est (p : Port) (v : PortState) : (s.setPort p v).est = s.est := by cases p <;> rfl
@[simp] theorem setPort_can (p : Port) (v : PortState) : (s.setPort p v).can = s.can := by cases p <;> rfl
@[simp] theorem setPort_tmr (p : Port) (v : PortState) : (s.setPort p v).tmr = s.tmr := by cases p <;> rfl
@[simp] theorem setPort_wdg (p : Port) (v : PortState) : (s.setPort p v).wdg = s.wdg := by cases p <;> rfl
@[simp] theorem setPort_nvm (p : Port) (v : PortState) : (s.setPort p v).nvm = s.nvm := by cases p <;> rfl
@[simp] theorem setPort_tw1 (p : Port) (v : PortState) : (s.setPort p v).tw1 = s.tw1 := by cases p <;> rfl
@[simp] theorem setPort_keyed (p : Port) (v : PortState) : (s.setPort p v).keyed = s.keyed := by cases p <;> rfl
@[simp] theorem setPort_removals (p : Port) (v : PortState) : (s.setPort p v).removals = s.removals := by cases p <;> rfl

@[simp] theorem recordWrite_pending (p : Port) (st w : Nat) : (recordWrite p st w s).pending = s.pending := by
  cases p <;> simp [recordWrite]
@[simp] theorem recordWrite_sram (p : Port) (st w : Nat) : (recordWrite p st w s).sram = s.sram := by
  cases p <;> simp [recordWrite]
@[simp] theorem recordWrite_mram (p : Port) (st w : Nat) : (recordWrite p st w s).mram = s.mram := by
  cases p <;> simp [recordWrite]
@[simp] theorem recordWrite_otp (p : Port) (st w : Nat) : (recordWrite p st w s).otp = s.otp := by
  cases p <;> simp [recordWrite]
@[simp] theorem recordWrite_staging (p : Port) (st w : Nat) : (recordWrite p st w s).staging = s.staging := by
  cases p <;> simp [recordWrite]
@[simp] theorem recordWrite_commits (p : Port) (st w : Nat) : (recordWrite p st w s).commits = s.commits := by
  cases p <;> simp [recordWrite]
@[simp] theorem recordWrite_joint (p : Port) (st w : Nat) : (recordWrite p st w s).joint = s.joint := by
  cases p <;> simp [recordWrite]
@[simp] theorem recordWrite_free (p : Port) (st w : Nat) : (recordWrite p st w s).free = s.free := by
  cases p <;> simp [recordWrite]
@[simp] theorem recordWrite_irq (p : Port) (st w : Nat) : (recordWrite p st w s).irq = s.irq := by
  cases p <;> simp [recordWrite]
@[simp] theorem recordWrite_caps (p : Port) (st w : Nat) : (recordWrite p st w s).caps = s.caps := by
  cases p <;> simp [recordWrite]
@[simp] theorem recordWrite_image (p : Port) (st w : Nat) : (recordWrite p st w s).image = s.image := by
  cases p <;> simp [recordWrite]
@[simp] theorem recordWrite_tiles (p : Port) (st w : Nat) : (recordWrite p st w s).tiles = s.tiles := by
  cases p <;> simp [recordWrite]
@[simp] theorem recordWrite_pub (p : Port) (st w : Nat) : (recordWrite p st w s).pub = s.pub := by
  cases p <;> simp [recordWrite]
@[simp] theorem recordWrite_rst (p : Port) (st w : Nat) : (recordWrite p st w s).rst = s.rst := by
  cases p <;> simp [recordWrite]
@[simp] theorem recordWrite_prp (p : Port) (st w : Nat) : (recordWrite p st w s).prp = s.prp := by
  cases p <;> simp [recordWrite]
@[simp] theorem recordWrite_cnv (p : Port) (st w : Nat) : (recordWrite p st w s).cnv = s.cnv := by
  cases p <;> simp [recordWrite]
@[simp] theorem recordWrite_prot (p : Port) (st w : Nat) : (recordWrite p st w s).prot = s.prot := by
  cases p <;> simp [recordWrite]
@[simp] theorem recordWrite_ord (p : Port) (st w : Nat) : (recordWrite p st w s).ord = s.ord := by
  cases p <;> simp [recordWrite]
@[simp] theorem recordWrite_sct (p : Port) (st w : Nat) : (recordWrite p st w s).sct = s.sct := by
  cases p <;> simp [recordWrite]
@[simp] theorem recordWrite_flt (p : Port) (st w : Nat) : (recordWrite p st w s).flt = s.flt := by
  cases p <;> simp [recordWrite]
@[simp] theorem recordWrite_clk (p : Port) (st w : Nat) : (recordWrite p st w s).clk = s.clk := by
  cases p <;> simp [recordWrite]
@[simp] theorem recordWrite_pwr (p : Port) (st w : Nat) : (recordWrite p st w s).pwr = s.pwr := by
  cases p <;> simp [recordWrite]
@[simp] theorem recordWrite_rtc (p : Port) (st w : Nat) : (recordWrite p st w s).rtc = s.rtc := by
  cases p <;> simp [recordWrite]
@[simp] theorem recordWrite_seqr (p : Port) (st w : Nat) : (recordWrite p st w s).seqr = s.seqr := by
  cases p <;> simp [recordWrite]
@[simp] theorem recordWrite_wgl (p : Port) (st w : Nat) : (recordWrite p st w s).wgl = s.wgl := by
  cases p <;> simp [recordWrite]
@[simp] theorem recordWrite_mtr (p : Port) (st w : Nat) : (recordWrite p st w s).mtr = s.mtr := by
  cases p <;> simp [recordWrite]
@[simp] theorem recordWrite_thm (p : Port) (st w : Nat) : (recordWrite p st w s).thm = s.thm := by
  cases p <;> simp [recordWrite]
@[simp] theorem recordWrite_ldg (p : Port) (st w : Nat) : (recordWrite p st w s).ldg = s.ldg := by
  cases p <;> simp [recordWrite]
@[simp] theorem recordWrite_chg (p : Port) (st w : Nat) : (recordWrite p st w s).chg = s.chg := by
  cases p <;> simp [recordWrite]
@[simp] theorem recordWrite_est (p : Port) (st w : Nat) : (recordWrite p st w s).est = s.est := by
  cases p <;> simp [recordWrite]
@[simp] theorem recordWrite_can (p : Port) (st w : Nat) : (recordWrite p st w s).can = s.can := by
  cases p <;> simp [recordWrite]
@[simp] theorem recordWrite_tmr (p : Port) (st w : Nat) : (recordWrite p st w s).tmr = s.tmr := by
  cases p <;> simp [recordWrite]
@[simp] theorem recordWrite_wdg (p : Port) (st w : Nat) : (recordWrite p st w s).wdg = s.wdg := by
  cases p <;> simp [recordWrite]
@[simp] theorem recordWrite_nvm (p : Port) (st w : Nat) : (recordWrite p st w s).nvm = s.nvm := by
  cases p <;> simp [recordWrite]
@[simp] theorem recordWrite_tw1 (p : Port) (st w : Nat) : (recordWrite p st w s).tw1 = s.tw1 := by
  cases p <;> simp [recordWrite]
@[simp] theorem recordWrite_keyed (p : Port) (st w : Nat) : (recordWrite p st w s).keyed = s.keyed := by
  cases p <;> simp [recordWrite]
@[simp] theorem recordWrite_removals (p : Port) (st w : Nat) : (recordWrite p st w s).removals = s.removals := by
  cases p <;> simp [recordWrite]
@[simp] theorem respond_pending (p : Port) (st w : Nat) : (respond p st w s).pending = s.pending := by
  unfold respond
  split
  · rfl
  · rw [setPort_pending, recordWrite_pending]
@[simp] theorem respond_sram (p : Port) (st w : Nat) : (respond p st w s).sram = s.sram := by
  unfold respond
  split
  · rfl
  · rw [setPort_sram, recordWrite_sram]
@[simp] theorem respond_mram (p : Port) (st w : Nat) : (respond p st w s).mram = s.mram := by
  unfold respond
  split
  · rfl
  · rw [setPort_mram, recordWrite_mram]
@[simp] theorem respond_otp (p : Port) (st w : Nat) : (respond p st w s).otp = s.otp := by
  unfold respond
  split
  · rfl
  · rw [setPort_otp, recordWrite_otp]
@[simp] theorem respond_staging (p : Port) (st w : Nat) : (respond p st w s).staging = s.staging := by
  unfold respond
  split
  · rfl
  · rw [setPort_staging, recordWrite_staging]
@[simp] theorem respond_commits (p : Port) (st w : Nat) : (respond p st w s).commits = s.commits := by
  unfold respond
  split
  · rfl
  · rw [setPort_commits, recordWrite_commits]
@[simp] theorem respond_joint (p : Port) (st w : Nat) : (respond p st w s).joint = s.joint := by
  unfold respond
  split
  · rfl
  · rw [setPort_joint, recordWrite_joint]
@[simp] theorem respond_free (p : Port) (st w : Nat) : (respond p st w s).free = s.free := by
  unfold respond
  split
  · rfl
  · rw [setPort_free, recordWrite_free]
@[simp] theorem respond_irq (p : Port) (st w : Nat) : (respond p st w s).irq = s.irq := by
  unfold respond
  split
  · rfl
  · rw [setPort_irq, recordWrite_irq]
@[simp] theorem respond_caps (p : Port) (st w : Nat) : (respond p st w s).caps = s.caps := by
  unfold respond
  split
  · rfl
  · rw [setPort_caps, recordWrite_caps]
@[simp] theorem respond_image (p : Port) (st w : Nat) : (respond p st w s).image = s.image := by
  unfold respond
  split
  · rfl
  · rw [setPort_image, recordWrite_image]
@[simp] theorem respond_tiles (p : Port) (st w : Nat) : (respond p st w s).tiles = s.tiles := by
  unfold respond
  split
  · rfl
  · rw [setPort_tiles, recordWrite_tiles]
@[simp] theorem respond_pub (p : Port) (st w : Nat) : (respond p st w s).pub = s.pub := by
  unfold respond
  split
  · rfl
  · rw [setPort_pub, recordWrite_pub]
@[simp] theorem respond_rst (p : Port) (st w : Nat) : (respond p st w s).rst = s.rst := by
  unfold respond
  split
  · rfl
  · rw [setPort_rst, recordWrite_rst]
@[simp] theorem respond_prp (p : Port) (st w : Nat) : (respond p st w s).prp = s.prp := by
  unfold respond
  split
  · rfl
  · rw [setPort_prp, recordWrite_prp]
@[simp] theorem respond_cnv (p : Port) (st w : Nat) : (respond p st w s).cnv = s.cnv := by
  unfold respond
  split
  · rfl
  · rw [setPort_cnv, recordWrite_cnv]
@[simp] theorem respond_prot (p : Port) (st w : Nat) : (respond p st w s).prot = s.prot := by
  unfold respond
  split
  · rfl
  · rw [setPort_prot, recordWrite_prot]
@[simp] theorem respond_ord (p : Port) (st w : Nat) : (respond p st w s).ord = s.ord := by
  unfold respond
  split
  · rfl
  · rw [setPort_ord, recordWrite_ord]
@[simp] theorem respond_sct (p : Port) (st w : Nat) : (respond p st w s).sct = s.sct := by
  unfold respond
  split
  · rfl
  · rw [setPort_sct, recordWrite_sct]
@[simp] theorem respond_flt (p : Port) (st w : Nat) : (respond p st w s).flt = s.flt := by
  unfold respond
  split
  · rfl
  · rw [setPort_flt, recordWrite_flt]
@[simp] theorem respond_clk (p : Port) (st w : Nat) : (respond p st w s).clk = s.clk := by
  unfold respond
  split
  · rfl
  · rw [setPort_clk, recordWrite_clk]
@[simp] theorem respond_pwr (p : Port) (st w : Nat) : (respond p st w s).pwr = s.pwr := by
  unfold respond
  split
  · rfl
  · rw [setPort_pwr, recordWrite_pwr]
@[simp] theorem respond_rtc (p : Port) (st w : Nat) : (respond p st w s).rtc = s.rtc := by
  unfold respond
  split
  · rfl
  · rw [setPort_rtc, recordWrite_rtc]
@[simp] theorem respond_seqr (p : Port) (st w : Nat) : (respond p st w s).seqr = s.seqr := by
  unfold respond
  split
  · rfl
  · rw [setPort_seqr, recordWrite_seqr]
@[simp] theorem respond_wgl (p : Port) (st w : Nat) : (respond p st w s).wgl = s.wgl := by
  unfold respond
  split
  · rfl
  · rw [setPort_wgl, recordWrite_wgl]
@[simp] theorem respond_mtr (p : Port) (st w : Nat) : (respond p st w s).mtr = s.mtr := by
  unfold respond
  split
  · rfl
  · rw [setPort_mtr, recordWrite_mtr]
@[simp] theorem respond_thm (p : Port) (st w : Nat) : (respond p st w s).thm = s.thm := by
  unfold respond
  split
  · rfl
  · rw [setPort_thm, recordWrite_thm]
@[simp] theorem respond_ldg (p : Port) (st w : Nat) : (respond p st w s).ldg = s.ldg := by
  unfold respond
  split
  · rfl
  · rw [setPort_ldg, recordWrite_ldg]
@[simp] theorem respond_chg (p : Port) (st w : Nat) : (respond p st w s).chg = s.chg := by
  unfold respond
  split
  · rfl
  · rw [setPort_chg, recordWrite_chg]
@[simp] theorem respond_est (p : Port) (st w : Nat) : (respond p st w s).est = s.est := by
  unfold respond
  split
  · rfl
  · rw [setPort_est, recordWrite_est]
@[simp] theorem respond_can (p : Port) (st w : Nat) : (respond p st w s).can = s.can := by
  unfold respond
  split
  · rfl
  · rw [setPort_can, recordWrite_can]
@[simp] theorem respond_tmr (p : Port) (st w : Nat) : (respond p st w s).tmr = s.tmr := by
  unfold respond
  split
  · rfl
  · rw [setPort_tmr, recordWrite_tmr]
@[simp] theorem respond_wdg (p : Port) (st w : Nat) : (respond p st w s).wdg = s.wdg := by
  unfold respond
  split
  · rfl
  · rw [setPort_wdg, recordWrite_wdg]
@[simp] theorem respond_nvm (p : Port) (st w : Nat) : (respond p st w s).nvm = s.nvm := by
  unfold respond
  split
  · rfl
  · rw [setPort_nvm, recordWrite_nvm]
@[simp] theorem respond_tw1 (p : Port) (st w : Nat) : (respond p st w s).tw1 = s.tw1 := by
  unfold respond
  split
  · rfl
  · rw [setPort_tw1, recordWrite_tw1]
@[simp] theorem respond_keyed (p : Port) (st w : Nat) : (respond p st w s).keyed = s.keyed := by
  unfold respond
  split
  · rfl
  · rw [setPort_keyed, recordWrite_keyed]
@[simp] theorem respond_removals (p : Port) (st w : Nat) : (respond p st w s).removals = s.removals := by
  unfold respond
  split
  · rfl
  · rw [setPort_removals, recordWrite_removals]

/-- An answer changes SYS_XSTAT and nothing else that a register shows. -/
theorem respond_rd (p : Port) (st w a : Nat) (h : a ≠ Reg.SYS_XSTAT) : (respond p st w s).rd a = s.rd a := by
  unfold respond
  split
  · rfl
  · refine Eq.trans (rd_congr (setPort_regs _ _ _) a) ?_
    unfold recordWrite
    cases p
    · rw [rd_fs_other _ _ _ _ (by simpa [Fld.SYS_XSTAT_TW0_WORD, Reg.SYS_XSTAT] using h),
        rd_fs_other _ _ _ _ (by simpa [Fld.SYS_XSTAT_TW0_ST, Reg.SYS_XSTAT] using h)]
    · rw [rd_fs_other _ _ _ _ (by simpa [Fld.SYS_XSTAT_SPT_WORD, Reg.SYS_XSTAT] using h),
        rd_fs_other _ _ _ _ (by simpa [Fld.SYS_XSTAT_SPT_ST, Reg.SYS_XSTAT] using h)]

theorem respond_fg (p : Port) (st w : Nat) (f : Fld) (h : f.addr ≠ Reg.SYS_XSTAT) : (respond p st w s).fg f = s.fg f := by
  unfold State.fg; rw [respond_rd s p st w _ h]

theorem respond_status (p : Port) (st w : Nat) (h : s.rst.asserted = false) :
    ((respond p st w s).port p).status = st ∧ ((respond p st w s).port p).data = [] := by
  unfold respond; simp only [h]; cases p <;> exact ⟨rfl, rfl⟩

theorem respond_wf (p : Port) (st w : Nat) (h : Memory.wf s = true) : Memory.wf (respond p st w s) = true := by
  unfold respond
  split
  · exact h
  · refine wf_congr (s := recordWrite p st w s) ?_ (by simp) (by simp) (by simp) (by simp)
    unfold recordWrite
    cases p <;> exact wf_fs _ _ _ (wf_fs _ _ _ h)

/-- A port that runs is one of a device out of reset. -/
theorem portRuns_live {p : Port} (h : s.portRuns p = true) : s.rst.asserted = false := by
  unfold State.portRuns at h; simp at h; exact h.1

/-- How each host write that reaches its block ends. -/
theorem done_asWrite (p : Port) (a : Nat) (f : State → Nat × State) (h1 : s.portRuns p = true)
    (h2 : s.isolated a = false) : done s (asWrite p a f s) = .next (finish (respond p (f s).1 0 (f s).2)) := by
  rw [asWrite_reach s p a f h1 h2, done_next _ (portRuns_live s h1)]

end Sys2Proof.Machine
end

