-- ==== Sys2Proof/Laws/Exec.lean ====
section
/-! SUPPORT. What every command's meaning has in common: how it ends. -/
namespace Sys2Proof.Machine

/-- Every command ends with the collector and the event controller's pass; but for those that act on reset itself, on the
AO domain or on a ball, only while the device is out of device-wide reset. -/
theorem exec_form (c : Instr) (s : State) : ∃ t, exec c s = done s t ∨ exec c s = doneRst t := by
  cases c <;> first | exact ⟨_, .inl rfl⟩ | exact ⟨_, .inr rfl⟩

end Sys2Proof.Machine
end

