-- ==== Sys2Proof/WellFormed.lean ====
section
/-!
DEFINITION. Well-formed commands: operands that the world or a host port can produce. Bus addresses have 24 bits (R98) and
bytes and checks their widths (R117, R118, R123, R124), frames and records their greatest lengths (R198, R323, R407,
R413, R414), and a command that reads a kind of register names one. A meaning is given to every command, well-formed or
not.
-/
namespace Sys2Proof

/-- A word with RC bits (R9), or one of the two flag words whose read acts as R378 and R498 say. -/
def readClearsAt (a : Nat) : Bool :=
  match Machine.rowOf a with
  | some r => r.rc != 0
  | none => false

/-- A lower word whose read captures its upper word (R58, R162, R462 and FLT_STAT_LO): the accumulator sets, the ledger
totals, ACC_LO of a tile, and FLT_STAT_LO. -/
def lowerWord (a : Nat) : Bool :=
  decide (a = 0x010000) ||
  decide (0x100400 ≤ a ∧ a < 0x100680 ∧ (a - 0x100400) % 64 < 32 ∧ a % 8 = 0) ||
  decide (0x110108 ≤ a ∧ a < 0x110508 ∧ (a - 0x110108) % 64 < 32 ∧ a % 8 = 0) ||
  decide (0x110600 ≤ a ∧ a < 0x110700 ∧ a % 8 = 0) ||
  decide (0x200000 ≤ a ∧ a < 0x240000 ∧ a % 4096 = 0x54)

/-- R62: a commit group of the device. -/
def groupWf : Group → Bool
  | .tile n => decide (n < 64)
  | .ldgAssign => true
  | .cnvRack => true
  | .cnvGroup g => decide (g < 12)
  | .chg n => decide (n < 8)
  | .sct => true
  | .flt => true
  | .rtc => true
  | .zone h => decide (h < 4)

def wellFormed : Instr → Bool
  | .tw0Write sa addr _ pec _ _ => decide (sa < 128 ∧ addr < 2 ^ 24 ∧ pec < 256)
  | .tw0Read sa addr cnt _ bad _ => decide (sa < 128 ∧ addr < 2 ^ 24 ∧ cnt < 256) && bad.all (fun i => decide (i ≤ cnt))
  | .tw0Timeout => true
  | .sptWrite cmd addr cnt data crc _ _ => decide (cmd < 256 ∧ cmd ≠ 2 ∧ addr < 2 ^ 24 ∧ cnt < 256 ∧ (cmd = 1 → data.length = 4 * (cnt + 1)) ∧ crc < 65536)
  | .sptRead addr cnt crc _ _ bad => decide (addr < 2 ^ 24 ∧ cnt < 256 ∧ crc < 65536) && bad.all (fun i => decide (i ≤ cnt))
  | .sptFrameAbandon => true
  | .readFetchComplete _ bad => bad.all (fun i => decide (i < 256))
  | .registerWrite _ addr _ _ => decide (addr < 2 ^ 24)
  | .rcRegisterRead _ addr => readClearsAt addr
  | .loWordRead _ addr => lowerWord addr
  | .pwrReqAuto _ => true
  | .pwrReqHoldReady _ => true
  | .pwrReqDormant _ => true
  | .profileWrite _ _ => true
  | .queueCfgWrite _ _ _ => true
  | .oqDoorbell _ _ index => decide (index < 512)
  | .headDoorbell _ _ index => decide (index < 512)
  | .mailboxNop _ _ => true
  | .ldgKeyExport _ _ => true
  | .prpKeyExport _ _ => true
  | .mailboxUnknownCode _ _ code => decide (code.toNat ≠ 0 ∧ code.toNat ≠ 0x110 ∧ code.toNat ≠ 0x120)
  | .mailboxTimeout _ => true
  | .tileCommit _ _ => true
  | .tileAbort _ _ => true
  | .tileClrState _ _ => true
  | .stagedApply g => groupWf g
  | .jointCommitGo _ => true
  | .jointCommitAbort _ => true
  | .jointCommitApply _ => true
  | .winClr _ _ => true
  | .macAccClr _ _ => true
  | .tileUpdate _ _ _ => true
  | .imageVerify _ _ _ => true
  | .imageLoad _ _ _ => true
  | .imageProgramA _ _ _ => true
  | .imageProgramB _ _ _ => true
  | .bootImageLoad => true
  | .integrityScrubPass _ => true
  | .sampleStrobe _ _ _ => true
  | .snapRequest _ => true
  | .snapshotTaken => true
  | .syncEdgeLoss => true
  | .rateSwitch => true
  | .calibrationSequenceEnd _ _ _ => true
  | .referenceCrossCheck _ => true
  | .dividerTrackingUpdate _ _ => true
  | .trkRestart _ _ => true
  | .slowCountIncrement _ _ _ => true
  | .watchVoltageBurst _ => true
  | .watchEntry _ _ => true
  | .watchWake _ _ _ => true
  | .dormantEntry _ => true
  | .dormantWake _ => true
  | .wakeTimer => true
  | .ledgerBoundary => true
  | .ledgerEarlyClose sub => decide (sub < 32768)
  | .ledgerCloseRequest _ => true
  | .assignCommit _ => true
  | .assignAbort _ => true
  | .ledgerRecordWritten => true
  | .lqDelivery _ => true
  | .ledgerStart => true
  | .orderEngineStart => true
  | .orderCopy => true
  | .admissionDecision => true
  | .decisionOverload => true
  | .orderStart _ => true
  | .orderDeadline _ => true
  | .controlPeriod => true
  | .cqRecordWrite _ => true
  | .orderCancel _ => true
  | .orderQuery _ _ => true
  | .capWrite _ _ _ => true
  | .resourceRemoval => true
  | .replanComplete => true
  | .discardAll => true
  | .scoutUpdate _ balls _ => balls.all (fun b => decide (b.1 < 2 ^ 80))
  | .scoutTimeout => true
  | .handbackStart => true
  | .handbackComplete => true
  | .scoutEnableWrite _ _ => true
  | .scoutLevelCommit _ => true
  | .scoutLevelAbort _ => true
  | .scoutSquash _ => true
  | .shadowPlanRecompute => true
  | .pwmPeriodStart _ _ _ _ => true
  | .groupStart _ _ => true
  | .senseCheck _ _ => true
  | .groupStop _ => true
  | .groupStopComplete _ _ => true
  | .phaseOvercurrent _ _ _ => true
  | .prefRenewalTimeout _ => true
  | .brakeStart _ => true
  | .syncInLoss _ => true
  | .syncInReacquire _ => true
  | .shareUpdate _ => true
  | .spareCapacityCheck => true
  | .trimStep _ => true
  | .cnvRackCommit _ => true
  | .cnvRackAbort _ => true
  | .dutyLimitCommit _ _ => true
  | .dutyLimitAbort _ _ => true
  | .shareEnable _ => true
  | .pvGroupStart _ => true
  | .pvGroupStop _ => true
  | .pvGroupFault _ _ => true
  | .mpptStep _ => true
  | .mpptScanStep _ => true
  | .ccReturn _ => true
  | .chargeTermination _ => true
  | .chargePowerHeld _ => true
  | .cellOv _ => true
  | .safetyTimerExpiry _ => true
  | .stringLossCharging _ => true
  | .clampRelease _ => true
  | .chargeLimitCommit _ _ => true
  | .chargeLimitAbort _ _ => true
  | .canEnable _ _ _ => true
  | .canFrameReceived _ _ _ _ data _ => decide (data.length ≤ 64)
  | .canPoll _ => true
  | .canWatchBurst => true
  | .busOffRecovery _ => true
  | .presenceTimeout _ => true
  | .estimatorStart => true
  | .estimatorUpdate _ => true
  | .estimatorNvWrite => true
  | .estSave _ => true
  | .persVolatileWrite _ => true
  | .moduleValueWrite _ _ _ _ => true
  | .efuseTick _ _ _ _ => true
  | .hardShort _ _ => true
  | .gateOffCheck _ _ => true
  | .efuseEnableWrite _ _ _ => true
  | .efuseEnableBall _ _ => true
  | .capGraceExpiry _ => true
  | .feedChangeover _ => true
  | .feedReturn _ => true
  | .deadTimeElapsed _ => true
  | .contactorCloseRequest _ _ => true
  | .contactorOpenRequest _ _ => true
  | .prechargeComplete _ => true
  | .prechargeTimeout _ => true
  | .kfClosed _ => true
  | .kfFail _ => true
  | .overlapEnd _ => true
  | .kfDrop _ => true
  | .kfWeld _ => true
  | .kfOpened _ => true
  | .kflagRead _ _ => true
  | .estopAssert => true
  | .estopRelease => true
  | .sequencerTick _ _ _ => true
  | .railFaultSet _ _ => true
  | .railWarningSet _ _ => true
  | .railOvercurrent _ => true
  | .powerUpSequence _ => true
  | .powerDownSequence _ => true
  | .sequenceStepComplete => true
  | .sequenceDelayElapsed => true
  | .powerUpStepTimeout => true
  | .powerDownStepTimeout => true
  | .resetStretchEnd _ => true
  | .systemInputCollapse => true
  | .systemInputRecover => true
  | .linkEnable _ _ => true
  | .queenStart => true
  | .linkCycle missed => decide (missed ≤ 15)
  | .workerCycleMarker _ => true
  | .beaconReceived frame => decide (frame.length ≤ 67)
  | .statusReceived frame => decide (frame.length ≤ 35)
  | .itemQuote _ _ _ _ => true
  | .itemPartResult _ _ _ => true
  | .itemPartReached _ _ => true
  | .itemPartEnded _ _ _ => true
  | .itemPartString _ _ _ _ => true
  | .itemPartHeld _ => true
  | .quoteReqReceived record => decide (record.length = 64)
  | .partReceived record => decide (record.length = 64)
  | .withdrawReceived _ => true
  | .resetFrameReceived _ _ => true
  | .quoteAnswerTimeout _ => true
  | .linkLoss => true
  | .workerAbsent _ => true
  | .barrierAnnounce _ _ _ => true
  | .barrierPartStart => true
  | .barrierPartEnd => true
  | .barrierSeqUp => true
  | .barrierSeqDown => true
  | .barrierLdgClose => true
  | .sendReset _ _ _ => true
  | .errorLineAssert _ => true
  | .faultPulseEnd => true
  | .faultClassCommit _ => true
  | .faultClassAbort _ => true
  | .faultInject _ _ => true
  | .powerOnReset => true
  | .aoPowerUp => true
  | .resetPin => true
  | .softwareReset _ _ => true
  | .criticalEccError => true
  | .deviceReset _ => true
  | .resetRelease _ _ => true
  | .bootFirmwareSelect => true
  | .blockReset _ _ => true
  | .blockResetRelease _ _ => true
  | .isolationTimeout => true
  | .ringFrameWrite => true
  | .eventEntryWrite => true
  | .bqDelivery => true
  | .eventLogScan => true
  | .waveformSeal => true
  | .waveformHostTrigger _ => true
  | .hostMark _ => true
  | .hfxoCheckWindow _ _ => true
  | .hfxoStartTimeout => true
  | .hfxoRestart => true
  | .hfxoLoss => true
  | .hfxoStop _ => true
  | .hfxoStart _ => true
  | .pllLossOfLock => true
  | .pllRelock => true
  | .pllRelockTimeout => true
  | .sysclkMonitorTrip => true
  | .aclkCrystalFail => true
  | .aclkCrystalReturn => true
  | .hfrcTrim _ _ => true
  | .cdcTimeout _ _ => true
  | .rtcSecond => true
  | .rtcCapture _ => true
  | .rtcTimeCommit _ => true
  | .rtcTimeAbort _ => true
  | .rtcTimeApply _ => true
  | .osfClear _ => true
  | .tmrStart _ _ => true
  | .tmrStop _ _ => true
  | .tmrReset _ _ => true
  | .timerClockEdge _ => true
  | .timerCapture _ => true
  | .watchdogEnable _ _ => true
  | .watchdogService _ _ _ => true
  | .watchdogWindowOpen _ => true
  | .watchdogExpiry _ => true
  | .watchdogClockTrip => true
  | .evinBallEvent _ _ => true
  | .coalesceTimeout _ => true
  | .intcMaskSet _ _ _ => true
  | .intcMaskClr _ _ _ => true
  | .intcPendSet _ _ _ => true
  | .intcPendClr _ _ _ => true
  | .intcRouteWrite _ _ _ => true
  | .dieConversion _ => true
  | .remoteConversion _ => true
  | .throttleGraceExpiry _ => true
  | .throttleRelease _ => true
  | .zoneShutdownClear _ => true
  | .dieShutdown => true
  | .dieShutdownReset => true
  | .thermalRestart _ _ _ => true
  | .sensorDisable _ _ _ => true
  | .thmFlagRead _ _ => true
  | .zonePointCommit _ _ => true
  | .zonePointAbort _ _ => true
  | .otpWordRead _ _ _ => true
  | .otpProgram _ _ => true
  | .otpSeal _ _ => true
  | .otpRevoke _ _ => true
  | .otpRollback _ _ => true
  | .otpOperationEnd n _ _ => decide (n < 128)
  | .nvcWrite _ => true
  | .nvcCommit _ => true
  | .nvcClear _ => true
  | .nvcOperationEnd => true
  | .mramWordWrite _ _ => true
  | .tw1TransferGo _ _ => true
  | .tw1TransferDone _ rx => decide (rx.length ≤ 33)
  | .tw1ArbitrationLost _ _ => true
  | .tw1TargetWrite _ => true
  | .tw1TargetRead _ => true
  | .tw1Timeout => true
  | .vinLoss => true
  | .vaoLoss => true
  | .canBusError _ _ => true
  | .overshootEnd _ => true

end Sys2Proof
end

