-- ==== Sys2Proof/Tests/Slice0.lean ====
section
/-!
SUPPORT. Tests: the checks of WellFormed refuse ill-formed commands; examples from the spec; and, for each statement with
hypotheses, states and operands that meet them, clause by clause.
-/
set_option maxRecDepth 65536
namespace Sys2Proof.Tests
open Sys2Proof Sys2Proof.Machine

/-- The state with these fields written. -/
def put (l : List (Fld × Nat)) (s : State) : State := l.foldl (fun s e => s.fs e.1 e.2) s
/-- The state with these words written. -/
def putW (l : List (Nat × Word)) (s : State) : State := l.foldl (fun s e => s.wr e.1 e.2) s
/-- A section of `n` bytes that are 0 but for these. -/
def secOf (n : Nat) (l : List (Nat × Nat)) : List Byte := (List.range n).map (fun i => BitVec.ofNat 8 ((l.lookup i).getD 0))
/-- After the boot, with no image. -/
def tBoot : State := State.reset.setRst { State.reset.rst with firmware := true }
def tImage : Image := ⟨0x1234, 1, 1, 8, [
  (1, secOf 36 [(0, 4), (4, 1), (6, 0x70), (12, 2), (14, 0x78), (20, 3), (22, 0x50), (28, 4), (30, 0x71)]),
  (2, secOf 676 [(0, 2), (1, 1), (4, 1), (7, 1), (8, 100), (10, 0xE0), (11, 1), (20, 1), (22, 1), (24, 100), (26, 0xE0), (27, 1),
    (134, 3), (164, 4), (166, 0xE8), (167, 3), (228, 4), (230, 0xE8), (231, 3)]),
  (3, secOf 432 [(0, 1), (2, 2), (4, 3), (9, 0x96), (10, 0x98), (13, 0x42), (14, 0x0F), (16, 0), (17, 1), (18, 1), (21, 0x27),
    (32, 2), (33, 0xFF), (34, 1), (36, 4), (53, 0x27), (64, 2), (65, 0), (66, 1), (68, 8), (384, 1), (386, 100), (392, 1), (394, 100)]),
  (4, secOf 320 [(0, 1), (5, 0x10), (128, 1), (129, 2), (134, 0x10), (137, 0x10)]),
  (5, secOf 96 [(0, 2), (1, 0), (2, 1)]),
  (6, secOf 444 [(0, 1), (2, 1)]),
  (9, secOf 264 [(0, 2), (8, 0x23), (9, 1), (12, 0xFF), (13, 0xFF), (14, 0xFF), (15, 0x7F), (16, 1), (136, 0x24), (137, 1),
    (144, 3), (154, 100), (156, 0x25), (160, 2)]),
  (10, secOf 300 []),
  (11, secOf 24 [(5, 0x40), (9, 0x40), (13, 0x40)])]⟩
/-- After the boot, with an image of two strings, three groups and a feed in force. -/
def tLoad : State := tBoot.setImage (some tImage)
/-- The same as a worker. -/
def tWork : State := tBoot.setImage (some { tImage with secs := (2, secOf 676 [(0, 1), (1, 1), (2, 3), (4, 1), (7, 1)]) :: tImage.secs })
def tOrder : Order := ⟨7, 2, 0, 0, 1, 0, 0, 0, 0, 10000, 1000, 0, 0, 100, 0, 0, true, 0, 3, none, 0, [⟨0, 1, 0, 10⟩], [], [], [], false, 1, 0, 0⟩

/-! ### Ill-formed commands: one for each check of WellFormed -/

theorem test_wf_tw0_write : wellFormed (.tw0Write 0x80 0 [] 0 false false) = false := by decide
theorem test_wf_tw0_read : wellFormed (.tw0Read 0x30 0 1 false [2] 0) = false := by decide
theorem test_wf_spt_write : wellFormed (.sptWrite 1 0 1 [0, 0, 0, 0] 0 false false) = false := by decide
theorem test_wf_spt_read : wellFormed (.sptRead 0x1000000 0 0 false false []) = false := by decide
theorem test_wf_register_write : wellFormed (.registerWrite .spt 0x1000000 0 false) = false := by decide
theorem test_wf_rc_read : wellFormed (.rcRegisterRead .spt 0x010020) = false := by decide
theorem test_wf_lo_read : wellFormed (.loWordRead .spt 0x100404) = false := by decide
theorem test_wf_oq_doorbell : wellFormed (.oqDoorbell .spt 0 512) = false := by decide
theorem test_wf_head_doorbell : wellFormed (.headDoorbell .spt 0 512) = false := by decide
theorem test_wf_mailbox_code : wellFormed (.mailboxUnknownCode .spt 0 0x110) = false := by decide
theorem test_wf_staged_apply : wellFormed (.stagedApply (.tile 64)) = false := by decide
theorem test_wf_can_frame : wellFormed (.canFrameReceived 0 0 false false (List.replicate 65 0) 0) = false := by decide
theorem test_wf_link_cycle : wellFormed (.linkCycle 16) = false := by decide
theorem test_wf_beacon : wellFormed (.beaconReceived (List.replicate 68 0)) = false := by decide
theorem test_wf_status : wellFormed (.statusReceived (List.replicate 36 0)) = false := by decide
theorem test_wf_quote_req : wellFormed (.quoteReqReceived []) = false := by decide
theorem test_wf_part : wellFormed (.partReceived []) = false := by decide
theorem test_wf_otp_end : wellFormed (.otpOperationEnd 128 0 0) = false := by decide
theorem test_wf_tw1_done : wellFormed (.tw1TransferDone none (List.replicate 34 0)) = false := by decide
theorem test_wf_good : wellFormed (.registerWrite .tw0 0x150000 1 false) = true := by decide

/-! ### Values worked by hand from the rules -/

/-- R460, R461: 2000-01-01 was a Saturday; 29 February 2024 a Thursday. -/
theorem test_date_epoch : dateWord 0 = 0x07D06101 := by decide
theorem test_date_leap_day : dateWord (8825 * 86400) = 0x07E8421D := by decide
/-- R9: a W1C bit written as 1 clears; one written as 0 stays. -/
theorem test_w1c : applyMasks ⟨0, [], 0, 0, 0, 0, 0xFF, 0, 0, 0⟩ 0x0F 0x05 = 0x0A := by decide
/-- R118: the PEC polynomial is x⁸ + x² + x + 1, from 0. -/
theorem test_pec_one : pec [1] = 0x07 := by decide
/-- R124: the frame CRC starts from 0xFFFF. -/
theorem test_crc_empty : crc16 [] = 0xFFFF := by decide
/-- R502: the third conversion in a row at THR makes the request. -/
theorem test_throttle_third : throttleStep 600 600 false 2 false = (true, 3, true) := by decide
/-- R500: halfway between two points of the derating curve. -/
theorem test_derating_middle : deratingAt [(0, 1000), (100, 500)] 50 = 750 := by decide +kernel
/-- R98: a slot that holds no block answers DECODE_ERR and nothing is written. -/
theorem test_unmapped_write : writeWord 0x0F0000 1 false tLoad = (stDecodeErr, tLoad) := by decide
/-- R9: an RW word of the fault block takes the bits it has. -/
theorem test_fault_pin_word : ((writeWord Reg.FLT_PIN 0xFFFFFFFF false tLoad).2.rd Reg.FLT_PIN) = 1 := by decide
/-- One command of the queue is taken by a step. -/
theorem test_step_takes_one : (match step (tLoad.setPending [.rtcSecond, .rtcSecond]) with
    | .next t => t.pending | _ => []) = [.rtcSecond] := by decide
/-- The memories of State.reset are in canonical form. -/
theorem test_reset_memory : Memory.wf State.reset = true := by decide

/-! ### Hypotheses that states meet -/

theorem witness_StepTakesFrontCommand :
    ∃ (s : State), s.pending = [] :=
  ⟨tLoad, by decide⟩

theorem witness_ResetHoldsTheBlock :
    ∃ (c : Instr) (s : State), s.rst.asserted = true ∧ ActsInReset c = false :=
  ⟨.discardAll, (fun s => s.setRst { s.rst with asserted := true }) ((fun s => s.setRst { s.rst with asserted := true }) tLoad), by decide⟩

theorem witness_StepKeepsEventsShown :
    ∃ s t : State, EventsShown s ∧ step s = .next t :=
  ⟨State.reset.setRst { State.reset.rst with asserted := true }, _, ⟨fun _ => by decide, fun h => by cases h⟩, rfl⟩

theorem witness_StepCollectsErrorLines :
    ∃ s t : State, s.flt.lines = [] ∧ step s = .next t :=
  ⟨State.reset, _, rfl, rfl⟩

theorem witness_PortWritesExecute :
    (∃ (sa : Nat) (addr : Nat) (pecSent : Nat) (i : Nat) (data : List Byte) (s : State), Live s ∧ s.tw0Answers sa = some i ∧ data.length % 4 = 0 ∧ 4 ≤ data.length ∧ data.length ≤ 256 ∧ pec (BitVec.ofNat 8 (2 * sa) :: leBytes 3 addr ++ data) = pecSent) ∧
    (∃ (addr : Nat) (cnt : Nat) (crc : Nat) (data : List Byte) (s : State), s.portRuns .spt = true ∧ cnt < 64 ∧ data.length = 4 * (cnt + 1) ∧ crc16 (sptHeader 1 addr cnt ++ data) = crc) :=
  ⟨⟨0x30, 0x150000, pec (BitVec.ofNat 8 (2 * 0x30) :: leBytes 3 0x150000 ++ [1, 0, 0, 0]), 0, [1, 0, 0, 0], putW [(Reg.TWI_TW0_ADDR, 0xB0)] tLoad, by decide⟩,
   ⟨0x150000, 0, crc16 (sptHeader 1 0x150000 0 ++ [1, 0, 0, 0]), [1, 0, 0, 0], tLoad, by decide⟩⟩

theorem witness_TransactionsStop :
    (∃ (vpp : Bool) (before : List Word) (v : Word) (i : Nat) (a : Nat) (s : State) (s' : State), writeWords vpp i a before s = ((stOk, 0), s') ∧ s'.rst.asserted = false ∧ (writeWord (a + 4 * before.length) v vpp s').1 ≠ stOk) ∧
    (∃ (a : Nat) (d : List Word), (a % 4 ≠ 0 ∨ d = [] ∨ 64 < d.length ∨ placeOf a = none ∨ placeOf a ≠ placeOf (a + 4 * d.length - 1))) ∧
    (∃ (a : Nat) (n : Nat), (a % 4 ≠ 0 ∨ n = 0 ∨ 64 < n ∨ placeOf a = none ∨ placeOf a ≠ placeOf (a + 4 * n - 1))) :=
  ⟨⟨false, [], 1, 0, 0x0F0000, tLoad, tLoad, by decide⟩,
   ⟨1, [1], by decide⟩,
   ⟨1, 1, by decide⟩⟩

theorem witness_PortReadsAnswer :
    (∃ (sa : Nat) (addr : Nat) (cnt : Nat) (i : Nat) (bad : List Nat) (s : State), 
    let r := readTransaction .tw0 (addr % 2 ^ 24) (cnt % 256 + 1) bad (s.tw0Heard i)
    Live s ∧ s.tw0Answers sa = some i ∧ s.port0.fetch = none ∧ r.2.2.rst.asserted = false) ∧
    (∃ (addr : Nat) (cnt : Nat) (crc : Nat) (mode3 : Bool) (bad : List Nat) (s : State), 
    let r := readTransaction .spt (addr % 2 ^ 24) (cnt + 1) bad (s.fs Fld.SPT_STAT_MODE3 (if mode3 then 1 else 0))
    s.portRuns .spt = true ∧ s.port1.fetch = none ∧ cnt < 64 ∧ crc16 (sptHeader 2 addr cnt) = crc ∧ r.2.2.rst.asserted = false) ∧
    (∃ (p : Port) (a : Nat) (n : Nat) (bad : List Nat) (s : State), 
    let r := fetchTransaction p a n bad s
    Live s ∧ (s.port p).fetch = some (a, n, none) ∧ r.2.2.rst.asserted = false) ∧
    (∃ (sa : Nat) (i : Nat) (s : State), Live s ∧ s.tw0Answers sa = some i ∧ s.port0.fetch = none) ∧
    (∃ (sa : Nat) (addr : Nat) (cnt : Nat) (i : Nat) (st : Nat) (d : List Word) (s : State), 
    let u := fetchedEffects (addr % 2 ^ 24) d (s.tw0Heard i)
    Live s ∧ s.tw0Answers sa = some i ∧ s.port0.fetch = some (addr % 2 ^ 24, cnt % 256 + 1, some (st, d)) ∧ u.rst.asserted = false) ∧
    (∃ (s : State), Live s ∧ s.fb Fld.TWI_TW0_CFG_TMO_EN = true) ∧
    (∃ (s : State), s.portRuns .spt = true) :=
  ⟨⟨0x30, 0x150000, 1, 0, [], putW [(Reg.TWI_TW0_ADDR, 0xB0)] tLoad, by dsimp only; decide⟩,
   ⟨0x150000, 1, crc16 (sptHeader 2 0x150000 1), true, [], tLoad, by dsimp only; decide⟩,
   ⟨.tw0, 0x150000, 2, [], (fun s => s.setPort0 { s.port0 with fetch := some (0x150000, 2, none) }) tLoad, by dsimp only; decide⟩,
   ⟨0x30, 0, putW [(Reg.TWI_TW0_ADDR, 0xB0)] tLoad, by decide⟩,
   ⟨0x30, 0x150000, 1, 0, 1, [0, 0], (fun s => s.setPort0 { s.port0 with fetch := some (0x150000, 2, some (1, [0, 0])) }) (putW [(Reg.TWI_TW0_ADDR, 0xB0)] tLoad), by dsimp only; decide⟩,
   ⟨put [(Fld.TWI_TW0_CFG_TMO_EN, 1)] tLoad, by decide⟩,
   ⟨tLoad, by decide⟩⟩

theorem witness_AccessCodesByBit :
    ∃ (i : Nat), i < 32 :=
  ⟨1, by decide⟩

theorem witness_WordsReadAndWrite :
    (∃ (p : Port) (a : Nat) (v : Word) (r : RegRow) (s : State), PlainWord a ∧ a % 4 = 0 ∧ Reach p a s ∧ rowOf a = some r ∧ r.staged = 0 ∧ ((((s.rd a ^^^ v) &&& BitVec.ofNat 32 r.held) = 0 ∨ s.heldNow a = false)) ∧ valueOk r a v s = true) ∧
    (∃ (p : Port) (a : Nat) (r : RegRow) (s : State), Reach p a s ∧ PlainRead a ∧ rowOf a = some r ∧ r.rc ≠ 0 ∧ upperOf a s = none ∧ kvGet (fun _ => none) s.caps a = none) ∧
    (∃ (p : Port) (a : Nat) (h : Nat) (r : RegRow) (s : State), Reach p a s ∧ PlainRead a ∧ rowOf a = some r ∧ r.rc = 0 ∧ upperOf a s = some h ∧ kvGet (fun _ => none) s.caps a = none) ∧
    (∃ (p : Port) (a : Nat) (w : Word) (r : RegRow) (s : State), Reach p a s ∧ PlainRead a ∧ rowOf a = some r ∧ r.rc = 0 ∧ upperOf a (s.setCap a none) = none ∧ kvGet (fun _ => none) s.caps a = some w) :=
  ⟨⟨.spt, Reg.FLT_PIN, 0x00000001, ⟨0x010020, [], 0x0, 0x1, 0x0, 0x0, 0x0, 0x0, 0x0, 0x0⟩, tLoad, by decide⟩,
   ⟨.spt, 0x030010, ⟨0x030010, [], 0x0, 0x0, 0x0, 0x0, 0xFF, 0x0, 0x0, 0xFF0000⟩, tLoad, by decide⟩,
   ⟨.spt, 0x100400, 0x100404, ⟨0x100400, [(64, 10)], 0x0, 0x0, 0x0, 0x0, 0x0, 0x0, 0x0, 0x0⟩, tLoad, by decide⟩,
   ⟨.spt, 0x100404, 5, ⟨0x100404, [(64, 10)], 0x0, 0x0, 0x0, 0x0, 0x0, 0x0, 0x0, 0x0⟩, (fun s => s.setCap 0x100404 (some 5)) tLoad, by decide⟩⟩

theorem witness_QueuesMove :
    (∃ (p : Port) (q : Fin 64) (v : Word) (s : State), Reach p (Reg.SYS_Q_CFG q) s ∧ s.qEnabled q = false ∧ bitOf v.toNat 0 = true ∧ 2 ≤ fldOf v 20 4 ∧ fldOf v 20 4 ≤ 8 ∧ s.ringFits q (ringSpan q (fldOf v 6 13) (fldOf v 20 4)) = true) ∧
    (∃ (p : Port) (q : Fin 32) (index : Nat) (s : State), Reach p (Reg.SYS_Q_DB q) s ∧ s.fb Fld.ORD_STAT_DISCARDING = false ∧ s.ord.started = true ∧ s.loading = false ∧ s.qEnabled q = true ∧ index < 512 ∧ index < 2 * s.qDepth q ∧ s.qCount q + (index + 2 * s.qDepth q - s.fg (Fld.SYS_Q_PTR_TAIL q)) % (2 * s.qDepth q) ≤ s.qDepth q) ∧
    (∃ (p : Port) (q : Fin 32) (index : Nat) (s : State), Reach p (Reg.SYS_Q_DB (q + 32)) s ∧ s.qEnabled (q + 32) = true ∧ index < 512 ∧ index < 2 * s.qDepth (q + 32) ∧ (index + 2 * s.qDepth (q + 32) - s.fg (Fld.SYS_Q_PTR_HEAD (q + 32))) % (2 * s.qDepth (q + 32)) ≤ s.qCount (q + 32)) ∧
    (∃ (p : Port) (q : Fin 32) (index : Nat) (s : State), Reach p (Reg.SYS_Q_DB q) s ∧ index < 512 ∧ ((s.fb Fld.ORD_STAT_DISCARDING = true ∨ s.ord.started = false))) ∧
    (∃ (p : Port) (q : Fin 32) (index : Nat) (s : State), Reach p (Reg.SYS_Q_DB q) s ∧ index < 512 ∧ s.fb Fld.ORD_STAT_DISCARDING = false ∧ s.ord.started = true ∧ s.loading = true) ∧
    (∃ (p : Port) (q : Fin 32) (index : Nat) (s : State), Reach p (Reg.SYS_Q_DB q) s ∧ index < 512 ∧ s.fb Fld.ORD_STAT_DISCARDING = false ∧ s.ord.started = true ∧ s.loading = false ∧ ((s.qEnabled q = false ∨ 2 * s.qDepth q ≤ index))) ∧
    (∃ (p : Port) (q : Fin 32) (index : Nat) (s : State), Reach p (Reg.SYS_Q_DB q) s ∧ index < 512 ∧ s.fb Fld.ORD_STAT_DISCARDING = false ∧ s.ord.started = true ∧ s.loading = false ∧ s.qEnabled q = true ∧ index < 2 * s.qDepth q ∧ s.qDepth q < s.qCount q + (index + 2 * s.qDepth q - s.fg (Fld.SYS_Q_PTR_TAIL q)) % (2 * s.qDepth q)) :=
  ⟨⟨.spt, 0, 0x00200001, put [((Fld.SYS_Q_CFG_EN 0), 0)] tLoad, by decide⟩,
   ⟨.spt, 0, 1, (fun s => s.setOrd { s.ord with started := true }) (put [(Fld.ORD_STAT_DISCARDING, 0), (Fld.CMB_LOAD_STAT_BUSY, 0), ((Fld.SYS_Q_CFG_EN 0), 1)] tLoad), by decide⟩,
   ⟨.spt, 0, 1, put [((Fld.SYS_Q_CFG_EN (0 + 32)), 1), ((Fld.SYS_Q_CFG_DEPTHLOG 32), 2), ((Fld.SYS_Q_PTR_TAIL 32), 2)] tLoad, by decide⟩,
   ⟨.spt, 0, 1, put [(Fld.ORD_STAT_DISCARDING, 1)] tLoad, by decide⟩,
   ⟨.spt, 0, 1, (fun s => s.setOrd { s.ord with started := true }) (put [(Fld.ORD_STAT_DISCARDING, 0), (Fld.CMB_LOAD_STAT_BUSY, 1)] tLoad), by decide⟩,
   ⟨.spt, 0, 1, (fun s => s.setOrd { s.ord with started := true }) (put [(Fld.ORD_STAT_DISCARDING, 0), (Fld.CMB_LOAD_STAT_BUSY, 0), ((Fld.SYS_Q_CFG_EN 0), 0)] tLoad), by decide⟩,
   ⟨.spt, 0, 5, (fun s => s.setOrd { s.ord with started := true }) (put [(Fld.ORD_STAT_DISCARDING, 0), (Fld.CMB_LOAD_STAT_BUSY, 0), ((Fld.SYS_Q_CFG_EN 0), 1), ((Fld.SYS_Q_CFG_DEPTHLOG 0), 2)] tLoad), by decide⟩⟩

theorem witness_MailboxServes :
    (∃ (p : Port) (m : Fin 4) (s : State), Reach p (Reg.KPR_MB_CTL m) s ∧ s.fb (Fld.KPR_MB_STAT_BUSY m) = false ∧ s.keyed.contains (m : Nat) = false) ∧
    (∃ (p : Port) (m : Fin 4) (code : BitVec 16) (s : State), Reach p (Reg.KPR_MB_CTL m) s ∧ s.fb (Fld.KPR_MB_STAT_BUSY m) = false ∧ s.keyed.contains (m : Nat) = false ∧ code ≠ 0 ∧ code ≠ 0x0110 ∧ code ≠ 0x0120) ∧
    (∃ (m : Fin 4) (s : State), Live s ∧ s.fb (Fld.KPR_MB_STAT_BUSY m) = true) ∧
    (∃ (m : Fin 4) (s : State), Live s ∧ s.serving m 0x0110 = true ∧ bitOf (s.otpWord 2).toNat 9 = true ∧ bitOf (s.otpWord 0x180).toNat (fldOf (s.rd (Reg.KPR_MB_DATA m 0)) 0 4) = false) ∧
    (∃ (m : Fin 4) (s : State), Live s ∧ s.serving m 0x0120 = true ∧ bitOf (s.otpWord 2).toNat 9 = true ∧ bitOf (s.otpWord 0x180).toNat 16 = false) :=
  ⟨⟨.spt, 0, put [((Fld.KPR_MB_STAT_BUSY 0), 0)] tLoad, by decide⟩,
   ⟨.spt, 0, 1, put [((Fld.KPR_MB_STAT_BUSY 0), 0)] tLoad, by decide⟩,
   ⟨0, put [((Fld.KPR_MB_STAT_BUSY 0), 1)] tLoad, by decide⟩,
   ⟨0, (fun s => s.setOtpWord 2 0x200) (put [((Fld.KPR_MB_STAT_BUSY 0), 1), ((Fld.KPR_MB_CTL_CODE 0), 0x0110)] tLoad), by decide⟩,
   ⟨0, (fun s => s.setOtpWord 2 0x200) (put [((Fld.KPR_MB_STAT_BUSY 0), 1), ((Fld.KPR_MB_CTL_CODE 0), 0x0120)] tLoad), by decide⟩⟩

theorem witness_CommitsAreJudged :
    (∃ (p : Port) (n : Fin 8) (s : State), Reach p (Reg.CHG_S_CTL n) s ∧ s.groupBusy (.chg n) = false ∧ s.stagedOf (.chg n) ≠ [] ∧ commitCheck s (.chg n) = 0 ∧ s.charging n = false) ∧
    (∃ (c : Instr) (p : Port) (g : Group) (a : Nat) (s : State), commitTarget c = some (p, g, a) ∧ Reach p a s ∧ s.groupBusy g = false ∧ s.stagedOf g = []) ∧
    (∃ (p : Port) (t : Fin 64) (s : State), Reach p (Reg.CMB_T_CTL t) s ∧ s.tileUsed t = true ∧ s.groupBusy (.tile t) = false ∧ s.stagedOf (.tile t) ≠ [] ∧ commitCheck s (.tile t) = 0) ∧
    (∃ (p : Port) (s : State), Reach p Reg.LDG_CTL s ∧ Committable s .ldgAssign) ∧
    (∃ (p : Port) (s : State), Reach p Reg.SCT_CTL s ∧ Committable s .sct) ∧
    (∃ (p : Port) (s : State), Reach p Reg.CNV_CTL s ∧ Committable s .cnvRack) ∧
    (∃ (p : Port) (s : State) (g : Fin 12), Reach p (Reg.CNV_CG_CTL g) s ∧ Committable s (.cnvGroup g)) ∧
    (∃ (p : Port) (s : State) (n : Fin 8), Reach p (Reg.CHG_S_CTL n) s ∧ Committable s (.chg n) ∧ s.charging n = true) ∧
    (∃ (p : Port) (s : State), Reach p Reg.FLT_CTL s ∧ Committable s .flt) ∧
    (∃ (p : Port) (s : State), Reach p Reg.RTC_CTL s ∧ Committable s .rtc) ∧
    (∃ (p : Port) (s : State) (h : Fin 4), Reach p (Reg.THM_Z_CTL h) s ∧ Committable s (.zone h)) ∧
    (∃ (c : Instr) (p : Port) (g : Group) (a : Nat) (s : State), commitTarget c = some (p, g, a) ∧ Reach p a s ∧ s.groupBusy g = true) ∧
    (∃ (c : Instr) (p : Port) (g : Group) (a : Nat) (s : State), commitTarget c = some (p, g, a) ∧ Reach p a s ∧ s.groupBusy g = false ∧ s.stagedOf g ≠ [] ∧ commitCheck s g ≠ 0) ∧
    (∃ (p : Port) (s : State), Reach p Reg.LDG_CTL s ∧ s.groupBusy .ldgAssign = false) ∧
    (∃ (p : Port) (s : State), Reach p Reg.SCT_CTL s ∧ s.groupBusy .sct = false) ∧
    (∃ (p : Port) (s : State), Reach p Reg.CNV_CTL s ∧ s.groupBusy .cnvRack = false) ∧
    (∃ (p : Port) (s : State) (g : Fin 12), Reach p (Reg.CNV_CG_CTL g) s ∧ s.groupBusy (.cnvGroup g) = false) ∧
    (∃ (p : Port) (s : State) (n : Fin 8), Reach p (Reg.CHG_S_CTL n) s ∧ s.groupBusy (.chg n) = false) ∧
    (∃ (p : Port) (s : State), Reach p Reg.FLT_CTL s ∧ s.groupBusy .flt = false) ∧
    (∃ (p : Port) (s : State), Reach p Reg.RTC_CTL s ∧ s.groupBusy .rtc = false) ∧
    (∃ (p : Port) (s : State) (h : Fin 4), Reach p (Reg.THM_Z_CTL h) s ∧ s.groupBusy (.zone h) = false) ∧
    (∃ (p : Port) (s : State) (t : Fin 64), Reach p (Reg.CMB_T_CTL t) s ∧ s.tileUsed t = true ∧ s.groupBusy (.tile t) = false) ∧
    (∃ (c : Instr) (p : Port) (g : Group) (a : Nat) (s : State), commitTarget c = some (p, g, a) ∧ Reach p a s ∧
    s.groupBusy g = false ∧ s.stagedOf g ≠ [] ∧ commitCheck s g = 0 ∧ ∀ n, g = .chg n → s.charging n = true) ∧
    (∃ (c : Instr) (p : Port) (g : Group) (a : Nat) (s : State), abortTarget c = some (p, g, a) ∧ Reach p a s ∧
    (∀ t, g = .tile t → s.tileUsed t = true) ∧ s.groupBusy g = false) ∧
    (∃ (c : Instr) (p : Port) (g : Group) (a : Nat) (s : State), abortTarget c = some (p, g, a) ∧ Reach p a s ∧
    (∀ t, g = .tile t → s.tileUsed t = true) ∧ s.groupBusy g = true) :=
  ⟨⟨.spt, 0, (fun s => s.setStaging [⟨.chg 0, Reg.CHG_S_LIM 0, 0xFFFFFFFF, 0x00010064⟩]) tLoad, by decide⟩,
   ⟨.scoutLevelCommit .spt, .spt, .sct, Reg.SCT_CTL, tLoad, by decide⟩,
   ⟨.spt, 0, (fun s => s.setStaging [⟨.tile 0, tileBase 0 + 0x40, 0xFFFFFFFF, 5⟩]) (put [((Fld.CMB_T_ID_KIND 0), 2)] tLoad), by decide⟩,
   ⟨.spt, (fun s => s.setStaging [⟨.ldgAssign, 0x110400, 0xFFFFFFFF, 5⟩]) tLoad, by decide⟩,
   ⟨.spt, (fun s => s.setStaging [⟨.sct, 0x130020, 0xFFFFFFFF, 0x00010002⟩, ⟨.sct, 0x130024, 0xFFFFFFFF, 0x00030004⟩, ⟨.sct, 0x130028, 0xFFFFFFFF, 0x00050006⟩]) tLoad, by decide⟩,
   ⟨.spt, (fun s => s.setStaging [⟨.cnvRack, 0x140020, 0xFFFFFFFF, 0x01000200⟩]) tLoad, by decide⟩,
   ⟨.spt, (fun s => s.setStaging [⟨.cnvGroup 0, (Fld.CNV_CG_DLIM_DMIN 0).addr, 0xFFFFFFFF, 0x00640001⟩]) tLoad, 0, by decide⟩,
   ⟨.spt, (fun s => s.setStaging [⟨.chg 0, Reg.CHG_S_LIM 0, 0xFFFFFFFF, 0x00010064⟩]) ((fun s => s.setGrp 2 { grp0 with stage := 3 }) (put [((Fld.CNV_CG_STAT_MODE 2), 4)] tLoad)), 0, by decide⟩,
   ⟨.spt, (fun s => s.setStaging [⟨.flt, 0x010F00, 0xFFFFFFFF, 0⟩]) tLoad, by decide⟩,
   ⟨.spt, (fun s => s.setStaging [⟨.rtc, Reg.RTC_SET_LO, 0xFFFFFFFF, 5⟩]) tLoad, by decide⟩,
   ⟨.spt, (fun s => s.setStaging [⟨.zone 0, (Fld.THM_Z_PT0_T 0).addr + 0, 0xFFFFFFFF, 0⟩, ⟨.zone 0, (Fld.THM_Z_PT0_T 0).addr + 4, 0xFFFFFFFF, 1⟩, ⟨.zone 0, (Fld.THM_Z_PT0_T 0).addr + 8, 0xFFFFFFFF, 2⟩, ⟨.zone 0, (Fld.THM_Z_PT0_T 0).addr + 12, 0xFFFFFFFF, 3⟩, ⟨.zone 0, (Fld.THM_Z_PT0_T 0).addr + 16, 0xFFFFFFFF, 4⟩, ⟨.zone 0, (Fld.THM_Z_PT0_T 0).addr + 20, 0xFFFFFFFF, 5⟩, ⟨.zone 0, (Fld.THM_Z_PT0_T 0).addr + 24, 0xFFFFFFFF, 6⟩, ⟨.zone 0, (Fld.THM_Z_PT0_T 0).addr + 28, 0xFFFFFFFF, 7⟩]) tLoad, 0, by decide⟩,
   ⟨.scoutLevelCommit .spt, .spt, .sct, Reg.SCT_CTL, (fun s => s.setCommits [.sct]) tLoad, by decide⟩,
   ⟨.scoutLevelCommit .spt, .spt, .sct, Reg.SCT_CTL, (fun s => s.setStaging [⟨.sct, 0x130020, 0xFFFFFFFF, 0x00020001⟩]) tLoad, by decide⟩,
   ⟨.spt, tLoad, by decide⟩,
   ⟨.spt, tLoad, by decide⟩,
   ⟨.spt, tLoad, by decide⟩,
   ⟨.spt, tLoad, 0, by decide⟩,
   ⟨.spt, tLoad, 0, by decide⟩,
   ⟨.spt, tLoad, by decide⟩,
   ⟨.spt, tLoad, by decide⟩,
   ⟨.spt, tLoad, 0, by decide⟩,
   ⟨.spt, put [((Fld.CMB_T_ID_KIND 0), 2)] tLoad, 0, by decide⟩,
   ⟨.scoutLevelCommit .spt, .spt, .sct, Reg.SCT_CTL, tWork.setStaging [⟨.sct, 0x130020, 0xFFFFFFFF, 0x00010002⟩, ⟨.sct, 0x130024, 0xFFFFFFFF, 0x00030004⟩, ⟨.sct, 0x130028, 0xFFFFFFFF, 0x00050006⟩], rfl, by decide, by decide, by decide, by decide, fun _ h => (nomatch h)⟩,
   ⟨.scoutLevelAbort .spt, .spt, .sct, Reg.SCT_CTL, tLoad, by exact ⟨by decide, by decide, fun _ h => (nomatch h), by decide⟩⟩,
   ⟨.scoutLevelAbort .spt, .spt, .sct, Reg.SCT_CTL, tLoad.setCommits [.sct], by exact ⟨by decide, by decide, fun _ h => (nomatch h), by decide⟩⟩⟩

theorem witness_AppliedTogether :
    (∃ (g : Group) (s : State) (e : _), (s.stagedOf g).Pairwise (fun x y => x.addr ≠ y.addr) ∧ e ∈ s.stagedOf g) ∧
    (∃ (g : Group) (s : State) (a : _), (s.stagedOf g).Pairwise (fun x y => x.addr ≠ y.addr) ∧ ((∀ e ∈ s.stagedOf g, e.addr ≠ a))) ∧
    (∃ (g : Group) (s : State), (s.stagedOf g).Pairwise (fun x y => x.addr ≠ y.addr)) ∧
    (∃ (g : Group) (s : State) (h : _), (s.stagedOf g).Pairwise (fun x y => x.addr ≠ y.addr) ∧ h ≠ g) :=
  ⟨⟨.sct, (fun s => s.setStaging [⟨.sct, 8, 1, 1⟩]) tLoad, ⟨.sct, 8, 1, 1⟩, by decide⟩,
   ⟨.sct, (fun s => s.setStaging [⟨.sct, 8, 1, 1⟩]) tLoad, 4, by decide⟩,
   ⟨.sct, tLoad, by decide⟩,
   ⟨.sct, (fun s => s.setStaging [⟨.sct, 8, 1, 1⟩]) tLoad, .chg 0, by decide⟩⟩

theorem witness_CommitsApply :
    (∃ (g : Group) (s : State), Live s ∧ g ≠ .ldgAssign ∧ g ≠ .rtc ∧ s.cpend g = true) ∧
    (∃ (p : Port) (s : State), Reach p Reg.CMB_JC_CTL s ∧ s.joint = none ∧ ((∀ x ∈ s.jointMembers, s.cpend x.2 = false)) ∧ ((∀ x ∈ s.jointMembers, commitCheck s x.2 = 0))) ∧
    (∃ (m : List Group) (s : State), Live s ∧ s.joint = some m ∧ .ldgAssign ∉ m ∧ .rtc ∉ m) ∧
    (∃ (p : Port) (s : State), Reach p Reg.CMB_JC_CTL s ∧ s.joint = none ∧ ((∀ x ∈ s.jointMembers, s.cpend x.2 = false))) :=
  ⟨⟨.sct, (fun s => s.setCommits [.sct]) tLoad, by decide⟩,
   ⟨.spt, tLoad, by decide⟩,
   ⟨[.sct], (fun s => s.setJoint (some [.sct])) tLoad, by decide⟩,
   ⟨.spt, tLoad, by decide⟩⟩

theorem witness_TilesUpdate :
    (∃ (p : Port) (t : Fin 64) (s : State), Reach p (Reg.CMB_T_CTL t) s ∧ s.tileUsed t = true ∧ s.tileRuns t = false) ∧
    (∃ (p : Port) (t : Fin 64) (s : State), Reach p (tileBase t + 0x58) s ∧ s.tileKind t = 3) ∧
    (∃ (p : Port) (t : Fin 64) (s : State), Reach p (tileBase t + 0x5C) s ∧ s.tileKind t = 5) ∧
    (∃ (t : Fin 64) (s : State), Live s ∧ s.tileRuns t = true ∧ s.cpend (.tile t) = false ∧ (∀ n, s.cpend (.chg n) = false) ∧ s.tileKind t = 2) ∧
    (∃ (t : Fin 64) (s : State), Live s ∧ s.tileRuns t = true ∧ s.cpend (.tile t) = false ∧ (∀ n, s.cpend (.chg n) = false) ∧ s.tileKind t = 5 ∧ s.rd (tileBase t + 0x40) = 1) :=
  ⟨⟨.spt, 0, put [((Fld.CMB_T_ID_KIND 0), 2)] tBoot, by decide⟩,
   ⟨.spt, 0, put [((Fld.CMB_T_ID_KIND 0), 3)] tLoad, by decide⟩,
   ⟨.spt, 0, put [((Fld.CMB_T_ID_KIND 0), 5)] tLoad, by decide⟩,
   ⟨0, put [(Fld.CMB_T_ID_KIND 0, 2)] tWork, by decide, by decide, by decide, fun _ => rfl, by decide⟩,
   ⟨0, (put [(Fld.CMB_T_ID_KIND 0, 5)] tWork).wr (tileBase 0 + 0x40) 1, by decide, by decide, by decide, fun _ => rfl, by decide⟩⟩

theorem witness_WindowsAndTileRules :
    (∃ (hi : Int) (lo : Int) (hys : Int) (x : Int) (dset : Nat) (dclr : Nat) (st : Nat) (cnt : Nat) (dir : Nat) (latch : Bool) (clr : Bool), 
    let n := (winNext hi lo hys dset dclr st cnt dir latch clr x).1
    st ≤ 2 ∧ st = 0 ∧ n = 1) ∧
    (∃ (hi : Int) (lo : Int) (hys : Int) (x : Int) (dset : Nat) (dclr : Nat) (st : Nat) (cnt : Nat) (dir : Nat) (latch : Bool) (clr : Bool), 
    let n := (winNext hi lo hys dset dclr st cnt dir latch clr x).1
    st ≤ 2 ∧ st = 0 ∧ n = 2) ∧
    (∃ (hi : Int) (lo : Int) (hys : Int) (x : Int) (dset : Nat) (dclr : Nat) (st : Nat) (cnt : Nat) (dir : Nat) (latch : Bool) (clr : Bool), 
    let n := (winNext hi lo hys dset dclr st cnt dir latch clr x).1
    st ≤ 2 ∧ latch = false ∧ st = 1 ∧ n = 0) ∧
    (∃ (hi : Int) (lo : Int) (hys : Int) (x : Int) (dset : Nat) (dclr : Nat) (st : Nat) (cnt : Nat) (dir : Nat) (latch : Bool) (clr : Bool), 
    let n := (winNext hi lo hys dset dclr st cnt dir latch clr x).1
    st ≤ 2 ∧ latch = false ∧ st = 2 ∧ n = 0) ∧
    (∃ (st : Nat) (latch : Bool), st ≤ 2 ∧ latch = true ∧ st ≠ 0) ∧
    (∃ (st : Nat), st ≤ 2) ∧
    (∃ (t : Nat) (s : State), s.tileKind t = 2) ∧
    (∃ (t : Nat) (s : State), s.tileKind t = 3) ∧
    (∃ (t : Nat) (s : State), s.tileKind t = 1 ∧ (s.rd (tileBase t + 0x40)).toNat = 0) :=
  ⟨⟨10, -10, 2, 11, 0, 0, 0, 0, 0, false, false, by dsimp only; decide⟩,
   ⟨10, -10, 2, -11, 0, 0, 0, 0, 0, false, false, by dsimp only; decide⟩,
   ⟨10, -10, 2, 0, 0, 0, 1, 0, 0, false, false, by dsimp only; decide⟩,
   ⟨10, -10, 2, 0, 0, 0, 2, 0, 0, false, false, by dsimp only; decide⟩,
   ⟨1, true, by decide⟩,
   ⟨1, by decide⟩,
   ⟨1, put [((Fld.CMB_T_ID_KIND 1), 2)] tLoad, by decide⟩,
   ⟨1, put [((Fld.CMB_T_ID_KIND 1), 3)] tLoad, by decide⟩,
   ⟨1, put [((Fld.CMB_T_ID_KIND 1), 1)] tLoad, by decide⟩⟩

theorem witness_PowerRequests :
    (∃ (p : Port) (s : State), Reach p Reg.SYS_PWR_REQ s ∧ s.loading = false) ∧
    (∃ (p : Port) (s : State), Reach p Reg.SYS_PWR_REQ s ∧ s.loading = false ∧ s.powerState ≠ 0 ∧ (s.ord.submitted = [] ∧ (∀ o ∈ s.ord.orders, o.state < 2 ∨ 4 < o.state) ∧ s.anyGroupRunning = false ∧ s.level = 0)) ∧
    (∃ (p : Port) (s : State), Reach p Reg.SYS_PWR_REQ s ∧ s.loading = false ∧ s.powerState ≠ 0 ∧ (s.ord.submitted ≠ [] ∨ (∃ o ∈ s.ord.orders, 2 ≤ o.state ∧ o.state ≤ 4) ∨ s.anyGroupRunning = true ∨ s.level ≠ 0)) ∧
    (∃ (p : Port) (s : State) (c : _), Reach p Reg.SYS_PWR_REQ s ∧ s.loading = true ∧ c ∈ [Instr.pwrReqAuto p, .pwrReqHoldReady p, .pwrReqDormant p]) ∧
    (∃ (p : Port) (s : State), Reach p Reg.SYS_PWR_REQ s ∧ s.powerState = 0) ∧
    (∃ (p : Port) (s : State), Reach p Reg.SYS_PWR_REQ s ∧ s.powerState = 1) ∧
    (∃ (p : Port) (s : State), Reach p Reg.SYS_PROFILE s) ∧
    (∃ (r : Nat) (s : State), Live s ∧ s.mtr.newRate = some r) :=
  ⟨⟨.spt, put [(Fld.CMB_LOAD_STAT_BUSY, 0)] tLoad, by decide⟩,
   ⟨.spt, (fun s => s.setOrd { s.ord with submitted := [] }) (put [(Fld.CMB_LOAD_STAT_BUSY, 0), (Fld.SYS_PWR_STAT_STATE, 2), (Fld.SCT_STAT_LEVEL, 0)] tLoad), by decide⟩,
   ⟨.spt, (fun s => s.setOrd { s.ord with submitted := [0] }) (put [(Fld.CMB_LOAD_STAT_BUSY, 0), (Fld.SYS_PWR_STAT_STATE, 2)] tLoad), by decide⟩,
   ⟨.spt, put [(Fld.CMB_LOAD_STAT_BUSY, 1)] tLoad, .pwrReqAuto .spt, by decide⟩,
   ⟨.spt, put [(Fld.SYS_PWR_STAT_STATE, 0)] tLoad, by decide⟩,
   ⟨.spt, put [(Fld.SYS_PWR_STAT_STATE, 1)] tLoad, by decide⟩,
   ⟨.spt, tLoad, by decide⟩,
   ⟨1, (fun s => s.setMtr { s.mtr with newRate := some 1 }) tLoad, by decide⟩⟩

theorem witness_LowPowerEntersAndWakes :
    (∃ (sub : Nat) (s : State), Live s ∧ (aclkTo sub s).watchReady = true ∧ (aclkTo sub s).fb Fld.SYS_PWR_STAT_TRANS = false) ∧
    (∃ (sub : Nat) (s : State), Live s ∧ (aclkTo sub s).watchReady = true ∧ (aclkTo sub s).fb Fld.SYS_PWR_STAT_TRANS = true ∧ (aclkTo sub s).dozed = true) ∧
    (∃ (current : Bool) (s : State), Live s ∧ s.powerState = 1 ∧ ((s.pwr.wake = true ∨ s.irq.wake = true ∨ current = true))) ∧
    (∃ (s : State), Live s ∧ s.leadOrder = true) ∧
    (∃ (sub : Nat) (s : State), 
    let v := aclkTo sub s
    Live s ∧ v.powerState = 2 ∧ v.fg Fld.SYS_PWR_REQ_REQ = 2 ∧ v.image.isSome = true ∧ v.loading = false ∧ v.dormantReady = true ∧ v.pwr.dorm = 0) ∧
    (∃ (sub : Nat) (s : State), 
    let v := aclkTo sub s
    Live s ∧ v.powerState = 2 ∧ v.fg Fld.SYS_PWR_REQ_REQ = 2 ∧ v.image.isSome = true ∧ v.loading = false ∧ v.dormantReady = true ∧ v.pwr.dorm = 1 ∧ v.fb Fld.EST_NV_WRITING = true) ∧
    (∃ (sub : Nat) (s : State), 
    let v := aclkTo sub s
    Live s ∧ v.powerState = 2 ∧ v.fg Fld.SYS_PWR_REQ_REQ = 2 ∧ v.image.isSome = true ∧ v.loading = false ∧ v.dormantReady = true ∧ v.pwr.dorm = 1 ∧ v.fb Fld.EST_NV_WRITING = false) ∧
    (∃ (sub : Nat) (s : State), 
    let v := aclkTo sub s
    Live s ∧ v.powerState = 2 ∧ v.fg Fld.SYS_PWR_REQ_REQ = 2 ∧ v.image.isSome = true ∧ v.loading = false ∧ v.dormantReady = true ∧ v.pwr.dorm = 2 ∧ v.contactorBusy = true) ∧
    (∃ (sub : Nat) (s : State), 
    let v := aclkTo sub s
    Live s ∧ v.powerState = 2 ∧ v.fg Fld.SYS_PWR_REQ_REQ = 2 ∧ v.image.isSome = true ∧ v.loading = false ∧ v.dormantReady = true ∧ v.pwr.dorm = 2 ∧ v.contactorBusy = false ∧ v.fb Fld.EST_CFG_PERS = false ∧ v.fb Fld.LDG_STAT_CLOSING = false ∧ v.fb Fld.EST_NV_WRITING = false ∧ v.dozed = true) ∧
    (∃ (s : State), Live s ∧ s.powerState = 0 ∧ s.pwr.wake = true) :=
  ⟨⟨1, put [(Fld.SYS_PWR_STAT_TRANS, 0)] tLoad, by decide +kernel⟩,
   ⟨1, put [(Fld.SYS_PWR_STAT_TRANS, 1)] tLoad, by decide +kernel⟩,
   ⟨true, (fun s => s.setPwr { s.pwr with wake := true }) (put [(Fld.SYS_PWR_STAT_STATE, 1)] tLoad), by decide⟩,
   ⟨(fun s => s.setOrd { s.ord with orders := [{ tOrder with state := 3 }] }) tLoad, by decide⟩,
   ⟨1, (fun s => s.setPwr { s.pwr with dorm := 0 }) (put [(Fld.SYS_PWR_STAT_STATE, 2), (Fld.SYS_PWR_REQ_REQ, 2), (Fld.CMB_LOAD_STAT_BUSY, 0)] tLoad), by dsimp only; decide⟩,
   ⟨1, (fun s => s.setPwr { s.pwr with dorm := 1 }) (put [(Fld.SYS_PWR_STAT_STATE, 2), (Fld.SYS_PWR_REQ_REQ, 2), (Fld.CMB_LOAD_STAT_BUSY, 0), (Fld.EST_NV_WRITING, 1), ((Fld.EFU_S_KSTAT_STATE 0), 4)] tLoad), by dsimp only; decide⟩,
   ⟨1, (fun s => s.setPwr { s.pwr with dorm := 1 }) (put [(Fld.SYS_PWR_STAT_STATE, 2), (Fld.SYS_PWR_REQ_REQ, 2), (Fld.CMB_LOAD_STAT_BUSY, 0), (Fld.EST_NV_WRITING, 0)] tLoad), by dsimp only; decide⟩,
   ⟨1, (fun s => s.setPwr { s.pwr with dorm := 2 }) (put [(Fld.SYS_PWR_STAT_STATE, 2), (Fld.SYS_PWR_REQ_REQ, 2), (Fld.CMB_LOAD_STAT_BUSY, 0), ((Fld.EFU_S_KSTAT_STATE 0), 4)] tLoad), by dsimp only; decide⟩,
   ⟨1, (fun s => s.setPwr { s.pwr with dorm := 2 }) (put [(Fld.SYS_PWR_STAT_STATE, 2), (Fld.SYS_PWR_REQ_REQ, 2), (Fld.CMB_LOAD_STAT_BUSY, 0), (Fld.EST_CFG_PERS, 0), (Fld.LDG_STAT_CLOSING, 0), (Fld.EST_NV_WRITING, 0)] tLoad), by dsimp only; decide⟩,
   ⟨(fun s => s.setPwr { s.pwr with wake := true }) (put [(Fld.SYS_PWR_STAT_STATE, 0)] tLoad), by decide⟩⟩

theorem witness_ImagesTakeEffect :
    (∃ (p : Port) (src : Fin 4) (s : State), Reach p Reg.CMB_LOAD_CTL s ∧ s.opRuns = false ∧ src ≠ 0 ∧ s.loadReady = true) ∧
    (∃ (p : Port) (src : Fin 4) (s : State), Reach p Reg.CMB_LOAD_CTL s ∧ s.opRuns = false ∧ src ≠ 0 ∧ s.loadReady = false) ∧
    (∃ (p : Port) (src : Fin 4) (s : State), Reach p Reg.CMB_LOAD_CTL s ∧ s.opRuns = false ∧ src ≠ 0 ∧ src ≠ 1 ∧ ((s.slotValid 0 = true → s.slotValid 1 = false))) ∧
    (∃ (p : Port) (src : Fin 4) (s : State), Reach p Reg.CMB_LOAD_CTL s ∧ s.opRuns = false ∧ src ≠ 0 ∧ src ≠ 2 ∧ ((s.slotValid 1 = true → s.slotValid 0 = false))) ∧
    (∃ (p : Port) (src : Fin 4) (s : State), Reach p Reg.CMB_LOAD_CTL s ∧ s.opRuns = false ∧ src ≠ 0) ∧
    (∃ (p : Port) (s : State) (op : Nat), Reach p Reg.CMB_LOAD_CTL s ∧ s.opRuns = true ∧ op < 4) ∧
    (∃ (op : Nat) (k : Nat) (s : State), Live s ∧ op < 4 ∧ s.nvm.load = some (op, k, none)) ∧
    (∃ (k : Nat) (b : List Byte) (s : State), Live s ∧ s.nvm.load = some (1, k, some b) ∧ s.fb Fld.LDG_STAT_CLOSING = false ∧ s.fb Fld.EST_NV_WRITING = false) ∧
    (∃ (k : Nat) (r : List Nat) (s : State), Live s ∧ s.rst.firmware = true ∧ s.image = none ∧ s.bootSlots = k :: r) ∧
    (∃ (s : State), Live s ∧ s.rst.firmware = true ∧ s.image = none ∧ s.slotValid 0 = false ∧ s.slotValid 1 = false) ∧
    (∃ (s : State), Live s) ∧
    (∃ (s : State), Live s ∧ s.image.isSome = true) :=
  ⟨⟨.spt, 2, tLoad, by decide⟩,
   ⟨.spt, 2, put [(Fld.SCT_STAT_LEVEL, 1)] tLoad, by decide⟩,
   ⟨.spt, 2, tLoad, by decide⟩,
   ⟨.spt, 1, tLoad, by decide⟩,
   ⟨.spt, 3, tLoad, by decide⟩,
   ⟨.spt, put [(Fld.CMB_LOAD_STAT_BUSY, 1)] tLoad, 0, by decide⟩,
   ⟨0, 1, (fun s => s.setNvm { s.nvm with load := some (0, 1, none) }) tLoad, by decide⟩,
   ⟨1, [], (fun s => s.setNvm { s.nvm with load := some (1, 1, some []) }) (put [(Fld.LDG_STAT_CLOSING, 0), (Fld.EST_NV_WRITING, 0)] tLoad), by decide⟩,
   ⟨0, [1], (fun s => s.setRst { s.rst with firmware := true }) tBoot, by decide⟩,
   ⟨(fun s => s.setRst { s.rst with firmware := true }) tBoot, by decide⟩,
   ⟨tLoad, by decide⟩,
   ⟨tLoad, by decide⟩⟩

theorem witness_MeterCalibrates :
    (∃ (n : Fin 20) (est : Nat) (se : Nat) (s : State), 
    let g := (s.rd (Reg.MTR_CH_GAIN n)).toNat
    let far := 500 * g < ((est : Int) - g).natAbs * 1000000
    Live s ∧ s.calState n ≠ 0 ∧ s.chUsed n = true ∧ se ≤ 5000 ∧ (¬ far)) ∧
    (∃ (n : Fin 20) (est : Nat) (se : Nat) (s : State), 
    let g := (s.rd (Reg.MTR_CH_GAIN n)).toNat
    let far := 500 * g < ((est : Int) - g).natAbs * 1000000
    Live s ∧ s.calState n ≠ 0 ∧ s.chUsed n = true ∧ (5000 < se ∨ far)) ∧
    (∃ (ratio : Word) (s : State), 
    let dev := ratRound (1000000 * ((ratio.toNat : Rat) / (s.otpWord 0x011).toNat - 1))
    Live s ∧ (s.otpWord 0x011).toNat ≠ 0 ∧ dev.natAbs ≤ 100) ∧
    (∃ (ratio : Word) (s : State), 
    let dev := ratRound (1000000 * ((ratio.toNat : Rat) / (s.otpWord 0x011).toNat - 1))
    Live s ∧ (s.otpWord 0x011).toNat ≠ 0 ∧ 100 < dev.natAbs ∧ dev.natAbs ≤ 1000) ∧
    (∃ (ratio : Word) (s : State), 
    let dev := ratRound (1000000 * ((ratio.toNat : Rat) / (s.otpWord 0x011).toNat - 1))
    Live s ∧ (s.otpWord 0x011).toNat ≠ 0 ∧ 1000 < dev.natAbs) ∧
    (∃ (n : Fin 20) (rpar : Nat) (t : Int) (s : State), 
    let rdb : Rat := (rpar : Rat) / 1000 * ((s.chNominal n : Rat) / 65536) / ((s.chNominal n : Rat) / 65536 - 1)
    Live s ∧ s.fb Fld.MTR_STAT_FULL = true ∧ s.tempOf (s.chTs n) = some t ∧ bitOf (s.rd Reg.MTR_TONE).toNat n = true ∧ s.chUsed n = true ∧ (s.trk n).base = none ∧ (s.chRdb n = 0 ∨ 1 / 100 < |rdb / s.chRdb n - 1|)) ∧
    (∃ (n : Fin 20) (rpar : Nat) (t : Int) (s : State), 
    let rdb : Rat := (rpar : Rat) / 1000 * ((s.chNominal n : Rat) / 65536) / ((s.chNominal n : Rat) / 65536 - 1)
    Live s ∧ s.fb Fld.MTR_STAT_FULL = true ∧ s.tempOf (s.chTs n) = some t ∧ bitOf (s.rd Reg.MTR_TONE).toNat n = true ∧ s.chUsed n = true ∧ (s.trk n).base = none ∧ s.chRdb n ≠ 0 ∧ |rdb / s.chRdb n - 1| ≤ 1 / 100) ∧
    (∃ (p : Port) (s : State), Reach p Reg.MTR_TRK_RST s) :=
  ⟨⟨0, 0x200000, 100, put [((Fld.MTR_CH_CAL_STATE 0), 1)] (putW [((Reg.MTR_CH_GAIN 0), 0x200000)] tLoad), by dsimp only; decide +kernel⟩,
   ⟨0, 1, 1, put [((Fld.MTR_CH_CAL_STATE 0), 1)] tLoad, by dsimp only; decide +kernel⟩,
   ⟨0x40000000, (fun s => s.setOtpWord 0x011 0x40000000) tLoad, by dsimp only; decide +kernel⟩,
   ⟨1074278695, (fun s => s.setOtpWord 0x011 0x40000000) tLoad, by dsimp only; decide +kernel⟩,
   ⟨1075352437, (fun s => s.setOtpWord 0x011 0x40000000) tLoad, by dsimp only; decide +kernel⟩,
   ⟨8, 1500, 250, (fun s => s.setThm { s.thm with ins := [(2, ⟨false, 3, some 250, true, 0, 0, 0, 0, 0⟩)] }) (put [(Fld.MTR_STAT_FULL, 1), ((Fld.THM_TS_CFG_TYPE 2), 1), (Fld.MTR_TONE_TRK_EN, 0x100)] tLoad), by dsimp only; decide +kernel⟩,
   ⟨8, 3840000, 250, (fun s => s.setThm { s.thm with ins := [(2, ⟨false, 3, some 250, true, 0, 0, 0, 0, 0⟩)] }) (put [(Fld.MTR_STAT_FULL, 1), ((Fld.THM_TS_CFG_TYPE 2), 1), (Fld.MTR_TONE_TRK_EN, 0x100)] tLoad), by dsimp only; decide +kernel⟩,
   ⟨.spt, tLoad, by decide⟩⟩

theorem witness_MeterCounts :
    (∃ (s : State), Live s ∧ s.fb Fld.MTR_STAT_FULL = true) ∧
    (∃ (s : State), Live s ∧ s.fb Fld.MTR_STAT_FULL = false) ∧
    (∃ (p : Port) (s : State), Reach p Reg.MTR_CTL s) ∧
    (∃ (s : State), Live s ∧ s.fb Fld.MTR_STAT_SNAPPEND = true) ∧
    (∃ (n : Fin 8) (s : State), Live s ∧ s.fb Fld.MTR_STAT_SLOW = true ∧ s.fb Fld.MTR_STAT_FULL = false ∧ s.setUsed n = true ∧ s.mtr.slowSat.contains (n : Nat) = false ∧ (s.rd (Reg.MTR_CH_TRK n)).toNat ≠ 0) ∧
    (∃ (n : Fin 8) (s : State), Live s ∧ s.fb Fld.MTR_STAT_SLOW = true ∧ s.fb Fld.MTR_STAT_FULL = false ∧ s.setUsed n = true) ∧
    (∃ (s : State), Live s ∧ s.fb Fld.MTR_STAT_SLOW = true) ∧
    (∃ (s : State), Live s ∧ s.fb Fld.MTR_STAT_WORKER = true) :=
  ⟨⟨put [(Fld.MTR_STAT_FULL, 1)] tLoad, by decide⟩,
   ⟨put [(Fld.MTR_STAT_FULL, 0)] tLoad, by decide⟩,
   ⟨.spt, tLoad, by decide⟩,
   ⟨put [(Fld.MTR_STAT_SNAPPEND, 1)] tLoad, by decide⟩,
   ⟨0, put [(Fld.MTR_STAT_SLOW, 1), (Fld.MTR_STAT_FULL, 0)] (putW [((Reg.MTR_CH_TRK 0), 1000)] tLoad), by decide⟩,
   ⟨0, put [(Fld.MTR_STAT_SLOW, 1), (Fld.MTR_STAT_FULL, 0)] tLoad, by decide⟩,
   ⟨put [(Fld.MTR_STAT_SLOW, 1)] tLoad, by decide⟩,
   ⟨put [(Fld.MTR_STAT_WORKER, 1)] tLoad, by decide⟩⟩

theorem witness_RecordValuesAddUp :
    (∃ (unit : Nat) (most : Nat) (d : Nat) (carry : Nat), 
    let r := recordValue unit most d carry
    0 < unit ∧ r.2.2 = false) ∧
    (∃ (unit : Nat) (most : Nat) (d : Nat) (carry : Nat), 
    let r := recordValue unit most d carry
    0 < unit ∧ r.2.2 = true) ∧
    (∃ (unit : Nat), 0 < unit) :=
  ⟨⟨10, 100, 55, 3, by dsimp only; decide⟩,
   ⟨1, 1, 1, 1, by dsimp only; decide⟩,
   ⟨1, by decide⟩⟩

theorem witness_LedgerRuns :
    (∃ (s : State), Live s ∧ s.fb Fld.LDG_STAT_RUN = false ∧ s.image.isSome = true ∧ s.rst.firmware = true) ∧
    (∃ (p : Port) (s : State), Reach p Reg.LDG_CTL s) ∧
    (∃ (s : State), Live s ∧ s.ldg.closeReq = true) ∧
    (∃ (s : State), Live s ∧ s.rtc.sec % ivlLength s.ldg.ivl = 0 ∧ s.fb Fld.LDG_STAT_RUN = true ∧ s.powerState ≠ 0 ∧ s.fb Fld.LDG_STAT_CLOSING = false ∧ s.ringFree s.ldgContracts.length = false) ∧
    (∃ (s : State), Live s ∧ s.rtc.sec % ivlLength s.ldg.ivl = 0 ∧ s.fb Fld.LDG_STAT_RUN = true ∧ s.powerState ≠ 0 ∧ s.fb Fld.LDG_STAT_CLOSING = false ∧ s.ringFree s.ldgContracts.length = true ∧ s.ldgContracts ≠ [] ∧ s.cpend .ldgAssign = false) ∧
    (∃ (b : List Byte) (q : Option Nat) (rest : List (List Byte × Option Nat)) (s : State), Live s ∧ s.ldg.formed = (b, q) :: rest ∧ s.nvWaits wLedger = false ∧ s.nvBusy wLedger = false) ∧
    (∃ (b : List Byte) (s : State), b.length = 128 ∧ s.fg Fld.LDG_RING_NEXT < 8000) ∧
    (∃ (b : List Byte) (q : Option Nat) (rest : List (List Byte × Option Nat)) (s : State), Live s ∧ s.ldg.formed = (b, q) :: rest ∧ s.nvWaits wLedger = false ∧ s.nvBusy wLedger = true ∧ byteAt b 1 < 16 ∧ s.fg Fld.LDG_RING_NEXT < 8000 ∧ rest ≠ []) ∧
    (∃ (b : List Byte) (q : Option Nat) (s : State), Live s ∧ s.ldg.formed = [(b, q)] ∧ s.ldg.late = [] ∧ s.nvWaits wLedger = false ∧ s.nvBusy wLedger = true) ∧
    (∃ (q : Fin 4) (r : Nat × Nat) (s : State), Live s ∧ s.ldg.pend.find? (fun p => p.2 == (q : Nat)) = some r ∧ s.qEnabled (56 + q) = true ∧ s.qRoom (56 + q) = 0) ∧
    (∃ (q : Fin 4) (r : Nat × Nat) (s : State), Live s ∧ s.ldg.pend.find? (fun p => p.2 == (q : Nat)) = some r ∧ s.qEnabled (56 + q) = true ∧ s.qRoom (56 + q) ≠ 0) :=
  ⟨⟨(fun s => s.setRst { s.rst with firmware := true }) (put [(Fld.LDG_STAT_RUN, 0)] tLoad), by decide⟩,
   ⟨.spt, tLoad, by decide⟩,
   ⟨(fun s => s.setLdg { s.ldg with closeReq := true }) tLoad, by decide⟩,
   ⟨(fun s => s.setLdg { s.ldg with pend := (List.range 4).map (fun i => ((s.fg Fld.LDG_RING_NEXT + i) % 64, 0)) }) (put [(Fld.LDG_STAT_RUN, 1), (Fld.SYS_PWR_STAT_STATE, 2), (Fld.LDG_STAT_CLOSING, 0)] (putW [(Reg.LDG_ASSIGN, 0x8F)] tLoad)), by decide⟩,
   ⟨put [(Fld.LDG_STAT_RUN, 1), (Fld.SYS_PWR_STAT_STATE, 2), (Fld.LDG_STAT_CLOSING, 0)] tLoad, by decide⟩,
   ⟨(1#8 :: 0#8 :: List.replicate 126 0#8), some 1, [([], none)], (fun s => s.setLdg { s.ldg with formed := [((1#8 :: 0#8 :: List.replicate 126 0#8), some 1), ([], none)] }) ((fun s => s.setLdg { s.ldg with formed := ((1#8 :: 0#8 :: List.replicate 126 0#8), some 1) :: [([], none)] }) tLoad), by decide⟩,
   ⟨(List.replicate 128 0#8), tLoad, by decide⟩,
   ⟨(1#8 :: 0#8 :: List.replicate 126 0#8), some 1, [([], none)], (fun s => s.setLdg { s.ldg with formed := [((1#8 :: 0#8 :: List.replicate 126 0#8), some 1), ([], none)] }) ((fun s => s.setNvm { s.nvm with busy := [wLedger] }) ((fun s => s.setLdg { s.ldg with formed := ((1#8 :: 0#8 :: List.replicate 126 0#8), some 1) :: [([], none)] }) tLoad)), by decide⟩,
   ⟨(1#8 :: 0#8 :: List.replicate 126 0#8), some 1, (fun s => s.setLdg { s.ldg with formed := [((1#8 :: 0#8 :: List.replicate 126 0#8), some 1)] }) ((fun s => s.setNvm { s.nvm with busy := [wLedger] }) ((fun s => s.setLdg { s.ldg with formed := [((1#8 :: 0#8 :: List.replicate 126 0#8), some 1)], late := [] }) tLoad)), by decide⟩,
   ⟨0, (3, 0), (fun s => s.setLdg { s.ldg with pend := [(3, 0)] }) (put [((Fld.SYS_Q_CFG_EN (56 + 0)), 1), ((Fld.SYS_Q_CFG_EN 56), 1), ((Fld.SYS_Q_CFG_DEPTHLOG 56), 2), ((Fld.SYS_Q_PTR_TAIL 56), 4)] tLoad), by decide⟩,
   ⟨0, (3, 0), (fun s => s.setLdg { s.ldg with pend := [(3, 0)] }) (put [((Fld.SYS_Q_CFG_EN (56 + 0)), 1), ((Fld.SYS_Q_CFG_EN 56), 1), ((Fld.SYS_Q_CFG_DEPTHLOG 56), 2), ((Fld.SYS_Q_PTR_TAIL 56), 0)] tLoad), by decide⟩⟩

theorem witness_DecisionsFollowCopies :
    (∃ (o : Order) (s : State), Live s ∧ s.fb Fld.ORD_STAT_DISCARDING = false ∧ s.ord.orders.find? (fun x => x.state == 2) = some o ∧ s.fg Fld.ORD_CTL_ADMIT = 0) ∧
    (∃ (o : Order) (s : State), Live s ∧ s.fb Fld.ORD_STAT_DISCARDING = false ∧ s.ord.orders.find? (fun x => x.state == 2) = some o ∧ s.fg Fld.ORD_CTL_ADMIT ≠ 0 ∧ o.badField = true) ∧
    (∃ (o : Order) (s : State), Live s ∧ s.fb Fld.ORD_STAT_DISCARDING = false ∧ s.ord.orders.find? (fun x => x.state == 2) = some o ∧ s.fg Fld.ORD_CTL_ADMIT ≠ 0 ∧ o.badField = false ∧ o.scope ≠ 1) ∧
    (∃ (o : Order) (s : State), Live s ∧ s.fb Fld.ORD_STAT_DISCARDING = false ∧ s.ord.orders.find? (fun x => x.state == 2) = some o ∧ s.partsOf o.id = []) :=
  ⟨⟨{ tOrder with state := 2 }, (fun s => s.setOrd { s.ord with orders := [{ tOrder with state := 2 }] }) (put [(Fld.ORD_STAT_DISCARDING, 0), (Fld.ORD_CTL_ADMIT, 0)] tLoad), by decide⟩,
   ⟨{ tOrder with state := 2, id := 0 }, (fun s => s.setOrd { s.ord with orders := [{ tOrder with state := 2, id := 0 }] }) (put [(Fld.ORD_STAT_DISCARDING, 0), (Fld.ORD_CTL_ADMIT, 1)] tLoad), by decide⟩,
   ⟨{ tOrder with state := 2 }, (fun s => s.setOrd { s.ord with orders := [{ tOrder with state := 2 }] }) (put [(Fld.ORD_STAT_DISCARDING, 0), (Fld.ORD_CTL_ADMIT, 1)] tLoad), by decide⟩,
   ⟨{ tOrder with state := 2 }, (fun s => s.setOrd { s.ord with orders := [{ tOrder with state := 2 }] }) (put [(Fld.ORD_STAT_DISCARDING, 0)] tLoad), by decide⟩⟩

theorem witness_DecisionChecksInOrder :
    (∃ (s : State) (o : Order), 
    let dup := ∃ x ∈ s.ord.orders, x.id = o.id ∧ (x.state = 3 ∨ x.state = 4 ∨ x.state = 2 ∧ x.seq < o.seq)
    dup) ∧
    (∃ (s : State) (o : Order), 
    let dup := ∃ x ∈ s.ord.orders, x.id = o.id ∧ (x.state = 3 ∨ x.state = 4 ∨ x.state = 2 ∧ x.seq < o.seq)
    (¬ dup) ∧ 1024 ≤ s.residents.length) ∧
    (∃ (s : State) (o : Order), 
    let dup := ∃ x ∈ s.ord.orders, x.id = o.id ∧ (x.state = 3 ∨ x.state = 4 ∨ x.state = 2 ∧ x.seq < o.seq)
    let absent := s.image = none ∨ ∃ n ∈ o.named, s.strUsed n = false ∨ s.strCarries n = false ∨ s.strGroup n = none ∨ (o.ty = 3 ∧ s.pvServes n = false)
    (¬ dup) ∧ s.residents.length < 1024 ∧ absent) ∧
    (∃ (s : State) (o : Order), 
    let dup := ∃ x ∈ s.ord.orders, x.id = o.id ∧ (x.state = 3 ∨ x.state = 4 ∨ x.state = 2 ∧ x.seq < o.seq)
    let absent := s.image = none ∨ ∃ n ∈ o.named, s.strUsed n = false ∨ s.strCarries n = false ∨ s.strGroup n = none ∨ (o.ty = 3 ∧ s.pvServes n = false)
    let foreign := (∃ n ∈ o.named, s.contractOf n ≠ o.contract) ∨ s.rd (Reg.ORD_LC_CAP o.contract) = 0
    (¬ dup) ∧ s.residents.length < 1024 ∧ (¬ absent) ∧ foreign) :=
  ⟨⟨(fun s => s.setOrd { s.ord with orders := [tOrder] }) tBoot, { tOrder with state := 2, seq := 2 }, by dsimp only; decide⟩,
   ⟨(fun s => s.setOrd { s.ord with orders := List.replicate 1024 tOrder }) tBoot, { tOrder with id := 8, state := 2, seq := 2 }, by dsimp only; decide⟩,
   ⟨tBoot, tOrder, by dsimp only; decide⟩,
   ⟨tLoad, { tOrder with contract := 3 }, by dsimp only; decide⟩⟩

theorem witness_OrdersRunToDeadline :
    (∃ (id : Nat) (o : Order) (s : State), Live s ∧ s.order id = some o ∧ o.state = 3 ∧ o.ty ≤ 4 ∧ o.scope = 0 ∧ o.ending = none ∧ s.fb Fld.ORD_STAT_DISCARDING = false ∧ ((∃ g ∈ o.plan, g.first ≤ s.ord.mono / 2))) ∧
    (∃ (id : Nat) (o : Order) (s : State), Live s ∧ s.order id = some o ∧ o.deadline ≤ s.ord.mono ∧ o.ending = none ∧ (o.ty = 5 ∨ o.ty = 6) ∧ o.state = 3 ∧ o.cq ≠ partCq) ∧
    (∃ (id : Nat) (o : Order) (s : State), Live s ∧ s.order id = some o ∧ o.deadline ≤ s.ord.mono ∧ o.ending = none ∧ o.ty ≤ 4 ∧ o.state = 4 ∧ (s.met o = true ∨ o.ty = 3)) ∧
    (∃ (id : Nat) (o : Order) (s : State), Live s ∧ s.order id = some o ∧ o.deadline ≤ s.ord.mono ∧ o.ending = none ∧ o.ty ≤ 4 ∧ o.ty ≠ 3 ∧ o.state = 4 ∧ s.met o = false) ∧
    (∃ (s : State), Live s ∧ s.ord.started = true ∧ s.awake = true ∧ s.fb Fld.ORD_STAT_DISCARDING = false) :=
  ⟨⟨7, tOrder, (fun s => s.setOrd { s.ord with orders := [tOrder] }) (put [(Fld.ORD_STAT_DISCARDING, 0)] tLoad), by decide⟩,
   ⟨7, { tOrder with ty := 5 }, (fun s => s.setOrd { s.ord with orders := [{ tOrder with ty := 5 }], mono := 100 }) tLoad, by decide⟩,
   ⟨7, { tOrder with state := 4, energy := 0 }, (fun s => s.setOrd { s.ord with orders := [{ tOrder with state := 4, energy := 0 }], mono := 100 }) tLoad, by decide⟩,
   ⟨7, { tOrder with state := 4 }, (fun s => s.setOrd { s.ord with orders := [{ tOrder with state := 4 }], mono := 100 }) tLoad, by decide⟩,
   ⟨(fun s => s.setOrd { s.ord with started := true }) (put [(Fld.SYS_PWR_STAT_STATE, 2), (Fld.ORD_STAT_DISCARDING, 0)] tLoad), by decide⟩⟩

theorem witness_OrderEntriesMove :
    (∃ (s : State), Live s ∧ s.ord.started = false ∧ s.rst.firmware = true ∧ s.image.isSome = true ∧ s.nvWaits wEpoch = false ∧ s.nvBusy wEpoch = false) ∧
    (∃ (s : State), Live s ∧ s.ord.started = false ∧ s.rst.firmware = true ∧ s.image.isSome = true ∧ s.nvWaits wEpoch = false ∧ s.nvBusy wEpoch = true) ∧
    (∃ (q : Nat) (rest : List Nat) (s : State), Live s ∧ s.ord.submitted = q :: rest ∧ s.ord.started = true ∧ s.fb Fld.ORD_STAT_DISCARDING = false ∧ s.heldCount ≤ 2048 ∧ s.ord.cancel = none) ∧
    (∃ (s : State), Live s ∧ ((s.ord.submitted = [] ∨ s.ord.started = false ∨ s.fb Fld.ORD_STAT_DISCARDING = true ∨ 2048 < s.heldCount))) ∧
    (∃ (cq : Fin 16) (recs : List CqRec) (s : State), Live s ∧ s.ord.held.find? (fun h => h.1 == (cq : Nat)) = some ((cq : Nat), recs) ∧ s.qRoom (32 + cq) < recs.length) ∧
    (∃ (cq : Fin 16) (recs : List CqRec) (s : State), Live s ∧ s.ord.held.find? (fun h => h.1 == (cq : Nat)) = some ((cq : Nat), recs) ∧ recs.length ≤ s.qRoom (32 + cq)) :=
  ⟨⟨(fun s => s.setRst { s.rst with firmware := true }) ((fun s => s.setOrd { s.ord with started := false }) tLoad), by decide⟩,
   ⟨(fun s => s.setNvm { s.nvm with busy := [wEpoch] }) ((fun s => s.setRst { s.rst with firmware := true }) ((fun s => s.setOrd { s.ord with started := false }) tLoad)), by decide⟩,
   ⟨1, [], (fun s => s.setOrd { s.ord with submitted := 1 :: [], started := true, cancel := none }) (put [(Fld.ORD_STAT_DISCARDING, 0)] tLoad), by decide⟩,
   ⟨(fun s => s.setOrd { s.ord with submitted := [], held := [(0, [⟨7, 0, 5, 0, 0, none, 0, 0, 0, 0, 0, 0, 0⟩])] }) tLoad, by decide⟩,
   ⟨0, [⟨7, 0, 5, 0, 0, none, 0, 0, 0, 0, 0, 0, 0⟩], (fun s => s.setOrd { s.ord with held := [(0, [⟨7, 0, 5, 0, 0, none, 0, 0, 0, 0, 0, 0, 0⟩])] }) (put [((Fld.SYS_Q_CFG_EN 32), 1), ((Fld.SYS_Q_CFG_DEPTHLOG 32), 2), ((Fld.SYS_Q_PTR_TAIL 32), 4)] tLoad), by decide⟩,
   ⟨0, [⟨7, 0, 5, 0, 0, none, 0, 0, 0, 0, 0, 0, 0⟩], (fun s => s.setOrd { s.ord with held := [(0, [⟨7, 0, 5, 0, 0, none, 0, 0, 0, 0, 0, 0, 0⟩])] }) (put [((Fld.SYS_Q_CFG_EN 32), 1), ((Fld.SYS_Q_CFG_DEPTHLOG 32), 2)] tLoad), by decide⟩⟩

theorem witness_RemovalsCutOrReplan :
    (∃ (s : State), Live s ∧ (s.removals = [] ∨ s.fb Fld.ORD_STAT_DISCARDING = true)) ∧
    (∃ (r : Removal) (s : State) (n : _) (p : _), 
    let v := s.setRemovals []
    let hit := v.residents.filter (fun o => o.ending.isNone && v.needs o r)
    Live s ∧ s.fb Fld.ORD_STAT_DISCARDING = false ∧ s.removals = [r] ∧ hit ≠ [] ∧ ((∀ o ∈ hit, bitOf o.flags 0 = true)) ∧ r = .string n ∧ s.shadowPlan n = some p) ∧
    (∃ (ids : List Nat) (gone : List Nat) (s : State), Live s ∧ s.fb Fld.ORD_STAT_DISCARDING = false ∧ s.ord.replan = some (ids, gone)) ∧
    (∃ (r : Removal) (s : State), Live s ∧ s.fb Fld.ORD_STAT_DISCARDING = false ∧ s.removals = [r] ∧
   ((s.setRemovals []).residents.filter (fun o => o.ending.isNone && (s.setRemovals []).needs o r)) ≠ [] ∧
   (∀ o ∈ (s.setRemovals []).residents.filter (fun o => o.ending.isNone && (s.setRemovals []).needs o r), bitOf o.flags 0 = true) ∧
   (∀ n, r = .string n → s.shadowPlan n = none) ∧ s.ord.replan = none) :=
  ⟨⟨tLoad, by decide⟩,
   ⟨.string 0, (fun s => s.setRemovals [.string 0]) ((fun s => s.setOrd { s.ord with orders := [{ tOrder with state := 4, flags := 1 }], plans := [(0, some ⟨0, [], []⟩)] }) (put [(Fld.ORD_STAT_DISCARDING, 0)] tLoad)), 0, ⟨0, [], []⟩, by dsimp only; decide⟩,
   ⟨[], [], (fun s => s.setOrd { s.ord with replan := some ([], []) }) (put [(Fld.ORD_STAT_DISCARDING, 0)] tLoad), by decide⟩,
   ⟨.string 0, (tWork.setRemovals [.string 0]).setOrd { tWork.ord with orders := [{ tOrder with state := 4, flags := 1 }] }, by decide, by decide, by decide, by decide, by decide, fun n h => by cases h; decide, by decide⟩⟩

theorem witness_OrdersAreCut :
    (∃ (p : Port) (s : State), Reach p Reg.ORD_CANCEL_CTL s ∧ (s.fb Fld.ORD_STAT_DISCARDING = true ∨ s.ord.started = false ∨ s.fb Fld.ORD_CANCEL_STAT_BUSY = true)) ∧
    (∃ (p : Port) (s : State), 
    let id := (s.rd Reg.ORD_CANCEL_ID).toNat
    Reach p Reg.ORD_CANCEL_CTL s ∧ s.fb Fld.ORD_STAT_DISCARDING = false ∧ s.ord.started = true ∧ s.fb Fld.ORD_CANCEL_STAT_BUSY = false ∧ s.ord.submitted = [] ∧ s.order id = none) ∧
    (∃ (p : Port) (s : State) (o : _), 
    let id := (s.rd Reg.ORD_CANCEL_ID).toNat
    Reach p Reg.ORD_CANCEL_CTL s ∧ s.fb Fld.ORD_STAT_DISCARDING = false ∧ s.ord.started = true ∧ s.fb Fld.ORD_CANCEL_STAT_BUSY = false ∧ s.ord.submitted = [] ∧ s.order id = some o ∧ o.ending.isSome = true) ∧
    (∃ (p : Port) (s : State) (o : _), 
    let id := (s.rd Reg.ORD_CANCEL_ID).toNat
    Reach p Reg.ORD_CANCEL_CTL s ∧ s.fb Fld.ORD_STAT_DISCARDING = false ∧ s.ord.started = true ∧ s.fb Fld.ORD_CANCEL_STAT_BUSY = false ∧ s.ord.submitted = [] ∧ s.order id = some o ∧ o.ending = none) ∧
    (∃ (p : Port) (id : Word) (o : Order) (s : State), Reach p Reg.ORD_QRY_ID s ∧ s.order id.toNat = some o ∧ o.state ≠ 0) ∧
    (∃ (p : Port) (n : Fin 20) (v : Word) (s : State), Reach p (capReg n).addr s ∧ (capReg n).limit s < v.toNat) ∧
    (∃ (p : Port) (v : Word) (s : State), Reach p Reg.ORD_BUS_CAP s ∧ v.toNat ≤ s.busRating) ∧
    (∃ (p : Port) (c : Fin 16) (s : State), Reach p (Reg.ORD_LC_CAP c) s) ∧
    (∃ (s : State), Live s ∧ s.fb Fld.ORD_STAT_DISCARDING = true ∧ s.ord.started = true ∧ s.nvWaits wEpoch = false ∧ s.nvBusy wEpoch = false) ∧
    (∃ (s : State), Live s ∧ s.fb Fld.ORD_STAT_DISCARDING = true ∧ s.ord.started = true ∧ s.nvWaits wEpoch = false ∧ s.nvBusy wEpoch = true) :=
  ⟨⟨.spt, put [(Fld.ORD_STAT_DISCARDING, 1)] tLoad, by decide⟩,
   ⟨.spt, (fun s => s.setOrd { s.ord with started := true, submitted := [] }) (put [(Fld.ORD_STAT_DISCARDING, 0), (Fld.ORD_CANCEL_STAT_BUSY, 0)] tLoad), by dsimp only; decide⟩,
   ⟨.spt, (fun s => s.setOrd { s.ord with started := true, submitted := [], orders := [{ tOrder with ending := some (5, 0) }] }) (put [(Fld.ORD_STAT_DISCARDING, 0), (Fld.ORD_CANCEL_STAT_BUSY, 0)] (putW [(Reg.ORD_CANCEL_ID, 7)] tLoad)), { tOrder with ending := some (5, 0) }, by dsimp only; decide⟩,
   ⟨.spt, (fun s => s.setOrd { s.ord with started := true, submitted := [], orders := [tOrder] }) (put [(Fld.ORD_STAT_DISCARDING, 0), (Fld.ORD_CANCEL_STAT_BUSY, 0)] (putW [(Reg.ORD_CANCEL_ID, 7)] tLoad)), tOrder, by dsimp only; decide⟩,
   ⟨.spt, 7, tOrder, (fun s => s.setOrd { s.ord with orders := [tOrder] }) tLoad, by decide⟩,
   ⟨.spt, 0, 0xFFFFFFFF, tLoad, by decide⟩,
   ⟨.spt, 1, tLoad, by decide⟩,
   ⟨.spt, 0, tLoad, by decide⟩,
   ⟨(fun s => s.setOrd { s.ord with started := true }) (put [(Fld.ORD_STAT_DISCARDING, 1)] tLoad), by decide⟩,
   ⟨(fun s => s.setNvm { s.nvm with busy := [wEpoch] }) ((fun s => s.setOrd { s.ord with started := true }) (put [(Fld.ORD_STAT_DISCARDING, 1)] tLoad)), by decide⟩⟩

theorem witness_PredictorsHold :
    (∃ (p : Pred) (cond : Bool) (persist : Nat), p.masked = false ∧ cond = true ∧ ((p.active = true ∨ persist ≤ min 255 (p.heldN + 1)))) ∧
    (∃ (p : Pred) (cond : Bool) (persist : Nat), p.active = false ∧ ((cond = false ∨ min 255 (p.heldN + 1) < persist))) ∧
    (∃ (p : Pred) (cond : Bool), p.masked = false ∧ p.active = true ∧ cond = false) ∧
    (∃ (p : Pred), p.masked = true) :=
  ⟨⟨⟨1, 1, false, false, 0⟩, true, 1, by decide⟩,
   ⟨⟨0, 0, false, false, 0⟩, true, 5, by decide⟩,
   ⟨⟨0, 2, true, false, 0⟩, false, by decide⟩,
   ⟨⟨0, 2, false, true, 999⟩, by decide⟩⟩

theorem witness_ScoutMoves :
    (∃ (s : State), Live s ∧ s.powerState ≠ 0) ∧
    (∃ (s : State), Live s ∧ s.phase = phIdle ∧ s.level ≠ 0 ∧ 100 * s.fg Fld.SCT_CFG_TMO ≤ s.sct.sinceP0) ∧
    (∃ (s : State) (cause : _) (e : Nat), Live s ∧ s.phase = phIdle ∧ s.level ≠ 0 ∧ s.sct.want = some (0, cause) ∧ e < 32 ∧ cause = 2) ∧
    (∃ (s : State) (cause : _) (e : Nat), Live s ∧ s.phase = phIdle ∧ s.level ≠ 0 ∧ s.sct.want = some (0, cause) ∧ e < 32 ∧ cause = 2 ∧ (s.pred e).active = true) ∧
    (∃ (s : State) (cause : _), Live s ∧ s.phase = phIdle ∧ s.level ≠ 0 ∧ s.sct.want = some (0, cause)) ∧
    (∃ (s : State), Live s ∧ s.sct.sinceP0 < 100 * s.fg Fld.SCT_CFG_TMO) ∧
    (∃ (s : State), Live s ∧ s.mayHandBack = true) ∧
    (∃ (s : State), Live s ∧ s.phase = phHandback ∧ ((100 ≤ s.sct.lowN ∨ 1000 ≤ s.sct.rampN))) ∧
    (∃ (p : Port) (s : State), Reach p Reg.SCT_CTL s) ∧
    (∃ (p : Port) (s : State), Reach p Reg.SCT_CTL s ∧ s.phase = phIdle ∧ s.level ≠ 0) ∧
    (∃ (p : Port) (s : State), Reach p Reg.SCT_CTL s ∧ (s.phase ≠ phIdle ∨ s.level = 0)) ∧
    (∃ (s : State), Live s) :=
  ⟨⟨put [(Fld.SYS_PWR_STAT_STATE, 2)] tLoad, by decide⟩,
   ⟨(fun s => s.setSct { s.sct with sinceP0 := 100000000 }) (put [(Fld.SCT_STAT_PHASE, 0), (Fld.SCT_STAT_LEVEL, 1)] tLoad), by decide⟩,
   ⟨(fun s => s.setSct { s.sct with want := some (0, 2), pred := [(1, ⟨1, 2, true, false, 0⟩)] }) (put [(Fld.SCT_STAT_PHASE, 0), (Fld.SCT_STAT_LEVEL, 1)] tLoad), 2, 1, by decide⟩,
   ⟨(fun s => s.setSct { s.sct with want := some (0, 2), pred := [(1, ⟨1, 2, true, false, 0⟩)] }) (put [(Fld.SCT_STAT_PHASE, 0), (Fld.SCT_STAT_LEVEL, 1)] tLoad), 2, 1, by decide⟩,
   ⟨(fun s => s.setSct { s.sct with want := some (0, 2) }) (put [(Fld.SCT_STAT_PHASE, 0), (Fld.SCT_STAT_LEVEL, 1)] tLoad), 2, by decide⟩,
   ⟨tLoad, by decide⟩,
   ⟨(fun s => s.setSct { s.sct with dwellN := 10, dwell := 10, stableN := 2000 }) (put [(Fld.SCT_STAT_PHASE, 2)] tLoad), by decide⟩,
   ⟨(fun s => s.setSct { s.sct with lowN := 100 }) (put [(Fld.SCT_STAT_PHASE, 3)] tLoad), by decide⟩,
   ⟨.spt, tLoad, by decide⟩,
   ⟨.spt, put [(Fld.SCT_STAT_PHASE, 0), (Fld.SCT_STAT_LEVEL, 1)] tLoad, by decide⟩,
   ⟨.spt, put [(Fld.SCT_STAT_PHASE, 1)] tLoad, by decide⟩,
   ⟨tLoad, by decide⟩⟩

theorem witness_GroupsStartAndStop :
    (∃ (g : Fin 12) (s : State) (m : Fin 5), Live s ∧ ((m = 1 ∨ m = 2 ∨ m = 3)) ∧ s.grpType g = 1 ∧ s.mode g = 0 ∧ (s.fb (Fld.CNV_CG_FLAG_OCP g) = true ∨ s.contactorConfirmed (s.grpTarget g) = false)) ∧
    (∃ (g : Fin 12) (s : State) (m : Fin 5), Live s ∧ ((m = 1 ∨ m = 2 ∨ m = 3)) ∧ s.grpType g = 1 ∧ s.mode g = 0 ∧ s.fb (Fld.CNV_CG_FLAG_OCP g) = false ∧ s.contactorConfirmed (s.grpTarget g) = true) ∧
    (∃ (g : Fin 12) (s : State) (m : Fin 5), Live s ∧ ((m = 0 ∨ m = 4 ∨ s.grpType g ≠ 1 ∨ s.mode g ≠ 0))) ∧
    (∃ (g : Fin 12) (s : State) (cs : List (List Int)), Live s ∧ s.mode g ≠ 0 ∧ (s.grp g).stage = 1 ∧ ((∀ l ∈ cs, (s.csMean g l).natAbs ≤ 53687091))) ∧
    (∃ (g : Fin 12) (s : State) (cs : List (List Int)), Live s ∧ s.mode g ≠ 0 ∧ (s.grp g).stage = 1 ∧ ((∃ l ∈ cs, 53687091 < (s.csMean g l).natAbs))) ∧
    (∃ (g : Fin 12) (s : State), Live s ∧ s.mode g ≠ 0 ∧ (s.grp g).stage < 3) ∧
    (∃ (g : Fin 12) (s : State), Live s ∧ s.mode g ≠ 0 ∧ (s.grp g).stage = 3) ∧
    (∃ (g : Fin 12) (s : State) (late : Bool), Live s ∧ s.mode g ≠ 0 ∧ (s.grp g).stopping = true ∧ s.pubGet (0x040 + g) = 0 ∧ ((8 ≤ (s.grp g).lowN ∨ late = true))) ∧
    (∃ (g : Fin 12) (s : State) (a : Int) (b : Int), Live s ∧ s.mode g ≠ 0 ∧ s.beyondOcp g a = true ∧ s.beyondOcp g b = true) ∧
    (∃ (g : Fin 12) (s : State) (a : Int) (b : Int), Live s ∧ s.mode g ≠ 0 ∧ (s.beyondOcp g a = false ∨ s.beyondOcp g b = false)) ∧
    (∃ (s : State), Live s) :=
  ⟨⟨0, put [((Fld.CNV_CG_STAT_MODE 0), 0), ((Fld.CNV_CG_FLAG_OCP 0), 1)] tLoad, 1, by decide⟩,
   ⟨0, put [((Fld.CNV_CG_STAT_MODE 0), 0), ((Fld.CNV_CG_FLAG_OCP 0), 0), ((Fld.EFU_S_KSTAT_STATE 0), 3), ((Fld.EFU_S_KSTAT_KF 0), 1)] tLoad, 1, by decide⟩,
   ⟨0, tLoad, 0, by decide⟩,
   ⟨0, (fun s => s.setGrp 0 { grp0 with stage := 1 }) (put [((Fld.CNV_CG_STAT_MODE 0), 1)] tLoad), [[1, -2], [3]], by decide +kernel⟩,
   ⟨0, (fun s => s.setGrp 0 { grp0 with stage := 1 }) (put [((Fld.CNV_CG_STAT_MODE 0), 1), ((Fld.CNV_CG_SNS_CSGAIN 0), 1000)] tLoad), [[1600000, 1600000]], by decide +kernel⟩,
   ⟨0, put [((Fld.CNV_CG_STAT_MODE 0), 2)] tLoad, by decide⟩,
   ⟨0, (fun s => s.setGrp 0 { grp0 with stage := 3 }) (put [((Fld.CNV_CG_STAT_MODE 0), 1)] tLoad), by decide⟩,
   ⟨0, (fun s => s.setGrp 0 { grp0 with stage := 3, stopping := true, lowN := 8 }) (put [((Fld.CNV_CG_STAT_MODE 0), 1)] tLoad), true, by decide⟩,
   ⟨0, put [((Fld.CNV_CG_STAT_MODE 0), 1)] tLoad, 1600000, 1600001, by decide⟩,
   ⟨0, put [((Fld.CNV_CG_STAT_MODE 0), 2)] tLoad, 1, 1, by decide +kernel⟩,
   ⟨tLoad, by decide⟩⟩

theorem witness_PeriodLatchesDuties :
    ∃ (g : Fin 12) (s : State), Live s ∧ s.cpend (.cnvGroup g) = false ∧ s.mode g ≠ 0 ∧ s.sysclkOk = true ∧ (s.grp g).shadowStop = false ∧ (s.grp g).stage = 3 :=
  ⟨0, (fun s => s.setGrp 0 { grp0 with stage := 3 }) (put [((Fld.CNV_CG_STAT_MODE 0), 1)] tLoad), by decide⟩

theorem witness_SetpointsAndSharing :
    (∃ (g : Fin 12) (s : State), Live s ∧ ((s.mode g = 1 ∨ s.mode g = 2)) ∧ (s.grp g).ramp = none) ∧
    (∃ (mv : Int) (s : State), 
    let above := fun f : Fld => (s.busNominal : Int) * (1000 + s.fg f) < 1000 * mv
    Live s ∧ above Fld.CNV_BRK_BRK_ON) ∧
    (∃ (mv : Int) (s : State), 
    let above := fun f : Fld => (s.busNominal : Int) * (1000 + s.fg f) < 1000 * mv
    Live s ∧ (¬ above Fld.CNV_BRK_BRK_ON)) ∧
    (∃ (mv : Int) (s : State), Live s ∧ 1000 * mv < (s.busNominal : Int) * (1000 + s.fg Fld.CNV_BRK_BRK_OFF)) ∧
    (∃ (mv : Int) (s : State), Live s ∧ (s.busNominal : Int) * (1000 + s.fg Fld.CNV_BRK_BRK_OFF) ≤ 1000 * mv) ∧
    (∃ (g : Fin 12) (s : State), Live s ∧ s.follows g = true ∧ s.groupRuns g = true ∧ (s.grp g).absent = false) ∧
    (∃ (g : Fin 12) (s : State), Live s ∧ s.follows g = true ∧ s.groupRuns g = true) ∧
    (∃ (p : Port) (s : State), Reach p Reg.CNV_CTL s ∧ s.fb Fld.CNV_CTL_SHARE_EN = true) ∧
    (∃ (p : Port) (s : State), Reach p Reg.CNV_CTL s ∧ s.fb Fld.CNV_CTL_SHARE_EN = false) ∧
    (∃ (s : State), Live s ∧ (s.phase ≠ phIdle ∨ s.fb Fld.CNV_CTL_SHARE_EN = false)) ∧
    (∃ (s : State), Live s ∧ s.phase = phIdle ∧ s.fb Fld.CNV_CTL_SHARE_EN = true) ∧
    (∃ (p : Fin 6) (s : State), Live s ∧ s.rtUsed p = true ∧ kvGet (fun _ => none) s.cnv.trim p = none) ∧
    (∃ (s : State), 
    let spare : Rat := s.ratedTot * (s.fg Fld.CNV_SHARE_ACLOAD : Rat) / 100 - s.iTot
    Live s ∧ spare < 0 ∧ s.busCharging ≠ [] ∧ 9 ≤ s.cnv.deficitN ∧ s.cnv.acLim = none) ∧
    (∃ (s : State), 
    let spare : Rat := s.ratedTot * (s.fg Fld.CNV_SHARE_ACLOAD : Rat) / 100 - s.iTot
    Live s ∧ (s.ratedTot : Rat) * 5 / 100 ≤ spare ∧ 999 ≤ s.cnv.ampleN ∧ s.cnv.acLim.isSome = true) :=
  ⟨⟨0, put [((Fld.CNV_CG_STAT_MODE 0), 1)] tLoad, by decide⟩,
   ⟨100000000, tLoad, by dsimp only; decide⟩,
   ⟨1, tLoad, by dsimp only; decide⟩,
   ⟨1, put [((Fld.CNV_CG_CTL_SYNC_EN 0), 1), ((Fld.CNV_CG_STAT_MODE 0), 2)] tLoad, by decide⟩,
   ⟨100000000, tLoad, by decide⟩,
   ⟨0, put [((Fld.CNV_CG_CTL_SYNC_EN 0), 1), ((Fld.CNV_CG_STAT_MODE 0), 2)] tLoad, by decide⟩,
   ⟨0, put [((Fld.CNV_CG_CTL_SYNC_EN 0), 1), ((Fld.CNV_CG_STAT_MODE 0), 2)] tLoad, by decide⟩,
   ⟨.spt, put [(Fld.CNV_CTL_SHARE_EN, 1)] tLoad, by decide⟩,
   ⟨.spt, put [(Fld.CNV_CTL_SHARE_EN, 0)] tLoad, by decide⟩,
   ⟨put [(Fld.SCT_STAT_PHASE, 1)] tLoad, by decide⟩,
   ⟨(fun s => s.pubSet 0x040 100) ((fun s => s.setCnv { s.cnv with deficitN := 9 }) (put [(Fld.SCT_STAT_PHASE, 0), (Fld.CNV_CTL_SHARE_EN, 1), ((Fld.CNV_CG_STAT_MODE 0), 1)] (putW [((Reg.CNV_RT_IMON 0), 1000000)] tLoad))), by decide +kernel⟩,
   ⟨0, (fun s => s.pubSet 0x040 100) ((fun s => s.setCnv { s.cnv with ampleN := 999, acLim := some (1, 1, 1) }) (put [((Fld.CNV_CG_STAT_MODE 0), 2), (Fld.CNV_SHARE_ACLOAD, 90)] tLoad)), by decide +kernel⟩,
   ⟨(fun s => s.pubSet 0x040 100) ((fun s => s.setCnv { s.cnv with deficitN := 9, acLim := none }) (put [((Fld.CNV_CG_STAT_MODE 0), 1)] (putW [((Reg.CNV_RT_IMON 0), 1000000)] tLoad))), by dsimp only; decide +kernel⟩,
   ⟨(fun s => s.pubSet 0x040 100) ((fun s => s.setCnv { s.cnv with ampleN := 999, acLim := some (1, 1, 1) }) (put [((Fld.CNV_CG_STAT_MODE 0), 2), (Fld.CNV_SHARE_ACLOAD, 90)] tLoad)), by dsimp only; decide +kernel⟩⟩

theorem witness_ChargingRuns :
    (∃ (g : Fin 12) (s : State), Live s ∧ s.isPv g = true ∧ s.pvState g = 1 ∧ s.fg (Fld.CHG_CG_VWIN_VMIN g) < s.fg (Fld.CHG_CG_VWIN_VSTART g) ∧ s.mode g = 0 ∧ bitOf (s.fg Fld.CHG_PVFLT_OUT_OV) g = false ∧ bitOf (s.fg Fld.CHG_PVFLT_PV_REV) g = false ∧ s.fb (Fld.CNV_CG_FLAG_OCP g) = false ∧ 10000 ≤ (s.chgG g).upMs) ∧
    (∃ (g : Fin 12) (s : State), Live s ∧ s.isPv g = true ∧ s.pvState g = 1 ∧ s.fg (Fld.CHG_CG_VWIN_VMIN g) < s.fg (Fld.CHG_CG_VWIN_VSTART g) ∧ s.mode g = 0 ∧ bitOf (s.fg Fld.CHG_PVFLT_OUT_OV) g = false ∧ bitOf (s.fg Fld.CHG_PVFLT_PV_REV) g = false ∧ s.fb (Fld.CNV_CG_FLAG_OCP g) = false ∧ (s.chgG g).upMs < 10000) ∧
    (∃ (g : Fin 12) (s : State), Live s ∧ s.isPv g = true ∧ 2 ≤ s.pvState g ∧ ((s.pvDemand g = false ∨ 60000 ≤ (s.chgG g).lowMs))) ∧
    (∃ (g : Fin 12) (s : State), Live s ∧ s.isPv g = true ∧ 2 ≤ s.pvState g ∧ s.pvDemand g = true ∧ (s.chgG g).lowMs < 60000) ∧
    (∃ (g : Fin 12) (s : State) (rev : Bool), Live s ∧ s.isPv g = true ∧ s.mode g ≠ 0 ∧ (if rev = true then 10 ≤ (s.chgG g).revMs else 2 ≤ (s.chgG g).ovN)) ∧
    (∃ (g : Fin 12) (s : State), 
    let due := (s.chgG g).scanAge = none ∨ ∃ a, (s.chgG g).scanAge = some a ∧ 60000 * s.fg (Fld.CHG_CG_MPPT_SCANIVL g) ≤ a
    let held := s.pvState g = 3 ∨ (s.onBus g = true ∧ s.phase ≠ phIdle)
    Live s ∧ s.isPv g = true ∧ s.mode g = 4 ∧ ((s.pvState g = 2 ∨ s.pvState g = 3)) ∧ due ∧ (¬ held)) ∧
    (∃ (g : Fin 12) (s : State), 
    let due := (s.chgG g).scanAge = none ∨ ∃ a, (s.chgG g).scanAge = some a ∧ 60000 * s.fg (Fld.CHG_CG_MPPT_SCANIVL g) ≤ a
    let held := s.pvState g = 3 ∨ (s.onBus g = true ∧ s.phase ≠ phIdle)
    Live s ∧ s.isPv g = true ∧ s.mode g = 4 ∧ ((s.pvState g = 2 ∨ s.pvState g = 3)) ∧ (¬ due ∨ held)) ∧
    (∃ (g : Fin 12) (s : State) (k : Nat) (best : Option (Rat × Rat)), Live s ∧ s.isPv g = true ∧ s.mode g = 4 ∧ s.pvState g = 4 ∧ (s.chgG g).scan = some (k, best) ∧ k < 63) ∧
    (∃ (g : Fin 12) (s : State) (k : Nat) (best : Option (Rat × Rat)), Live s ∧ s.isPv g = true ∧ s.mode g = 4 ∧ s.pvState g = 4 ∧ (s.chgG g).scan = some (k, best) ∧ 63 ≤ k) ∧
    (∃ (g : Fin 12) (s : State), 
    let vmin : Rat := (s.fg (Fld.CHG_CG_VWIN_VMIN g) : Rat) / 10
    Live s ∧ s.isPv g = true ∧ vmin ≤ 95 / 100 * (s.chgG g).voc) ∧
    (∃ (g : Fin 12) (s : State), Live s ∧ s.isPv g = true) ∧
    (∃ (n : Fin 8) (s : State), Live s ∧ s.chgPhase n = 2 ∧ 10000 ≤ (s.chgS n).ccMs) ∧
    (∃ (n : Fin 8) (s : State), Live s ∧ s.chgPhase n = 2 ∧ (s.chgS n).ccMs < 10000) ∧
    (∃ (n : Fin 8) (s : State), Live s ∧ s.chgPhase n = 2 ∧ s.fg (Fld.CHG_S_LIM_ITERM n) ≠ 0 ∧ 10000 * s.fg Fld.CHG_CFG_TTERM ≤ (s.chgS n).termMs) ∧
    (∃ (n : Fin 8) (s : State), Live s ∧ s.chgPhase n = 2 ∧ (s.fg (Fld.CHG_S_LIM_ITERM n) = 0 ∨ (s.chgS n).termMs < 10000 * s.fg Fld.CHG_CFG_TTERM)) ∧
    (∃ (n : Fin 8) (s : State) (w : _), Live s ∧ s.inEpisode n = true ∧ 10000 ≤ (s.chgS n).heldMs ∧ s.heldPower n = some w) ∧
    (∃ (n : Fin 8) (s : State), Live s ∧ s.inEpisode n = true ∧ (s.chgS n).heldMs < 10000) ∧
    (∃ (n : Fin 8) (s : State), Live s ∧ s.inEpisode n = true ∧ 7200000 * s.fg Fld.CHG_CFG_TSAFE ≤ (s.chgS n).half) ∧
    (∃ (n : Fin 8) (s : State), Live s ∧ s.inEpisode n = true ∧ (s.chgS n).half < 7200000 * s.fg Fld.CHG_CFG_TSAFE) ∧
    (∃ (n : Fin 8) (s : State), Live s ∧ 1000 ≤ (s.chgS n).ovMs) ∧
    (∃ (n : Fin 8) (s : State), Live s ∧ (s.chgS n).ovMs < 1000) ∧
    (∃ (n : Fin 8) (s : State), Live s ∧ s.chargers n ≠ []) ∧
    (∃ (g : Fin 12) (s : State), Live s ∧ s.mode g = 0) ∧
    (∃ (g : Fin 12) (s : State), Live s ∧ s.mode g ≠ 0) :=
  ⟨⟨2, (fun s => s.setChgG 2 { s.chgG 2 with upMs := 10000 }) (put [((Fld.CHG_CG_STAT_STATE 2), 1), ((Fld.CNV_CG_STAT_MODE 2), 0), ((Fld.CNV_CG_FLAG_OCP 2), 0), ((Fld.CHG_CG_VWIN_VSTART 2), 100)] tLoad), by decide⟩,
   ⟨2, put [((Fld.CHG_CG_STAT_STATE 2), 1), ((Fld.CNV_CG_STAT_MODE 2), 0), ((Fld.CNV_CG_FLAG_OCP 2), 0), ((Fld.CHG_CG_VWIN_VSTART 2), 100)] tLoad, by decide⟩,
   ⟨2, put [((Fld.CNV_CG_STAT_MODE 2), 4), ((Fld.CHG_CG_STAT_STATE 2), 2)] tLoad, by decide⟩,
   ⟨2, (fun s => s.setOrd { s.ord with orders := [{ tOrder with state := 4, ty := 3, plan := [⟨0, 10, 0, 1000⟩] }] }) (put [((Fld.CHG_CG_STAT_STATE 2), 2)] tLoad), by decide +kernel⟩,
   ⟨2, (fun s => s.setChgG 2 { s.chgG 2 with revMs := 10 }) (put [((Fld.CNV_CG_STAT_MODE 2), 4), ((Fld.CHG_CG_STAT_STATE 2), 2)] tLoad), true, by decide⟩,
   ⟨2, (fun s => s.setChgG 2 { s.chgG 2 with voc := 100, vref := 80 }) (put [((Fld.CNV_CG_STAT_MODE 2), 4), ((Fld.CHG_CG_STAT_STATE 2), 2)] tLoad), by dsimp only; decide⟩,
   ⟨2, (fun s => s.setChgG 2 { s.chgG 2 with voc := 100, vref := 80, scanAge := some 0 }) (put [((Fld.CNV_CG_STAT_MODE 2), 4), ((Fld.CHG_CG_STAT_STATE 2), 2)] (putW [((Reg.CHG_CG_MPPT 2), 0xFF010101)] tLoad)), by dsimp only; decide⟩,
   ⟨2, (fun s => s.setChgG 2 { s.chgG 2 with voc := 100, vref := 80, scan := some (3, none) }) (put [((Fld.CNV_CG_STAT_MODE 2), 4), ((Fld.CHG_CG_STAT_STATE 2), 4)] tLoad), 3, none, by decide⟩,
   ⟨2, (fun s => s.setChgG 2 { s.chgG 2 with voc := 100, vref := 80, scan := some (63, none) }) (put [((Fld.CNV_CG_STAT_MODE 2), 4), ((Fld.CHG_CG_STAT_STATE 2), 4)] tLoad), 63, none, by decide⟩,
   ⟨2, (fun s => s.setChgG 2 { s.chgG 2 with voc := 100, vref := 80, vPrev := 78, iPrev := 1 }) tLoad, by dsimp only; decide +kernel⟩,
   ⟨2, (fun s => s.setChgG 2 { s.chgG 2 with voc := 100, vref := 80, vPrev := 78, iPrev := 1 }) tLoad, by decide +kernel⟩,
   ⟨0, (fun s => s.setChgS 0 { s.chgS 0 with ccMs := 10000 }) (put [((Fld.CHG_S_STAT_PHASE 0), 2)] tLoad), by decide⟩,
   ⟨0, put [((Fld.CHG_S_STAT_PHASE 0), 2)] tLoad, by decide⟩,
   ⟨0, (fun s => s.setChgS 0 { s.chgS 0 with termMs := 10000000 }) (put [((Fld.CHG_S_STAT_PHASE 0), 2), ((Fld.CHG_S_LIM_ITERM 0), 1)] tLoad), by decide⟩,
   ⟨0, put [((Fld.CHG_S_STAT_PHASE 0), 2), ((Fld.CHG_S_LIM_ITERM 0), 0)] tLoad, by decide⟩,
   ⟨0, (fun s => s.setChgS 0 { s.chgS 0 with heldMs := 10000 }) ((fun s => s.setOrd { s.ord with orders := [{ tOrder with state := 4, ty := 3, plan := [⟨0, 10, 0, 1000⟩] }] }) (put [((Fld.CHG_S_STAT_PHASE 0), 1)] tLoad)), (0 : Rat), by decide +kernel⟩,
   ⟨0, put [((Fld.CHG_S_STAT_PHASE 0), 1)] tLoad, by decide⟩,
   ⟨0, (fun s => s.setChgS 0 { s.chgS 0 with half := 1000000000000 }) (put [((Fld.CHG_S_STAT_PHASE 0), 1)] tLoad), by decide⟩,
   ⟨0, put [((Fld.CHG_S_STAT_PHASE 0), 1), (Fld.CHG_CFG_TSAFE, 1)] tLoad, by decide⟩,
   ⟨0, (fun s => s.setChgS 0 { s.chgS 0 with ovMs := 1000 }) tLoad, by decide⟩,
   ⟨0, tLoad, by decide⟩,
   ⟨0, (fun s => s.setGrp 2 { grp0 with stage := 3 }) (put [((Fld.CNV_CG_STAT_MODE 2), 4)] tLoad), by decide⟩,
   ⟨0, put [((Fld.CNV_CG_STAT_MODE 0), 0)] tLoad, by decide⟩,
   ⟨0, put [((Fld.CNV_CG_STAT_MODE 0), 2)] tLoad, by decide⟩⟩

theorem witness_CanControllersCount :
    (∃ (p : Port) (c : Fin 2) (s : State), Reach p (Reg.CAN_C_CFG c) s ∧ s.canTiming c = false) ∧
    (∃ (p : Port) (c : Fin 2) (s : State), Reach p (Reg.CAN_C_CFG c) s ∧ s.canTiming c = true) ∧
    (∃ (p : Port) (c : Fin 2) (s : State), Reach p (Reg.CAN_C_CFG c) s) ∧
    (∃ (c : Fin 2) (sub : Nat) (s : State), 
    let v := aclkTo sub s
    Live s ∧ v.canListens c = false) ∧
    (∃ (c : Fin 2) (frame : Word) (sub : Nat) (s : State), 
    let v := aclkTo sub s
    Live s ∧ v.canListens c = true ∧ bitOf frame.toNat 30 = false) ∧
    (∃ (i : Fin 64) (s : State), Live s ∧ (i : Nat) < s.fmtCount ∧ u16At (s.fmt i) 18 ≠ 0 ∧ ((s.awake = true ∨ (s.powerState = 1 ∧ s.est.burst = true)))) ∧
    (∃ (s : State), Live s ∧ s.powerState = 1 ∧ s.est.burst = false) ∧
    (∃ (s : State), Live s ∧ s.powerState = 1 ∧ s.est.burst = true) ∧
    (∃ (c : Fin 2) (s : State), Live s ∧ s.canState c = 2) ∧
    (∃ (c : Fin 2) (s : State), Live s ∧ s.canListens c = true ∧ s.fb (Fld.CAN_C_CFG_LISTEN c) = false) ∧
    (∃ (c : Fin 2) (t : Nat) (s : State), 255 < t ∧ s.canState c ≠ 2) ∧
    (∃ (s : State), Live s ∧ s.awake = true) :=
  ⟨⟨.spt, 0, putW [(0x0D0004, 0), (0x0D0008, 0)] tLoad, by decide⟩,
   ⟨.spt, 0, tLoad, by decide⟩,
   ⟨.spt, 0, tLoad, by decide⟩,
   ⟨0, 1, tLoad, by dsimp only; decide⟩,
   ⟨0, 0x00000123, 1, put [((Fld.CAN_C_CFG_EN 0), 1)] tLoad, by dsimp only; decide⟩,
   ⟨0, (fun s => s.setImage (some { tImage with secs := (9, secOf 136 [(0, 1), (26, 5)]) :: tImage.secs })) (put [(Fld.SYS_PWR_STAT_STATE, 2)] tLoad), by decide⟩,
   ⟨(fun s => s.setEst { s.est with burst := false }) (put [(Fld.SYS_PWR_STAT_STATE, 1)] tLoad), by decide⟩,
   ⟨(fun s => s.setEst { s.est with burst := true }) (put [(Fld.SYS_PWR_STAT_STATE, 1)] tLoad), by decide⟩,
   ⟨0, put [((Fld.CAN_C_STAT_ESTATE 0), 2), ((Fld.CAN_C_CFG_EN 0), 1)] tLoad, by decide⟩,
   ⟨0, put [((Fld.CAN_C_CFG_LISTEN 0), 0), ((Fld.CAN_C_CFG_EN 0), 1)] tLoad, by decide⟩,
   ⟨0, 256, put [((Fld.CAN_C_STAT_ESTATE 0), 0)] tLoad, by decide⟩,
   ⟨put [(Fld.SYS_PWR_STAT_STATE, 2)] tLoad, by decide⟩⟩

theorem witness_EstimatorUpdatesAndPersists :
    (∃ (s : State), Live s ∧ s.fb Fld.EST_STAT_RUN = false ∧ s.image.isSome = true ∧ s.rst.firmware = true) ∧
    (∃ (sub : Nat) (s : State), 
    let v := aclkTo sub s
    Live s ∧ v.fb Fld.EST_STAT_RUN = true ∧ v.awake = true) ∧
    (∃ (sub : Nat) (s : State), 
    let v := aclkTo sub s
    Live s ∧ v.fb Fld.EST_STAT_RUN = false ∧ v.awake = true) ∧
    (∃ (sub : Nat) (s : State), 
    let v := aclkTo sub s
    Live s ∧ v.powerState = 1 ∧ v.est.burst = true ∧ v.est.burstDue = false) ∧
    (∃ (s : State), Live s) ∧
    (∃ (s : State), Live s ∧ s.nvWaits wLearned = true) ∧
    (∃ (s : State), 
    let seq := max (s.estSlotSeq 0) (s.estSlotSeq 1) + 1
    Live s ∧ s.nvWaits wLearned = false ∧ s.nvBusy wLearned = false ∧ s.fb Fld.EST_CFG_PERS = true ∧ s.fb Fld.EST_STAT_RUN = true ∧ seq ≤ 0xFFFFFF) ∧
    (∃ (s : State), Live s ∧ s.nvWaits wLearned = false ∧ s.nvBusy wLearned = true ∧ s.fb Fld.EST_CFG_PERS = true) ∧
    (∃ (p : Port) (s : State), Reach p Reg.EST_CTL s) ∧
    (∃ (p : Port) (s : State), Reach p Reg.EST_CFG s) ∧
    (∃ (p : Port) (m : Fin 128) (v : Word) (s : State), 
    let cap := fldOf v 0 24
    let sig := fldOf v 24 8
    let ok := s.modUsed m = true ∧ s.modCells m ≠ 0 ∧ 300 * s.modCapacity m ≤ 10 * cap ∧ 10 * cap ≤ 1200 * s.modCapacity m ∧ 5 ≤ sig ∧ sig ≤ 200
    Reach p (Reg.EST_M_LCAP m) s ∧ ok) ∧
    (∃ (p : Port) (m : Fin 128) (v : Word) (s : State), 
    let cap := fldOf v 0 24
    let sig := fldOf v 24 8
    let ok := s.modUsed m = true ∧ s.modCells m ≠ 0 ∧ 300 * s.modCapacity m ≤ 10 * cap ∧ 10 * cap ≤ 1200 * s.modCapacity m ∧ 5 ≤ sig ∧ sig ≤ 200
    Reach p (Reg.EST_M_LCAP m) s ∧ (¬ ok)) ∧
    (∃ (p : Port) (m : Fin 128) (v : Word) (s : State), Reach p (Reg.EST_M_HLTH m) s ∧ s.modUsed m = true ∧ s.modCells m ≠ 0 ∧ curveRcell (s.modCurveB m) ≤ 4 * fldOf v 16 16 ∧ fldOf v 16 16 ≤ 4 * curveRcell (s.modCurveB m)) :=
  ⟨⟨(fun s => s.setRst { s.rst with firmware := true }) (put [(Fld.EST_STAT_RUN, 0)] tLoad), by decide⟩,
   ⟨1, put [(Fld.EST_STAT_RUN, 1), (Fld.SYS_PWR_STAT_STATE, 2)] tLoad, by dsimp only; decide⟩,
   ⟨1, put [(Fld.EST_STAT_RUN, 0), (Fld.SYS_PWR_STAT_STATE, 2)] tLoad, by dsimp only; decide⟩,
   ⟨1, (fun s => s.setEst { s.est with burst := true, burstDue := false }) (put [(Fld.SYS_PWR_STAT_STATE, 1)] tLoad), by dsimp only; decide⟩,
   ⟨tLoad, by decide⟩,
   ⟨(fun s => s.setNvm { s.nvm with words := [(wLearned, 0x100000, 5)] }) tLoad, by decide⟩,
   ⟨put [(Fld.EST_CFG_PERS, 1), (Fld.EST_STAT_RUN, 1)] tLoad, by dsimp only; decide⟩,
   ⟨(fun s => s.setNvm { s.nvm with busy := [wLearned] }) (put [(Fld.EST_CFG_PERS, 1)] tLoad), by decide⟩,
   ⟨.spt, tLoad, by decide⟩,
   ⟨.spt, tLoad, by decide⟩,
   ⟨.spt, 0, 0x640186A0, tLoad, by dsimp only; decide⟩,
   ⟨.spt, 0, 5, tLoad, by dsimp only; decide⟩,
   ⟨.spt, 0, 1, tLoad, by decide⟩⟩

theorem witness_EfusesAndFeeds :
    (∃ (s : State), Live s) ∧
    (∃ (c : Fin 8) (vi : Nat) (s : State), Live s ∧ s.feedOf c = none ∧ 10 * s.fg (Fld.EFU_CH_VWIN_UVIN c) ≤ vi ∧ vi ≤ 10 * s.fg (Fld.EFU_CH_VWIN_OVIN c) ∧ s.eState c = 1 ∧ ((s.efu c).vOk = true ∨ 50000 ≤ (s.efu c).okFor + s.efuTick)) ∧
    (∃ (c : Fin 8) (vi : Nat) (s : State), Live s ∧ s.feedOf c = none ∧ 10 * s.fg (Fld.EFU_CH_VWIN_UVIN c) ≤ vi ∧ vi ≤ 10 * s.fg (Fld.EFU_CH_VWIN_OVIN c) ∧ s.eState c = 1 ∧ (s.efu c).vOk = false ∧ (s.efu c).okFor + s.efuTick < 50000) ∧
    (∃ (c : Fin 8) (uv : Int) (vi : Nat) (s : State), Live s ∧ s.feedOf c = none ∧ 10 * s.fg (Fld.EFU_CH_VWIN_UVIN c) ≤ vi ∧ vi ≤ 10 * s.fg (Fld.EFU_CH_VWIN_OVIN c) ∧ 2 ≤ s.eState c ∧ s.eState c ≤ 4 ∧ s.fg (Fld.EFU_CH_CAP_CAP c) = 0xFFFF ∧ s.fg (Fld.EFU_CH_SOA_SOA c) = 0 ∧ (s.fg (Fld.EFU_CH_LIM_ILIM c) : Rat) / 100 ≤ s.efuAmps c uv ∧ (s.efu c).ft + s.efuTick < (100 * s.fg (Fld.EFU_CH_LIM_FT c) : Nat)) ∧
    (∃ (c : Fin 8) (uv : Int) (vi : Nat) (s : State), Live s ∧ s.feedOf c = none ∧ 10 * s.fg (Fld.EFU_CH_VWIN_UVIN c) ≤ vi ∧ vi ≤ 10 * s.fg (Fld.EFU_CH_VWIN_OVIN c) ∧ 2 ≤ s.eState c ∧ s.eState c ≤ 4 ∧ s.fg (Fld.EFU_CH_CAP_CAP c) = 0xFFFF ∧ s.fg (Fld.EFU_CH_SOA_SOA c) = 0 ∧ (s.fg (Fld.EFU_CH_LIM_ILIM c) : Rat) / 100 ≤ s.efuAmps c uv ∧ ((100 * s.fg (Fld.EFU_CH_LIM_FT c) : Nat) : Rat) ≤ (s.efu c).ft + s.efuTick) ∧
    (∃ (c : Fin 8) (uv : Int) (vi : Nat) (s : State), Live s ∧ s.feedOf c = none ∧ 10 * s.fg (Fld.EFU_CH_VWIN_UVIN c) ≤ vi ∧ vi ≤ 10 * s.fg (Fld.EFU_CH_VWIN_OVIN c) ∧ 2 ≤ s.eState c ∧ s.eState c ≤ 4 ∧ s.fg (Fld.EFU_CH_CAP_CAP c) = 0xFFFF ∧ s.fg (Fld.EFU_CH_SOA_SOA c) = 0 ∧ s.efuAmps c uv < (s.fg (Fld.EFU_CH_LIM_ILIM c) : Rat) / 100 ∧ s.eState c = 3 ∧ max 0 ((s.efu c).ft - s.efuTick / 8) < (100 * s.fg (Fld.EFU_CH_LIM_FT c) : Nat)) ∧
    (∃ (c : Fin 8) (s : State) (uv : Int), Live s ∧ s.gateOn c = true ∧ ((3 * s.fg (Fld.EFU_CH_LIM_ILIM c) : Nat) : Rat) < 100 * s.efuAmps c uv) ∧
    (∃ (c : Fin 8) (s : State) (uv : Int), Live s ∧ (s.gateOn c = false ∨ 100 * s.efuAmps c uv ≤ ((3 * s.fg (Fld.EFU_CH_LIM_ILIM c) : Nat) : Rat))) ∧
    (∃ (c : Fin 8) (s : State) (mv : Int), Live s ∧ s.gateOn c = false ∧ mv < 1000) ∧
    (∃ (c : Fin 8) (s : State) (mv : Int), Live s ∧ s.gateOn c = false ∧ 1000 ≤ mv) ∧
    (∃ (c : Fin 8) (s : State), Live s ∧ s.gateOn c = true) ∧
    (∃ (c : Fin 8) (s : State), Live s ∧ bitOf (s.fg Fld.EFU_THR_REQ) c = true ∧ ((100000 * s.fg Fld.EFU_THR_GRACE : Nat) : Rat) ≤ (s.efu c).reqFor) ∧
    (∃ (c : Fin 8) (s : State), Live s ∧ (bitOf (s.fg Fld.EFU_THR_REQ) c = false ∨ (s.efu c).reqFor < ((100000 * s.fg Fld.EFU_THR_GRACE : Nat) : Rat))) ∧
    (∃ (p : Port) (c : Fin 8) (s : State), 
    let v := s.fg (Fld.EFU_CH_LIM_ILIM c) * s.fg (Fld.EFU_CH_RSNS_RSNS c)
    Reach p (Reg.EFU_CH_EN c) s ∧ (v < 500000 ∨ 10000000 < v)) ∧
    (∃ (p : Port) (c : Fin 8) (s : State), 
    let v := s.fg (Fld.EFU_CH_LIM_ILIM c) * s.fg (Fld.EFU_CH_RSNS_RSNS c)
    Reach p (Reg.EFU_CH_EN c) s ∧ 500000 ≤ v ∧ v ≤ 10000000) ∧
    (∃ (p : Port) (c : Fin 8) (s : State), Reach p (Reg.EFU_CH_EN c) s ∧ s.efuEnabled c = true) ∧
    (∃ (p : Port) (c : Fin 8) (s : State), Reach p (Reg.EFU_CH_EN c) s ∧ s.efuEnabled c = false) ∧
    (∃ (c : Nat) (s : State), s.efuEnabled c = true ∧ (s.efu c).gateOff = true) ∧
    (∃ (c : Nat) (s : State), s.efuEnabled c = true ∧ (s.efu c).gateOff = false) ∧
    (∃ (c : Nat) (s : State), s.efuEnabled c = false) ∧
    (∃ (f : Fin 3) (s : State) (i : _), Live s ∧ s.feedCount f ≠ 0 ∧ s.feedStep f = 0 ∧ s.bestMember f = some i ∧ ((∀ c, s.selected f = some c → s.healthy c = false))) ∧
    (∃ (f : Fin 3) (s : State), Live s ∧ s.feedCount f ≠ 0 ∧ s.feedStep f = 0 ∧ s.bestMember f = none ∧ s.selected f = none ∧ s.fb (Fld.EFU_F_STAT_LOST f) = false) ∧
    (∃ (f : Fin 3) (s : State) (c : _), Live s ∧ s.feedCount f ≠ 0 ∧ s.feedStep f = 0 ∧ s.bestMember f = none ∧ s.fb (Fld.EFU_F_STAT_LOST f) = false ∧ s.selected f = some c ∧ s.healthy c = false) ∧
    (∃ (f : Fin 3) (s : State), Live s ∧ (s.feedCount f = 0 ∨ s.feedStep f ≠ 0 ∨ (∃ c, s.selected f = some c ∧ s.healthy c = true))) ∧
    (∃ (f : Fin 3) (s : State), Live s ∧ s.feedStep f = 0 ∧ s.mayReturn f = true) ∧
    (∃ (f : Fin 3) (s : State), Live s ∧ s.mayReturn f = false) ∧
    (∃ (f : Fin 3) (s : State) (i : _), Live s ∧ s.feedStep f = 2 ∧ s.bestMember f = some i) ∧
    (∃ (f : Fin 3) (s : State), Live s ∧ s.feedStep f = 2 ∧ s.bestMember f = none) ∧
    (∃ (f : Fin 3) (s : State), Live s ∧ s.feedStep f ≠ 2) :=
  ⟨⟨(fun s => s.setEfu 4 { s.efu 4 with vOk := true }) (put [((Fld.EFU_CH_VWIN_UVIN 4), 10), ((Fld.EFU_CH_VWIN_OVIN 4), 100), ((Fld.EFU_CH_CAP_CAP 4), 0xFFFF), ((Fld.EFU_CH_LIM_ILIM 4), 1000), ((Fld.EFU_CH_STAT_STATE 4), 1)] tLoad), by decide⟩,
   ⟨4, 500, (fun s => s.setEfu 4 { s.efu 4 with vOk := true }) (put [((Fld.EFU_CH_STAT_STATE 4), 1), ((Fld.EFU_CH_VWIN_UVIN 4), 10), ((Fld.EFU_CH_VWIN_OVIN 4), 100), ((Fld.EFU_CH_CAP_CAP 4), 0xFFFF), ((Fld.EFU_CH_LIM_ILIM 4), 1000), ((Fld.EFU_CH_RSNS_RSNS 4), 1000)] tLoad), by decide +kernel⟩,
   ⟨4, 500, (fun s => s.setEfu 4 { s.efu 4 with vOk := false }) (put [((Fld.EFU_CH_STAT_STATE 4), 1), ((Fld.EFU_CH_VWIN_UVIN 4), 10), ((Fld.EFU_CH_VWIN_OVIN 4), 100), ((Fld.EFU_CH_CAP_CAP 4), 0xFFFF), ((Fld.EFU_CH_LIM_ILIM 4), 1000), ((Fld.EFU_CH_RSNS_RSNS 4), 1000)] tLoad), by decide +kernel⟩,
   ⟨4, 20000, 500, put [((Fld.EFU_CH_CAP_CAP 4), 0xFFFF), ((Fld.EFU_CH_SOA_SOA 4), 0), ((Fld.EFU_CH_VWIN_UVIN 4), 10), ((Fld.EFU_CH_VWIN_OVIN 4), 100), ((Fld.EFU_CH_LIM_ILIM 4), 1000), ((Fld.EFU_CH_RSNS_RSNS 4), 1000), ((Fld.EFU_CH_LIM_FT 4), 10), ((Fld.EFU_CH_STAT_STATE 4), 3)] tLoad, by decide +kernel⟩,
   ⟨4, 20000, 500, put [((Fld.EFU_CH_CAP_CAP 4), 0xFFFF), ((Fld.EFU_CH_SOA_SOA 4), 0), ((Fld.EFU_CH_VWIN_UVIN 4), 10), ((Fld.EFU_CH_VWIN_OVIN 4), 100), ((Fld.EFU_CH_LIM_ILIM 4), 1000), ((Fld.EFU_CH_RSNS_RSNS 4), 1000), ((Fld.EFU_CH_STAT_STATE 4), 3), ((Fld.EFU_CH_LIM_FT 4), 0)] tLoad, by decide +kernel⟩,
   ⟨4, 0, 500, put [((Fld.EFU_CH_CAP_CAP 4), 0xFFFF), ((Fld.EFU_CH_SOA_SOA 4), 0), ((Fld.EFU_CH_STAT_STATE 4), 3), ((Fld.EFU_CH_VWIN_UVIN 4), 10), ((Fld.EFU_CH_VWIN_OVIN 4), 100), ((Fld.EFU_CH_LIM_ILIM 4), 1000), ((Fld.EFU_CH_RSNS_RSNS 4), 1000), ((Fld.EFU_CH_LIM_FT 4), 10)] tLoad, by decide +kernel⟩,
   ⟨4, put [((Fld.EFU_CH_VWIN_UVIN 4), 10), ((Fld.EFU_CH_VWIN_OVIN 4), 100), ((Fld.EFU_CH_CAP_CAP 4), 0xFFFF), ((Fld.EFU_CH_LIM_ILIM 4), 1000), ((Fld.EFU_CH_RSNS_RSNS 4), 1000), ((Fld.EFU_CH_STAT_STATE 4), 3)] tLoad, 40000, by decide +kernel⟩,
   ⟨4, tLoad, 0, by decide⟩,
   ⟨4, tLoad, 500, by decide⟩,
   ⟨4, tLoad, 2000, by decide⟩,
   ⟨4, put [((Fld.EFU_CH_STAT_STATE 4), 3)] tLoad, by decide⟩,
   ⟨4, put [(Fld.EFU_THR_REQ, 0x10), (Fld.EFU_THR_GRACE, 0)] tLoad, by decide +kernel⟩,
   ⟨4, tLoad, by decide⟩,
   ⟨.spt, 0, (fun s => s.setEfu 1 { s.efu 1 with ball := true, vOk := true }) ((fun s => s.setEfu 0 { s.efu 0 with ball := true, vOk := true, healthFor := 1000000000 }) (put [((Fld.EFU_CH_EN_EN 0), 1), ((Fld.EFU_CH_EN_EN 1), 1), ((Fld.EFU_F_STAT_SEL 0), 1)] tLoad)), by dsimp only; decide⟩,
   ⟨.spt, 4, put [((Fld.EFU_CH_VWIN_UVIN 4), 10), ((Fld.EFU_CH_VWIN_OVIN 4), 100), ((Fld.EFU_CH_CAP_CAP 4), 0xFFFF), ((Fld.EFU_CH_LIM_ILIM 4), 1000), ((Fld.EFU_CH_RSNS_RSNS 4), 1000)] tLoad, by dsimp only; decide⟩,
   ⟨.spt, 4, (fun s => s.setEfu 4 { s.efu 4 with ball := true }) (put [((Fld.EFU_CH_EN_EN 4), 1)] tLoad), by decide⟩,
   ⟨.spt, 4, tLoad, by decide⟩,
   ⟨4, (fun s => s.setEfu 4 { s.efu 4 with ball := true, gateOff := true }) (put [((Fld.EFU_CH_EN_EN 4), 1)] tLoad), by decide⟩,
   ⟨4, (fun s => s.setEfu 4 { s.efu 4 with ball := true, gateOff := false }) (put [((Fld.EFU_CH_EN_EN 4), 1)] tLoad), by decide⟩,
   ⟨4, tLoad, by decide⟩,
   ⟨0, (fun s => s.setEfu 0 { s.efu 0 with ball := true, vOk := true }) (put [((Fld.EFU_CH_EN_EN 0), 1), ((Fld.EFU_CH_EN_EN 1), 1), ((Fld.EFU_F_STAT_SEL 0), 3)] tLoad), 0, by decide⟩,
   ⟨0, put [((Fld.EFU_F_STAT_LOST 0), 0), ((Fld.EFU_F_STAT_SEL 0), 3)] tLoad, by decide⟩,
   ⟨0, put [((Fld.EFU_F_STAT_LOST 0), 0), ((Fld.EFU_F_STAT_SEL 0), 0)] tLoad, 0, by decide⟩,
   ⟨2, tLoad, by decide⟩,
   ⟨0, (fun s => s.setEfu 1 { s.efu 1 with ball := true, vOk := true }) ((fun s => s.setEfu 0 { s.efu 0 with ball := true, vOk := true, healthFor := 1000000000 }) (put [((Fld.EFU_CH_EN_EN 0), 1), ((Fld.EFU_CH_EN_EN 1), 1), ((Fld.EFU_F_STAT_SEL 0), 1)] tLoad)), by decide +kernel⟩,
   ⟨2, tLoad, by decide⟩,
   ⟨0, (fun s => s.setFeedStep 0 2) ((fun s => s.setEfu 1 { s.efu 1 with ball := true, vOk := true }) (put [((Fld.EFU_CH_EN_EN 0), 1), ((Fld.EFU_CH_EN_EN 1), 1)] tLoad)), 1, by decide⟩,
   ⟨0, (fun s => s.setFeedStep 0 2) tLoad, by decide⟩,
   ⟨0, tLoad, by decide⟩⟩

theorem witness_ContactorsMove :
    (∃ (p : Port) (n : Fin 8) (s : State), Reach p (Reg.EFU_S_KCTL n) s ∧ (s.strUsed n = false ∨ s.strCarries n = false)) ∧
    (∃ (p : Port) (n : Fin 8) (s : State), 
    let fed := s.shelfFeed (s.strShelf n)
    let bar := s.awake = false ∨ s.fb Fld.EFU_STAT_ESTOP = true ∨ s.kState n ≠ 0 ∨ (fed < 3 ∧ s.fb (Fld.EFU_F_STAT_LOST fed) = true)
    Reach p (Reg.EFU_S_KCTL n) s ∧ s.strUsed n = true ∧ s.strCarries n = true ∧ bar) ∧
    (∃ (p : Port) (n : Fin 8) (s : State), 
    let fed := s.shelfFeed (s.strShelf n)
    let bar := s.awake = false ∨ s.fb Fld.EFU_STAT_ESTOP = true ∨ s.kState n ≠ 0 ∨ (fed < 3 ∧ s.fb (Fld.EFU_F_STAT_LOST fed) = true)
    Reach p (Reg.EFU_S_KCTL n) s ∧ s.strUsed n = true ∧ s.strCarries n = true ∧ (¬ bar)) ∧
    (∃ (p : Port) (n : Fin 8) (s : State), Reach p (Reg.EFU_S_KCTL n) s ∧ s.orderNames n = true) ∧
    (∃ (p : Port) (n : Fin 8) (s : State), Reach p (Reg.EFU_S_KCTL n) s ∧ s.orderNames n = false ∧ s.phase = phIdle) ∧
    (∃ (n : Fin 8) (s : State), Live s ∧ s.kState n = 1 ∧ 409600 ≤ (s.preTimes n).1 ∧ 163840 ≤ (s.preTimes n).2) ∧
    (∃ (n : Fin 8) (s : State), Live s ∧ s.kState n = 1 ∧ ((s.preTimes n).1 < 409600 ∨ (s.preTimes n).2 < 163840)) ∧
    (∃ (n : Fin 8) (s : State), Live s ∧ s.kState n = 1 ∧ 8192 * s.strPrecharge n ≤ (s.preTimes n).1) ∧
    (∃ (n : Fin 8) (s : State), Live s ∧ s.kState n = 1 ∧ (s.preTimes n).1 < 8192 * s.strPrecharge n) ∧
    (∃ (n : Fin 8) (s : State), Live s ∧ s.kState n = 2 ∧ s.fb (Fld.EFU_S_KSTAT_KF n) = false) ∧
    (∃ (n : Fin 8) (s : State), Live s ∧ s.kState n = 2 ∧ s.fb (Fld.EFU_S_KSTAT_KF n) = true) ∧
    (∃ (n : Fin 8) (s : State), Live s ∧ s.kState n = 3 ∧ s.charging n = false) ∧
    (∃ (n : Fin 8) (s : State), Live s ∧ s.kState n = 3 ∧ s.charging n = true ∧ s.chargers n ≠ []) ∧
    (∃ (n : Fin 8) (s : State), Live s ∧ (s.kState n = 0 ∨ s.kState n = 4) ∧ s.entersDormant = false) ∧
    (∃ (n : Fin 8) (s : State), Live s ∧ (s.kState n = 0 ∨ s.kState n = 4) ∧ s.entersDormant = true) ∧
    (∃ (n : Fin 8) (s : State), Live s ∧ s.kState n = 4) ∧
    (∃ (s : State) (b : Nat), Live s ∧ b < 5) ∧
    (∃ (s : State), Live s) ∧
    (∃ (p : Port) (n : Fin 8) (s : State), Reach p (Reg.EFU_S_KFLAG n) s) ∧
    (∃ (s : State), Live s ∧ s.image.isSome = true) ∧
    (∃ (s : State), Live s ∧ s.image = none) :=
  ⟨⟨.spt, 7, tLoad, by decide⟩,
   ⟨.spt, 0, put [(Fld.EFU_STAT_ESTOP, 1)] tLoad, by dsimp only; decide⟩,
   ⟨.spt, 0, tLoad, by dsimp only; decide⟩,
   ⟨.spt, 0, (fun s => s.setOrd { s.ord with orders := [tOrder] }) tLoad, by decide⟩,
   ⟨.spt, 0, put [(Fld.SCT_STAT_PHASE, 0)] tLoad, by decide⟩,
   ⟨0, (fun s => s.setProt { s.prot with pre := [(0, (500000, 200000))] }) (put [((Fld.EFU_S_KSTAT_STATE 0), 1)] tLoad), by decide⟩,
   ⟨0, put [((Fld.EFU_S_KSTAT_STATE 0), 1)] tLoad, by decide⟩,
   ⟨0, put [((Fld.EFU_S_KSTAT_STATE 0), 1)] tLoad, by decide⟩,
   ⟨0, (fun s => s.setImage (some { tImage with secs := (2, secOf 676 [(0, 1), (1, 1), (4, 1), (7, 1), (13, 1)]) :: tImage.secs })) (put [((Fld.EFU_S_KSTAT_STATE 0), 1)] tLoad), by decide⟩,
   ⟨0, put [((Fld.EFU_S_KSTAT_STATE 0), 2), ((Fld.EFU_S_KSTAT_KF 0), 0)] tLoad, by decide⟩,
   ⟨0, put [((Fld.EFU_S_KSTAT_STATE 0), 2), ((Fld.EFU_S_KSTAT_KF 0), 1)] tLoad, by decide⟩,
   ⟨0, put [((Fld.EFU_S_KSTAT_STATE 0), 3)] tLoad, by decide⟩,
   ⟨0, (fun s => s.setGrp 2 { grp0 with stage := 3 }) (put [((Fld.EFU_S_KSTAT_STATE 0), 3), ((Fld.CNV_CG_STAT_MODE 2), 4)] tLoad), by decide⟩,
   ⟨0, put [((Fld.EFU_S_KSTAT_STATE 0), 0)] tLoad, by decide⟩,
   ⟨0, put [((Fld.EFU_S_KSTAT_STATE 0), 0), (Fld.SYS_PWR_STAT_STATE, 2), (Fld.SYS_PWR_STAT_TRANS, 1), (Fld.SYS_PWR_REQ_REQ, 2)] tLoad, by decide⟩,
   ⟨0, put [((Fld.EFU_S_KSTAT_STATE 0), 4)] tLoad, by decide⟩,
   ⟨tLoad, 0, by decide⟩,
   ⟨tLoad, by decide⟩,
   ⟨.spt, 0, tLoad, by decide⟩,
   ⟨tLoad, by decide⟩,
   ⟨tBoot, by decide⟩⟩

theorem witness_RailsAndSequences :
    (∃ (s : State), Live s) ∧
    (∃ (k : Nat) (s : State), s.fb (Fld.RGL_R_STAT_SOFT k) = true ∧ 10 * s.fg (Fld.RGL_R_CFG_SST k) ≤ (s.railTimes k).1 + 1) ∧
    (∃ (setN : Nat) (lvl : Nat), 0 < setN ∧ 0 < lvl) ∧
    (∃ (k : Fin 32) (ov : Bool) (s : State), 
    let bit := if ov = true then 3 else 1
    Live s ∧ bitOf (s.rd (Reg.SEQ_R_STAT k)).toNat bit = true) ∧
    (∃ (k : Fin 32) (ov : Bool) (s : State), 
    let bit := if ov = true then 3 else 1
    Live s ∧ bitOf (s.rd (Reg.SEQ_R_STAT k)).toNat bit = false ∧ s.goingDown = true) ∧
    (∃ (k : Fin 32) (ov : Bool) (s : State), 
    let bit := if ov = true then 3 else 1
    Live s ∧ bitOf (s.rd (Reg.SEQ_R_STAT k)).toNat bit = false ∧ s.goingDown = false ∧ s.fg (Fld.SEQ_R_ACT_ACT k) = 0) ∧
    (∃ (k : Fin 32) (ov : Bool) (s : State), 
    let bit := if ov = true then 3 else 1
    Live s ∧ bitOf (s.rd (Reg.SEQ_R_STAT k)).toNat bit = false ∧ s.goingDown = false ∧ s.fg (Fld.SEQ_R_ACT_ACT k) = 2) ∧
    (∃ (k : Fin 8) (s : State), Live s ∧ s.railOn k = true ∧ 100 ≤ (s.railTimes k).2) ∧
    (∃ (k : Fin 8) (s : State), Live s ∧ s.railOn k = true ∧ (s.railTimes k).2 < 100) ∧
    (∃ (p : Port) (s : State), Reach p Reg.SEQ_CTL s ∧ s.seqRuns = true) ∧
    (∃ (p : Port) (s : State), Reach p Reg.SEQ_CTL s ∧ s.seqRuns = false ∧ s.image = none) ∧
    (∃ (p : Port) (s : State), Reach p Reg.SEQ_CTL s ∧ s.seqRuns = false ∧ s.image.isSome = true) ∧
    (∃ (p : Port) (s : State), Reach p Reg.SEQ_CTL s) ∧
    (∃ (s : State), Live s ∧ s.pwr.upDue = true ∧ s.fb Fld.SEQ_STAT_COLLAPSE = false ∧ s.seqRuns = false ∧ s.image.isSome = true ∧ 10000 ≤ s.seqr.okN) ∧
    (∃ (s : State), Live s ∧ s.pwr.upDue = true ∧ s.fb Fld.SEQ_STAT_COLLAPSE = false ∧ s.seqRuns = false ∧ s.image.isSome = true ∧ s.seqr.okN < 10000) ∧
    (∃ (s : State), s.goingDown = false) ∧
    (∃ (s : State) (k : Nat), s.goingDown = false ∧ k < 32) ∧
    (∃ (s : State) (k : _), Live s ∧ s.seqRuns = true ∧ s.seqr.stage = 1 ∧ railOfCheck s.stepCheck = some k ∧ s.fb Fld.SEQ_STAT_DIR = false) ∧
    (∃ (s : State), Live s ∧ s.seqRuns = true ∧ s.seqr.stage = 1 ∧ (railOfCheck s.stepCheck = none ∨ s.fb Fld.SEQ_STAT_DIR = true)) ∧
    (∃ (s : State), Live s ∧ s.seqRuns = true ∧ s.seqr.stage = 1 ∧ s.seqr.stepN < 100 * s.stepTimeout) ∧
    (∃ (s : State), Live s ∧ s.seqRuns = true ∧ s.seqr.stage = 1 ∧ s.fb Fld.SEQ_STAT_DIR = false ∧ s.stepTarget < 0x20 ∧ 100 * s.stepTimeout ≤ s.seqr.stepN) ∧
    (∃ (s : State), Live s ∧ s.seqRuns = true ∧ s.seqr.stage = 1 ∧ s.fb Fld.SEQ_STAT_DIR = true ∧ 100 * s.stepTimeout ≤ s.seqr.stepN) ∧
    (∃ (s : State), Live s ∧ s.seqRuns = true ∧ s.seqr.stage = 2 ∧ s.seqr.stepN < 100 * s.stepDelay) ∧
    (∃ (s : State), Live s ∧ s.seqRuns = true ∧ s.seqr.stage = 2 ∧ 100 * s.stepDelay ≤ s.seqr.stepN ∧ s.stepNo + 1 < s.stepCount) ∧
    (∃ (s : State), Live s ∧ s.seqRuns = true ∧ s.seqr.stage = 2 ∧ 100 * s.stepDelay ≤ s.seqr.stepN ∧ s.stepCount ≤ s.stepNo + 1 ∧ s.fb Fld.SEQ_STAT_DIR = false) ∧
    (∃ (s : State), Live s ∧ s.seqRuns = true ∧ s.seqr.stage = 2 ∧ 100 * s.stepDelay ≤ s.seqr.stepN ∧ s.stepCount ≤ s.stepNo + 1 ∧ s.fb Fld.SEQ_STAT_DIR = true ∧ s.seqr.ended = false) ∧
    (∃ (n : Fin 4) (s : State), Live s ∧ s.fb (Fld.SEQ_RSTO_STAT_STRETCHING n) = true ∧ s.rstoCause n = false ∧ s.seqRuns = false ∧ 100 * s.fg (Fld.SEQ_RSTO_CFG_STRETCH n) ≤ s.stretchOf n) ∧
    (∃ (n : Fin 4) (s : State), Live s ∧ s.fb (Fld.SEQ_RSTO_STAT_STRETCHING n) = true ∧ s.rstoCause n = false ∧ s.seqRuns = false ∧ s.stretchOf n < 100 * s.fg (Fld.SEQ_RSTO_CFG_STRETCH n)) ∧
    (∃ (s : State), Live s ∧ s.fb Fld.SEQ_STAT_COLLAPSE = false ∧ s.seqr.inProgress = false) ∧
    (∃ (s : State), Live s ∧ s.fb Fld.SEQ_STAT_COLLAPSE = false ∧ s.seqr.inProgress = true ∧ s.fb Fld.SYS_PWR_STAT_COMPAT = false) ∧
    (∃ (s : State), Live s ∧ s.fb Fld.SEQ_STAT_COLLAPSE = true ∧ s.fb Fld.SEQ_CFG_REUP = false ∧ 10000 ≤ s.seqr.recN) ∧
    (∃ (s : State), Live s ∧ s.fb Fld.SEQ_STAT_COLLAPSE = true ∧ s.fb Fld.SEQ_CFG_REUP = false ∧ s.seqr.recN < 10000) :=
  ⟨⟨tLoad, by decide⟩,
   ⟨3, put [((Fld.RGL_R_STAT_SOFT 3), 1), ((Fld.RGL_R_CFG_SST 3), 0)] tLoad, by decide⟩,
   ⟨1, 1, by decide⟩,
   ⟨0, true, putW [((Reg.SEQ_R_STAT 0), 0x8)] tLoad, by dsimp only; decide⟩,
   ⟨0, true, put [(Fld.SEQ_STAT_RUN, 1), (Fld.SEQ_STAT_DIR, 1)] tLoad, by dsimp only; decide⟩,
   ⟨0, true, put [((Fld.SEQ_R_ACT_ACT 0), 0)] tLoad, by dsimp only; decide⟩,
   ⟨0, true, put [((Fld.SEQ_R_ACT_ACT 0), 2)] tLoad, by dsimp only; decide⟩,
   ⟨3, (fun s => setRailTimes 3 (0, 100) s) (put [((Fld.RGL_R_STAT_ON 3), 1)] tLoad), by decide⟩,
   ⟨0, put [((Fld.RGL_R_STAT_ON 0), 1)] tLoad, by decide⟩,
   ⟨.spt, put [(Fld.SEQ_STAT_RUN, 1)] tLoad, by decide⟩,
   ⟨.spt, put [(Fld.SEQ_STAT_RUN, 0)] tBoot, by decide⟩,
   ⟨.spt, put [(Fld.SEQ_STAT_RUN, 0)] tLoad, by decide⟩,
   ⟨.spt, tLoad, by decide⟩,
   ⟨(fun s => s.setSeqr { s.seqr with okN := 10000 }) ((fun s => s.setPwr { s.pwr with upDue := true }) (put [(Fld.SEQ_STAT_COLLAPSE, 0), (Fld.SEQ_STAT_RUN, 0)] tLoad)), by decide⟩,
   ⟨(fun s => s.setPwr { s.pwr with upDue := true }) (put [(Fld.SEQ_STAT_COLLAPSE, 0), (Fld.SEQ_STAT_RUN, 0)] tLoad), by decide⟩,
   ⟨tLoad, by decide⟩,
   ⟨tLoad, 0, by decide⟩,
   ⟨(fun s => s.setSeqr { s.seqr with stage := 1 }) (put [(Fld.SEQ_STAT_RUN, 1), (Fld.SEQ_STAT_DIR, 0), (Fld.SEQ_OUT_NUP, 2), ((Fld.SEQ_UP_STEP_CHECK 0), 3)] tLoad), 3, by decide⟩,
   ⟨(fun s => s.setSeqr { s.seqr with stage := 1 }) (put [(Fld.SEQ_STAT_RUN, 1), (Fld.SEQ_OUT_NUP, 2), ((Fld.SEQ_UP_STEP_CHECK 0), 0xFF)] tLoad), by decide⟩,
   ⟨(fun s => s.setSeqr { s.seqr with stage := 1 }) (put [(Fld.SEQ_STAT_RUN, 1), (Fld.SEQ_OUT_NUP, 2), ((Fld.SEQ_UP_TIME_TIMEOUT 0), 1)] tLoad), by decide⟩,
   ⟨(fun s => s.setSeqr { s.seqr with stage := 1 }) (put [(Fld.SEQ_STAT_RUN, 1), (Fld.SEQ_STAT_DIR, 0)] tLoad), by decide⟩,
   ⟨(fun s => s.setSeqr { s.seqr with stage := 1 }) (put [(Fld.SEQ_STAT_RUN, 1), (Fld.SEQ_STAT_DIR, 1)] tLoad), by decide⟩,
   ⟨(fun s => s.setSeqr { s.seqr with stage := 2 }) (put [(Fld.SEQ_STAT_RUN, 1), (Fld.SEQ_OUT_NUP, 2), ((Fld.SEQ_UP_TIME_DELAY 0), 1)] tLoad), by decide⟩,
   ⟨(fun s => s.setSeqr { s.seqr with stage := 2 }) (put [(Fld.SEQ_STAT_RUN, 1), (Fld.SEQ_OUT_NUP, 2)] tLoad), by decide⟩,
   ⟨(fun s => s.setSeqr { s.seqr with stage := 2 }) (put [(Fld.SEQ_STAT_RUN, 1), (Fld.SEQ_STAT_DIR, 0)] tLoad), by decide⟩,
   ⟨(fun s => s.setSeqr { s.seqr with stage := 2, ended := false }) (put [(Fld.SEQ_STAT_RUN, 1), (Fld.SEQ_STAT_DIR, 1)] tLoad), by decide⟩,
   ⟨2, (fun s => s.setSeqr { s.seqr with boot := 0, down := 0 }) (put [((Fld.SEQ_RSTO_STAT_STRETCHING 2), 1), (Fld.SEQ_STAT_RUN, 0), ((Fld.SEQ_RSTO_CFG_STRETCH 2), 0)] tLoad), by decide⟩,
   ⟨0, put [((Fld.SEQ_RSTO_STAT_STRETCHING 0), 1), (Fld.SEQ_STAT_RUN, 0)] tLoad, by decide⟩,
   ⟨(fun s => s.setSeqr { s.seqr with inProgress := false }) (put [(Fld.SEQ_STAT_COLLAPSE, 0)] tLoad), by decide⟩,
   ⟨(fun s => s.setSeqr { s.seqr with inProgress := true }) (put [(Fld.SEQ_STAT_COLLAPSE, 0), (Fld.SYS_PWR_STAT_COMPAT, 0)] tLoad), by decide⟩,
   ⟨(fun s => s.setSeqr { s.seqr with recN := 10000 }) (put [(Fld.SEQ_STAT_COLLAPSE, 1), (Fld.SEQ_CFG_REUP, 0)] tLoad), by decide⟩,
   ⟨put [(Fld.SEQ_STAT_COLLAPSE, 1), (Fld.SEQ_CFG_REUP, 0)] tLoad, by decide⟩⟩

theorem witness_LinkJoinsAndCounts :
    (∃ (p : Port) (s : State), Reach p Reg.WGL_CFG s) ∧
    (∃ (s : State), Live s ∧ s.fb Fld.WGL_CFG_EN = true ∧ s.queen = true ∧ s.awake = true ∧ s.fb Fld.WGL_STAT_DUP = false) ∧
    (∃ (s : State), Live s ∧ s.queen = true ∧ s.linkUp = true) ∧
    (∃ (ty : Nat) (w : Nat) (pay : List Byte), ty < 256 ∧ w < 256 ∧ pay.length ≤ w) ∧
    (∃ (s : State), Live s ∧ s.swarmPos ≠ 0 ∧ s.fb Fld.WGL_CFG_EN = true) ∧
    (∃ (frame : List Byte) (s : State), Live s ∧ s.fb Fld.WGL_CFG_EN = true ∧ frameOk 0x01 56 frame = false) ∧
    (∃ (frame : List Byte) (s : State), Live s ∧ s.fb Fld.WGL_CFG_EN = true ∧ frameOk 0x02 24 frame = false) ∧
    (∃ (frame : List Byte) (s : State), Live s ∧ s.fb Fld.WGL_CFG_EN = true ∧ frameOk 0x01 56 frame = true ∧ s.fb Fld.WGL_STAT_DUP = false ∧ s.swarmPos = 0 ∧ s.fb Fld.WGL_STAT_JOINED = true) ∧
    (∃ (frame : List Byte) (s : State), Live s ∧ s.fb Fld.WGL_CFG_EN = true ∧ frameOk 0x01 56 frame = true ∧ s.fb Fld.WGL_STAT_DUP = false ∧ s.swarmPos ≠ 0) ∧
    (∃ (frame : List Byte) (s : State), Live s ∧ s.fb Fld.WGL_CFG_EN = true ∧ frameOk 0x02 24 frame = true ∧ s.fb Fld.WGL_STAT_DUP = false ∧ s.swarmPos ≠ 0 ∧ byteAt frame 2 % 16 = s.swarmPos) ∧
    (∃ (frame : List Byte) (s : State), 
    let r := byteAt frame 2 % 16
    Live s ∧ s.fb Fld.WGL_CFG_EN = true ∧ frameOk 0x02 24 frame = true ∧ s.fb Fld.WGL_STAT_DUP = false ∧ s.queen = true ∧ r ≠ 0 ∧ bitOf (s.fg Fld.WGL_DUP_POS) r = false ∧ kvGet (fun _ => none) s.wgl.uids r = none) ∧
    (∃ (s : State), Live s ∧ s.swarmPos ≠ 0 ∧ s.fb Fld.WGL_CFG_EN = true ∧ s.fb Fld.WGL_STAT_JOINED = true ∧ s.fb Fld.WGL_STAT_QDOZE = false) ∧
    (∃ (r : Fin 16) (s : State), Live s ∧ s.queen = true ∧ bitOf (s.fg Fld.WGL_PRES_DOZING) r = false) ∧
    (∃ (p : Port) (code : BitVec 16) (s : State), Reach p Reg.WGL_RST s ∧ (s.queen = false ∨ code ≠ 0x5AA5)) ∧
    (∃ (p : Port) (s : State), Reach p Reg.WGL_RST s ∧ s.queen = true) :=
  ⟨⟨.spt, tLoad, by decide⟩,
   ⟨put [(Fld.WGL_CFG_EN, 1), (Fld.SYS_PWR_STAT_STATE, 2), (Fld.WGL_STAT_DUP, 0)] tLoad, by decide⟩,
   ⟨put [(Fld.WGL_CFG_EN, 1), (Fld.WGL_STAT_JOINED, 1)] tLoad, by decide⟩,
   ⟨1, 1, [], by decide⟩,
   ⟨put [(Fld.WGL_CFG_EN, 1)] tWork, by decide⟩,
   ⟨[], put [(Fld.WGL_CFG_EN, 1)] tLoad, by decide⟩,
   ⟨[], put [(Fld.WGL_CFG_EN, 1)] tLoad, by decide⟩,
   ⟨((fun b : List Byte => b ++ leBytes 2 (crc16 b)) ([0x55, 1, 0, 0, 8] ++ List.replicate 12 0)), put [(Fld.WGL_CFG_EN, 1), (Fld.WGL_STAT_DUP, 0), (Fld.WGL_STAT_JOINED, 1)] tLoad, by decide⟩,
   ⟨((fun b : List Byte => b ++ leBytes 2 (crc16 b)) ([0x55, 1, 0, 0, 8] ++ List.replicate 12 0)), put [(Fld.WGL_CFG_EN, 1), (Fld.WGL_STAT_DUP, 0), (Fld.WGL_STAT_JOINED, 1)] tWork, by decide⟩,
   ⟨((fun b : List Byte => b ++ leBytes 2 (crc16 b)) ([0x55, 2, 3, 0, 20] ++ List.replicate 24 0)), put [(Fld.WGL_CFG_EN, 1), (Fld.WGL_STAT_DUP, 0), (Fld.WGL_STAT_JOINED, 1)] tWork, by decide⟩,
   ⟨((fun b : List Byte => b ++ leBytes 2 (crc16 b)) ([0x55, 2, 3, 0, 20] ++ List.replicate 24 0)), put [(Fld.WGL_CFG_EN, 1), (Fld.WGL_STAT_DUP, 0), (Fld.WGL_STAT_JOINED, 1)] tLoad, by dsimp only; decide⟩,
   ⟨put [(Fld.WGL_CFG_EN, 1), (Fld.WGL_STAT_JOINED, 1), (Fld.WGL_STAT_QDOZE, 0)] tWork, by decide⟩,
   ⟨0, tLoad, by decide⟩,
   ⟨.spt, 1, tWork, by decide⟩,
   ⟨.spt, tLoad, by decide⟩⟩

theorem witness_SwarmActs :
    (∃ (id : Nat) (o : Order) (s : State), Live s ∧ s.pendingSwarm id = some o ∧ s.partsOf id ≠ []) ∧
    (∃ (id : Nat) (o : Order) (s : State), Live s ∧ s.pendingSwarm id = some o) ∧
    (∃ (id : Nat) (o : Order) (s : State), Live s ∧ s.order id = some o) ∧
    (∃ (id : Nat) (s : State), Live s ∧ s.queen = true ∧ s.order id = none) ∧
    (∃ (s : State), Live s) ∧
    (∃ (qs : List Nat), 0 < qs.sum) ∧
    (∃ (p : Port) (s : State), Reach p Reg.WGL_BAR_CTL s ∧ s.queen = false) ∧
    (∃ (p : Port) (s : State), Reach p Reg.WGL_BAR_CTL s ∧ s.queen = true ∧ 4 ≤ s.wgl.bars.length) ∧
    (∃ (p : Port) (action : Fin 8) (s : State), Reach p Reg.WGL_BAR_CTL s ∧ s.queen = true ∧ s.wgl.bars.length < 4 ∧ ((action < 3 ∨ 5 < action))) ∧
    (∃ (p : Port) (action : Fin 8) (s : State), Reach p Reg.WGL_BAR_CTL s ∧ s.queen = true ∧ s.wgl.bars.length < 4 ∧ 3 ≤ action ∧ action ≤ 5) ∧
    (∃ (b : Barrier) (s : State) (o : _), Live s ∧ s.due 1 = some b ∧ s.order b.ref = some o ∧ o.state = 3 ∧ o.ty ≤ 4) ∧
    (∃ (b : Barrier) (s : State) (o : _), Live s ∧ s.due 1 = some b ∧ s.order b.ref = some o ∧ (o.state ≠ 3 ∨ 4 < o.ty)) ∧
    (∃ (b : Barrier) (s : State) (o : _), Live s ∧ s.due 2 = some b ∧ s.order b.ref = some o ∧ o.cq = partCq) ∧
    (∃ (b : Barrier) (s : State) (o : _), Live s ∧ s.due 2 = some b ∧ s.order b.ref = some o ∧ o.cq ≠ partCq ∧ o.ending = none) ∧
    (∃ (b : Barrier) (s : State), Live s ∧ s.due 3 = some b ∧ s.queen = false) ∧
    (∃ (b : Barrier) (s : State), Live s ∧ s.due 4 = some b ∧ s.due 2 = none ∧ s.queen = false) ∧
    (∃ (b : Barrier) (s : State), Live s ∧ s.due 5 = some b ∧ s.queen = false) ∧
    (∃ (b : Barrier) (s : State) (x : _), 
    let t := executed b s
    Live s ∧ x ∈ t.wgl.bars) ∧
    (∃ s : State, Live s ∧ s.linkUp = true ∧ s.queen = false) :=
  ⟨⟨7, { tOrder with state := 2, scope := 1 }, (fun s => s.setOrd { s.ord with orders := [{ tOrder with state := 2, scope := 1 }], parts := [(7, [⟨3, none, 0, 0, 0, 0, []⟩])] }) tLoad, by decide⟩,
   ⟨7, { tOrder with state := 2, scope := 1 }, (fun s => s.setOrd { s.ord with orders := [{ tOrder with state := 2, scope := 1 }], parts := [(7, [⟨3, none, 0, 0, 0, 0, []⟩])] }) tLoad, by decide⟩,
   ⟨7, tOrder, (fun s => s.setOrd { s.ord with orders := [tOrder], parts := [(7, [⟨3, none, 0, 0, 0, 0, []⟩])] }) tLoad, by decide⟩,
   ⟨1, tLoad, by decide⟩,
   ⟨tLoad, by decide⟩,
   ⟨[1, 2], by decide⟩,
   ⟨.spt, tWork, by decide⟩,
   ⟨.spt, (fun s => s.setWgl { s.wgl with bars := List.replicate 4 ⟨1, 3, 0, 0, 1, 0⟩ }) (put [(Fld.WGL_CFG_EN, 1), (Fld.WGL_STAT_JOINED, 1)] tLoad), by decide⟩,
   ⟨.spt, 0, tLoad, by decide⟩,
   ⟨.spt, 3, put [(Fld.WGL_CFG_EN, 1), (Fld.WGL_STAT_JOINED, 1)] tLoad, by decide⟩,
   ⟨⟨1, 1, 0, 0, 7, 0⟩, (fun s => s.setOrd { s.ord with orders := [{ tOrder with state := 3 }] }) ((fun s => s.setWgl { s.wgl with bars := [⟨1, 1, 0, 0, 7, 0⟩] }) (put [(Fld.WGL_CFG_EN, 1), (Fld.WGL_STAT_JOINED, 1)] tLoad)), { tOrder with state := 3 }, by decide⟩,
   ⟨⟨1, 1, 0, 0, 7, 0⟩, (fun s => s.setOrd { s.ord with orders := [{ tOrder with state := 4 }] }) ((fun s => s.setWgl { s.wgl with bars := [⟨1, 1, 0, 0, 7, 0⟩] }) (put [(Fld.WGL_CFG_EN, 1), (Fld.WGL_STAT_JOINED, 1)] tLoad)), { tOrder with state := 4 }, by decide⟩,
   ⟨⟨1, 2, 0, 0, 7, 0⟩, (fun s => s.setOrd { s.ord with orders := [{ tOrder with state := 4, cq := partCq }] }) ((fun s => s.setWgl { s.wgl with bars := [⟨1, 2, 0, 0, 7, 0⟩] }) (put [(Fld.WGL_CFG_EN, 1), (Fld.WGL_STAT_JOINED, 1)] tWork)), { tOrder with state := 4, cq := partCq }, by decide⟩,
   ⟨⟨1, 2, 0, 0, 7, 0⟩, (fun s => s.setOrd { s.ord with orders := [{ tOrder with state := 4 }] }) ((fun s => s.setWgl { s.wgl with bars := [⟨1, 2, 0, 0, 7, 0⟩] }) (put [(Fld.WGL_CFG_EN, 1), (Fld.WGL_STAT_JOINED, 1)] tLoad)), { tOrder with state := 4 }, by decide⟩,
   ⟨⟨1, 3, 0, 0, 8, 0⟩, (fun s => s.setWgl { s.wgl with bars := [⟨1, 3, 0, 0, 8, 0⟩] }) (put [(Fld.WGL_CFG_EN, 1), (Fld.WGL_STAT_JOINED, 1)] tWork), by decide⟩,
   ⟨⟨1, 4, 0, 0, 8, 0⟩, (fun s => s.setWgl { s.wgl with bars := [⟨1, 4, 0, 0, 8, 0⟩] }) (put [(Fld.WGL_CFG_EN, 1), (Fld.WGL_STAT_JOINED, 1)] tWork), by decide⟩,
   ⟨⟨1, 5, 0, 0, 8, 0⟩, (fun s => s.setWgl { s.wgl with bars := [⟨1, 5, 0, 0, 8, 0⟩] }) (put [(Fld.WGL_CFG_EN, 1), (Fld.WGL_STAT_JOINED, 1)] tWork), by decide⟩,
   ⟨⟨1, 3, 0, 0, 1, 0⟩, (fun s => s.setWgl { s.wgl with bars := [⟨1, 3, 0, 0, 1, 0⟩, ⟨2, 3, 0, 0, 1, 0⟩] }) (put [(Fld.WGL_CFG_EN, 1), (Fld.WGL_STAT_JOINED, 1)] tLoad), (⟨2, 3, 0, 0, 1, 0⟩ : Barrier), by dsimp only; decide⟩,
   ⟨put [(Fld.WGL_CFG_EN, 1), (Fld.WGL_STAT_JOINED, 1)] tWork, by decide⟩⟩

theorem witness_DeviceResetClears :
    (∃ (c : Instr) (bits : Nat), resetCause c = some bits) ∧
    (∃ (s : State), s.rst.asserted = true ∧ s.rst.power = true) ∧
    (∃ (s : State), s.rst.asserted = false ∨ s.rst.power = false) ∧
    (∃ (p : Port) (v : Word) (s : State), Reach p Reg.RST_CTL s ∧ v.toNat / 65536 ≠ 0xC0DE) ∧
    (∃ (p : Port) (v : Word) (s : State), Reach p Reg.RST_CTL s ∧ v.toNat / 65536 = 0xC0DE ∧ v.getLsbD 0 = true) ∧
    (∃ (mask : BitVec 16) (code : BitVec 16) (s : State), 
    let hit := s.fb Fld.WGL_CFG_EN = true ∧ s.fb Fld.WGL_CFG_RRST_EN = true ∧ s.swarmPos ≠ 0 ∧ code = 0x5AA5 ∧ bitOf mask.toNat s.swarmPos = true
    Live s ∧ hit) ∧
    (∃ (mask : BitVec 16) (code : BitVec 16) (s : State), 
    let hit := s.fb Fld.WGL_CFG_EN = true ∧ s.fb Fld.WGL_CFG_RRST_EN = true ∧ s.swarmPos ≠ 0 ∧ code = 0x5AA5 ∧ bitOf mask.toNat s.swarmPos = true
    Live s ∧ (¬ hit)) ∧
    (∃ (bits : Nat) (s : State), s.rst.asserted = true ∧ bitOf bits 0 = false ∧ bitOf bits 1 = false) ∧
    (∃ (bits : Nat) (s : State) (a : _), (s.rst.asserted = false ∨ bitOf bits 0 = true) ∧ bitOf bits 1 = false ∧ a ≠ Reg.RST_CAUSE ∧ a ≠ Reg.RST_LAST) ∧
    (∃ (bits : Nat) (s : State), (s.rst.asserted = false ∨ bitOf bits 0 = true) ∧ bitOf bits 1 = false) ∧
    (∃ (a : _), a ≠ Reg.RST_CAUSE) ∧
    (∃ (s : State), s.rst.asserted = true) ∧
    (∃ (b : Nat) (n : Nat) (attr : Nat) (s : State), s.rst.asserted = false ∧ s.pinEntry b = some (0x10 + n, attr) ∧ n < 8 ∧ bitOf attr 2 = false ∧ bitOf attr 3 = false) :=
  ⟨⟨.powerOnReset, 0x001, by decide⟩,
   ⟨(fun s => s.setRst { s.rst with asserted := true, power := true }) tLoad, by decide⟩,
   ⟨(fun s => s.setRst { s.rst with asserted := false }) tLoad, by decide⟩,
   ⟨.spt, 1, tLoad, by decide⟩,
   ⟨.spt, 0xC0DE0001, tLoad, by decide⟩,
   ⟨8, 0x5AA5, put [(Fld.WGL_CFG_EN, 1), (Fld.WGL_CFG_RRST_EN, 1)] tWork, by dsimp only; decide⟩,
   ⟨1, 1, tWork, by dsimp only; decide⟩,
   ⟨4, (fun s => s.setRst { s.rst with asserted := true }) tLoad, by decide⟩,
   ⟨4, (fun s => s.setRst { s.rst with asserted := false }) tLoad, 0x150000, by decide⟩,
   ⟨4, (fun s => s.setRst { s.rst with asserted := false }) tLoad, by decide⟩,
   ⟨0x150000, by decide⟩,
   ⟨(fun s => s.setRst { s.rst with asserted := true }) tLoad, by decide⟩,
   ⟨5, 3, 0, (fun s => s.setImage (some { tImage with secs := (1, secOf 12 [(0, 1), (4, 5), (6, 0x13)]) :: tImage.secs })) ((fun s => s.setRst { s.rst with asserted := false }) tLoad), by decide⟩⟩

theorem witness_ResetEnds :
    (∃ (s : State), s.rst.asserted = false ∨ s.thm.dieHeld = true) ∧
    (∃ (s : State), s.rst.asserted = true ∧ s.thm.dieHeld = false) ∧
    (∃ (s : State), Live s ∧ s.powerState ≠ 0 ∧ s.thm.dieSd = false) ∧
    (∃ (s : State), Live s ∧ s.powerState = 0) ∧
    (∃ (s : State), Live s ∧ s.thm.dieSd = true) ∧
    (∃ (s : State), Live s ∧ s.thm.dieSd = false) ∧
    (∃ (s : State), s.rst.asserted = true ∧ s.thm.dieHeld = true) ∧
    (∃ (s : State), s.nvm.words = []) ∧
    (∃ (s : State), Live s ∧ s.rst.firmware = true) ∧
    (∃ (s : State), Live s ∧ s.rst.firmware = false ∧ s.life = true ∧ (s.fb Fld.OTP_STAT_FACT_ALM = true ∨ s.fb Fld.OTP_STAT_KEY_ALM = true)) ∧
    (∃ (s : State), Live s ∧ s.rst.firmware = false ∧ (s.life = false ∨ (s.fb Fld.OTP_STAT_FACT_ALM = false ∧ s.fb Fld.OTP_STAT_KEY_ALM = false))) :=
  ⟨⟨(fun s => s.setRst { s.rst with asserted := false }) tLoad, by decide⟩,
   ⟨(fun s => s.setThm { s.thm with dieHeld := false }) ((fun s => s.setRst { s.rst with asserted := true }) tLoad), by decide⟩,
   ⟨(fun s => s.setThm { s.thm with dieSd := false }) (put [(Fld.SYS_PWR_STAT_STATE, 2)] tLoad), by decide⟩,
   ⟨put [(Fld.SYS_PWR_STAT_STATE, 0)] tLoad, by decide⟩,
   ⟨(fun s => s.setThm { s.thm with dieSd := true }) tLoad, by decide⟩,
   ⟨(fun s => s.setThm { s.thm with dieSd := false }) tLoad, by decide⟩,
   ⟨(fun s => s.setThm { s.thm with dieHeld := true }) ((fun s => s.setRst { s.rst with asserted := true }) tLoad), by decide⟩,
   ⟨(fun s => s.setNvm { s.nvm with words := [] }) tLoad, by decide⟩,
   ⟨(fun s => s.setRst { s.rst with firmware := true }) tLoad, by decide⟩,
   ⟨(fun s => s.setOtpWord 2 1) ((fun s => s.setRst { s.rst with firmware := false }) (put [(Fld.OTP_STAT_FACT_ALM, 1)] tLoad)), by decide⟩,
   ⟨(fun s => s.setRst { s.rst with firmware := false }) tLoad, by decide⟩⟩

theorem witness_BlocksReset :
    (∃ (p : Port) (mask : Word) (s : State), Reach p Reg.RST_BLK s ∧ ((∃ n ∈ List.range 32, mask.getLsbD n = true ∧ n ∉ [5, 10, 13, 14, 16, 17, 18, 19, 20, 24, 25, 26]))) ∧
    (∃ (p : Port) (s : State) (n : _), Reach p Reg.RST_BLK s ∧ n ∈ [5, 10, 13, 14, 16, 17, 18, 19, 20, 24, 25, 26] ∧ s.inReset n = true) ∧
    (∃ (p : Port) (s : State) (n : _), Reach p Reg.RST_BLK s ∧ n ∈ [5, 10, 13, 14, 16, 17, 18, 19, 20, 24, 25, 26] ∧ s.inReset n = false) ∧
    (∃ (n : Nat) (s : State) (m : Nat), (n = 5 ∨ n = 13 ∨ n = 14) ∧ s.image = none ∧ m < 32 ∧ m ≠ n) ∧
    (∃ (n : Nat) (s : State) (a : _), (n = 5 ∨ n = 13 ∨ n = 14) ∧ s.image = none ∧ 65536 * n ≤ a ∧ a < 65536 * n + 65536 ∧ ((∀ k ∈ List.range 4, n ≠ 13 ∨ a ≠ Reg.CAN_PRES k))) ∧
    (∃ (n : Nat) (s : State), (n = 5 ∨ n = 13 ∨ n = 14) ∧ s.image = none) ∧
    (∃ (n : Nat) (s : State) (g : _), n ∈ [5, 10, 13, 14, 16, 17, 18, 19, 20, 24, 25, 26] ∧ g ∈ blockGroups n ∧ s.joint = none) ∧
    (∃ (n : Nat) (g : _), n ∈ [5, 10, 13, 14, 16, 17, 18, 19, 20, 24, 25, 26] ∧ g ∈ blockGroups n) ∧
    (∃ (n : Fin 32) (s : State), Live s ∧ s.inReset n = false) ∧
    (∃ (n : Fin 32) (s : State), Live s ∧ s.inReset n = true ∧ ((n : Nat) ≠ 16 ∨ s.image = none)) ∧
    (∃ (s : State), Live s) :=
  ⟨⟨.spt, 1, tLoad, by decide⟩,
   ⟨.spt, putW [(Reg.RST_BSTAT, 0x20)] tLoad, 5, by decide⟩,
   ⟨.spt, tLoad, 5, by decide⟩,
   ⟨5, tBoot, 6, by decide⟩,
   ⟨5, tBoot, 0x050004, by decide⟩,
   ⟨5, tBoot, by decide⟩,
   ⟨16+3, tLoad, .sct, by decide⟩,
   ⟨19, .sct, by decide⟩,
   ⟨0, tLoad, by decide⟩,
   ⟨5, putW [(Reg.RST_BSTAT, 0x20)] tBoot, by decide⟩,
   ⟨tLoad, by decide⟩⟩

theorem witness_LinesDeclareFaults :
    (∃ (s : State), Live s) ∧
    (∃ (p : Port) (s : State), Reach p Reg.FLT_INJ s) ∧
    (∃ (n : Nat), 32 ≤ n) ∧
    (∃ (n : Nat) (s : State), 
    let v := (s.wr Reg.FLT_STAT_LO (s.rd Reg.FLT_STAT_LO ||| 1#32 <<< n)).wakeWatch
    let t := if n ∈ s.flt.quiet then v else v.wakeDormant
    n < 32 ∧ t.faultClass n = clsCorrected ∧ (s.rd Reg.FLT_STAT_LO).getLsbD n = true) ∧
    (∃ (n : Nat) (s : State), 
    let v := (s.wr Reg.FLT_STAT_LO (s.rd Reg.FLT_STAT_LO ||| 1#32 <<< n)).wakeWatch
    let t := if n ∈ s.flt.quiet then v else v.wakeDormant
    n < 32 ∧ t.faultClass n = clsCorrected ∧ (s.rd Reg.FLT_STAT_LO).getLsbD n = false) ∧
    (∃ (n : Nat) (s : State), 
    let v := (s.wr Reg.FLT_STAT_LO (s.rd Reg.FLT_STAT_LO ||| 1#32 <<< n)).wakeWatch
    let t := if n ∈ s.flt.quiet then v else v.wakeDormant
    n < 32 ∧ t.faultClass n ≠ clsCorrected) ∧
    (∃ (cls : Nat) (s : State), s.fb Fld.FLT_HSTAT_HANDLING = true ∧ cls = clsContained) ∧
    (∃ (n : Nat) (cls : Nat) (s : State), 
    let t := ((((s.raise 100).fs Fld.FLT_HSTAT_HANDLING 1).fs Fld.FLT_HSTAT_FATAL (if cls = clsFatal then 1 else 0)).fs Fld.FLT_HSTAT_FIRST n).fs Fld.FLT_PIN_PULSE 1
    let u := (t.logEvent 0x01 n cls false).waveTrigger 0 n
    s.fb Fld.FLT_HSTAT_HANDLING = false ∧ u.awake = true) ∧
    (∃ (n : Nat) (cls : Nat) (s : State), 
    let t := ((((s.raise 100).fs Fld.FLT_HSTAT_HANDLING 1).fs Fld.FLT_HSTAT_FATAL (if cls = clsFatal then 1 else 0)).fs Fld.FLT_HSTAT_FIRST n).fs Fld.FLT_PIN_PULSE 1
    let u := (t.logEvent 0x01 n cls false).waveTrigger 0 n
    s.fb Fld.FLT_HSTAT_HANDLING = false ∧ u.awake = false) ∧
    (∃ (s : State) (n : Nat), n < 8 ∧ (s.kState n = 1 ∨ s.kState n = 2 ∨ s.kState n = 3)) :=
  ⟨⟨tLoad, by decide⟩,
   ⟨.spt, tLoad, by decide⟩,
   ⟨40, by decide⟩,
   ⟨0, putW [((Reg.FLT_CLASS 0), 0), (Reg.FLT_STAT_LO, 1)] tLoad, by dsimp only; decide⟩,
   ⟨0, putW [((Reg.FLT_CLASS 0), 0)] tLoad, by dsimp only; decide⟩,
   ⟨1, tLoad, by dsimp only; decide⟩,
   ⟨1, put [(Fld.FLT_HSTAT_HANDLING, 1)] tLoad, by decide⟩,
   ⟨1, 1, put [(Fld.FLT_HSTAT_HANDLING, 0)] tLoad, by dsimp only; decide⟩,
   ⟨3, 2, put [(Fld.FLT_HSTAT_HANDLING, 0), (Fld.SYS_PWR_STAT_STATE, 1)] tLoad, by dsimp only; decide⟩,
   ⟨put [((Fld.EFU_S_KSTAT_STATE 0), 1)] tLoad, 0, by decide⟩⟩

theorem witness_LogRecordsEvents :
    (∃ (s : State), 
    let runs := s.feedSize ≤ s.mtr.feed.length ∧ s.fb Fld.MTR_STAT_FULL = true ∧ s.awake = true ∧ s.fb Fld.PRP_CFG_RUN = true ∧ s.inReset 0x1A = false ∧ s.ringWaits = false
    Live s ∧ (¬ runs)) ∧
    (∃ (s : State), 
    let runs := s.feedSize ≤ s.mtr.feed.length ∧ s.fb Fld.MTR_STAT_FULL = true ∧ s.awake = true ∧ s.fb Fld.PRP_CFG_RUN = true ∧ s.inReset 0x1A = false ∧ s.ringWaits = false
    Live s ∧ runs) ∧
    (∃ (s : State), Live s ∧ s.nvWaits wLog = true) ∧
    (∃ (s : State), Live s ∧ s.nvWaits wLog = false ∧ s.nvBusy wLog = false ∧ (s.logWrites = false ∨ s.prp.queue = [])) ∧
    (∃ (s : State) (v : EvEntry) (rest : List EvEntry), Live s ∧ s.nvWaits wLog = false ∧ s.nvBusy wLog = false ∧ s.logWrites = true ∧ s.prp.queue = v :: rest) ∧
    (∃ (s : State), Live s ∧ s.nvWaits wLog = false ∧ s.nvBusy wLog = true) ∧
    (∃ (b : List Byte) (rest : List (List Byte)) (s : State), 
    let q := 60 + s.fg Fld.PRP_CFG_BQ
    Live s ∧ s.prp.deliver = b :: rest ∧ s.qEnabled q = false) ∧
    (∃ (b : List Byte) (rest : List (List Byte)) (s : State), 
    let q := 60 + s.fg Fld.PRP_CFG_BQ
    Live s ∧ s.prp.deliver = b :: rest ∧ s.qEnabled q = true ∧ s.qRoom q = 0) ∧
    (∃ (b : List Byte) (rest : List (List Byte)) (s : State), 
    let q := 60 + s.fg Fld.PRP_CFG_BQ
    Live s ∧ s.prp.deliver = b :: rest ∧ s.qEnabled q = true ∧ s.qRoom q ≠ 0) ∧
    (∃ (s : State), Live s ∧ s.rst.firmware = true ∧ s.prp.scanned = false) ∧
    (∃ (s : State), Live s ∧ (s.nvWaits wWave = true ∨ (s.nvBusy wWave = false ∧ s.prp.capt = none))) ∧
    (∃ (s : State) (c : Capture) (sp : Nat × Nat × Nat × Nat), Live s ∧ s.nvWaits wWave = false ∧ s.prp.capt = some c ∧ c.slot < 3 ∧ s.nvBusy wWave = false ∧ s.rst.firmware = true ∧ s.powerState ≠ 0 ∧ s.seqr.noLog = false ∧ s.waveSpan c = some sp) ∧
    (∃ (s : State) (c : Capture), Live s ∧ s.nvWaits wWave = false ∧ s.prp.capt = some c ∧ c.slot < 3 ∧ s.nvBusy wWave = true ∧ u16At (s.mramBytes (waveAt c.slot) 0x7D100) 2 = c.trigCnt) ∧
    (∃ (p : Port) (s : State), Reach p Reg.PRP_CTL s) ∧
    (∃ (trig : Nat) (s : State), bitOf (s.fg Fld.PRP_TRIG_EN) trig = false) ∧
    (∃ (trig : Nat) (s : State) (c : _), bitOf (s.fg Fld.PRP_TRIG_EN) trig = true ∧ s.prp.capt = some c) ∧
    (∃ (trig : Nat) (s : State), bitOf (s.fg Fld.PRP_TRIG_EN) trig = true ∧ s.prp.capt = none ∧ s.fg Fld.PRP_REC_LOCK_LOCK = 7) :=
  ⟨⟨tLoad, by dsimp only; decide⟩,
   ⟨(fun s => s.setMtr { s.mtr with feed := [[1, 2], [3, 4], [5, 6], [7, 8]] }) (put [(Fld.MTR_STAT_FULL, 1), (Fld.PRP_CFG_RUN, 1)] tLoad), by dsimp only; decide⟩,
   ⟨(fun s => s.setNvm { s.nvm with words := [(wLog, 0x580000, 5)] }) tLoad, by decide⟩,
   ⟨tLoad, by decide⟩,
   ⟨(fun s => s.setPrp { s.prp with queue := [⟨1, false, 2, 3, 4, 5, true⟩], scanned := true }) tLoad, ⟨1, false, 2, 3, 4, 5, true⟩, [], by decide⟩,
   ⟨(fun s => s.setNvm { s.nvm with busy := [wLog] }) tLoad, by decide⟩,
   ⟨List.replicate 32 0, [], (fun s => s.setPrp { s.prp with deliver := [List.replicate 32 0] }) (put [((Fld.SYS_Q_CFG_EN 60), 0)] tLoad), by dsimp only; decide⟩,
   ⟨List.replicate 32 0, [], (fun s => s.setPrp { s.prp with deliver := [List.replicate 32 0] }) (put [((Fld.SYS_Q_CFG_EN 60), 1), ((Fld.SYS_Q_CFG_DEPTHLOG 60), 2), ((Fld.SYS_Q_PTR_TAIL 60), 4)] tLoad), by dsimp only; decide⟩,
   ⟨List.replicate 32 0, [], (fun s => s.setPrp { s.prp with deliver := [List.replicate 32 0] }) (put [((Fld.SYS_Q_CFG_EN 60), 1), ((Fld.SYS_Q_CFG_DEPTHLOG 60), 2)] tLoad), by dsimp only; decide⟩,
   ⟨(fun s => s.setPrp { s.prp with scanned := false }) ((fun s => s.setRst { s.rst with firmware := true }) tLoad), by decide⟩,
   ⟨tLoad, by decide⟩,
   ⟨(fun s => s.setSeqr { s.seqr with noLog := false }) ((fun s => s.setRst { s.rst with firmware := true }) ((fun s => s.setPrp { s.prp with capt := some ⟨0, 6, 0, 0, 0, true, 0, 0, 0, 0, some 0⟩ }) (put [(Fld.SYS_PWR_STAT_STATE, 2)] tLoad))), ⟨0, 6, 0, 0, 0, true, 0, 0, 0, 0, some 0⟩, (0, 0, 0, 0), by decide⟩,
   ⟨(fun s => s.setNvm { s.nvm with busy := [wWave] }) ((fun s => s.setPrp { s.prp with capt := some ⟨0, 6, 0, 0, 0, true, 0, 0, 0, 0, some 0⟩ }) tLoad), ⟨0, 6, 0, 0, 0, true, 0, 0, 0, 0, some 0⟩, by decide +kernel⟩,
   ⟨.spt, tLoad, by decide⟩,
   ⟨6, put [(Fld.PRP_TRIG_EN, 0)] tLoad, by decide⟩,
   ⟨6, (fun s => s.setPrp { s.prp with capt := some ⟨0, 6, 0, 0, 0, true, 0, 0, 0, 0, some 0⟩ }) (put [(Fld.PRP_TRIG_EN, 0x7F)] tLoad), ⟨0, 6, 0, 0, 0, true, 0, 0, 0, 0, some 0⟩, by decide⟩,
   ⟨6, (fun s => s.setPrp { s.prp with capt := none }) (put [(Fld.PRP_REC_LOCK_LOCK, 7), (Fld.PRP_TRIG_EN, 0x7F)] tLoad), by decide⟩⟩

theorem witness_ClocksAreWatched :
    (∃ (s : State), Live s ∧ s.fb Fld.CLK_STAT_HFXO_ON = false) ∧
    (∃ (count : Nat) (s : State), Live s ∧ s.fb Fld.CLK_STAT_HFXO_ON = true ∧ ((count < 767232 ∨ 768768 < count))) ∧
    (∃ (count : Nat) (amp : Bool) (s : State), Live s ∧ s.fb Fld.CLK_STAT_HFXO_ON = true ∧ s.fb Fld.CLK_STAT_HFXO_OK = false ∧ amp = true ∧ s.fb Fld.CLK_STAT_ACLK_SRC = false ∧ 767923 ≤ count ∧ count ≤ 768077 ∧ s.clk.okN < 7) ∧
    (∃ (count : Nat) (amp : Bool) (s : State), Live s ∧ s.fb Fld.CLK_STAT_HFXO_ON = true ∧ s.fb Fld.CLK_STAT_HFXO_OK = false ∧ amp = true ∧ s.fb Fld.CLK_STAT_ACLK_SRC = false ∧ 767923 ≤ count ∧ count ≤ 768077 ∧ 7 ≤ s.clk.okN) ∧
    (∃ (s : State), Live s ∧ s.fb Fld.CLK_STAT_HFXO_ON = true ∧ s.fb Fld.CLK_STAT_HFXO_OK = false) ∧
    (∃ (s : State), Live s ∧ s.clk.waiting = true ∧ s.awake = true ∧ s.fb Fld.CLK_CFG_HFXO_EN = true ∧ s.fb Fld.CLK_STAT_HFXO_ON = false) ∧
    (∃ (s : State), Live s ∧ s.fb Fld.CLK_STAT_HFXO_ON = true ∧ s.fb Fld.MTR_STAT_FULL = false) ∧
    (∃ (p : Port) (s : State), Reach p Reg.CLK_CFG s ∧ s.fb Fld.CLK_CFG_HFXO_EN = true) ∧
    (∃ (p : Port) (s : State), Reach p Reg.CLK_CFG s ∧ s.fb Fld.CLK_CFG_HFXO_EN = false ∧ s.awake = true) ∧
    (∃ (s : State), Live s ∧ s.fb Fld.CLK_STAT_PLL_LOCK = true) ∧
    (∃ (s : State), Live s ∧ s.clk.tilesHeld = true) ∧
    (∃ (s : State), Live s ∧ s.clk.tilesHeld = false) ∧
    (∃ (s : State), Live s ∧ s.powerState ≠ 0) ∧
    (∃ (s : State), Live s ∧ s.powerState = 0) ∧
    (∃ (s : State), Live s ∧ s.fb Fld.CLK_STAT_ACLK_SRC = true) ∧
    (∃ (s : State), Live s ∧ s.fb Fld.CLK_STAT_ACLK_SRC = false) ∧
    (∃ (s : State), Live s) ∧
    (∃ (s : State), Live s ∧ (s.fb Fld.CLK_STAT_ACLK_SRC = true ∨ s.fb Fld.CLK_STAT_HFRC_ON = false)) ∧
    (∃ (s : State), Live s ∧ s.fb Fld.CLK_STAT_ACLK_SRC = false ∧ s.fb Fld.CLK_STAT_HFRC_ON = true) :=
  ⟨⟨put [(Fld.CLK_STAT_HFXO_ON, 0)] tLoad, by decide⟩,
   ⟨1, put [(Fld.CLK_STAT_HFXO_ON, 1)] tLoad, by decide⟩,
   ⟨768000, true, (fun s => s.setClk { s.clk with okN := 6 }) (put [(Fld.CLK_STAT_HFXO_ON, 1), (Fld.CLK_STAT_HFXO_OK, 0), (Fld.CLK_STAT_ACLK_SRC, 0)] tLoad), by decide⟩,
   ⟨768000, true, (fun s => s.setClk { s.clk with okN := 7 }) (put [(Fld.CLK_STAT_HFXO_ON, 1), (Fld.CLK_STAT_HFXO_OK, 0), (Fld.CLK_STAT_ACLK_SRC, 0)] tLoad), by decide⟩,
   ⟨put [(Fld.CLK_STAT_HFXO_ON, 1), (Fld.CLK_STAT_HFXO_OK, 0)] tLoad, by decide⟩,
   ⟨(fun s => s.setClk { s.clk with waiting := true }) (put [(Fld.SYS_PWR_STAT_STATE, 2), (Fld.CLK_CFG_HFXO_EN, 1), (Fld.CLK_STAT_HFXO_ON, 0)] tLoad), by decide⟩,
   ⟨put [(Fld.CLK_STAT_HFXO_ON, 1), (Fld.MTR_STAT_FULL, 0)] tLoad, by decide⟩,
   ⟨.spt, put [(Fld.CLK_CFG_HFXO_EN, 1)] tLoad, by decide⟩,
   ⟨.spt, put [(Fld.CLK_CFG_HFXO_EN, 0), (Fld.SYS_PWR_STAT_STATE, 2)] tLoad, by decide⟩,
   ⟨put [(Fld.CLK_STAT_PLL_LOCK, 1)] tLoad, by decide⟩,
   ⟨(fun s => s.setClk { s.clk with tilesHeld := true }) tLoad, by decide⟩,
   ⟨(fun s => s.setClk { s.clk with tilesHeld := false }) tLoad, by decide⟩,
   ⟨put [(Fld.SYS_PWR_STAT_STATE, 2)] tLoad, by decide⟩,
   ⟨put [(Fld.SYS_PWR_STAT_STATE, 0)] tLoad, by decide⟩,
   ⟨put [(Fld.CLK_STAT_ACLK_SRC, 1)] tLoad, by decide⟩,
   ⟨put [(Fld.CLK_STAT_ACLK_SRC, 0)] tLoad, by decide⟩,
   ⟨tLoad, by decide⟩,
   ⟨put [(Fld.CLK_STAT_ACLK_SRC, 1)] tLoad, by decide⟩,
   ⟨put [(Fld.CLK_STAT_ACLK_SRC, 0), (Fld.CLK_STAT_HFRC_ON, 1)] tLoad, by decide⟩⟩

theorem witness_CalendarCounts :
    (∃ (s : State), s.rst.aoLost = true) ∧
    (∃ (s : State), s.rst.aoLost = false) ∧
    (∃ (s : State), s.rtc.ticks ≤ s.rtc.cycles) ∧
    (∃ (p : Port) (s : State), Reach p Reg.RTC_SEC_LO s) ∧
    (∃ (d : Nat) (m : Nat) (y : Nat) (t : Nat), y < 2200 ∧ 2000 ≤ y ∧ 1 ≤ m ∧ m ≤ 12 ∧ 1 ≤ d ∧ (d ≤ (monthLengths (decide (y % 4 = 0 ∧ y ≠ 2100))).getD (m - 1) 0) ∧ t < 86400) ∧
    (∃ (s : State), s.cpend .rtc = false ∨ s.rst.aoLost = true) ∧
    (∃ (s : State), s.cpend .rtc = true ∧ s.rst.aoLost = false) ∧
    (∃ (p : Port) (s : State), Reach p Reg.RTC_STAT s) :=
  ⟨⟨(fun s => s.setRst { s.rst with aoLost := true }) tLoad, by decide⟩,
   ⟨(fun s => s.setRst { s.rst with aoLost := false }) tLoad, by decide⟩,
   ⟨tLoad, by decide⟩,
   ⟨.spt, tLoad, by decide⟩,
   ⟨29, 2, 2024, 3600, by decide⟩,
   ⟨tLoad, by decide⟩,
   ⟨(fun s => s.setCommits [.rtc]) ((fun s => s.setRst { s.rst with aoLost := false }) tLoad), by decide⟩,
   ⟨.spt, tLoad, by decide⟩⟩

theorem witness_TimersCount :
    (∃ (p : Port) (n : Fin 16) (s : State), Reach p Reg.TMR_START s ∧ (s.tmRuns n = true ∨ s.tmArmed n = true)) ∧
    (∃ (p : Port) (n : Fin 16) (s : State), Reach p Reg.TMR_START s ∧ s.tmRuns n = false ∧ s.tmArmed n = false ∧ s.tmLoops n 16 n = true) ∧
    (∃ (p : Port) (n : Fin 16) (s : State), Reach p Reg.TMR_START s ∧ s.tmRuns n = false ∧ s.tmArmed n = false ∧ s.tmLoops n 16 n = false) ∧
    (∃ (p : Port) (s : State), Reach p Reg.TMR_STOP s) ∧
    (∃ (p : Port) (s : State), Reach p Reg.TMR_RESET s) ∧
    (∃ (n : Fin 16) (s : State), Live s ∧ s.tmSrc n ≠ 3 ∧ ((s.tmSrc n = 2 → (s.ballOf (0x70 + n)).isSome = true)) ∧ (s.tmRuns n = false ∨ s.tmAwake 16 n = false)) ∧
    (∃ (n : Fin 16) (s : State), 
    let c := (s.rd (Reg.TMR_TM_CNT n)).toNat
    let w := s.tmrW n
    Live s ∧ s.tmSrc n ≠ 3 ∧ ((s.tmSrc n = 2 → (s.ballOf (0x70 + n)).isSome = true)) ∧ s.tmRuns n = true ∧ s.tmAwake 16 n = true ∧ s.tmSlv n = 0 ∧ c < w.per) ∧
    (∃ (n : Fin 16) (s : State), 
    let c := (s.rd (Reg.TMR_TM_CNT n)).toNat
    let w := s.tmrW n
    Live s ∧ s.tmSrc n ≠ 3 ∧ ((s.tmSrc n = 2 → (s.ballOf (0x70 + n)).isSome = true)) ∧ s.tmRuns n = true ∧ s.tmAwake 16 n = true ∧ s.tmSlv n = 0 ∧ w.per ≤ c ∧ ((∀ m ∈ List.range 16, m = n ∨ s.tmMaster m ≠ n ∨ s.tmSlave m = false))) ∧
    (∃ (n : Fin 8) (s : State), Live s ∧ (s.fg (Fld.TMR_TM_IO_FUNC n) ≠ 2 ∨ s.ballOf (0x70 + n) = none)) ∧
    (∃ (n : Fin 8) (s : State), Live s ∧ s.fg (Fld.TMR_TM_IO_FUNC n) = 2 ∧ (s.ballOf (0x70 + n)).isSome = true) :=
  ⟨⟨.spt, 2, put [(Fld.TMR_RUN_RUN, 4)] tLoad, by decide⟩,
   ⟨.spt, 2, put [((Fld.TMR_TM_CFG_SRC 2), 3), ((Fld.TMR_TM_CFG_MSEL 2), 2)] tLoad, by decide⟩,
   ⟨.spt, 0, tLoad, by decide⟩,
   ⟨.spt, tLoad, by decide⟩,
   ⟨.spt, tLoad, by decide⟩,
   ⟨0, tLoad, by decide⟩,
   ⟨2, (fun s => s.setTmrW 2 ⟨10, 5, 6, 0⟩) (put [(Fld.TMR_RUN_RUN, 4)] (putW [((Reg.TMR_TM_CNT 2), 3)] tLoad)), by dsimp only; decide⟩,
   ⟨2, (fun s => s.setTmrW 2 ⟨10, 5, 6, 0⟩) (put [(Fld.TMR_RUN_RUN, 4)] (putW [((Reg.TMR_TM_CNT 2), 10)] tLoad)), by dsimp only; decide⟩,
   ⟨0, tLoad, by decide⟩,
   ⟨0, put [((Fld.TMR_TM_IO_FUNC 0), 2)] tLoad, by decide⟩⟩

theorem witness_WatchdogsReset :
    (∃ (p : Port) (s : State), Reach p Reg.WDG_H_CTL s ∧ s.fb Fld.WDG_H_CTL_EN = true) ∧
    (∃ (p : Port) (s : State), Reach p Reg.WDG_H_CTL s ∧ s.fb Fld.WDG_H_CTL_EN = false) ∧
    (∃ (p : Port) (v : Word) (s : State), Reach p Reg.WDG_H_SVC s ∧ v.toNat % 65536 ≠ 0x5C3A) ∧
    (∃ (p : Port) (v : Word) (s : State), Reach p Reg.WDG_H_SVC s ∧ v.toNat % 65536 = 0x5C3A ∧ s.fb Fld.WDG_H_CTL_EN = false) ∧
    (∃ (p : Port) (v : Word) (stamp : Nat) (s : State), 
    let ends := s.fg Fld.WDG_H_CFG_PERIOD * (if s.fb Fld.WDG_H_CFG_CLKSEL = true then 15625 else 32)
    Reach p Reg.WDG_H_SVC s ∧ v.toNat % 65536 = 0x5C3A ∧ s.fb Fld.WDG_H_CTL_EN = true ∧ (stamp < ends * s.wdFraction 0 / 16 ∨ ends ≤ stamp)) ∧
    (∃ (p : Port) (v : Word) (stamp : Nat) (s : State), 
    let ends := s.fg Fld.WDG_H_CFG_PERIOD * (if s.fb Fld.WDG_H_CFG_CLKSEL = true then 15625 else 32)
    Reach p Reg.WDG_H_SVC s ∧ v.toNat % 65536 = 0x5C3A ∧ s.fb Fld.WDG_H_CTL_EN = true ∧ ends * s.wdFraction 0 / 16 ≤ stamp ∧ stamp < ends ∧ s.wdFraction 0 ≠ 0) ∧
    (∃ (w : Fin 3) (s : State), Live s ∧ (s.powerState = 0 ∨ s.wdEnabled w = false)) ∧
    (∃ (w : Fin 3) (s : State), Live s ∧ s.powerState ≠ 0 ∧ s.wdEnabled w = true ∧ s.fb (wdOpenFld w) = false) ∧
    (∃ (w : Fin 3) (s : State), Live s ∧ s.powerState ≠ 0 ∧ s.wdEnabled w = true) ∧
    (∃ (s : State), Live s ∧ (s.powerState = 0 ∨ (∀ w ∈ List.range 3, s.wdEnabled w = false))) ∧
    (∃ (s : State), Live s ∧ s.powerState ≠ 0 ∧ ((∃ w ∈ List.range 3, s.wdEnabled w = true))) :=
  ⟨⟨.spt, put [(Fld.WDG_H_CTL_EN, 1)] tLoad, by decide⟩,
   ⟨.spt, put [(Fld.WDG_H_CTL_EN, 0)] tLoad, by decide⟩,
   ⟨.spt, 1, tLoad, by decide⟩,
   ⟨.spt, 0x5C3A, put [(Fld.WDG_H_CTL_EN, 0), (Fld.WDG_H_CFG_PERIOD, 100)] tLoad, by decide⟩,
   ⟨.spt, 0x5C3A, 4000, put [(Fld.WDG_H_CTL_EN, 1), (Fld.WDG_H_CFG_PERIOD, 100)] tLoad, by dsimp only; decide⟩,
   ⟨.spt, 0x5C3A, 3100, put [(Fld.WDG_H_CTL_EN, 1), (Fld.WDG_H_CFG_PERIOD, 100), (Fld.ID_FUSE_WDF, 8)] tLoad, by dsimp only; decide⟩,
   ⟨0, put [(Fld.SYS_PWR_STAT_STATE, 0)] tLoad, by decide⟩,
   ⟨0, put [(Fld.SYS_PWR_STAT_STATE, 2), ((wdOpenFld 0), 0), (Fld.WDG_H_CFG_PERIOD, 100), (Fld.WDG_H_CTL_EN, 1)] tLoad, by decide⟩,
   ⟨0, put [(Fld.SYS_PWR_STAT_STATE, 2), (Fld.WDG_H_CFG_PERIOD, 100), (Fld.WDG_H_CTL_EN, 1)] tLoad, by decide⟩,
   ⟨put [(Fld.SYS_PWR_STAT_STATE, 0)] tLoad, by decide⟩,
   ⟨put [(Fld.SYS_PWR_STAT_STATE, 2), (Fld.WDG_H_CFG_PERIOD, 100), (Fld.WDG_H_CTL_EN, 1)] tLoad, by decide⟩⟩

theorem witness_EventRegistersAct :
    (∃ (p : Port) (i : Fin 8) (s : State), ((i : Nat) = 0 ∨ (i : Nat) = 7) ∧ Reach p (Reg.INTC_MASK_SET i) s) ∧
    (∃ (p : Port) (i : Fin 8) (s : State), ((i : Nat) = 0 ∨ (i : Nat) = 7) ∧ Reach p (Reg.INTC_MASK_CLR i) s) ∧
    (∃ (p : Port) (i : Fin 8) (s : State), ((i : Nat) = 0 ∨ (i : Nat) = 7) ∧ Reach p (Reg.INTC_PEND_SET i) s) ∧
    (∃ (p : Port) (i : Fin 8) (s : State), ((i : Nat) = 0 ∨ (i : Nat) = 7) ∧ Reach p (Reg.INTC_PEND_CLR i) s) ∧
    (∃ (p : Port) (i : Fin 8) (s : State), 1 ≤ (i : Nat) ∧ (i : Nat) ≤ 6 ∧ Reach p (Reg.INTC_MASK_SET i) s) ∧
    (∃ (p : Port) (i : Fin 8) (s : State), 1 ≤ (i : Nat) ∧ (i : Nat) ≤ 6 ∧ Reach p (Reg.INTC_MASK_CLR i) s) ∧
    (∃ (p : Port) (i : Fin 8) (s : State), 1 ≤ (i : Nat) ∧ (i : Nat) ≤ 6 ∧ Reach p (Reg.INTC_PEND_SET i) s) ∧
    (∃ (p : Port) (i : Fin 8) (s : State), 1 ≤ (i : Nat) ∧ (i : Nat) ≤ 6 ∧ Reach p (Reg.INTC_PEND_CLR i) s) ∧
    (∃ (p : Port) (i : Fin 8) (s : State), Reach p (Reg.INTC_ROUTE i) s ∧ (i < 2 ∨ (i : Nat) = 7)) ∧
    (∃ (p : Port) (i : Fin 8) (s : State), Reach p (Reg.INTC_ROUTE i) s ∧ 2 ≤ i ∧ (i : Nat) ≠ 7) ∧
    (∃ (s : State), Live s ∧ s.powerState ≠ 0 ∧ s.irq.t0.n ≠ 0 ∧ (s.rd (Reg.INTC_COAL_H 0)).toNat / 65536 ≠ 0) ∧
    (∃ (s : State), Live s ∧ s.powerState ≠ 0 ∧ s.irq.t1.n ≠ 0 ∧ (s.rd (Reg.INTC_COAL_H 1)).toNat / 65536 ≠ 0) ∧
    (∃ (s : State), Live s ∧ s.powerState ≠ 0 ∧ (s.irq.t0.n = 0 ∨ (s.rd (Reg.INTC_COAL_H 0)).toNat / 65536 = 0)) :=
  ⟨⟨.spt, 0, tLoad, by decide⟩,
   ⟨.spt, 0, tLoad, by decide⟩,
   ⟨.spt, 0, tLoad, by decide⟩,
   ⟨.spt, 0, tLoad, by decide⟩,
   ⟨.spt, 2, tLoad, by decide⟩,
   ⟨.spt, 2, tLoad, by decide⟩,
   ⟨.spt, 2, tLoad, by decide⟩,
   ⟨.spt, 2, tLoad, by decide⟩,
   ⟨.spt, 0, tLoad, by decide⟩,
   ⟨.spt, 2, tLoad, by decide⟩,
   ⟨(fun s => s.setIrq { s.irq with t0 := { s.irq.t0 with n := 1 } }) (put [(Fld.SYS_PWR_STAT_STATE, 2)] (putW [((Reg.INTC_COAL_H 0), 0x00100002)] tLoad)), by decide⟩,
   ⟨(fun s => s.setIrq { s.irq with t1 := { s.irq.t1 with n := 1 } }) (put [(Fld.SYS_PWR_STAT_STATE, 2)] (putW [((Reg.INTC_COAL_H 1), 0x00100002)] tLoad)), by decide⟩,
   ⟨put [(Fld.SYS_PWR_STAT_STATE, 2)] tLoad, by decide⟩⟩

theorem witness_TargetsFollowSignals :
    (∃ (s : State), 
    let u := settle s
    Live s ∧ s.powerState ≠ 0 ∧ u.signalledAt 0 = 0) ∧
    (∃ (s : State), 
    let u := settle s
    Live s ∧ s.powerState ≠ 0 ∧ u.signalledAt 1 = 0) ∧
    (∃ (s : State), 
    let u := settle s
    Live s ∧ s.powerState ≠ 0 ∧ u.signalledAt 0 ≠ 0 ∧ s.irq.t0.ball = true) ∧
    (∃ (s : State), 
    let u := settle s
    Live s ∧ s.powerState ≠ 0 ∧ u.signalledAt 0 ≠ 0 ∧ s.irq.t0.ball = false) ∧
    (∃ (s : State), Live s ∧ s.powerState ≠ 0) :=
  ⟨⟨put [(Fld.SYS_PWR_STAT_STATE, 2)] tLoad, by dsimp only; decide⟩,
   ⟨put [(Fld.SYS_PWR_STAT_STATE, 2)] tLoad, by dsimp only; decide⟩,
   ⟨(fun s => s.setIrq { s.irq with latch := 2 ^ 100, t0 := { s.irq.t0 with ball := true } }) (put [(Fld.SYS_PWR_STAT_STATE, 2)] (putW [((Reg.INTC_MASK_SET 3), 0)] tLoad)), by dsimp only; decide⟩,
   ⟨(fun s => s.setIrq { s.irq with latch := 2 ^ 100, t0 := { s.irq.t0 with ball := false } }) (put [(Fld.SYS_PWR_STAT_STATE, 2)] (putW [((Reg.INTC_MASK_SET 3), 0)] tLoad)), by dsimp only; decide⟩,
   ⟨put [(Fld.SYS_PWR_STAT_STATE, 2)] tLoad, by decide⟩⟩

theorem witness_DeratingAndThrottle :
    (∃ (pts : List (Int × Nat)) (p : _), pts.Pairwise (fun a b => a.1 < b.1) ∧ p ∈ pts) ∧
    (∃ (pts : List (Int × Nat)) (t : Int) (h : pts ≠ []), pts.Pairwise (fun a b => a.1 < b.1) ∧ t ≤ (pts.head h).1) ∧
    (∃ (pts : List (Int × Nat)) (t : Int) (h : pts ≠ []), pts.Pairwise (fun a b => a.1 < b.1) ∧ (pts.getLast h).1 ≤ t) ∧
    (∃ (thr : Nat) (n : Nat) (req : Bool), thr ≠ 0 ∧ n ≤ 3 ∧ req = false) ∧
    (∃ (thr : Nat) (n : Nat), thr ≠ 0 ∧ n ≤ 3) ∧
    (∃ (thr : Nat) (n : Nat) (req : Bool), thr ≠ 0 ∧ n ≤ 3 ∧ req = true) :=
  ⟨⟨[(0, 1000), (100, 500)], (100, 500), by decide⟩,
   ⟨[(0, 1000), (100, 500)], -5, by decide, by decide⟩,
   ⟨[(0, 1000), (100, 500)], 100, by decide, by decide⟩,
   ⟨600, 2, false, by decide⟩,
   ⟨1, 1, by decide⟩,
   ⟨1, 1, true, by decide⟩⟩

theorem witness_TemperaturesAct :
    (∃ (s : State), Live s ∧ s.powerState = 0) ∧
    (∃ (t : List Int) (s : State), Live s ∧ s.powerState ≠ 0 ∧ ((∀ k ∈ List.range 4, -32768 ≤ t.getD k 0 ∧ t.getD k 0 < 32768))) ∧
    (∃ (s : State), Live s ∧ s.powerState ≠ 0) ∧
    (∃ (h : Fin 5) (s : State), 
    let thr := (s.fg (Fld.THM_Z_THR_THR h) : Int)
    let temp := s.fgs (Fld.THM_Z_STAT_TEMP h)
    let met := thr ≠ 0 ∧ s.fg (Fld.THM_Z_STAT_NOSENSE h) = 0
    let past := (s.thmZone h).reqAt + 10 * fldOf (s.rd (Reg.THM_Z_THR h)) 16 8 ≤ s.thm.clock
    Live s ∧ (h : Nat) < 4 ∧ bitOf (s.fg Fld.THM_STAT_REQ) h = true ∧ met ∧ past ∧ thr - 50 ≤ temp) ∧
    (∃ (h : Fin 5) (s : State), 
    let thr := (s.fg (Fld.THM_Z_THR_THR h) : Int)
    let temp := s.fgs (Fld.THM_Z_STAT_TEMP h)
    let met := thr ≠ 0 ∧ s.fg (Fld.THM_Z_STAT_NOSENSE h) = 0
    let past := (s.thmZone h).reqAt + 10 * fldOf (s.rd (Reg.THM_Z_THR h)) 16 8 ≤ s.thm.clock
    Live s ∧ (h : Nat) < 4 ∧ (bitOf (s.fg Fld.THM_STAT_REQ) h = false ∨ ¬ met ∨ ¬ past ∨ temp < thr - 50)) ∧
    (∃ (h : Fin 5) (s : State), 
    let thr := (s.fg (Fld.THM_Z_THR_THR h) : Int)
    let temp := s.fgs (Fld.THM_Z_STAT_TEMP h)
    let met := thr ≠ 0 ∧ s.fg (Fld.THM_Z_STAT_NOSENSE h) = 0
    let cool := (s.thmZone h).warmAt + 600 ≤ s.thm.clock
    Live s ∧ (h : Nat) < 4 ∧ met ∧ cool ∧ temp < thr - 50) ∧
    (∃ (h : Fin 5) (s : State), 
    let thr := (s.fg (Fld.THM_Z_THR_THR h) : Int)
    let temp := s.fgs (Fld.THM_Z_STAT_TEMP h)
    let met := thr ≠ 0 ∧ s.fg (Fld.THM_Z_STAT_NOSENSE h) = 0
    let cool := (s.thmZone h).warmAt + 600 ≤ s.thm.clock
    Live s ∧ (h : Nat) < 4 ∧ (¬ met ∨ ¬ cool ∨ thr - 50 ≤ temp)) ∧
    (∃ (s : State), Live s ∧ s.dieTemp < (s.fg Fld.THM_DIECFG_TDTHR : Int) - 50 ∧ s.thm.dieWarm + 6000 ≤ s.thm.dieClk) ∧
    (∃ (s : State), Live s ∧ s.dieTemp < (s.fg Fld.THM_DIECFG_TDTHR : Int) - 50 ∧ s.thm.dieClk < s.thm.dieWarm + 6000) ∧
    (∃ (s : State), Live s ∧ s.dieTemp < (s.fg Fld.THM_DIECFG_TDTHR : Int) - 50) ∧
    (∃ (h : Fin 4) (s : State), 
    let warm := ∃ n ∈ s.zoneInputs h, s.fg (Fld.THM_TS_SD_SD n) ≠ 0 ∧ s.tsOn n = true ∧ ((s.fg (Fld.THM_TS_SD_SD n) : Int) - 100 ≤ s.tsTemp n ∨ s.thm.clock < (s.thmIn n).hotAt + 600)
    Live s ∧ warm) ∧
    (∃ (h : Fin 4) (s : State), 
    let warm := ∃ n ∈ s.zoneInputs h, s.fg (Fld.THM_TS_SD_SD n) ≠ 0 ∧ s.tsOn n = true ∧ ((s.fg (Fld.THM_TS_SD_SD n) : Int) - 100 ≤ s.tsTemp n ∨ s.thm.clock < (s.thmIn n).hotAt + 600)
    Live s ∧ (¬ warm)) ∧
    (∃ (p : Port) (n : Fin 16) (s : State), Reach p (Reg.THM_TS_CFG n) s) ∧
    (∃ (p : Port) (n : Fin 16) (s : State), Reach p (Reg.THM_TS_FLAG n) s ∧ s.suspect n = false) ∧
    (∃ (p : Port) (n : Fin 16) (s : State), Reach p (Reg.THM_TS_FLAG n) s ∧ s.suspect n = true ∧ s.tsValid n = true ∧ s.deviates n false = true) ∧
    (∃ (p : Port) (n : Fin 16) (s : State), Reach p (Reg.THM_TS_FLAG n) s ∧ s.suspect n = true ∧ s.tsValid n = false) ∧
    (∃ (h : Nat) (s : State) (n : _), h < 4 ∧ bitOf (s.fg Fld.THM_STAT_SDZ) h = false ∧ n ∈ s.zoneStrings h) ∧
    (∃ (h : Nat) (s : State), h < 4 ∧ bitOf (s.fg Fld.THM_STAT_SDZ) h = false) :=
  ⟨⟨put [(Fld.SYS_PWR_STAT_STATE, 0)] tLoad, by decide⟩,
   ⟨[], put [(Fld.SYS_PWR_STAT_STATE, 2)] tLoad, by decide⟩,
   ⟨put [(Fld.SYS_PWR_STAT_STATE, 2)] tLoad, by decide⟩,
   ⟨1, (fun s => s.setThm { s.thm with clock := 100000 }) (put [(Fld.THM_STAT_REQ, 2), ((Fld.THM_Z_THR_THR 1), 50)] tLoad), by dsimp only; decide⟩,
   ⟨0, tLoad, by dsimp only; decide⟩,
   ⟨1, (fun s => s.setThm { s.thm with clock := 600 }) (put [((Fld.THM_Z_THR_THR 1), 600)] tLoad), by dsimp only; decide⟩,
   ⟨0, tLoad, by dsimp only; decide⟩,
   ⟨(fun s => s.setThm { s.thm with dieClk := 6000 }) (put [(Fld.THM_DIECFG_TDTHR, 1000)] tLoad), by decide⟩,
   ⟨put [(Fld.THM_DIECFG_TDTHR, 1000)] tLoad, by decide⟩,
   ⟨tLoad, by decide⟩,
   ⟨0, put [((Fld.THM_TS_SD_SD 0), 900), ((Fld.THM_TS_CFG_TYPE 0), 1), ((Fld.THM_TS_TEMP_TEMP 0), 850)] tLoad, by dsimp only; decide⟩,
   ⟨0, tLoad, by dsimp only; decide⟩,
   ⟨.spt, 0, tLoad, by decide⟩,
   ⟨.spt, 0, tLoad, by decide⟩,
   ⟨.spt, 2, (fun s => s.setThm { s.thm with ins := [(2, ⟨false, 3, some 250, true, 0, 0, 0, 0, 0⟩), (3, ⟨false, 3, some 250, true, 0, 0, 0, 0, 0⟩)] }) (put [(Fld.THM_STAT_SUSPECT, 4), ((Fld.THM_TS_CFG_TYPE 2), 1), (Fld.THM_XCHK_XDEV, 10), ((Fld.THM_TS_TEMP_TEMP 2), 100), ((Fld.THM_TS_CFG_TYPE 3), 1), ((Fld.THM_TS_TEMP_TEMP 3), 300), ((Fld.THM_TS_CFG_GROUP 2), 1), ((Fld.THM_TS_CFG_GROUP 3), 1)] tLoad), by decide⟩,
   ⟨.spt, 2, (fun s => s.setThm { s.thm with ins := [(2, ⟨false, 3, some 250, false, 0, 0, 0, 0, 0⟩)] }) (put [(Fld.THM_STAT_SUSPECT, 4), ((Fld.THM_TS_CFG_TYPE 2), 1)] tLoad), by decide⟩,
   ⟨0, tLoad, 0, by decide⟩,
   ⟨1, tLoad, by decide⟩⟩

theorem witness_FusesAreBlown :
    (∃ (p : Port) (w : Fin 1024) (s : State), 
    let key := 0x100 ≤ (w : Nat) ∧ (w : Nat) ≤ 0x107
    Reach p (0x081000 + 4 * w) s ∧ key) ∧
    (∃ (p : Port) (w : Fin 1024) (s : State), 
    let key := 0x100 ≤ (w : Nat) ∧ (w : Nat) ≤ 0x107
    Reach p (0x081000 + 4 * w) s ∧ (¬ key)) ∧
    (∃ (p : Port) (s : State), Reach p Reg.OTP_PCTL s) ∧
    (∃ (p : Port) (s : State), 
    let w := s.fg Fld.OTP_PADDR_WORD
    Reach p Reg.OTP_PCTL s ∧ s.fb Fld.OTP_STAT_BUSY = false ∧ s.otpLocked w = false) ∧
    (∃ (p : Port) (s : State), Reach p Reg.OTP_PCTL s ∧ s.fb Fld.OTP_STAT_BUSY = false ∧ s.life = false) ∧
    (∃ (p : Port) (s : State), 
    let d := (s.rd Reg.OTP_PDATA).toNat
    Reach p Reg.OTP_PCTL s ∧ s.fb Fld.OTP_STAT_BUSY = false ∧ d % 16 < 4 ∧ s.revokeLocked (bitOf d 4) (d % 16) = false) ∧
    (∃ (p : Port) (s : State), Reach p Reg.OTP_PCTL s ∧ s.fb Fld.OTP_STAT_BUSY = false ∧ s.rollback ≤ s.runSvn) ∧
    (∃ (s : State), Live s ∧ s.fb Fld.OTP_STAT_BUSY = false) ∧
    (∃ (s : State), Live s ∧ s.fb Fld.OTP_STAT_BUSY = true) :=
  ⟨⟨.spt, 0x100, tLoad, by dsimp only; decide⟩,
   ⟨.spt, 0, tLoad, by dsimp only; decide⟩,
   ⟨.spt, tLoad, by decide⟩,
   ⟨.spt, put [(Fld.OTP_STAT_BUSY, 0)] tLoad, by dsimp only; decide⟩,
   ⟨.spt, put [(Fld.OTP_STAT_BUSY, 0)] tLoad, by decide⟩,
   ⟨.spt, (fun s => s.setOtpWord 0x118 1) ((fun s => s.setOtpWord 0x110 1) (put [(Fld.OTP_STAT_BUSY, 0)] tLoad)), by dsimp only; decide⟩,
   ⟨.spt, put [(Fld.OTP_STAT_BUSY, 0)] tLoad, by decide⟩,
   ⟨put [(Fld.OTP_STAT_BUSY, 0)] tLoad, by decide⟩,
   ⟨put [(Fld.OTP_STAT_BUSY, 1)] tLoad, by decide⟩⟩

theorem witness_BankUpdatesRun :
    (∃ (p : Port) (s : State), 
    let k := s.fg Fld.NVC_ARG_BANK
    let held := s.opRuns = true ∨ k = s.runBank
    Reach p Reg.NVC_CTL s ∧ held) ∧
    (∃ (p : Port) (s : State), 
    let k := s.fg Fld.NVC_ARG_BANK
    let held := s.opRuns = true ∨ k = s.runBank
    Reach p Reg.NVC_CTL s ∧ (¬ held) ∧ s.nvcRange = false) ∧
    (∃ (p : Port) (s : State), 
    let k := s.fg Fld.NVC_ARG_BANK
    let held := s.opRuns = true ∨ k = s.runBank
    Reach p Reg.NVC_CTL s ∧ (¬ held) ∧ s.nvcRange = true) ∧
    (∃ (p : Port) (s : State), 
    let k := s.fg Fld.NVC_ARG_BANK
    let held := s.opRuns = true ∨ k = s.runBank
    Reach p Reg.NVC_CTL s ∧ (¬ held)) ∧
    (∃ (s : State), Live s ∧ (s.fb Fld.NVC_STAT_BUSY = false ∨ (∃ x ∈ s.nvm.words, x.1 = wHost))) ∧
    (∃ (s : State), Live s ∧ s.fb Fld.NVC_STAT_BUSY = true ∧ ((∀ x ∈ s.nvm.words, x.1 ≠ wHost))) ∧
    (∃ (s : State), Live s ∧ s.nvm.words = []) ∧
    (∃ (w : Nat) (a : Nat) (v : Word) (rest : List (Nat × Nat × Word)) (s : State), Live s ∧ s.nvm.words = (w, a, v) :: rest ∧ ((∀ x ∈ rest, x.1 = w)) ∧ w < 8 ∧ (w ≠ wProgram ∨ rest ≠ [])) ∧
    (∃ (w : Nat) (a : Nat) (v : Word) (rest : List (Nat × Nat × Word)) (s : State), Live s ∧ s.nvm.words = (w, a, v) :: rest ∧ ((∀ x ∈ rest, x.1 = w)) ∧ w < 8 ∧ w = wHost) :=
  ⟨⟨.spt, put [(Fld.NVC_ARG_BANK, 0)] tLoad, by dsimp only; decide⟩,
   ⟨.spt, put [(Fld.NVC_ARG_BANK, 1)] tLoad, by dsimp only; decide⟩,
   ⟨.spt, put [(Fld.NVC_ARG_BANK, 1)] (putW [(Reg.NVC_LEN, 8)] tLoad), by dsimp only; decide⟩,
   ⟨.spt, put [(Fld.NVC_ARG_BANK, 1)] tLoad, by dsimp only; decide⟩,
   ⟨put [(Fld.NVC_STAT_BUSY, 0)] tLoad, by decide⟩,
   ⟨put [(Fld.NVC_STAT_BUSY, 1)] tLoad, by decide⟩,
   ⟨(fun s => s.setNvm { s.nvm with words := [] }) tLoad, by decide⟩,
   ⟨wHost, 0x100000, 5, [], (fun s => s.setNvm { s.nvm with words := [(wHost, 0x100000, 5)] }) tLoad, by decide⟩,
   ⟨wHost, 0x100000, 5, [], (fun s => s.setNvm { s.nvm with words := [(wHost, 0x100000, 5)] }) tLoad, by decide⟩⟩

theorem witness_Tw1Transfers :
    (∃ (p : Port) (s : State), Reach p Reg.TWI_TW1_CTL s ∧ s.fb Fld.TWI_TW1_STAT_BUSY = true) ∧
    (∃ (p : Port) (v : Word) (s : State), Reach p Reg.TWI_TW1_CTL s ∧ s.fb Fld.TWI_TW1_STAT_BUSY = false ∧ (32 < fldOf v 8 6 ∨ 32 < fldOf v 16 6)) ∧
    (∃ (p : Port) (v : Word) (s : State), Reach p Reg.TWI_TW1_CTL s ∧ s.fb Fld.TWI_TW1_STAT_BUSY = false ∧ fldOf v 8 6 ≤ 32 ∧ fldOf v 16 6 ≤ 32 ∧ s.fb Fld.TWI_TW1_CFG_EN = true) ∧
    (∃ (p : Port) (v : Word) (s : State), Reach p Reg.TWI_TW1_CTL s ∧ s.fb Fld.TWI_TW1_STAT_BUSY = false ∧ fldOf v 8 6 ≤ 32 ∧ fldOf v 16 6 ≤ 32 ∧ s.fb Fld.TWI_TW1_CFG_EN = false) ∧
    (∃ (s : State), Live s ∧ s.fb Fld.TWI_TW1_STAT_BUSY = false) ∧
    (∃ (s : State), Live s ∧ s.fb Fld.TWI_TW1_STAT_BUSY = true) ∧
    (∃ (s : State), 
    let n := fldOf s.tw1.ctl 16 6
    Live s ∧ s.fb Fld.TWI_TW1_STAT_BUSY = true ∧ n = 0) ∧
    (∃ (rx : List Byte) (s : State), 
    let n := fldOf s.tw1.ctl 16 6
    Live s ∧ s.fb Fld.TWI_TW1_STAT_BUSY = true ∧ n ≠ 0 ∧ (fldOf s.tw1.ctl 7 1 = 0 ∨ (rx.getD n 0).toNat = pec (s.tw1Covered (rx.take n)))) ∧
    (∃ (rx : List Byte) (s : State), 
    let n := fldOf s.tw1.ctl 16 6
    Live s ∧ s.fb Fld.TWI_TW1_STAT_BUSY = true ∧ n ≠ 0 ∧ fldOf s.tw1.ctl 7 1 = 1 ∧ (rx.getD n 0).toNat ≠ pec (s.tw1Covered (rx.take n))) ∧
    (∃ (s : State), 
    let w := fldOf s.tw1.ctl 8 6
    fldOf s.tw1.ctl 16 6 = 0 ∧ 0 < w ∧ fldOf s.tw1.ctl 7 1 = 1) ∧
    (∃ (s : State), 
    let w := fldOf s.tw1.ctl 8 6
    fldOf s.tw1.ctl 16 6 = 0 ∧ 0 < w ∧ fldOf s.tw1.ctl 7 1 = 0) ∧
    (∃ (s : State), Live s ∧ s.fb Fld.TWI_TW1_STAT_BUSY = true ∧ s.tw1.left = 0) ∧
    (∃ (s : State), Live s ∧ s.fb Fld.TWI_TW1_STAT_BUSY = true ∧ s.tw1.left ≠ 0) ∧
    (∃ (s : State), Live s ∧ s.tw1Answers = true) ∧
    (∃ (s : State), Live s ∧ s.tw1Answers = false) ∧
    (∃ (s : State), Live s ∧ s.fb Fld.TWI_TW1_CFG_EN = true ∧ s.fb Fld.TWI_TW1_CFG_TMO_EN = true) ∧
    (∃ (s : State), Live s ∧ (s.fb Fld.TWI_TW1_CFG_EN = false ∨ s.fb Fld.TWI_TW1_CFG_TMO_EN = false)) ∧
    (∃ (b : List Byte) (k : Nat), b.length ≤ 32 ∧ k < b.length) ∧
    (∃ (b : List Byte), b.length ≤ 32) :=
  ⟨⟨.spt, put [(Fld.TWI_TW1_STAT_BUSY, 1)] tLoad, by decide⟩,
   ⟨.spt, 0x00002F00, put [(Fld.TWI_TW1_STAT_BUSY, 0)] tLoad, by decide⟩,
   ⟨.spt, 1, put [(Fld.TWI_TW1_STAT_BUSY, 0), (Fld.TWI_TW1_CFG_EN, 1)] tLoad, by decide⟩,
   ⟨.spt, 1, put [(Fld.TWI_TW1_STAT_BUSY, 0), (Fld.TWI_TW1_CFG_EN, 0)] tLoad, by decide⟩,
   ⟨put [(Fld.TWI_TW1_STAT_BUSY, 0)] tLoad, by decide⟩,
   ⟨put [(Fld.TWI_TW1_STAT_BUSY, 1)] tLoad, by decide⟩,
   ⟨put [(Fld.TWI_TW1_STAT_BUSY, 1)] tLoad, by dsimp only; decide⟩,
   ⟨[1, 2], (fun s => s.setTw1 { s.tw1 with ctl := 0x00020000#32, left := 1 }) (put [(Fld.TWI_TW1_STAT_BUSY, 1)] tLoad), by dsimp only; decide⟩,
   ⟨[1, 2, 0], (fun s => s.setTw1 { s.tw1 with ctl := 0x00020080#32, left := 1 }) (put [(Fld.TWI_TW1_STAT_BUSY, 1)] tLoad), by dsimp only; decide⟩,
   ⟨(fun s => s.setTw1 { s.tw1 with ctl := 0x00000280#32, left := 1 }) tLoad, by dsimp only; decide⟩,
   ⟨(fun s => s.setTw1 { s.tw1 with ctl := 0x00000200#32, left := 1 }) tLoad, by dsimp only; decide⟩,
   ⟨(fun s => s.setTw1 { s.tw1 with left := 0 }) (put [(Fld.TWI_TW1_STAT_BUSY, 1)] tLoad), by decide⟩,
   ⟨(fun s => s.setTw1 { s.tw1 with ctl := 0#32, left := 1 }) (put [(Fld.TWI_TW1_STAT_BUSY, 1)] tLoad), by decide⟩,
   ⟨put [(Fld.TWI_TW1_CFG_EN, 1), (Fld.TWI_TW1_CFG_TGT_EN, 1)] tLoad, by decide⟩,
   ⟨tLoad, by decide⟩,
   ⟨put [(Fld.TWI_TW1_CFG_EN, 1), (Fld.TWI_TW1_CFG_TMO_EN, 1)] tLoad, by decide⟩,
   ⟨put [(Fld.TWI_TW1_CFG_EN, 0)] tLoad, by decide⟩,
   ⟨[1, 2], 1, by decide⟩,
   ⟨[], by decide⟩⟩

end Sys2Proof.Tests
end

section
/-!
PROOFS. Single words at the host ports (R9, R10, R49, R61, R111, R162, R554): what the access codes leave in a word, and
what a transaction of one register word does.
-/
namespace Sys2Proof.Machine

variable (s : State)

/-! ### Access codes by bit -/

theorem getLsbD_mask (n i : Nat) (h : i < 32) : (BitVec.ofNat 32 n).getLsbD i = bitOf n i := by
  rw [BitVec.getLsbD_ofNat, Nat.testBit_eq_decide_div_mod_eq, decide_eq_true h, Bool.true_and]
  rfl

theorem getLsbD_applyMasks (r : RegRow) (old v : Word) (i : Nat) (h : i < 32) :
    (applyMasks r old v).getLsbD i =
      ((((old.getLsbD i && !bitOf r.rw i) || (v.getLsbD i && bitOf r.rw i)) && !(v.getLsbD i && bitOf r.w1c i)) ||
        (v.getLsbD i && bitOf r.w1s i)) := by
  simp only [applyMasks, BitVec.getLsbD_or, BitVec.getLsbD_and, BitVec.getLsbD_not, getLsbD_mask _ _ h, h, decide_true,
    Bool.true_and]

/-- Settles O10: W1S bits govern, then W1C bits, then RW bits, and any other bit stays. -/
theorem accessCodesByBit : Obligations.AccessCodesByBit := by
  intro r old v i hi
  rw [getLsbD_applyMasks r old v i hi]
  split_ifs with hset hclear hrw
  · simp [hset]
  · simp_all
  · cases hv : v.getLsbD i <;> simp_all
  · cases hv : v.getLsbD i <;> simp_all

/-! ### Transactions of one word -/

theorem blockSlot_lt {a : Nat} (h : blockSlot a = true) : a < 0x1D0000 := by
  unfold blockSlot at h
  exact (of_decide_eq_true h).1

/-- R107: an aligned word of a block slot is a whole transaction. -/
theorem refusedWhole_word {a : Nat} (halign : a % 4 = 0) (hslot : blockSlot a = true) : refusedWhole a 1 = false := by
  have hlt := blockSlot_lt hslot
  have hlast : a + 4 * 1 - 1 < 0x1D0000 := by omega
  have hsame : (a + 4 * 1 - 1) / 65536 = a / 65536 := by omega
  have hplace : placeOf (a + 4 * 1 - 1) = placeOf a := by
    unfold placeOf
    rw [if_pos hlast, if_pos hlt, hsame]
  have hsome : placeOf a = some (0, a / 65536) := by
    unfold placeOf
    rw [if_pos hlt]
  unfold refusedWhole
  rw [hplace, hsome, halign]
  simp

theorem writeTransaction_word (a : Nat) (v : Word) (vpp : Bool) (h : refusedWhole a 1 = false) :
    writeTransaction a [v] vpp s = (((writeWord a v vpp s).1, 0), (writeWord a v vpp s).2) := by
  unfold writeTransaction
  rw [List.length_singleton, h]
  rcases hw : writeWord a v vpp s with ⟨_ | st, t⟩
  · simp [writeWords, hw, stOk]
  · simp [writeWords, hw]

theorem readTransaction_word {p : Port} {a : Nat} {v : Word} (h : refusedWhole a 1 = false)
    (hv : readWord p a false s = (stOk, v)) : readTransaction p a 1 [] s = (stOk, [v], readEffect a v false s) := by
  have h0 : readWord p a false s = (0, v) := hv
  simp [readTransaction, h, readWords, h0]

/-! ### Writes of plain words (R9, R49, R61, R554) -/

theorem blockSlot_of_plainWord {a : Nat} (h : PlainWord a) : blockSlot a = true := by
  have hrange : a < 0x1D0000 ∧ a / 65536 ≠ 0x0F := by
    rcases h with h | rfl | rfl | rfl
    · omega
    · decide
    · decide
    · decide
  exact decide_eq_true hrange

theorem blockWrite_plainWord {a : Nat} (v : Word) (vpp : Bool) (h : PlainWord a) :
    blockWrite a v vpp s = plainWrite a v s := by
  rcases h with h | rfl | rfl | rfl
  · unfold blockWrite
    rw [h]
    rfl
  all_goals rfl

theorem writeWord_block {a : Nat} (v : Word) (vpp : Bool) (hiso : s.isolated a = false) (hslot : blockSlot a = true) :
    writeWord a v vpp s = blockWrite a v vpp s := by
  simp [writeWord, hiso, hslot]

/-- A word without STAGED bits is accepted where no HELD bit is refused and every field is in range. -/
theorem judge_ok {r : RegRow} {a : Nat} {v : Word} (hstaged : r.staged = 0)
    (hheld : ((s.rd a ^^^ v) &&& BitVec.ofNat 32 r.held) = 0 ∨ s.heldNow a = false) (hok : valueOk r a v s = true) :
    judge r a v s = stOk := by
  unfold judge
  rcases hheld with hheld | hheld <;> simp [hstaged, hheld, hok]

theorem plainWrite_ok {r : RegRow} {a : Nat} {v : Word} (hrow : rowOf a = some r) (hstaged : r.staged = 0)
    (hjudge : judge r a v s = stOk) : plainWrite a v s = (stOk, s.wr a (applyMasks r (s.rd a) v)) := by
  have h0 : judge r a v s = 0 := hjudge
  simp [plainWrite, hrow, h0, plainApply, hstaged]

/-- How a write of one word of a block slot that its port carries out ends. -/
theorem exec_registerWrite {p : Port} {a : Nat} (v : Word) (vpp : Bool) (hreach : Reach p a s) (halign : a % 4 = 0)
    (hslot : blockSlot a = true) :
    exec (.registerWrite p a v vpp) s =
      .next (finish (respond p (blockWrite a v vpp s).1 0 (blockWrite a v vpp s).2)) := by
  obtain ⟨hruns, hiso⟩ := hreach
  have hmod : a % 2 ^ 24 = a := Nat.mod_eq_of_lt (by have := blockSlot_lt hslot; omega)
  have hexec : exec (.registerWrite p a v vpp) s = execRegisterWrite p a v vpp s := rfl
  rw [hexec, execRegisterWrite, if_pos hruns, done_next _ (portRuns_live s hruns), hmod, acceptWrite,
    writeTransaction_word s a v vpp (refusedWhole_word halign hslot), writeWord_block s v vpp hiso hslot]

/-! ### Reads of plain words (R9, R10, R58, R111, R162) -/

/-- A read of a captured word uses the capture up. -/
def spendCapture (a : Nat) (s : State) : State :=
  if (kvGet (fun _ => none) s.caps a).isSome then s.setCap a none else s

/-- A read of a lower word captures its upper word. -/
def captureUpper (a : Nat) (s : State) : State :=
  match upperOf a s with
  | some h => s.setCap h (some (s.rd h))
  | none => s

theorem spendCapture_none {a : Nat} (h : kvGet (fun _ => none) s.caps a = none) : spendCapture a s = s := by
  simp [spendCapture, h]

theorem spendCapture_some {a : Nat} {w : Word} (h : kvGet (fun _ => none) s.caps a = some w) :
    spendCapture a s = s.setCap a none := by
  simp [spendCapture, h]

theorem captureUpper_none {a : Nat} (h : upperOf a s = none) : captureUpper a s = s := by
  simp [captureUpper, h]

theorem captureUpper_some {a u : Nat} (h : upperOf a s = some u) : captureUpper a s = s.setCap u (some (s.rd u)) := by
  simp [captureUpper, h]

theorem capped_none {a : Nat} (w : Word) (h : kvGet (fun _ => none) s.caps a = none) : s.capped a w = w := by
  simp [State.capped, h]

theorem capped_some {a : Nat} {c : Word} (w : Word) (h : kvGet (fun _ => none) s.caps a = some c) : s.capped a w = c := by
  simp [State.capped, h]

theorem readClears_rc {a : Nat} {r : RegRow} (v : Word) (hrow : rowOf a = some r) :
    readClears a v s = if r.rc = 0 then s else s.wr a (s.rd a &&& ~~~(v &&& BitVec.ofNat 32 r.rc)) := by
  simp [readClears, hrow]

theorem itemOf_lt {o base stride n k off : Nat} (h : itemOf o base stride n = some (k, off)) : k < n := by
  unfold itemOf at h
  split_ifs at h with hin
  cases h
  exact hin.2

/-- R111: what a read of a word with no effect of its own does. -/
theorem registerEffect_plainRead {a : Nat} (v : Word) (h : PlainRead a) :
    registerEffect a v s = readClears a v (captureUpper a (spendCapture a s)) := by
  obtain ⟨-, -, -, hsec, hwdg, hkflag, hflag⟩ := h
  unfold registerEffect
  rw [if_neg hsec, if_neg (fun hw => hwdg hw.1)]
  split
  · next n hn => exact absurd hn (hkflag n (itemOf_lt hn))
  · next n hn _ => exact absurd hn (hflag n (itemOf_lt hn))
  · rfl

theorem readWord_plainRead (p : Port) {a : Nat} {r : RegRow} (hiso : s.isolated a = false) (h : PlainRead a)
    (hrow : rowOf a = some r) : readWord p a false s = (stOk, s.capped a (viewWord a s)) := by
  obtain ⟨-, hslot, hotp, -⟩ := h
  simp [readWord, hiso, hotp, hslot, hrow]

theorem readEffect_plainRead {a : Nat} (v : Word) (hiso : s.isolated a = false) (h : PlainRead a) :
    readEffect a v false s = readClears a v (captureUpper a (spendCapture a s)) := by
  have heffect := registerEffect_plainRead s v h
  obtain ⟨-, hslot, hotp, -⟩ := h
  have hlt := blockSlot_lt hslot
  have hmram : mramWindow a = false := decide_eq_false (by omega)
  have hsram : sramWindow a = false := decide_eq_false (by omega)
  have hfetch : fetchEffect a false s = s := by simp [fetchEffect, hotp, hmram, hsram]
  have htake : takeEffect a v s = registerEffect a v s := if_pos ⟨.inl hslot, hotp⟩
  rw [readEffect, hfetch, htake, heffect]
  simp [hiso]

/-- How a read of one plain word that its port carries out ends. -/
theorem done_readOne_plainRead {p : Port} {a : Nat} {r : RegRow} (hreach : Reach p a s) (h : PlainRead a)
    (hrow : rowOf a = some r) :
    done s (readOne p a s) = .next (finish (respondRead p [s.capped a (viewWord a s)] stOk
      (readClears a (s.capped a (viewWord a s)) (captureUpper a (spendCapture a s))))) := by
  obtain ⟨hruns, hiso⟩ := hreach
  obtain ⟨halign, hslot, -⟩ := id h
  have hmod : a % 2 ^ 24 = a := Nat.mod_eq_of_lt (by have := blockSlot_lt hslot; omega)
  have hread := readTransaction_word s (refusedWhole_word halign hslot) (readWord_plainRead s p hiso h hrow)
  rw [done_next _ (portRuns_live s hruns), readOne, if_pos hruns, hmod, hread, readEffect_plainRead s _ hiso h]

theorem exec_rcRegisterRead (p : Port) (a : Nat) : exec (.rcRegisterRead p a) s = done s (readOne p a s) := rfl

theorem exec_loWordRead (p : Port) (a : Nat) : exec (.loWordRead p a) s = done s (readOne p a s) := rfl

/-- Settles O11: an accepted plain write leaves what its masks say; a plain read clears its RC bits, captures its upper
word, or uses a capture up. -/
theorem wordsReadAndWrite : Obligations.WordsReadAndWrite := by
  refine ⟨?write, ?rc, ?capture, ?captured⟩
  case write =>
    intro p a v r vpp s hplain halign hreach hrow hstaged hheld hok
    rw [exec_registerWrite s v vpp hreach halign (blockSlot_of_plainWord hplain), blockWrite_plainWord s v vpp hplain,
      plainWrite_ok s hrow hstaged (judge_ok s hstaged hheld hok)]
  case rc =>
    intro p a r s hreach hplain hrow hrc hupper hcap
    rw [exec_rcRegisterRead, done_readOne_plainRead s hreach hplain hrow, capped_none s _ hcap, spendCapture_none s hcap,
      captureUpper_none s hupper, readClears_rc s _ hrow, if_neg hrc]
  case capture =>
    intro p a u r s hreach hplain hrow hrc hupper hcap
    rw [exec_loWordRead, done_readOne_plainRead s hreach hplain hrow, capped_none s _ hcap, spendCapture_none s hcap,
      captureUpper_some s hupper, readClears_rc _ _ hrow, if_pos hrc]
  case captured =>
    intro p a w r s hreach hplain hrow hrc hupper hcap
    rw [exec_loWordRead, done_readOne_plainRead s hreach hplain hrow, capped_some s _ hcap, spendCapture_some s hcap,
      captureUpper_none _ hupper, readClears_rc _ _ hrow, if_pos hrc]

end Sys2Proof.Machine
end

section
/-!
PROOFS. Power states and profiles (R24 to R35, R147, R165, R166, R456): what the meter's and the clocks' bookkeeping leaves
of the fields that show a power state, and how WATCH and DORMANT are entered and left.
-/
namespace Sys2Proof.Machine

variable (s : State)

/-! ### Fields through a chain of updates -/

theorem fg_fs_of_lt (f : Fld) (v : Nat) (hf : f.lo + f.width ≤ 32) (hv : v < 2 ^ f.width) : (s.fs f v).fg f = v := by
  rw [fg_fs_same s f v hf, Nat.mod_eq_of_lt hv]

@[simp] theorem setPwr_fg (v : Pwr) (f : Fld) : (s.setPwr v).fg f = s.fg f := (rfl)
@[simp] theorem setIrq_fg (v : Irq) (f : Fld) : (s.setIrq v).fg f = s.fg f := (rfl)
@[simp] theorem setMtr_fg (v : Mtr) (f : Fld) : (s.setMtr v).fg f = s.fg f := (rfl)
@[simp] theorem setEst_fg (v : Est) (f : Fld) : (s.setEst v).fg f = s.fg f := (rfl)
@[simp] theorem setSct_fg (v : Sct) (f : Fld) : (s.setSct v).fg f = s.fg f := (rfl)
@[simp] theorem setWgl_fg (v : Wgl) (f : Fld) : (s.setWgl v).fg f = s.fg f := (rfl)
@[simp] theorem setClk_fg (v : Clk) (f : Fld) : (s.setClk v).fg f = s.fg f := (rfl)

@[simp] theorem setClk_rd (v : Clk) (a : Nat) : (s.setClk v).rd a = s.rd a := (rfl)

@[simp] theorem raise_fg (ev : Nat) (f : Fld) : (s.raise ev).fg f = s.fg f := fg_congr (State.raise_regs s ev) f

@[simp] theorem raise_irq_wake (ev : Nat) : (s.raise ev).irq.wake = s.irq.wake := by rw [State.raise_latch]

theorem powerState_eq_fg : s.powerState = s.fg Fld.SYS_PWR_STAT_STATE := rfl

/-! ### The meter's bookkeeping -/

/-- The fields that the meter's bookkeeping leaves alone: those of the block slots below the meter's, and the bits of
MTR_STAT that say which counters run. -/
def ModeFld (f : Fld) : Prop := f.addr < 0x100000 ∨ f ∈ [Fld.MTR_STAT_FULL, Fld.MTR_STAT_SLOW, Fld.MTR_STAT_HAND]

section
variable {s} {f : Fld}

theorem ModeFld.addr_le (h : ModeFld f) : f.addr ≤ Reg.MTR_STAT := by
  rcases h with h | h
  · unfold Reg.MTR_STAT; omega
  · simp only [List.mem_cons, List.not_mem_nil, or_false] at h
    rcases h with rfl | rfl | rfl <;> exact le_rfl

theorem ModeFld.fg_wr (h : ModeFld f) {a : Nat} (v : Word) (ha : Reg.MTR_STAT < a) : (s.wr a v).fg f = s.fg f :=
  fg_wr_other s a v f (lt_of_le_of_lt h.addr_le ha).ne

theorem ModeFld.fg_fs (h : ModeFld f) {g : Fld} (v : Nat) (hg : Reg.MTR_STAT < g.addr) : (s.fs g v).fg f = s.fg f :=
  fg_fs_addr s g f v (lt_of_le_of_lt h.addr_le hg).ne

/-- The snapshot flags are not mode bits (R162). -/
theorem ModeFld.fg_fs_snap (h : ModeFld f) (v : Nat) :
    (s.fs Fld.MTR_STAT_SNAPPEND v).fg f = s.fg f ∧ (s.fs Fld.MTR_STAT_SNAPRDY v).fg f = s.fg f := by
  rcases h with h | h
  · have hne : f.addr ≠ Reg.MTR_STAT := by unfold Reg.MTR_STAT; omega
    exact ⟨fg_fs_addr s _ f v hne, fg_fs_addr s _ f v hne⟩
  · simp only [List.mem_cons, List.not_mem_nil, or_false] at h
    rcases h with rfl | rfl | rfl <;>
      exact ⟨fg_fs_other s _ _ v (by decide) (by decide), fg_fs_other s _ _ v (by decide) (by decide)⟩

theorem ModeFld.fg_classUpdate (h : ModeFld f) : (classUpdate s).fg f = s.fg f := by
  refine (foldl_field (fun s : State => s.fg f) _ (fun _ _ => ?_) _ _).trans
    (foldl_field (fun s : State => s.fg f) _ (fun _ _ => ?_) _ _)
  · rfl
  · exact h.fg_wr _ (by decide)

theorem ModeFld.fg_snapshot (h : ModeFld f) : (snapshot s).fg f = s.fg f := by
  have hcopy : ∀ (a k : Nat), Reg.MTR_STAT < Reg.MTR_SET_SQIN_LO a + 4 * k := by
    intro a k; unfold Reg.MTR_STAT Reg.MTR_SET_SQIN_LO; omega
  unfold snapshot
  split
  · rfl
  · rw [(h.fg_fs_snap _).2, (h.fg_fs_snap _).1, h.fg_wr _ (by decide), h.fg_wr _ (by decide),
      foldl_field (fun s : State => s.fg f) _ (fun _ _ => foldl_field (fun s : State => s.fg f) _
        (fun _ _ => h.fg_wr _ (hcopy _ _)) _ _)]

theorem ModeFld.fg_calState (h : ModeFld f) (n v : Nat) : (s.fs (Fld.MTR_CH_CAL_STATE n) v).fg f = s.fg f :=
  h.fg_fs v (by simp only [Fld.MTR_CH_CAL_STATE, Reg.MTR_STAT]; omega)

theorem ModeFld.fg_calStates (h : ModeFld f) (l : List Nat) (v : Nat) :
    (l.foldl (fun s n => s.fs (Fld.MTR_CH_CAL_STATE n) v) s).fg f = s.fg f :=
  foldl_field (fun s : State => s.fg f) _ (fun _ n => h.fg_calState n v) l s

theorem ModeFld.fg_enterHold (h : ModeFld f) (n : Nat) : (enterHold n s).fg f = s.fg f := by
  have hflag : Reg.MTR_STAT < (Fld.MTR_CH_FLAG_CALLOST n).addr := by
    simp only [Fld.MTR_CH_FLAG_CALLOST, Reg.MTR_STAT]; omega
  unfold enterHold
  split
  · rfl
  · rw [h.fg_fs _ hflag, h.fg_calState]
    split
    · rfl
    · exact raise_fg s 137 f

theorem ModeFld.fg_calResume (h : ModeFld f) : (calResume s).fg f = s.fg f := by
  refine foldl_field (fun s : State => s.fg f) _ (fun b n => ?_) _ s
  split
  · exact h.fg_enterHold n
  · exact h.fg_calState n _

end

@[simp] theorem classUpdate_pwr : (classUpdate s).pwr = s.pwr := by
  refine (foldl_field State.pwr _ (fun _ _ => ?_) _ _).trans (foldl_field State.pwr _ (fun _ _ => ?_) _ _) <;> rfl

@[simp] theorem classUpdate_irq : (classUpdate s).irq = s.irq := by
  refine (foldl_field State.irq _ (fun _ _ => ?_) _ _).trans (foldl_field State.irq _ (fun _ _ => ?_) _ _) <;> rfl

@[simp] theorem snapshot_pwr : (snapshot s).pwr = s.pwr := by
  unfold snapshot
  split
  · rfl
  · simp only [State.fs_pwr, State.wr_pwr]
    exact foldl_field State.pwr _ (fun _ _ => foldl_field State.pwr _ (fun _ _ => State.wr_pwr _ _ _) _ _) _ _

@[simp] theorem snapshot_irq : (snapshot s).irq = s.irq := by
  unfold snapshot
  split
  · rfl
  · simp only [State.fs_irq, State.wr_irq]
    exact foldl_field State.irq _ (fun _ _ => foldl_field State.irq _ (fun _ _ => State.wr_irq _ _ _) _ _) _ _

/-- R154: a channel's HOLD may raise CALLOST, and touches neither the power state nor a wake condition. -/
theorem enterHold_pwr_wake (n : Nat) : (enterHold n s).pwr = s.pwr ∧ (enterHold n s).irq.wake = s.irq.wake := by
  unfold enterHold
  split
  · exact ⟨rfl, rfl⟩
  · simp only [State.fs_pwr, State.fs_irq]
    split
    · exact ⟨rfl, rfl⟩
    · exact ⟨State.raise_pwr s 137, raise_irq_wake s 137⟩

@[simp] theorem calResume_pwr : (calResume s).pwr = s.pwr := by
  refine foldl_field State.pwr _ (fun b n => ?_) _ s
  split
  · exact (enterHold_pwr_wake b n).1
  · rfl

@[simp] theorem calResume_irq_wake : (calResume s).irq.wake = s.irq.wake := by
  refine foldl_field (fun s : State => s.irq.wake) _ (fun b n => ?_) _ s
  split
  · exact (enterHold_pwr_wake b n).2
  · rfl

/-! ### The meter starts and hands over (R165, R166) -/

theorem fullResume_fg {f : Fld} (h : f.addr < 0x100000) : (fullResume s).fg f = s.fg f := by
  have hmode : ModeFld f := .inl h
  have hne : f.addr ≠ Reg.MTR_STAT := by unfold Reg.MTR_STAT; omega
  unfold fullResume
  rw [hmode.fg_snapshot, hmode.fg_classUpdate, setMtr_fg, fg_fs_addr _ _ _ _ hne, hmode.fg_calResume,
    fg_fs_addr _ _ _ _ hne, fg_fs_addr _ _ _ _ hne, fg_fs_addr _ _ _ _ hne, setSct_fg]

theorem fullResume_counters :
    (fullResume s).fg Fld.MTR_STAT_FULL = 1 ∧ (fullResume s).fg Fld.MTR_STAT_SLOW = 0 := by
  have hfull : ModeFld Fld.MTR_STAT_FULL := by simp [ModeFld]
  have hslow : ModeFld Fld.MTR_STAT_SLOW := by simp [ModeFld]
  unfold fullResume
  constructor
  · rw [hfull.fg_snapshot, hfull.fg_classUpdate, setMtr_fg, fg_fs_other _ _ _ _ (by decide) (by decide),
      hfull.fg_calResume]
    simp (disch := decide) only [fg_fs_other, fg_fs_of_lt]
  · rw [hslow.fg_snapshot, hslow.fg_classUpdate, setMtr_fg, fg_fs_other _ _ _ _ (by decide) (by decide),
      hslow.fg_calResume]
    simp (disch := decide) only [fg_fs_other, fg_fs_of_lt]

@[simp] theorem fullResume_pwr : (fullResume s).pwr = s.pwr := by simp [fullResume]

@[simp] theorem fullResume_irq_wake : (fullResume s).irq.wake = s.irq.wake := by simp [fullResume]

theorem slowHandover_counters :
    (slowHandover s).fg Fld.MTR_STAT_FULL = 0 ∧ (slowHandover s).fg Fld.MTR_STAT_HAND = 0 := by
  have hfull : ModeFld Fld.MTR_STAT_FULL := by simp [ModeFld]
  have hhand : ModeFld Fld.MTR_STAT_HAND := by simp [ModeFld]
  unfold slowHandover
  constructor
  · rw [hfull.fg_classUpdate, hfull.fg_calStates, setMtr_fg, hfull.fg_snapshot]
    simp (disch := decide) only [fg_fs_other, fg_fs_of_lt]
  · rw [hhand.fg_classUpdate, hhand.fg_calStates, setMtr_fg, hhand.fg_snapshot]
    simp (disch := decide) only [fg_fs_other, fg_fs_of_lt]

/-! ### The clocks (R456) -/

theorem clocksStart_rd {a : Nat} (h : a ≠ Reg.CLK_STAT) : (clocksStart s).rd a = s.rd a := by
  unfold clocksStart
  rw [setClk_rd, rd_fs_other _ _ _ _ h, rd_fs_other _ _ _ _ h, rd_fs_other _ _ _ _ h, rd_fs_other _ _ _ _ h,
    rd_fs_other _ _ _ _ h]

theorem clocksStart_fg {f : Fld} (h : f.addr ≠ Reg.CLK_STAT) : (clocksStart s).fg f = s.fg f := by
  unfold State.fg
  rw [clocksStart_rd s h]

theorem clocksStart_clocks : (clocksStart s).fg Fld.CLK_STAT_HFRC_ON = 1 ∧
    (clocksStart s).fg Fld.CLK_STAT_PLL_LOCK = 1 ∧ (clocksStart s).fg Fld.CLK_STAT_SYSCLK = 1 := by
  unfold clocksStart
  simp (disch := decide) only [setClk_fg, fg_fs_other, fg_fs_of_lt, and_self]

theorem clocksStop_fg (watch : Bool) {f : Fld} (h : f.addr ≠ Reg.CLK_STAT) : (clocksStop watch s).fg f = s.fg f := by
  unfold clocksStop
  rw [setClk_fg, fg_fs_addr _ _ _ _ h, fg_fs_addr _ _ _ _ h, fg_fs_addr _ _ _ _ h, fg_fs_addr _ _ _ _ h,
    fg_fs_addr _ _ _ _ h, fg_fs_addr _ _ _ _ h]

theorem clocksStop_clocks (watch : Bool) : (clocksStop watch s).fg Fld.CLK_STAT_HFXO_ON = 0 ∧
    (clocksStop watch s).fg Fld.CLK_STAT_PLL_LOCK = 0 ∧ (clocksStop watch s).fg Fld.CLK_STAT_SYSCLK = 0 := by
  unfold clocksStop
  simp (disch := decide) only [setClk_fg, fg_fs_other, fg_fs_of_lt, and_self]

/-- Outside WATCH no watchdog keeps HFRC on. -/
theorem clocksStop_hfrc : (clocksStop false s).fg Fld.CLK_STAT_HFRC_ON = 0 := by
  unfold clocksStop
  simp (disch := decide) only [setClk_fg, fg_fs_other, fg_fs_of_lt, Bool.false_and]
  rfl

/-! ### ACLK, captures, presence, the link and the watchdogs -/

theorem creditTime_regs (u : Nat) : (creditTime u s).regs = s.regs := by
  unfold creditTime
  extract_lets t
  have hclass : t.regs = s.regs := foldl_field State.regs _ (fun b n => by split <;> rfl) _ _
  split
  · exact hclass
  · refine (foldl_field State.regs _ (fun b c => ?_) _ _).trans hclass
    split <;> rfl

@[simp] theorem aclkTo_regs (sub : Nat) : (aclkTo sub s).regs = s.regs := by
  unfold aclkTo
  split
  · rfl
  · exact creditTime_regs _ _

@[simp] theorem aclkTo_fg (sub : Nat) (f : Fld) : (aclkTo sub s).fg f = s.fg f := fg_congr (aclkTo_regs s sub) f

theorem captureEnd_regs : (captureEnd s).regs = s.regs := by
  unfold captureEnd
  split
  · split <;> rfl
  · rfl

@[simp] theorem captureEnd_fg (f : Fld) : (captureEnd s).fg f = s.fg f := fg_congr (captureEnd_regs s) f

@[simp] theorem presenceRestart_fg (f : Fld) : (presenceRestart s).fg f = s.fg f := by
  refine foldl_field (fun s : State => s.fg f) _ (fun _ _ => ?_) _ _
  rfl

theorem rejoin_fg {f : Fld} (h : f.addr ≠ 0x0E0004) : (rejoin s).fg f = s.fg f := by
  unfold rejoin
  split
  · rfl
  · rw [setWgl_fg, fg_fs_addr _ _ _ _ h]

@[simp] theorem rejoin_pwr : (rejoin s).pwr = s.pwr := by unfold rejoin; split <;> rfl

@[simp] theorem rejoin_irq : (rejoin s).irq = s.irq := by unfold rejoin; split <;> rfl

@[simp] theorem wdOpen_pwr (w : Nat) : (wdOpen w s).pwr = s.pwr := by
  unfold wdOpen
  split_ifs
  · rfl
  · exact State.raise_pwr _ 107
  · rfl

theorem wdOpen_fg (w : Nat) {f : Fld} (h : f.addr ≠ (wdOpenFld w).addr) : (wdOpen w s).fg f = s.fg f := by
  unfold wdOpen
  split_ifs
  · rfl
  · rw [raise_fg, fg_fs_addr _ _ _ _ h]
  · rw [fg_fs_addr _ _ _ _ h]

theorem wdStart_fg (w t : Nat) {f : Fld} (h : f.addr ≠ (wdOpenFld w).addr) : (wdStart w t s).fg f = s.fg f := by
  unfold wdStart
  extract_lets u
  have hrestart : u.fg f = s.fg f := fg_fs_addr s _ f 0 h
  split_ifs
  · rw [wdOpen_fg _ _ h, hrestart]
  · exact hrestart

@[simp] theorem wdStart_pwr (w t : Nat) : (wdStart w t s).pwr = s.pwr := by
  unfold wdStart
  extract_lets u
  split_ifs
  · exact wdOpen_pwr u w
  · rfl

/-! ### WATCH is entered and left (R26, R27, R165, R166) -/

theorem exec_watchEntry (slow : List Int) (sub : Nat) : exec (.watchEntry slow sub) s = done s (watchEntry slow sub s) := rfl

theorem exec_watchWake (dq : List Int) (current : Bool) (sub : Nat) :
    exec (.watchWake dq current sub) s = done s (watchWake dq current sub s) := rfl

theorem exec_wakeTimer : exec .wakeTimer s = done s (wakeTimer s) := rfl

/-- The end of the overlap: the slow counter takes over and the clocks stop. -/
def watchHandover (slow : List Int) (s : State) : State :=
  presenceRestart (captureEnd (clocksStop true (slowHandover (slowMatch slow s))))

/-- The power state reads WATCH, and no wake condition is left. -/
def watchArrive (slow : List Int) (s : State) : State :=
  let s := classUpdate (((watchHandover slow s).fs Fld.SYS_PWR_STAT_STATE 1).fs Fld.SYS_PWR_STAT_TRANS 0)
  (s.setPwr { s.pwr with wake := false }).setIrq { s.irq with wake := false }

/-- The wake from WATCH up to the fault actions that waited. -/
def watchResume (dq : List Int) (sub : Nat) (s : State) : State :=
  let s := aclkTo sub s
  let s := s.strings.foldl (fun s n => slowIncrement n (dq.getD n 0) false s) s
  let s := clocksStart (s.fs Fld.SYS_PWR_STAT_STATE 2)
  let s := ((s.setPwr { s.pwr with wake := false }).setIrq { s.irq with wake := false }).setEst
    { s.est with burst := false, burstDue := false }
  rejoin (fullResume s)

variable {s}

theorem watchEntry_begins (slow : List Int) {sub : Nat} (hready : (aclkTo sub s).watchReady = true)
    (htrans : (aclkTo sub s).fb Fld.SYS_PWR_STAT_TRANS = false) :
    watchEntry slow sub s = dozeBegin (slowStart ((aclkTo sub s).fs Fld.SYS_PWR_STAT_TRANS 1)) := by
  simp [watchEntry, hready, htrans]

theorem watchEntry_arrives (slow : List Int) {sub : Nat} (hready : (aclkTo sub s).watchReady = true)
    (htrans : (aclkTo sub s).fb Fld.SYS_PWR_STAT_TRANS = true) (hdozed : (aclkTo sub s).dozed = true) :
    watchEntry slow sub s = watchArrive slow (aclkTo sub s) := by
  simp [watchEntry, hready, htrans, hdozed, watchArrive, watchHandover]

theorem watchWake_resumes (dq : List Int) {current : Bool} (sub : Nat) (hstate : s.powerState = 1)
    (hwake : s.pwr.wake = true ∨ s.irq.wake = true ∨ current = true) :
    watchWake dq current sub s = runWaiting (watchResume dq sub s) := by
  have hcond : (s.pwr.wake || s.irq.wake || current) = true := by simpa [or_assoc] using hwake
  simp [watchWake, hstate, hcond, watchResume]

variable (s)

theorem watchArrive_fg (slow : List Int) {f : Fld} (h : ModeFld f) : (watchArrive slow s).fg f =
    (((watchHandover slow s).fs Fld.SYS_PWR_STAT_STATE 1).fs Fld.SYS_PWR_STAT_TRANS 0).fg f := by
  unfold watchArrive
  rw [setIrq_fg, setPwr_fg, h.fg_classUpdate]

theorem watchArrive_powerState (slow : List Int) : (watchArrive slow s).powerState = 1 ∧
    (watchArrive slow s).fg Fld.SYS_PWR_STAT_TRANS = 0 := by
  rw [powerState_eq_fg, watchArrive_fg _ _ (.inl (by decide)), watchArrive_fg _ _ (.inl (by decide))]
  simp (disch := decide) only [fg_fs_other, fg_fs_of_lt, and_self]

theorem watchArrive_counters (slow : List Int) : (watchArrive slow s).fg Fld.MTR_STAT_FULL = 0 ∧
    (watchArrive slow s).fg Fld.MTR_STAT_HAND = 0 := by
  rw [watchArrive_fg _ _ (by simp [ModeFld]), watchArrive_fg _ _ (by simp [ModeFld])]
  simp (disch := decide) only [fg_fs_addr, watchHandover, presenceRestart_fg, captureEnd_fg, clocksStop_fg,
    slowHandover_counters, and_self]

theorem watchArrive_clocks (slow : List Int) : (watchArrive slow s).fg Fld.CLK_STAT_HFXO_ON = 0 ∧
    (watchArrive slow s).fg Fld.CLK_STAT_PLL_LOCK = 0 ∧ (watchArrive slow s).fg Fld.CLK_STAT_SYSCLK = 0 := by
  rw [watchArrive_fg _ _ (.inl (by decide)), watchArrive_fg _ _ (.inl (by decide)), watchArrive_fg _ _ (.inl (by decide))]
  simp (disch := decide) only [fg_fs_addr, watchHandover, presenceRestart_fg, captureEnd_fg, clocksStop_clocks, and_self]

theorem watchResume_powerState (dq : List Int) (sub : Nat) : (watchResume dq sub s).powerState = 2 := by
  unfold watchResume
  simp (disch := decide) only [powerState_eq_fg, rejoin_fg, fullResume_fg, setEst_fg, setIrq_fg, setPwr_fg,
    clocksStart_fg, fg_fs_of_lt]

theorem watchResume_wakes (dq : List Int) (sub : Nat) : (watchResume dq sub s).pwr.wake = false ∧
    (watchResume dq sub s).irq.wake = false := by
  simp [watchResume]

theorem watchResume_clocks (dq : List Int) (sub : Nat) : (watchResume dq sub s).fg Fld.CLK_STAT_HFRC_ON = 1 ∧
    (watchResume dq sub s).fg Fld.CLK_STAT_PLL_LOCK = 1 ∧ (watchResume dq sub s).fg Fld.CLK_STAT_SYSCLK = 1 := by
  unfold watchResume
  simp (disch := decide) only [rejoin_fg, fullResume_fg, setEst_fg, setIrq_fg, setPwr_fg, clocksStart_clocks, and_self]

theorem watchResume_counters (dq : List Int) (sub : Nat) : (watchResume dq sub s).fg Fld.MTR_STAT_FULL = 1 ∧
    (watchResume dq sub s).fg Fld.MTR_STAT_SLOW = 0 := by
  unfold watchResume
  simp (disch := decide) only [rejoin_fg, fullResume_counters, and_self]

/-! ### Groups that stop and contactors that open (R284, R379) -/

theorem setMode_pwr (g m : Nat) : (s.setMode g m).pwr = s.pwr := by
  unfold State.setMode
  extract_lets t u
  split <;> rfl

theorem flowExit_pwr : s.flowExit.pwr = s.pwr := by
  unfold State.flowExit
  split <;> rfl

theorem pubSet_pwr (i : Nat) (v : Int) : (s.pubSet i v).pwr = s.pwr := (rfl)

theorem setGrp_pwr (g : Nat) (v : Grp) : (s.setGrp g v).pwr = s.pwr := (rfl)

theorem groupHardStop_pwr (g : Nat) : (groupHardStop g s).pwr = s.pwr := by
  unfold groupHardStop
  simp only [flowExit_pwr, State.fs_pwr, pubSet_pwr, setGrp_pwr, setMode_pwr]
  split <;> rfl

theorem groupHardStopIf_pwr (g : Nat) : (groupHardStopIf g s).pwr = s.pwr := by
  unfold groupHardStopIf
  split
  · rfl
  · exact groupHardStop_pwr s g

theorem stopStringGroup_pwr (n : Nat) : (stopStringGroup n s).pwr = s.pwr := by
  refine (foldl_field State.pwr _ (fun b g => groupHardStopIf_pwr b g) _ _).trans ?_
  split
  · exact groupHardStopIf_pwr s _
  · rfl

@[simp] theorem allContactorsOpen_pwr : (allContactorsOpen s).pwr = s.pwr := by
  refine foldl_field State.pwr _ (fun b n => ?_) _ s
  unfold contactorOpen
  split
  · rw [stopStringGroup_pwr, State.fs_pwr]
    rfl
  · rfl

/-! ### DORMANT is entered and left (R29, R30) -/

theorem exec_dormantEntry (sub : Nat) : exec (.dormantEntry sub) s = done s (dormantEntry sub s) := rfl

theorem exec_dormantWake (sub : Nat) : exec (.dormantWake sub) s = done s (dormantWake sub s) := rfl

/-- The wake from DORMANT up to the fault actions that waited. -/
def dormantResume (sub : Nat) (s : State) : State :=
  let s := aclkTo sub s
  let s := if s.fg Fld.SYS_PWR_REQ_REQ = 2 then s.fs Fld.SYS_PWR_REQ_REQ 0 else s
  let s := clocksStart (s.fs Fld.SYS_PWR_STAT_STATE 2)
  let due := s.pwr.downRan && s.fb Fld.SEQ_CFG_AUTOUP
  let s := fullResume (s.setPwr { s.pwr with wake := false, upDue := s.pwr.upDue || due, downRan := false })
  rejoin ([0, 1, 2].foldl (fun s w => wdStart w s.aclk s) s)

/-- R29: DORMANT is requested and its conditions hold, so that a step of the entry is taken. -/
def TakesDormantStep (s : State) : Prop :=
  s.powerState = 2 ∧ s.fg Fld.SYS_PWR_REQ_REQ = 2 ∧ s.image.isSome = true ∧ s.loading = false ∧ s.dormantReady = true

section
variable {s} {sub : Nat} (hready : TakesDormantStep (aclkTo sub s))
include hready

theorem dormantEntry_learns (hdorm : (aclkTo sub s).pwr.dorm = 0) : dormantEntry sub s =
    (nvNow (dozeBegin ((aclkTo sub s).fs Fld.SYS_PWR_STAT_TRANS 1))).setPwr
      { (nvNow (dozeBegin ((aclkTo sub s).fs Fld.SYS_PWR_STAT_TRANS 1))).pwr with dorm := 1, downRan := false } := by
  obtain ⟨hstate, hreq, himage, hload, hcond⟩ := hready
  simp [dormantEntry, hstate, hreq, Option.isNone_eq_false_iff.2 himage, hload, hcond, hdorm]

theorem dormantEntry_writing (hdorm : (aclkTo sub s).pwr.dorm = 1)
    (hwrite : (aclkTo sub s).fb Fld.EST_NV_WRITING = true) : dormantEntry sub s = aclkTo sub s := by
  obtain ⟨hstate, hreq, himage, hload, hcond⟩ := hready
  simp [dormantEntry, hstate, hreq, Option.isNone_eq_false_iff.2 himage, hload, hcond, hdorm, hwrite]

theorem dormantEntry_opens (hdorm : (aclkTo sub s).pwr.dorm = 1)
    (hwrite : (aclkTo sub s).fb Fld.EST_NV_WRITING = false) : dormantEntry sub s =
      (allContactorsOpen (aclkTo sub s)).setPwr { (allContactorsOpen (aclkTo sub s)).pwr with dorm := 2 } := by
  obtain ⟨hstate, hreq, himage, hload, hcond⟩ := hready
  rw [allContactorsOpen_pwr]
  simp [dormantEntry, hstate, hreq, Option.isNone_eq_false_iff.2 himage, hload, hcond, hdorm, hwrite]

theorem dormantEntry_opening (hdorm : (aclkTo sub s).pwr.dorm = 2) (hbusy : (aclkTo sub s).contactorBusy = true) :
    dormantEntry sub s = aclkTo sub s := by
  obtain ⟨hstate, hreq, himage, hload, hcond⟩ := hready
  simp [dormantEntry, hstate, hreq, Option.isNone_eq_false_iff.2 himage, hload, hcond, hdorm, hbusy]

theorem dormantEntry_arrives (hdorm : (aclkTo sub s).pwr.dorm = 2) (hbusy : (aclkTo sub s).contactorBusy = false)
    (hpers : (aclkTo sub s).fb Fld.EST_CFG_PERS = false) (hclosing : (aclkTo sub s).fb Fld.LDG_STAT_CLOSING = false)
    (hwrite : (aclkTo sub s).fb Fld.EST_NV_WRITING = false) (hdozed : (aclkTo sub s).dozed = true) :
    dormantEntry sub s = dormantEnter (aclkTo sub s) := by
  obtain ⟨hstate, hreq, himage, hload, hcond⟩ := hready
  have hstored : (aclkTo sub s).estStored = false := by simp [State.estStored, hpers]
  simp [dormantEntry, hstate, hreq, Option.isNone_eq_false_iff.2 himage, hload, hcond, hdorm, hbusy, hstored,
    dormantLast, hclosing, hwrite, hdozed]

end

theorem dormantWake_resumes {s : State} (sub : Nat) (hstate : s.powerState = 0) (hwake : s.pwr.wake = true) :
    dormantWake sub s = runWaiting (dormantResume sub s) := by
  simp [dormantWake, hstate, hwake, dormantResume]

/-- The last ledger close, then the meter and the clocks stop. -/
def dormantStop (s : State) : State :=
  let s := captureEnd (ledgerClose true false s)
  let s := (((s.fs Fld.MTR_STAT_FULL 0).fs Fld.MTR_STAT_SLOW 0).fs Fld.MTR_STAT_HAND 0).fs Fld.MTR_STAT_TB 0
  let s := (List.range 20).foldl (fun s n => s.fs (Fld.MTR_CH_CAL_STATE n) calOff) s
  clocksStop false ((s.fs Fld.SCT_STAT_CONF 0).fs Fld.SYS_PWR_STAT_TRANS 0)

theorem dormantEnter_fg {f : Fld} (h : ModeFld f) :
    (dormantEnter s).fg f = ((dormantStop s).fs Fld.SYS_PWR_STAT_STATE 0).fg f := by
  unfold dormantEnter
  rw [h.fg_classUpdate, setIrq_fg, setPwr_fg]
  rfl

theorem dormantEnter_wake : (dormantEnter s).pwr.wake = false := by
  unfold dormantEnter
  rw [classUpdate_pwr, setIrq_pwr, setPwr_pwr]

theorem dormantEnter_powerState :
    (dormantEnter s).powerState = 0 ∧ (dormantEnter s).fg Fld.SYS_PWR_STAT_TRANS = 0 := by
  rw [powerState_eq_fg, dormantEnter_fg _ (.inl (by decide)), dormantEnter_fg _ (.inl (by decide))]
  simp (disch := decide) only [dormantStop, clocksStop_fg, fg_fs_other, fg_fs_of_lt, and_self]

theorem dormantEnter_clocks : (dormantEnter s).fg Fld.CLK_STAT_HFRC_ON = 0 ∧
    (dormantEnter s).fg Fld.CLK_STAT_HFXO_ON = 0 ∧ (dormantEnter s).fg Fld.CLK_STAT_SYSCLK = 0 := by
  rw [dormantEnter_fg _ (.inl (by decide)), dormantEnter_fg _ (.inl (by decide)), dormantEnter_fg _ (.inl (by decide))]
  simp (disch := decide) only [dormantStop, fg_fs_addr, clocksStop_clocks, clocksStop_hfrc, and_self]

theorem dormantEnter_counters :
    (dormantEnter s).fg Fld.MTR_STAT_FULL = 0 ∧ (dormantEnter s).fg Fld.MTR_STAT_SLOW = 0 := by
  have hfull : ModeFld Fld.MTR_STAT_FULL := by simp [ModeFld]
  have hslow : ModeFld Fld.MTR_STAT_SLOW := by simp [ModeFld]
  rw [dormantEnter_fg _ hfull, dormantEnter_fg _ hslow]
  simp (disch := decide) only [dormantStop, clocksStop_fg, hfull.fg_calStates, hslow.fg_calStates, fg_fs_other,
    fg_fs_of_lt, and_self]

theorem dormantResume_powerState (sub : Nat) : (dormantResume sub s).powerState = 2 := by
  simp (disch := decide) only [dormantResume, powerState_eq_fg, List.foldl_cons, List.foldl_nil, rejoin_fg, wdStart_fg,
    fullResume_fg, setPwr_fg, clocksStart_fg, fg_fs_of_lt]

theorem dormantResume_wake (sub : Nat) : (dormantResume sub s).pwr.wake = false := by
  simp only [dormantResume, List.foldl_cons, List.foldl_nil, rejoin_pwr, wdStart_pwr, fullResume_pwr, setPwr_pwr]

/-- R30: a request for DORMANT ends with the wake. -/
theorem dormantResume_request (sub : Nat) (hreq : s.fg Fld.SYS_PWR_REQ_REQ = 2) :
    (dormantResume sub s).fg Fld.SYS_PWR_REQ_REQ = 0 := by
  simp (disch := decide) only [dormantResume, List.foldl_cons, List.foldl_nil, rejoin_fg, wdStart_fg, fullResume_fg,
    setPwr_fg, clocksStart_fg, fg_fs_addr, aclkTo_fg, hreq, if_true, fg_fs_of_lt]

theorem dormantResume_running (sub : Nat) : (dormantResume sub s).fg Fld.CLK_STAT_SYSCLK = 1 ∧
    (dormantResume sub s).fg Fld.MTR_STAT_FULL = 1 := by
  simp (disch := decide) only [dormantResume, List.foldl_cons, List.foldl_nil, rejoin_fg, wdStart_fg, fullResume_fg,
    fullResume_counters, setPwr_fg, clocksStart_clocks, and_self]

/-- Settles O20, through what each step into and out of WATCH and DORMANT leaves in the status fields. -/
theorem lowPowerEntersAndWakes : Obligations.LowPowerEntersAndWakes := by
  refine ⟨⟨?begin, ?arrive, ?wake, ?timer⟩, ?dormant, ?dormantWake⟩
  case begin =>
    intro slow sub s hlive hready htrans
    rw [exec_watchEntry, done_next _ hlive, watchEntry_begins slow hready htrans]
  case arrive =>
    intro slow sub s hlive hready htrans hdozed
    obtain ⟨hstate, htrans'⟩ := watchArrive_powerState (aclkTo sub s) slow
    obtain ⟨hfull, hhand⟩ := watchArrive_counters (aclkTo sub s) slow
    rw [exec_watchEntry, done_next _ hlive, watchEntry_arrives slow hready htrans hdozed]
    exact ⟨_, rfl, hstate, htrans', hfull, hhand, watchArrive_clocks (aclkTo sub s) slow⟩
  case wake =>
    intro dq current sub s hlive hstate hwake
    obtain ⟨hpwr, hirq⟩ := watchResume_wakes s dq sub
    obtain ⟨hhfrc, hpll, hsys⟩ := watchResume_clocks s dq sub
    rw [exec_watchWake, done_next _ hlive, watchWake_resumes dq sub hstate hwake]
    exact ⟨_, rfl, watchResume_powerState s dq sub, hpwr, hirq, hhfrc, hpll, hsys, watchResume_counters s dq sub⟩
  case timer =>
    intro s hlive hlead
    rw [exec_wakeTimer, done_next _ hlive, wakeTimer, if_pos hlead]
  case dormant =>
    intro sub s hlive v hstate hreq himage hload hcond
    have hready : TakesDormantStep (aclkTo sub s) := ⟨hstate, hreq, himage, hload, hcond⟩
    rw [exec_dormantEntry, done_next _ hlive]
    refine ⟨?learn, ?writing, ?opens, ?opening, ?arrive⟩
    case learn =>
      intro hdorm
      rw [dormantEntry_learns hready hdorm]
    case writing =>
      intro hdorm hwrite
      rw [dormantEntry_writing hready hdorm hwrite]
    case opens =>
      intro hdorm hwrite
      rw [dormantEntry_opens hready hdorm hwrite]
    case opening =>
      intro hdorm hbusy
      rw [dormantEntry_opening hready hdorm hbusy]
    case arrive =>
      intro hdorm hbusy hpers hclosing hwrite hdozed
      obtain ⟨hzero, htrans⟩ := dormantEnter_powerState (aclkTo sub s)
      obtain ⟨hhfrc, hhfxo, hsys⟩ := dormantEnter_clocks (aclkTo sub s)
      obtain ⟨hfull, hslow⟩ := dormantEnter_counters (aclkTo sub s)
      rw [dormantEntry_arrives hready hdorm hbusy hpers hclosing hwrite hdozed]
      exact ⟨_, rfl, hzero, htrans, hhfrc, hhfxo, hsys, hfull, hslow, dormantEnter_wake (aclkTo sub s)⟩
  case dormantWake =>
    intro sub s hlive hstate hwake
    obtain ⟨hsys, hfull⟩ := dormantResume_running s sub
    rw [exec_dormantWake, done_next _ hlive, dormantWake_resumes sub hstate hwake]
    exact ⟨_, rfl, dormantResume_powerState s sub, dormantResume_wake s sub, dormantResume_request s sub, hsys, hfull⟩

/-! ### A pending output rate (R147) -/

theorem exec_rateSwitch : exec .rateSwitch s = done s (rateSwitch s) := rfl

/-- The switch of the output rate also drops the results of the old rate that no ring frame has taken yet (R148). -/
theorem rateSwitch_pending {r : Nat} (h : s.mtr.newRate = some r) :
    rateSwitch s = (s.fs Fld.MTR_STAT_RATE r).setMtr { s.mtr with newRate := none, feed := [] } := by
  simp [rateSwitch, h]

/-- Refutes O19: its last clause keeps `mtr.feed` at a switch of the output rate, which empties it. After reset, with the
rate of profile 1 pending and one strobe's result of 7 in the feed, the command ends with no result in the feed. -/
theorem not_powerRequests : ¬ Obligations.PowerRequests := by
  unfold Obligations.PowerRequests
  rintro ⟨-, -, hswitch⟩
  have hclaim := hswitch 2 (State.reset.setMtr { State.reset.mtr with newRate := some 2, feed := [[7]] }) rfl rfl
  rw [exec_rateSwitch, done_next _ rfl, rateSwitch_pending (r := 2) _ rfl] at hclaim
  have hfeed := congrArg (fun t : State => t.mtr.feed) (Host.Outcome.next.inj hclaim)
  rw [finish_quiet _ rfl, finish_quiet _ rfl, settle_mtr, settle_mtr] at hfeed
  exact absurd hfeed (by decide)

end Sys2Proof.Machine
end

section
/-!
PROOFS. Resets, supplies and the boot (R37, R434, R503, R507, R509, R525, R534, R536, R550): what a release installs, what
each kind of reset keeps, and which bank the boot ROM runs.
-/
namespace Sys2Proof.Machine

variable (s : State)

/-! ### What a release installs (R37, R507, R509, R550) -/

theorem exec_resetRelease (compat imgSel : Bool) :
    exec (.resetRelease compat imgSel) s = .next (finish (resetRelease compat imgSel s)) := rfl

@[simp] theorem wr_otpWord (a w : Nat) (v : Word) : (s.wr a v).otpWord w = s.otpWord w := (rfl)
@[simp] theorem fs_otpWord (f : Fld) (v w : Nat) : (s.fs f v).otpWord w = s.otpWord w := (rfl)

/-- R507: the trimmed gains of the first `k` channels are installed. -/
def gainInstall (k : Nat) (s : State) : State :=
  (List.range k).foldl (fun s n => s.wr (Reg.MTR_CH_GAIN n) (s.otpWord (0x020 + n))) s

theorem gainInstall_succ (k : Nat) : gainInstall (k + 1) s =
    (gainInstall k s).wr (Reg.MTR_CH_GAIN k) ((gainInstall k s).otpWord (0x020 + k)) := by
  simp [gainInstall, List.range_succ]

theorem gainInstall_otpWord (k w : Nat) : (gainInstall k s).otpWord w = s.otpWord w :=
  foldl_field (fun s : State => s.otpWord w) _ (fun b _ => wr_otpWord b _ w _) _ s

theorem gainInstall_rst (k : Nat) : (gainInstall k s).rst = s.rst :=
  foldl_field State.rst _ (fun b _ => State.wr_rst b _ _) _ s

theorem gainInstall_thm (k : Nat) : (gainInstall k s).thm = s.thm :=
  foldl_field State.thm _ (fun b _ => State.wr_thm b _ _) _ s

theorem gainInstall_rd_other (k : Nat) {a : Nat} (h : a < Reg.MTR_CH_GAIN 0) : (gainInstall k s).rd a = s.rd a := by
  refine foldl_field (fun s : State => s.rd a) _ (fun b n => rd_wr_other b _ a _ ?_) _ s
  unfold Reg.MTR_CH_GAIN at *
  omega

theorem gainInstall_rd (k n : Nat) (h : n < k) : (gainInstall k s).rd (Reg.MTR_CH_GAIN n) = s.otpWord (0x020 + n) := by
  induction k with
  | zero => exact absurd h (Nat.not_lt_zero n)
  | succ k ih =>
    rw [gainInstall_succ, rd_wr, gainInstall_otpWord]
    split_ifs with hn
    · rw [show n = k by unfold Reg.MTR_CH_GAIN at hn; omega]
    · refine ih (lt_of_le_of_ne (Nat.le_of_lt_succ h) (fun he => hn ?_))
      rw [he]

/-- The fuses, block by block in the order of the release. -/
def fuseInstall (s : State) : State :=
  let s := (s.wr (Reg.ID_UID 0) (s.otpWord 0)).wr (Reg.ID_UID 1) (s.otpWord 1)
  let s := s.wr Reg.ID_FUSE (BitVec.ofNat 32 ((s.otpWord 2).toNat % 512))
  let s := s.fs Fld.CLK_HFRC_TRIM_TRIM (s.otpWord 0x010).toNat
  let s := gainInstall 20 (s.wr Reg.TWI_TW0_ADDR (s.otpWord 3))
  (s.fs Fld.LDG_KEYX_DONE (s.otpWord 0x180).toNat).fs Fld.LDG_KEYX_XPOL ((s.otpWord 2).toNat / 512)

theorem otpInstall_blocks : [0x00, 0x03, 0x0B, 0x10, 0x11].foldl (fun s b => otpInstall b s) s = fuseInstall s := rfl

theorem fuseInstall_rst : (fuseInstall s).rst = s.rst := by
  simp only [fuseInstall, State.fs_rst, State.wr_rst, gainInstall_rst]

theorem fuseInstall_thm : (fuseInstall s).thm = s.thm := by
  simp only [fuseInstall, State.fs_thm, State.wr_thm, gainInstall_thm]

/-- The words below the meter's gains that a fuse goes to. -/
abbrev fuseWords : List Nat :=
  [Reg.ID_UID 0, Reg.ID_UID 1, Reg.ID_FUSE, Fld.CLK_HFRC_TRIM_TRIM.addr, Reg.TWI_TW0_ADDR]

theorem fuseInstall_rd_other {a : Nat} (hlow : a < Reg.MTR_CH_GAIN 0) (h : a ∉ fuseWords) :
    (fuseInstall s).rd a = s.rd a := by
  have hledger : a ≠ Fld.LDG_KEYX_DONE.addr ∧ a ≠ Fld.LDG_KEYX_XPOL.addr := by
    simp only [Reg.MTR_CH_GAIN, Fld.LDG_KEYX_DONE, Fld.LDG_KEYX_XPOL] at *
    omega
  simp only [List.mem_cons, List.not_mem_nil, or_false, not_or] at h
  obtain ⟨huid0, huid1, hfuse, htrim, haddr⟩ := h
  simp only [fuseInstall]
  rw [rd_fs_other _ _ _ _ hledger.2, rd_fs_other _ _ _ _ hledger.1, gainInstall_rd_other _ _ hlow,
    rd_wr_other _ _ _ _ haddr, rd_fs_other _ _ _ _ htrim, rd_wr_other _ _ _ _ hfuse, rd_wr_other _ _ _ _ huid1,
    rd_wr_other _ _ _ _ huid0]

theorem fuseInstall_words : (fuseInstall s).rd (Reg.ID_UID 0) = s.otpWord 0 ∧
    (fuseInstall s).rd (Reg.ID_UID 1) = s.otpWord 1 ∧ (fuseInstall s).rd Reg.TWI_TW0_ADDR = s.otpWord 3 := by
  simp (disch := decide) only [fuseInstall, rd_fs_other, gainInstall_rd_other, rd_wr_other, rd_wr_same, wr_otpWord,
    fs_otpWord, and_self]

theorem fuseInstall_gain {n : Nat} (h : n < 20) : (fuseInstall s).rd (Reg.MTR_CH_GAIN n) = s.otpWord (0x020 + n) := by
  have hledger : Reg.MTR_CH_GAIN n ≠ Fld.LDG_KEYX_DONE.addr ∧ Reg.MTR_CH_GAIN n ≠ Fld.LDG_KEYX_XPOL.addr := by
    simp only [Reg.MTR_CH_GAIN, Fld.LDG_KEYX_DONE, Fld.LDG_KEYX_XPOL]
    omega
  simp only [fuseInstall]
  rw [rd_fs_other _ _ _ _ hledger.2, rd_fs_other _ _ _ _ hledger.1, gainInstall_rd _ _ _ h]
  simp only [wr_otpWord, fs_otpWord]

theorem otpAlarms_rd {a : Nat} (h : a ≠ Fld.OTP_STAT_FACT_ALM.addr) : (otpAlarms s).rd a = s.rd a := by
  unfold otpAlarms
  split
  · rfl
  · have hkey : a ≠ Fld.OTP_STAT_KEY_ALM.addr := h
    rw [rd_fs_other _ _ _ _ hkey, rd_fs_other _ _ _ _ h]

theorem otpAlarms_rst : (otpAlarms s).rst = s.rst := by
  unfold otpAlarms
  split
  · rfl
  · simp only [State.fs_rst]

theorem otpAlarms_thm : (otpAlarms s).thm = s.thm := by
  unfold otpAlarms
  split
  · rfl
  · simp only [State.fs_thm]

/-- R37, R550: the block as it leaves reset, before its fuses are read. -/
def releaseClocks (compat imgSel : Bool) (s : State) : State :=
  clocksStart ((s.setRst { s.rst with asserted := false, imgSel := imgSel }).fs Fld.SYS_PWR_STAT_COMPAT (boolNat compat))

theorem releaseClocks_rst (compat imgSel : Bool) :
    (releaseClocks compat imgSel s).rst = { s.rst with asserted := false, imgSel := imgSel } := by
  simp only [releaseClocks, clocksStart, setClk_rst, State.fs_rst, setRst_rst]

theorem releaseClocks_thm (compat imgSel : Bool) : (releaseClocks compat imgSel s).thm = s.thm := by
  simp only [releaseClocks, clocksStart, setClk_thm, State.fs_thm, setRst_thm]

theorem releaseClocks_otpWord (compat imgSel : Bool) (w : Nat) :
    (releaseClocks compat imgSel s).otpWord w = s.otpWord w := by
  have hotp : (releaseClocks compat imgSel s).otp = s.otp := by
    simp only [releaseClocks, clocksStart, setClk_otp, State.fs_otp, setRst_otp]
  unfold State.otpWord
  rw [hotp]

theorem releaseClocks_rd_other (compat imgSel : Bool) {a : Nat} (hpwr : a ≠ Reg.SYS_PWR_STAT) (hclk : a ≠ Reg.CLK_STAT) :
    (releaseClocks compat imgSel s).rd a = s.rd a := by
  rw [releaseClocks, clocksStart_rd _ hclk, rd_fs_other _ _ _ _ hpwr]
  rfl

theorem releaseClocks_status (compat imgSel : Bool) :
    (releaseClocks compat imgSel s).fg Fld.SYS_PWR_STAT_COMPAT = (if compat = true then 1 else 0) ∧
    (releaseClocks compat imgSel s).fg Fld.CLK_STAT_HFRC_ON = 1 ∧
    (releaseClocks compat imgSel s).fg Fld.CLK_STAT_PLL_LOCK = 1 ∧
    (releaseClocks compat imgSel s).fg Fld.CLK_STAT_SYSCLK = 1 := by
  unfold releaseClocks
  refine ⟨?_, clocksStart_clocks _⟩
  rw [clocksStart_fg _ (by decide), fg_fs_of_lt _ _ _ (by decide) (by cases compat <;> decide), boolNat]

theorem resetRelease_held {s : State} (compat imgSel : Bool) (h : s.rst.asserted = false ∨ s.thm.dieHeld = true) :
    resetRelease compat imgSel s = s := by
  have hheld : (!s.rst.asserted || s.thm.dieHeld) = true := by rcases h with h | h <;> simp [h]
  rw [resetRelease, if_pos hheld]

theorem resetRelease_releases {s : State} (compat imgSel : Bool) (hrst : s.rst.asserted = true)
    (hheld : s.thm.dieHeld = false) :
    resetRelease compat imgSel s = otpAlarms (fuseInstall (releaseClocks compat imgSel s)) := by
  rw [resetRelease, if_neg (by simp [hrst, hheld])]
  exact congrArg otpAlarms (otpInstall_blocks _)

section
variable {s} {compat imgSel : Bool} (hrst : s.rst.asserted = true) (hheld : s.thm.dieHeld = false)
include hrst hheld

theorem resetRelease_rst :
    (resetRelease compat imgSel s).rst = { s.rst with asserted := false, imgSel := imgSel } := by
  rw [resetRelease_releases compat imgSel hrst hheld, otpAlarms_rst, fuseInstall_rst, releaseClocks_rst]

theorem resetRelease_thm : (resetRelease compat imgSel s).thm = s.thm := by
  rw [resetRelease_releases compat imgSel hrst hheld, otpAlarms_thm, fuseInstall_thm, releaseClocks_thm]

/-- A word that neither takes a fuse nor shows a check of them reads as the clocks' start left it. -/
theorem resetRelease_rd_other {a : Nat} (hlow : a < Reg.MTR_CH_GAIN 0)
    (h : a ∉ fuseWords)
    (hotp : a ≠ Fld.OTP_STAT_FACT_ALM.addr) :
    (resetRelease compat imgSel s).rd a = (releaseClocks compat imgSel s).rd a := by
  rw [resetRelease_releases compat imgSel hrst hheld, otpAlarms_rd _ hotp, fuseInstall_rd_other _ hlow h]

theorem resetRelease_fg_other {f : Fld} (hlow : f.addr < Reg.MTR_CH_GAIN 0)
    (h : f.addr ∉ fuseWords)
    (hotp : f.addr ≠ Fld.OTP_STAT_FACT_ALM.addr) :
    (resetRelease compat imgSel s).fg f = (releaseClocks compat imgSel s).fg f := by
  unfold State.fg
  rw [resetRelease_rd_other hrst hheld hlow h hotp]

theorem resetRelease_status :
    (resetRelease compat imgSel s).fg Fld.SYS_PWR_STAT_COMPAT = (if compat = true then 1 else 0) ∧
    (resetRelease compat imgSel s).fg Fld.CLK_STAT_HFRC_ON = 1 ∧
    (resetRelease compat imgSel s).fg Fld.CLK_STAT_PLL_LOCK = 1 ∧
    (resetRelease compat imgSel s).fg Fld.CLK_STAT_SYSCLK = 1 := by
  rw [resetRelease_fg_other hrst hheld (by decide) (by decide) (by decide),
    resetRelease_fg_other hrst hheld (by decide) (by decide) (by decide),
    resetRelease_fg_other hrst hheld (by decide) (by decide) (by decide),
    resetRelease_fg_other hrst hheld (by decide) (by decide) (by decide)]
  exact releaseClocks_status s compat imgSel

theorem resetRelease_fuses : (resetRelease compat imgSel s).rd (Reg.ID_UID 0) = s.otpWord 0 ∧
    (resetRelease compat imgSel s).rd (Reg.ID_UID 1) = s.otpWord 1 ∧
    (resetRelease compat imgSel s).rd Reg.TWI_TW0_ADDR = s.otpWord 3 := by
  obtain ⟨huid0, huid1, haddr⟩ := fuseInstall_words (releaseClocks compat imgSel s)
  rw [releaseClocks_otpWord] at huid0 huid1 haddr
  rw [resetRelease_releases compat imgSel hrst hheld, otpAlarms_rd _ (by decide), otpAlarms_rd _ (by decide),
    otpAlarms_rd _ (by decide)]
  exact ⟨huid0, huid1, haddr⟩

theorem resetRelease_gain {n : Nat} (hn : n < 20) :
    (resetRelease compat imgSel s).rd (Reg.MTR_CH_GAIN n) = s.otpWord (0x020 + n) := by
  rw [resetRelease_releases compat imgSel hrst hheld,
    otpAlarms_rd _ (by simp only [Reg.MTR_CH_GAIN, Fld.OTP_STAT_FACT_ALM]; omega), fuseInstall_gain _ hn,
    releaseClocks_otpWord]

end

/-! ### What a reset keeps (R432, R434) -/

theorem addCause_rst (bits : Nat) : (addCause bits s).rst = s.rst := State.wr_rst s _ _

theorem addCause_thm (bits : Nat) : (addCause bits s).thm = s.thm := State.wr_thm s _ _

theorem addCause_rd (bits : Nat) :
    (addCause bits s).rd Reg.RST_CAUSE = s.rd Reg.RST_CAUSE ||| BitVec.ofNat 32 bits := by
  rw [addCause, rd_wr_same, BitVec.ofNat_or, BitVec.ofNat_toNat, BitVec.setWidth_eq]

/-- R434: the AO domain's words stay. -/
theorem keptState_rd (power : Bool) {a : Nat} (h : aoAddr a = true) : (keptState power s).rd a = s.rd a :=
  kvGet_filter_other resetWord s.regs _ a (fun _ => h)

/-- R432 to R434: a reset out of reset, from a source that loses no supply. -/
theorem deviceReset_warm {s : State} {bits : Nat} (hlive : Live s) (hpor : bitOf bits 0 = false)
    (hao : bitOf bits 1 = false) :
    deviceReset bits s = (keptState false (addCause bits s)).wr Reg.RST_LAST (BitVec.ofNat 32 s.rtc.sec) := by
  have hrst : (addCause bits s).rst.asserted = false := hlive
  simp only [deviceReset, hpor, hao, Bool.or_false, Bool.false_eq_true, if_false, hrst, Bool.false_and]
  rfl

/-! ### DIE shutdown (R503) -/

theorem exec_dieShutdown : exec .dieShutdown s = done s (dieEvent s) := rfl

theorem exec_dieShutdownReset : exec .dieShutdownReset s = done s (dieReset s) := rfl

theorem exec_thermalRestart (compat imgSel pinLow : Bool) :
    exec (.thermalRestart compat imgSel pinLow) s = .next (finish (thermalRestart compat imgSel pinLow s)) := rfl

theorem dieEvent_awake {s : State} (hstate : s.powerState ≠ 0) (hsd : s.thm.dieSd = false) : dieEvent s =
    (allContactorsOpen (allGroupsHardStop (s.setThm { s.thm with dieSd := true }))).driveLine 4 := by
  simp [dieEvent, hstate, dieShutdown, hsd]

theorem dieEvent_dormant {s : State} (hstate : s.powerState = 0) :
    dieEvent s = dieReset (s.setThm { s.thm with dieSd := true }) := by
  rw [dieEvent, if_pos hstate]

theorem dieReset_idle {s : State} (hsd : s.thm.dieSd = false) : dieReset s = s := by
  simp [dieReset, hsd]

/-- A shutdown under way ends in a reset that it holds, and sets no cause yet. -/
theorem dieReset_holds {s : State} (hlive : Live s) (hsd : s.thm.dieSd = true) :
    (dieReset s).rst.asserted = true ∧ (dieReset s).thm.dieHeld = true ∧ (dieReset s).thm.dieSd = true ∧
      (dieReset s).rd Reg.RST_CAUSE = s.rd Reg.RST_CAUSE := by
  have hreset : dieReset s = (deviceReset 0 s).setThm { (deviceReset 0 s).thm with dieHeld := true } := by
    rw [dieReset, if_pos hsd]
  have hcause : (deviceReset 0 s).rd Reg.RST_CAUSE = s.rd Reg.RST_CAUSE := by
    rw [deviceReset_warm hlive rfl rfl, rd_wr_other _ _ _ _ (by decide), keptState_rd _ _ (by decide), addCause_rd]
    exact BitVec.or_zero
  rw [hreset]
  refine ⟨?_, rfl, ?_, hcause⟩ <;> rw [deviceReset_warm hlive rfl rfl]
  · rfl
  · exact hsd

/-- The end of a DIE shutdown, still in reset. -/
def dieCooled (s : State) : State := addCause causeThermal (s.setThm { s.thm with dieSd := false, dieHeld := false })

theorem thermalRestart_cooled {s : State} (compat imgSel pinLow : Bool) (hrst : s.rst.asserted = true)
    (hheld : s.thm.dieHeld = true) :
    thermalRestart compat imgSel pinLow s =
      if pinLow = true then dieCooled s else resetRelease compat imgSel (dieCooled s) := by
  rw [thermalRestart, if_neg (by simp [hrst, hheld])]
  rfl

theorem dieCooled_rst : (dieCooled s).rst = s.rst := addCause_rst _ _

theorem dieCooled_thm : (dieCooled s).thm = { s.thm with dieSd := false, dieHeld := false } := addCause_thm _ _

theorem dieCooled_cause : (dieCooled s).rd Reg.RST_CAUSE = s.rd Reg.RST_CAUSE ||| 0x080#32 := addCause_rd _ _

/-! ### Supplies (R534, R536) -/

theorem exec_vinLoss : exec .vinLoss s = .next (finish (vinLoss s)) := rfl

theorem exec_vaoLoss : exec .vaoLoss s = .next (finish (vaoLoss s)) := rfl

theorem tornWord_idle {s : State} (h : s.nvm.words = []) : tornWord s = s := by
  simp [tornWord, h]

theorem vinLoss_idle {s : State} (h : s.nvm.words = []) : vinLoss s = keptState true s := by
  rw [vinLoss, tornWord_idle h, ite_self]

theorem aoClear_rd (a : Nat) : (aoClear s).rd a = if aoAddr a = true then resetWord a else s.rd a := by
  split
  · next h => exact kvGet_filter_gone resetWord s.regs _ a (fun _ => by rw [h]; rfl)
  · next h => exact kvGet_filter_other resetWord s.regs _ a (fun _ => by rw [Bool.eq_false_of_not_eq_true h]; rfl)

/-! ### The boot ROM (R525) -/

theorem exec_bootFirmwareSelect : exec .bootFirmwareSelect s = done s (bootSelect s) := rfl

theorem bootSelect_running {s : State} (h : s.rst.firmware = true) : bootSelect s = s := by
  rw [bootSelect, if_pos h]

theorem bootSelect_alarm {s : State} (hrun : s.rst.firmware = false) (hlife : s.life = true)
    (halarm : s.fb Fld.OTP_STAT_FACT_ALM = true ∨ s.fb Fld.OTP_STAT_KEY_ALM = true) : bootSelect s = s := by
  have hstop : (s.life && (s.fb Fld.OTP_STAT_FACT_ALM || s.fb Fld.OTP_STAT_KEY_ALM)) = true := by
    simpa [hlife] using halarm
  simp [bootSelect, hrun, hstop]

theorem bootSelect_banks {s : State} (hrun : s.rst.firmware = false) (hok : s.life = false ∨
      (s.fb Fld.OTP_STAT_FACT_ALM = false ∧ s.fb Fld.OTP_STAT_KEY_ALM = false)) :
    bootSelect s = bootBanks ((if s.bankSeq 0 < s.bankSeq 1 then [1, 0] else [0, 1]).filter s.bankValid) s := by
  have hgo : (s.life && (s.fb Fld.OTP_STAT_FACT_ALM || s.fb Fld.OTP_STAT_KEY_ALM)) = false := by
    rcases hok with hlife | ⟨hfact, hkey⟩
    · rw [hlife, Bool.false_and]
    · rw [hfact, hkey, Bool.or_false, Bool.and_false]
  simp only [bootSelect, hrun, hgo, Bool.false_eq_true, if_false]

theorem bootBanks_cons (k : Nat) (r : List Nat) : bootBanks (k :: r) s =
    if s.fwCheck (s.bankImage k) = 0 then firmwareRun k (bankResult k 0 s)
    else bootBanks r (bankResult k (s.fwCheck (s.bankImage k)) s) := by
  conv_lhs => unfold bootBanks
  split
  · next h => rw [if_pos h]
  · next h => rw [if_neg h]

theorem logEvent_rst (code arg0 arg1 : Nat) (merged : Bool) : (s.logEvent code arg0 arg1 merged).rst = s.rst := (rfl)

theorem waveTrigger_rst (trig arg : Nat) : (s.waveTrigger trig arg).rst = s.rst := by
  unfold State.waveTrigger
  split
  · rfl
  · split
    · simp only [logEvent_rst, setPrp_rst]
    · split <;> simp only [logEvent_rst, State.fs_rst, setPrp_rst]

theorem wdOpen_rst (w : Nat) : (wdOpen w s).rst = s.rst := by
  unfold wdOpen
  split_ifs
  · rfl
  · exact State.raise_rst _ 107
  · rfl

theorem wdStart_rst (w t : Nat) : (wdStart w t s).rst = s.rst := by
  unfold wdStart
  extract_lets u
  split_ifs
  · exact wdOpen_rst u w
  · rfl

theorem waveFlags_rst : (waveFlags s).rst = s.rst := by rw [waveFlags, State.fs_rst]

theorem firmwareRun_runs (k : Nat) : (firmwareRun k s).rst.firmware = true := by
  unfold firmwareRun
  extract_lets version before started named kept opened cause logged
  have hkept : kept.rst = named.rst := by
    refine foldl_field State.rst _ (fun b i => ?_) _ _
    simp only [State.fresh, State.fs_rst, setFree_rst]
  have hopened : opened.rst = kept.rst := by
    unfold opened
    rw [waveFlags_rst, wdStart_rst, wdStart_rst]
  have hlogged : logged.rst.firmware = true := by
    unfold logged
    rw [logEvent_rst, hopened, hkept]
    rfl
  split
  · rw [waveTrigger_rst, hlogged]
  · exact hlogged

/-- Settles O46, through what a release installs, what each reset and supply loss keeps, and the boot's choice. -/
theorem resetEnds : Obligations.ResetEnds := by
  refine ⟨?release, ?die, ?restart, ?vin, ?vao, ?boot, ?banks⟩
  case release =>
    intro compat imgSel s
    constructor
    · intro h
      rw [exec_resetRelease, resetRelease_held compat imgSel h]
    · intro hrst hheld
      obtain ⟨hcompat, hhfrc, hpll, hsys⟩ := resetRelease_status (compat := compat) (imgSel := imgSel) hrst hheld
      obtain ⟨huid0, huid1, haddr⟩ := resetRelease_fuses (compat := compat) (imgSel := imgSel) hrst hheld
      exact ⟨_, exec_resetRelease s compat imgSel, resetRelease_rst hrst hheld, hcompat, hhfrc, hpll, hsys, huid0, huid1,
        haddr, fun n hn => resetRelease_gain hrst hheld hn⟩
  case die =>
    intro s hlive
    rw [exec_dieShutdown, exec_dieShutdownReset, done_next _ hlive, done_next _ hlive]
    refine ⟨?awake, ?dormant, ?later, ?idle⟩
    case awake =>
      intro hstate hsd
      rw [dieEvent_awake hstate hsd]
    case dormant =>
      intro hstate
      rw [dieEvent_dormant hstate]
      exact ⟨_, rfl, dieReset_holds (s := s.setThm { s.thm with dieSd := true }) hlive rfl⟩
    case later =>
      intro hsd
      exact ⟨_, rfl, dieReset_holds hlive hsd⟩
    case idle =>
      intro hsd
      rw [dieReset_idle hsd]
  case restart =>
    intro compat imgSel pinLow s hrst hheld
    have hrst' : (dieCooled s).rst.asserted = true := by rw [dieCooled_rst, hrst]
    have hheld' : (dieCooled s).thm.dieHeld = false := by rw [dieCooled_thm]
    rw [exec_thermalRestart, thermalRestart_cooled compat imgSel pinLow hrst hheld]
    cases pinLow with
    | true => exact ⟨_, rfl, hheld', by rw [if_pos rfl, dieCooled_thm], hrst', dieCooled_cause s⟩
    | false =>
      have hcause : (resetRelease compat imgSel (dieCooled s)).rd Reg.RST_CAUSE = s.rd Reg.RST_CAUSE ||| 0x080#32 := by
        rw [resetRelease_rd_other hrst' hheld' (by decide) (by decide) (by decide),
          releaseClocks_rd_other _ _ _ (by decide) (by decide), dieCooled_cause]
      refine ⟨_, rfl, ?_, ?_, ?_, hcause⟩
      · rw [if_neg Bool.false_ne_true, resetRelease_thm hrst' hheld', hheld']
      · rw [if_neg Bool.false_ne_true, resetRelease_thm hrst' hheld', dieCooled_thm]
      · rw [if_neg Bool.false_ne_true, resetRelease_rst hrst' hheld']
  case vin =>
    intro s h
    rw [exec_vinLoss, vinLoss_idle h]
    refine ⟨_, rfl, rfl, rfl, rfl, rfl, rfl, rfl, fun a hlo hhi => keptState_rd s true ?_⟩
    exact decide_eq_true (.inr (.inr ⟨hlo, hhi⟩))
  case vao =>
    intro s
    refine ⟨_, exec_vaoLoss s, rfl, rfl, rfl, rfl, fun a => ?_⟩
    rw [vaoLoss, aoClear_rd, aoAddr]
    simp only [decide_eq_true_eq]
    rfl
  case boot =>
    intro s hlive
    rw [exec_bootFirmwareSelect, done_next _ hlive]
    refine ⟨fun hrun => ?running, fun hrun hlife halarm => ?alarm, fun hrun hok => ?choice⟩
    case running => rw [bootSelect_running hrun]
    case alarm => rw [bootSelect_alarm hrun hlife halarm]
    case choice => rw [bootSelect_banks hrun hok]
  case banks =>
    intro k r s
    exact ⟨bootBanks_cons s k r, firmwareRun_runs s k⟩

end Sys2Proof.Machine
end

section
/-!
PROOFS. Staging and commits (R63 to R68): what applying a group takes and leaves, how a COMMIT and an ABORT are judged, and
how accepted and joint commits apply.
-/
namespace Sys2Proof.Machine

variable (s : State)

/-! ### Staged values taking effect (R63) -/

theorem applyEntry_rd_same (e : Staged) : (s.applyEntry e).rd e.addr =
    (s.rd e.addr &&& BitVec.ofNat 32 (0xFFFFFFFF - e.mask)) ||| e.value := rd_wr_same s _ _

theorem applyEntry_rd_other (e : Staged) {a : Nat} (h : e.addr ≠ a) : (s.applyEntry e).rd a = s.rd a :=
  rd_wr_other s _ _ _ h.symm

theorem applyEntries_rd_other (l : List Staged) {a : Nat} (h : ∀ e ∈ l, e.addr ≠ a) :
    (l.foldl State.applyEntry s).rd a = s.rd a := by
  induction l generalizing s with
  | nil => rfl
  | cons x r ih =>
    rw [List.foldl_cons, ih _ fun e he => h e (List.mem_cons_of_mem x he), applyEntry_rd_other s x (h x List.mem_cons_self)]

/-- Entries of different words do not meet, so each word takes its own entry's bits alone. -/
theorem applyEntries_rd_mem (l : List Staged) (hdistinct : l.Pairwise fun x y => x.addr ≠ y.addr) {e : Staged}
    (he : e ∈ l) : (l.foldl State.applyEntry s).rd e.addr =
      (s.rd e.addr &&& BitVec.ofNat 32 (0xFFFFFFFF - e.mask)) ||| e.value := by
  induction l generalizing s with
  | nil => exact absurd he List.not_mem_nil
  | cons x r ih =>
    obtain ⟨hx, hr⟩ := List.pairwise_cons.1 hdistinct
    rw [List.foldl_cons]
    rcases List.mem_cons.1 he with rfl | he
    · rw [applyEntries_rd_other _ r fun y hy => (hx y hy).symm, applyEntry_rd_same]
    · rw [ih _ hr he, applyEntry_rd_other s x (hx e he)]

theorem applyEntries_staging (l : List Staged) : (l.foldl State.applyEntry s).staging = s.staging :=
  foldl_field State.staging State.applyEntry (fun t e => State.wr_staging t e.addr _) l s

theorem applyStaged_rd (g : Group) (a : Nat) :
    (s.applyStaged g).rd a = ((s.stagedOf g).foldl State.applyEntry s).rd a := (rfl)

theorem applyStaged_staging (g : Group) : (s.applyStaged g).staging = s.staging.filter fun x => !(x.group == g) := by
  rw [State.applyStaged, State.unstage, setStaging_staging, applyEntries_staging]

/-- Without the entries of `g` nothing of `g` is staged, and every other group's staging is as it was. -/
theorem stagedOf_of_dropped {s t : State} {g : Group} (ht : t.staging = s.staging.filter fun x => !(x.group == g)) :
    t.stagedOf g = [] ∧ ∀ h, h ≠ g → t.stagedOf h = s.stagedOf h := by
  unfold State.stagedOf
  rw [ht]
  refine ⟨?_, fun h hne => ?_⟩
  · rw [List.filter_filter, List.filter_eq_nil_iff]
    simp
  · rw [List.filter_filter]
    refine List.filter_congr fun x _ => ?_
    by_cases hx : x.group = h <;> simp [hx, hne]

/-- Settles O15, from what the entries of a group with distinct addresses do to one word. -/
theorem appliedTogether : Obligations.AppliedTogether := by
  intro g s hdistinct
  obtain ⟨hnone, hothers⟩ := stagedOf_of_dropped (applyStaged_staging s g)
  refine ⟨fun e he => ?_, fun a ha => ?_, hnone, hothers⟩
  · rw [applyStaged_rd, applyEntries_rd_mem s _ hdistinct he]
  · rw [applyStaged_rd, applyEntries_rd_other s _ ha]

/-! ### How a COMMIT and an ABORT are judged (R63, R64, R66) -/

/-- Whether an accepted commit of the group waits for its update boundary: a tile's while it runs, a string's while it is
charged, and every other group's. -/
def State.commitWaits (s : State) : Group → Bool
  | .tile t => s.tileRuns t
  | .chg n => s.charging n
  | _ => true

theorem commitWrite_busy {g : Group} (h : s.groupBusy g = true) : commitWrite g s = (stBusy, s) := by
  unfold commitWrite
  rw [if_pos h]

theorem commitWrite_empty {g : Group} (hidle : s.groupBusy g = false) (h : s.stagedOf g = []) :
    commitWrite g s = (stOk, s) := by
  unfold commitWrite
  rw [hidle, h]
  rfl

theorem commitWrite_accepted {g : Group} (h : Committable s g) : commitWrite g s =
    (stOk, if s.commitWaits g = true then s.setCommits (s.commits ++ [g]) else s.applyStaged g) := by
  obtain ⟨hidle, hstaged, hcheck⟩ := h
  unfold commitWrite
  rw [hidle, if_neg Bool.false_ne_true, if_neg (by rwa [List.isEmpty_iff]), hcheck]
  cases g with
  | tile t => exact (apply_ite (Prod.mk stOk) _ _ _).symm
  | chg n => exact (apply_ite (Prod.mk stOk) _ _ _).symm
  | _ => rfl

theorem commitWrite_refused {g : Group} (hidle : s.groupBusy g = false) (hstaged : s.stagedOf g ≠ [])
    (hcheck : commitCheck s g ≠ 0) :
    commitWrite g s = (stCommitErr, commitError g (commitCheck s g) s) := by
  simp only [commitWrite, hidle, List.isEmpty_iff, hstaged, if_false, Bool.false_eq_true]

theorem abortWrite_busy {g : Group} (h : s.groupBusy g = true) : abortWrite g s = (stBusy, s) := by
  rw [abortWrite, if_pos h]

theorem abortWrite_idle {g : Group} (h : s.groupBusy g = false) : abortWrite g s = (stOk, s.unstage g) := by
  rw [abortWrite, if_neg (by rw [h]; exact Bool.false_ne_true)]

/-- LDG_CTL with one control bit and no CLOSE is that control. -/
theorem ldgCtl_control {commit abort : Bool} (h : (commit && abort) = false) :
    ldgCtl commit abort false s = commitAbort .ldgAssign commit abort s := by
  unfold ldgCtl
  simp only [h, Bool.false_eq_true, if_false]
  split_ifs with hst
  · rfl
  · exact Prod.ext (not_ne_iff.1 hst).symm rfl

theorem tileWrite_used {t : Nat} (f : State → Nat × State) (h : s.tileUsed t = true) : tileWrite t f s = f s := if_pos h

/-- Every COMMIT command of a group other than a tile is a COMMIT write at its control register. -/
theorem exec_commit {c : Instr} {p : Port} {g : Group} {a : Nat} (hc : commitTarget c = some (p, g, a))
    (hreach : Reach p a s) :
    exec c s = .next (finish (respond p (commitWrite g s).1 0 (commitWrite g s).2)) := by
  obtain ⟨hruns, hiso⟩ := hreach
  unfold commitTarget at hc
  split at hc <;> cases hc
  case h_1 =>
    refine (done_asWrite s p _ _ hruns hiso).trans ?_
    rw [ldgCtl_control s rfl]
    rfl
  all_goals exact done_asWrite s p _ _ hruns hiso

theorem exec_abort {c : Instr} {p : Port} {g : Group} {a : Nat} (hc : abortTarget c = some (p, g, a))
    (hreach : Reach p a s) (hused : ∀ t, g = .tile t → s.tileUsed t = true) :
    exec c s = .next (finish (respond p (abortWrite g s).1 0 (abortWrite g s).2)) := by
  obtain ⟨hruns, hiso⟩ := hreach
  unfold abortTarget at hc
  split at hc <;> cases hc
  case h_1 =>
    refine (done_asWrite s p _ _ hruns hiso).trans ?_
    rw [ldgCtl_control s rfl]
    rfl
  case h_9 =>
    refine (done_asWrite s p _ _ hruns hiso).trans ?_
    rw [tileWrite_used s _ (hused _ rfl)]
  all_goals exact done_asWrite s p _ _ hruns hiso

theorem exec_tileCommit (p : Port) (t : Fin 64) (hreach : Reach p (Reg.CMB_T_CTL t) s) (hused : s.tileUsed t = true) :
    exec (.tileCommit p t) s =
      .next (finish (respond p (commitWrite (.tile t) s).1 0 (commitWrite (.tile t) s).2)) := by
  refine (done_asWrite s p _ _ hreach.1 hreach.2).trans ?_
  rw [tileWrite_used s _ hused]

/-- A COMMIT that passes, of a group whose commits wait. -/
theorem exec_commit_waits {c : Instr} {p : Port} {g : Group} {a : Nat} (hc : commitTarget c = some (p, g, a))
    (hreach : Reach p a s) (h : Committable s g) (hwaits : s.commitWaits g = true) :
    exec c s = .next (finish (committed p g s)) := by
  rw [exec_commit s hc hreach, commitWrite_accepted s h, if_pos hwaits]
  rfl

/-- Only a tile's and a string's commits may not wait, and a tile's COMMIT is no command of `commitTarget`. -/
theorem commitWaits_of_target {c : Instr} {p : Port} {g : Group} {a : Nat} (hc : commitTarget c = some (p, g, a))
    (hcharging : ∀ n, g = .chg n → s.charging n = true) : s.commitWaits g = true := by
  cases g with
  | tile t => unfold commitTarget at hc; split at hc <;> cases hc
  | chg n => exact hcharging n rfl
  | _ => rfl

theorem exec_abort_idle {c : Instr} {p : Port} {g : Group} {a : Nat} (hc : abortTarget c = some (p, g, a))
    (hreach : Reach p a s) (hused : ∀ t, g = .tile t → s.tileUsed t = true) (hidle : s.groupBusy g = false) :
    exec c s = .next (finish (aborted p g s)) := by
  rw [exec_abort s hc hreach hused, abortWrite_idle s hidle]
  rfl

/-- Settles O14: a COMMIT command is a COMMIT write of its group, an ABORT command an ABORT write. -/
theorem commitsAreJudged : Obligations.CommitsAreJudged := by
  refine ⟨⟨?waits, ?atOnce, ?nothing, ?tile, ?commits⟩, ?refused, ?abort, ?aborts⟩
  case waits =>
    intro c p g a s hc hreach hidle hstaged hcheck hcharging
    exact exec_commit_waits s hc hreach ⟨hidle, hstaged, hcheck⟩ (commitWaits_of_target s hc hcharging)
  case atOnce =>
    intro p n s hreach hidle hstaged hcheck hcharging
    have hwaits : s.commitWaits (.chg n) ≠ true := by rw [State.commitWaits, hcharging]; exact Bool.false_ne_true
    rw [exec_commit s rfl hreach, commitWrite_accepted s ⟨hidle, hstaged, hcheck⟩, if_neg hwaits]
  case nothing =>
    intro c p g a s hc hreach hidle hnone
    rw [exec_commit s hc hreach, commitWrite_empty s hidle hnone]
  case tile =>
    intro p t s hreach hused hidle hstaged hcheck
    rw [exec_tileCommit s p t hreach hused, commitWrite_accepted s ⟨hidle, hstaged, hcheck⟩]
    rfl
  case commits =>
    intro p s
    exact ⟨fun hr h => exec_commit_waits s rfl hr h rfl, fun hr h => exec_commit_waits s rfl hr h rfl,
      fun hr h => exec_commit_waits s rfl hr h rfl, fun g hr h => exec_commit_waits s rfl hr h rfl,
      fun n hr h hcharging => exec_commit_waits s rfl hr h hcharging, fun hr h => exec_commit_waits s rfl hr h rfl,
      fun hr h => exec_commit_waits s rfl hr h rfl, fun z hr h => exec_commit_waits s rfl hr h rfl⟩
  case refused =>
    intro c p g a s hc hreach
    refine ⟨fun hbusy => ?_, fun hidle hstaged hcheck => ?_⟩
    · rw [exec_commit s hc hreach, commitWrite_busy s hbusy]
    · rw [exec_commit s hc hreach, commitWrite_refused s hidle hstaged hcheck]
  case abort =>
    intro c p g a s hc hreach hused
    refine ⟨fun hidle => exec_abort_idle s hc hreach hused hidle, fun hbusy => ?_⟩
    rw [exec_abort s hc hreach hused, abortWrite_busy s hbusy]
  case aborts =>
    intro p s
    have habort : ∀ {c g a}, abortTarget c = some (p, g, a) → (∀ t, g ≠ .tile t) → Reach p a s → s.groupBusy g = false →
        exec c s = .next (finish (aborted p g s)) := fun hc hne hr h =>
      exec_abort_idle s hc hr (fun t ht => absurd ht (hne t)) h
    exact ⟨habort rfl nofun, habort rfl nofun, habort rfl nofun, fun g => habort rfl nofun, fun n => habort rfl nofun,
      habort rfl nofun, habort rfl nofun, fun z => habort rfl nofun,
      fun t hr hused h => exec_abort_idle s rfl hr (fun u hu => by cases hu; exact hused) h⟩

/-! ### Accepted commits and joint commits apply (R63, R64, R67, R68) -/

theorem stagedApply_accepted {g : Group} (hassign : g ≠ .ldgAssign) (hrtc : g ≠ .rtc) (h : s.cpend g = true) :
    stagedApply g s = (s.applyStaged g).setCommits (s.commits.filter (fun x => !(x == g))) := by
  cases g with
  | ldgAssign => exact absurd rfl hassign
  | rtc => exact absurd rfl hrtc
  | _ => exact if_pos h

section
variable {s} (hjoint : s.joint = none) (hcpend : ∀ x ∈ s.jointMembers, s.cpend x.2 = false)
include hjoint hcpend

/-- R68: no joint commit is pending, and no member has a commit of its own pending. -/
theorem jointMembers_idle : (s.joint.isSome || s.jointMembers.any (fun x => s.cpend x.2)) = false := by
  rw [hjoint, Option.isSome_none, Bool.false_or, List.any_eq_false]
  exact fun x hx => by rw [hcpend x hx]; exact Bool.false_ne_true

theorem jointGo_accepted (hcheck : ∀ x ∈ s.jointMembers, commitCheck s x.2 = 0) : jointGo s =
    (stOk, (s.setJoint (some (s.jointMembers.map Prod.snd))).fs Fld.CMB_JC_STAT_PEND 1) := by
  have hpass : s.jointMembers.find? (fun x => commitCheck s x.2 != 0) = none := by
    rw [List.find?_eq_none]
    exact fun x hx => by rw [hcheck x hx]; exact Bool.false_ne_true
  simp only [jointGo, jointMembers_idle hjoint hcpend, Bool.false_eq_true, if_false, hpass]

theorem jointAbort_idle : jointAbort s = (stOk, s.jointMembers.foldl (fun s x => s.unstage x.2) s) := by
  simp only [jointAbort, jointMembers_idle hjoint hcpend, Bool.false_eq_true, if_false]

end

theorem jointApply_fixedTick (sub : Nat) {m : List Group} (h : s.joint = some m) (hassign : .ldgAssign ∉ m)
    (hrtc : .rtc ∉ m) :
    jointApply sub s = ((m.foldl State.applyStaged s).setJoint none).fs Fld.CMB_JC_STAT_PEND 0 := by
  unfold jointApply
  rw [h]
  refine congrArg (fun t : State => (t.setJoint none).fs Fld.CMB_JC_STAT_PEND 0) (List.foldl_ext _ _ _ fun t g hg => ?_)
  cases g with
  | ldgAssign => exact absurd hg hassign
  | rtc => exact absurd hg hrtc
  | _ => rfl

/-- Settles O16: each group's boundary, and the joint commit's GO, tick and ABORT. -/
theorem commitsApply : Obligations.CommitsApply := by
  refine ⟨?boundary, ?go, ?tick, ?abort⟩
  case boundary =>
    intro g s hlive hassign hrtc hcpend
    refine (done_next _ hlive).trans ?_
    rw [stagedApply_accepted s hassign hrtc hcpend]
  case go =>
    intro p s hreach hjoint hcpend hcheck
    refine (done_asWrite s p _ _ hreach.1 hreach.2).trans ?_
    have hgo : jointCtl true false s = jointGo s := rfl
    rw [hgo, jointGo_accepted hjoint hcpend hcheck]
  case tick =>
    intro m sub s hlive hjoint hassign hrtc
    refine (done_next _ hlive).trans ?_
    rw [jointApply_fixedTick s sub hjoint hassign hrtc]
  case abort =>
    intro p s hreach hjoint hcpend
    refine (done_asWrite s p _ _ hreach.1 hreach.2).trans ?_
    have habort : jointCtl false true s = jointAbort s := rfl
    rw [habort, jointAbort_idle hjoint hcpend]

end Sys2Proof.Machine
end

section
/-!
PROOFS. Tiles (R42 to R58): the steps of a window, the consistency rules of a tile's commit, the tile controls, and one
update of a LIM and of a MAC tile.
-/
namespace Sys2Proof.Machine

variable (s : State)

/-! ### The steps of a window (R54) -/

/-- R54: one update's count towards leaving `st` for `dest`, in the direction `d` and with the debounce `lim`. -/
def winCount (st cnt dir : Nat) (cond : Bool) (d lim dest : Nat) : Nat × Nat × Nat :=
  if cond then
    let c := if dir = d then cnt + 1 else 1
    if lim ≤ c then (dest, 0, 0) else (st, c, d)
  else (st, 0, 0)

theorem winCount_state (st cnt dir : Nat) (cond : Bool) (d lim dest : Nat) :
    (winCount st cnt dir cond d lim dest).1 = st ∨ (winCount st cnt dir cond d lim dest).1 = dest ∧ cond = true := by
  unfold winCount
  extract_lets c
  split_ifs with hcond hlim
  · exact .inr ⟨rfl, hcond⟩
  · exact .inl rfl
  · exact .inl rfl

section
variable (hi lo hys x : Int) (dset dclr cnt dir : Nat) (latch clr : Bool)

theorem winNext_mid : winNext hi lo hys dset dclr 0 cnt dir latch clr x =
    if x > hi then winCount 0 cnt dir true 1 dset 1 else winCount 0 cnt dir (decide (x < lo)) 2 dset 2 := by
  simp [winNext, winCount]

theorem winNext_latched {st : Nat} (hst : st ≠ 0) : winNext hi lo hys dset dclr st cnt dir true clr x =
    if clr then (0, 0, 0) else (st, 0, 0) := by
  cases clr <;> simp [winNext, hst]

theorem winNext_high : winNext hi lo hys dset dclr 1 cnt dir false clr x =
    winCount 1 cnt dir (decide (x < hi - hys)) 3 dclr 0 := by
  simp [winNext, winCount]

theorem winNext_low : winNext hi lo hys dset dclr 2 cnt dir false clr x =
    winCount 2 cnt dir (decide (x > lo + hys)) 3 dclr 0 := by
  simp [winNext, winCount]

end

/-! ### The consistency rules of a tile's commit (R51, R53, R55) -/

theorem tileCheck_lim {t : Nat} (h : s.tileKind t = 2) : tileCheck s t = 0 ↔ s.wtp t 0x44 ≤ s.wtp t 0x40 := by
  simp [tileCheck, h]

theorem tileCheck_win {t : Nat} (h : s.tileKind t = 3) :
    tileCheck s t = 0 ↔ s.wtp t 0x44 + s.wtp t 0x48 ≤ s.wtp t 0x40 - s.wtp t 0x48 := by
  simp [tileCheck, h]

/-- R51: a two-pole CMP tile is in order and stable. -/
theorem tileCheck_cmp {t : Nat} (h : s.tileKind t = 1) (hmode : s.tn t 0x40 = 0) : tileCheck s t = 0 ↔
    s.wtp t 0x64 < s.wtp t 0x60 ∧ |s.wtp t 0x54| < 2 ^ 28 ∧ |s.wtp t 0x50| < 2 ^ 28 + s.wtp t 0x54 := by
  simp only [tileCheck, h, hmode, Int.abs_eq_natAbs, true_and]
  split_ifs <;> simp only [false_iff, true_iff] <;> omega

/-- Settles O18: a window leaves a state only where its count in that state's direction runs out. -/
theorem windowsAndTileRules : Obligations.WindowsAndTileRules := by
  constructor
  · intro hi lo hys x dset dclr st cnt dir latch clr hst n
    obtain rfl | hleft : st = 0 ∨ st ≠ 0 := eq_or_ne st 0
    case inl =>
      have hn : n = 0 ∨ n = 1 ∧ x > hi ∨ n = 2 ∧ x < lo := by
        unfold n
        rw [winNext_mid]
        split_ifs with hhigh
        · have := winCount_state 0 cnt dir true 1 dset 1
          tauto
        · have := winCount_state 0 cnt dir (decide (x < lo)) 2 dset 2
          rw [decide_eq_true_eq] at this
          tauto
      omega
    case inr =>
      cases latch with
      | true =>
        have hn : n = if clr = true then 0 else st := by
          unfold n
          rw [winNext_latched _ _ _ _ _ _ _ _ _ hleft]
          split <;> rfl
        cases clr <;> simp_all
      | false =>
        obtain rfl | rfl : st = 1 ∨ st = 2 := by omega
        · have hn : n = 1 ∨ n = 0 ∧ x < hi - hys := by
            have := winCount_state 1 cnt dir (decide (x < hi - hys)) 3 dclr 0
            rwa [← winNext_high hi lo hys x dset dclr cnt dir clr, decide_eq_true_eq] at this
          simp only [Bool.false_eq_true, false_imp_iff, and_true]
          omega
        · have hn : n = 2 ∨ n = 0 ∧ x > lo + hys := by
            have := winCount_state 2 cnt dir (decide (x > lo + hys)) 3 dclr 0
            rwa [← winNext_low hi lo hys x dset dclr cnt dir clr, decide_eq_true_eq] at this
          simp only [Bool.false_eq_true, false_imp_iff, and_true]
          omega
  · intro t s w
    exact ⟨tileCheck_lim s, tileCheck_win s, tileCheck_cmp s⟩

/-! ### Tile controls (R42, R54, R58) -/

theorem tput_natCast (t off v : Nat) : s.tput t off (v : Int) = s.wr (tileBase t + off) (BitVec.ofNat 32 v) := by
  rw [State.tput, BitVec.ofInt_natCast]

theorem tput_tn (t off off' : Nat) : s.tput t off (s.tn t off') = s.wr (tileBase t + off) (s.rd (tileBase t + off')) := by
  rw [tput_natCast, State.tn, BitVec.ofNat_toNat, BitVec.setWidth_eq]

/-- What CLR_STATE leaves in a tile of each kind; an FSM returns to INIT. -/
theorem tileClear_kinds (t : Nat) : tileClear t s =
    let h := s.setHid t ⟨0, 0, 0, 0, false⟩
    let b := tileBase t
    if s.tileKind t = 1 then h.wr (b + 0x70) 0
    else if s.tileKind t = 2 then h.wr (b + 0x54) 0
    else if s.tileKind t = 3 then h.wr (b + 0x5C) 0
    else if s.tileKind t = 4 then (h.wr (b + 0x40) (s.rd (b + 0x4C))).wr (b + 0x44) 0
    else if s.tileKind t = 5 then (h.wr (b + 0x54) 0).wr (b + 0x58) 0
    else h := by
  unfold tileClear
  extract_lets h b
  have hkind : h.tileKind t = s.tileKind t := rfl
  rw [hkind]
  split
  case h_1 hk => rw [if_pos hk]; rfl
  case h_2 hk => rw [if_neg (by omega), if_pos hk]; rfl
  case h_3 hk => rw [if_neg (by omega), if_neg (by omega), if_pos hk]; rfl
  case h_4 hk =>
    rw [if_neg (by omega), if_neg (by omega), if_neg (by omega), if_pos hk, tput_tn]
    rfl
  case h_5 hk => rw [if_neg (by omega), if_neg (by omega), if_neg (by omega), if_neg (by omega), if_pos hk]; rfl
  case h_6 h1 h2 h3 h4 h5 => rw [if_neg h1, if_neg h2, if_neg h3, if_neg h4, if_neg h5]; rfl

/-! ### Updates of tiles (R44, R52, R58) -/

/-- R63: a tile of whose commits none waits, and no string's, has nothing to apply at its update. -/
theorem chgApply_idle (t : Nat) (h : ∀ n, s.cpend (.chg n) = false) : chgApply t s = s := by
  have hnone : (List.range 8).filter
      (fun n => s.cpend (.chg n) && (s.chargers n).any (fun g => s.grpOuter g == t)) = [] := by
    rw [List.filter_eq_nil_iff]
    exact fun n _ => by rw [h n]; exact Bool.false_ne_true
  unfold chgApply
  rw [hnone, List.foldl_nil, ite_self]

/-- R42: an update is counted. -/
def countUpdate (t : Nat) (s : State) : State := s.fs (Fld.CMB_T_STAT_UPDCNT t) (s.fg (Fld.CMB_T_STAT_UPDCNT t) + 1)

section
variable {t : Nat} (sense : List Int) (balls : List Nat) (hruns : s.tileRuns t = true) (hidle : s.cpend (.tile t) = false)
include hruns hidle

theorem tileUpdate_lim (hkind : s.tileKind t = 2) : tileUpdate t sense balls s = countUpdate t (updateLim s t
    (srcValue s sense balls (fldOf (s.rd (Reg.CMB_T_IN t)) 0 16)) (srcValue s sense balls (fldOf (s.rd (Reg.CMB_T_IN t)) 16 16))
    (srcValue s sense balls (fldOf (s.rd (Reg.CMB_T_IN2 t)) 0 16))) := by
  simp only [tileUpdate, hruns, hidle, hkind, Bool.not_true, Bool.false_eq_true, if_false]
  rfl

theorem tileUpdate_mac (hkind : s.tileKind t = 5) : tileUpdate t sense balls s = countUpdate t (updateMac s t
    (srcValue s sense balls (fldOf (s.rd (Reg.CMB_T_IN t)) 0 16)) (srcValue s sense balls (fldOf (s.rd (Reg.CMB_T_IN t)) 16 16))
    (srcValue s sense balls (fldOf (s.rd (Reg.CMB_T_IN2 t)) 0 16))) := by
  simp only [tileUpdate, hruns, hidle, hkind, Bool.not_true, Bool.false_eq_true, if_false]
  rfl

end

/-- R47: saturation is the clamp to Q2.30, and happened where the clamp moved the value. -/
theorem satQ30_eq (v : Int) : satQ30 v =
    (max (-2147483648) (min v 2147483647), decide (max (-2147483648) (min v 2147483647) ≠ v)) := by
  unfold satQ30 q30Min q30Max
  split_ifs <;> refine Prod.ext ?_ ?_ <;> simp <;> omega

theorem tileSat_eq (t : Nat) (b : Bool) :
    s.tileSat t b = if b = true then s.fs (Fld.CMB_T_STAT_SAT t) 1 else s := rfl

/-- R58: one update in sum mode. -/
theorem updateMac_sum {t : Nat} (hmode : s.rd (tileBase t + 0x40) = 1) (in0 in1 in2 : Int) : updateMac s t in0 in1 in2 =
    let x := divRound (s.tp t 0x44 * in0 + s.tp t 0x48 * in1 + s.tp t 0x4C * 2 ^ 28) (2 ^ 28)
    let y := max (-2147483648) (min x 2147483647)
    if y = x then s.outputs t y 0 else (s.outputs t y 0).fs (Fld.CMB_T_STAT_SAT t) 1 := by
  have hsum : s.tn t 0x40 = 1 := by rw [State.tn, hmode]; rfl
  unfold updateMac
  extract_lets c0 c1 ofs mode x y
  rw [if_neg (hsum.trans_ne Nat.one_ne_zero), if_pos hsum, satQ30_eq]
  change (s.outputs t y 0).tileSat t (decide (y ≠ x)) = _
  simp only [tileSat_eq, decide_eq_true_eq, ite_not]

/-- Settles O17: the controls write what their rows name, and an update is one pass of its kind, then counted. -/
theorem tilesUpdate : Obligations.TilesUpdate := by
  refine ⟨⟨?clear, ?release, ?zero⟩, ?lim, ?mac⟩
  case clear =>
    intro p t s hreach hused hstopped h b
    refine (done_asWrite s p _ _ hreach.1 hreach.2).trans ?_
    have hheld : ¬ s.tileRuns t = true := by rw [hstopped]; exact Bool.false_ne_true
    rw [tileWrite_used s _ hused, clrState, if_neg hheld, tileClear_kinds]
  case release =>
    intro p t s hreach hkind
    refine (done_asWrite s p _ _ hreach.1 hreach.2).trans ?_
    rw [tileWrite_used s _ (by rw [State.tileUsed, hkind]; rfl), winClr, if_pos hkind]
  case zero =>
    intro p t s hreach hkind
    refine (done_asWrite s p _ _ hreach.1 hreach.2).trans ?_
    rw [tileWrite_used s _ (by rw [State.tileUsed, hkind]; rfl), macAccClr, if_pos hkind]
    rfl
  case lim =>
    intro t sense balls s hlive hruns hidle hstrings hkind
    refine (done_next _ hlive).trans ?_
    rw [chgApply_idle s t hstrings, tileUpdate_lim s sense balls hruns hidle hkind]
    rfl
  case mac =>
    intro t sense balls s hlive hruns hidle hstrings hkind hmode
    refine (done_next _ hlive).trans ?_
    rw [chgApply_idle s t hstrings, tileUpdate_mac s sense balls hruns hidle hkind, updateMac_sum s hmode]
    rfl

end Sys2Proof.Machine
end

section
/-!
PROOFS. Block resets (R65, R69, R435, R436): which blocks a mask names, what the reset of one block leaves, and its release.
-/
namespace Sys2Proof.Machine

variable (s : State)

/-! ### Bits of a word -/

theorem bitOf_toNat (w : Word) (i : Nat) (h : i < 32) : bitOf w.toNat i = w.getLsbD i := by
  rw [← getLsbD_mask w.toNat i h, BitVec.ofNat_toNat, BitVec.setWidth_eq]

theorem bitOf_fldOf (w : Word) (i : Nat) : bitOf w.toNat i = (fldOf w i 1 == 1) := rfl

/-- Setting one bit of a word is writing a field one bit wide. -/
theorem setBit_word (w : Word) (i : Nat) (b : Bool) :
    BitVec.ofNat 32 (setBit w.toNat i b) = fldPut w i 1 (boolNat b) := by
  have hle : fldOf w i 1 * 2 ^ i ≤ w.toNat :=
    (Nat.mul_le_mul_right _ (Nat.mod_le _ _)).trans (Nat.div_mul_le_self _ _)
  unfold setBit fldPut
  rw [bitOf_fldOf]
  obtain hbit | hbit : fldOf w i 1 = 0 ∨ fldOf w i 1 = 1 := by
    have := fldOf_lt w i 1
    omega
  · cases b <;> simp [hbit, boolNat]
  · rw [hbit, one_mul] at hle
    cases b <;> simp [hbit, boolNat, Nat.sub_add_cancel hle]

theorem bitOf_setBit (w : Word) (i j : Nat) (b : Bool) (hi : i < 32) :
    bitOf (BitVec.ofNat 32 (setBit w.toNat i b)).toNat j = if j = i then b else bitOf w.toNat j := by
  rw [setBit_word, bitOf_fldOf]
  split_ifs with h
  · rw [h, fldOf_put w i 1 _ (by omega)]
    cases b <;> rfl
  · rw [fldOf_put_other w i 1 _ j 1 (by omega) (by omega), bitOf_fldOf]

theorem setBit_false_word (w : Word) (i : Nat) (hi : i < 32) :
    BitVec.ofNat 32 (setBit w.toNat i false) = w &&& ~~~(1#32 <<< i) := by
  refine BitVec.eq_of_getLsbD_eq fun j hj => ?_
  rw [← bitOf_toNat _ j hj, bitOf_setBit w i j false hi, bitOf_toNat w j hj]
  simp only [BitVec.getLsbD_and, BitVec.getLsbD_not, BitVec.getLsbD_shiftLeft, BitVec.getLsbD_one, hj, decide_true,
    Bool.true_and]
  split_ifs with h
  · simp [h]
  · have : ¬ j < i → ¬ j - i = 0 := by omega
    by_cases hlt : j < i <;> simp_all

/-! ### The mask of a block reset (R435) -/

theorem bitsOf_mem {n m i : Nat} : i ∈ bitsOf n m ↔ i < n ∧ bitOf m i = true := by
  rw [bitsOf, List.mem_filter, List.mem_range]

theorem bitsOf_single : ∀ n ∈ resettable, bitsOf 32 (1#32 <<< n).toNat = [n] := by decide

theorem blockResetWrite_reserved {mask : Word} {n : Nat} (hn : n < 32) (hbit : mask.getLsbD n = true)
    (hres : n ∉ resettable) : blockResetWrite mask.toNat s = (stDecodeErr, s) := by
  have hmem : n ∈ bitsOf 32 mask.toNat := bitsOf_mem.2 ⟨hn, by rw [bitOf_toNat mask n hn, hbit]⟩
  have hany : (bitsOf 32 mask.toNat).any (fun n => !resettable.contains n) = true :=
    List.any_eq_true.2 ⟨n, hmem, by simpa using hres⟩
  unfold blockResetWrite
  rw [if_pos hany]

theorem blockResetWrite_single {n : Nat} (hn : n ∈ resettable) :
    blockResetWrite (1#32 <<< n).toNat s = (stOk, if s.inReset n = true then s else oneBlock n s) := by
  unfold blockResetWrite
  rw [bitsOf_single n hn]
  cases h : s.inReset n <;> simp [hn, h]

/-! ### What the reset of a block leaves (R65, R69, R436) -/

theorem resetRegs_rd_inside {lo hi a : Nat} (h : lo ≤ a ∧ a < hi) : (s.resetRegs lo hi).rd a = resetWord a :=
  kvGet_filter_gone resetWord s.regs _ a fun _ => decide_eq_false (by omega)

theorem resetRegs_rd_outside {lo hi a : Nat} (h : a < lo ∨ hi ≤ a) : (s.resetRegs lo hi).rd a = s.rd a :=
  kvGet_filter_other resetWord s.regs _ a fun _ => decide_eq_true h

/-- The blocks whose registers neither a fuse nor, without an image, anything else gives a value: TMR, CAN and WGL. -/
abbrev plainBlocks : List Nat := [0x05, 0x0D, 0x0E]

theorem slotReset_plain_rd {n : Nat} (hn : n ∈ plainBlocks) (himage : s.image = none) (a : Nat) :
    (slotReset n s).rd a = (s.resetRegs (65536 * n) (65536 * n + 65536)).rd a := by
  have hnone : (s.resetRegs (65536 * n) (65536 * n + 65536)).image = none := himage
  simp only [slotReset, setCaps_image, hnone, Option.isSome_none, Bool.false_eq_true, if_false]
  simp only [List.mem_cons, List.not_mem_nil, or_false] at hn
  rcases hn with rfl | rfl | rfl <;> rfl

theorem keepWords_rd_other {keep : List Nat} (old : State) {a : Nat} (h : a ∉ keep) : (keepWords keep old s).rd a = s.rd a := by
  unfold keepWords
  induction keep generalizing s with
  | nil => rfl
  | cons k r ih =>
    rw [List.foldl_cons, ih _ fun hr => h (List.mem_cons_of_mem k hr),
      rd_wr_other _ _ _ _ fun he => h (by rw [he]; exact List.mem_cons_self)]

/-- Every word but CAN's presence reads as the reset of the block's slot leaves it. -/
theorem blockEffect_plain_rd {n : Nat} (hn : n ∈ plainBlocks) (himage : s.image = none) {a : Nat}
    (hpres : ∀ k < 4, n ≠ 13 ∨ a ≠ Reg.CAN_PRES k) :
    (blockEffect n s).rd a = (s.resetRegs (65536 * n) (65536 * n + 65536)).rd a := by
  rw [← slotReset_plain_rd s hn himage]
  simp only [List.mem_cons, List.not_mem_nil, or_false] at hn
  rcases hn with rfl | rfl | rfl
  · rfl
  · refine keepWords_rd_other (slotReset 0x0D s) s fun h => ?_
    obtain ⟨k, hk, rfl⟩ := List.mem_map.1 h
    exact (hpres k (List.mem_range.1 hk)).elim (· rfl) (· rfl)
  · rfl

/-- R435: the block's bit of RST_BSTAT reads 1. -/
def markReset (n : Nat) (s : State) : State :=
  s.wr Reg.RST_BSTAT (BitVec.ofNat 32 (setBit (s.rd Reg.RST_BSTAT).toNat n true))

theorem oneBlock_plain {n : Nat} (hn : n ∈ plainBlocks) : oneBlock n s = blockEffect n (markReset n s) := by
  simp only [List.mem_cons, List.not_mem_nil, or_false] at hn
  rcases hn with rfl | rfl | rfl <;> rfl

theorem markReset_inReset {n : Nat} (hn : n < 32) (m : Nat) :
    (markReset n s).inReset m = if m = n then true else s.inReset m := by
  unfold State.inReset markReset
  rw [rd_wr_same, bitOf_setBit _ _ _ _ hn]

theorem oneBlock_plain_inReset {n : Nat} (hn : n ∈ plainBlocks) (himage : s.image = none) (m : Nat) :
    (oneBlock n s).inReset m = if m = n then true else s.inReset m := by
  have hslot : n < 32 ∧ (Reg.RST_BSTAT < 65536 * n ∨ 65536 * n + 65536 ≤ Reg.RST_BSTAT) ∧
      ∀ k < 4, n ≠ 13 ∨ Reg.RST_BSTAT ≠ Reg.CAN_PRES k := by
    revert n
    decide
  obtain ⟨hlt, hout, hpres⟩ := hslot
  rw [oneBlock_plain s hn, ← markReset_inReset s hlt m]
  unfold State.inReset
  rw [blockEffect_plain_rd (markReset n s) hn himage hpres, resetRegs_rd_outside _ hout]

theorem dropGroup_staging (g : Group) : (dropGroup g s).staging = s.staging.filter fun x => !(x.group == g) := by
  unfold dropGroup
  extract_lets u
  split
  · split <;> simp [u, State.unstage]
  · rfl

theorem dropGroup_commits (g : Group) : (dropGroup g s).commits = s.commits.filter fun x => !(x == g) := by
  unfold dropGroup
  extract_lets u
  split
  · split <;> simp [u, State.unstage]
  · rfl

theorem dropGroup_cpend (g : Group) : (dropGroup g s).cpend g = false := by
  unfold State.cpend
  rw [dropGroup_commits]
  simp

theorem dropGroup_joint_none (g : Group) (h : s.joint = none) : (dropGroup g s).joint = none := by
  unfold dropGroup
  extract_lets u
  have hu : u.joint = none := h
  rw [hu]
  exact hu

/-! ### The release of a block (R436) -/

theorem creditTime_image (u : Nat) : (creditTime u s).image = s.image := by
  unfold creditTime
  extract_lets t
  have hclass : t.image = s.image := foldl_field State.image _ (fun b n => by split <;> rfl) _ _
  split
  · exact hclass
  · refine (foldl_field State.image _ (fun b c => ?_) _ _).trans hclass
    split <;> rfl

theorem aclkTo_image (sub : Nat) : (aclkTo sub s).image = s.image := by
  unfold aclkTo
  split
  · rfl
  · exact creditTime_image _ _

theorem blockRelease_idle {n : Nat} (sub : Nat) (h : s.inReset n = false) : blockRelease n sub s = s := by
  rw [blockRelease, h]
  rfl

/-- With no image loaded the meter has nothing to restart. -/
theorem blockRelease_releases {n : Nat} (sub : Nat) (hn : n < 32) (h : s.inReset n = true)
    (hmeter : n ≠ 16 ∨ s.image = none) : blockRelease n sub s =
      ((aclkTo sub s).wr Reg.RST_BSTAT ((aclkTo sub s).rd Reg.RST_BSTAT &&& ~~~(1#32 <<< n))).raise 102 := by
  unfold blockRelease
  rw [h]
  simp only [Bool.not_true, Bool.false_eq_true, if_false, setBit_false_word _ n hn]
  congr 1
  split_ifs with h16
  · have himage : (aclkTo sub s).image = none := by rw [aclkTo_image, hmeter.resolve_left fun hne => hne h16]
    exact if_pos (Option.isNone_iff_eq_none.2 himage)
  · rfl

/-- Settles O47: the mask, the block's registers, its staging, its release and the isolation timeout. -/
theorem blocksReset : Obligations.BlocksReset := by
  refine ⟨?write, ?registers, ?staging, ?release, ?timeout⟩
  case write =>
    intro p mask s hreach
    have hexec : ∀ m : Word, exec (.blockReset p m) s = .next (finish (respond p (blockResetWrite m.toNat s).1 0
      (blockResetWrite m.toNat s).2)) := fun m => done_asWrite s p _ _ hreach.1 hreach.2
    refine ⟨?_, fun n hn => ⟨fun hin => ?_, fun hout => ?_⟩⟩
    · rintro ⟨n, hlt, hbit, hres⟩
      rw [hexec, blockResetWrite_reserved s hlt hbit hres]
    · rw [hexec, blockResetWrite_single s hn, if_pos hin]
    · rw [hexec, blockResetWrite_single s hn, if_neg (by rw [hout]; exact Bool.false_ne_true)]
  case registers =>
    intro n s hn himage t
    have hplain : n ∈ plainBlocks := by simpa using hn
    refine ⟨?_, fun m _ hm => ?_, fun a hlo hhi hpres => ?_⟩
    · rw [oneBlock_plain_inReset s hplain himage, if_pos rfl]
    · rw [oneBlock_plain_inReset s hplain himage, if_neg hm]
    · unfold t
      rw [oneBlock_plain s hplain, blockEffect_plain_rd (markReset n s) hplain himage hpres, resetRegs_rd_inside _ ⟨hlo, hhi⟩]
  case staging =>
    intro n s _ g _ t
    exact ⟨(stagedOf_of_dropped (dropGroup_staging s g)).1, dropGroup_cpend s g, dropGroup_joint_none s g⟩
  case release =>
    intro n sub s hlive
    constructor
    · intro hout
      refine (done_next _ hlive).trans ?_
      rw [blockRelease_idle s sub hout]
    · intro hin hmeter v
      refine (done_next _ hlive).trans ?_
      rw [blockRelease_releases s sub n.isLt hin hmeter]
  case timeout =>
    intro s hlive
    exact done_next _ hlive

end Sys2Proof.Machine
end

section
/-!
PROOFS. Operations on images (R88, R91): a PROGRAM of the only valid slot is refused.
-/
namespace Sys2Proof.Machine

/-- R91: a PROGRAM_A is HELD where slot A is the only valid slot. -/
theorem loadCtl_programA_held {s : State} (src : Nat) (hA : s.slotValid 0 = true) (hB : s.slotValid 1 = false) :
    loadCtl 2 src true s = (stHeld, s) := by
  simp [loadCtl, hA, hB]

/-- R91: how a host's PROGRAM_A that reaches the block ends. -/
theorem exec_imageProgramA {p : Port} (src : Fin 4) {s : State} (hreach : Reach p Reg.CMB_LOAD_CTL s) :
    exec (.imageProgramA p src false) s =
      .next (finish (respond p (loadCtl 2 src true s).1 0 (loadCtl 2 src true s).2)) := by
  have hexec : exec (.imageProgramA p src false) s = done s (asWrite p Reg.CMB_LOAD_CTL (loadCtl 2 src true) s) := rfl
  rw [hexec, done_asWrite s p _ _ hreach.1 hreach.2]

/-- After the boot, with no image loaded and MRAM's slot A alone valid: a committed record (R88) of an image of no bytes. -/
def onlySlotA : State :=
  (State.reset.setRst { State.reset.rst with firmware := true }).setMramBytes (slotRec 0)
    (makeRecord 1 [] ++ leBytes 4 slotCommit)

theorem onlySlotA_valid : onlySlotA.slotValid 0 = true ∧ onlySlotA.slotValid 1 = false := by decide +kernel

theorem onlySlotA_reach : Reach .spt Reg.CMB_LOAD_CTL onlySlotA ∧ onlySlotA.opRuns = false := by decide +kernel

/-- With slot A alone valid, a PROGRAM_A from SCRATCH starts nothing. -/
theorem exec_imageProgramA_onlySlotA :
    exec (.imageProgramA .spt 3 false) onlySlotA = .next (finish (respond .spt stHeld 0 onlySlotA)) := by
  obtain ⟨hA, hB⟩ := onlySlotA_valid
  rw [exec_imageProgramA 3 onlySlotA_reach.1, loadCtl_programA_held _ hA hB]

/-- Refutes O21: its clause on PROGRAM_A is met where slot A is valid and slot B is not, and there R91 refuses the GO. In
`onlySlotA` no operation is entered, where the statement has PROGRAM_A from SCRATCH entered. -/
theorem not_imagesTakeEffect : ¬ Obligations.ImagesTakeEffect := by
  unfold Obligations.ImagesTakeEffect
  rintro ⟨⟨hgo, -⟩, -⟩
  obtain ⟨hreach, hidle⟩ := onlySlotA_reach
  obtain ⟨-, -, -, hprogramA, -⟩ := (hgo .spt 3 onlySlotA hreach).1 hidle (by decide)
  have hclaim := hprogramA (by decide) fun _ => onlySlotA_valid.2
  rw [exec_imageProgramA_onlySlotA] at hclaim
  have hload := congrArg (fun t : State => t.nvm.load) (Host.Outcome.next.inj hclaim)
  rw [finish_quiet _ (by rw [respond_flt]; rfl), finish_quiet _ (by rw [respond_flt]; rfl), settle_nvm, settle_nvm,
    respond_nvm, respond_nvm] at hload
  exact absurd hload (by decide)

end Sys2Proof.Machine
end

section
/-!
PROOFS. Transactions of the host ports (R107, R108): the whole refusal, and the word at which a write stops.
-/
namespace Sys2Proof.Machine

variable (s : State)

/-! ### What is refused whole (R107) -/

/-- R107: not aligned, no words or more than 64, or not within one place of the address map. -/
theorem refusedWhole_iff (a n : Nat) : refusedWhole a n = true ↔
    a % 4 ≠ 0 ∨ n = 0 ∨ 64 < n ∨ placeOf a = none ∨ placeOf a ≠ placeOf (a + 4 * n - 1) := by
  simp only [refusedWhole, Bool.or_eq_true, bne_iff_ne, decide_eq_true_eq, Option.isNone_iff_eq_none, Nat.lt_one_iff]
  tauto

theorem writeTransaction_refused {a : Nat} {d : List Word} (vpp : Bool) (h : refusedWhole a d.length = true) :
    writeTransaction a d vpp s = ((stDecodeErr, 0), s) := if_pos h

theorem readTransaction_refused (p : Port) {a n : Nat} (bad : List Nat) (h : refusedWhole a n = true) :
    readTransaction p a n bad s = (stDecodeErr, List.replicate n 0, s) := if_pos h

/-! ### One word of a write (R108, R114) -/

/-- A word that does not complete with OK ends the write; the words after it are not looked at. -/
theorem writeWords_stop (vpp : Bool) (i a : Nat) (v : Word) (after : List Word) (h : (writeWord a v vpp s).1 ≠ stOk) :
    writeWords vpp i a (v :: after) s = (((writeWord a v vpp s).1, i), (writeWord a v vpp s).2) := by
  rcases hw : writeWord a v vpp s with ⟨_ | st, t⟩
  · exact absurd (congrArg Prod.fst hw) h
  · simp [writeWords, hw]

/-- A write that ends with OK and out of reset had OK for its first word, and went on out of reset. -/
theorem writeWords_cons_ok {vpp : Bool} {i a : Nat} {v : Word} {rest : List Word} {s' : State}
    (h : writeWords vpp i a (v :: rest) s = ((stOk, 0), s')) (hlive : s'.rst.asserted = false) :
    ∃ t, writeWord a v vpp s = (stOk, t) ∧ t.rst.asserted = false ∧
      writeWords vpp (i + 1) (a + 4) rest t = ((stOk, 0), s') := by
  rcases hw : writeWord a v vpp s with ⟨_ | st, t⟩
  · refine ⟨t, rfl, ?_⟩
    rw [writeWords, hw] at h
    cases ht : t.rst.asserted with
    | false => exact ⟨rfl, by simpa [ht] using h⟩
    | true =>
      have hsame : t = s' := by simpa [ht] using h
      rw [hsame, hlive] at ht
      exact absurd ht Bool.false_ne_true
  · simp [writeWords, hw, stOk] at h

theorem writeWords_next {vpp : Bool} (i : Nat) {a : Nat} {v : Word} (rest : List Word) {t : State}
    (h : writeWord a v vpp s = (stOk, t)) (hlive : t.rst.asserted = false) :
    writeWords vpp i a (v :: rest) s = writeWords vpp (i + 1) (a + 4) rest t := by
  have h0 : writeWord a v vpp s = (0, t) := h
  rw [writeWords, h0]
  simp [hlive]

/-- R108: after words that complete with OK, the first word that does not ends the write with its status and index. -/
theorem writeWords_append_stop (vpp : Bool) (before : List Word) (v : Word) (after : List Word) (i a : Nat) (s' : State)
    (hbefore : writeWords vpp i a before s = ((stOk, 0), s')) (hlive : s'.rst.asserted = false)
    (hstop : (writeWord (a + 4 * before.length) v vpp s').1 ≠ stOk) :
    writeWords vpp i a (before ++ v :: after) s =
      (((writeWord (a + 4 * before.length) v vpp s').1, i + before.length),
        (writeWord (a + 4 * before.length) v vpp s').2) := by
  induction before generalizing i a s with
  | nil =>
    obtain rfl : s = s' := congrArg Prod.snd hbefore
    exact writeWords_stop s vpp i a v after hstop
  | cons x r ih =>
    obtain ⟨t, hword, ht, hrest⟩ := writeWords_cons_ok s hbefore hlive
    have haddr : a + 4 * (x :: r).length = a + 4 + 4 * r.length := by rw [List.length_cons]; omega
    have hindex : i + (x :: r).length = i + 1 + r.length := by rw [List.length_cons]; omega
    rw [haddr] at hstop ⊢
    rw [hindex, List.cons_append, writeWords_next s i _ hword ht]
    exact ih t (i + 1) (a + 4) hrest hstop

/-- Settles O8, by induction on the words that complete with OK. -/
theorem transactionsStop : Obligations.TransactionsStop := by
  refine ⟨fun vpp before v after i a s s' => writeWords_append_stop s vpp before v after i a s',
    fun a d vpp s h => ?write, fun p a n bad s h => ?read⟩
  case write =>
    refine writeTransaction_refused s vpp ((refusedWhole_iff _ _).2 ?_)
    rwa [List.length_eq_zero_iff]
  case read => exact readTransaction_refused s p bad ((refusedWhole_iff _ _).2 h)

end Sys2Proof.Machine
end

section
/-!
PROOFS. Frames of the host ports (R108, R110, R115 to R126): how accepted writes and reads end, what a late read keeps, and
what a broken frame counts.
-/
namespace Sys2Proof.Machine

variable (s : State)

/-! ### Writes (R108, R117 to R119, R123, R124) -/

/-- R117 to R119: a TW0 write whose address, length and PEC are right. -/
theorem tw0Write_accepted {sa addr pecSent i : Nat} {data : List Byte} (vpp : Bool) (haddr : s.tw0Answers sa = some i)
    (hwords : data.length % 4 = 0) (hmin : 4 ≤ data.length) (hmax : data.length ≤ 256)
    (hpec : pec (BitVec.ofNat 8 (2 * sa) :: leBytes 3 addr ++ data) = pecSent) :
    tw0Write sa addr data pecSent false vpp s =
      acceptWrite .tw0 (addr % 2 ^ 24) (wordsOf (data.length / 4) data) vpp
        (tw0Ack (data.length + 4) (s.fs Fld.TWI_TW0_STAT_LASTADDR i)) := by
  have hlen : ¬ (false = true ∨ data.length % 4 ≠ 0 ∨ data.length < 4 ∨ 256 < data.length) := by simp; omega
  simp only [tw0Write, haddr, if_neg hlen, if_neg (not_not.2 hpec)]

/-- R123, R124: an SPT write frame with its whole data and a right check. -/
theorem sptWrite_accepted {addr cnt crc : Nat} {data : List Byte} (vpp : Bool) (hcnt : cnt < 64)
    (hlen : data.length = 4 * (cnt + 1)) (hcrc : crc16 (sptHeader 1 addr cnt ++ data) = crc) :
    sptWrite 1 addr cnt data crc vpp s = acceptWrite .spt (addr % 2 ^ 24) (wordsOf (cnt + 1) data) vpp s := by
  have hn : cnt % 256 + 1 = cnt + 1 := by omega
  have hdata : data.take (4 * (cnt + 1)) = data := List.take_of_length_le hlen.le
  have hmax : ¬ 64 < cnt + 1 := by omega
  simp [sptWrite, hn, hdata, hlen, hcrc, hmax]

theorem sptMode_eq (mode3 : Bool) : sptMode mode3 s = s.fs Fld.SPT_STAT_MODE3 (if mode3 then 1 else 0) := rfl

theorem exec_tw0Write (sa addr : Nat) (data : List Byte) (pecSent : Nat) (endSr vpp : Bool) (hlive : Live s) :
    exec (.tw0Write sa addr data pecSent endSr vpp) s = .next (finish (tw0Write sa addr data pecSent endSr vpp s)) :=
  done_next _ hlive

theorem exec_sptWrite (cmd addr cnt : Nat) (data : List Byte) (crc : Nat) (mode3 vpp : Bool)
    (hruns : s.portRuns .spt = true) : exec (.sptWrite cmd addr cnt data crc mode3 vpp) s =
      .next (finish (sptWrite cmd addr cnt data crc vpp (sptMode mode3 s))) := by
  refine (done_next _ (portRuns_live s hruns)).trans ?_
  rw [if_pos hruns]

/-- Settles O7: either port hands an accepted frame to `acceptWrite`. -/
theorem portWritesExecute : Obligations.PortWritesExecute := by
  refine ⟨?tw0, ?spt⟩
  case tw0 =>
    intro sa addr pecSent i data vpp s hlive haddr hwords hmin hmax hpec
    rw [exec_tw0Write s _ _ _ _ _ _ hlive, tw0Write_accepted s vpp haddr hwords hmin hmax hpec]
  case spt =>
    intro addr cnt crc data mode3 vpp s hruns hcnt hlen hcrc
    rw [exec_sptWrite s _ _ _ _ _ _ _ hruns, sptMode_eq, sptWrite_accepted _ vpp hcnt hlen hcrc]

/-! ### Reads (R110, R117, R118, R123, R124) -/

/-- A read within its bound, with nothing fetched before it that it could take up. -/
theorem acceptRead_inTime {p : Port} (a n : Nat) (bad : List Nat) (check : Nat → List Word → Nat)
    (hfetch : (s.port p).fetch = none) (hlive : (readTransaction p a n bad s).2.2.rst.asserted = false) :
    acceptRead p a n false bad check s =
      (readTransaction p a n bad s).2.2.answer p (readTransaction p a n bad s).1 (readTransaction p a n bad s).2.1
        (check (readTransaction p a n bad s).1 (readTransaction p a n bad s).2.1) none := by
  simp [acceptRead, hfetch, hlive]

/-- R110: a read that misses its bound answers BUSY with zeros, and its fetch goes on. -/
theorem acceptRead_late {p : Port} (a n : Nat) (bad : List Nat) (check : Nat → List Word → Nat)
    (hfetch : (s.port p).fetch = none) : acceptRead p a n true bad check s =
      s.answer p stBusy (List.replicate n 0) (check stBusy (List.replicate n 0)) (some (a, n, none)) := by
  simp [acceptRead, hfetch]

/-- R110: the repeat of a read whose fetch has ended returns what it fetched, zeros after it. -/
theorem acceptRead_fetched {p : Port} {a n st : Nat} {d : List Word} (bad : List Nat) (check : Nat → List Word → Nat)
    (hfetch : (s.port p).fetch = some (a, n, some (st, d))) : acceptRead p a n false bad check s =
      (fetchedEffects a d s).answer p st (d ++ List.replicate (n - d.length) 0)
        (check st (d ++ List.replicate (n - d.length) 0)) none := by
  simp [acceptRead, hfetch]

theorem answer_rst (p : Port) (st : Nat) (d : List Word) (check : Nat) (f : Option (Nat × Nat × Option (Nat × List Word))) :
    (s.answer p st d check f).rst = s.rst := setPort_rst s p _

theorem tw0Heard_fetch (i : Nat) : ((s.tw0Heard i).port .tw0).fetch = s.port0.fetch := by
  rw [State.port, State.tw0Heard, setPort0_port0]

theorem tw0Heard_rst (i : Nat) : (s.tw0Heard i).rst = s.rst := by
  rw [State.tw0Heard, setPort0_rst, State.fs_rst]

theorem fs_port1_fetch (f : Fld) (v : Nat) : ((s.fs f v).port .spt).fetch = s.port1.fetch := by
  rw [State.port, State.fs_port1]

/-- How a TW0 read whose answer leaves the device out of reset ends: the host clocks the answer in. -/
theorem exec_tw0Read {sa addr cnt i : Nat} {late : Bool} {bad : List Nat} (clocks : Nat) {t : State} (hlive : Live s)
    (haddr : s.tw0Answers sa = some i)
    (haccept : acceptRead .tw0 (addr % 2 ^ 24) (cnt % 256 + 1) late bad (tw0Pec sa addr cnt) (s.tw0Heard i) = t)
    (ht : t.rst.asserted = false) :
    exec (.tw0Read sa addr cnt late bad clocks) s = .next (finish (tw0Clock clocks t)) := by
  refine (done_next _ hlive).trans ?_
  simp only [tw0Read, haddr, haccept, ht, Bool.false_eq_true, if_false]

/-- R123: an SPT read frame of at most 64 words whose check is right. -/
theorem sptRead_accepted {addr cnt crc : Nat} (late : Bool) (bad : List Nat) (hcnt : cnt < 64)
    (hcrc : crc16 (sptHeader 2 addr cnt) = crc) :
    sptRead addr cnt crc late bad s = acceptRead .spt (addr % 2 ^ 24) (cnt + 1) late bad sptCrc s := by
  have hn : cnt % 256 + 1 = cnt + 1 := by omega
  have hmax : ¬ 64 < cnt + 1 := by omega
  simp [sptRead, hn, hcrc, hmax]

theorem exec_sptRead (addr cnt crc : Nat) (mode3 late : Bool) (bad : List Nat) (hruns : s.portRuns .spt = true) :
    exec (.sptRead addr cnt crc mode3 late bad) s =
      .next (finish (sptRead addr cnt crc late bad (sptMode mode3 s))) := by
  refine (done_next _ (portRuns_live s hruns)).trans ?_
  rw [if_pos hruns]

/-- R110: the fetch behind a BUSY answer ends, and its words are kept for the repeat. -/
theorem fetchComplete_keeps {p : Port} {a n : Nat} (bad : List Nat) (hfetch : (s.port p).fetch = some (a, n, none))
    (hlive : (fetchTransaction p a n bad s).2.2.rst.asserted = false) :
    fetchComplete p bad s = (fetchTransaction p a n bad s).2.2.setPort p
      { (fetchTransaction p a n bad s).2.2.port p with
        fetch := some (a, n, some ((fetchTransaction p a n bad s).1, (fetchTransaction p a n bad s).2.1)) } := by
  simp [fetchComplete, hfetch, hlive]

/-! ### What the host clocks in (R117) -/

theorem tw0Clock_sent (n : Nat) : (tw0Clock n s).port0.sent =
    (s.port0.sent ++ List.replicate (n - s.port0.sent.length) 0xFF).take n := rfl

theorem tw0Clock_sent_length (n : Nat) : (tw0Clock n s).port0.sent.length = n := by
  rw [tw0Clock_sent, List.length_take, List.length_append, List.length_replicate]
  omega

/-- Byte `k` that the host clocks in is the device's while it sends, and 0xFF after that. -/
theorem tw0Clock_sent_getElem (n k : Nat) (hk : k < n) :
    (tw0Clock n s).port0.sent[k]? = some (s.port0.sent.getD k 0xFF) := by
  rw [tw0Clock_sent, List.getElem?_take_of_lt hk, List.getD_eq_getElem?_getD]
  by_cases hsent : k < s.port0.sent.length
  · rw [List.getElem?_append_left hsent, List.getElem?_eq_getElem hsent, Option.getD_some]
  · have hbeyond : s.port0.sent.length ≤ k := not_lt.1 hsent
    rw [List.getElem?_append_right hbeyond, List.getElem?_replicate_of_lt (by omega),
      List.getElem?_eq_none hbeyond, Option.getD_none]

/-- Settles O9: each answer by what `acceptRead` does with the fetch of its port, and the two broken frames. -/
theorem portReadsAnswer : Obligations.PortReadsAnswer := by
  refine ⟨⟨?tw0, ?spt, ?fetch, ?late, ?repeated, ?clocked⟩, ?timeout, ?abandon⟩
  case tw0 =>
    intro sa addr cnt i clocks bad s hlive haddr hfetch r hr
    have haccept := acceptRead_inTime (s.tw0Heard i) (p := .tw0) (addr % 2 ^ 24) (cnt % 256 + 1) bad (tw0Pec sa addr cnt)
      ((tw0Heard_fetch s i).trans hfetch) hr
    exact exec_tw0Read s clocks hlive haddr haccept (by rwa [answer_rst])
  case spt =>
    intro addr cnt crc mode3 bad s hruns hfetch hcnt hcrc r hr
    rw [exec_sptRead s _ _ _ _ _ _ hruns, sptMode_eq, sptRead_accepted _ _ _ hcnt hcrc,
      acceptRead_inTime _ _ _ bad sptCrc ((fs_port1_fetch s _ _).trans hfetch) hr]
  case fetch =>
    intro p a n bad s hlive hfetch r hr
    refine (done_next _ hlive).trans ?_
    rw [fetchComplete_keeps s bad hfetch hr]
  case late =>
    intro sa addr cnt i clocks bad s hlive haddr hfetch
    have haccept := acceptRead_late (s.tw0Heard i) (p := .tw0) (addr % 2 ^ 24) (cnt % 256 + 1) bad (tw0Pec sa addr cnt)
      ((tw0Heard_fetch s i).trans hfetch)
    exact exec_tw0Read s clocks hlive haddr haccept (by rwa [answer_rst, tw0Heard_rst])
  case repeated =>
    intro sa addr cnt i st clocks bad d s hlive haddr hfetch u z hu
    have haccept := acceptRead_fetched (s.tw0Heard i) (p := .tw0) bad (tw0Pec sa addr cnt)
      ((tw0Heard_fetch s i).trans hfetch)
    exact exec_tw0Read s clocks hlive haddr haccept (by rwa [answer_rst])
  case clocked => exact fun n s => ⟨tw0Clock_sent_length s n, tw0Clock_sent_getElem s n⟩
  case timeout =>
    intro s hlive htmo
    refine (done_next _ hlive).trans ?_
    rw [tw0Timeout, if_pos htmo]
    rfl
  case abandon =>
    intro s hruns
    refine (done_next _ (portRuns_live s hruns)).trans ?_
    rw [if_pos hruns]
    rfl

end Sys2Proof.Machine
end

section
/-!
PROOFS. Queues (R131 to R137, R203): what a queue's configuration word and its doorbells do.
-/
namespace Sys2Proof.Machine

variable (s : State)

/-! ### Ring set-up (R132, R133, R137) -/

/-- A ring that is not enabled yet, and fits, is enabled with HEAD and TAIL 0. -/
theorem qcfgWrite_enable {q : Nat} {v : Word} (hoff : s.qEnabled q = false) (hen : bitOf v.toNat 0 = true)
    (hmin : 2 ≤ fldOf v 20 4) (hmax : fldOf v 20 4 ≤ 8)
    (hfits : s.ringFits q (ringSpan q (fldOf v 6 13) (fldOf v 20 4)) = true) :
    qcfgWrite q v s = (stOk, (s.wr (Reg.SYS_Q_CFG q) (v &&& 0x00F7FFC1)).wr (Reg.SYS_Q_PTR q) 0) := by
  have hlog : ¬ (fldOf v 20 4 < 2 ∨ 8 < fldOf v 20 4) := by omega
  simp only [qcfgWrite, hoff, hen, hfits, hlog, Bool.false_and, Bool.not_false, Bool.not_true, Bool.and_true,
    Bool.and_false, Bool.false_eq_true, if_false, if_true]

/-! ### Doorbells (R134, R203) -/

/-- The entries by which an index moves the pointer of queue `q` from `ptr`. -/
def qAdvance (q ptr index : Nat) (s : State) : Nat := (index + 2 * s.qDepth q - ptr) % (2 * s.qDepth q)

/-- The order engine takes doorbells: it has started and discards nothing. -/
abbrev EngineTakes (s : State) : Prop := s.fb Fld.ORD_STAT_DISCARDING = false ∧ s.ord.started = true

theorem oqDoorbell_busy {q index : Nat} (h : s.fb Fld.ORD_STAT_DISCARDING = true ∨ s.ord.started = false) :
    oqDoorbell q index s = (stBusy, s) := by
  have hbusy : s.fb Fld.ORD_STAT_DISCARDING = true ∨ (!s.ord.started) = true := by simpa using h
  rw [oqDoorbell, if_pos hbusy]

theorem oqDoorbell_held {q index : Nat} (htakes : EngineTakes s) (hload : s.loading = true) :
    oqDoorbell q index s = (stHeld, s) := by
  simp [oqDoorbell, htakes.1, htakes.2, hload]

theorem oqDoorbell_noEntry {q index : Nat} (htakes : EngineTakes s) (hload : s.loading = false)
    (h : s.qEnabled q = false ∨ 2 * s.qDepth q ≤ index) : oqDoorbell q index s = (stDecodeErr, s) := by
  have hno : (!s.qEnabled q) = true ∨ 2 * s.qDepth q ≤ index := by simpa using h
  simp only [oqDoorbell, htakes.1, htakes.2, hload, if_pos hno, Bool.false_eq_true, Bool.not_true, or_self, if_false]

theorem oqDoorbell_overfills {q index : Nat} (htakes : EngineTakes s) (hload : s.loading = false)
    (hen : s.qEnabled q = true) (hindex : index < 2 * s.qDepth q)
    (hover : s.qDepth q < s.qCount q + qAdvance q (s.fg (Fld.SYS_Q_PTR_TAIL q)) index s) :
    oqDoorbell q index s = (stDecodeErr, s.fs (Fld.SYS_Q_STAT_OVF q) 1) := by
  unfold qAdvance at hover
  simp [oqDoorbell, htakes.1, htakes.2, hload, hen, hindex, hover]

/-- R134, R203: an accepted OQ doorbell moves TAIL, submits the entries it covers, and wakes WATCH and DORMANT. -/
theorem oqDoorbell_accepted {q index : Nat} (htakes : EngineTakes s) (hload : s.loading = false)
    (hen : s.qEnabled q = true) (hindex : index < 2 * s.qDepth q)
    (hroom : s.qCount q + qAdvance q (s.fg (Fld.SYS_Q_PTR_TAIL q)) index s ≤ s.qDepth q) :
    oqDoorbell q index s = (stOk, (((s.fs (Fld.SYS_Q_PTR_TAIL q) index).setOrd
      { (s.fs (Fld.SYS_Q_PTR_TAIL q) index).ord with
        submitted := (s.fs (Fld.SYS_Q_PTR_TAIL q) index).ord.submitted ++
          List.replicate (qAdvance q (s.fg (Fld.SYS_Q_PTR_TAIL q)) index s) q }).wakeWatch.wakeDormant)) := by
  have hfits := not_lt.2 hroom
  unfold qAdvance at hfits ⊢
  simp only [oqDoorbell, htakes.1, htakes.2, hload, hen, not_le.2 hindex, hfits, Bool.false_eq_true, Bool.not_true,
    or_self, if_false]

theorem headDoorbell_accepted {q index : Nat} (hen : s.qEnabled q = true) (hindex : index < 2 * s.qDepth q)
    (hcount : qAdvance q (s.fg (Fld.SYS_Q_PTR_HEAD q)) index s ≤ s.qCount q) :
    headDoorbell q index s = (stOk, s.fs (Fld.SYS_Q_PTR_HEAD q) index) := by
  unfold qAdvance at hcount
  simp [headDoorbell, hen, hindex, hcount]

/-- How an OQ doorbell that reaches its queue ends. -/
theorem exec_oqDoorbell {p : Port} {q : Fin 32} {index : Nat} (hreach : Reach p (Reg.SYS_Q_DB q) s) (hindex : index < 512) :
    exec (.oqDoorbell p q index) s =
      .next (finish (respond p (oqDoorbell q index s).1 0 (oqDoorbell q index s).2)) := by
  refine (done_asWrite s p _ _ hreach.1 hreach.2).trans ?_
  rw [Nat.mod_eq_of_lt hindex]

theorem exec_headDoorbell {p : Port} {q : Fin 32} {index : Nat} (hreach : Reach p (Reg.SYS_Q_DB (q + 32)) s)
    (hindex : index < 512) : exec (.headDoorbell p q index) s =
      .next (finish (respond p (headDoorbell (q + 32) index s).1 0 (headDoorbell (q + 32) index s).2)) := by
  refine (done_asWrite s p _ _ hreach.1 hreach.2).trans ?_
  rw [Nat.mod_eq_of_lt hindex]

theorem exec_queueCfgWrite {p : Port} {q : Fin 64} (v : Word) (hreach : Reach p (Reg.SYS_Q_CFG q) s) :
    exec (.queueCfgWrite p q v) s = .next (finish (respond p (qcfgWrite q v s).1 0 (qcfgWrite q v s).2)) :=
  done_asWrite s p _ _ hreach.1 hreach.2

/-- Settles O12: each write by the case of its queue's rule that its conditions name. -/
theorem queuesMove : Obligations.QueuesMove := by
  refine ⟨?enable, ⟨?submit, ?consume⟩, ?refused⟩
  case enable =>
    intro p q v s hreach hoff hen hmin hmax hfits
    rw [exec_queueCfgWrite s v hreach, qcfgWrite_enable s hoff hen hmin hmax hfits]
  case submit =>
    intro p q index s hreach hdiscard hstarted hload hen hlt hindex hroom
    rw [exec_oqDoorbell s hreach hlt, oqDoorbell_accepted s ⟨hdiscard, hstarted⟩ hload hen hindex hroom]
    rfl
  case consume =>
    intro p q index s hreach hen hlt hindex hcount
    rw [exec_headDoorbell s hreach hlt, headDoorbell_accepted s hen hindex hcount]
  case refused =>
    intro p q index s hreach hlt
    rw [exec_oqDoorbell s hreach hlt]
    refine ⟨fun hbusy => ?_, fun hdiscard hstarted hload => ?_, fun hdiscard hstarted hload hno => ?_,
      fun hdiscard hstarted hload hen hindex hover => ?_⟩
    · rw [oqDoorbell_busy s hbusy]
    · rw [oqDoorbell_held s ⟨hdiscard, hstarted⟩ hload]
    · rw [oqDoorbell_noEntry s ⟨hdiscard, hstarted⟩ hload hno]
    · rw [oqDoorbell_overfills s ⟨hdiscard, hstarted⟩ hload hen hindex hover]

end Sys2Proof.Machine
end

section
/-!
PROOFS. Mailboxes of the keepers (R138, R188, R440): how a service starts and ends, and what handing out a key leaves.
-/
namespace Sys2Proof.Machine

variable (s : State)

/-! ### Services (R138) -/

theorem goWord_toNat (code : BitVec 16) : (goWord code).toNat = code.toNat + 65536 := by
  have := code.isLt
  rw [goWord, BitVec.toNat_ofNat, Nat.mod_eq_of_lt (by omega)]

theorem goWord_and (code : BitVec 16) : goWord code &&& 0xFFFF = BitVec.ofNat 32 code.toNat := by
  have hlt := code.isLt
  refine BitVec.eq_of_toNat_eq ?_
  have hmask : (code.toNat + 65536) &&& (2 ^ 16 - 1) = (code.toNat + 65536) % 2 ^ 16 := Nat.and_two_pow_sub_one_eq_mod _ 16
  rw [BitVec.toNat_and, goWord_toNat, BitVec.toNat_ofNat, Nat.mod_eq_of_lt (by omega : code.toNat < 2 ^ 32)]
  refine hmask.trans ?_
  omega

theorem goWord_code (code : BitVec 16) : fldOf (goWord code) 0 16 = code.toNat := by
  have := code.isLt
  rw [fldOf, goWord_toNat]
  omega

theorem goWord_go (code : BitVec 16) : bitOf (goWord code).toNat 16 = true := by
  have := code.isLt
  rw [goWord_toNat, bitOf, beq_iff_eq]
  omega

theorem keyClear_none {m : Nat} (h : s.keyed.contains m = false) : keyClear m s = s := by
  rw [keyClear, if_neg (by rw [h]; exact Bool.false_ne_true)]

/-- R138: a mailbox that a GO has made busy with a code. -/
def mailboxBusy (m : Nat) (code : BitVec 16) (s : State) : State :=
  (s.wr (Reg.KPR_MB_CTL m) (BitVec.ofNat 32 code.toNat)).fs (Fld.KPR_MB_STAT_BUSY m) 1

/-- R138: a GO of an idle mailbox that holds no key: NOP and unknown codes complete at once. -/
theorem mailboxCtl_go {m : Nat} (code : BitVec 16) (hidle : s.fb (Fld.KPR_MB_STAT_BUSY m) = false)
    (hkey : s.keyed.contains m = false) : mailboxCtl m (goWord code) s =
      if code.toNat = codeNop then (stOk, mailboxEnd m mbOk (mailboxBusy m code s))
      else if code.toNat = codeLdgKey ∨ code.toNat = codePrpKey then (stOk, mailboxBusy m code s)
      else (stOk, mailboxEnd m mbUnknown (mailboxBusy m code s)) := by
  simp only [mailboxCtl, hidle, keyClear_none s hkey, goWord_and, goWord_code, goWord_go, Bool.not_true,
    Bool.false_eq_true, if_false, mailboxBusy]

theorem mailboxCtl_nop {m : Nat} (hidle : s.fb (Fld.KPR_MB_STAT_BUSY m) = false) (hkey : s.keyed.contains m = false) :
    mailboxCtl m (goWord 0) s = (stOk, mailboxEnd m mbOk (mailboxBusy m 0 s)) := by
  have hnop : (0 : BitVec 16).toNat = codeNop := rfl
  rw [mailboxCtl_go s 0 hidle hkey, if_pos hnop]

theorem mailboxCtl_unknown {m : Nat} {code : BitVec 16} (hidle : s.fb (Fld.KPR_MB_STAT_BUSY m) = false)
    (hkey : s.keyed.contains m = false) (hnop : code ≠ 0) (hldg : code ≠ 0x0110) (hprp : code ≠ 0x0120) :
    mailboxCtl m (goWord code) s = (stOk, mailboxEnd m mbUnknown (mailboxBusy m code s)) := by
  have hnop' : code.toNat ≠ codeNop := fun h => hnop (BitVec.eq_of_toNat_eq h)
  have hserved : ¬ (code.toNat = codeLdgKey ∨ code.toNat = codePrpKey) := by
    rintro (h | h)
    · exact hldg (BitVec.eq_of_toNat_eq h)
    · exact hprp (BitVec.eq_of_toNat_eq h)
  rw [mailboxCtl_go s code hidle hkey, if_neg hnop', if_neg hserved]

theorem mailboxEvent_eq (m : Fin 4) : mailboxEvent m = ([32, 33, 48, 49] : List Nat).getD m 0 := by
  revert m
  decide

theorem mailboxEnd_eq (m : Fin 4) (res : Nat) : mailboxEnd m res s =
    ((s.fs (Fld.KPR_MB_STAT_RESULT m) res).fs (Fld.KPR_MB_STAT_BUSY m) 0).raise
      (([32, 33, 48, 49] : List Nat).getD m 0) := by
  rw [mailboxEnd, mailboxEvent_eq]

/-! ### Keys handed out (R188, R440) -/

/-- A field takes its own bits alone of what is put into it. -/
theorem fs_congr {f : Fld} {v w : Nat} (h : v % 2 ^ f.width = w % 2 ^ f.width) : s.fs f v = s.fs f w := by
  rw [State.fs, State.fs, fldPut, fldPut, h]

/-- The key in DATA0 to DATA7, least significant byte first. -/
def keyLoad (m : Nat) (key : List Byte) (s : State) : State :=
  (List.range 8).foldl (fun s i =>
    s.wr (Reg.KPR_MB_DATA m i) (BitVec.ofNat 32 (leNat ((key.drop (4 * i)).take 4)))) s

/-- The fuse of the service programmed, and its bit shown in LDG_KEYX. -/
def keyFused (fuse : Nat) (s : State) : State :=
  (s.setOtpWord 0x180 (BitVec.ofNat 32 (setBit (s.otpWord 0x180).toNat fuse true))).fs Fld.LDG_KEYX_DONE
    (setBit (s.otpWord 0x180).toNat fuse true)

/-- LDG_KEYX.DONE shows the low half of the fuse word as it then stands. -/
theorem keyFused_eq (fuse : Nat) : keyFused fuse s =
    let t := s.setOtpWord 0x180 (BitVec.ofNat 32 (setBit (s.otpWord 0x180).toNat fuse true))
    t.fs Fld.LDG_KEYX_DONE (t.otpWord 0x180).toNat := by
  refine fs_congr _ ?_
  rw [otpWord_set, if_pos rfl, BitVec.toNat_ofNat]
  exact (Nat.mod_mod_of_dvd _ (pow_dvd_pow 2 (by decide : Fld.LDG_KEYX_DONE.width ≤ 32))).symm

/-- R188: a key that no fuse refuses, and whose own fuse takes its programming, is handed out. -/
theorem keyExport_ok {m fuse : Nat} (key : List Byte) (hallowed : bitOf (s.otpWord 2).toNat 9 = true)
    (hfirst : bitOf (s.otpWord 0x180).toNat fuse = false) : keyExport m fuse true key s =
      mailboxEnd m mbOk ((keyLoad m key (keyFused fuse s)).setKeyed
        ((keyLoad m key (keyFused fuse s)).keyed.filter (fun x => x != m) ++ [m])) := by
  rw [keyFused_eq]
  simp only [keyExport, hallowed, hfirst, Bool.not_true, Bool.false_eq_true, if_false, keyLoad]

theorem ldgKeyExport_serving {m : Nat} (ok : Bool) (h : s.serving m 0x0110 = true) : ldgKeyExport m ok s =
    keyExport m (fldOf (s.rd (Reg.KPR_MB_DATA m 0)) 0 4) ok (s.kLc (fldOf (s.rd (Reg.KPR_MB_DATA m 0)) 0 4)) s := by
  rw [ldgKeyExport, h]
  rfl

theorem prpKeyExport_serving {m : Nat} (ok : Bool) (h : s.serving m 0x0120 = true) :
    prpKeyExport m ok s = keyExport m 16 ok s.kPrp s := by
  rw [prpKeyExport, h]
  rfl

/-- Settles O13: the two codes that complete at once, the timeout, and the two keys. -/
theorem mailboxServes : Obligations.MailboxServes := by
  refine ⟨⟨?nop, ?unknown, ?timeout⟩, ?ldg, ?prp⟩
  case nop =>
    intro p m s hreach hidle hkey
    refine (done_asWrite s p _ _ hreach.1 hreach.2).trans ?_
    rw [mailboxCtl_nop s hidle hkey, mailboxEnd_eq, mailboxBusy]
    rfl
  case unknown =>
    intro p m code s hreach hidle hkey hnop hldg hprp
    refine (done_asWrite s p _ _ hreach.1 hreach.2).trans ?_
    rw [mailboxCtl_unknown s hidle hkey hnop hldg hprp, mailboxEnd_eq, mailboxBusy]
  case timeout =>
    intro m s hlive hbusy
    refine (done_next _ hlive).trans ?_
    rw [mailboxLate, if_pos hbusy, mailboxEnd_eq]
  case ldg =>
    intro m s hlive hserves hallowed hfirst
    refine (done_next _ hlive).trans ?_
    rw [ldgKeyExport_serving s true hserves, keyExport_ok s _ hallowed hfirst, mailboxEnd_eq]
    rfl
  case prp =>
    intro m s hlive hserves hallowed hfirst
    refine (done_next _ hlive).trans ?_
    rw [prpKeyExport_serving s true hserves, keyExport_ok s _ hallowed hfirst, mailboxEnd_eq]
    rfl

end Sys2Proof.Machine
end

section
/-!
PROOFS. TW1 (R128 to R130): the receive buffer, controller transfers and how each ends, and target mode.
-/
namespace Sys2Proof.Machine

variable (s : State)

/-! ### Bytes of a word (R8) -/

/-- Byte `i` of the number that bytes stand for is byte `i`. -/
theorem leNat_byte (b : List Byte) (i : Nat) : leNat b / 2 ^ (8 * i) % 2 ^ 8 = (b.getD i 0).toNat := by
  induction b generalizing i with
  | nil => simp [leNat]
  | cons x r ih =>
    have hx := x.isLt
    cases i with
    | zero => simp only [leNat, List.getD_cons_zero]; omega
    | succ i =>
      have hpow : 2 ^ (8 * (i + 1)) = 256 * 2 ^ (8 * i) := by rw [Nat.mul_add, pow_add, Nat.mul_comm]; rfl
      have hrest : (x.toNat + 256 * leNat r) / 256 = leNat r := by omega
      rw [leNat, hpow, ← Nat.div_div_eq_div_mul, hrest, ih, List.getD_cons_succ]

/-- A field within a word of 32 bits does not see what was cut off above them. -/
theorem fldOf_ofNat (n : Nat) {lo width : Nat} (h : lo + width ≤ 32) :
    fldOf (BitVec.ofNat 32 n) lo width = n / 2 ^ lo % 2 ^ width := by
  have hdvd : 2 ^ (lo + width) ∣ 2 ^ 32 := pow_dvd_pow 2 h
  rw [fldOf, BitVec.toNat_ofNat, ← Nat.mod_mul_right_div_self, ← Nat.mod_mul_right_div_self, ← pow_add,
    Nat.mod_mod_of_dvd _ hdvd]

theorem fldOf_leNat (b : List Byte) {i : Nat} (h : i < 4) :
    fldOf (BitVec.ofNat 32 (leNat b)) (8 * i) 8 = (b.getD i 0).toNat := by
  rw [fldOf_ofNat _ (by omega), leNat_byte]

/-! ### The receive buffer (R128, R130) -/

/-- The bytes of `b` that word `n` of the receive buffer takes. -/
def rxChunk (b : List Byte) (n : Nat) : List Byte := ((b.take 32).drop (4 * n)).take 4

/-- Word `n` of the receive buffer after bytes came in; bytes beyond the last keep what stood there. -/
def rxWord (b : List Byte) (n : Nat) (s : State) : Word :=
  BitVec.ofNat 32 (leNat (rxChunk b n ++ (leBytes 4 (s.rd (Reg.TWI_TW1_RX n)).toNat).drop (rxChunk b n).length))

/-- The first `n` words of the receive buffer take their bytes. -/
def rxFill (b : List Byte) (n : Nat) (s : State) : State :=
  (List.range n).foldl (fun s n => s.wr (Reg.TWI_TW1_RX n) (rxWord b n s)) s

theorem rxStore_eq (b : List Byte) : rxStore b s =
    (rxFill b ((min 32 b.length + 3) / 4) s).fs Fld.TWI_TW1_STAT_RXCNT (min 32 b.length) := rfl

theorem rxFill_succ (b : List Byte) (n : Nat) :
    rxFill b (n + 1) s = (rxFill b n s).wr (Reg.TWI_TW1_RX n) (rxWord b n (rxFill b n s)) := by
  rw [rxFill, List.range_succ, List.foldl_append]
  rfl

theorem rxFill_rd_other (b : List Byte) (n : Nat) {a : Nat} (h : ∀ k, a ≠ Reg.TWI_TW1_RX k) :
    (rxFill b n s).rd a = s.rd a := by
  induction n with
  | zero => rfl
  | succ n ih => rw [rxFill_succ, rd_wr_other _ _ _ _ (h n), ih]

/-- A word that was filled holds its bytes over what stood there at some point before. -/
theorem rxFill_rd (b : List Byte) {n k : Nat} (h : k < n) :
    ∃ t, (rxFill b n s).rd (Reg.TWI_TW1_RX k) = rxWord b k t := by
  induction n with
  | zero => exact absurd h (Nat.not_lt_zero k)
  | succ n ih =>
    rw [rxFill_succ]
    rcases Nat.lt_succ_iff_lt_or_eq.1 h with hlt | rfl
    · rw [rd_wr_other _ _ _ _ (by unfold Reg.TWI_TW1_RX; omega)]
      exact ih hlt
    · exact ⟨_, rd_wr_same _ _ _⟩

theorem rxFill_tw1 (b : List Byte) (n : Nat) : (rxFill b n s).tw1 = s.tw1 :=
  foldl_field State.tw1 _ (fun t _ => State.wr_tw1 t _ _) _ _

theorem rxStore_tw1 (b : List Byte) : (rxStore b s).tw1 = s.tw1 := by
  rw [rxStore_eq, State.fs_tw1, rxFill_tw1]

theorem rxStore_rd_other (b : List Byte) {a : Nat} (hstat : a ≠ Reg.TWI_TW1_STAT) (h : ∀ k, a ≠ Reg.TWI_TW1_RX k) :
    (rxStore b s).rd a = s.rd a := by
  rw [rxStore_eq, rd_fs_other _ _ _ _ hstat, rxFill_rd_other s b _ h]

/-- RXCNT counts the bytes that came in. -/
theorem rxStore_count {b : List Byte} (h : b.length ≤ 32) : (rxStore b s).fg Fld.TWI_TW1_STAT_RXCNT = b.length := by
  have hwidth : b.length < 2 ^ Fld.TWI_TW1_STAT_RXCNT.width := lt_of_le_of_lt h (by decide)
  rw [rxStore_eq, fg_fs_same _ _ _ (by decide), Nat.min_eq_right h, Nat.mod_eq_of_lt hwidth]

/-- Byte `i` of the bytes of word `n` is byte 4 · n + i of all that came in. -/
theorem rxChunk_getD {b rest : List Byte} (h : b.length ≤ 32) {n i : Nat} (hi : i < 4) (hb : 4 * n + i < b.length) :
    (rxChunk b n ++ rest).getD i 0 = b.getD (4 * n + i) 0 := by
  have hchunk : rxChunk b n = (b.drop (4 * n)).take 4 := by rw [rxChunk, List.take_of_length_le h]
  have hlt : i < (rxChunk b n).length := by
    rw [hchunk, List.length_take, List.length_drop]
    omega
  rw [List.getD_append _ _ _ _ hlt, List.getD_eq_getElem?_getD, hchunk, List.getElem?_take_of_lt hi, List.getElem?_drop,
    ← List.getD_eq_getElem?_getD]

/-- Every byte that came in stands in its place of the receive buffer. -/
theorem rxStore_byte {b : List Byte} (h : b.length ≤ 32) {k : Nat} (hk : k < b.length) :
    fldOf ((rxStore b s).rd (Reg.TWI_TW1_RX (k / 4))) (8 * (k % 4)) 8 = (b.getD k 0).toNat := by
  have hword : k / 4 < (min 32 b.length + 3) / 4 := by omega
  have hstat : Reg.TWI_TW1_RX (k / 4) ≠ Fld.TWI_TW1_STAT_RXCNT.addr := by
    simp only [Reg.TWI_TW1_RX, Fld.TWI_TW1_STAT_RXCNT]
    omega
  obtain ⟨t, ht⟩ := rxFill_rd s b hword
  rw [rxStore_eq, rd_fs_other _ _ _ _ hstat, ht, rxWord, fldOf_leNat _ (by omega),
    rxChunk_getD h (by omega) (by omega), Nat.div_add_mod]

/-! ### What a transfer sends and covers (R118, R128) -/

theorem txBytes_congr {s t : State} (h : ∀ n < 8, t.rd (Reg.TWI_TW1_TX n) = s.rd (Reg.TWI_TW1_TX n)) :
    t.txBytes = s.txBytes := by
  refine List.flatMap_congr fun n hn => ?_
  rw [h n (List.mem_range.1 hn)]

/-- The PEC of a read is taken over the transmit buffer and TWI_TW1_CTL as the transfer found it. -/
theorem tw1Covered_congr {s t : State} (rx : List Byte) (hctl : t.tw1.ctl = s.tw1.ctl)
    (htx : ∀ n < 8, t.rd (Reg.TWI_TW1_TX n) = s.rd (Reg.TWI_TW1_TX n)) : t.tw1Covered rx = s.tw1Covered rx := by
  simp only [State.tw1Covered, hctl, txBytes_congr htx]

/-- R118: what TW1 sends in a transfer that only writes. -/
theorem tw1Frame_write (hread : fldOf s.tw1.ctl 16 6 = 0) (hwrite : 0 < fldOf s.tw1.ctl 8 6) :
    s.tw1Frame =
      let first := BitVec.ofNat 8 (2 * fldOf s.tw1.ctl 0 7) :: s.txBytes.take (fldOf s.tw1.ctl 8 6)
      if fldOf s.tw1.ctl 7 1 = 1 then first ++ [BitVec.ofNat 8 (pec first)] else first := by
  simp only [State.tw1Frame, hread, hwrite, lt_self_iff_false, if_false, true_and]

/-! ### Starting a transfer (R128) -/

/-- The bits of TWI_TW1_CTL that stay after GO. -/
abbrev ctlMask : Word := 0x003F3FFF

/-- A write of TWI_TW1_CTL with GO. -/
abbrev ctlGo (v : Word) : Word := v ||| 0x01000000

theorem ctlGo_go (v : Word) : bitOf (ctlGo v).toNat 24 = true := by
  rw [bitOf_toNat _ 24 (by decide), BitVec.getLsbD_or, Bool.or_eq_true]
  exact .inr (by decide)

theorem ctlGo_kept (v : Word) : ctlGo v &&& ctlMask = v &&& ctlMask := by
  have hapart : (0x01000000 : Word) &&& ctlMask = 0#32 := by decide
  refine BitVec.eq_of_getLsbD_eq fun i _ => ?_
  have hbit : ((0x01000000 : Word).getLsbD i && ctlMask.getLsbD i) = false := by
    rw [← BitVec.getLsbD_and, hapart, BitVec.getLsbD_zero]
  rw [BitVec.getLsbD_and, BitVec.getLsbD_and, BitVec.getLsbD_or, Bool.and_or_distrib_right, hbit, Bool.or_false]

theorem fldOf_extract (w : Word) (lo n : Nat) : fldOf w lo n = (w.extractLsb' lo n).toNat := by
  rw [BitVec.extractLsb'_toNat, Nat.shiftRight_eq_div_pow]
  rfl

/-- A field that bit 24 lies outside of. -/
theorem ctlGo_fldOf (v : Word) {lo n : Nat} (h : (0x01000000 : Word).extractLsb' lo n = 0#n) :
    fldOf (ctlGo v) lo n = fldOf v lo n := by
  rw [fldOf_extract, fldOf_extract, ctlGo, BitVec.extractLsb'_or, h, BitVec.or_zero]

theorem tw1Ctl_busy (v : Word) (hbusy : s.fb Fld.TWI_TW1_STAT_BUSY = true) : tw1Ctl (ctlGo v) s = (stBusy, s) := by
  simp only [tw1Ctl, ctlGo_go, hbusy, Bool.and_self, if_true]

theorem tw1Ctl_badLength (v : Word) (hidle : s.fb Fld.TWI_TW1_STAT_BUSY = false)
    (h : 32 < fldOf v 8 6 ∨ 32 < fldOf v 16 6) : tw1Ctl (ctlGo v) s = (stDecodeErr, s) := by
  have hlen : 32 < fldOf (ctlGo v) 8 6 ∨ 32 < fldOf (ctlGo v) 16 6 := by
    rwa [ctlGo_fldOf v (by decide), ctlGo_fldOf v (by decide)]
  simp only [tw1Ctl, hidle, hlen, Bool.and_false, Bool.false_eq_true, if_false, if_true]

/-- R128: an accepted GO keeps its word, and starts the transfer while the port is enabled. -/
theorem tw1Ctl_accepted (v : Word) (hidle : s.fb Fld.TWI_TW1_STAT_BUSY = false) (hw : fldOf v 8 6 ≤ 32)
    (hr : fldOf v 16 6 ≤ 32) : tw1Ctl (ctlGo v) s =
      (stOk, if s.fb Fld.TWI_TW1_CFG_EN = true then
        ((s.wr Reg.TWI_TW1_CTL (v &&& ctlMask)).setTw1
          { s.tw1 with ctl := v &&& ctlMask, left := s.fg Fld.TWI_TW1_CFG_RETRY }).fs Fld.TWI_TW1_STAT_BUSY 1
        else s.wr Reg.TWI_TW1_CTL (v &&& ctlMask)) := by
  have hlen : ¬ (32 < fldOf (ctlGo v) 8 6 ∨ 32 < fldOf (ctlGo v) 16 6) := by
    rw [ctlGo_fldOf v (by decide), ctlGo_fldOf v (by decide)]
    omega
  have hcfg : ∀ f : Fld, f.addr = Fld.TWI_TW1_CFG_EN.addr →
      (s.wr Reg.TWI_TW1_CTL (v &&& ctlMask)).fg f = s.fg f :=
    fun f hf => fg_wr_other _ _ _ _ (by rw [hf]; decide)
  have hen := fb_of_fg _ (hcfg Fld.TWI_TW1_CFG_EN rfl)
  have hretry := hcfg Fld.TWI_TW1_CFG_RETRY rfl
  have hkept : ctlGo v &&& (0x003F3FFF : Word) = v &&& ctlMask := ctlGo_kept v
  simp only [tw1Ctl, hidle, hlen, hkept, ctlGo_go, hen, hretry, Bool.and_false, Bool.true_and, Bool.false_eq_true,
    if_false, State.wr_tw1, apply_ite (Prod.mk stOk)]

theorem exec_tw1TransferGo {p : Port} (v : Word) (hreach : Reach p Reg.TWI_TW1_CTL s) :
    exec (.tw1TransferGo p v) s =
      .next (finish (respond p (tw1Ctl (ctlGo v) s).1 0 (tw1Ctl (ctlGo v) s).2)) :=
  done_asWrite s p _ _ hreach.1 hreach.2

/-! ### The end of a transfer (R128, R129) -/

/-- The transfer has ended with DONE, and has sent `out`. -/
def tw1Ended (out : List Byte) (s : State) : State := (tw1End s).setTw1 { s.tw1 with out := out }

theorem tw1End_rd_other {a : Nat} (h : a ≠ Reg.TWI_TW1_STAT) : (tw1End s).rd a = s.rd a := by
  rw [tw1End, rd_fs_other _ _ _ _ h, rd_fs_other _ _ _ _ h]

theorem tw1Ended_rd_other (out : List Byte) {a : Nat} (h : a ≠ Reg.TWI_TW1_STAT) : (tw1Ended out s).rd a = s.rd a :=
  (rd_congr (setTw1_regs _ _) a).trans (tw1End_rd_other s h)

theorem tw1Ended_ctl (out : List Byte) : (tw1Ended out s).tw1.ctl = s.tw1.ctl := by
  rw [tw1Ended, setTw1_tw1]

/-- The bytes that a read brought in leave what its PEC covers. -/
theorem tw1Covered_received (b out rx : List Byte) :
    (rxStore b (tw1Ended out s)).tw1Covered rx = s.tw1Covered rx := by
  refine tw1Covered_congr rx (by rw [rxStore_tw1, tw1Ended_ctl]) fun n hn => ?_
  have hstat : Reg.TWI_TW1_TX n ≠ Reg.TWI_TW1_STAT := by simp only [Reg.TWI_TW1_TX, Reg.TWI_TW1_STAT]; omega
  have hrx : ∀ k, Reg.TWI_TW1_TX n ≠ Reg.TWI_TW1_RX k := fun k => by
    simp only [Reg.TWI_TW1_TX, Reg.TWI_TW1_RX]
    omega
  rw [rxStore_rd_other _ b hstat hrx, tw1Ended_rd_other s out hstat]

theorem tw1Done_idle (nack : Option Nat) (rx : List Byte) (hidle : s.fb Fld.TWI_TW1_STAT_BUSY = false) :
    tw1Done nack rx s = s := by
  rw [tw1Done, hidle]
  rfl

/-- A byte without acknowledge ends the transfer; it is the last byte sent. -/
theorem tw1Done_nack (k : Nat) (rx : List Byte) (hbusy : s.fb Fld.TWI_TW1_STAT_BUSY = true) :
    tw1Done (some k) rx s = (tw1Ended (s.tw1Frame.take (k + 1)) s).fs Fld.TWI_TW1_STAT_NACK 1 := by
  rw [tw1Done, hbusy]
  rfl

theorem tw1Done_written (rx : List Byte) (hbusy : s.fb Fld.TWI_TW1_STAT_BUSY = true) (hread : fldOf s.tw1.ctl 16 6 = 0) :
    tw1Done none rx s = tw1Ended s.tw1Frame s := by
  have hn : fldOf (tw1Ended s.tw1Frame s).tw1.ctl 16 6 = 0 := by rw [tw1Ended_ctl, hread]
  rw [tw1Done, hbusy]
  exact if_pos hn

/-- R118: the transfer carries a PEC, and the byte after a read's bytes is another. -/
abbrev PecWrong (rx : List Byte) (s : State) : Prop :=
  fldOf s.tw1.ctl 7 1 = 1 ∧
    (rx.getD (fldOf s.tw1.ctl 16 6) 0).toNat ≠ pec (s.tw1Covered (rx.take (fldOf s.tw1.ctl 16 6)))

/-- A read's bytes come in, whether its PEC is right or not. -/
theorem tw1Done_read (rx : List Byte) (hbusy : s.fb Fld.TWI_TW1_STAT_BUSY = true) (hread : fldOf s.tw1.ctl 16 6 ≠ 0) :
    tw1Done none rx s =
      if PecWrong rx s then
        ((rxStore (rx.take (fldOf s.tw1.ctl 16 6)) (tw1Ended s.tw1Frame s)).fs Fld.TWI_TW1_STAT_PECFAIL 1).driveLine 27
      else rxStore (rx.take (fldOf s.tw1.ctl 16 6)) (tw1Ended s.tw1Frame s) := by
  have hctl : ((tw1End s).setTw1 { s.tw1 with out := s.tw1Frame }).tw1.ctl = s.tw1.ctl := tw1Ended_ctl s _
  have hcov := tw1Covered_received s (rx.take (fldOf s.tw1.ctl 16 6)) s.tw1Frame (rx.take (fldOf s.tw1.ctl 16 6))
  rw [tw1Ended] at hcov
  simp only [tw1Done, hbusy, hctl, hread, hcov, rxStore_tw1, tw1Ended, Option.isSome_none, Bool.not_true,
    Bool.false_eq_true, if_false]

/-! ### Arbitration (R129) -/

theorem tw1Arbitration_condition (own : Option (Sum (List Byte) Nat)) (hbusy : s.fb Fld.TWI_TW1_STAT_BUSY = true) :
    tw1Arbitration true own s = (tw1End s).fs Fld.TWI_TW1_STAT_ARB_COND 1 := by
  unfold tw1Arbitration
  rw [hbusy]
  rfl

theorem tw1Arbitration_retry (hbusy : s.fb Fld.TWI_TW1_STAT_BUSY = true) :
    tw1Arbitration false none s =
      if s.tw1.left = 0 then (tw1End s).fs Fld.TWI_TW1_STAT_ARB 1 else s.setTw1 { s.tw1 with left := s.tw1.left - 1 } := by
  rw [tw1Arbitration, hbusy]
  rfl

theorem tw1Arbitration_own (b : List Byte) (hbusy : s.fb Fld.TWI_TW1_STAT_BUSY = true) :
    tw1Arbitration false (some (.inl b)) s = tw1Written b ((tw1End s).fs Fld.TWI_TW1_STAT_ARB 1) := by
  rw [tw1Arbitration, hbusy]
  rfl

/-- Settles O60: the GO, each end of a transfer, the bytes it sends, arbitration, target mode and the timeout. -/
theorem tw1Transfers : Obligations.Tw1Transfers := by
  refine ⟨?go, ?done, ?frame, ?arbitration, ?target, ?timeout, ?buffer⟩
  case go =>
    intro p v s hreach w t
    rw [exec_tw1TransferGo s v hreach]
    refine ⟨fun hbusy => ?_, fun hidle hlen => ?_, fun hidle hw hr => ?_⟩
    · rw [tw1Ctl_busy s v hbusy]
    · rw [tw1Ctl_badLength s v hidle hlen]
    · rw [tw1Ctl_accepted s v hidle hw hr]
      refine ⟨fun hen => ?_, fun hen => ?_⟩
      · rw [if_pos hen]
        rfl
      · rw [if_neg (by rw [hen]; exact Bool.false_ne_true)]
        rfl
  case done =>
    intro rx s hlive e n
    have hexec : ∀ nack, exec (.tw1TransferDone nack rx) s = .next (finish (tw1Done nack rx s)) :=
      fun nack => done_next _ hlive
    refine ⟨fun nack hidle => ?_, fun hbusy => ⟨fun k => ?_, fun hn => ?_, fun hn hpec => ?_, fun hn hpec hbad => ?_⟩⟩
    · rw [hexec, tw1Done_idle s nack rx hidle]
    · rw [hexec, tw1Done_nack s k rx hbusy]
      rfl
    · rw [hexec, tw1Done_written s rx hbusy hn]
      rfl
    · have hgood : ¬ PecWrong rx s := by
        rcases hpec with hnone | hsame
        · omega
        · exact fun h => h.2 hsame
      rw [hexec, tw1Done_read s rx hbusy hn, if_neg hgood]
      rfl
    · rw [hexec, tw1Done_read s rx hbusy hn, if_pos ⟨hpec, hbad⟩]
      rfl
  case frame =>
    intro s a w
    refine ⟨fun hread hwrite hpec => ?_, fun hread hwrite hpec => ?_⟩
    · rw [tw1Frame_write s hread hwrite]
      exact if_pos hpec
    · rw [tw1Frame_write s hread hwrite]
      exact if_neg (by omega)
  case arbitration =>
    intro s hlive hbusy e
    have hexec : ∀ stop own, exec (.tw1ArbitrationLost stop own) s = .next (finish (tw1Arbitration stop own s)) :=
      fun stop own => done_next _ hlive
    refine ⟨fun own => ?_, fun hleft => ?_, fun hleft => ?_, fun b => ?_⟩
    · rw [hexec, tw1Arbitration_condition s own hbusy]
      rfl
    · rw [hexec, tw1Arbitration_retry s hbusy, if_pos hleft]
      rfl
    · rw [hexec, tw1Arbitration_retry s hbusy, if_neg hleft]
    · rw [hexec, tw1Arbitration_own s b hbusy]
      rfl
  case target =>
    intro b n s hlive
    have hwrite : exec (.tw1TargetWrite b) s = .next (finish (tw1Written b s)) := done_next _ hlive
    have hread : exec (.tw1TargetRead n) s = .next (finish (tw1Read n s)) := done_next _ hlive
    rw [hwrite, hread, tw1Written, tw1Read]
    refine ⟨fun hanswers => ?_, fun hsilent => ?_⟩
    · rw [if_pos hanswers, if_pos hanswers]
      exact ⟨rfl, rfl⟩
    · have hno : ¬ s.tw1Answers = true := by rw [hsilent]; exact Bool.false_ne_true
      rw [if_neg hno, if_neg hno]
      exact ⟨rfl, rfl⟩
  case timeout =>
    intro s hlive
    have hexec : exec .tw1Timeout s = .next (finish (tw1Timeout s)) := done_next _ hlive
    rw [hexec, tw1Timeout]
    refine ⟨fun hen htmo => ?_, fun hoff => ?_⟩
    · rw [hen, htmo]
      rfl
    · have hno : (s.fb Fld.TWI_TW1_CFG_EN && s.fb Fld.TWI_TW1_CFG_TMO_EN) = false := Bool.and_eq_false_iff.2 hoff
      rw [hno]
      rfl
  case buffer => exact fun b s h => ⟨rxStore_count s h, fun k hk => rxStore_byte s h hk⟩

end Sys2Proof.Machine
end

section
/-!
PROOFS. Calibration (R153 to R156) and divider tracking (R158, R159): what the end of a sequence, a cross-check and a
restart leave.
-/
namespace Sys2Proof.Machine

variable (s : State)

/-- A bit of a mask is the number's bit. -/
theorem bitOf_eq_testBit (m i : Nat) : bitOf m i = m.testBit i := by
  rw [bitOf, Nat.testBit_eq_decide_div_mod_eq]
  rfl

/-! ### The commands -/

theorem exec_calibrationSequenceEnd (n : Fin 20) (est se : Nat) :
    exec (.calibrationSequenceEnd n est se) s = done s (calSequence n est se s) := rfl

theorem exec_referenceCrossCheck (ratio : Word) :
    exec (.referenceCrossCheck ratio) s = done s (crossCheck ratio.toNat s) := rfl

theorem exec_dividerTrackingUpdate (n : Fin 20) (rpar : Nat) :
    exec (.dividerTrackingUpdate n rpar) s = done s (trackUpdate n rpar s) := rfl

theorem exec_trkRestart {p : Port} (mask : BitVec 20) (h : Reach p Reg.MTR_TRK_RST s) :
    exec (.trkRestart p mask) s = .next (finish (respond p stOk 0 (trkRestart mask.toNat s))) :=
  done_asWrite s p _ _ h.1 h.2

/-! ### The end of a calibration sequence (R153 to R155) -/

/-- The estimate lies further than 500 ppm from the gain in force (R153). -/
def CalFar (n est : Nat) (s : State) : Prop :=
  500 * (s.rd (Reg.MTR_CH_GAIN n)).toNat < ((est : Int) - (s.rd (Reg.MTR_CH_GAIN n)).toNat).natAbs * 1000000

/-- A sequence that is precise and near: a sixteenth of the way, and LOCK. -/
def calLocked (n est se : Nat) (s : State) : State :=
  let g := (s.rd (Reg.MTR_CH_GAIN n)).toNat
  let u := ((((s.fs (Fld.MTR_CH_CAL_SNR n) (snrOf se)).wr (Reg.MTR_CH_GAIN n)
    (BitVec.ofInt 32 (g + divRound ((est : Int) - g) 16))).fs (Fld.MTR_CH_CAL_STATE n) 2).fs (Fld.MTR_CH_CAL_AGE n) 0).fs
    (Fld.MTR_CH_FLAG_CALFAIL n) 0
  u.setMtr { u.mtr with
    rejects := kvSet (fun _ => 0) u.mtr.rejects n 0, known := u.mtr.known.filter (· != n) ++ [n] }

/-- A sequence that is not: `rej` precise ones in a row have been far, the third of which flags. -/
def calRejected (n se rej : Nat) (s : State) : State :=
  let u := s.fs (Fld.MTR_CH_CAL_SNR n) (snrOf se)
  let u := u.setMtr { u.mtr with rejects := kvSet (fun _ => 0) u.mtr.rejects n (min 3 rej) }
  if 3 ≤ rej then u.fs (Fld.MTR_CH_FLAG_CALFAIL n) 1 else u

variable {s} {n : Nat}

theorem calSequence_locks {est se : Nat} (hon : s.calState n ≠ 0) (hused : s.chUsed n = true) (hse : se ≤ 5000)
    (hnear : ¬ CalFar n est s) : calSequence n est se s = calLocked n est se s := by
  have hoff : ¬ (s.calState n = calOff ∨ (!s.chUsed n) = true) := by simp [hon, hused]
  have hle := Nat.le_of_not_lt hnear
  unfold calSequence
  rw [if_neg hoff]
  simp only [hse, hle, decide_true, Bool.and_self, if_true]
  rfl

theorem calSequence_holds {est se : Nat} (hon : s.calState n ≠ 0) (hused : s.chUsed n = true)
    (hbad : 5000 < se ∨ CalFar n est s) :
    let rej := kvGet (fun _ => 0) s.mtr.rejects n
    calSequence n est se s = enterHold n (calRejected n se (if se ≤ 5000 then rej + 1 else rej) s) := by
  have hoff : ¬ (s.calState n = calOff ∨ (!s.chUsed n) = true) := by simp [hon, hused]
  have hcond : ¬ (decide (se ≤ 5000) && decide (((est : Int) - (s.rd (Reg.MTR_CH_GAIN n)).toNat).natAbs * 1000000 ≤
      500 * (s.rd (Reg.MTR_CH_GAIN n)).toNat)) = true := by
    rw [Bool.and_eq_true, decide_eq_true_iff, decide_eq_true_iff]
    rintro ⟨hse, hle⟩
    exact hbad.elim hse.not_gt hle.not_gt
  unfold calSequence
  rw [if_neg hoff]
  dsimp only
  rw [if_neg hcond]
  simp only [decide_eq_true_iff]
  rfl

theorem calRejected_calState (se rej : Nat) : (calRejected n se rej s).calState n = s.calState n := by
  have hu : (s.fs (Fld.MTR_CH_CAL_SNR n) (snrOf se)).fg (Fld.MTR_CH_CAL_STATE n) = s.fg (Fld.MTR_CH_CAL_STATE n) :=
    fg_fs_other s _ _ _ (show 8 + 8 ≤ 32 by decide) (.inr (.inl (show 0 + 2 ≤ 8 by decide)))
  have hne : (Fld.MTR_CH_CAL_STATE n).addr ≠ (Fld.MTR_CH_FLAG_CALFAIL n).addr := by
    simp only [Fld.MTR_CH_CAL_STATE, Fld.MTR_CH_FLAG_CALFAIL]; omega
  unfold State.calState calRejected
  dsimp only
  split
  · rw [fg_fs_addr _ _ _ _ hne]
    exact hu
  · exact hu

theorem calRejected_gain (se rej : Nat) :
    (calRejected n se rej s).rd (Reg.MTR_CH_GAIN n) = s.rd (Reg.MTR_CH_GAIN n) := by
  have hu : (s.fs (Fld.MTR_CH_CAL_SNR n) (snrOf se)).rd (Reg.MTR_CH_GAIN n) = s.rd (Reg.MTR_CH_GAIN n) :=
    rd_fs_other s _ _ _ (by simp only [Reg.MTR_CH_GAIN, Fld.MTR_CH_CAL_SNR]; omega)
  have hne : Reg.MTR_CH_GAIN n ≠ (Fld.MTR_CH_FLAG_CALFAIL n).addr := by
    simp only [Reg.MTR_CH_GAIN, Fld.MTR_CH_FLAG_CALFAIL]; omega
  unfold calRejected
  dsimp only
  split
  · rw [rd_fs_other _ _ _ _ hne]
    exact hu
  · exact hu

theorem calRejected_calFail (se : Nat) {rej : Nat} (h : 3 ≤ rej) :
    (calRejected n se rej s).fg (Fld.MTR_CH_FLAG_CALFAIL n) = 1 := by
  unfold calRejected
  dsimp only
  rw [if_pos h]
  exact fg_fs_same _ (Fld.MTR_CH_FLAG_CALFAIL n) 1 (show 2 + 1 ≤ 32 by decide)

/-- HOLD of a channel that was not in it: EV137 with a CALLOST that was clear. -/
theorem enterHold_enters (h : s.calState n ≠ 3) : enterHold n s =
    ((if s.fb (Fld.MTR_CH_FLAG_CALLOST n) = true then s else s.raise 137).fs (Fld.MTR_CH_CAL_STATE n) 3).fs
      (Fld.MTR_CH_FLAG_CALLOST n) 1 := if_neg h

theorem enterHold_stays (h : s.calState n = 3) : enterHold n s = s := if_pos h

theorem enterHold_calState : (enterHold n s).fg (Fld.MTR_CH_CAL_STATE n) = 3 := by
  by_cases h : s.calState n = 3
  · rw [enterHold_stays h]
    exact h
  · have hne : (Fld.MTR_CH_CAL_STATE n).addr ≠ (Fld.MTR_CH_FLAG_CALLOST n).addr := by
      simp only [Fld.MTR_CH_CAL_STATE, Fld.MTR_CH_FLAG_CALLOST]; omega
    rw [enterHold_enters h, fg_fs_addr _ _ _ _ hne]
    exact fg_fs_same _ _ _ (show 0 + 2 ≤ 32 by decide)

theorem enterHold_calLost (h : s.calState n ≠ 3) : (enterHold n s).fg (Fld.MTR_CH_FLAG_CALLOST n) = 1 := by
  rw [enterHold_enters h]
  exact fg_fs_same _ _ _ (show 1 + 1 ≤ 32 by decide)

theorem enterHold_rd {a : Nat} (hstate : a ≠ (Fld.MTR_CH_CAL_STATE n).addr)
    (hflag : a ≠ (Fld.MTR_CH_FLAG_CALLOST n).addr) : (enterHold n s).rd a = s.rd a := by
  by_cases h : s.calState n = 3
  · rw [enterHold_stays h]
  · rw [enterHold_enters h, rd_fs_other _ _ _ _ hflag, rd_fs_other _ _ _ _ hstate]
    split
    · rfl
    · exact rd_congr (State.raise_regs s 137) a

theorem enterHold_calFail : (enterHold n s).fg (Fld.MTR_CH_FLAG_CALFAIL n) = s.fg (Fld.MTR_CH_FLAG_CALFAIL n) := by
  by_cases h : s.calState n = 3
  · rw [enterHold_stays h]
  · have hne : (Fld.MTR_CH_FLAG_CALFAIL n).addr ≠ (Fld.MTR_CH_CAL_STATE n).addr := by
      simp only [Fld.MTR_CH_CAL_STATE, Fld.MTR_CH_FLAG_CALFAIL]; omega
    rw [enterHold_enters h, fg_fs_other _ _ _ _ (show 1 + 1 ≤ 32 by decide) (.inr (.inr (show 1 + 1 ≤ 2 by decide))),
      fg_fs_addr _ _ _ _ hne]
    split
    · rfl
    · exact raise_fg s 137 _

/-! ### The cross-check of the references (R156) -/

/-- The deviation of the references' ratio from the factory's, ppm. -/
def refDev (ratio : Word) (s : State) : Int :=
  ratRound (1000000 * ((ratio.toNat : Rat) / (s.otpWord 0x011).toNat - 1))

theorem crossCheck_eq {ratio : Word} (h : (s.otpWord 0x011).toNat ≠ 0) : crossCheck ratio.toNat s =
    let d := (refDev ratio s).natAbs
    let u := s.fss Fld.MTR_REF_DEV (satSigned 16 (refDev ratio s))
    let u := (u.fs Fld.MTR_REF_WARN (boolNat (decide (100 < d)))).fs Fld.MTR_REF_FAIL (boolNat (decide (1000 < d)))
    let u := if 100 < d then u.fs Fld.MTR_REF_WSTK 1 else u
    if 1000 < d then
      if s.fb Fld.MTR_REF_FAIL then u.fs Fld.MTR_REF_FSTK 1 else (u.fs Fld.MTR_REF_FSTK 1).driveLine 14
    else u := by
  have hdiv : openDiv (ratio.toNat : Rat) (s.otpWord 0x011).toNat = (ratio.toNat : Rat) / (s.otpWord 0x011).toNat :=
    if_neg (Nat.cast_ne_zero.2 h)
  unfold crossCheck
  dsimp only
  rw [hdiv]
  rfl

/-! ### Divider tracking (R158, R159) -/

theorem chNominal_congr {s t : State} (h : t.image = s.image) (n : Nat) : t.chNominal n = s.chNominal n := by
  unfold State.chNominal State.sec; rw [h]

theorem trackUpdate_first {rpar : Nat} {t : Int} (hfull : s.fb Fld.MTR_STAT_FULL = true)
    (htemp : s.tempOf (s.chTs n) = some t) (htone : bitOf (s.rd Reg.MTR_TONE).toNat n = true) (hused : s.chUsed n = true)
    (hbase : (s.trk n).base = none) : trackUpdate n rpar s =
    let nom : Rat := (s.chNominal n : Rat) / 65536
    let rdb : Rat := (rpar : Rat) / 1000 * nom / (nom - 1)
    if s.chRdb n = 0 ∨ 1 / 100 < |rdb / s.chRdb n - 1| then
      (s.fs (Fld.MTR_CH_FLAG_DIVFLT n) 1).setTrk n { s.trk n with bad := true }
    else
      (((((s.fs (Fld.MTR_CH_FLAG_BASE n) 1).fss (Fld.MTR_CH_DRIFT_T0 n) t).fs (Fld.MTR_CH_DRIFT_DELTA n) 0).wr
        (Reg.MTR_CH_TRK n) (BitVec.ofNat 32 (s.chNominal n))).setTrk n
        ⟨some (rdb, t), 0, 0, (s.trk n).bad && s.fb (Fld.MTR_CH_FLAG_DIVFLT n)⟩) := by
  have hruns : ¬ ((!s.fullRate) = true ∨ (!bitOf (s.rd Reg.MTR_TONE).toNat n) = true ∨ (!s.chUsed n) = true) := by
    simp [State.fullRate, hfull, htone, hused]
  have hnominal : (((s.fs (Fld.MTR_CH_FLAG_BASE n) 1).fss (Fld.MTR_CH_DRIFT_T0 n) t).fs
      (Fld.MTR_CH_DRIFT_DELTA n) 0).chNominal n = s.chNominal n :=
    chNominal_congr (by simp only [State.fss, State.fs_image]) n
  unfold trackUpdate
  rw [htemp]
  dsimp only
  rw [if_neg hruns, hbase]
  dsimp only
  rw [hnominal]

theorem trk_setTrk (n m : Nat) (v : Trk) : (s.setTrk n v).trk m = if m = n then v else s.trk m := kvGet_set _ _ _ _ _

@[simp] theorem setTrk_fg (s : State) (n : Nat) (v : Trk) (f : Fld) : (s.setTrk n v).fg f = s.fg f := setMtr_fg s _ f

/-- The flags and the temperature of a channel's base are cleared. -/
def trkUnbase (n : Nat) (s : State) : State :=
  ((s.fs (Fld.MTR_CH_FLAG_BASE n) 0).fs (Fld.MTR_CH_FLAG_DIVFLT n) 0).fs (Fld.MTR_CH_DRIFT_T0 n) 0

/-- A channel's tracking starts anew. -/
def trkRestartOne (s : State) (n : Nat) : State :=
  (trkUnbase n s).setTrk n { (trkUnbase n s).trk n with base := none, delta := 0 }

/-- Channel `n` has no base. -/
def TrkCleared (n : Nat) (s : State) : Prop :=
  s.fg (Fld.MTR_CH_FLAG_BASE n) = 0 ∧ s.fg (Fld.MTR_CH_FLAG_DIVFLT n) = 0 ∧ s.fg (Fld.MTR_CH_DRIFT_T0 n) = 0 ∧
    (s.trk n).base = none ∧ (s.trk n).delta = 0

/-- The channel's base and what stands beside it are the same in both states. -/
def TrkSame (n : Nat) (s t : State) : Prop :=
  t.fg (Fld.MTR_CH_FLAG_BASE n) = s.fg (Fld.MTR_CH_FLAG_BASE n) ∧
    t.fg (Fld.MTR_CH_FLAG_DIVFLT n) = s.fg (Fld.MTR_CH_FLAG_DIVFLT n) ∧
    t.fg (Fld.MTR_CH_DRIFT_T0 n) = s.fg (Fld.MTR_CH_DRIFT_T0 n) ∧ t.trk n = s.trk n

theorem TrkSame.trans {s t u : State} (h : TrkSame n s t) (h' : TrkSame n t u) : TrkSame n s u :=
  let ⟨hb, hd, ht, hk⟩ := h
  let ⟨hb', hd', ht', hk'⟩ := h'
  ⟨hb'.trans hb, hd'.trans hd, ht'.trans ht, hk'.trans hk⟩

theorem TrkSame.cleared {s t : State} (h : TrkSame n s t) (hs : TrkCleared n s) : TrkCleared n t := by
  obtain ⟨hb, hd, ht, hk⟩ := h
  rw [TrkCleared, hb, hd, ht, hk]
  exact hs

variable (s)

theorem trkRestart_eq (m : Nat) : trkRestart m s =
    ((bitsOf 20 m).filter (fun n => (8 ≤ n ∧ n ≤ 16) || n == 18)).foldl trkRestartOne s := rfl

theorem trkRestartOne_fg (n : Nat) (f : Fld) : (trkRestartOne s n).fg f = (trkUnbase n s).fg f := setTrk_fg _ _ _ f

theorem trkUnbase_trk (n m : Nat) : (trkUnbase n s).trk m = s.trk m := by
  unfold State.trk trkUnbase
  simp only [State.fs_mtr]

theorem trkRestartOne_trk (n m : Nat) : (trkRestartOne s n).trk m =
    if m = n then { s.trk n with base := none, delta := 0 } else s.trk m := by
  rw [trkRestartOne, trk_setTrk, trkUnbase_trk, trkUnbase_trk]

/-- The word of a channel's flags is not the word of its drift, nor any other channel's. -/
theorem flag_addr_ne_drift (n m : Nat) : (Fld.MTR_CH_FLAG_BASE n).addr ≠ (Fld.MTR_CH_DRIFT_T0 m).addr := by
  simp only [Fld.MTR_CH_FLAG_BASE, Fld.MTR_CH_DRIFT_T0]; omega

theorem trkRestartOne_cleared (n : Nat) : TrkCleared n (trkRestartOne s n) := by
  refine ⟨?_, ?_, ?_, ?_⟩
  · rw [trkRestartOne_fg, trkUnbase, fg_fs_addr _ _ _ _ (flag_addr_ne_drift n n),
      fg_fs_other _ _ _ _ (show 3 + 1 ≤ 32 by decide) (.inr (.inr (show 3 + 1 ≤ 5 by decide)))]
    exact fg_fs_same _ _ _ (show 5 + 1 ≤ 32 by decide)
  · rw [trkRestartOne_fg, trkUnbase, fg_fs_addr _ _ (Fld.MTR_CH_FLAG_DIVFLT n) _ (flag_addr_ne_drift n n)]
    exact fg_fs_same _ _ _ (show 3 + 1 ≤ 32 by decide)
  · rw [trkRestartOne_fg, trkUnbase]
    exact fg_fs_same _ _ _ (show 16 + 16 ≤ 32 by decide)
  · rw [trkRestartOne_trk, if_pos rfl]
    exact ⟨rfl, rfl⟩

theorem trkRestartOne_other {n m : Nat} (h : n ≠ m) : TrkSame n s (trkRestartOne s m) := by
  have hflag : (Fld.MTR_CH_FLAG_BASE n).addr ≠ (Fld.MTR_CH_FLAG_BASE m).addr := by
    simp only [Fld.MTR_CH_FLAG_BASE]; omega
  have hdrift : (Fld.MTR_CH_DRIFT_T0 n).addr ≠ (Fld.MTR_CH_DRIFT_T0 m).addr := by
    simp only [Fld.MTR_CH_DRIFT_T0]; omega
  have hkept : ∀ f : Fld, f.addr ≠ (Fld.MTR_CH_FLAG_BASE m).addr → f.addr ≠ (Fld.MTR_CH_DRIFT_T0 m).addr →
      (trkRestartOne s m).fg f = s.fg f := by
    intro f hf ht
    rw [trkRestartOne_fg, trkUnbase, fg_fs_addr _ _ f _ ht, fg_fs_addr _ (Fld.MTR_CH_FLAG_DIVFLT m) f _ hf,
      fg_fs_addr _ _ f _ hf]
  exact ⟨hkept _ hflag (flag_addr_ne_drift n m), hkept _ hflag (flag_addr_ne_drift n m),
    hkept _ (flag_addr_ne_drift m n).symm hdrift, (trkRestartOne_trk s m n).trans (if_neg h)⟩

theorem trkRestarts_other (l : List Nat) {n : Nat} (h : n ∉ l) : TrkSame n s (l.foldl trkRestartOne s) := by
  induction l generalizing s with
  | nil => exact ⟨rfl, rfl, rfl, rfl⟩
  | cons m r ih =>
    obtain ⟨hm, hr⟩ := not_or.1 (mt List.mem_cons.2 h)
    rw [List.foldl_cons]
    exact (trkRestartOne_other s hm).trans (ih _ hr)

theorem trkRestarts_mem (l : List Nat) {n : Nat} (h : n ∈ l) : TrkCleared n (l.foldl trkRestartOne s) := by
  induction l generalizing s with
  | nil => exact absurd h List.not_mem_nil
  | cons m r ih =>
    rw [List.foldl_cons]
    by_cases hr : n ∈ r
    · exact ih _ hr
    · obtain rfl : n = m := (List.mem_cons.1 h).resolve_right hr
      exact (trkRestarts_other _ r hr).cleared (trkRestartOne_cleared s n)

/-- Settles O22: a sequence's two ends, the three bands of the cross-check, the first tracking sequence, and a restart as
a fold over the channels that its mask names. -/
theorem meterCalibrates : Obligations.MeterCalibrates := by
  unfold Obligations.MeterCalibrates
  refine ⟨?calibration, ?reference, ?tracking, ?restart⟩
  case calibration =>
    intro n est se s hlive hon hused
    refine ⟨fun hse hnear => ?_, fun hbad => ?_⟩
    · rw [exec_calibrationSequenceEnd, done_next _ hlive, calSequence_locks hon hused hse hnear]
      rfl
    · let rej := kvGet (fun _ => 0) s.mtr.rejects n
      refine ⟨enterHold n (calRejected n se (if se ≤ 5000 then rej + 1 else rej) s), ?_, ?_, enterHold_calState,
        fun h => ?_, fun hse hrej => ?_⟩
      · rw [exec_calibrationSequenceEnd, done_next _ hlive, calSequence_holds hon hused hbad]
      · rw [enterHold_rd, calRejected_gain]
        · simp only [Reg.MTR_CH_GAIN, Fld.MTR_CH_CAL_STATE]; omega
        · simp only [Reg.MTR_CH_GAIN, Fld.MTR_CH_FLAG_CALLOST]; omega
      · refine enterHold_calLost ?_
        rwa [calRejected_calState]
      · rw [enterHold_calFail]
        refine calRejected_calFail se ?_
        rw [if_pos hse]
        omega
  case reference =>
    intro ratio s hlive hotp
    simp only [exec_referenceCrossCheck, done_next _ hlive, crossCheck_eq hotp]
    refine ⟨fun hd => ?_, fun hwarn hd => ?_, fun hd => ?_⟩
    · have h1 : ¬ 100 < (refDev ratio s).natAbs := Nat.not_lt.2 hd
      have h2 : ¬ 1000 < (refDev ratio s).natAbs := by omega
      simp only [h1, h2, if_false, decide_false]
      rfl
    · have h1 : 100 < (refDev ratio s).natAbs := hwarn
      have h2 : ¬ 1000 < (refDev ratio s).natAbs := Nat.not_lt.2 hd
      simp only [h1, h2, if_false, if_true, decide_false, decide_true]
      rfl
    · have h2 : 1000 < (refDev ratio s).natAbs := hd
      have h1 : 100 < (refDev ratio s).natAbs := by omega
      simp only [h1, h2, if_true, decide_true]
      rfl
  case tracking =>
    intro n rpar t s hlive hfull htemp htone hused hbase
    simp only [exec_dividerTrackingUpdate, done_next _ hlive, trackUpdate_first hfull htemp htone hused hbase]
    refine ⟨fun hbad => ?_, fun hrdb hnear => ?_⟩
    · rw [if_pos hbad]
    · rw [if_neg (not_or.2 ⟨hrdb, hnear.not_gt⟩)]
  case restart =>
    intro p mask s hreach
    refine ⟨_, exec_trkRestart s mask hreach, fun n hn hbit => ?_, fun n hn hbit => ?_⟩
    · have hlt : n < 20 := by omega
      rw [trkRestart_eq]
      refine trkRestarts_mem s _ (List.mem_filter.2 ⟨bitsOf_mem.2 ⟨hlt, ?_⟩, by simpa using hn⟩)
      rw [bitOf_eq_testBit]
      exact hbit
    · have hnot : n ∉ (bitsOf 20 mask.toNat).filter (fun n => (8 ≤ n ∧ n ≤ 16) || n == 18) := by
        intro h
        have hset := (bitsOf_mem.1 (List.mem_of_mem_filter h)).2
        rw [bitOf_eq_testBit] at hset
        exact Bool.false_ne_true (hbit.symm.trans hset)
      obtain ⟨hb, -, -, hk⟩ := trkRestarts_other s _ hnot
      exact ⟨hb, hk⟩

end Sys2Proof.Machine
end

section
/-!
PROOFS. The meter's counting (R140 to R151, R160 to R164, R251): what a sample strobe leaves in the words of its results,
the snapshot, the slow counter and the voltage burst.
-/
namespace Sys2Proof.Machine

/-! ### Folds of which one step matters -/

theorem foldl_field_mem {α β γ : Type} (g : β → γ) (f : β → α → β) (l : List α)
    (h : ∀ b, ∀ a ∈ l, g (f b a) = g b) (b : β) : g (l.foldl f b) = g b := by
  induction l generalizing b with
  | nil => rfl
  | cons a r ih =>
    rw [List.foldl_cons, ih (fun b c hc => h b c (List.mem_cons_of_mem a hc)), h b a List.mem_cons_self]

/-- What only step `n` changes is as that step leaves it. -/
theorem foldl_range_at {β γ : Type} (g : β → γ) (f : β → Nat → β) {k n : Nat} (hn : n < k)
    (h : ∀ b, ∀ m < k, m ≠ n → g (f b m) = g b) (b : β) :
    g ((List.range k).foldl f b) = g (f ((List.range n).foldl f b) n) := by
  induction k with
  | zero => exact absurd hn (Nat.not_lt_zero n)
  | succ k ih =>
    rw [List.range_succ, List.foldl_append, List.foldl_cons, List.foldl_nil]
    by_cases hk : k = n
    · rw [hk]
    · rw [h _ k (Nat.lt_succ_self k) hk, ih (by omega) fun b m hm => h b m (Nat.lt_succ_of_lt hm)]

/-- Before step `n` nothing has changed that only step `n` changes. -/
theorem foldl_range_before {β γ : Type} (g : β → γ) (f : β → Nat → β) {k n : Nat} (hn : n < k)
    (h : ∀ b, ∀ m < k, m ≠ n → g (f b m) = g b) (b : β) : g ((List.range n).foldl f b) = g b :=
  foldl_field_mem g f _ (fun b m hm => h b m ((List.mem_range.1 hm).trans hn) (List.mem_range.1 hm).ne) b

variable (s : State)

@[simp] theorem raise_rd (ev a : Nat) : (s.raise ev).rd a = s.rd a := rd_congr (State.raise_regs s ev) a

/-- A field reads alike in states with the same word. -/
theorem fg_of_rd {s t : State} {f : Fld} (h : t.rd f.addr = s.rd f.addr) : t.fg f = s.fg f := by unfold State.fg; rw [h]

/-! ### What a strobe does beside its results -/

/-- The words that hold a strobe's results, its count, and what its other parts read of other blocks. -/
def StrobeWord (a : Nat) : Prop :=
  a = Reg.MTR_STRB_CNT ∨ a = Fld.WGL_STAT_RATEMIS.addr ∨ a = Fld.SCT_HU_CFG_THR.addr ∨
    (0x100100 ≤ a ∧ a < 0x100380 ∧ (a % 32 = 0 ∨ a % 32 = 8 ∨ a % 32 = 24))

/-- Between two states of a strobe, once its results are in their words: the results, the image, the Scout's counts and the
meter's role stay. -/
structure StrobeKeeps (s t : State) : Prop where
  image : t.image = s.image
  sct : t.sct = s.sct
  worker : t.fg Fld.MTR_STAT_WORKER = s.fg Fld.MTR_STAT_WORKER
  word : ∀ a, StrobeWord a → t.rd a = s.rd a

namespace StrobeKeeps

variable {s} {t u : State}

theorem refl : StrobeKeeps s s := ⟨rfl, rfl, rfl, fun _ _ => rfl⟩

theorem trans (h : StrobeKeeps s t) (h' : StrobeKeeps t u) : StrobeKeeps s u :=
  ⟨h'.image.trans h.image, h'.sct.trans h.sct, h'.worker.trans h.worker,
    fun a ha => (h'.word a ha).trans (h.word a ha)⟩

theorem of_regs (himage : t.image = s.image) (hsct : t.sct = s.sct) (hregs : t.regs = s.regs) : StrobeKeeps s t :=
  ⟨himage, hsct, fg_congr hregs _, fun a _ => rd_congr hregs a⟩

theorem setMtr (v : Mtr) : StrobeKeeps s (s.setMtr v) := of_regs rfl rfl rfl

theorem wr {a : Nat} (v : Word) (hword : ¬ StrobeWord a) (hstat : a ≠ Reg.MTR_STAT) : StrobeKeeps s (s.wr a v) :=
  ⟨rfl, rfl, fg_wr_other s a v _ hstat.symm, fun b hb => rd_wr_other s a b v fun h => hword (h ▸ hb)⟩

theorem foldl {α : Type} (f : State → α → State) (l : List α) (h : ∀ t, ∀ x ∈ l, StrobeKeeps t (f t x)) :
    StrobeKeeps s (l.foldl f s) := by
  induction l generalizing s with
  | nil => exact refl
  | cons x r ih =>
    rw [List.foldl_cons]
    exact (h s x List.mem_cons_self).trans (ih fun t y hy => h t y (List.mem_cons_of_mem x hy))

end StrobeKeeps

theorem not_strobeWord_trk (n : Nat) : ¬ StrobeWord (Reg.MTR_CH_TRK n) := by
  simp only [StrobeWord, Reg.MTR_CH_TRK, Reg.MTR_STRB_CNT, Fld.WGL_STAT_RATEMIS, Fld.SCT_HU_CFG_THR]
  omega

theorem scaleUpdate_keeps : StrobeKeeps s (scaleUpdate s) := by
  have hstat : ∀ n, Reg.MTR_CH_TRK n ≠ Reg.MTR_STAT := by
    intro n; simp only [Reg.MTR_CH_TRK, Reg.MTR_STAT]; omega
  have hdrift : ∀ n < 20, ¬ StrobeWord (Fld.MTR_CH_DRIFT_DELTA n).addr ∧
      (Fld.MTR_CH_DRIFT_DELTA n).addr ≠ Reg.MTR_STAT := by
    intro n hn
    simp only [StrobeWord, Fld.MTR_CH_DRIFT_DELTA, Reg.MTR_STAT, Reg.MTR_STRB_CNT, Fld.WGL_STAT_RATEMIS,
      Fld.SCT_HU_CFG_THR]
    omega
  have hshunts : ∀ n ∈ [0, 1, 2, 3, 4, 5, 6, 7, 17, 19], n < 20 := by decide
  refine (StrobeKeeps.foldl _ _ fun t n hn => ?_).trans (StrobeKeeps.foldl _ _ fun t n hn => ?_)
  · obtain ⟨hword, hne⟩ := hdrift n (hshunts n hn)
    split
    · exact (StrobeKeeps.wr _ (not_strobeWord_trk n) (hstat n)).trans (StrobeKeeps.wr _ hword hne)
    · exact .refl
  · split
    · exact StrobeKeeps.wr _ (not_strobeWord_trk n) (hstat n)
    · exact .refl

theorem classUpdate_keeps : StrobeKeeps s (classUpdate s) := by
  refine (StrobeKeeps.foldl _ _ fun t n hn => ?_).trans (StrobeKeeps.foldl _ _ fun t n hn => ?_)
  · refine StrobeKeeps.wr _ ?_ (by decide)
    simp only [StrobeWord, Reg.MTR_CLASS, Reg.MTR_STRB_CNT, Fld.WGL_STAT_RATEMIS, Fld.SCT_HU_CFG_THR]
    omega
  · exact .of_regs rfl rfl rfl

theorem creditTime_keeps (u : Nat) : StrobeKeeps s (creditTime u s) := by
  unfold creditTime
  extract_lets t
  have hstrings : StrobeKeeps s t := .foldl _ _ fun _ _ _ => by
    split
    · exact .of_regs rfl rfl rfl
    · exact .refl
  split
  · exact hstrings
  · refine hstrings.trans (.foldl _ _ fun _ _ _ => ?_)
    split
    · exact .refl
    · exact .of_regs rfl rfl rfl

/-- An accumulator word of a set, or its snapshot (R160, R162). -/
theorem not_strobeWord_set {a : Nat} (hlo : 0x100400 ≤ a) (hhi : a < 0x100800) : ¬ StrobeWord a ∧ a ≠ Reg.MTR_STAT := by
  simp only [StrobeWord, Reg.MTR_STAT, Reg.MTR_STRB_CNT, Fld.WGL_STAT_RATEMIS, Fld.SCT_HU_CFG_THR]
  omega

theorem accumulate_keeps (a k : Nat) {lo hi : Nat} (step : Rat) (hlo : 0x100400 ≤ lo ∧ lo < 0x100800)
    (hhi : 0x100400 ≤ hi ∧ hi < 0x100800) : StrobeKeeps s (accumulate a k lo hi step s) := by
  obtain ⟨wlo, slo⟩ := not_strobeWord_set hlo.1 hlo.2
  obtain ⟨whi, shi⟩ := not_strobeWord_set hhi.1 hhi.2
  exact ((StrobeKeeps.wr _ wlo slo).trans (StrobeKeeps.wr _ whi shi)).trans (.setMtr _)

theorem credit_keeps {a : Nat} (q e : Rat) (h : a < 10) : StrobeKeeps s (credit a q e s) := by
  unfold credit
  extract_lets dq de t
  have hcharge : StrobeKeeps s t := by
    unfold t
    split
    · exact accumulate_keeps s a 0 _ (by unfold Reg.MTR_SET_QIN_LO; omega) (by unfold Reg.MTR_SET_QIN_HI; omega)
    · exact accumulate_keeps s a 1 _ (by unfold Reg.MTR_SET_QOUT_LO; omega) (by unfold Reg.MTR_SET_QOUT_HI; omega)
  clear_value t
  split
  · exact hcharge.trans
      (accumulate_keeps t a 2 _ (by unfold Reg.MTR_SET_EIN_LO; omega) (by unfold Reg.MTR_SET_EIN_HI; omega))
  · exact hcharge.trans
      (accumulate_keeps t a 3 _ (by unfold Reg.MTR_SET_EOUT_LO; omega) (by unfold Reg.MTR_SET_EOUT_HI; omega))

theorem creditStrobe_keeps (clocks : Nat) {a : Nat} (h : a < 10) : StrobeKeeps s (creditStrobe clocks a s) := by
  unfold creditStrobe
  split
  · exact .refl
  · dsimp only
    refine .trans ?_ (credit_keeps _ _ _ h)
    split
    · exact .setMtr _
    · exact .refl

theorem pvStrobe_keeps (clocks : Nat) : StrobeKeeps s (pvStrobe clocks s) := by
  refine (StrobeKeeps.setMtr _).trans (.foldl _ _ fun t g _ => ?_)
  dsimp only
  split
  · exact .of_regs rfl rfl rfl
  · exact .refl

theorem prechargeStrobe_keeps (clocks : Nat) : StrobeKeeps s (prechargeStrobe clocks s) :=
  .foldl _ _ fun _ _ _ => .of_regs rfl rfl rfl

theorem publishMeter_keeps : StrobeKeeps s (publishMeter s) := by
  refine (StrobeKeeps.foldl _ _ fun t a _ => ?_).trans (.foldl _ _ fun t g _ => ?_)
  · exact .of_regs rfl rfl rfl
  · split <;> exact .of_regs rfl rfl rfl

/-! ### Snapshots (R162) -/

/-- The snapshot words of a set take its accumulators. -/
def snapSet (s : State) (a : Nat) : State :=
  (List.range 8).foldl (fun s k => s.wr (Reg.MTR_SET_SQIN_LO a + 4 * k) (s.rd (Reg.MTR_SET_QIN_LO a + 4 * k))) s

/-- Every set's snapshot, and the classes and the count that go with them. -/
def snapWords (s : State) : State :=
  let s := (List.range 10).foldl snapSet s
  let s := s.wr Reg.MTR_SNAP_CLASS (s.rd Reg.MTR_CLASS)
  s.wr Reg.MTR_SNAP_CNT (s.rd Reg.MTR_STRB_CNT)

theorem snapshot_idle (h : s.fb Fld.MTR_STAT_SNAPPEND = false) : snapshot s = s := by
  unfold snapshot
  rw [h]
  rfl

theorem snapshot_taken (h : s.fb Fld.MTR_STAT_SNAPPEND = true) :
    snapshot s = ((snapWords s).fs Fld.MTR_STAT_SNAPPEND 0).fs Fld.MTR_STAT_SNAPRDY 1 := by
  unfold snapshot
  rw [h]
  rfl

theorem snapSet_rd_other {a b : Nat} (h : ∀ k < 8, b ≠ Reg.MTR_SET_SQIN_LO a + 4 * k) : (snapSet s a).rd b = s.rd b :=
  foldl_field_mem (fun s : State => s.rd b) _ _ (fun _ k hk => rd_wr_other _ _ _ _ (h k (List.mem_range.1 hk))) s

theorem snapSet_rd {a k : Nat} (hk : k < 8) :
    (snapSet s a).rd (Reg.MTR_SET_SQIN_LO a + 4 * k) = s.rd (Reg.MTR_SET_QIN_LO a + 4 * k) := by
  have hat := foldl_range_at (fun s : State => s.rd (Reg.MTR_SET_SQIN_LO a + 4 * k))
    (fun s k => s.wr (Reg.MTR_SET_SQIN_LO a + 4 * k) (s.rd (Reg.MTR_SET_QIN_LO a + 4 * k))) hk
    (fun _ m _ hne => rd_wr_other _ _ _ _ (by omega)) s
  refine hat.trans ((rd_wr_same _ _ _).trans ?_)
  refine foldl_field_mem (fun s : State => s.rd (Reg.MTR_SET_QIN_LO a + 4 * k)) _ _ (fun _ m _ => rd_wr_other _ _ _ _ ?_) s
  simp only [Reg.MTR_SET_QIN_LO, Reg.MTR_SET_SQIN_LO]
  omega

theorem snapSets_rd {a k : Nat} (ha : a < 10) (hk : k < 8) : ((List.range 10).foldl snapSet s).rd
    (Reg.MTR_SET_SQIN_LO a + 4 * k) = s.rd (Reg.MTR_SET_QIN_LO a + 4 * k) := by
  have hat := foldl_range_at (fun s : State => s.rd (Reg.MTR_SET_SQIN_LO a + 4 * k)) snapSet ha
    (fun t m _ hne => snapSet_rd_other t fun j hj => by unfold Reg.MTR_SET_SQIN_LO; omega) s
  refine hat.trans ((snapSet_rd _ hk).trans ?_)
  refine foldl_field_mem (fun s : State => s.rd (Reg.MTR_SET_QIN_LO a + 4 * k)) _ _
    (fun t m _ => snapSet_rd_other t fun j hj => ?_) s
  simp only [Reg.MTR_SET_QIN_LO, Reg.MTR_SET_SQIN_LO]
  omega

theorem snapSets_rd_low {b : Nat} (h : b < 0x100400) : ((List.range 10).foldl snapSet s).rd b = s.rd b :=
  foldl_field (fun s : State => s.rd b) _ (fun t a => snapSet_rd_other t fun k _ => by
    unfold Reg.MTR_SET_SQIN_LO; omega) _ s

theorem snapWords_class : (snapWords s).rd Reg.MTR_SNAP_CLASS = s.rd Reg.MTR_CLASS := by
  unfold snapWords
  rw [rd_wr_other _ _ _ _ (by decide), rd_wr_same, snapSets_rd_low s (by decide)]

theorem snapWords_count : (snapWords s).rd Reg.MTR_SNAP_CNT = s.rd Reg.MTR_STRB_CNT := by
  unfold snapWords
  rw [rd_wr_same, rd_wr_other _ _ _ _ (by decide), snapSets_rd_low s (by decide)]

theorem snapWords_set {a k : Nat} (ha : a < 10) (hk : k < 8) :
    (snapWords s).rd (Reg.MTR_SET_SQIN_LO a + 4 * k) = s.rd (Reg.MTR_SET_QIN_LO a + 4 * k) := by
  have hne : ∀ b < 0x100400, Reg.MTR_SET_SQIN_LO a + 4 * k ≠ b := by
    intro b hb; unfold Reg.MTR_SET_SQIN_LO; omega
  unfold snapWords
  rw [rd_wr_other _ _ _ _ (hne _ (by decide)), rd_wr_other _ _ _ _ (hne _ (by decide)), snapSets_rd s ha hk]

theorem snapshot_rd {b : Nat} (h : b ≠ Reg.MTR_STAT) (hp : s.fb Fld.MTR_STAT_SNAPPEND = true) :
    (snapshot s).rd b = (snapWords s).rd b := by
  rw [snapshot_taken s hp, rd_fs_other _ _ _ _ h, rd_fs_other _ _ _ _ h]

theorem snapWords_keeps : StrobeKeeps s (snapWords s) := by
  have hset : ∀ t, ∀ a ∈ List.range 10, StrobeKeeps t (snapSet t a) := by
    intro t a ha
    refine .foldl _ _ fun u k hk => ?_
    have ha := List.mem_range.1 ha
    have hk := List.mem_range.1 hk
    obtain ⟨hword, hstat⟩ := not_strobeWord_set (a := Reg.MTR_SET_SQIN_LO a + 4 * k)
      (by unfold Reg.MTR_SET_SQIN_LO; omega) (by unfold Reg.MTR_SET_SQIN_LO; omega)
    exact .wr _ hword hstat
  have hclass : ¬ StrobeWord Reg.MTR_SNAP_CLASS ∧ ¬ StrobeWord Reg.MTR_SNAP_CNT := by
    simp only [StrobeWord, Reg.MTR_SNAP_CLASS, Reg.MTR_SNAP_CNT, Reg.MTR_STRB_CNT, Fld.WGL_STAT_RATEMIS, Fld.SCT_HU_CFG_THR]
    omega
  exact ((StrobeKeeps.foldl _ _ hset).trans (.wr _ hclass.1 (by decide))).trans (.wr _ hclass.2 (by decide))

theorem snapshot_keeps : StrobeKeeps s (snapshot s) := by
  cases h : s.fb Fld.MTR_STAT_SNAPPEND
  · rw [snapshot_idle s h]
    exact .refl
  · obtain ⟨himage, hsct, hworker, hword⟩ := snapWords_keeps s
    have hstat : ¬ StrobeWord Reg.MTR_STAT := by
      simp only [StrobeWord, Reg.MTR_STAT, Reg.MTR_STRB_CNT, Fld.WGL_STAT_RATEMIS, Fld.SCT_HU_CFG_THR]
      omega
    refine ⟨?_, ?_, ?_, fun a ha => ?_⟩
    · rw [snapshot_taken s h, State.fs_image, State.fs_image, himage]
    · rw [snapshot_taken s h, State.fs_sct, State.fs_sct, hsct]
    · rw [snapshot_taken s h, fg_fs_other _ _ _ _ (by decide) (by decide), fg_fs_other _ _ _ _ (by decide) (by decide),
        hworker]
    · rw [snapshot_rd s (fun he => hstat (he ▸ ha)) h, hword a ha]

/-! ### Results (R140, R144, R167) -/

theorem overrange_eq (n : Nat) : overrange n s =
    (if s.fg (Fld.MTR_CH_FLAG_OVR n) = 1 then s else s.raise 138).fs (Fld.MTR_CH_FLAG_OVR n) 1 := by
  have hbit : s.fb (Fld.MTR_CH_FLAG_OVR n) = true ↔ s.fg (Fld.MTR_CH_FLAG_OVR n) = 1 := by
    have hlt : s.fg (Fld.MTR_CH_FLAG_OVR n) < 2 := fldOf_lt _ _ _
    rw [State.fb, bne_iff_ne]
    omega
  unfold overrange
  simp only [hbit]

theorem overrange_rd {n a : Nat} (h : a ≠ (Fld.MTR_CH_FLAG_OVR n).addr) : (overrange n s).rd a = s.rd a := by
  rw [overrange_eq, rd_fs_other _ _ _ _ h]
  split
  · rfl
  · exact raise_rd s 138 a

theorem overrange_image (n : Nat) : (overrange n s).image = s.image := by
  rw [overrange_eq, State.fs_image]
  split
  · rfl
  · exact State.raise_image s 138

theorem overrange_sct (n : Nat) : (overrange n s).sct = s.sct := by
  rw [overrange_eq, State.fs_sct]
  split
  · rfl
  · exact State.raise_sct s 138

/-- A result as its word takes it. -/
def limited (code : Int) : Int := clampI code (-8388608) 8388607

/-- A channel's result in its word, before its flag. -/
def putResult (n : Nat) (code : Int) (s : State) : State := s.wr (Reg.MTR_CH_DATA n) (BitVec.ofInt 32 (limited code))

theorem latchResult_eq (n : Nat) (code : Int) : latchResult n code s =
    if saturated (limited code) = true then overrange n (putResult n code s) else putResult n code s := rfl

theorem saturated_limited (code : Int) : saturated (limited code) = true ↔ code ≤ -8388608 ∨ 8388607 ≤ code := by
  rw [saturated, decide_eq_true_iff, limited, clampI]
  omega

theorem latchResult_rd_other {n a : Nat} (code : Int) (hdata : a ≠ Reg.MTR_CH_DATA n)
    (hflag : a ≠ (Fld.MTR_CH_FLAG_OVR n).addr) : (latchResult n code s).rd a = s.rd a := by
  have hput : (putResult n code s).rd a = s.rd a := rd_wr_other _ _ _ _ hdata
  rw [latchResult_eq]
  split
  · rw [overrange_rd _ hflag, hput]
  · exact hput

theorem latchResult_data (n : Nat) (code : Int) :
    (latchResult n code s).rd (Reg.MTR_CH_DATA n) = BitVec.ofInt 32 (limited code) := by
  have hne : Reg.MTR_CH_DATA n ≠ (Fld.MTR_CH_FLAG_OVR n).addr := by
    simp only [Reg.MTR_CH_DATA, Fld.MTR_CH_FLAG_OVR]; omega
  rw [latchResult_eq]
  split
  · rw [overrange_rd _ hne, putResult, rd_wr_same]
  · rw [putResult, rd_wr_same]

theorem latchResult_ovr (n : Nat) {code : Int} (h : code ≤ -8388608 ∨ 8388607 ≤ code) :
    (latchResult n code s).fg (Fld.MTR_CH_FLAG_OVR n) = 1 := by
  rw [latchResult_eq, if_pos ((saturated_limited code).2 h), overrange_eq]
  exact fg_fs_same _ _ _ (show 0 + 1 ≤ 32 by decide)

theorem latchResult_image (n : Nat) (code : Int) : (latchResult n code s).image = s.image := by
  rw [latchResult_eq]
  split
  · rw [overrange_image, putResult, State.wr_image]
  · rw [putResult, State.wr_image]

theorem latchResult_sct (n : Nat) (code : Int) : (latchResult n code s).sct = s.sct := by
  rw [latchResult_eq]
  split
  · rw [overrange_sct, putResult, State.wr_sct]
  · rw [putResult, State.wr_sct]

/-- One channel of a strobe: its offset correction and its result. -/
def latchChannel (codes ofs : List Int) (s : State) (n : Nat) : State :=
  latchResult n (codes.getD n 0) (s.wr (Reg.MTR_CH_OFS n) (BitVec.ofInt 32 (ofs.getD n 0)))

theorem latchChannel_rd_other (codes ofs : List Int) {n a : Nat} (hdata : a ≠ Reg.MTR_CH_DATA n)
    (hofs : a ≠ Reg.MTR_CH_OFS n) (hflag : a ≠ (Fld.MTR_CH_FLAG_OVR n).addr) :
    (latchChannel codes ofs s n).rd a = s.rd a := by
  rw [latchChannel, latchResult_rd_other _ _ hdata hflag, rd_wr_other _ _ _ _ hofs]

theorem latchChannel_ofs (codes ofs : List Int) (n : Nat) :
    (latchChannel codes ofs s n).rd (Reg.MTR_CH_OFS n) = BitVec.ofInt 32 (ofs.getD n 0) := by
  rw [latchChannel, latchResult_rd_other, rd_wr_same]
  · simp only [Reg.MTR_CH_OFS, Reg.MTR_CH_DATA]; omega
  · simp only [Reg.MTR_CH_OFS, Fld.MTR_CH_FLAG_OVR]; omega

theorem latchChannel_image (codes ofs : List Int) (n : Nat) : (latchChannel codes ofs s n).image = s.image := by
  rw [latchChannel, latchResult_image, State.wr_image]

theorem latchChannel_sct (codes ofs : List Int) (n : Nat) : (latchChannel codes ofs s n).sct = s.sct := by
  rw [latchChannel, latchResult_sct, State.wr_sct]

/-- The twenty channels of a strobe. -/
def latchChannels (codes ofs : List Int) (s : State) : State := (List.range 20).foldl (latchChannel codes ofs) s

/-- A word of channel `n` is as the channel's own step leaves it. -/
theorem latchChannels_rd (codes ofs : List Int) {n a : Nat} (hn : n < 20) (hlo : 0x100100 + 32 * n ≤ a)
    (hhi : a < 0x100120 + 32 * n) : (latchChannels codes ofs s).rd a =
      (latchChannel codes ofs ((List.range n).foldl (latchChannel codes ofs) s) n).rd a := by
  refine foldl_range_at (fun s : State => s.rd a) _ hn (fun t m _ hne => latchChannel_rd_other t codes ofs ?_ ?_ ?_) s
  · simp only [Reg.MTR_CH_DATA]; omega
  · simp only [Reg.MTR_CH_OFS]; omega
  · simp only [Fld.MTR_CH_FLAG_OVR]; omega

theorem latchChannels_rd_low (codes ofs : List Int) {a : Nat} (h : a < 0x100100) :
    (latchChannels codes ofs s).rd a = s.rd a := by
  refine foldl_field (fun s : State => s.rd a) _ (fun t m => latchChannel_rd_other t codes ofs ?_ ?_ ?_) _ s
  · simp only [Reg.MTR_CH_DATA]; omega
  · simp only [Reg.MTR_CH_OFS]; omega
  · simp only [Fld.MTR_CH_FLAG_OVR]; omega

theorem latchChannels_rd_high (codes ofs : List Int) {a : Nat} (h : 0x100400 ≤ a) :
    (latchChannels codes ofs s).rd a = s.rd a := by
  refine foldl_field_mem (fun s : State => s.rd a) _ _ (fun t m hm => latchChannel_rd_other t codes ofs ?_ ?_ ?_) s <;>
    have hlt := List.mem_range.1 hm
  · simp only [Reg.MTR_CH_DATA]; omega
  · simp only [Reg.MTR_CH_OFS]; omega
  · simp only [Fld.MTR_CH_FLAG_OVR]; omega

theorem latchChannels_data (codes ofs : List Int) {n : Nat} (hn : n < 20) :
    (latchChannels codes ofs s).rd (Reg.MTR_CH_DATA n) = BitVec.ofInt 32 (limited (codes.getD n 0)) := by
  rw [latchChannels_rd s codes ofs hn (by unfold Reg.MTR_CH_DATA; omega) (by unfold Reg.MTR_CH_DATA; omega), latchChannel,
    latchResult_data]

theorem latchChannels_ofs (codes ofs : List Int) {n : Nat} (hn : n < 20) :
    (latchChannels codes ofs s).rd (Reg.MTR_CH_OFS n) = BitVec.ofInt 32 (ofs.getD n 0) := by
  rw [latchChannels_rd s codes ofs hn (by unfold Reg.MTR_CH_OFS; omega) (by unfold Reg.MTR_CH_OFS; omega),
    latchChannel_ofs]

theorem latchChannels_ovr (codes ofs : List Int) {n : Nat} (hn : n < 20)
    (h : codes.getD n 0 ≤ -8388608 ∨ 8388607 ≤ codes.getD n 0) :
    (latchChannels codes ofs s).fg (Fld.MTR_CH_FLAG_OVR n) = 1 := by
  unfold State.fg
  rw [latchChannels_rd s codes ofs hn (by simp only [Fld.MTR_CH_FLAG_OVR]; omega)
    (by simp only [Fld.MTR_CH_FLAG_OVR]; omega)]
  exact latchResult_ovr _ n h

/-! ### Strobes (R149, R150, R251) -/

/-- A strobe's results in their words. -/
def strobeLatched (codes ofs : List Int) (s : State) : State :=
  latchResults codes ofs (s.wr Reg.MTR_STRB_CNT (s.rd Reg.MTR_STRB_CNT + 1))

theorem strobeLatched_regs (codes ofs : List Int) : (strobeLatched codes ofs s).regs =
    (latchChannels codes ofs (s.wr Reg.MTR_STRB_CNT (s.rd Reg.MTR_STRB_CNT + 1))).regs := by
  rw [strobeLatched, latchResults, setMtr_regs]
  rfl

theorem strobeLatched_image (codes ofs : List Int) : (strobeLatched codes ofs s).image = s.image := by
  rw [strobeLatched, latchResults, setMtr_image]
  exact foldl_field State.image (latchChannel codes ofs) (fun t n => latchChannel_image t codes ofs n) _ _

theorem strobeLatched_sct (codes ofs : List Int) : (strobeLatched codes ofs s).sct = s.sct := by
  rw [strobeLatched, latchResults, setMtr_sct]
  exact foldl_field State.sct (latchChannel codes ofs) (fun t n => latchChannel_sct t codes ofs n) _ _

theorem strobeLatched_rd_other (codes ofs : List Int) {a : Nat} (hcount : a ≠ Reg.MTR_STRB_CNT)
    (h : a < 0x100100 ∨ 0x100400 ≤ a) : (strobeLatched codes ofs s).rd a = s.rd a := by
  rw [rd_congr (strobeLatched_regs s codes ofs), ← rd_wr_other s _ a (s.rd Reg.MTR_STRB_CNT + 1) hcount]
  exact h.elim (latchChannels_rd_low _ codes ofs) (latchChannels_rd_high _ codes ofs)

theorem strobeLatched_count (codes ofs : List Int) :
    (strobeLatched codes ofs s).rd Reg.MTR_STRB_CNT = s.rd Reg.MTR_STRB_CNT + 1 := by
  rw [rd_congr (strobeLatched_regs s codes ofs), latchChannels_rd_low _ _ _ (by decide), rd_wr_same]

/-- A strobe of `clocks` modulator clocks in the accumulators of the sets in use (R160). -/
def strobeCredits (clocks : Nat) (s : State) : State :=
  ((List.range 10).filter s.setUsed).foldl (fun s a => creditStrobe clocks a s) s

/-- What the meter remembers of a strobe. -/
def strobeNotes (clocks : Nat) (s : State) : State :=
  s.setMtr { s.mtr with
    lossNow := false, switchNow := false, volt := (List.range 8).map (fun n => (n, s.volts (8 + n)))
    adj := 0, since := s.mtr.since + clocks }

/-- What a strobe does with its results: the scales, the classes, the accumulators, the snapshot, and what it publishes. -/
def strobeAccounts (clocks : Nat) (s : State) : State :=
  publishMeter (prechargeStrobe clocks (pvStrobe clocks (snapshot (strobeNotes clocks (strobeCredits clocks
    (creditTime clocks (classUpdate (scaleUpdate s))))))))

theorem strobeCredits_keeps (clocks : Nat) : StrobeKeeps s (strobeCredits clocks s) :=
  .foldl _ _ fun t _ ha => creditStrobe_keeps t clocks (List.mem_range.1 (List.mem_of_mem_filter ha))

theorem strobeNotes_keeps (clocks : Nat) : StrobeKeeps s (strobeNotes clocks s) := .setMtr _

theorem strobeAccounts_keeps (clocks : Nat) : StrobeKeeps s (strobeAccounts clocks s) := by
  unfold strobeAccounts
  exact (scaleUpdate_keeps s).trans <| (classUpdate_keeps _).trans <| (creditTime_keeps _ clocks).trans <|
    (strobeCredits_keeps _ clocks).trans <| (strobeNotes_keeps _ clocks).trans <| (snapshot_keeps _).trans <|
    (pvStrobe_keeps _ clocks).trans <| (prechargeStrobe_keeps _ clocks).trans (publishMeter_keeps _)

theorem sampleStrobe_idle (codes ofs : List Int) (off : Option Int) (h : s.fb Fld.MTR_STAT_FULL = false) :
    sampleStrobe codes ofs off s = s := by
  unfold sampleStrobe State.fullRate
  rw [h]
  rfl

theorem sampleStrobe_full (codes ofs : List Int) (off : Option Int) (h : s.fb Fld.MTR_STAT_FULL = true) :
    sampleStrobe codes ofs off s =
      busLowStep (alignStep off (strobeAccounts s.strobeClocks (strobeLatched codes ofs s))) := by
  have hfull : ¬ (!s.fullRate) = true := by simp [State.fullRate, h]
  unfold sampleStrobe
  rw [if_neg hfull]
  unfold strobeAccounts strobeNotes strobeCredits strobeLatched
  rfl

theorem alignStep_locks {o : Int} (hworker : s.fb Fld.MTR_STAT_WORKER = true) (hrate : s.fb Fld.WGL_STAT_RATEMIS = false) :
    (alignStep (some o) s).fg Fld.MTR_ALIGN_LOCK = if o.natAbs ≤ 2 then 1 else 0 := by
  have hruns : ¬ ((!s.fb Fld.MTR_STAT_WORKER) = true ∨ s.fb Fld.WGL_STAT_RATEMIS = true) := by simp [hworker, hrate]
  unfold alignStep
  dsimp only
  rw [if_neg hruns, setMtr_fg, fg_fs_same _ _ _ (by decide)]
  by_cases h : o.natAbs ≤ 2
  · rw [if_pos h, decide_eq_true h]
    rfl
  · rw [if_neg h, decide_eq_false h]
    rfl

theorem alignStep_keeps (off : Option Int) : StrobeKeeps s (alignStep off s) := by
  have halign : ¬ StrobeWord Fld.MTR_ALIGN_OFS.addr := by
    simp only [StrobeWord, Fld.MTR_ALIGN_OFS, Reg.MTR_STRB_CNT, Fld.WGL_STAT_RATEMIS, Fld.SCT_HU_CFG_THR]
    omega
  cases off with
  | none => exact .refl
  | some o =>
    unfold alignStep
    dsimp only
    split
    · exact .refl
    · exact ((StrobeKeeps.wr _ halign (by decide)).trans (.wr _ halign (by decide))).trans (.setMtr _)

theorem busLowStep_busLowN : (busLowStep s).sct.busLowN = if s.chUsed 16 = true ∧
    10000000 * s.volts 16 < (s.busNominal : Rat) * (10000 - s.fg Fld.SCT_HU_CFG_THR : Nat)
    then min 2 (s.sct.busLowN + 1) else 0 := by
  unfold busLowStep
  dsimp only [State.setSct]
  simp only [Bool.and_eq_true, decide_eq_true_iff]

/-- A strobe's state before its last step, which leaves every register word alone. -/
def strobeAligned (codes ofs : List Int) (off : Option Int) (s : State) : State :=
  alignStep off (strobeAccounts s.strobeClocks (strobeLatched codes ofs s))

theorem strobeAligned_keeps (codes ofs : List Int) (off : Option Int) :
    StrobeKeeps (strobeLatched codes ofs s) (strobeAligned codes ofs off s) :=
  (strobeAccounts_keeps _ _).trans (alignStep_keeps _ off)

theorem strobeAligned_count (codes ofs : List Int) (off : Option Int) :
    (strobeAligned codes ofs off s).rd Reg.MTR_STRB_CNT = s.rd Reg.MTR_STRB_CNT + 1 := by
  rw [(strobeAligned_keeps s codes ofs off).word _ (.inl rfl), strobeLatched_count]

/-- The words of a channel's result, offset correction and flags outlast the rest of the strobe. -/
theorem strobeAligned_rd (codes ofs : List Int) (off : Option Int) {n a : Nat} (hn : n < 20)
    (ha : a ∈ [Reg.MTR_CH_DATA n, Reg.MTR_CH_OFS n, (Fld.MTR_CH_FLAG_OVR n).addr]) :
    (strobeAligned codes ofs off s).rd a =
      (latchChannels codes ofs (s.wr Reg.MTR_STRB_CNT (s.rd Reg.MTR_STRB_CNT + 1))).rd a := by
  have hword : StrobeWord a := by
    simp only [List.mem_cons, List.not_mem_nil, or_false, Reg.MTR_CH_DATA, Reg.MTR_CH_OFS, Fld.MTR_CH_FLAG_OVR] at ha
    unfold StrobeWord
    omega
  rw [(strobeAligned_keeps s codes ofs off).word a hword, rd_congr (strobeLatched_regs s codes ofs)]

theorem strobeAligned_lock (codes ofs : List Int) {o : Int} (hworker : s.fb Fld.MTR_STAT_WORKER = true)
    (hrate : s.fb Fld.WGL_STAT_RATEMIS = false) :
    (strobeAligned codes ofs (some o) s).fg Fld.MTR_ALIGN_LOCK = if o.natAbs ≤ 2 then 1 else 0 := by
  have hkeeps := strobeAccounts_keeps (strobeLatched codes ofs s) s.strobeClocks
  refine alignStep_locks _ ?_ ?_
  · rw [← hworker]
    exact fb_of_fg _ (hkeeps.worker.trans
      (fg_of_rd (strobeLatched_rd_other s codes ofs (by decide) (.inl (by decide)))))
  · rw [← hrate]
    exact fb_of_fg _ (fg_of_rd ((hkeeps.word _ (.inr (.inl rfl))).trans
      (strobeLatched_rd_other s codes ofs (by decide) (.inl (by decide)))))

theorem chUsed_congr {s t : State} (h : t.image = s.image) (n : Nat) : t.chUsed n = s.chUsed n := by
  unfold State.chUsed State.sec; rw [h]

theorem busNominal_congr {s t : State} (h : t.image = s.image) : t.busNominal = s.busNominal := by
  unfold State.busNominal State.sec; rw [h]

theorem strobe_busLowN (codes ofs : List Int) (off : Option Int) :
    let u := busLowStep (strobeAligned codes ofs off s)
    u.sct.busLowN = if s.chUsed 16 = true ∧
      10000000 * u.volts 16 < (s.busNominal : Rat) * (10000 - s.fg Fld.SCT_HU_CFG_THR : Nat)
      then min 2 (s.sct.busLowN + 1) else 0 := by
  have hkeeps := strobeAligned_keeps s codes ofs off
  have himage := hkeeps.image.trans (strobeLatched_image s codes ofs)
  have hsct := hkeeps.sct.trans (strobeLatched_sct s codes ofs)
  have hthr : (strobeAligned codes ofs off s).fg Fld.SCT_HU_CFG_THR = s.fg Fld.SCT_HU_CFG_THR :=
    fg_of_rd ((hkeeps.word _ (.inr (.inr (.inl rfl)))).trans
      (strobeLatched_rd_other s codes ofs (by decide) (.inr (by decide))))
  have hbus := busLowStep_busLowN (strobeAligned codes ofs off s)
  rw [chUsed_congr himage, busNominal_congr himage, hsct, hthr] at hbus
  exact hbus

/-! ### The slow counter (R163, R164, R167) -/

theorem slowIncrement_credits {n : Nat} {dv : Int} (hslow : s.fb Fld.MTR_STAT_SLOW = true)
    (hfull : s.fb Fld.MTR_STAT_FULL = false) (hused : s.setUsed n = true) (hsat : s.mtr.slowSat.contains n = false)
    (htrk : (s.rd (Reg.MTR_CH_TRK n)).toNat ≠ 0) : slowIncrement n dv false s =
      let q : Rat := (dv : Rat) / (s.rd (Reg.MTR_CH_TRK n)).toNat * kvGet (fun _ => 1) s.mtr.gain n
      classUpdate (credit n q (q * kvGet (fun _ => 0) s.mtr.volt n) s) := by
  have hruns : ¬ ((!s.fb Fld.MTR_STAT_SLOW) = true ∨ s.fullRate = true ∨ (!s.setUsed n) = true) := by
    simp [State.fullRate, hslow, hfull, hused]
  have hcharge : s.slowCharge n dv = (dv : Rat) / (s.rd (Reg.MTR_CH_TRK n)).toNat := if_neg (Nat.cast_ne_zero.2 htrk)
  unfold slowIncrement
  rw [if_neg hruns, if_neg Bool.false_ne_true, hsat, if_neg Bool.false_ne_true, hcharge]

theorem slowIncrement_saturates {n : Nat} (dv : Int) (hslow : s.fb Fld.MTR_STAT_SLOW = true)
    (hfull : s.fb Fld.MTR_STAT_FULL = false) (hused : s.setUsed n = true) : slowIncrement n dv true s =
      classUpdate ((overrange n s).setMtr { (overrange n s).mtr with
        slowSat := (overrange n s).mtr.slowSat.filter (· != n) ++ [n] }) := by
  have hruns : ¬ ((!s.fb Fld.MTR_STAT_SLOW) = true ∨ s.fullRate = true ∨ (!s.setUsed n) = true) := by
    simp [State.fullRate, hslow, hfull, hused]
  unfold slowIncrement
  rw [if_neg hruns, if_pos rfl]

/-- One voltage channel of a burst. -/
def burstChannel (codes : List Int) (s : State) (n : Nat) : State :=
  if s.chUsed (8 + n) then latchResult (8 + n) (codes.getD n 0) s else s

/-- A burst's results in their words. -/
def burstLatched (codes : List Int) (s : State) : State := (List.range 8).foldl (burstChannel codes) s

theorem voltageBurst_regs (codes : List Int) (h : s.fb Fld.MTR_STAT_SLOW = true) :
    (voltageBurst codes s).regs = (burstLatched codes s).regs := by
  unfold voltageBurst
  rw [h]
  exact setMtr_regs (burstLatched codes s) _

theorem burstChannel_image (codes : List Int) (n : Nat) : (burstChannel codes s n).image = s.image := by
  unfold burstChannel
  split
  · exact latchResult_image s _ _
  · rfl

theorem burstChannel_rd_other (codes : List Int) {n m : Nat} (h : m ≠ n) :
    (burstChannel codes s m).rd (Reg.MTR_CH_DATA (8 + n)) = s.rd (Reg.MTR_CH_DATA (8 + n)) := by
  unfold burstChannel
  split
  · refine latchResult_rd_other s _ ?_ ?_
    · simp only [Reg.MTR_CH_DATA]; omega
    · simp only [Reg.MTR_CH_DATA, Fld.MTR_CH_FLAG_OVR]; omega
  · rfl

theorem burstLatched_data (codes : List Int) {n : Nat} (hn : n < 8) :
    (burstLatched codes s).rd (Reg.MTR_CH_DATA (8 + n)) = if s.chUsed (8 + n) = true
      then BitVec.ofInt 32 (limited (codes.getD n 0)) else s.rd (Reg.MTR_CH_DATA (8 + n)) := by
  let g := fun s : State => s.rd (Reg.MTR_CH_DATA (8 + n))
  have hother : ∀ t, ∀ m < 8, m ≠ n → g (burstChannel codes t m) = g t := fun t m _ h => burstChannel_rd_other t codes h
  have himage : ((List.range n).foldl (burstChannel codes) s).image = s.image :=
    foldl_field State.image _ (fun t m => burstChannel_image t codes m) _ s
  have hat : (burstLatched codes s).rd (Reg.MTR_CH_DATA (8 + n)) =
      (burstChannel codes ((List.range n).foldl (burstChannel codes) s) n).rd (Reg.MTR_CH_DATA (8 + n)) :=
    foldl_range_at g (burstChannel codes) hn hother s
  have hbefore : ((List.range n).foldl (burstChannel codes) s).rd (Reg.MTR_CH_DATA (8 + n)) =
      s.rd (Reg.MTR_CH_DATA (8 + n)) := foldl_range_before g _ hn hother s
  rw [hat, burstChannel, chUsed_congr himage, apply_ite (State.rd · _), latchResult_data, hbefore]

/-! ### The statement -/

theorem exec_sampleStrobe (codes ofs : List Int) (off : Option Int) :
    exec (.sampleStrobe codes ofs off) s = done s (sampleStrobe codes ofs off s) := rfl

theorem exec_snapRequest {p : Port} (h : Reach p Reg.MTR_CTL s) : exec (.snapRequest p) s =
    .next (finish (respond p (snapWrite s).1 0 (snapWrite s).2)) := done_asWrite s p _ _ h.1 h.2

theorem exec_snapshotTaken : exec .snapshotTaken s = done s (snapshot s) := rfl

theorem exec_slowCountIncrement (n : Fin 8) (dv : Int) (sat : Bool) :
    exec (.slowCountIncrement n dv sat) s = done s (slowIncrement n dv sat s) := rfl

theorem exec_watchVoltageBurst (codes : List Int) :
    exec (.watchVoltageBurst codes) s = done s (voltageBurst codes s) := rfl

theorem exec_syncEdgeLoss : exec .syncEdgeLoss s = done s (syncEdgeLoss s) := rfl

/-- Settles O23: what a strobe latches outlasts the rest of it (`StrobeKeeps`); the slow counter and the burst by their own
cases. -/
theorem meterCounts : Obligations.MeterCounts := by
  unfold Obligations.MeterCounts
  refine ⟨⟨?strobe, ?idle, ?request, ?taken⟩, ?increment, ?saturated, ?burst, ?edge⟩
  case strobe =>
    intro codes ofs off s hlive hfull
    refine ⟨busLowStep (strobeAligned codes ofs off s), ?_, strobeAligned_count s codes ofs off, fun n hn => ⟨?_, ?_, ?_⟩,
      ?_, strobe_busLowN s codes ofs off⟩
    · rw [exec_sampleStrobe, done_next _ hlive, sampleStrobe_full s codes ofs off hfull]
      rfl
    · exact (strobeAligned_rd s codes ofs off hn (by simp)).trans (latchChannels_data _ codes ofs hn)
    · exact (strobeAligned_rd s codes ofs off hn (by simp)).trans (latchChannels_ofs _ codes ofs hn)
    · intro hsat
      refine Eq.trans ?_ (latchChannels_ovr (s.wr Reg.MTR_STRB_CNT (s.rd Reg.MTR_STRB_CNT + 1)) codes ofs hn hsat)
      exact fg_of_rd (strobeAligned_rd s codes ofs off hn (by simp))
    · rintro o rfl hworker hrate
      exact strobeAligned_lock s codes ofs hworker hrate
  case idle =>
    intro codes ofs off s hlive hfull
    rw [exec_sampleStrobe, done_next _ hlive, sampleStrobe_idle s codes ofs off hfull]
  case request =>
    intro p s hreach
    rw [exec_snapRequest s hreach, snapWrite]
    split <;> rfl
  case taken =>
    intro s hlive hpend
    refine ⟨snapshot s, by rw [exec_snapshotTaken, done_next _ hlive], ?_, ?_, ?_, ?_, fun a ha k hk => ?_⟩
    · rw [snapshot_taken s hpend]
      simp (disch := decide) only [fg_fs_other, fg_fs_of_lt]
    · rw [snapshot_taken s hpend]
      exact fg_fs_of_lt _ _ _ (by decide) (by decide)
    · rw [snapshot_rd s (by decide) hpend, snapWords_class]
    · rw [snapshot_rd s (by decide) hpend, snapWords_count]
    · rw [snapshot_rd s (by unfold Reg.MTR_SET_SQIN_LO Reg.MTR_STAT; omega) hpend, snapWords_set s ha hk]
  case increment =>
    intro n dv s hlive hslow hfull hused hsat htrk
    rw [exec_slowCountIncrement, done_next _ hlive, slowIncrement_credits s hslow hfull hused hsat htrk]
  case saturated =>
    intro n dv s hlive hslow hfull hused
    rw [exec_slowCountIncrement, done_next _ hlive, slowIncrement_saturates s dv hslow hfull hused, overrange_eq]
  case burst =>
    intro codes s hlive hslow
    refine ⟨voltageBurst codes s, by rw [exec_watchVoltageBurst, done_next _ hlive], fun n hn => ?_⟩
    rw [rd_congr (voltageBurst_regs s codes hslow)]
    exact burstLatched_data s codes hn
  case edge =>
    intro s hlive hworker
    rw [exec_syncEdgeLoss, done_next _ hlive, syncEdgeLoss, if_pos hworker]

end Sys2Proof.Machine
end

section
/-!
PROOFS. The propolis log (R148, R438, R441 to R446): ring frames and what they read back as, event entries and the scan for
the last of them, waveform records and their triggers.
-/
namespace Sys2Proof.Machine

/-! ### Bytes in a row -/

@[simp] theorem leBytes_length (n v : Nat) : (leBytes n v).length = n := by
  induction n generalizing v with
  | zero => rfl
  | succ n ih => rw [leBytes, List.length_cons, ih]

theorem byteAt_leBytes {n i : Nat} (v : Nat) (h : i < n) : byteAt (leBytes n v) i = v / 256 ^ i % 256 := by
  induction n generalizing v i with
  | zero => exact absurd h (Nat.not_lt_zero i)
  | succ n ih =>
    cases i with
    | zero => simp [byteAt, leBytes]
    | succ i =>
      have hrest := ih (v / 256) (Nat.lt_of_succ_lt_succ h)
      rw [Nat.div_div_eq_div_mul, ← pow_succ'] at hrest
      exact hrest

theorem byteAt_lt (b : List Byte) (i : Nat) : byteAt b i < 256 := (b.getD i 0).isLt

theorem byteAt_append_left {a : List Byte} (b : List Byte) {i : Nat} (h : i < a.length) :
    byteAt (a ++ b) i = byteAt a i := by
  rw [byteAt, List.getD_append _ _ _ _ h, byteAt]

theorem byteAt_append_right {a : List Byte} (b : List Byte) {i : Nat} (h : a.length ≤ i) :
    byteAt (a ++ b) i = byteAt b (i - a.length) := by
  rw [byteAt, List.getD_append_right _ _ _ _ h, byteAt]

theorem byteAt_skip {n i : Nat} (v : Nat) (b : List Byte) (h : n ≤ i) :
    byteAt (leBytes n v ++ b) i = byteAt b (i - n) := by
  rw [byteAt_append_right b (by rwa [leBytes_length]), leBytes_length]

theorem u32At_eq (b : List Byte) (i : Nat) : u32At b i =
    byteAt b i + 256 * byteAt b (i + 1) + 65536 * byteAt b (i + 2) + 16777216 * byteAt b (i + 3) := by
  rw [u32At, u16At, u16At, Nat.add_assoc i 2 1]
  omega

theorem u32At_lt (b : List Byte) (i : Nat) : u32At b i < 2 ^ 32 := by
  have h0 := byteAt_lt b i
  have h1 := byteAt_lt b (i + 1)
  have h2 := byteAt_lt b (i + 2)
  have h3 := byteAt_lt b (i + 3)
  rw [u32At_eq]
  omega

theorem u32At_append_right {a : List Byte} (b : List Byte) {i : Nat} (h : a.length ≤ i) :
    u32At (a ++ b) i = u32At b (i - a.length) := by
  rw [u32At_eq, u32At_eq, byteAt_append_right b h, byteAt_append_right b (by omega), byteAt_append_right b (by omega),
    byteAt_append_right b (by omega), Nat.sub_add_comm h, Nat.sub_add_comm h, Nat.sub_add_comm h]

theorem u32At_skip {n i : Nat} (v : Nat) (b : List Byte) (h : n ≤ i) : u32At (leBytes n v ++ b) i = u32At b (i - n) := by
  rw [u32At_append_right b (by rwa [leBytes_length]), leBytes_length]

/-- Four bytes of a number read back as the number, modulo 2^32 (R8). -/
theorem u32At_leBytes (v : Nat) (b : List Byte) : u32At (leBytes 4 v ++ b) 0 = v % 2 ^ 32 := by
  have hbyte : ∀ i < 4, byteAt (leBytes 4 v ++ b) i = v / 256 ^ i % 256 := fun i hi => by
    rw [byteAt_append_left b (by rwa [leBytes_length]), byteAt_leBytes v hi]
  rw [u32At_eq, hbyte 0 (by decide), hbyte (0 + 1) (by decide), hbyte (0 + 2) (by decide), hbyte (0 + 3) (by decide)]
  omega

/-- Triples of bytes in a row: the byte `j` of triple `n`. -/
theorem byteAt_triples (f : Nat → Nat) {k n j : Nat} (hn : n < k) (hj : j < 3) :
    byteAt ((List.range k).flatMap fun n => leBytes 3 (f n)) (3 * n + j) = f n / 256 ^ j % 256 := by
  have hlen : ∀ m, ((List.range m).flatMap fun n => leBytes 3 (f n)).length = 3 * m := fun m => by
    simp [List.length_flatMap, Nat.mul_comm]
  induction k with
  | zero => exact absurd hn (Nat.not_lt_zero n)
  | succ k ih =>
    rw [List.range_succ, List.flatMap_append, List.flatMap_singleton]
    by_cases hk : n < k
    · rw [byteAt_append_left _ (by rw [hlen]; omega), ih hk]
    · obtain rfl : n = k := by omega
      rw [byteAt_append_right _ (by rw [hlen]; omega), hlen, Nat.add_sub_cancel_left, byteAt_leBytes _ hj]

/-! ### Bits of masks -/

theorem maskOf_succ (n : Nat) (p : Nat → Bool) : maskOf (n + 1) p = if p n then maskOf n p + 2 ^ n else maskOf n p := by
  rw [maskOf, List.range_succ, List.foldl_append]
  rfl

theorem maskOf_lt (n : Nat) (p : Nat → Bool) : maskOf n p < 2 ^ n := by
  induction n with
  | zero => exact Nat.one_pos
  | succ n ih =>
    rw [maskOf_succ, pow_succ]
    split <;> omega

theorem testBit_maskOf (p : Nat → Bool) {n i : Nat} (h : i < n) : (maskOf n p).testBit i = p i := by
  induction n with
  | zero => exact absurd h (Nat.not_lt_zero i)
  | succ n ih =>
    rw [maskOf_succ]
    by_cases hi : i = n
    · have htop : (maskOf n p).testBit n = false := Nat.testBit_lt_two_pow (maskOf_lt n p)
      rw [hi]
      split
      · next hp => rw [Nat.add_comm, Nat.testBit_two_pow_add_eq, htop, hp]; rfl
      · next hp => rw [htop, Bool.eq_false_of_not_eq_true hp]
    · have hlt : i < n := by omega
      split
      · rw [Nat.add_comm, Nat.testBit_two_pow_add_gt hlt, ih hlt]
      · exact ih hlt

/-! ### Lengths of hashes (FIPS 180-4, FIPS 198-1) -/

theorem shaRound_length (v : List Word) (kw : Word × Word) : (shaRound v kw).length = v.length := by
  unfold shaRound
  split <;> rfl

theorem shaBlock_length (h : List Word) (b : List Byte) : (shaBlock h b).length = h.length := by
  unfold shaBlock
  dsimp only
  rw [List.length_map, List.length_zip, foldl_field List.length shaRound shaRound_length, Nat.min_self]

theorem shaBlocks_length (n : Nat) (h : List Word) (b : List Byte) : (shaBlocks n h b).length = h.length := by
  induction n generalizing h b with
  | zero => rfl
  | succ n ih => rw [shaBlocks, ih, shaBlock_length]

theorem sha256_length (b : List Byte) : (sha256 b).length = 32 := by
  have hword : ∀ w : Word, (beBytes 4 w.toNat).length = 4 := fun w => by rw [beBytes, List.length_reverse, leBytes_length]
  unfold sha256
  dsimp only
  rw [List.length_flatMap]
  simp only [hword, List.map_const', List.sum_replicate, shaBlocks_length]
  rfl

theorem hmac256_length (key msg : List Byte) : (hmac256 key msg).length = 32 := sha256_length _

/-! ### Ring frames (R148, R438) -/

theorem divRound_bounds {n : Int} {d m : Nat} (hd : 0 < d) (h : n.natAbs ≤ d * m) : (divRound n d).natAbs ≤ m := by
  have hq : (2 * n.natAbs + d) / (2 * d) < m + 1 := by
    rw [Nat.div_lt_iff_lt_mul (by omega)]
    calc 2 * n.natAbs + d < 2 * (d * m) + 2 * d := by omega
      _ = (m + 1) * (2 * d) := by ring
  unfold divRound
  dsimp only
  split
  · rw [Int.natAbs_neg, Int.natAbs_natCast]
    exact Nat.le_of_lt_succ hq
  · rw [Int.natAbs_natCast]
    exact Nat.le_of_lt_succ hq

/-- A number of 24 bits reads back from its three bytes. -/
theorem toSigned_ofSigned {c : Int} (hlo : -8388608 ≤ c) (hhi : c < 8388608) :
    let v := ofSigned 24 c
    toSigned 24 (v / 256 ^ 0 % 256 + 256 * (v / 256 ^ 1 % 256) + 65536 * (v / 256 ^ 2 % 256)) = c := by
  have hv : ((ofSigned 24 c : Nat) : Int) = c % 2 ^ 24 := Int.toNat_of_nonneg (Int.emod_nonneg _ (by decide))
  intro v
  have hnum : v / 256 ^ 0 % 256 + 256 * (v / 256 ^ 1 % 256) + 65536 * (v / 256 ^ 2 % 256) = v % 2 ^ 24 := by omega
  rw [hnum, toSigned, Nat.mod_mod]
  split <;> omega

theorem frameBytes_length (codes : List Int) (invalid count : Nat) : (frameBytes codes invalid count).length = 64 := by
  rw [frameBytes, List.length_append, leBytes_length, List.length_flatMap]
  simp only [leBytes_length, List.map_const', List.sum_replicate, List.length_range]
  rfl

/-- A frame's mask of invalid channels. -/
theorem frameBytes_invalid (codes : List Int) {invalid : Nat} (count : Nat) {n : Nat} (h : invalid < 2 ^ 20) (hn : n < 20) :
    bitOf (u32At (frameBytes codes invalid count) 60) n = invalid.testBit n := by
  have hlen : ((List.range 20).flatMap (fun n =>
      leBytes 3 (if bitOf invalid n then 0 else ofSigned 24 (codes.getD n 0)))).length = 60 := by
    rw [List.length_flatMap]
    simp only [leBytes_length, List.map_const', List.sum_replicate, List.length_range]
    rfl
  have hword : u32At (frameBytes codes invalid count) 60 = 2 ^ 20 * (count % 4096) + invalid := by
    have hle := u32At_leBytes (invalid + 2 ^ 20 * (count % 4096)) []
    rw [List.append_nil] at hle
    rw [frameBytes, u32At_append_right _ hlen.le, hlen, Nat.sub_self, hle]
    omega
  rw [hword, bitOf_eq_testBit, Nat.testBit_two_pow_mul_add _ h, if_pos hn]

/-- A channel of a frame reads back as its code where the frame does not mark it invalid. -/
theorem frameCode_frameBytes (codes : List Int) {invalid : Nat} (count : Nat) {n : Nat} (h : invalid < 2 ^ 20) (hn : n < 20)
    (hlo : -8388608 ≤ codes.getD n 0) (hhi : codes.getD n 0 < 8388608) :
    frameCode (frameBytes codes invalid count) n = if invalid.testBit n then none else some (codes.getD n 0) := by
  have hbyte : ∀ j < 3, byteAt (frameBytes codes invalid count) (3 * n + j) =
      (if bitOf invalid n then 0 else ofSigned 24 (codes.getD n 0)) / 256 ^ j % 256 := by
    intro j hj
    rw [frameBytes, byteAt_append_left, byteAt_triples _ hn hj]
    simp only [List.length_flatMap, leBytes_length, List.map_const', List.sum_replicate, List.length_range, smul_eq_mul]
    omega
  have hcode := toSigned_ofSigned hlo hhi
  rw [frameCode, frameBytes_invalid codes count h hn]
  split
  · rfl
  · next hv =>
    rw [← bitOf_eq_testBit] at hv
    rw [← Nat.add_zero (3 * n), hbyte 0 (by decide), Nat.add_zero, hbyte 1 (by decide), hbyte 2 (by decide), if_neg hv]
    exact congrArg some hcode

variable (s : State)

/-- The results that the next ring frame takes. -/
def ringResults (s : State) : List (List Int) := s.mtr.feed.take s.feedSize

/-- The mean of a channel's results. -/
def ringMean (s : State) (n : Nat) : Int :=
  divRound (((ringResults s).map (fun r => r.getD n 0)).foldl (· + ·) 0) (ringResults s).length

/-- The channels that the next ring frame marks invalid. -/
def ringInvalid (s : State) : Nat := maskOf 20 (fun n => !s.chUsed n ||
  (ringResults s).any (fun r => saturated (r.getD n 0)) || s.setClass (setOfChannel n) == classU)

/-- The next frame and the index it takes. -/
def ringNext (s : State) : List Byte :=
  frameBytes ((List.range 20).map (ringMean s)) (ringInvalid s) (((s.rd Reg.PRP_FCNT).toNat + 1) % 2 ^ 32)

def ringIndex (s : State) : Nat := (s.fg Fld.PRP_STAT_WIDX + 1) % 49152

/-- The log takes a ring frame. -/
def RingRuns (s : State) : Prop :=
  s.feedSize ≤ s.mtr.feed.length ∧ s.fb Fld.MTR_STAT_FULL = true ∧ s.awake = true ∧ s.fb Fld.PRP_CFG_RUN = true ∧
    s.inReset 0x1A = false ∧ s.ringWaits = false

/-- The frame in its slot of the ring. -/
def ringStored (s : State) : State :=
  (s.setMtr { s.mtr with feed := s.mtr.feed.drop s.feedSize }).setSramBytes (ringAt (ringIndex s)) (ringNext s)

theorem ringFrame_eq : ringFrame s =
    if (ringResults s).length < s.feedSize || !s.fullRate || !s.awake || !s.fb Fld.PRP_CFG_RUN || s.ringWaits ||
      s.inReset 0x1A then s
    else ((ringStored s).fs Fld.PRP_STAT_WIDX (ringIndex s)).wr Reg.PRP_FCNT
      (BitVec.ofNat 32 (((s.rd Reg.PRP_FCNT).toNat + 1) % 2 ^ 32)) := (rfl)

theorem ringResults_length (h : s.feedSize ≤ s.mtr.feed.length) : (ringResults s).length = s.feedSize :=
  List.length_take_of_le h

theorem ringFrame_idle (h : ¬ RingRuns s) : ringFrame s = s := by
  have hlen : (ringResults s).length < s.feedSize ↔ ¬ s.feedSize ≤ s.mtr.feed.length := by
    rw [ringResults, List.length_take]
    omega
  rw [ringFrame_eq, if_pos]
  by_contra hno
  simp only [Bool.or_eq_true, decide_eq_true_iff, Bool.not_eq_true', not_or, hlen, not_not, Bool.not_eq_false,
    Bool.not_eq_true, State.fullRate] at hno
  obtain ⟨⟨⟨⟨⟨hfeed, hfull⟩, hawake⟩, hrun⟩, hwait⟩, hreset⟩ := hno
  exact h ⟨hfeed, hfull, hawake, hrun, hreset, hwait⟩

theorem ringFrame_runs (h : RingRuns s) : ringFrame s = ((ringStored s).fs Fld.PRP_STAT_WIDX (ringIndex s)).wr Reg.PRP_FCNT
    (BitVec.ofNat 32 (((s.rd Reg.PRP_FCNT).toNat + 1) % 2 ^ 32)) := by
  obtain ⟨hfeed, hfull, hawake, hrun, hreset, hwait⟩ := h
  rw [ringFrame_eq, if_neg]
  simp [ringResults_length s hfeed, State.fullRate, hfull, hawake, hrun, hreset, hwait]

theorem setSramBytes_field {γ : Type} (g : State → γ)
    (h : ∀ (t : State) (a : Nat) (v : Byte), g (t.setSramByte a v) = g t) (a : Nat) (b : List Byte) :
    g (s.setSramBytes a b) = g s := by
  induction b generalizing s a with
  | nil => rfl
  | cons x r ih => rw [State.setSramBytes, ih, h]

theorem sramBytes_setBytes (a : Nat) (b : List Byte) : (s.setSramBytes a b).sramBytes a b.length = b := by
  refine List.ext_getElem (by simp [State.sramBytes]) fun i hi hb => ?_
  simp only [State.sramBytes, List.getElem_map, List.getElem_range]
  rw [sramByte_setBytes, if_pos (by omega), Nat.add_sub_cancel_left, List.getD_eq_getElem _ _ hb]

theorem ringIndex_lt : ringIndex s < 49152 := Nat.mod_lt _ (by decide)

theorem ringAt_index : ringAt (ringIndex s) = 0x800000 + 64 * ringIndex s := by
  rw [ringAt, Nat.mod_eq_of_lt (ringIndex_lt s)]

theorem ringNext_length : (ringNext s).length = 64 := frameBytes_length _ _ _

theorem sramByte_congr {s t : State} (h : t.sram = s.sram) (a : Nat) : t.sramByte a = s.sramByte a := by
  unfold State.sramByte; rw [h]

theorem sramBytes_congr {s t : State} (h : t.sram = s.sram) (a n : Nat) : t.sramBytes a n = s.sramBytes a n := by
  unfold State.sramBytes; simp only [sramByte_congr h]

section
variable {s}

theorem ringFrame_widx (h : RingRuns s) : (ringFrame s).fg Fld.PRP_STAT_WIDX = ringIndex s := by
  rw [ringFrame_runs s h, fg_wr_other _ _ _ _ (by decide)]
  exact fg_fs_of_lt _ _ _ (by decide) ((ringIndex_lt s).trans (by decide))

theorem ringFrame_count (h : RingRuns s) : (ringFrame s).rd Reg.PRP_FCNT = s.rd Reg.PRP_FCNT + 1 := by
  rw [ringFrame_runs s h, rd_wr_same]
  refine BitVec.eq_of_toNat_eq ?_
  rw [BitVec.toNat_ofNat, BitVec.toNat_add, Nat.mod_mod]
  rfl

theorem ringFrame_feed (h : RingRuns s) : (ringFrame s).mtr.feed = s.mtr.feed.drop s.feedSize := by
  rw [ringFrame_runs s h, State.wr_mtr, State.fs_mtr, ringStored,
    setSramBytes_field _ State.mtr fun t a v => State.setSramByte_mtr t a v]
  rfl

theorem ringFrame_sram (h : RingRuns s) : (ringFrame s).sram = (ringStored s).sram := by
  rw [ringFrame_runs s h, State.wr_sram, State.fs_sram]

theorem ringFrame_sramByte (h : RingRuns s) {b : Nat}
    (hb : b < 0x800000 + 64 * ringIndex s ∨ 0x800000 + 64 * ringIndex s + 64 ≤ b) :
    (ringFrame s).sramByte b = s.sramByte b := by
  rw [sramByte_congr (ringFrame_sram h), ringStored, sramByte_setBytes, ringNext_length, ringAt_index, if_neg (by omega)]
  rfl

theorem ringFrame_sramBytes (h : RingRuns s) :
    (ringFrame s).sramBytes (0x800000 + 64 * ringIndex s) 64 = ringNext s := by
  have hstored := sramBytes_setBytes (s.setMtr { s.mtr with feed := s.mtr.feed.drop s.feedSize })
    (ringAt (ringIndex s)) (ringNext s)
  rw [ringNext_length, ringAt_index] at hstored
  rw [sramBytes_congr (ringFrame_sram h), ringStored, ringAt_index]
  exact hstored

end

theorem feedSize_pos : 0 < s.feedSize := by
  unfold State.feedSize
  split <;> decide

/-- A sum of results none of which is saturated. -/
theorem sum_natAbs_le (l : List Int) {m : Nat} (h : ∀ x ∈ l, x.natAbs ≤ m) (b : Int) :
    (l.foldl (· + ·) b).natAbs ≤ b.natAbs + l.length * m := by
  induction l generalizing b with
  | nil => simp
  | cons x r ih =>
    have hx := h x List.mem_cons_self
    have hr := ih (fun y hy => h y (List.mem_cons_of_mem x hy)) (b + x)
    rw [List.foldl_cons, List.length_cons, Nat.add_mul, Nat.one_mul]
    omega

/-- A channel that the next frame does not mark invalid is in use, and its mean lies within 24 bits. -/
theorem ringMean_valid {n : Nat} (hfeed : s.feedSize ≤ s.mtr.feed.length) (hn : n < 20)
    (h : (ringInvalid s).testBit n = false) : s.chUsed n = true ∧ (ringMean s n).natAbs ≤ 8388607 := by
  rw [ringInvalid, testBit_maskOf _ hn, Bool.or_eq_false_iff, Bool.or_eq_false_iff, Bool.not_eq_false'] at h
  obtain ⟨⟨hused, hsat⟩, -⟩ := h
  have hresult : ∀ x ∈ (ringResults s).map (fun r => r.getD n 0), x.natAbs ≤ 8388607 := by
    intro x hx
    obtain ⟨r, hr, rfl⟩ := List.mem_map.1 hx
    have hno := List.any_eq_false.1 hsat r hr
    rw [saturated, decide_eq_true_iff] at hno
    omega
  have hsum := sum_natAbs_le _ hresult 0
  rw [List.length_map, Int.natAbs_zero, Nat.zero_add] at hsum
  refine ⟨hused, divRound_bounds ?_ hsum⟩
  rw [ringResults_length s hfeed]
  exact feedSize_pos s

/-- What a ring frame reads back as. -/
theorem ringNext_code {n : Nat} {c : Int} (hfeed : s.feedSize ≤ s.mtr.feed.length) (hn : n < 20)
    (h : frameCode (ringNext s) n = some c) : s.chUsed n = true ∧
      c = divRound (((ringResults s).map (fun r => r.getD n 0)).foldl (· + ·) 0) s.feedSize := by
  have hmask : ringInvalid s < 2 ^ 20 := maskOf_lt 20 _
  have hcode : ((List.range 20).map (ringMean s)).getD n 0 = ringMean s n := by
    rw [List.getD_eq_getElem _ _ (by simpa using hn), List.getElem_map, List.getElem_range]
  have hvalid : (ringInvalid s).testBit n = false := by
    refine Bool.eq_false_of_not_eq_true fun hset => ?_
    rw [frameCode, ringNext, frameBytes_invalid _ _ hmask hn, hset, if_pos rfl] at h
    exact Option.some_ne_none c h.symm
  obtain ⟨hused, hmean⟩ := ringMean_valid s hfeed hn hvalid
  rw [ringNext, frameCode_frameBytes _ _ hmask hn (by rw [hcode]; omega) (by rw [hcode]; omega), hvalid,
    if_neg Bool.false_ne_true, hcode, ringMean, ringResults_length s hfeed] at h
  exact ⟨hused, (Option.some.inj h).symm⟩

/-! ### One write of a writer (R515) -/

section
variable {s} {w : Nat} {issue complete : State → State}

theorem nvRun_waits (h : s.nvWaits w = true) : nvRun w issue complete s = s := if_pos h

theorem nvRun_issues (hwaits : s.nvWaits w = false) (hbusy : s.nvBusy w = false) : nvRun w issue complete s = issue s := by
  rw [nvRun, hwaits, hbusy]
  rfl

theorem nvRun_completes (hwaits : s.nvWaits w = false) (hbusy : s.nvBusy w = true) :
    nvRun w issue complete s = complete (nvEnd w s) := by
  rw [nvRun, hwaits, hbusy]
  rfl

end

theorem nvEnd_idle (w : Nat) : (nvEnd w s).nvBusy w = false := by
  simp [State.nvBusy, nvEnd, State.setNvm]

theorem nvIssue_busy (w : Nat) (ws : List (Nat × Word)) : (nvIssue w ws s).nvBusy w = true := by
  simp [State.nvBusy, nvIssue, State.setNvm]

theorem nvBusy_congr {s t : State} (h : t.nvm = s.nvm) (w : Nat) : t.nvBusy w = s.nvBusy w := by
  unfold State.nvBusy; rw [h]

/-! ### Event entries (R441, R442) -/

@[simp] theorem setPrp_rd (v : Prp) (a : Nat) : (s.setPrp v).rd a = s.rd a := (rfl)
@[simp] theorem setPrp_fg (v : Prp) (f : Fld) : (s.setPrp v).fg f = s.fg f := (rfl)

theorem eventTag_length (b : List Byte) : (s.eventTag b).length = 8 := by
  rw [State.eventTag, List.length_take, hmac256_length]
  rfl

/-- An entry's bytes before its tag. -/
def eventHead (v : EvEntry) (s : State) : List Byte :=
  leBytes 4 ((s.rd Reg.PRP_EVSEQ).toNat + 1) ++ (leBytes 4 v.sec ++ (leBytes 2 v.ticks ++ (leBytes 1 v.code ++
    (leBytes 1 (boolNat v.ttrust + 2 * boolNat v.merged) ++ (leBytes 4 s.epoch ++ (leBytes 4 v.arg0 ++ leBytes 4 v.arg1))))))

theorem eventBytes_eq (v : EvEntry) : eventBytes v s = eventHead v s ++ s.eventTag (eventHead v s) := by
  unfold eventBytes eventHead
  simp only [List.append_assoc]

theorem eventBytes_length (v : EvEntry) : (eventBytes v s).length = 32 := by
  rw [eventBytes_eq, List.length_append, eventTag_length]
  simp only [eventHead, List.length_append, leBytes_length]

theorem eventBytes_fields (v : EvEntry) : u32At (eventBytes v s) 0 = ((s.rd Reg.PRP_EVSEQ).toNat + 1) % 2 ^ 32 ∧
    u32At (eventBytes v s) 4 = v.sec % 2 ^ 32 ∧ byteAt (eventBytes v s) 10 = v.code % 256 ∧
    u32At (eventBytes v s) 16 = v.arg0 % 2 ^ 32 := by
  have hcode : ∀ b, byteAt (leBytes 1 v.code ++ b) 0 = v.code % 256 := fun b => by
    rw [byteAt_append_left b (by rw [leBytes_length]; decide), byteAt_leBytes _ (by decide), pow_zero, Nat.div_one]
  rw [eventBytes_eq]
  generalize s.eventTag (eventHead v s) = tag
  simp (disch := decide) only [eventHead, List.append_assoc, u32At_skip, byteAt_skip, Nat.reduceSub, u32At_leBytes, hcode,
    and_self]

theorem eventBegin_idle (h : s.logWrites = false ∨ s.prp.queue = []) : eventBegin s = s := by
  unfold eventBegin
  split
  · next v rest hlog hqueue =>
    rcases h with h | h
    · rw [h] at hlog
      exact absurd hlog Bool.false_ne_true
    · rw [h] at hqueue
      exact absurd hqueue (List.cons_ne_nil v rest).symm
  · rfl

theorem eventBegin_issues {v : EvEntry} {rest : List EvEntry} (hlog : s.logWrites = true)
    (hqueue : s.prp.queue = v :: rest) : eventBegin s = nvIssue wLog (byteWords (eventAt s.prp.evSlot) (eventBytes v s)) s := by
  unfold eventBegin
  rw [hlog, hqueue]

/-- The state once an entry has been written, but for its event. -/
def eventCounted (s : State) : State :=
  let b := s.mramBytes (eventAt s.prp.evSlot) 32
  (s.wr Reg.PRP_EVSEQ (BitVec.ofNat 32 (u32At b 0))).setPrp { s.prp with
    queue := s.prp.queue.drop 1
    evSlot := (s.prp.evSlot + 1) % eventSlots
    deliver := if s.fb Fld.PRP_CFG_BQEN then s.prp.deliver ++ [b] else s.prp.deliver }

theorem eventDone_eq : eventDone s = (eventCounted s).raise 190 := (rfl)

theorem eventCounted_seq : (eventCounted s).rd Reg.PRP_EVSEQ =
    BitVec.ofNat 32 (u32At (s.mramBytes (0x580000 + 32 * (s.prp.evSlot % 16384)) 32) 0) := by
  rw [eventCounted, setPrp_rd, rd_wr_same, eventAt]

theorem eventCounted_deliver : (eventCounted s).prp.deliver.length =
    s.prp.deliver.length + (if s.fb Fld.PRP_CFG_BQEN = true then 1 else 0) := by
  rw [eventCounted, setPrp_prp]
  dsimp only
  split
  · rw [List.length_append, List.length_singleton]
  · rfl

theorem bqDelivery_cons {b : List Byte} {rest : List (List Byte)} (h : s.prp.deliver = b :: rest) :
    let q := 60 + s.fg Fld.PRP_CFG_BQ
    bqDelivery s = if !s.qEnabled q then s else if s.qRoom q = 0 then s.fs (Fld.SYS_Q_STAT_OVF q) 1
      else qPush q b (s.setPrp { s.prp with deliver := rest }) := by
  unfold bqDelivery
  rw [h]

/-! ### The scan (R442) -/

/-- The scan looks at slot `e`: the highest SEQ so far, and the slot behind it. -/
def scanSlot (s : State) (m : Nat × Nat) (e : Nat) : Nat × Nat := if m.1 < s.eventSeq e then (s.eventSeq e, e + 1) else m

theorem eventSeq_lt (e : Nat) : s.eventSeq e < 2 ^ 32 := by
  unfold State.eventSeq
  dsimp only
  split
  · decide
  · split
    · exact u32At_lt _ _
    · decide

theorem scanSlots_highest (k : Nat) :
    let r := (List.range k).foldl (scanSlot s) (0, 0)
    (∀ e < k, s.eventSeq e ≤ r.1) ∧ (r.1 = 0 ∨ ∃ e < k, s.eventSeq e = r.1 ∧ r.2 = e + 1) := by
  induction k with
  | zero => exact ⟨fun e he => absurd he (Nat.not_lt_zero e), .inl rfl⟩
  | succ k ih =>
    rw [List.range_succ, List.foldl_append, List.foldl_cons, List.foldl_nil]
    generalize (List.range k).foldl (scanSlot s) (0, 0) = m at ih ⊢
    obtain ⟨hmax, hmem⟩ := ih
    by_cases hk : m.1 < s.eventSeq k
    · rw [scanSlot, if_pos hk]
      refine ⟨fun e he => ?_, .inr ⟨k, Nat.lt_succ_self k, rfl, rfl⟩⟩
      rcases Nat.lt_succ_iff_lt_or_eq.1 he with he | rfl
      · exact (hmax e he).trans hk.le
      · exact le_rfl
    · rw [scanSlot, if_neg hk]
      refine ⟨fun e he => ?_, hmem.imp_right fun ⟨e, he, h⟩ => ⟨e, Nat.lt_succ_of_lt he, h⟩⟩
      rcases Nat.lt_succ_iff_lt_or_eq.1 he with he | rfl
      · exact hmax e he
      · exact Nat.le_of_not_lt hk

/-- The state behind a scan that ended with `r`. -/
def scanFound (r : Nat × Nat) (s : State) : State :=
  (s.wr Reg.PRP_EVSEQ (BitVec.ofNat 32 r.1)).setPrp { s.prp with scanned := true, evSlot := r.2 % eventSlots }

theorem eventScan_scans (hfirm : s.rst.firmware = true) (hscan : s.prp.scanned = false) :
    eventScan s = scanFound ((List.range eventSlots).foldl (scanSlot s) (0, 0)) s := by
  unfold eventScan
  rw [hfirm, hscan]
  rfl

theorem scanFound_seq {r : Nat × Nat} (h : r.1 < 2 ^ 32) : ((scanFound r s).rd Reg.PRP_EVSEQ).toNat = r.1 := by
  rw [scanFound, setPrp_rd, rd_wr_same, BitVec.toNat_ofNat, Nat.mod_eq_of_lt h]

/-! ### Waveform records (R443 to R446) -/

/-- A bit of a field of three, set or cleared. -/
theorem bitOf_setBit_three : ∀ m < 8, ∀ i < 3, ∀ b, bitOf (setBit m i b % 8) i = b := by decide

theorem fs_valid_bit (b : Bool) {w : Nat} (hw : w < 3) :
    bitOf ((s.fs Fld.PRP_REC_LOCK_VALID (setBit (s.fg Fld.PRP_REC_LOCK_VALID) w b)).fg Fld.PRP_REC_LOCK_VALID) w = b := by
  rw [fg_fs_same _ _ _ (by decide)]
  exact bitOf_setBit_three _ (fldOf_lt _ _ 3) w hw b

theorem waveBegin_none (h : s.prp.capt = none) : waveBegin s = s := by
  unfold waveBegin
  rw [h]
  exact ite_self _

/-- The slot's old record is invalid from here on. -/
def waveInvalid (w : Nat) (s : State) : State :=
  s.fs Fld.PRP_REC_LOCK_VALID (setBit (s.fg Fld.PRP_REC_LOCK_VALID) w false)

theorem waveBegin_issues {c : Capture} {sp : Nat × Nat × Nat × Nat} (hcapt : s.prp.capt = some c)
    (hfirm : s.rst.firmware = true) (hpower : s.powerState ≠ 0) (hlog : s.seqr.noLog = false)
    (hspan : s.waveSpan c = some sp) : waveBegin s = nvIssue wWave
      (waveWords c.slot (waveBody c (max (max (s.waveSeq 0) (s.waveSeq 1)) (s.waveSeq 2) + 1) sp s) s)
      (waveInvalid c.slot s) := by
  have hruns : ¬ (!(s.rst.firmware && s.powerState != 0 && !s.seqr.noLog)) = true := by simp [hfirm, hpower, hlog]
  unfold waveBegin
  rw [if_neg hruns, hcapt]
  dsimp only
  rw [hspan]
  rfl

/-- A record that is sealed, but for its event. -/
def waveSealed (c : Capture) (s : State) : State :=
  let u := s.fs Fld.PRP_REC_LOCK_VALID (setBit (s.fg Fld.PRP_REC_LOCK_VALID) c.slot true)
  (u.fs Fld.PRP_STAT_CAPT 0).setPrp { u.prp with
    capt := none, preReset := if c.trig = 5 then none else u.prp.preReset }

theorem waveDone_seals {c : Capture} (hcapt : s.prp.capt = some c)
    (hcount : u16At (s.mramBytes (waveAt c.slot) 0x7D100) 2 = c.trigCnt) : waveDone s = (waveSealed c s).raise 189 := by
  unfold waveDone
  rw [hcapt]
  dsimp only
  rw [if_neg (not_not.2 hcount)]
  rfl

theorem waveSealed_capt (c : Capture) : (waveSealed c s).prp.capt = none ∧ (waveSealed c s).fg Fld.PRP_STAT_CAPT = 0 := by
  refine ⟨?_, ?_⟩
  · rw [waveSealed, setPrp_prp]
  · rw [waveSealed, setPrp_fg, fg_fs_same _ _ _ (by decide), Nat.zero_mod]

theorem waveSealed_valid {c : Capture} (hslot : c.slot < 3) :
    bitOf ((waveSealed c s).fg Fld.PRP_REC_LOCK_VALID) c.slot = true := by
  rw [waveSealed, setPrp_fg, fg_fs_addr _ _ _ _ (by decide)]
  exact fs_valid_bit s true hslot

theorem waveSealed_nvm (c : Capture) : (waveSealed c s).nvm = s.nvm := by
  rw [waveSealed, setPrp_nvm, State.fs_nvm, State.fs_nvm]

section
variable {s} {trig : Nat} (arg : Nat)

theorem waveTrigger_disabled (h : bitOf (s.fg Fld.PRP_TRIG_EN) trig = false) : s.waveTrigger trig arg = s := by
  unfold State.waveTrigger
  rw [h]
  rfl

theorem waveTrigger_merges {c : Capture} (h : bitOf (s.fg Fld.PRP_TRIG_EN) trig = true) (hcapt : s.prp.capt = some c) :
    (s.waveTrigger trig arg).prp.capt = some { c with trigCnt := min 65535 (c.trigCnt + 1) } := by
  unfold State.waveTrigger
  rw [h, hcapt]
  rfl

/-- With every slot locked there is none for a new record (R443). -/
theorem waveSlot_locked (h : s.fg Fld.PRP_REC_LOCK_LOCK = 7) : s.waveSlot = none := by
  have hnone : (List.range 3).filter (fun w => !bitOf 7 w) = [] := by decide
  unfold State.waveSlot
  rw [h, hnone]
  rfl

theorem waveTrigger_locked (h : bitOf (s.fg Fld.PRP_TRIG_EN) trig = true) (hcapt : s.prp.capt = none)
    (hlock : s.fg Fld.PRP_REC_LOCK_LOCK = 7) : s.waveTrigger trig arg = s.logEvent 0x08 0xFF trig false := by
  unfold State.waveTrigger
  rw [h, hcapt, waveSlot_locked hlock]
  rfl

end

/-! ### The statement -/

theorem exec_eventEntryWrite : exec .eventEntryWrite s = done s (nvRun wLog eventBegin eventDone s) := rfl
theorem exec_bqDelivery : exec .bqDelivery s = done s (bqDelivery s) := rfl
theorem exec_eventLogScan : exec .eventLogScan s = done s (eventScan s) := rfl
theorem exec_waveformSeal : exec .waveformSeal s = done s (nvRun wWave waveBegin waveDone s) := rfl

theorem exec_waveformHostTrigger {p : Port} (h : Reach p Reg.PRP_CTL s) : exec (.waveformHostTrigger p) s =
    .next (finish (respond p stOk 0 (s.waveTrigger 6 0))) := done_asWrite s p _ _ h.1 h.2

theorem exec_hostMark {p : Port} (h : Reach p Reg.PRP_CTL s) : exec (.hostMark p) s =
    .next (finish (respond p stOk 0 (s.logEvent 0x09 (s.rd Reg.PRP_MARK).toNat 0 false))) := done_asWrite s p _ _ h.1 h.2

/-- Settles O49: a frame reads back as the means it was made of; a writer issues and completes (`nvRun`); the scan by
induction over the slots. -/
theorem logRecordsEvents : Obligations.LogRecordsEvents := by
  unfold Obligations.LogRecordsEvents
  refine ⟨?ring, ?bytes, ?entry, ?delivery, ?scan, ?record, ?host, ?trigger⟩
  case ring =>
    intro s hlive
    have hexec : exec .ringFrameWrite s = .next (finish (ringFrame s)) := done_next _ hlive
    refine ⟨fun hidle => ?_, fun hruns => ?_⟩
    · rw [hexec, ringFrame_idle s hidle]
    · have hruns : RingRuns s := hruns
      refine ⟨ringFrame s, hexec, ringFrame_widx hruns, ringFrame_count hruns, ringFrame_feed hruns,
        fun b hb => ringFrame_sramByte hruns hb, fun n hn c hcode => ?_⟩
      exact ringNext_code s hruns.1 hn ((congrArg (frameCode · n) (ringFrame_sramBytes hruns)).symm.trans hcode)
  case bytes => exact fun v s => ⟨eventBytes_length s v, eventBytes_fields s v⟩
  case entry =>
    intro s hlive
    rw [exec_eventEntryWrite, done_next _ hlive]
    refine ⟨fun hwaits => ?_, fun hwaits hbusy => ⟨fun hidle => ?_, fun v rest hlog hqueue => ?_⟩, fun hwaits hbusy => ?_⟩
    · rw [nvRun_waits hwaits]
    · rw [nvRun_issues hwaits hbusy, eventBegin_idle s hidle]
    · rw [nvRun_issues hwaits hbusy, eventBegin_issues s hlog hqueue]
      rfl
    · refine ⟨eventCounted (nvEnd wLog s), ?_, nvEnd_idle s wLog, rfl, rfl, eventCounted_seq _, eventCounted_deliver _⟩
      rw [nvRun_completes hwaits hbusy, eventDone_eq]
  case delivery =>
    intro b rest s hlive hdeliver
    rw [exec_bqDelivery, done_next _ hlive, bqDelivery_cons s hdeliver]
    refine ⟨fun hoff => ?_, fun hon hfull => ?_, fun hon hroom => ?_⟩
    · rw [hoff]
      rfl
    · rw [hon, if_pos hfull]
      rfl
    · rw [hon, if_neg hroom]
      rfl
  case scan =>
    intro s hlive hfirm hscan
    obtain ⟨hmax, hmem⟩ := scanSlots_highest s eventSlots
    generalize hr : (List.range eventSlots).foldl (scanSlot s) (0, 0) = r at hmax hmem
    have hlt : r.1 < 2 ^ 32 := by
      rcases hmem with h | ⟨e, -, h, -⟩
      · rw [h]
        decide
      · rw [← h]
        exact eventSeq_lt s e
    refine ⟨scanFound r s, ?_, rfl, ?_⟩
    · rw [exec_eventLogScan, done_next _ hlive, eventScan_scans s hfirm hscan, hr]
    · rw [scanFound_seq s hlt]
      exact ⟨hmax, hmem.imp_right fun ⟨e, he, hseq, hslot⟩ => ⟨e, he, hseq, congrArg (· % eventSlots) hslot⟩⟩
  case record =>
    intro s hlive
    rw [exec_waveformSeal, done_next _ hlive]
    refine ⟨?_, fun c sp hwaits hcapt hslot => ⟨fun hbusy hfirm hpower hlog hspan => ?_, fun hbusy hcount => ?_⟩⟩
    · rintro (hwaits | ⟨hbusy, hcapt⟩)
      · rw [nvRun_waits hwaits]
      · cases hwaits : s.nvWaits wWave
        · rw [nvRun_issues hwaits hbusy, waveBegin_none s hcapt]
        · rw [nvRun_waits hwaits]
    · refine ⟨_, ?_, nvIssue_busy (waveInvalid c.slot s) wWave _, rfl, fs_valid_bit s false hslot⟩
      rw [nvRun_issues hwaits hbusy, waveBegin_issues s hcapt hfirm hpower hlog hspan]
    · obtain ⟨hnone, hcaptured⟩ := waveSealed_capt (nvEnd wWave s) c
      refine ⟨waveSealed c (nvEnd wWave s), ?_, hnone, hcaptured, ?_, waveSealed_valid _ hslot⟩
      · rw [nvRun_completes hwaits hbusy, waveDone_seals (nvEnd wWave s) hcapt hcount]
      · rw [nvBusy_congr (waveSealed_nvm _ c)]
        exact nvEnd_idle s wWave
  case host => exact fun p s hreach => ⟨exec_waveformHostTrigger s hreach, exec_hostMark s hreach⟩
  case trigger =>
    exact fun trig arg s => ⟨waveTrigger_disabled arg,
      fun c hen hcapt => ⟨_, waveTrigger_merges arg hen hcapt, rfl, rfl, rfl⟩, waveTrigger_locked arg⟩

end Sys2Proof.Machine
end

section
/-!
PROOFS. The energy ledger (R173, R175, R176, R178, R179, R182, R189 to R195): record values, what the totals' words are, how
the ledger starts and closes, and how a record reaches MRAM, the totals and its report queue.
-/
namespace Sys2Proof.Machine

/-! ### Record values (R182) -/

section
variable (unit most d carry : Nat)

theorem recordValue_le : (recordValue unit most d carry).1 ≤ most := Nat.min_le_left _ _

theorem recordValue_add_carry :
    (recordValue unit most d carry).1 * unit + (recordValue unit most d carry).2.1 = d + carry :=
  Nat.add_sub_of_le (Nat.mul_le_of_le_div _ _ _ (Nat.min_le_right most ((d + carry) / unit)))

/-- Short of the field's end only the part below one unit is carried. -/
theorem recordValue_carry_lt (hunit : 0 < unit) (h : (recordValue unit most d carry).2.2 = false) :
    (recordValue unit most d carry).2.1 < unit := by
  have hfits : (d + carry) / unit ≤ most := not_lt.1 (of_decide_eq_false h)
  have hcarry : (recordValue unit most d carry).2.1 = (d + carry) % unit := by
    rw [recordValue, Nat.min_eq_right hfits, ← Nat.mod_eq_sub_div_mul]
  rw [hcarry]
  exact Nat.mod_lt _ hunit

theorem recordValue_limited (h : (recordValue unit most d carry).2.2 = true) : (recordValue unit most d carry).1 = most :=
  Nat.min_eq_left (of_decide_eq_true h).le

end

/-- Settles O24: the value times its unit and the carry are the sum that was divided, limited or not. -/
theorem recordValuesAddUp : Obligations.RecordValuesAddUp := fun unit most d carry hunit =>
  ⟨recordValue_le unit most d carry, recordValue_add_carry unit most d carry,
    recordValue_carry_lt unit most d carry hunit, recordValue_limited unit most d carry⟩

variable (s : State)

@[simp] theorem setLdg_fg (v : Ldg) (f : Fld) : (s.setLdg v).fg f = s.fg f := (rfl)
@[simp] theorem setLdg_rd (v : Ldg) (a : Nat) : (s.setLdg v).rd a = s.rd a := (rfl)

/-! ### The words of the totals (R189, R196) -/

/-- The words outside the SEQ words and the totals of contracts and strings. -/
def OutsideTotals (a : Nat) : Prop := a < Reg.LDG_LC_SEQ 0 ∨ 0x110700 ≤ a

theorem addTotal_rd (v : Nat) {t a : Nat} (h : a ≠ t) (h4 : a ≠ t + 4) : (addTotal t v s).rd a = s.rd a := by
  rw [addTotal, State.wr64, rd_wr_other _ _ _ _ h4, rd_wr_other _ _ _ _ h]

/-- The values of a record, added to the totals of its contract and of its strings. -/
def sumValues (b : List Byte) (s : State) : State :=
  (List.range 8).foldl (fun s n =>
    (List.range 4).foldl (fun s k => addTotal (strTotals n + 8 * k) ((recordValues b n).getD k 0)
      (addTotal (lcTotals (byteAt b 1) + 8 * k) ((recordValues b n).getD k 0) s)) s) s

theorem sumValues_rd (b : List Byte) {a : Nat} (hlc : a < lcTotals (byteAt b 1) ∨ lcTotals (byteAt b 1) + 32 ≤ a)
    (hstr : a < strTotals 0 ∨ strTotals 8 ≤ a) : (sumValues b s).rd a = s.rd a := by
  refine foldl_field_mem (fun s : State => s.rd a) _ _ (fun u n hn => ?_) s
  refine foldl_field_mem (fun s : State => s.rd a) _ _ (fun u k hk => ?_) u
  have hn := List.mem_range.1 hn
  have hk := List.mem_range.1 hk
  simp only [strTotals, Reg.LDG_S_EIN_LO] at hstr ⊢
  rw [addTotal_rd _ _ (by omega) (by omega), addTotal_rd _ _ (by omega) (by omega)]

theorem sumRecord_eq (b : List Byte) :
    let u := sumValues b (s.wr (Reg.LDG_LC_SEQ (byteAt b 1)) (BitVec.ofNat 32 (u32At b 4)))
    sumRecord b s = u.fs Fld.LDG_RING_NEXT ((u.fg Fld.LDG_RING_NEXT + 1) % 8000) := (rfl)

theorem sumRecord_rd {b : List Byte} {a : Nat} (hc : byteAt b 1 < 16) (h : OutsideTotals a)
    (hring : a ≠ Fld.LDG_RING_NEXT.addr) : (sumRecord b s).rd a = s.rd a := by
  simp only [OutsideTotals, Reg.LDG_LC_SEQ] at h
  rw [sumRecord_eq, rd_fs_other _ _ _ _ hring, sumValues_rd, rd_wr_other] <;>
    simp only [Reg.LDG_LC_SEQ, lcTotals, strTotals, Reg.LDG_LC_EIN_LO, Reg.LDG_S_EIN_LO] <;> omega

theorem sumRecord_seq {b : List Byte} (hc : byteAt b 1 < 16) :
    (sumRecord b s).rd (Reg.LDG_LC_SEQ (byteAt b 1)) = BitVec.ofNat 32 (u32At b 4) := by
  rw [sumRecord_eq, rd_fs_other, sumValues_rd, rd_wr_same] <;>
    simp only [Fld.LDG_RING_NEXT, Reg.LDG_LC_SEQ, lcTotals, strTotals, Reg.LDG_LC_EIN_LO, Reg.LDG_S_EIN_LO] <;> omega

theorem sumRecord_next {b : List Byte} (hc : byteAt b 1 < 16) :
    (sumRecord b s).fg Fld.LDG_RING_NEXT = (s.fg Fld.LDG_RING_NEXT + 1) % 8000 := by
  have hring : (sumValues b (s.wr (Reg.LDG_LC_SEQ (byteAt b 1)) (BitVec.ofNat 32 (u32At b 4)))).fg Fld.LDG_RING_NEXT =
      s.fg Fld.LDG_RING_NEXT := by
    refine fg_of_rd ?_
    rw [sumValues_rd, rd_wr_other] <;>
      simp only [Fld.LDG_RING_NEXT, Reg.LDG_LC_SEQ, lcTotals, strTotals, Reg.LDG_LC_EIN_LO, Reg.LDG_S_EIN_LO] <;> omega
  rw [sumRecord_eq, hring]
  exact fg_fs_of_lt _ _ _ (by decide) ((Nat.mod_lt _ (by decide)).trans (by decide))

/-! What no register holds stays as it is. -/

section
variable {γ : Type} (g : State → γ) (h : ∀ (t : State) (r : KV Word), g (t.setRegs r) = g t)
include h

theorem sumRecord_field (b : List Byte) : g (sumRecord b s) = g s := by
  have hwr : ∀ (t : State) (a : Nat) (v : Word), g (t.wr a v) = g t := fun t a v => h t _
  have hvalues : ∀ t : State, g (sumValues b t) = g t := fun t =>
    foldl_field g _ (fun _ _ => foldl_field g _ (fun _ _ => by simp only [addTotal, State.wr64, hwr]) _ _) _ _
  rw [sumRecord_eq, State.fs, hwr, hvalues, hwr]

theorem restoreTotals_field (k : Nat) : g (restoreTotals k s) = g s := by
  have hwr : ∀ (t : State) (a : Nat) (v : Word), g (t.wr a v) = g t := fun t a v => h t _
  have hwords : ∀ (l m : List Nat) (a : Nat → Nat → Nat) (v : State → Nat → Nat → Word) (t : State),
      g (l.foldl (fun s c => m.foldl (fun s i => s.wr (a c i) (v s c i)) s) t) = g t := fun l m a v t =>
    foldl_field g _ (fun _ _ => foldl_field g _ (fun _ _ => hwr _ _ _) _ _) _ _
  unfold restoreTotals
  exact (hwords _ _ _ _ _).trans ((hwords _ _ _ _ _).trans
    ((foldl_field g _ (fun _ _ => hwr _ _ _) _ _).trans (hwr _ _ _)))

theorem clearTotals_field : g (clearTotals s) = g s := by
  rw [clearTotals, State.resetRegs, h, State.resetRegs, h, State.fs, State.wr, h]

end

theorem restoreTotals_rd (k : Nat) {a : Nat} (h : OutsideTotals a) (hring : a ≠ Fld.LDG_RING_NEXT.addr) :
    (restoreTotals k s).rd a = s.rd a := by
  have hwr : ∀ (t : State) (b : Nat) (v : Word), Reg.LDG_LC_SEQ 0 ≤ b → b < 0x110700 → (t.wr b v).rd a = t.rd a :=
    fun t b v hlo hhi => rd_wr_other _ _ _ _ (by rcases h with h | h <;> omega)
  have hlc : ∀ {c i : Nat}, c < 16 → i < 8 →
      Reg.LDG_LC_SEQ 0 ≤ lcTotals c + 4 * i ∧ lcTotals c + 4 * i < 0x110700 := by
    simp only [lcTotals, Reg.LDG_LC_SEQ, Reg.LDG_LC_EIN_LO]; omega
  have hstr : ∀ {n i : Nat}, n < 8 → i < 8 →
      Reg.LDG_LC_SEQ 0 ≤ strTotals n + 4 * i ∧ strTotals n + 4 * i < 0x110700 := by
    simp only [strTotals, Reg.LDG_LC_SEQ, Reg.LDG_S_EIN_LO]; omega
  have hseq : ∀ {c : Nat}, c < 16 → Reg.LDG_LC_SEQ 0 ≤ Reg.LDG_LC_SEQ c ∧ Reg.LDG_LC_SEQ c < 0x110700 := by
    simp only [Reg.LDG_LC_SEQ]; omega
  unfold restoreTotals
  extract_lets t u v w
  calc _ = w.rd a := foldl_field_mem (fun s : State => s.rd a) _ _ (fun _ n hn =>
        foldl_field_mem (fun s : State => s.rd a) _ _ (fun _ i hi =>
          have hin := hstr (List.mem_range.1 hn) (List.mem_range.1 hi)
          hwr _ _ _ hin.1 hin.2) _) _
    _ = v.rd a := foldl_field_mem (fun s : State => s.rd a) _ _ (fun _ c hc =>
        foldl_field_mem (fun s : State => s.rd a) _ _ (fun _ i hi =>
          have hin := hlc (List.mem_range.1 hc) (List.mem_range.1 hi)
          hwr _ _ _ hin.1 hin.2) _) _
    _ = u.rd a := foldl_field_mem (fun s : State => s.rd a) _ _ (fun _ c hc =>
        have hin := hseq (List.mem_range.1 hc)
        hwr _ _ _ hin.1 hin.2) _
    _ = s.rd a := rd_fs_other _ _ _ _ hring

theorem clearTotals_rd {a : Nat} (h : OutsideTotals a) (hring : a ≠ Fld.LDG_RING_NEXT.addr) :
    (clearTotals s).rd a = s.rd a := by
  simp only [OutsideTotals, Reg.LDG_LC_SEQ] at h
  rw [clearTotals, resetRegs_rd_outside, resetRegs_rd_outside, rd_fs_other _ _ _ _ hring] <;>
    simp only [strTotals, Reg.LDG_LC_SEQ, Reg.LDG_S_EIN_LO] <;> omega

/-! ### The ledger starts (R173, R191) -/

theorem ldgStat_rd {a : Nat} (hstat : a ≠ Reg.LDG_STAT) (hring : a ≠ Fld.LDG_RING_NEXT.addr) :
    (ldgStat s).rd a = s.rd a := by
  rw [ldgStat, rd_fs_other _ Fld.LDG_RING_OLDEST _ _ hring, rd_fs_other _ Fld.LDG_STAT_PENDING _ _ hstat]

/-- What the ledger shows of its pending records shares no bit with its other status fields. -/
theorem ldgStat_fg_status {f : Fld} (haddr : f.addr = Reg.LDG_STAT) (hlow : f.lo + f.width ≤ 16) :
    (ldgStat s).fg f = s.fg f := by
  rw [ldgStat, fg_fs_addr _ _ _ _ (by rw [haddr]; decide), fg_fs_other _ _ _ _ (by decide) (.inr (.inl hlow))]

theorem ldgStat_fg_next : (ldgStat s).fg Fld.LDG_RING_NEXT = s.fg Fld.LDG_RING_NEXT := by
  rw [ldgStat, fg_fs_other _ _ _ _ (by decide) (by decide), fg_fs_addr _ _ _ _ (by decide)]

theorem ldgStat_ldg : (ldgStat s).ldg = s.ldg := by rw [ldgStat, State.fs_ldg, State.fs_ldg]

/-- The totals as the start finds them. -/
def startTotals (s : State) : State :=
  match s.totalsBest with
  | some k => (restoreTotals k s).fs Fld.LDG_STAT_FRESH 0
  | none => (clearTotals s).fs Fld.LDG_STAT_FRESH 1

/-- R173: the stored assignment holds for the image it was made for. -/
def startAssign (s : State) : Word :=
  match s.totalsBest with
  | some k => if s.mramWord (totalsAt k + 12) = s.rd Reg.CMB_IMG_SERIAL then s.mramWord (totalsAt k + 8)
      else BitVec.ofNat 32 s.imageAssign
  | none => BitVec.ofNat 32 s.imageAssign

/-- The first interval opens. -/
def startOpen (s : State) : State :=
  ldgStat (intervalOpen ((s.setLdg { s.ldg with
    ivl := s.fg Fld.LDG_CFG_IVL, carry := [], dur := [], prevMask := [], formed := [], pend := [], late := [],
    closeReq := false }).fs Fld.LDG_STAT_RUN 1))

theorem startTotals_field {γ : Type} (g : State → γ) (h : ∀ (t : State) (r : KV Word), g (t.setRegs r) = g t) :
    g (startTotals s) = g s := by
  unfold startTotals
  split
  · exact (h _ _).trans (restoreTotals_field s g h _)
  · exact (h _ _).trans (clearTotals_field s g h)

theorem startTotals_rd {a : Nat} (h : OutsideTotals a) (hring : a ≠ Fld.LDG_RING_NEXT.addr) (hstat : a ≠ Reg.LDG_STAT) :
    (startTotals s).rd a = s.rd a := by
  unfold startTotals
  split
  · rw [rd_fs_other _ _ _ _ hstat, restoreTotals_rd s _ h hring]
  · rw [rd_fs_other _ _ _ _ hstat, clearTotals_rd s h hring]

theorem startTotals_fresh : (startTotals s).fg Fld.LDG_STAT_FRESH = if s.totalsBest = none then 1 else 0 := by
  unfold startTotals
  split
  · next hbest => rw [if_neg (by rw [hbest]; exact Option.some_ne_none _), fg_fs_of_lt _ _ _ (by decide) (by decide)]
  · next hbest => rw [if_pos hbest, fg_fs_of_lt _ _ _ (by decide) (by decide)]

section
variable {s}

/-- The choice of the assignment reads nothing that the totals' return changes. -/
theorem ledgerStart_starts (hrun : s.fb Fld.LDG_STAT_RUN = false) (himage : s.image.isSome = true)
    (hfirm : s.rst.firmware = true) :
    ledgerStart s = startOpen (recoverRecord ((startTotals s).wr Reg.LDG_ASSIGN (startAssign s))) := by
  have hgo : ¬ (s.fb Fld.LDG_STAT_RUN = true ∨ s.image.isNone = true ∨ (!s.rst.firmware) = true) := by
    cases hnone : s.image <;> simp_all
  have hserial : (startTotals s).rd Reg.CMB_IMG_SERIAL = s.rd Reg.CMB_IMG_SERIAL :=
    startTotals_rd s (.inr (by decide)) (by decide) (by decide)
  have himg : (startTotals s).imageAssign = s.imageAssign := startTotals_field s State.imageAssign fun _ _ => rfl
  have hword : ∀ a, (startTotals s).mramWord a = s.mramWord a := fun a =>
    startTotals_field s (·.mramWord a) fun _ _ => rfl
  rw [ledgerStart, if_neg hgo]
  unfold startAssign
  unfold startTotals at hserial himg hword ⊢
  split at hserial
  · next k hbest =>
    simp only [hbest] at hserial himg hword ⊢
    simp only [hserial, himg, hword, beq_iff_eq, Option.getD_some]
    rfl
  · next hbest =>
    simp only [hbest] at himg ⊢
    simp only [himg, Bool.false_eq_true, if_false]
    rfl

end

/-- The totals are as they were restored, or one record that they lacked has joined them. -/
theorem recoverRecord_cases : recoverRecord s = s ∨ ∃ b, byteAt b 1 < 16 ∧ recoverRecord s =
    (nvEnd wLedger (nvIssue wLedger (totalsWords (sumRecord b s)) (sumRecord b s))).fs Fld.LDG_STAT_RECOV 1 := by
  unfold recoverRecord
  extract_lets b c
  split_ifs with hrec
  · exact .inr ⟨b, hrec.1, rfl⟩
  · exact .inl rfl

theorem nvWrite_rd (w : Nat) (ws : List (Nat × Word)) (a : Nat) : (nvEnd w (nvIssue w ws s)).rd a = s.rd a := (rfl)
theorem nvWrite_now (w : Nat) (ws : List (Nat × Word)) : (nvEnd w (nvIssue w ws s)).now = s.now := (rfl)

theorem recoverRecord_rd {a : Nat} (h : OutsideTotals a) (hring : a ≠ Fld.LDG_RING_NEXT.addr)
    (hstat : a ≠ Reg.LDG_STAT) : (recoverRecord s).rd a = s.rd a := by
  rcases recoverRecord_cases s with hrec | ⟨b, hc, hrec⟩ <;> rw [hrec]
  rw [rd_fs_other _ Fld.LDG_STAT_RECOV _ _ hstat, nvWrite_rd, sumRecord_rd s hc h hring]

theorem recoverRecord_fresh : (recoverRecord s).fg Fld.LDG_STAT_FRESH = s.fg Fld.LDG_STAT_FRESH := by
  rcases recoverRecord_cases s with hrec | ⟨b, hc, hrec⟩ <;> rw [hrec]
  rw [fg_fs_other _ _ _ _ (by decide) (by decide), fg_of_rd (nvWrite_rd _ _ _ _)]
  exact fg_of_rd (sumRecord_rd s hc (.inl (by decide)) (by decide))

theorem wr_now (a : Nat) (v : Word) : (s.wr a v).now = s.now := (rfl)

theorem recoverRecord_now : (recoverRecord s).now = s.now := by
  have hnow : ∀ (t : State) (r : KV Word), (t.setRegs r).now = t.now := fun _ _ => rfl
  rcases recoverRecord_cases s with hrec | ⟨b, -, hrec⟩ <;> rw [hrec]
  rw [State.fs, State.wr, hnow, nvWrite_now, sumRecord_field s State.now hnow]

theorem intervalOpen_rd (a : Nat) : (intervalOpen s).rd a = s.rd a := (rfl)
theorem intervalOpen_fg (f : Fld) : (intervalOpen s).fg f = s.fg f := (rfl)
theorem intervalOpen_ldg : (intervalOpen s).ldg.start = s.now ∧ (intervalOpen s).ldg.deferred = false ∧
    (intervalOpen s).ldg.formed = s.ldg.formed := ⟨rfl, rfl, rfl⟩

theorem startOpen_run : (startOpen s).fg Fld.LDG_STAT_RUN = 1 := by
  rw [startOpen, ldgStat_fg_status _ rfl (by decide), intervalOpen_fg, fg_fs_of_lt _ _ _ (by decide) (by decide)]

theorem startOpen_fresh : (startOpen s).fg Fld.LDG_STAT_FRESH = s.fg Fld.LDG_STAT_FRESH := by
  rw [startOpen, ldgStat_fg_status _ rfl (by decide), intervalOpen_fg, fg_fs_other _ _ _ _ (by decide) (by decide),
    setLdg_fg]

theorem startOpen_rd {a : Nat} (hring : a ≠ Fld.LDG_RING_NEXT.addr) (hstat : a ≠ Reg.LDG_STAT) :
    (startOpen s).rd a = s.rd a := by
  rw [startOpen, ldgStat_rd _ hstat hring, intervalOpen_rd, rd_fs_other _ Fld.LDG_STAT_RUN _ _ hstat, setLdg_rd]

theorem startOpen_interval : (startOpen s).ldg.start = s.now ∧ (startOpen s).ldg.pend = [] := ⟨rfl, rfl⟩

/-! ### Closing instants (R175, R176, R178, R179) -/

section
variable {s} {early tstep : Bool}

theorem ledgerEarly_asked (sub : Nat) (h : s.ldg.closeReq = true) : ledgerEarly sub s =
    let u := if s.fb Fld.MTR_STAT_FULL = true then s else aclkTo sub s
    ledgerClose true false (u.setLdg { u.ldg with closeReq := false }) := if_pos h

theorem ledgerBoundary_falls (h : s.rtc.sec % ivlLength s.ldg.ivl = 0) :
    ledgerBoundary s = ledgerClose false false (s.setLdg { s.ldg with ivl := s.fg Fld.LDG_CFG_IVL }) :=
  if_neg (not_not.2 h)

/-- The records of a close, each with the report queue it goes to. -/
def closeRecords (early tstep : Bool) (s : State) : List (List Byte × Option Nat) :=
  s.ldgContracts.map (fun c => (formRecord early tstep c s,
    if bitOf (s.fg Fld.LDG_DELIV_EN) c then some (fldOf (s.rd Reg.LDG_ROUTE) (2 * c) 2) else none))

theorem assignApply_none (h : s.cpend .ldgAssign = false) : assignApply s = s := by
  rw [assignApply, h]
  rfl

section
variable (hrun : s.fb Fld.LDG_STAT_RUN = true) (hpower : s.powerState ≠ 0) (hidle : s.fb Fld.LDG_STAT_CLOSING = false)
include hrun hpower hidle

theorem ledgerClose_defers (hroom : s.ringFree s.ldgContracts.length = false) : ledgerClose early tstep s =
    (s.fs Fld.LDG_STAT_DEFER 1).setLdg { s.ldg with deferred := true, tset := s.ldg.tset || tstep } := by
  simp only [ledgerClose, hrun, hpower, hidle, hroom, Bool.not_true, Bool.not_false, Bool.false_eq_true, or_self, if_true,
    if_false]

/-- A close with room and a contract forms its records and opens the next interval. -/
theorem ledgerClose_forms (hroom : s.ringFree s.ldgContracts.length = true) (hsome : s.ldgContracts ≠ []) :
    ∃ carry dur masks, ledgerClose early tstep s = intervalOpen (assignApply ((s.setLdg { s.ldg with
      formed := closeRecords early tstep s, carry := carry, dur := dur, prevMask := masks }).fs
        Fld.LDG_STAT_CLOSING 1)) := by
  have hrecords : (closeRecords early tstep s).isEmpty = false := by
    rw [closeRecords, List.isEmpty_map, List.isEmpty_eq_false_iff]
    exact hsome
  simp only [closeRecords] at hrecords
  simp only [ledgerClose, hrun, hpower, hidle, hroom, hrecords, Bool.not_true, Bool.false_eq_true, or_self, if_false]
  exact ⟨_, _, _, rfl⟩

theorem ledgerClose_closes (hroom : s.ringFree s.ldgContracts.length = true) (hsome : s.ldgContracts ≠ [])
    (hnone : s.cpend .ldgAssign = false) :
    let u := ledgerClose early tstep s
    u.fg Fld.LDG_STAT_CLOSING = 1 ∧ u.ldg.start = s.now ∧ u.ldg.deferred = false ∧
      u.ldg.formed = closeRecords early tstep s := by
  obtain ⟨carry, dur, masks, hclose⟩ :=
    ledgerClose_forms (early := early) (tstep := tstep) hrun hpower hidle hroom hsome
  rw [assignApply_none (by exact hnone)] at hclose
  rw [hclose]
  refine ⟨?_, intervalOpen_ldg _⟩
  rw [intervalOpen_fg, fg_fs_of_lt _ _ _ (by decide) (by decide)]

end

end

/-! ### Words of a record in MRAM (R189, R190) -/

/-- One word of a run of bytes, written at its place. -/
theorem mramByte_setWord (b : List Byte) (a i : Nat) {j : Nat} (hj : j < 4) :
    (s.setMramWord (a + 4 * i) (BitVec.ofNat 32 (u32At b (4 * i)))).mramByte (a + (4 * i + j)) = b.getD (4 * i + j) 0 := by
  have hbyte : byteAt (leBytes 4 (u32At b (4 * i))) j = byteAt b (4 * i + j) := by
    have h0 := byteAt_lt b (4 * i)
    have h1 := byteAt_lt b (4 * i + 1)
    have h2 := byteAt_lt b (4 * i + 2)
    have h3 := byteAt_lt b (4 * i + 3)
    rw [byteAt_leBytes _ hj, u32At_eq]
    obtain rfl | hpos := Nat.eq_zero_or_pos j
    · simp only [pow_zero, Nat.div_one, Nat.add_zero]
      omega
    · interval_cases j <;> omega
  rw [State.setMramWord, BitVec.toNat_ofNat, Nat.mod_eq_of_lt (u32At_lt _ _), mramByte_setBytes, leBytes_length,
    if_pos (by omega), show a + (4 * i + j) - (a + 4 * i) = j by omega]
  exact BitVec.eq_of_toNat_eq hbyte

theorem mramByte_setWord_other (v : Word) {a k : Nat} (h : k < a ∨ a + 4 ≤ k) :
    (s.setMramWord a v).mramByte k = s.mramByte k := by
  rw [State.setMramWord, mramByte_setBytes, leBytes_length, if_neg (by omega)]

/-- The words of a run of bytes, written in their order, leave the run in MRAM. -/
theorem mramBytes_writeWords {b : List Byte} {n : Nat} (hlen : b.length = 4 * n) (a : Nat) :
    ((byteWords a b).foldl (fun t w => t.setMramWord w.1 w.2) s).mramBytes a (4 * n) = b := by
  have hn : b.length / 4 = n := by omega
  have hat : ∀ k < 4 * n, ((byteWords a b).foldl (fun t w => t.setMramWord w.1 w.2) s).mramByte (a + k) = b.getD k 0 := by
    intro k hk
    have hstep := mramByte_setWord
      ((List.range (k / 4)).foldl (fun t i => t.setMramWord (a + 4 * i) (BitVec.ofNat 32 (u32At b (4 * i)))) s)
      b a (k / 4) (Nat.mod_lt k (by decide))
    rw [Nat.div_add_mod] at hstep
    rw [byteWords, List.foldl_map, hn, ← hstep]
    exact foldl_range_at (fun t : State => t.mramByte (a + k)) _ (by omega)
      (fun t m _ hne => mramByte_setWord_other t _ (a := a + 4 * m) (by omega)) s
  refine List.ext_getElem (by rw [State.mramBytes, List.length_map, List.length_range, hlen]) fun k hk hb => ?_
  have hword := hat k (hlen ▸ hb)
  rw [List.getD_eq_getElem _ _ hb] at hword
  simpa [State.mramBytes] using hword

theorem byteWords_length (a : Nat) (b : List Byte) : (byteWords a b).length = b.length / 4 := by
  rw [byteWords, List.length_map, List.length_range]

theorem recordWords_take {b : List Byte} (h : b.length = 128) :
    (recordWords b s).take 32 = byteWords (ldgSlotAt (s.fg Fld.LDG_RING_NEXT)) b :=
  List.take_left' (by rw [byteWords_length, h])

theorem recordWords_drop {b : List Byte} (h : b.length = 128) : (recordWords b s).drop 32 = totalsWords (sumRecord b s) :=
  List.drop_left' (by rw [byteWords_length, h])

/-! ### A record once written (R190, R193, R195) -/

section
variable {s} {b : List Byte} {q : Option Nat} {rest : List (List Byte × Option Nat)}

theorem recordWritten_cons (h : s.ldg.formed = (b, q) :: rest) :
    recordWritten s = nvRun wLedger (fun s => nvIssue wLedger (recordWords b s) s) recordDone s := by
  unfold recordWritten
  rw [h]

end

/-- The records pending once the one in `slot` has been written: it joins them where it goes to a report queue. -/
def pendingWith (slot : Nat) (q : Option Nat) (s : State) : List (Nat × Nat) :=
  match q with
  | some q => s.ldg.pend ++ [(slot, q)]
  | none => s.ldg.pend

theorem pendingWith_eq (slot : Nat) (q : Option Nat) :
    pendingWith slot q s = s.ldg.pend ++ (match q with | some q => [(slot, q)] | none => []) := by
  cases q with
  | none => exact (List.append_nil _).symm
  | some q => rfl

theorem pendingWith_congr {s t : State} (h : t.ldg = s.ldg) (slot : Nat) (q : Option Nat) :
    pendingWith slot q t = pendingWith slot q s := by
  unfold pendingWith; rw [h]

/-- The report queue that a record goes to is enabled and has no room for it. -/
def routeFull (q : Option Nat) (s : State) : Bool :=
  match q with
  | some q => s.qEnabled (56 + q) && s.qRoom (56 + q) == 0
  | none => false

/-- R193: a report queue without room shows its overflow. -/
def showFull (q : Option Nat) (full : Bool) (s : State) : State :=
  if full then s.fs (Fld.SYS_Q_STAT_OVF (56 + q.getD 0)) 1 else s

/-- A written record has joined the totals and the pending ones. -/
def recordJoined (b : List Byte) (q : Option Nat) (rest : List (List Byte × Option Nat)) (s : State) : State :=
  let u := sumRecord b s
  ldgStat (showFull q (routeFull q u)
    (u.setLdg { u.ldg with formed := rest, pend := pendingWith (s.fg Fld.LDG_RING_NEXT) q u }))

section
variable {s} {b : List Byte} {q : Option Nat} {rest : List (List Byte × Option Nat)}

theorem recordDone_joins (h : s.ldg.formed = (b, q) :: rest) : recordDone s =
    if rest = [] then
      let u := ((recordJoined b q rest s).fs Fld.LDG_STAT_CLOSING 0).raise 140
      lateClose u.ldg.late u
    else recordJoined b q rest s := by
  unfold recordDone
  rw [h]
  unfold recordJoined
  dsimp only
  generalize sumRecord b s = u
  cases rest with
  | nil =>
    rw [if_pos rfl]
    rfl
  | cons r rest =>
    rw [if_neg (List.cons_ne_nil _ _)]
    rfl

end

/-- Each queue's status is the fourth of its eight words. -/
theorem showFull_rd (q : Option Nat) (full : Bool) {a : Nat} (h : a % 32 ≠ 12) : (showFull q full s).rd a = s.rd a := by
  unfold showFull
  split_ifs
  · exact rd_fs_other _ _ _ _ (by simp only [Fld.SYS_Q_STAT_OVF]; omega)
  · rfl

theorem showFull_ldg (q : Option Nat) (full : Bool) : (showFull q full s).ldg = s.ldg := by
  unfold showFull
  split_ifs
  · exact State.fs_ldg _ _ _
  · rfl

theorem recordJoined_ldg (b : List Byte) (q : Option Nat) (rest : List (List Byte × Option Nat)) :
    (recordJoined b q rest s).ldg = { s.ldg with formed := rest, pend := pendingWith (s.fg Fld.LDG_RING_NEXT) q s } := by
  have hldg : (sumRecord b s).ldg = s.ldg := sumRecord_field s State.ldg (fun _ _ => rfl) b
  rw [recordJoined, ldgStat_ldg, showFull_ldg, setLdg_ldg, pendingWith_congr hldg, hldg]

theorem recordJoined_seq {b : List Byte} (q : Option Nat) (rest : List (List Byte × Option Nat)) (hc : byteAt b 1 < 16) :
    (recordJoined b q rest s).rd (Reg.LDG_LC_SEQ (byteAt b 1)) = BitVec.ofNat 32 (u32At b 4) := by
  rw [recordJoined, ldgStat_rd, showFull_rd, setLdg_rd, sumRecord_seq s hc] <;>
    simp only [Reg.LDG_LC_SEQ, Reg.LDG_STAT, Fld.LDG_RING_NEXT] <;> omega

theorem recordJoined_next {b : List Byte} (q : Option Nat) (rest : List (List Byte × Option Nat)) (hc : byteAt b 1 < 16) :
    (recordJoined b q rest s).fg Fld.LDG_RING_NEXT = (s.fg Fld.LDG_RING_NEXT + 1) % 8000 := by
  rw [recordJoined, ldgStat_fg_next, fg_of_rd (showFull_rd _ q _ (by decide)), setLdg_fg, sumRecord_next s hc]

theorem raise_sets {ev : Nat} (h : eventReserved ev = false) : bitOf (s.raise ev).irq.latch ev = true := by
  rw [State.raise_latch, h, bitOf_eq_testBit]
  simp [Nat.testBit_two_pow_self]

theorem lateClose_nil : lateClose [] s = s.setLdg { s.ldg with late := [] } := (rfl)

/-- The last record of a close ends it; no closing instant fell meanwhile. -/
theorem recordDone_last {s : State} {b : List Byte} {q : Option Nat} (hformed : s.ldg.formed = [(b, q)])
    (hlate : s.ldg.late = []) :
    (recordDone s).fg Fld.LDG_STAT_CLOSING = 0 ∧ (recordDone s).ldg.formed = [] ∧
      bitOf (recordDone s).irq.latch 140 = true := by
  have hldg := recordJoined_ldg s b q []
  have hdone : recordDone s = lateClose [] (((recordJoined b q [] s).fs Fld.LDG_STAT_CLOSING 0).raise 140) := by
    rw [recordDone_joins hformed, if_pos rfl]
    simp only [State.raise_ldg, State.fs_ldg, hldg, hlate]
  rw [hdone, lateClose_nil, setLdg_fg, raise_fg, fg_fs_of_lt _ _ _ (by decide) (by decide), setLdg_ldg, State.raise_ldg,
    State.fs_ldg, hldg, setLdg_irq]
  exact ⟨rfl, rfl, raise_sets _ (by decide)⟩

/-! ### Delivery (R193) -/

theorem lqDelivery_pending {q : Nat} {r : Nat × Nat} (hpend : s.ldg.pend.find? (fun p => p.2 == q) = some r)
    (hen : s.qEnabled (56 + q) = true) : lqDelivery q s =
      if s.qRoom (56 + q) = 0 then s.fs (Fld.SYS_Q_STAT_OVF (56 + q)) 1
      else
        let u := qPush (56 + q) (s.mramBytes (ldgSlotAt r.1) 128) s
        ldgStat (u.setLdg { u.ldg with pend := u.ldg.pend.erase r }) := by
  unfold lqDelivery
  rw [hpend]
  simp only [hen, Bool.not_true, Bool.false_eq_true, if_false]

/-! ### The statement -/

theorem exec_ledgerStart : exec .ledgerStart s = done s (ledgerStart s) := rfl
theorem exec_ledgerBoundary : exec .ledgerBoundary s = done s (ledgerBoundary s) := rfl
theorem exec_ledgerEarlyClose (sub : Nat) : exec (.ledgerEarlyClose sub) s = done s (ledgerEarly sub s) := rfl
theorem exec_ledgerRecordWritten : exec .ledgerRecordWritten s = done s (recordWritten s) := rfl
theorem exec_lqDelivery (q : Fin 4) : exec (.lqDelivery q) s = done s (lqDelivery q s) := rfl

theorem exec_ledgerCloseRequest {p : Port} (h : Reach p Reg.LDG_CTL s) :
    exec (.ledgerCloseRequest p) s = .next (finish (respond p stOk 0 (closeRequest s))) := done_asWrite s p _ _ h.1 h.2

/-- The words of a record and of the totals with it go out, or the record joins the totals. -/
theorem exec_ledgerRecordWritten_runs {b : List Byte} {q : Option Nat} {rest : List (List Byte × Option Nat)}
    (hlive : Live s) (hformed : s.ldg.formed = (b, q) :: rest) (hwaits : s.nvWaits wLedger = false) :
    exec .ledgerRecordWritten s = .next (finish
      (if s.nvBusy wLedger = true then recordDone (nvEnd wLedger s) else nvIssue wLedger (recordWords b s) s)) := by
  rw [exec_ledgerRecordWritten, done_next _ hlive, recordWritten_cons hformed]
  split_ifs with hbusy
  · rw [nvRun_completes hwaits hbusy]
  · rw [nvRun_issues hwaits (Bool.eq_false_of_not_eq_true hbusy)]

/-- Settles O25: a start restores or clears the totals and recovers a record; a close forms every record or none; a writer
issues the words of a record and completes it. -/
theorem ledgerRuns : Obligations.LedgerRuns := by
  unfold Obligations.LedgerRuns
  refine ⟨⟨?start, ?request, ?early⟩, ?boundary, ?issue, ?words, ?joins, ?last, ?delivery⟩
  case start =>
    intro s hlive hrun himage hfirm
    rw [exec_ledgerStart, done_next _ hlive, ledgerStart_starts hrun himage hfirm]
    refine ⟨_, rfl, ?_⟩
    obtain ⟨hstart, hpend⟩ := startOpen_interval (recoverRecord ((startTotals s).wr Reg.LDG_ASSIGN (startAssign s)))
    refine ⟨startOpen_run _, ?_, hpend, ?_, ?_⟩
    · rw [hstart, recoverRecord_now, wr_now]
      exact startTotals_field s State.now fun _ _ => rfl
    · rw [startOpen_fresh, recoverRecord_fresh, fg_wr_other _ _ _ _ (by decide), startTotals_fresh]
    · rw [startOpen_rd _ (by decide) (by decide), recoverRecord_rd _ (.inl (by decide)) (by decide) (by decide),
        rd_wr_same]
      rfl
  case request => exact fun p s hreach => exec_ledgerCloseRequest s hreach
  case early =>
    intro sub s hlive hreq
    rw [exec_ledgerEarlyClose, done_next _ hlive, ledgerEarly_asked sub hreq]
  case boundary =>
    intro s hlive hinstant hrun hpower hidle v
    have hexec : exec .ledgerBoundary s = .next (finish (ledgerClose false false v)) := by
      rw [exec_ledgerBoundary, done_next _ hlive, ledgerBoundary_falls hinstant]
    refine ⟨fun hroom => ?_, fun hroom hsome hnone => ?_⟩
    · have hdefers := ledgerClose_defers (s := v) (early := false) (tstep := false) hrun hpower hidle hroom
      rw [hexec, hdefers, Bool.or_false]
    · exact ⟨_, hexec, ledgerClose_closes (s := v) hrun hpower hidle hroom hsome hnone⟩
  case issue =>
    intro b q rest s hlive hformed hwaits hbusy
    rw [exec_ledgerRecordWritten_runs s hlive hformed hwaits, hbusy, if_neg Bool.false_ne_true]
  case words =>
    intro b s hlen _
    rw [recordWords_take s hlen]
    exact ⟨mramBytes_writeWords (n := 32) s hlen _, recordWords_drop s hlen⟩
  case joins =>
    intro b q rest s hlive hformed hwaits hbusy hc _ hrest
    refine ⟨recordJoined b q rest (nvEnd wLedger s), ?_, recordJoined_next _ q rest hc, recordJoined_seq _ q rest hc,
      ?_⟩
    · rw [exec_ledgerRecordWritten_runs s hlive hformed hwaits, if_pos hbusy,
        recordDone_joins (s := nvEnd wLedger s) hformed, if_neg hrest]
    · rw [recordJoined_ldg]
      exact ⟨rfl, pendingWith_eq _ _ _⟩
  case last =>
    intro b q s hlive hformed hlate hwaits hbusy
    refine ⟨_, exec_ledgerRecordWritten_runs s hlive hformed hwaits, ?_⟩
    rw [if_pos hbusy]
    exact recordDone_last hformed hlate
  case delivery =>
    intro q r s hlive hpend hen
    rw [exec_lqDelivery, done_next _ hlive, lqDelivery_pending s hpend hen]
    exact ⟨fun hfull => by rw [if_pos hfull], fun hroom => by rw [if_neg hroom]⟩

end Sys2Proof.Machine
end

section
/-!
PROOFS. Decisions on orders (R211, R212, R214): the checks that a decision begins with, and what is decided next.
-/
namespace Sys2Proof.Machine

variable (s : State)

/-! ### The first checks of a decision (R212) -/

/-- The order's ID is in use: a resident order has it, or a pending one that was copied earlier (log entry 11). -/
def IdInUse (s : State) (o : Order) : Prop :=
  ∃ x ∈ s.ord.orders, x.id = o.id ∧ (x.state = 3 ∨ x.state = 4 ∨ x.state = 2 ∧ x.seq < o.seq)

/-- There is no image, or a string that the order names cannot carry it. -/
def StringsAbsent (s : State) (o : Order) : Prop :=
  s.image = none ∨ ∃ n ∈ o.named, s.strUsed n = false ∨ s.strCarries n = false ∨ s.strGroup n = none ∨
    (o.ty = 3 ∧ s.pvServes n = false)

/-- A string that the order names belongs to another contract, or the order's contract is cut. -/
def ContractForeign (s : State) (o : Order) : Prop :=
  (∃ n ∈ o.named, s.contractOf n ≠ o.contract) ∨ s.rd (Reg.ORD_LC_CAP o.contract) = 0

section
variable {s} {o : Order} (late far : Bool)

theorem idInUse_iff : IdInUse s o ↔
    s.ord.orders.any (fun x => x.id == o.id && (x.resident || (x.state == 2 && decide (x.seq < o.seq)))) = true := by
  simp only [IdInUse, Order.resident, List.any_eq_true, Bool.and_eq_true, Bool.or_eq_true, beq_iff_eq, decide_eq_true_eq,
    or_assoc]

theorem stringsAbsent_iff : StringsAbsent s o ↔
    (s.image.isNone || o.named.any (fun n => !s.strUsed n || !s.strCarries n || (s.strGroup n).isNone ||
      (o.ty == tyChargePv && !s.pvServes n))) = true := by
  simp only [StringsAbsent, List.any_eq_true, Bool.and_eq_true, Bool.or_eq_true, beq_iff_eq, Option.isNone_iff_eq_none,
    Bool.not_eq_true', or_assoc]

theorem contractForeign_iff : ContractForeign s o ↔
    (o.named.any (fun n => s.contractOf n != o.contract) || s.rd (Reg.ORD_LC_CAP o.contract) == 0) = true := by
  simp only [ContractForeign, List.any_eq_true, Bool.or_eq_true, beq_iff_eq, bne_iff_ne]

theorem decideOrder_idInUse (hid : IdInUse s o) : decideOrder s o late far = .reject 0x02 0 := by
  rw [decideOrder, if_pos (idInUse_iff.1 hid)]

theorem decideOrder_full (hid : ¬ IdInUse s o) (hfull : 1024 ≤ s.residents.length) :
    decideOrder s o late far = .reject 0x03 0 := by
  rw [decideOrder, if_neg (mt idInUse_iff.2 hid), if_pos hfull]

theorem decideOrder_absent (hid : ¬ IdInUse s o) (hroom : s.residents.length < 1024) (habsent : StringsAbsent s o) :
    decideOrder s o late far = .reject 0x07 0 := by
  rw [decideOrder, if_neg (mt idInUse_iff.2 hid), if_neg (not_le.2 hroom), if_pos (stringsAbsent_iff.1 habsent)]

theorem decideOrder_foreign (hid : ¬ IdInUse s o) (hroom : s.residents.length < 1024) (habsent : ¬ StringsAbsent s o)
    (hforeign : ContractForeign s o) : decideOrder s o late far = .reject 0x06 0 := by
  rw [decideOrder, if_neg (mt idInUse_iff.2 hid), if_neg (not_le.2 hroom), if_neg (mt stringsAbsent_iff.2 habsent),
    if_pos (contractForeign_iff.1 hforeign)]

end

/-- Settles O27: each check answers where the ones before it pass. -/
theorem decisionChecksInOrder : Obligations.DecisionChecksInOrder := fun _ _ late far =>
  ⟨decideOrder_idInUse late far, decideOrder_full late far, decideOrder_absent late far, decideOrder_foreign late far⟩

/-! ### The next decision (R211, R212, R214) -/

section
variable {s} {o : Order}

/-- The order whose decision is next, while nothing is discarded. -/
structure DecidesNext (s : State) (o : Order) : Prop where
  next : s.nextPending = some o
  admits : s.fb Fld.ORD_STAT_DISCARDING = false

theorem admissionDecision_eq (h : DecidesNext s o) : admissionDecision s =
    if s.fg Fld.ORD_CTL_ADMIT = 0 then endOrder o 6 0x0F 0 s
    else if o.badField then endOrder o 6 0x01 0 s
    else if o.scope = 1 then (if (s.partsOf o.id).isEmpty then swarmBegin o s else swarmFinish o s)
    else match decideRecord s o with
      | .reject c h => endOrder o 6 c h (showFree (o.onMono s) s)
      | .accept a => acceptOrder a (showFree (o.onMono s) s) := by
  rw [admissionDecision, h.next]
  exact if_neg (Bool.eq_false_iff.1 h.admits)

theorem decisionOverload_rack (h : DecidesNext s o) (hparts : s.partsOf o.id = []) :
    decisionOverload s = endOrder o 6 0x10 0 (s.fs Fld.ORD_STAT_OVERLOAD 1) := by
  have hempty : ((s.fs Fld.ORD_STAT_OVERLOAD 1).partsOf o.id).isEmpty = true := by
    rw [State.partsOf, State.fs_ord, ← State.partsOf, hparts, List.isEmpty_nil]
  rw [decisionOverload, h.next]
  exact (if_neg (Bool.eq_false_iff.1 h.admits)).trans (if_pos hempty)

end

theorem exec_admissionDecision (hlive : Live s) : exec .admissionDecision s = .next (finish (admissionDecision s)) :=
  done_next _ hlive

theorem exec_decisionOverload (hlive : Live s) : exec .decisionOverload s = .next (finish (decisionOverload s)) :=
  done_next _ hlive

/-- Settles O26: the order copied first is decided first, by the first rule that applies to it. -/
theorem decisionsFollowCopies : Obligations.DecisionsFollowCopies := by
  intro o s hlive hdiscard hnext
  have hdecides : DecidesNext s o := ⟨hnext, hdiscard⟩
  rw [exec_admissionDecision s hlive, exec_decisionOverload s hlive, admissionDecision_eq hdecides]
  refine ⟨fun hoff => ?_, fun hon hbad => ?_, fun hon hgood hrack => ?_, fun hparts => ?_⟩
  · rw [if_pos hoff]
  · rw [if_neg hon, if_pos hbad]
  · exact congrArg (fun u => Host.Outcome.next (finish u))
      ((if_neg hon).trans ((if_neg (Bool.eq_false_iff.1 hgood)).trans (if_neg hrack)))
  · rw [decisionOverload_rack hdecides hparts]

end Sys2Proof.Machine
end

section
/-!
PROOFS. The life of an order on this rack (R205, R215, R217 to R220): its start, its deadline and the control period.
-/
namespace Sys2Proof.Machine

variable (s : State)

section
variable {s} {id : Nat} {o : Order}

/-! ### Start (R205, R217) -/

theorem orderStart_begins (hid : s.order id = some o) (hstate : o.state = 3) (hty : o.ty ≤ 4) (hscope : o.scope = 0)
    (hending : o.ending = none) (hdiscard : s.fb Fld.ORD_STAT_DISCARDING = false)
    (hfirst : ∃ g ∈ o.plan, g.first ≤ s.ord.mono / 2) : orderStart id s = activate o s := by
  have hplan : o.plan.any (fun g => decide (g.first ≤ s.curSlot)) = true := by
    obtain ⟨g, hg, hle⟩ := hfirst
    exact List.any_eq_true.2 ⟨g, hg, decide_eq_true hle⟩
  rw [orderStart, hid]
  exact if_pos ⟨hstate, hty, hscope, by rw [hending]; rfl, by rw [hdiscard]; rfl, hplan⟩

/-! ### Deadline (R205, R220) -/

/-- The order stands at its deadline and does not end already. -/
structure AtDeadline (id : Nat) (o : Order) (s : State) : Prop where
  found : s.order id = some o
  due : o.deadline ≤ s.ord.mono
  unended : o.ending = none

theorem AtDeadline.orderDeadline_eq (h : AtDeadline id o s) : orderDeadline id s =
    if o.ty = tyRest ∨ o.ty = tyHold then
      (if o.state ≠ 3 ∨ o.cq = partCq then s else if o.swarm then stopOrder o 5 0 s else endOrder o 5 0 0 s)
    else if o.state ≠ 4 then s
    else if o.scope = 1 ∧ (s.met o ∨ o.ty = tyChargePv) then (if o.reached then s else partReached o s)
    else if s.met o ∨ o.ty = tyChargePv then stopOrder o 5 0 s
    else stopOrder o 8 0x27 ((s.fs Fld.ORD_STAT_GFAIL 1).driveLine 16) := by
  have hopen : ¬ (s.ord.mono < o.deadline ∨ o.ending.isSome = true) := by
    rw [h.unended]
    simpa using h.due
  rw [orderDeadline, h.found]
  exact if_neg hopen

theorem AtDeadline.orderDeadline_window (h : AtDeadline id o s) (hty : o.ty = 5 ∨ o.ty = 6) (hstate : o.state = 3)
    (hcq : o.cq ≠ partCq) : orderDeadline id s = if o.swarm = true then stopOrder o 5 0 s else endOrder o 5 0 0 s := by
  rw [h.orderDeadline_eq, if_pos hty, if_neg (not_or.2 ⟨not_not.2 hstate, hcq⟩)]

theorem AtDeadline.orderDeadline_covered (h : AtDeadline id o s) (hty : o.ty ≤ 4) (hstate : o.state = 4)
    (hmet : s.met o = true ∨ o.ty = 3) : orderDeadline id s =
      if o.scope ≠ 1 then stopOrder o 5 0 s else if o.reached = true then s else partReached o s := by
  have hmoves : ¬ (o.ty = tyRest ∨ o.ty = tyHold) := by unfold tyRest tyHold; omega
  rw [h.orderDeadline_eq, if_neg hmoves, if_neg (not_not.2 hstate)]
  by_cases hscope : o.scope = 1
  · rw [if_pos ⟨hscope, hmet⟩, if_neg (not_not.2 hscope)]
  · rw [if_neg fun hpart => hscope hpart.1, if_pos hmet, if_pos hscope]

theorem AtDeadline.orderDeadline_missed (h : AtDeadline id o s) (hty : o.ty ≤ 4) (hpv : o.ty ≠ 3) (hstate : o.state = 4)
    (hmet : s.met o = false) :
    orderDeadline id s = stopOrder o 8 0x27 ((s.fs Fld.ORD_STAT_GFAIL 1).driveLine 16) := by
  have hmoves : ¬ (o.ty = tyRest ∨ o.ty = tyHold) := by unfold tyRest tyHold; omega
  have hopen : ¬ (s.met o = true ∨ o.ty = tyChargePv) := not_or.2 ⟨Bool.eq_false_iff.1 hmet, hpv⟩
  rw [h.orderDeadline_eq, if_neg hmoves, if_neg (not_not.2 hstate), if_neg fun hpart => hopen hpart.2, if_neg hopen]

end

/-! ### The statement -/

theorem exec_orderStart (id : Nat) (hlive : Live s) : exec (.orderStart id) s = .next (finish (orderStart id s)) :=
  done_next _ hlive

theorem exec_orderDeadline (id : Nat) (hlive : Live s) :
    exec (.orderDeadline id) s = .next (finish (orderDeadline id s)) := done_next _ hlive

theorem exec_controlPeriod (hlive : Live s) : exec .controlPeriod s = .next (finish (controlPeriod s)) :=
  done_next _ hlive

/-- Settles O28: the start, the three ends that a deadline can bring, and the order of a control period. -/
theorem ordersRunToDeadline : Obligations.OrdersRunToDeadline := by
  refine ⟨?start, ?deadline, ?period⟩
  case start =>
    intro id o s hlive hid hstate hty hscope hending hdiscard hfirst
    rw [exec_orderStart s id hlive, orderStart_begins hid hstate hty hscope hending hdiscard hfirst]
  case deadline =>
    intro id o s hlive hid hdue hending
    have hat : AtDeadline id o s := ⟨hid, hdue, hending⟩
    rw [exec_orderDeadline s id hlive]
    refine ⟨fun hty hstate hcq => ?_, fun hty hstate hmet => ?_, fun hty hpv hstate hmet => ?_⟩
    · rw [hat.orderDeadline_window hty hstate hcq]
    · rw [hat.orderDeadline_covered hty hstate hmet]
    · rw [hat.orderDeadline_missed hty hpv hstate hmet]
  case period =>
    intro s hlive hstarted hawake hdiscard
    have hruns : ¬ ((!s.ord.started) = true ∨ (!s.awake) = true) := by simp [hstarted, hawake]
    rw [exec_controlPeriod s hlive]
    exact congrArg (fun u => Host.Outcome.next (finish u)) ((if_neg hruns).trans (if_neg (Bool.eq_false_iff.1 hdiscard)))

end Sys2Proof.Machine
end

section
/-!
PROOFS. How orders come and how records leave (R202, R203, R227): the engine's start, the copy of submitted entries, and
the bundles of records that were held back.
-/
namespace Sys2Proof.Machine

variable (s : State)

/-! ### The engine starts (R227) -/

theorem engineStart_runs (hstarted : s.ord.started = false) (hfirm : s.rst.firmware = true)
    (himage : s.image.isSome = true) :
    engineStart s = nvRun wEpoch engineEpoch (fun s => s.setOrd { s.ord with started := true }) s := by
  have hstarts : ¬ (s.ord.started = true ∨ (!s.rst.firmware) = true ∨ s.image.isNone = true) := by
    simp [hstarted, hfirm, Option.isSome_iff_ne_none.1 himage]
  rw [engineStart, if_neg hstarts]

theorem exec_orderEngineStart (hlive : Live s) : exec .orderEngineStart s = .next (finish (engineStart s)) :=
  done_next _ hlive

/-! ### Entries are copied (R202, R203) -/

/-- The entry at the head of submission queue `q`, as its copy becomes an order. -/
def headOrder (q : Nat) (s : State) : Order :=
  { parseOrder (s.sramBytes (s.qStart q + s.fg (Fld.SYS_Q_PTR_HEAD q) % s.qDepth q * 64) 64) (s.routeOf q) with
    seq := s.ord.nextSeq, since := s.now }

theorem carryCancel_none (h : s.ord.cancel = none) : carryCancel s = s := by
  rw [carryCancel, h]

theorem orderCopy_copies {q : Nat} {rest : List Nat} (hsub : s.ord.submitted = q :: rest) (hstarted : s.ord.started = true)
    (hdiscard : s.fb Fld.ORD_STAT_DISCARDING = false) (hheld : s.heldCount ≤ 2048) (hcancel : s.ord.cancel = none) :
    orderCopy s =
      (s.fs (Fld.SYS_Q_PTR_HEAD q) ((s.fg (Fld.SYS_Q_PTR_HEAD q) + 1) % (2 * s.qDepth q))).setOrd { s.ord with
        submitted := rest, orders := s.ord.orders ++ [headOrder q s], nextSeq := s.ord.nextSeq + 1 } := by
  have hcopies : ¬ (!s.ord.started || s.fb Fld.ORD_STAT_DISCARDING || decide (2048 < s.heldCount)) = true := by
    simp [hstarted, hdiscard, hheld]
  have hkept : s.ord.cancel.map (fun c => (c.1, c.2 - 1)) = s.ord.cancel := by rw [hcancel, Option.map_none]
  rw [orderCopy, hsub]
  refine (if_neg hcopies).trans ?_
  rw [carryCancel_none, State.fs_ord, hkept]
  · rfl
  · rw [setOrd_ord, State.fs_ord, hkept, hcancel]

theorem orderCopy_waits (h : s.ord.submitted = [] ∨ s.ord.started = false ∨ s.fb Fld.ORD_STAT_DISCARDING = true ∨
    2048 < s.heldCount) : orderCopy s = s := by
  rw [orderCopy]
  split
  next => rfl
  next q rest hsub =>
    have hwaits : (!s.ord.started || s.fb Fld.ORD_STAT_DISCARDING || decide (2048 < s.heldCount)) = true := by
      simpa [hsub, or_assoc] using h
    exact if_pos hwaits

theorem exec_orderCopy (hlive : Live s) : exec .orderCopy s = .next (finish (orderCopy s)) := done_next _ hlive

/-! ### Held bundles (R202) -/

section
variable {s} {cq : Nat} {recs : List CqRec}

theorem cqRecordWrite_waits (hheld : s.ord.held.find? (fun h => h.1 == cq) = some (cq, recs))
    (hroom : s.qRoom (32 + cq) < recs.length) : cqRecordWrite cq s = cqFull cq s := by
  rw [cqRecordWrite, hheld]
  exact if_pos hroom

theorem cqRecordWrite_writes (hheld : s.ord.held.find? (fun h => h.1 == cq) = some (cq, recs))
    (hroom : recs.length ≤ s.qRoom (32 + cq)) : cqRecordWrite cq s =
      let u := recs.foldl (fun s r => qPush (32 + cq) (cqBytes s.epoch r) s) s
      ordStat (u.setOrd { u.ord with held := u.ord.held.eraseP (fun h => h.1 == cq) }) := by
  rw [cqRecordWrite, hheld]
  exact if_neg (not_lt.2 hroom)

end

theorem exec_cqRecordWrite (cq : Fin 16) (hlive : Live s) :
    exec (.cqRecordWrite cq) s = .next (finish (cqRecordWrite cq s)) := done_next _ hlive

/-! ### The statement -/

/-- Settles O29: the start by the writer of the epoch; a copy and a held bundle by whether they may go on. -/
theorem orderEntriesMove : Obligations.OrderEntriesMove := by
  refine ⟨⟨?start, ?copies, ?waits⟩, ?held⟩
  case start =>
    intro s hlive hstarted hfirm himage hwaits
    rw [exec_orderEngineStart s hlive, engineStart_runs s hstarted hfirm himage]
    refine ⟨fun hidle => ?_, fun hbusy => ?_⟩
    · rw [nvRun_issues hwaits hidle]
      rfl
    · rw [nvRun_completes hwaits hbusy]
  case copies =>
    intro q rest s hlive hsub hstarted hdiscard hheld hcancel
    rw [exec_orderCopy s hlive, orderCopy_copies s hsub hstarted hdiscard hheld hcancel]
    rfl
  case waits =>
    intro s hlive hwaits
    rw [exec_orderCopy s hlive, orderCopy_waits s hwaits]
  case held =>
    intro cq recs s hlive hheld
    rw [exec_cqRecordWrite s cq hlive]
    refine ⟨fun hfull => ?_, fun hroom => ?_⟩
    · rw [cqRecordWrite_waits hheld hfull]
    · rw [cqRecordWrite_writes hheld hroom]

end Sys2Proof.Machine
end

section
/-!
PROOFS. Removals (R225): the orders that a removal ends, those that take a shadow plan, those that wait for K0, and the
new plan of one order.
-/
namespace Sys2Proof.Machine

variable (s : State)

/-! ### Sorting -/

section
variable {α : Type} (le : α → α → Bool)

theorem insertBy_perm (x : α) (l : List α) : (insertBy le x l).Perm (x :: l) := by
  induction l with
  | nil => exact .refl _
  | cons y r ih =>
    rw [insertBy]
    split
    · exact .refl _
    · exact (ih.cons y).trans (.swap x y r)

theorem sortBy_perm (l : List α) : (sortBy le l).Perm l := by
  induction l with
  | nil => exact .refl _
  | cons x r ih => exact (insertBy_perm le x _).trans (ih.cons x)

theorem mem_sortBy {x : α} {l : List α} : x ∈ sortBy le l ↔ x ∈ l := (sortBy_perm le l).mem_iff

theorem sortBy_isEmpty {l : List α} : (sortBy le l).isEmpty = l.isEmpty := (sortBy_perm le l).isEmpty_eq

end

/-! ### One removal (R225) -/

/-- The resident orders that need the removed resource and do not end already. -/
def State.hitOf (s : State) (r : Removal) : List Order := s.residents.filter (fun o => o.ending.isNone && s.needs o r)

/-- The shadow plan that answers the removal: that of a single string loss. -/
def State.shadowFor (s : State) : Removal → Option ShadowPlan
  | .string n => s.shadowPlan n
  | _ => none

/-- K0 owes a re-plan of these orders, besides what it owes already. -/
def oweReplan (ids gone : List Nat) (s : State) : State :=
  s.setOrd { s.ord with replan := match s.ord.replan with
    | some (is, g) => some (is ++ ids, (g ++ gone).dedup)
    | none => some (ids, gone) }

/-- The RESILIENT orders that the removal hits, in the order in which they are planned anew. -/
def State.toughOf (s : State) (r : Removal) : List Order :=
  sortBy replanBefore ((s.hitOf r).filter (fun o => bitOf o.flags 0))

/-- The other orders that the removal hits end. -/
def endSoft (r : Removal) (s : State) : State :=
  ((s.hitOf r).filter (fun o => !bitOf o.flags 0)).foldl (fun s o => stopOrder o 8 0x24 s) s

/-- What `applyRemovals` does about one removal that it has taken up. -/
def removeOne (r : Removal) (s : State) : State :=
  if (s.toughOf r).isEmpty then broodCheck (endSoft r s)
  else match s.shadowFor r with
    | some p => installShadow p (endSoft r s)
    | none => oweReplan ((s.toughOf r).map (fun o => o.id)) (s.removedStrings r).dedup (endSoft r s)

section
variable {s} {r : Removal}

theorem shadowFor_none (h : ∀ n, r = .string n → s.shadowPlan n = none) : s.shadowFor r = none := by
  cases r with
  | string n => exact h n rfl
  | _ => rfl

theorem oweReplan_first (ids gone : List Nat) (h : s.ord.replan = none) :
    oweReplan ids gone s = s.setOrd { s.ord with replan := some (ids, gone) } := by
  rw [oweReplan, h]

theorem applyRemovals_idle (h : s.removals = [] ∨ s.fb Fld.ORD_STAT_DISCARDING = true) : applyRemovals s = s :=
  if_pos (by simpa using h)

theorem applyRemovals_one (hrem : s.removals = [r]) (hdiscard : s.fb Fld.ORD_STAT_DISCARDING = false) :
    applyRemovals s = removeOne r (s.setRemovals []) := by
  have hruns : ¬ (s.removals.isEmpty || s.fb Fld.ORD_STAT_DISCARDING) = true := by simp [hrem, hdiscard]
  have hone : ∀ t : State, t.residents.filter (fun o => o.ending.isNone && [r].any (t.needs o)) = t.hitOf r := fun t => by
    simp only [State.hitOf, List.any_cons, List.any_nil, Bool.or_false]
  rw [applyRemovals]
  refine (if_neg hruns).trans ?_
  simp only [hrem, hone, List.flatMap_singleton]
  cases r with
  | string n =>
    dsimp only [removeOne, State.shadowFor]
    cases (s.setRemovals []).shadowPlan n with
    | none => rfl
    | some p => rfl
  | _ => rfl

/-- No order that the removal hits is RESILIENT: each of them ends. -/
theorem removeOne_ends (hsoft : ∀ o ∈ s.hitOf r, bitOf o.flags 0 = false) :
    removeOne r s = broodCheck ((s.hitOf r).foldl (fun s o => stopOrder o 8 0x24 s) s) := by
  have htough : (s.hitOf r).filter (fun o => bitOf o.flags 0) = [] :=
    List.filter_eq_nil_iff.2 fun o ho => Bool.eq_false_iff.1 (hsoft o ho)
  have hends : (s.hitOf r).filter (fun o => !bitOf o.flags 0) = s.hitOf r :=
    List.filter_eq_self.2 fun o ho => by rw [hsoft o ho, Bool.not_false]
  rw [removeOne, State.toughOf, htough, endSoft, hends]
  rfl

/-- Every order that the removal hits is RESILIENT: none of them ends. -/
theorem removeOne_keeps (hsome : s.hitOf r ≠ []) (htough : ∀ o ∈ s.hitOf r, bitOf o.flags 0 = true) :
    removeOne r s = match s.shadowFor r with
      | some p => installShadow p s
      | none => oweReplan ((sortBy replanBefore (s.hitOf r)).map (fun o => o.id)) (s.removedStrings r).dedup s := by
  have hall : (s.hitOf r).filter (fun o => bitOf o.flags 0) = s.hitOf r := List.filter_eq_self.2 htough
  have hnone : (s.hitOf r).filter (fun o => !bitOf o.flags 0) = [] :=
    List.filter_eq_nil_iff.2 fun o ho => by rw [htough o ho]; exact Bool.false_ne_true
  have hnonempty : ¬ (sortBy replanBefore (s.hitOf r)).isEmpty = true := by rwa [sortBy_isEmpty, List.isEmpty_iff]
  rw [removeOne, State.toughOf, hall, endSoft, hnone, if_neg hnonempty]
  rfl

end

/-! ### Planning anew (R225) -/

section
variable {s} {o : Order} {gone : List Nat}

theorem replanAll_one (os : List Order) : replanAll s gone os [o] =
    match replanOrder s os o gone with
    | some l => (l, [])
    | none => (os, [o]) := by
  rw [replanAll]
  cases replanOrder s os o gone with
  | some l => rfl
  | none => rfl

theorem replanNow_one (cause : Nat) : replanNow [o] gone cause s =
    let rest := s.committed.filter (fun x => !(o.id == x.id && o.seq == x.seq))
    broodCheck (match replanOrder s rest o gone with
      | some l => schedChanged (installPlans l s)
      | none => stopOrder o 8 cause (schedChanged (installPlans rest s))) := by
  simp only [replanNow, replanAll_one, List.any_cons, List.any_nil, Bool.or_false]
  split <;> rfl

theorem replanComplete_due {ids : List Nat} (hdiscard : s.fb Fld.ORD_STAT_DISCARDING = false)
    (howed : s.ord.replan = some (ids, gone)) : replanComplete s =
      replanNow (sortBy replanBefore (s.committed.filter (fun o => ids.contains o.id))) gone 0x24
        (s.setOrd { s.ord with replan := none }) := by
  rw [replanComplete, howed]
  exact if_neg (Bool.eq_false_iff.1 hdiscard)

end

/-! ### The statement -/

theorem exec_resourceRemoval (hlive : Live s) : exec .resourceRemoval s = .next (finish (applyRemovals s)) :=
  done_next _ hlive

theorem exec_replanComplete (hlive : Live s) : exec .replanComplete s = .next (finish (replanComplete s)) :=
  done_next _ hlive

/-- Settles O30: the removal by whether the orders it hits are RESILIENT, the re-plan by whether a plan fits. -/
theorem removalsCutOrReplan : Obligations.RemovalsCutOrReplan := by
  refine ⟨?idle, ?removal, ?due, ?one⟩
  case idle =>
    intro s hlive hidle
    rw [exec_resourceRemoval s hlive, applyRemovals_idle hidle]
  case removal =>
    intro r s hlive hdiscard hrem v hit
    rw [exec_resourceRemoval s hlive]
    refine ⟨fun hsoft => ?_, fun hsome htough => ⟨?_, fun hno hfirst => ?_⟩⟩
    · rw [applyRemovals_one hrem hdiscard, removeOne_ends hsoft]
      rfl
    · rintro n p rfl hplan
      have hshadow : v.shadowFor (.string n) = some p := hplan
      rw [applyRemovals_one hrem hdiscard, removeOne_keeps hsome htough, hshadow]
    · have hshadow : v.shadowFor r = none := shadowFor_none hno
      rw [applyRemovals_one hrem hdiscard, removeOne_keeps hsome htough, hshadow]
      exact congrArg (fun u => Host.Outcome.next (finish u)) (oweReplan_first _ _ hfirst)
  case due =>
    intro ids gone s hlive hdiscard howed
    rw [exec_replanComplete s hlive, replanComplete_due hdiscard howed]
  case one =>
    intro o gone cause s
    exact replanNow_one cause

end Sys2Proof.Machine
end

section
/-!
PROOFS. How orders are cut (R221 to R223, R227, R228): cancels, queries and caps, and what a discard-all leaves.
-/
namespace Sys2Proof.Machine

variable (s : State)

/-! ### Cancels (R221, R551) -/

/-- The cancel stands accepted, with no entry before it that is still to be copied. -/
def cancelTaken (s : State) : State :=
  ((s.setOrd { s.ord with cancel := none }).fs Fld.ORD_CANCEL_STAT_BUSY 1).fs Fld.ORD_CANCEL_STAT_BUSY 0

/-- What a cancel of the order with this ID does. -/
def cancelOrder (id : Nat) (s : State) : State :=
  match s.order id with
  | none => s.fs Fld.ORD_CANCEL_STAT_RESULT 1
  | some o => if o.ending.isSome then s.fs Fld.ORD_CANCEL_STAT_RESULT 2
    else stopOrder o 7 0x20 (s.fs Fld.ORD_CANCEL_STAT_RESULT 0)

theorem cancelTaken_order (id : Nat) : (cancelTaken s).order id = s.order id := rfl

section
variable {s} {id : Nat} {o : Order}

theorem cancelOrder_none (h : s.order id = none) : cancelOrder id s = s.fs Fld.ORD_CANCEL_STAT_RESULT 1 := by
  rw [cancelOrder, h]

theorem cancelOrder_ending (h : s.order id = some o) (hending : o.ending.isSome = true) :
    cancelOrder id s = s.fs Fld.ORD_CANCEL_STAT_RESULT 2 := by
  rw [cancelOrder, h]
  exact if_pos hending

theorem cancelOrder_stops (h : s.order id = some o) (hending : o.ending = none) :
    cancelOrder id s = stopOrder o 7 0x20 (s.fs Fld.ORD_CANCEL_STAT_RESULT 0) := by
  rw [cancelOrder, h]
  exact if_neg (by simp [hending])

theorem cancelWrite_busy (h : s.fb Fld.ORD_STAT_DISCARDING = true ∨ s.ord.started = false ∨
    s.fb Fld.ORD_CANCEL_STAT_BUSY = true) : cancelWrite s = (stBusy, s) := by
  have hbusy : s.fb Fld.ORD_STAT_DISCARDING = true ∨ (!s.ord.started) = true ∨ s.fb Fld.ORD_CANCEL_STAT_BUSY = true := by
    simpa using h
  rw [cancelWrite, if_pos hbusy]

theorem cancelWrite_taken (htakes : EngineTakes s) (hidle : s.fb Fld.ORD_CANCEL_STAT_BUSY = false)
    (hsub : s.ord.submitted = []) :
    cancelWrite s = (stOk, cancelOrder (s.rd Reg.ORD_CANCEL_ID).toNat (cancelTaken s)) := by
  have htaken : ¬ (s.fb Fld.ORD_STAT_DISCARDING = true ∨ (!s.ord.started) = true ∨
      s.fb Fld.ORD_CANCEL_STAT_BUSY = true) := by simp [htakes.1, htakes.2, hidle]
  rw [cancelWrite, if_neg htaken, hsub]
  rfl

end

theorem exec_orderCancel {p : Port} (hreach : Reach p Reg.ORD_CANCEL_CTL s) : exec (.orderCancel p) s =
    .next (finish (respond p (cancelWrite s).1 0 (cancelWrite s).2)) := done_asWrite s p _ _ hreach.1 hreach.2

/-! ### Queries -/

section
variable {s} {id : Word} {o : Order}

theorem queryWrite_held (h : s.order id.toNat = some o) (hstate : o.state ≠ 0) : queryWrite id.toNat s =
    ((((s.wr Reg.ORD_QRY_ID id).fs Fld.ORD_QRY_STAT_STATE o.state).fs Fld.ORD_QRY_STAT_CAUSE 0).fs Fld.ORD_QRY_STAT_FLAGS
      o.outFlags).wr Reg.ORD_QRY_DELIV (BitVec.ofInt 32 o.deliv) := by
  have hwr : (s.wr Reg.ORD_QRY_ID id).order id.toNat = some o := h
  rw [queryWrite, BitVec.ofNat_toNat, BitVec.setWidth_eq, hwr]
  simp only [beq_eq_false_iff_ne.2 hstate, Bool.false_and, Bool.false_eq_true, if_false]

end

theorem exec_orderQuery {p : Port} (id : Word) (hreach : Reach p Reg.ORD_QRY_ID s) : exec (.orderQuery p id) s =
    .next (finish (respond p stOk 0 (queryWrite id.toNat s))) := done_asWrite s p _ _ hreach.1 hreach.2

/-! ### Caps (R222, R223) -/

theorem capWrite_above {r : CapReg} {v : Word} (h : r.limit s < v.toNat) : capWrite r v s = (stDecodeErr, s) := by
  rw [capWrite, if_pos h]

theorem capWrite_bus {v : Word} (h : v.toNat ≤ s.busRating) : capWrite .bus v s = (stOk,
    if v.toNat < (s.rd Reg.ORD_BUS_CAP).toNat then capCut .bus (s.wr Reg.ORD_BUS_CAP v) else s.wr Reg.ORD_BUS_CAP v) := by
  have hin : ¬ CapReg.bus.limit s < v.toNat := not_lt.2 h
  rw [capWrite, if_neg hin]
  by_cases hlower : v.toNat < (s.rd Reg.ORD_BUS_CAP).toNat <;> simp [CapReg.addr, hlower]

theorem capWrite_contract_zero (c : Nat) :
    capWrite (.contract c) 0 s = (stOk, contractCut c (s.wr (Reg.ORD_LC_CAP c) 0)) := by
  simp [capWrite, CapReg.limit, CapReg.addr]

theorem capReg_contract (c : Fin 16) : capReg ⟨c + 4, by omega⟩ = .contract c := rfl

theorem exec_capWrite {p : Port} {n : Fin 20} (v : Word) (hreach : Reach p (capReg n).addr s) :
    exec (.capWrite p n v) s =
      .next (finish (respond p (capWrite (capReg n) v s).1 0 (capWrite (capReg n) v s).2)) :=
  done_asWrite s p _ _ hreach.1 hreach.2

/-! ### What sending records and ending an order leave (R201, R202) -/

/-- The words outside the rings, the engine's status and the shadow plans' flags. -/
structure OutsideEndings (a : Nat) : Prop where
  above : 0x002000 ≤ a
  ne_stat : a ≠ Fld.ORD_STAT_RESIDENT.addr
  ne_plan : a ≠ Fld.SCT_PLAN_VALID.addr

section
variable {s} {a : Nat}

/-- Neither the pointers nor the status of a queue are such a word. -/
theorem OutsideEndings.ne_ring (h : OutsideEndings a) {q : Nat} (hq : q < 64) {f : Fld}
    (hf : f.addr = 0x001004 + 32 * q ∨ f.addr = 0x00100C + 32 * q) : a ≠ f.addr := by
  have hlow := h.above
  omega

theorem ordStat_rd (h : OutsideEndings a) : (ordStat s).rd a = s.rd a :=
  (rd_fs_other _ Fld.ORD_STAT_HELDREC _ _ h.ne_stat).trans (rd_fs_other _ Fld.ORD_STAT_RESIDENT _ _ h.ne_stat)

theorem ordStat_ord : (ordStat s).ord = s.ord := (State.fs_ord _ _ _).trans (State.fs_ord _ _ _)

theorem qPush_rd (h : OutsideEndings a) {q : Nat} (hq : q < 64) (b : List Byte) : (qPush q b s).rd a = s.rd a :=
  (rd_fs_other _ _ _ _ (h.ne_ring hq (.inl rfl))).trans (setSramBytes_field s (fun s => s.rd a) (fun _ _ _ => rfl) _ _)

theorem qPush_ord (q : Nat) (b : List Byte) : (qPush q b s).ord = s.ord :=
  (State.fs_ord _ _ _).trans (setSramBytes_field s State.ord (fun _ _ _ => rfl) _ _)

theorem qFlush_rd (h : OutsideEndings a) {q : Nat} (hq : q < 64) : (qFlush q s).rd a = s.rd a := by
  rw [qFlush, State.finc, State.fsat, rd_fs_other _ _ _ _ (h.ne_ring hq (.inr rfl)),
    rd_fs_other _ _ _ _ (h.ne_ring hq (.inl rfl))]

theorem cqFull_rd (h : OutsideEndings a) {cq : Nat} (hq : cq < 16) : (cqFull cq s).rd a = s.rd a := by
  rw [cqFull]
  split
  · exact rd_fs_other _ _ _ _ (h.ne_ring (by omega) (.inr rfl))
  · rfl

theorem cqFull_ord (cq : Nat) : (cqFull cq s).ord = s.ord := by
  rw [cqFull]
  split
  · exact State.fs_ord _ _ _
  · rfl

/-- R202: records go to their ring, or wait. -/
theorem sendCq_cases (cq : Nat) (recs : List CqRec) : sendCq cq recs s = s ∨ cq < 16 ∧
    (sendCq cq recs s = recs.foldl (fun s r => qPush (32 + cq) (cqBytes s.epoch r) s) s ∨
      ∃ held, sendCq cq recs s = ordStat (s.setOrd { s.ord with held := held }) ∨
        sendCq cq recs s = ordStat (cqFull cq (s.setOrd { s.ord with held := held }))) := by
  unfold sendCq
  split_ifs with hnone hwaits hroom
  · exact .inl rfl
  · exact .inr ⟨not_le.1 hnone, .inr ⟨_, .inl rfl⟩⟩
  · exact .inr ⟨not_le.1 hnone, .inl rfl⟩
  · exact .inr ⟨not_le.1 hnone, .inr ⟨_, .inr rfl⟩⟩

theorem sendCq_rd (h : OutsideEndings a) (cq : Nat) (recs : List CqRec) : (sendCq cq recs s).rd a = s.rd a := by
  rcases sendCq_cases (s := s) cq recs with hsame | ⟨hcq, hpush | ⟨held, hwait | hfull⟩⟩
  · rw [hsame]
  · rw [hpush]
    exact foldl_field (fun s : State => s.rd a) _ (fun _ _ => qPush_rd h (by omega) _) _ _
  · rw [hwait, ordStat_rd h]
    rfl
  · rw [hfull, ordStat_rd h, cqFull_rd h hcq]
    rfl

/-- Of the engine's state, sending records changes only those that are held back. -/
theorem sendCq_ord (cq : Nat) (recs : List CqRec) :
    (sendCq cq recs s).ord = { s.ord with held := (sendCq cq recs s).ord.held } := by
  rcases sendCq_cases (s := s) cq recs with hsame | ⟨-, hpush | ⟨held, hwait | hfull⟩⟩
  · rw [hsame]
  · have hord : (sendCq cq recs s).ord = s.ord := by
      rw [hpush]
      exact foldl_field State.ord _ (fun _ _ => qPush_ord _ _) _ _
    rw [hord]
  · rw [hwait, ordStat_ord]
    rfl
  · rw [hfull, ordStat_ord, cqFull_ord]
    rfl

theorem schedChanged_rd (h : OutsideEndings a) : (schedChanged s).rd a = s.rd a := by
  rw [schedChanged, showPlans]
  split
  · rfl
  · rw [raise_rd, rd_fs_other _ Fld.SCT_PLAN_GAP _ _ h.ne_plan, rd_fs_other _ Fld.SCT_PLAN_VALID _ _ h.ne_plan]
    rfl

theorem schedChanged_ord : (schedChanged s).ord = { s.ord with ver := s.ord.ver + 1 } := by
  rw [schedChanged, showPlans]
  split
  · rfl
  · rw [State.raise_ord, State.fs_ord, State.fs_ord, setOrd_ord]

theorem withdrawParts_keeps (o : Order) : (withdrawParts o s).regs = s.regs ∧ (withdrawParts o s).ord = s.ord := by
  rw [withdrawParts]
  split
  · exact Prod.mk.inj (foldl_field (fun s : State => (s.regs, s.ord)) _ (fun _ _ => by rfl) _ _)
  · exact ⟨rfl, rfl⟩

/-- R201: an order leaves the engine, its records go out, and the counts and the shadow plans follow. -/
theorem endOrder_form (o : Order) (st cause hint : Nat) : ∃ (i : State) (e : Ord) (recs : List CqRec),
    i.regs = s.regs ∧ e.orders = s.ord.orders.filter (fun x => !(x.id == o.id && x.seq == o.seq)) ∧
      e.submitted = s.ord.submitted ∧ endOrder o st cause hint s =
        let u := ordStat (sendCq o.cq recs (i.setOrd e))
        if o.resident then schedChanged u else u := by
  unfold endOrder
  extract_lets w parts far total limited flags fin recs i held u
  obtain ⟨hregs, hord⟩ : i.regs = w.regs ∧ i.ord = w.ord := by
    dsimp only [i]
    split
    · exact Prod.mk.inj (foldl_field (fun s : State => (s.regs, s.ord)) _ (fun _ _ => by rfl) _ _)
    · exact ⟨rfl, rfl⟩
  obtain ⟨hwregs, hword⟩ : w.regs = s.regs ∧ w.ord = s.ord := withdrawParts_keeps o
  rw [← hwregs, ← hregs, ← hword, ← hord]
  exact ⟨i, u.ord, recs, rfl, rfl, rfl, rfl⟩

theorem endOrder_rd (h : OutsideEndings a) (o : Order) (st cause hint : Nat) :
    (endOrder o st cause hint s).rd a = s.rd a := by
  obtain ⟨i, e, recs, hregs, -, -, hends⟩ := endOrder_form (s := s) o st cause hint
  have hsent : (ordStat (sendCq o.cq recs (i.setOrd e))).rd a = s.rd a :=
    (ordStat_rd h).trans ((sendCq_rd h _ _).trans (rd_congr hregs a))
  rw [hends]
  dsimp only
  split
  · exact (schedChanged_rd h).trans hsent
  · exact hsent

/-- The order that ends leaves; no other order and no entry that waits does. -/
theorem endOrder_ord (o : Order) (st cause hint : Nat) :
    (endOrder o st cause hint s).ord.orders = s.ord.orders.filter (fun x => !(x.id == o.id && x.seq == o.seq)) ∧
      (endOrder o st cause hint s).ord.submitted = s.ord.submitted := by
  obtain ⟨i, e, recs, -, horders, hsub, hends⟩ := endOrder_form (s := s) o st cause hint
  rw [hends, ← horders, ← hsub]
  dsimp only
  split
  · rw [schedChanged_ord, ordStat_ord, sendCq_ord]
    exact ⟨rfl, rfl⟩
  · rw [ordStat_ord, sendCq_ord]
    exact ⟨rfl, rfl⟩

end

/-! ### Discard-all (R227, R228, R426) -/

section
variable {s}

theorem discardOrder_rd {a : Nat} (h : OutsideEndings a) (o : Order) : (discardOrder o s).rd a = s.rd a := by
  rw [discardOrder, endOrder_rd h]
  split <;> rfl

theorem discardOrder_ord (o : Order) :
    (discardOrder o s).ord.orders = s.ord.orders.filter (fun x => !(x.id == o.id && x.seq == o.seq)) ∧
      (discardOrder o s).ord.submitted = s.ord.submitted := by
  rw [discardOrder, (endOrder_ord _ _ _ _).1, (endOrder_ord _ _ _ _).2]
  split <;> exact ⟨rfl, rfl⟩

/-- What is left after orders have been discarded was there before, and is none of them. -/
theorem discardOrders_mem (l : List Order) {x : Order} (h : x ∈ (l.foldl (fun s o => discardOrder o s) s).ord.orders) :
    x ∈ s.ord.orders ∧ x ∉ l := by
  induction l generalizing s with
  | nil => exact ⟨h, List.not_mem_nil⟩
  | cons o r ih =>
    obtain ⟨hleft, hr⟩ := ih h
    rw [(discardOrder_ord o).1, List.mem_filter] at hleft
    have hne : x ≠ o := by
      rintro rfl
      simp at hleft
    exact ⟨hleft.1, fun hx => (List.mem_cons.1 hx).elim hne hr⟩

end

/-- R228 step 3: the next epoch stands, and every submission queue is flushed. -/
def queuesFlushed (s : State) : State :=
  (List.range 32).foldl (fun s q => qFlush q s) (s.wr Reg.ORD_EPOCH (BitVec.ofNat 32 ((s.epoch + 1) % 2 ^ 32)))

/-- R228 step 4: the record of epoch `e` goes to every enabled completion queue. -/
def noticeEpoch (e : Nat) (s : State) : State :=
  let n := s.ord.orders.length
  (List.range 16).foldl (fun s c => if s.qEnabled (32 + c) then
    sendCq c [⟨0, 3, 8, 0x23, 0, some e, s.now, 0, s.swarmPos, 0xFF, 0, n, 0⟩] s else s) s

/-- R228 step 5: every order ends, the oldest first. -/
def ordersDiscarded (s : State) : State :=
  (sortBy (fun a b : Order => decide (a.seq ≤ b.seq)) s.ord.orders).foldl (fun s o => discardOrder o s) s

/-- No entry, no cancel and no re-plan waits. -/
def engineEmptied (s : State) : State := s.setOrd { s.ord with submitted := [], cancel := none, replan := none }

/-- R221: a cancel that waited finds no order. -/
def cancelFailed (waiting : Bool) (s : State) : State :=
  if waiting then (s.fs Fld.ORD_CANCEL_STAT_BUSY 0).fs Fld.ORD_CANCEL_STAT_RESULT 1 else s

theorem discardEnd_eq : discardEnd s =
    (((cancelFailed (queuesFlushed s).ord.cancel.isSome
      (ordersDiscarded (noticeEpoch ((s.epoch + 1) % 2 ^ 32) (engineEmptied (queuesFlushed s))))).fs
        Fld.ORD_STAT_DISCARDING 0).fs Fld.FLT_HSTAT_HANDLING 0).setRemovals [] := rfl

section
variable {s}

theorem queuesFlushed_epoch : (queuesFlushed s).rd Reg.ORD_EPOCH = s.rd Reg.ORD_EPOCH + 1 := by
  have hkept : (queuesFlushed s).rd Reg.ORD_EPOCH = BitVec.ofNat 32 ((s.epoch + 1) % 2 ^ 32) := by
    refine (foldl_field_mem (fun s : State => s.rd Reg.ORD_EPOCH) _ _ (fun t q hq => qFlush_rd ?_ ?_) _).trans
      (rd_wr_same _ _ _)
    · exact ⟨by decide, by decide, by decide⟩
    · exact (List.mem_range.1 hq).trans (by decide)
  rw [hkept]
  exact BitVec.eq_of_toNat_eq (by simp [State.epoch])

theorem engineEmptied_rd (a : Nat) : (engineEmptied s).rd a = s.rd a := (rfl)

theorem noticeEpoch_rd {a : Nat} (h : OutsideEndings a) (e : Nat) : (noticeEpoch e s).rd a = s.rd a := by
  refine foldl_field (fun s : State => s.rd a) _ (fun t c => ?_) _ _
  split
  · exact sendCq_rd h _ _
  · rfl

theorem noticeEpoch_submitted (e : Nat) : (noticeEpoch e s).ord.submitted = s.ord.submitted := by
  refine foldl_field (fun s : State => s.ord.submitted) _ (fun t c => ?_) _ _
  split
  · rw [sendCq_ord]
  · rfl

theorem ordersDiscarded_rd {a : Nat} (h : OutsideEndings a) : (ordersDiscarded s).rd a = s.rd a :=
  foldl_field (fun s : State => s.rd a) _ (fun _ o => discardOrder_rd h o) _ _

theorem ordersDiscarded_submitted : (ordersDiscarded s).ord.submitted = s.ord.submitted :=
  foldl_field (fun s : State => s.ord.submitted) _ (fun _ o => (discardOrder_ord o).2) _ _

theorem ordersDiscarded_orders : (ordersDiscarded s).ord.orders = [] :=
  List.eq_nil_iff_forall_not_mem.2 fun _ hx =>
    have hleft := discardOrders_mem _ hx
    hleft.2 ((mem_sortBy _).2 hleft.1)

theorem cancelFailed_epoch (waiting : Bool) : (cancelFailed waiting s).rd Reg.ORD_EPOCH = s.rd Reg.ORD_EPOCH := by
  rw [cancelFailed]
  split
  · rw [rd_fs_other _ _ _ _ (by decide), rd_fs_other _ _ _ _ (by decide)]
  · rfl

theorem cancelFailed_ord (waiting : Bool) : (cancelFailed waiting s).ord = s.ord := by
  rw [cancelFailed]
  split <;> rfl

@[simp] theorem setRemovals_rd (v : List Removal) (a : Nat) : (s.setRemovals v).rd a = s.rd a := (rfl)
@[simp] theorem setRemovals_fg (v : List Removal) (f : Fld) : (s.setRemovals v).fg f = s.fg f := (rfl)

/-- R228: what a discard-all leaves once its epoch is in MRAM. -/
theorem discardEnd_leaves : (discardEnd s).ord.orders = [] ∧ (discardEnd s).ord.submitted = [] ∧
    (discardEnd s).removals = [] ∧ (discardEnd s).rd Reg.ORD_EPOCH = s.rd Reg.ORD_EPOCH + 1 ∧
    (discardEnd s).fg Fld.ORD_STAT_DISCARDING = 0 ∧ (discardEnd s).fg Fld.FLT_HSTAT_HANDLING = 0 := by
  have hout : OutsideEndings Reg.ORD_EPOCH := ⟨by decide, by decide, by decide⟩
  rw [discardEnd_eq, setRemovals_ord, State.fs_ord, State.fs_ord, cancelFailed_ord, setRemovals_rd, setRemovals_fg,
    setRemovals_fg]
  refine ⟨ordersDiscarded_orders, ?submitted, setRemovals_removals _ _, ?epoch, ?discarding, ?handling⟩
  case submitted => rw [ordersDiscarded_submitted, noticeEpoch_submitted, engineEmptied, setOrd_ord]
  case epoch =>
    rw [rd_fs_other _ _ _ _ (by decide), rd_fs_other _ _ _ _ (by decide), cancelFailed_epoch, ordersDiscarded_rd hout,
      noticeEpoch_rd hout, engineEmptied_rd, queuesFlushed_epoch]
  case discarding => rw [fg_fs_addr _ _ _ _ (by decide), fg_fs_of_lt _ _ _ (by decide) (by decide)]
  case handling => rw [fg_fs_of_lt _ _ _ (by decide) (by decide)]

theorem discardAll_runs (hdiscard : s.fb Fld.ORD_STAT_DISCARDING = true) (hstarted : s.ord.started = true) :
    discardAll s = nvRun wEpoch (epochBegin ((s.epoch + 1) % 2 ^ 32)) discardEnd s := by
  rw [discardAll, hdiscard, hstarted]
  rfl

end

theorem exec_discardAll (hlive : Live s) : exec .discardAll s = .next (finish (discardAll s)) := done_next _ hlive

/-! ### The statement -/

/-- Settles O31: each host control by the case it is in; a discard-all by the write of its epoch. -/
theorem ordersAreCut : Obligations.OrdersAreCut := by
  refine ⟨⟨?cancel, ?query, ?above, ?bus, ?contract⟩, ?discard⟩
  case cancel =>
    intro p s hreach
    rw [exec_orderCancel s hreach]
    refine ⟨fun hbusy => ?_, fun hdiscard hstarted hidle hsub => ?_⟩
    · rw [cancelWrite_busy hbusy]
    · rw [cancelWrite_taken ⟨hdiscard, hstarted⟩ hidle hsub]
      dsimp only
      simp only [← cancelTaken_order s]
      refine ⟨fun hnone => ?_, fun o hfound hending => ?_, fun o hfound hending => ?_⟩
      · rw [cancelOrder_none hnone]
        rfl
      · rw [cancelOrder_ending hfound hending]
        rfl
      · rw [cancelOrder_stops hfound hending]
        rfl
  case query =>
    intro p id o s hreach hfound hstate
    rw [exec_orderQuery s id hreach, queryWrite_held hfound hstate]
  case above =>
    intro p n v s hreach habove
    rw [exec_capWrite s v hreach, capWrite_above s habove]
  case bus =>
    intro p v s hreach hin
    have hexec := exec_capWrite s (n := 0) v hreach
    rw [hexec, show capReg 0 = .bus from rfl, capWrite_bus s hin]
  case contract =>
    intro p c s hreach
    have hexec := exec_capWrite s (n := ⟨c + 4, by omega⟩) 0 hreach
    rw [hexec, capReg_contract, capWrite_contract_zero]
  case discard =>
    intro s hlive hdiscard hstarted hwaits
    rw [exec_discardAll s hlive, discardAll_runs hdiscard hstarted]
    refine ⟨fun hidle => ?_, fun hbusy => ⟨discardEnd (nvEnd wEpoch s), ?_, discardEnd_leaves⟩⟩
    · rw [nvRun_issues hwaits hidle]
      rfl
    · rw [nvRun_completes hwaits hbusy]

end Sys2Proof.Machine
end

section
/-!
PROOFS. Predictors and confidence (R239, R240, R253): one update of an entry by whether its condition holds.
-/
namespace Sys2Proof.Machine

/-! ### One update of a predictor (R239, R253) -/

section
variable (p : Pred) (persist hold : Nat)

theorem predNext_met : predNext p true persist hold =
    ⟨min 255 (p.heldN + 1), 0, (p.active || decide (persist ≤ min 255 (p.heldN + 1))) && !p.masked, p.masked, 0⟩ := by
  simp [predNext]

theorem predNext_absent : predNext p false persist hold =
    ⟨0, min 65536 (p.since + 1),
      (p.active && decide (min 65536 (p.since + 1) < hold)) && !(p.masked && decide (min 1000 (p.clearN + 1) < 1000)),
      p.masked && decide (min 1000 (p.clearN + 1) < 1000), min 1000 (p.clearN + 1)⟩ := by
  simp [predNext]

end

/-- R240: the confidence is the sum of its formula, kept in 16 bits. -/
theorem confNext_eq (c decay : Nat) (w : Int) : (confNext c decay w : Int) =
    max 0 (min ((c : Int) - ((c * decay + 32768) / 65536 : Nat) + w) 65535) :=
  Int.toNat_of_nonneg (le_max_left 0 _)

/-- Settles O32, by whether the condition of the entry holds at the update. -/
theorem predictorsHold : Obligations.PredictorsHold := by
  refine ⟨fun p cond persist hold => ?_, confNext_eq⟩
  cases cond with
  | true =>
    rw [predNext_met]
    generalize min 255 (p.heldN + 1) = n
    simp +contextual
  | false =>
    rw [predNext_absent]
    have hclear : min 1000 (p.clearN + 1) < 1000 ↔ ¬ 999 ≤ p.clearN := by omega
    simp +contextual [hclear]

end Sys2Proof.Machine
end

section
/-!
PROOFS. What the converters' work leaves of Scout: starts and stops of groups, ramps of trims, the published setpoints, the
log and the wake conditions change no word of Scout's block, no order and no commit.
-/
namespace Sys2Proof.Machine

variable (s : State)

/-! ### Scout's block -/

/-- A field of Scout's block slot. -/
abbrev ScoutFld (f : Fld) : Prop := f.addr / 65536 = 0x13

/-- What the work on groups, trims, contactors and the log leaves alone: Scout, its register words, the orders and the
commits. -/
structure ScoutPart where
  sct : Sct
  ord : Ord
  commits : List Group
  words : Fin 65536 → Word

def State.scoutPart (s : State) : ScoutPart := ⟨s.sct, s.ord, s.commits, fun k => s.rd (0x130000 + k)⟩

theorem fg_of_words {s t : State} (h : t.scoutPart.words = s.scoutPart.words) {f : Fld} (hf : ScoutFld f) :
    t.fg f = s.fg f := by
  unfold ScoutFld at hf
  have hword := congrFun h ⟨f.addr - 0x130000, by omega⟩
  have haddr : 0x130000 + (f.addr - 0x130000) = f.addr := by omega
  dsimp only [State.scoutPart] at hword
  rw [haddr] at hword
  exact fg_of_rd hword

section
variable {s} {t : State} (h : t.scoutPart = s.scoutPart)
include h

theorem sct_of_scoutPart : t.sct = s.sct := congrArg ScoutPart.sct h

theorem ord_of_scoutPart : t.ord = s.ord := congrArg ScoutPart.ord h

theorem commits_of_scoutPart : t.commits = s.commits := congrArg ScoutPart.commits h

theorem fg_of_scoutPart {f : Fld} (hf : ScoutFld f) : t.fg f = s.fg f := fg_of_words (congrArg ScoutPart.words h) hf

end

/-! ### Updates outside of Scout's block -/

theorem wr_scoutPart {a : Nat} (v : Word) (h : a / 65536 ≠ 0x13) : (s.wr a v).scoutPart = s.scoutPart := by
  have hwords : ∀ k : Fin 65536, (s.wr a v).rd (0x130000 + k) = s.rd (0x130000 + k) := fun k =>
    rd_wr_other _ _ _ _ (by omega)
  simp only [State.scoutPart, hwords, State.wr_sct, State.wr_ord, State.wr_commits]

theorem fs_scoutPart {f : Fld} (v : Nat) (h : ¬ ScoutFld f) : (s.fs f v).scoutPart = s.scoutPart := wr_scoutPart s _ h

theorem setPrp_scoutPart (v : Prp) : (s.setPrp v).scoutPart = s.scoutPart := (rfl)
theorem setGrp_scoutPart (g : Nat) (v : Grp) : (s.setGrp g v).scoutPart = s.scoutPart := (rfl)
theorem pubSet_scoutPart (i : Nat) (v : Int) : (s.pubSet i v).scoutPart = s.scoutPart := (rfl)
theorem logEvent_scoutPart (c x y : Nat) (m : Bool) : (s.logEvent c x y m).scoutPart = s.scoutPart := (rfl)

theorem raise_scoutPart (ev : Nat) : (s.raise ev).scoutPart = s.scoutPart := by
  unfold State.raise
  split <;> rfl

theorem removal_scoutPart (r : Removal) : (s.removal r).scoutPart = s.scoutPart := by
  unfold State.removal
  split <;> rfl

/-- A field of a group's words, in the converters' slot or the one of charging. -/
theorem not_scoutFld_group (g : Nat) : ¬ ScoutFld (Fld.CNV_CG_STAT_MODE g) ∧ ¬ ScoutFld (Fld.CNV_CG_STAT_SOFT g) ∧
    ¬ ScoutFld (Fld.CNV_CG_STAT_BRAKE g) ∧ ¬ ScoutFld (Fld.CNV_CG_STAT_SYNCLOCK g) ∧ ¬ ScoutFld (Fld.CNV_CG_PER_P g) ∧
    ¬ ScoutFld (Fld.CHG_CG_STAT_STATE g) := by
  simp only [ScoutFld, Fld.CNV_CG_STAT_MODE, Fld.CNV_CG_STAT_SOFT, Fld.CNV_CG_STAT_BRAKE, Fld.CNV_CG_STAT_SYNCLOCK,
    Fld.CNV_CG_PER_P, Fld.CHG_CG_STAT_STATE]
  omega

theorem flowEnter_scoutPart : s.flowEnter.scoutPart = s.scoutPart := by
  unfold State.flowEnter
  split
  · exact fs_scoutPart s _ (by decide)
  · rfl

theorem flowExit_scoutPart : s.flowExit.scoutPart = s.scoutPart := by
  unfold State.flowExit
  split
  · exact fs_scoutPart s _ (by decide)
  · rfl

theorem wakeWatch_scoutPart : s.wakeWatch.scoutPart = s.scoutPart := by
  unfold State.wakeWatch abandonWatch
  split
  · rfl
  · split
    · rw [fs_scoutPart _ _ (by decide), fs_scoutPart _ _ (by decide), fs_scoutPart _ _ (by decide)]
    · rfl

theorem waveTrigger_scoutPart (trig arg : Nat) : (s.waveTrigger trig arg).scoutPart = s.scoutPart := by
  unfold State.waveTrigger
  split
  · rfl
  · split
    · rfl
    · split
      · rfl
      · rw [logEvent_scoutPart, fs_scoutPart _ _ (by decide), fs_scoutPart _ _ (by decide), setPrp_scoutPart]

theorem setMode_scoutPart (g m : Nat) : (s.setMode g m).scoutPart = s.scoutPart := by
  obtain ⟨hmode, -⟩ := not_scoutFld_group g
  have hset := fs_scoutPart s m hmode
  unfold State.setMode
  extract_lets t u
  split <;> exact hset

theorem groupHardStop_scoutPart (g : Nat) : (groupHardStop g s).scoutPart = s.scoutPart := by
  obtain ⟨-, hsoft, hbrake, hlock, -, hpv⟩ := not_scoutFld_group g
  unfold groupHardStop
  rw [flowExit_scoutPart, fs_scoutPart _ _ hlock, fs_scoutPart _ _ hbrake, fs_scoutPart _ _ hsoft, pubSet_scoutPart,
    pubSet_scoutPart, pubSet_scoutPart, setGrp_scoutPart, setMode_scoutPart]
  split
  · exact fs_scoutPart s _ hpv
  · rfl

theorem groupStop_scoutPart (g : Nat) : (groupStop g s).scoutPart = s.scoutPart := by
  unfold groupStop
  extract_lets x
  split_ifs
  · rfl
  · exact groupHardStop_scoutPart s g
  · rfl

theorem groupStart_scoutPart (g m : Nat) : (groupStart g m s).scoutPart = s.scoutPart := by
  obtain ⟨-, hsoft, -, -, hper, -⟩ := not_scoutFld_group g
  unfold groupStart
  extract_lets ty x t u
  have hstarted : u.scoutPart = s.scoutPart := by
    rw [fs_scoutPart _ _ hper, fs_scoutPart _ _ hsoft, setGrp_scoutPart, setMode_scoutPart]
  split_ifs
  · rfl
  · exact removal_scoutPart s _
  · exact hstarted
  · rw [flowEnter_scoutPart, hstarted]

theorem trimRampAll_scoutPart (target : Nat → Nat) (ms : Nat) : (trimRampAll target ms s).scoutPart = s.scoutPart := by
  refine foldl_field State.scoutPart _ (fun _ _ => ?_) _ _
  rfl

theorem shadowEnter_scoutPart (n : Nat) : (shadowEnter n s).scoutPart = s.scoutPart := by
  unfold shadowEnter
  split
  · split
    · exact groupStart_scoutPart s _ _
    · rfl
  · rfl

theorem shadowLeave_scoutPart (g : Nat) : (shadowLeave g s).scoutPart = s.scoutPart := by
  unfold shadowLeave
  split <;> rfl

theorem takeBus_scoutPart (n : Nat) : (takeBus n s).scoutPart = s.scoutPart := by
  unfold takeBus
  split
  · rfl
  · split_ifs
    · rw [setGrp_scoutPart, setMode_scoutPart]
    · rw [setGrp_scoutPart, setMode_scoutPart]
    · exact groupStart_scoutPart s _ _
    · rfl

theorem leaveBus_scoutPart (g : Nat) : (leaveBus g s).scoutPart = s.scoutPart := by
  unfold leaveBus
  split_ifs
  · rfl
  · rw [groupStop_scoutPart, setMode_scoutPart]
  · exact setMode_scoutPart s _ _
  · rw [groupStop_scoutPart, pubSet_scoutPart]

theorem handbackGroup_scoutPart (lvl g : Nat) : (handbackGroup lvl g s).scoutPart = s.scoutPart := by
  unfold handbackGroup
  split
  · rw [setGrp_scoutPart, setMode_scoutPart]
  · exact leaveBus_scoutPart s g

theorem publishVref_scoutPart : (publishVref s).scoutPart = s.scoutPart := by
  refine foldl_field State.scoutPart _ (fun _ _ => ?_) _ _
  rfl

theorem publishHlim_scoutPart : (publishHlim s).scoutPart = s.scoutPart :=
  foldl_field State.scoutPart _ (fun _ _ => by split <;> rfl) _ _

end Sys2Proof.Machine
end

section
/-!
PROOFS. Levels and squashes of Scout (R241, R244, R246, R253, R254): what a change of the level keeps, and what a squash
leaves.
-/
namespace Sys2Proof.Machine

variable (s : State)

/-! ### Levels (R241, R244, R254) -/

/-- Two fields that share no bit. -/
abbrev FldApart (f g : Fld) : Prop := f.addr ≠ g.addr ∨ f.lo + f.width ≤ g.lo ∨ g.lo + g.width ≤ f.lo

/-- What a change of the level leaves of the samples, the predictors, the orders and the commits. -/
structure LevelPart where
  ac : List Int
  hold : List Nat
  pred : KV Pred
  want : Option (Nat × Nat)
  ord : Ord
  commits : List Group

def State.levelPart (s : State) : LevelPart := ⟨s.sct.ac, s.sct.hold, s.sct.pred, s.sct.want, s.ord, s.commits⟩

theorem levelPart_of_scoutPart {s t : State} (h : t.scoutPart = s.scoutPart) : t.levelPart = s.levelPart := by
  simp only [State.levelPart, sct_of_scoutPart h, ord_of_scoutPart h, commits_of_scoutPart h]

section
variable {s} {t : State} (h : t.levelPart = s.levelPart)
include h

theorem ac_of_levelPart : t.sct.ac = s.sct.ac := congrArg LevelPart.ac h

theorem hold_of_levelPart : t.sct.hold = s.sct.hold := congrArg LevelPart.hold h

theorem pred_of_levelPart : t.sct.pred = s.sct.pred := congrArg LevelPart.pred h

theorem want_of_levelPart : t.sct.want = s.sct.want := congrArg LevelPart.want h

theorem ord_of_levelPart : t.ord = s.ord := congrArg LevelPart.ord h

theorem commits_of_levelPart : t.commits = s.commits := congrArg LevelPart.commits h

end

theorem setSct_levelPart {v : Sct} (h : v.ac = s.sct.ac ∧ v.hold = s.sct.hold ∧ v.pred = s.sct.pred ∧
    v.want = s.sct.want) : (s.setSct v).levelPart = s.levelPart := by
  simp only [State.levelPart, setSct_sct, h, setSct_ord, setSct_commits]

/-- The level shows, with EV152 on a change. -/
def levelShown (n : Nat) (s : State) : State := if n = s.level then s else (s.fs Fld.SCT_STAT_LEVEL n).raise 152

/-- R244: the level leaves P0. -/
def levelLeft (old n : Nat) (s : State) : State :=
  if old = 0 ∧ 0 < n then
    (vrefSet (s.setSct { s.sct with sinceP0 := 0, fromWatch := s.powerState == 1 })).wakeWatch else s

/-- R246: at P0 the lock ends, and the costs are forgotten. -/
def levelUnlocked (n : Nat) (s : State) : State :=
  if n = 0 then (s.fs Fld.SCT_STAT_LOCK 3).setSct { s.sct with cost := [] } else s

/-- R244, R254: the groups enter or leave shadow regulation. -/
def levelGroups (n : Nat) (s : State) : State :=
  if s.phase ≠ phIdle then s
  else if 2 ≤ n then
    let s := s.setSct { s.sct with offs := if n = 3 then 30 else 100 }
    (bitsOf 8 (s.fg Fld.SCT_STAT_H)).foldl (fun s m => shadowEnter m s) s
  else (List.range 12).foldl (fun s g => shadowLeave g s) s

theorem setLevel_eq (n : Nat) :
    setLevel n s = levelGroups n (levelUnlocked n (levelLeft s.level n (levelShown n s))) := rfl

theorem shadowEnterAll_scoutPart (l : List Nat) : (l.foldl (fun s m => shadowEnter m s) s).scoutPart = s.scoutPart :=
  foldl_field State.scoutPart _ (fun t m => shadowEnter_scoutPart t m) _ _

theorem shadowLeaveAll_scoutPart (l : List Nat) : (l.foldl (fun s g => shadowLeave g s) s).scoutPart = s.scoutPart :=
  foldl_field State.scoutPart _ (fun t g => shadowLeave_scoutPart t g) _ _

theorem levelShown_levelPart (n : Nat) : (levelShown n s).levelPart = s.levelPart := by
  unfold levelShown
  split
  · rfl
  · rw [levelPart_of_scoutPart (raise_scoutPart _ _)]
    rfl

theorem levelLeft_levelPart (old n : Nat) : (levelLeft old n s).levelPart = s.levelPart := by
  unfold levelLeft
  split
  · rw [levelPart_of_scoutPart (wakeWatch_scoutPart _)]
    rfl
  · rfl

theorem levelUnlocked_levelPart (n : Nat) : (levelUnlocked n s).levelPart = s.levelPart := by
  unfold levelUnlocked
  split
  · exact setSct_levelPart (s.fs Fld.SCT_STAT_LOCK 3) ⟨rfl, rfl, rfl, rfl⟩
  · rfl

theorem levelGroups_levelPart (n : Nat) : (levelGroups n s).levelPart = s.levelPart := by
  unfold levelGroups
  extract_lets t
  split_ifs
  · rfl
  · rw [levelPart_of_scoutPart (shadowEnterAll_scoutPart _ _)]
    exact setSct_levelPart s ⟨rfl, rfl, rfl, rfl⟩
  · exact levelPart_of_scoutPart (shadowLeaveAll_scoutPart s _)

theorem setLevel_levelPart (n : Nat) : (setLevel n s).levelPart = s.levelPart := by
  rw [setLevel_eq, levelGroups_levelPart, levelUnlocked_levelPart, levelLeft_levelPart, levelShown_levelPart]

section
variable {f : Fld}

theorem levelShown_fg (n : Nat) (hlevel : FldApart f Fld.SCT_STAT_LEVEL) : (levelShown n s).fg f = s.fg f := by
  unfold levelShown
  split
  · rfl
  · rw [raise_fg, fg_fs_other _ _ _ _ (by decide) hlevel]

theorem levelLeft_fg (hf : ScoutFld f) (old n : Nat) : (levelLeft old n s).fg f = s.fg f := by
  unfold levelLeft
  split
  · rw [fg_of_scoutPart (wakeWatch_scoutPart _) hf]
    rfl
  · rfl

theorem levelUnlocked_fg (n : Nat) (hlock : FldApart f Fld.SCT_STAT_LOCK) : (levelUnlocked n s).fg f = s.fg f := by
  unfold levelUnlocked
  split
  · rw [setSct_fg, fg_fs_other _ _ _ _ (by decide) hlock]
  · rfl

theorem levelGroups_fg (hf : ScoutFld f) (n : Nat) : (levelGroups n s).fg f = s.fg f := by
  unfold levelGroups
  extract_lets t
  split_ifs
  · rfl
  · rw [fg_of_scoutPart (shadowEnterAll_scoutPart _ _) hf]
    rfl
  · exact fg_of_scoutPart (shadowLeaveAll_scoutPart s _) hf

theorem setLevel_fg (hf : ScoutFld f) (n : Nat) (hlevel : FldApart f Fld.SCT_STAT_LEVEL)
    (hlock : FldApart f Fld.SCT_STAT_LOCK) : (setLevel n s).fg f = s.fg f := by
  rw [setLevel_eq, levelGroups_fg _ hf, levelUnlocked_fg _ _ hlock, levelLeft_fg _ hf, levelShown_fg _ _ hlevel]

end

theorem levelShown_level {n : Nat} (h : n < 4) : (levelShown n s).level = n := by
  unfold levelShown
  split
  · next heq => exact heq.symm
  · rw [State.level, raise_fg, fg_fs_of_lt _ _ _ (by decide) h]

theorem setLevel_level {n : Nat} (h : n < 4) : (setLevel n s).level = n := by
  rw [setLevel_eq, State.level, levelGroups_fg _ (by decide), levelUnlocked_fg _ _ (by decide), levelLeft_fg _ (by decide)]
  exact levelShown_level s h

/-! ### Squashes (R253, R254) -/

theorem showPlans_sct (valid gap : Nat) : (showPlans valid gap s).sct = s.sct := by
  unfold showPlans
  split
  · rfl
  · rw [State.raise_sct, State.fs_sct, State.fs_sct]

theorem showPlans_ord (valid gap : Nat) : (showPlans valid gap s).ord = s.ord := by
  unfold showPlans
  split
  · rfl
  · rw [State.raise_ord, State.fs_ord, State.fs_ord]

theorem showPlans_commits (valid gap : Nat) : (showPlans valid gap s).commits = s.commits := by
  unfold showPlans
  split
  · rfl
  · rw [State.raise_commits, State.fs_commits, State.fs_commits]

theorem showPlans_fg (valid gap : Nat) {f : Fld} (h : f.addr ≠ Fld.SCT_PLAN_VALID.addr) :
    (showPlans valid gap s).fg f = s.fg f := by
  unfold showPlans
  split
  · rfl
  · have hgap : f.addr ≠ Fld.SCT_PLAN_GAP.addr := h
    rw [raise_fg, fg_fs_addr _ _ _ _ hgap, fg_fs_addr _ _ _ _ h]

/-- The trial copies are deleted, and the squash shows with its cause. -/
def squashShown (cause : Nat) (s : State) : State :=
  ((showPlans 0 0 (s.setOrd { s.ord with plans := [] })).fs Fld.SCT_FLAG_SQUASH 1).fs Fld.SCT_CAUSE_SQ cause

theorem squashTo_squashes {n : Nat} (cause : Nat) (hidle : s.phase = phIdle) (hlevel : n < s.level) :
    squashTo n cause s = setLevel n (squashShown cause s) := if_neg (by omega)

theorem squashTo_cases (n cause : Nat) :
    squashTo n cause s = s ∨ squashTo n cause s = setLevel n (squashShown cause s) := by
  unfold squashTo
  split
  · exact .inl rfl
  · exact .inr rfl

theorem squashShown_sct (cause : Nat) : (squashShown cause s).sct = s.sct := by
  rw [squashShown, State.fs_sct, State.fs_sct, showPlans_sct, setOrd_sct]

theorem squashShown_ord (cause : Nat) : (squashShown cause s).ord = { s.ord with plans := [] } := by
  rw [squashShown, State.fs_ord, State.fs_ord, showPlans_ord, setOrd_ord]

theorem squashShown_commits (cause : Nat) : (squashShown cause s).commits = s.commits := by
  rw [squashShown, State.fs_commits, State.fs_commits, showPlans_commits, setOrd_commits]

/-- An entry that a TIMEOUT masks (R253). -/
def predMasked (p : Pred) : Pred := { p with active := false, masked := true, clearN := 0 }

/-- A TIMEOUT masks an entry that is active (R253). -/
def maskPred (s : State) (e : Nat) : State :=
  if (s.pred e).active then
    s.setSct { s.sct with pred := kvSet (fun _ => pred0) s.sct.pred e (predMasked (s.pred e)) } else s

theorem maskActive_eq : maskActive s = (List.range 32).foldl maskPred s := rfl

theorem maskPred_idle {e : Nat} (h : (s.pred e).active = false) : maskPred s e = s := if_neg (by simp [h])

theorem maskPred_active {e : Nat} (h : (s.pred e).active = true) : maskPred s e =
    s.setSct { s.sct with pred := kvSet (fun _ => pred0) s.sct.pred e (predMasked (s.pred e)) } := if_pos h

theorem maskPred_other {e m : Nat} (h : m ≠ e) : (maskPred s m).pred e = s.pred e := by
  unfold maskPred
  split
  · exact kvGet_set_other _ _ _ _ _ h.symm
  · rfl

theorem maskPred_same (e : Nat) : ((maskPred s e).pred e).active = false ∧
    ((s.pred e).active = true → ((maskPred s e).pred e).masked = true) := by
  cases hactive : (s.pred e).active with
  | false =>
    rw [maskPred_idle s hactive]
    exact ⟨hactive, fun h => absurd h Bool.false_ne_true⟩
  | true =>
    have hmasked : (maskPred s e).pred e = predMasked (s.pred e) := by
      rw [maskPred_active s hactive]
      exact kvGet_set_same _ _ _ _
    rw [hmasked]
    exact ⟨rfl, fun _ => rfl⟩

theorem maskActive_pred {e : Nat} (he : e < 32) : ((maskActive s).pred e).active = false ∧
    ((s.pred e).active = true → ((maskActive s).pred e).masked = true) := by
  have hother : ∀ (t : State), ∀ m < 32, m ≠ e → (maskPred t m).pred e = t.pred e :=
    fun t _ _ hm => maskPred_other t hm
  have hbefore := foldl_range_before (fun t : State => t.pred e) maskPred he hother s
  have hat := foldl_range_at (fun t : State => t.pred e) maskPred he hother s
  rw [maskActive_eq, hat, ← hbefore]
  exact maskPred_same _ e

theorem maskPred_regs (e : Nat) : (maskPred s e).regs = s.regs := by
  unfold maskPred
  split <;> rfl

theorem maskPred_want (e : Nat) : (maskPred s e).sct.want = s.sct.want := by
  unfold maskPred
  split <;> rfl

theorem maskActive_regs : (maskActive s).regs = s.regs := by
  rw [maskActive_eq]
  exact foldl_field State.regs _ maskPred_regs _ _

theorem maskActive_want : (maskActive s).sct.want = s.sct.want := by
  rw [maskActive_eq]
  exact foldl_field (fun t : State => t.sct.want) _ maskPred_want _ _

/-- A TIMEOUT masks what was active before its squash (R253). -/
def maskTimeout (cause : Nat) (s : State) : State := if cause = 2 then maskActive s else s

theorem maskTimeout_regs (cause : Nat) : (maskTimeout cause s).regs = s.regs := by
  unfold maskTimeout
  split
  · exact maskActive_regs s
  · rfl

theorem maskTimeout_want (cause : Nat) : (maskTimeout cause s).sct.want = s.sct.want := by
  unfold maskTimeout
  split
  · exact maskActive_want s
  · rfl

theorem squashWanted_some {n cause : Nat} (h : s.sct.want = some (n, cause)) :
    squashWanted s = squashTo n cause (maskTimeout cause (s.setSct { s.sct with want := none })) := by
  unfold squashWanted
  rw [h]
  rfl

/-- R253, R254: what the squash to P0 that a trigger has asked for leaves. -/
theorem squashWanted_leaves {cause : Nat} (hidle : s.phase = phIdle) (hlevel : s.level ≠ 0)
    (hwant : s.sct.want = some (0, cause)) : (squashWanted s).level = 0 ∧ (squashWanted s).fg Fld.SCT_FLAG_SQUASH = 1 ∧
      (squashWanted s).fg Fld.SCT_CAUSE_SQ = cause % 2 ^ Fld.SCT_CAUSE_SQ.width ∧ (squashWanted s).sct.want = none ∧
      (squashWanted s).ord.plans = [] ∧ (∀ e < 32, cause = 2 → ((squashWanted s).pred e).active = false ∧
        ((s.pred e).active = true → ((squashWanted s).pred e).masked = true)) := by
  obtain ⟨t, ht⟩ : ∃ t, t = maskTimeout cause (s.setSct { s.sct with want := none }) := ⟨_, rfl⟩
  have hregs : t.regs = s.regs := by rw [ht, maskTimeout_regs, setSct_regs]
  have htidle : t.phase = phIdle := (fg_congr hregs _).trans hidle
  have htlevel : 0 < t.level := (fg_congr hregs _).trans_gt (Nat.pos_of_ne_zero hlevel)
  have hsquash : squashWanted s = setLevel 0 (squashShown cause t) := by
    rw [squashWanted_some s hwant, ← ht, squashTo_squashes t cause htidle htlevel]
  have hpart := setLevel_levelPart (squashShown cause t) 0
  rw [hsquash]
  refine ⟨setLevel_level _ (by decide), ?flag, ?squash, ?want, ?plans, fun e he hcause => ?pred⟩
  case flag =>
    rw [setLevel_fg _ (by decide) _ (by decide) (by decide), squashShown, fg_fs_addr _ _ _ _ (by decide),
      fg_fs_of_lt _ _ _ (by decide) (by decide)]
  case squash =>
    rw [setLevel_fg _ (by decide) _ (by decide) (by decide), squashShown, fg_fs_same _ _ _ (by decide)]
  case want =>
    rw [want_of_levelPart hpart, squashShown_sct, ht, maskTimeout_want, setSct_sct]
  case plans =>
    rw [ord_of_levelPart hpart, squashShown_ord]
  case pred =>
    have hkept : (setLevel 0 (squashShown cause t)).pred e = t.pred e := by
      rw [State.pred, pred_of_levelPart hpart, squashShown_sct, State.pred]
    rw [hkept, ht, maskTimeout, if_pos hcause]
    exact maskActive_pred (s.setSct { s.sct with want := none }) he

end Sys2Proof.Machine
end

section
/-!
PROOFS. An update of Scout (R234 to R240, R251 to R264): what its steps leave of the samples, the confidence and the
commits, and how a confirmation starts the hand-over.
-/
namespace Sys2Proof.Machine

variable (s : State)

/-! ### What an update keeps once the samples are in -/

/-- The samples, the confidence and the commits. -/
structure ScoutInputs where
  ac : List Int
  conf : Nat
  commits : List Group

def State.scoutInputs (s : State) : ScoutInputs := ⟨s.sct.ac, s.fg Fld.SCT_STAT_CONF, s.commits⟩

theorem inputs_of_scoutPart {s t : State} (h : t.scoutPart = s.scoutPart) : t.scoutInputs = s.scoutInputs := by
  simp only [State.scoutInputs, sct_of_scoutPart h, commits_of_scoutPart h, fg_of_scoutPart h (f := Fld.SCT_STAT_CONF) rfl]

section
variable {s} {t : State} (h : t.scoutInputs = s.scoutInputs)
include h

theorem ac_of_inputs : t.sct.ac = s.sct.ac := congrArg ScoutInputs.ac h

theorem conf_of_inputs : t.fg Fld.SCT_STAT_CONF = s.fg Fld.SCT_STAT_CONF := congrArg ScoutInputs.conf h

theorem commits_of_inputs : t.commits = s.commits := congrArg ScoutInputs.commits h

end

theorem fs_inputs {f : Fld} (v : Nat) (hwidth : f.lo + f.width ≤ 32) (h : FldApart Fld.SCT_STAT_CONF f) :
    (s.fs f v).scoutInputs = s.scoutInputs := by
  simp only [State.scoutInputs, fg_fs_other s f _ v hwidth h, State.fs_sct, State.fs_commits]

theorem wr_inputs {a : Nat} (v : Word) (h : Fld.SCT_STAT_CONF.addr ≠ a) : (s.wr a v).scoutInputs = s.scoutInputs := by
  simp only [State.scoutInputs, fg_wr_other s a v _ h, State.wr_sct, State.wr_commits]

theorem setSct_inputs {v : Sct} (h : v.ac = s.sct.ac) : (s.setSct v).scoutInputs = s.scoutInputs := by
  simp only [State.scoutInputs, setSct_sct, h, setSct_fg, setSct_commits]

theorem vrefSet_inputs : (vrefSet s).scoutInputs = s.scoutInputs := (rfl)

theorem setLevel_inputs (n : Nat) : (setLevel n s).scoutInputs = s.scoutInputs := by
  have hpart := setLevel_levelPart s n
  simp only [State.scoutInputs, ac_of_levelPart hpart, commits_of_levelPart hpart,
    setLevel_fg s (f := Fld.SCT_STAT_CONF) rfl n (by decide) (by decide)]

theorem squashShown_inputs (cause : Nat) : (squashShown cause s).scoutInputs = s.scoutInputs := by
  have hconf : (squashShown cause s).fg Fld.SCT_STAT_CONF = s.fg Fld.SCT_STAT_CONF := by
    rw [squashShown, fg_fs_addr _ _ _ _ (by decide), fg_fs_addr _ _ _ _ (by decide), showPlans_fg _ _ _ (by decide)]
    rfl
  simp only [State.scoutInputs, squashShown_sct, squashShown_commits, hconf]

theorem squashTo_inputs (n cause : Nat) : (squashTo n cause s).scoutInputs = s.scoutInputs := by
  rcases squashTo_cases s n cause with h | h
  · rw [h]
  · rw [h, setLevel_inputs, squashShown_inputs]

theorem maskPred_inputs (e : Nat) : (maskPred s e).scoutInputs = s.scoutInputs := by
  unfold maskPred
  split <;> rfl

theorem maskActive_inputs : (maskActive s).scoutInputs = s.scoutInputs := by
  rw [maskActive_eq]
  exact foldl_field State.scoutInputs _ maskPred_inputs _ _

theorem squashWanted_inputs : (squashWanted s).scoutInputs = s.scoutInputs := by
  unfold squashWanted
  split
  · rfl
  · rw [squashTo_inputs]
    split
    · rw [maskActive_inputs]
      rfl
    · rfl

theorem costStep_inputs : (costStep s).scoutInputs = s.scoutInputs := by
  unfold costStep
  extract_lets c t mean cap v l
  have hcost : v.scoutInputs = s.scoutInputs := by
    rw [fs_inputs _ _ (by decide) (by decide), State.fsat, fs_inputs _ _ (by decide) (by decide)]
    exact setSct_inputs s rfl
  split
  · rw [squashTo_inputs, fs_inputs _ _ (by decide) (by decide)]
    exact (setSct_inputs v rfl).trans hcost
  · exact hcost

/-! ### The hold-up (R257 to R264) -/

/-- A string whose ramp out goes on stops as the ramp ends (R257, R435). -/
def rampStep (n k : Nat) (s : State) : State :=
  let s := s.setSct { s.sct with stopped := kvInsert n (some k) s.sct.stopped }
  if k = 0 then (match s.strGroup n with | some g => leaveBus g s | none => s) else s

theorem rampStep_inputs (n k : Nat) : (rampStep n k s).scoutInputs = s.scoutInputs := by
  have hset := setSct_inputs s (v := { s.sct with stopped := kvInsert n (some k) s.sct.stopped }) rfl
  unfold rampStep
  extract_lets c t
  split
  · split
    · rw [inputs_of_scoutPart (leaveBus_scoutPart _ _), hset]
    · exact hset
  · exact hset

theorem holdupMeter_inputs : (holdupMeter s).scoutInputs = s.scoutInputs := by
  unfold holdupMeter
  extract_lets t
  rw [wr_inputs _ _ (by decide)]
  refine foldl_field State.scoutInputs _ (fun u n => ?_) _ _
  exact setSct_inputs u rfl

theorem holdupStops_inputs : (holdupStops s).scoutInputs = s.scoutInputs := by
  unfold holdupStops
  extract_lets h done t
  have hstops : t.scoutInputs = s.scoutInputs := by
    refine foldl_field State.scoutInputs _ (fun u n => ?_) _ _
    split
    · split
      · exact setSct_inputs u rfl
      · rfl
    · rfl
    · exact rampStep_inputs u n _
  split
  · rw [fs_inputs _ _ (by decide) (by decide), hstops]
  · exact hstops

theorem handoverStep_inputs : (handoverStep s).scoutInputs = s.scoutInputs := by
  unfold handoverStep
  extract_lets sp o c t
  have hset : t.scoutInputs = s.scoutInputs := setSct_inputs s rfl
  split_ifs
  · exact hset
  · rw [fs_inputs _ _ (by decide) (by decide), inputs_of_scoutPart (flowEnter_scoutPart _), hset]
  · rw [inputs_of_scoutPart (trimRampAll_scoutPart _ _ _), inputs_of_scoutPart (flowEnter_scoutPart _), hset]

theorem stabilityStep_inputs (stable : Bool) : (stabilityStep stable s).scoutInputs = s.scoutInputs := by
  unfold stabilityStep
  extract_lets c t low ramped
  split
  · rw [fs_inputs _ _ (by decide) (by decide), inputs_of_scoutPart (trimRampAll_scoutPart _ _ _),
      fs_inputs _ _ (by decide) (by decide)]
    exact setSct_inputs s rfl
  · exact setSct_inputs s rfl

/-- The strings of the hold-up whose ramp out goes on after a reset of Scout (R435). -/
def rampsOut (s : State) : State :=
  s.sct.hold.foldl (fun s n => match kvGet (fun _ => none) s.sct.stopped n with
    | some (k + 1) => rampStep n k s
    | _ => s) s

theorem holdupRampOut_cases : holdupRampOut s = rampsOut s ∨
    holdupRampOut s = (rampsOut s).setSct { (rampsOut s).sct with hold := [], stopped := [] } := by
  unfold holdupRampOut
  extract_lets t
  split
  · exact .inr rfl
  · exact .inl rfl

theorem rampsOut_inputs : (rampsOut s).scoutInputs = s.scoutInputs := by
  refine foldl_field State.scoutInputs _ (fun u n => ?_) _ _
  split
  · exact rampStep_inputs u n _
  · rfl

theorem holdupRampOut_inputs : (holdupRampOut s).scoutInputs = s.scoutInputs := by
  rcases holdupRampOut_cases s with h | h
  · rw [h, rampsOut_inputs]
  · rw [h]
    exact (setSct_inputs _ rfl).trans (rampsOut_inputs s)

/-! ### Confirmation (R251, R252) -/

/-- R252: the words that show a confirmation that starts a hold-up. -/
def confirmShown (cause : Nat) (s : State) : State :=
  (((s.fs Fld.SCT_STAT_PHASE phHandover).fs Fld.SCT_CAUSE_CONF cause).fs Fld.SCT_CAUSE_SUPP 0).fs Fld.SCT_FLAG_CONFIRM 1

/-- R252: the draw of the AC is lost, and the strings of the hold-up take the bus. -/
def busTaken (h : List Nat) (s : State) : State := h.foldl (fun s n => takeBus n s) ((s.removal (.acDraw 0)).wakeWatch)

theorem busTaken_scoutPart (h : List Nat) : (busTaken h s).scoutPart = s.scoutPart :=
  (foldl_field State.scoutPart _ (fun t n => takeBus_scoutPart t n) _ _).trans
    ((wakeWatch_scoutPart _).trans (removal_scoutPart _ _))

theorem vrefSet_keeps : (vrefSet s).sct.ac = s.sct.ac ∧ (vrefSet s).commits = s.commits ∧ (vrefSet s).regs = s.regs :=
  ⟨rfl, rfl, rfl⟩

/-- What a confirmation with hold-up enabled leaves of the samples and the commits, and the fields that show it. -/
theorem confirm_leaves (cause : Nat) (h : s.fb Fld.SCT_CFG_HU_EN = true) :
    (confirm cause s).sct.ac = s.sct.ac ∧ (confirm cause s).commits = s.commits ∧
      ∀ f, ScoutFld f → f.addr ≠ Reg.SCT_HU_ALLOW → f.addr ≠ Reg.SCT_HU_E →
        (confirm cause s).fg f = (confirmShown cause s).fg f := by
  have hen : ¬ (!s.fb Fld.SCT_CFG_HU_EN) = true := by simp [h]
  unfold confirm
  rw [if_neg hen]
  extract_lets lvl strings os b0 f0 shown v c t allow w x o z
  have hvref : v.sct.ac = shown.sct.ac ∧ v.commits = shown.commits ∧ v.regs = shown.regs := by
    unfold v
    split
    · exact vrefSet_keeps shown
    · exact ⟨rfl, rfl, rfl⟩
  obtain ⟨hac, hcommits, hregs⟩ := hvref
  have hlogged : x.scoutPart = w.scoutPart := (waveTrigger_scoutPart _ _ _).trans (logEvent_scoutPart _ _ _ _ _)
  have htaken : (busTaken strings z).scoutPart = z.scoutPart := busTaken_scoutPart z strings
  refine ⟨?_, ?_, fun f hf hallow henergy => ?_⟩
  · exact (congrArg Sct.ac (sct_of_scoutPart htaken)).trans ((congrArg Sct.ac (sct_of_scoutPart hlogged)).trans hac)
  · exact (commits_of_scoutPart htaken).trans ((commits_of_scoutPart hlogged).trans hcommits)
  · calc (busTaken strings z).fg f = x.fg f := fg_of_scoutPart htaken hf
      _ = w.fg f := fg_of_scoutPart hlogged hf
      _ = v.fg f := (fg_wr_other _ _ _ _ henergy).trans (fg_wr_other _ _ _ _ hallow)
      _ = shown.fg f := fg_congr hregs f

theorem confirm_suppressed (cause : Nat) (h : s.fb Fld.SCT_CFG_HU_EN = false) :
    confirm cause s = (s.fs Fld.SCT_CAUSE_CONF cause).fs Fld.SCT_CAUSE_SUPP 1 := if_pos (by simp [h])

theorem confirm_inputs (cause : Nat) : (confirm cause s).scoutInputs = s.scoutInputs := by
  cases hen : s.fb Fld.SCT_CFG_HU_EN with
  | false =>
    rw [confirm_suppressed s cause hen, fs_inputs _ _ (by decide) (by decide), fs_inputs _ _ (by decide) (by decide)]
  | true =>
    obtain ⟨hac, hcommits, hfg⟩ := confirm_leaves s cause hen
    have hconf : (confirm cause s).fg Fld.SCT_STAT_CONF = s.fg Fld.SCT_STAT_CONF := by
      rw [hfg _ rfl (by decide) (by decide), confirmShown]
      simp (disch := decide) only [fg_fs_other]
    simp only [State.scoutInputs, hac, hcommits, hconf]

/-- R251, R252: a confirmation with hold-up enabled starts the hand-over and shows its cause. -/
theorem confirm_starts {cause : Nat} (hen : s.fb Fld.SCT_CFG_HU_EN = true) (hcause : cause < 16) :
    (confirm cause s).phase = phHandover ∧ (confirm cause s).fg Fld.SCT_CAUSE_CONF = cause := by
  obtain ⟨-, -, hfg⟩ := confirm_leaves s cause hen
  rw [State.phase, hfg _ rfl (by decide) (by decide), hfg _ rfl (by decide) (by decide), confirmShown]
  constructor
  · simp (disch := decide) only [fg_fs_other, fg_fs_of_lt]
  · rw [fg_fs_addr _ _ _ _ (by decide), fg_fs_other _ _ _ _ (by decide) (by decide), fg_fs_of_lt _ _ _ (by decide) hcause]

/-! ### The squashes and the level of an update (R253, R255) -/

/-- An update in IDLE that confirms nothing: the squashes, the level and its cost. -/
def scoutSettle (c : Nat) (s : State) : State :=
  if s.fb Fld.ORD_STAT_DISCARDING then squashTo 0 6 (s.setSct { s.sct with want := none })
  else
    let s := squashWanted s
    let n := s.levelFor c
    let top := maxLevel (s.fg Fld.SYS_PROFILE_PROFILE)
    let s := if top < s.level then squashTo top 3 s else s
    let s := if n < s.level then squashTo n 1 s else setLevel n s
    let s := if 0 < s.level ∧ s.sct.sinceP0 % 1000 = 0 then vrefSet s else s
    costStep s

/-- The hold-up's end after a reset of Scout (R435). -/
def holdupLeft (s : State) : State := if s.sct.hold.isEmpty then s else holdupRampOut s

/-- A confirmation, where there is one (R251). -/
def scoutConfirmed (found : Option Nat) (s : State) : State :=
  match found with
  | some cause => confirm cause s
  | none => s

theorem scoutIdle_eq (c acf : Nat) : scoutIdle c acf s =
    (let found := (holdupLeft s).confirming acf
     let t := scoutConfirmed found (holdupLeft s)
     if found.isSome ∧ t.phase ≠ phIdle then t else scoutSettle c t) := rfl

theorem scoutSettle_inputs (c : Nat) : (scoutSettle c s).scoutInputs = s.scoutInputs := by
  unfold scoutSettle
  split
  · rw [squashTo_inputs]
    exact setSct_inputs s rfl
  · extract_lets t n top u v w
    have hu : u.scoutInputs = t.scoutInputs := by
      unfold u
      split
      · exact squashTo_inputs t _ _
      · rfl
    have hv : v.scoutInputs = u.scoutInputs := by
      unfold v
      split
      · exact squashTo_inputs u _ _
      · exact setLevel_inputs u _
    have hw : w.scoutInputs = v.scoutInputs := by
      unfold w
      split
      · exact vrefSet_inputs v
      · rfl
    rw [costStep_inputs, hw, hv, hu, squashWanted_inputs]

theorem holdupLeft_inputs : (holdupLeft s).scoutInputs = s.scoutInputs := by
  unfold holdupLeft
  split
  · rfl
  · exact holdupRampOut_inputs s

theorem scoutConfirmed_inputs (found : Option Nat) : (scoutConfirmed found s).scoutInputs = s.scoutInputs := by
  cases found with
  | none => rfl
  | some cause => exact confirm_inputs s cause

theorem scoutIdle_inputs (c acf : Nat) : (scoutIdle c acf s).scoutInputs = s.scoutInputs := by
  rw [scoutIdle_eq]
  extract_lets found t
  have ht : t.scoutInputs = s.scoutInputs := (scoutConfirmed_inputs _ found).trans (holdupLeft_inputs s)
  split
  · exact ht
  · rw [scoutSettle_inputs, ht]

/-- What a hold-up that ramps out leaves of what confirms an AC loss: the finding on the bus, and Scout's words. -/
def State.confirmPart (s : State) : Bool × (Fin 65536 → Word) := (s.sct.busLow, s.scoutPart.words)

theorem setSct_confirmPart {v : Sct} (h : v.busLow = s.sct.busLow) : (s.setSct v).confirmPart = s.confirmPart :=
  Prod.ext h rfl

theorem confirmPart_of_scoutPart {s t : State} (h : t.scoutPart = s.scoutPart) : t.confirmPart = s.confirmPart :=
  congrArg (fun p : ScoutPart => (p.sct.busLow, p.words)) h

theorem rampStep_confirmPart (n k : Nat) : (rampStep n k s).confirmPart = s.confirmPart := by
  have hset := setSct_confirmPart s (v := { s.sct with stopped := kvInsert n (some k) s.sct.stopped }) rfl
  unfold rampStep
  extract_lets c t
  split
  · split
    · exact (confirmPart_of_scoutPart (leaveBus_scoutPart t _)).trans hset
    · exact hset
  · exact hset

theorem rampsOut_confirmPart : (rampsOut s).confirmPart = s.confirmPart := by
  refine foldl_field State.confirmPart _ (fun u n => ?_) _ _
  split
  · exact rampStep_confirmPart u n _
  · rfl

theorem holdupLeft_confirmPart : (holdupLeft s).confirmPart = s.confirmPart := by
  unfold holdupLeft
  split
  · rfl
  · rcases holdupRampOut_cases s with h | h
    · rw [h, rampsOut_confirmPart]
    · rw [h]
      exact (setSct_confirmPart _ rfl).trans (rampsOut_confirmPart s)

/-- R251: a bus that was low on two strobes in a row confirms, and with hold-up enabled the update ends in hand-over. -/
theorem scoutIdle_busLow (c acf : Nat) (hen : s.fb Fld.SCT_CFG_HU_EN = true) (hlow : s.sct.busLow = true) :
    scoutIdle c acf s = confirm 1 (holdupLeft s) ∧ (holdupLeft s).fb Fld.SCT_CFG_HU_EN = true := by
  have hpart := holdupLeft_confirmPart s
  have hbus : (holdupLeft s).sct.busLow = true := (congrArg Prod.fst hpart).trans hlow
  have hleft : (holdupLeft s).fb Fld.SCT_CFG_HU_EN = true :=
    (fb_of_fg _ (fg_of_words (congrArg Prod.snd hpart) rfl)).trans hen
  have hfound : (holdupLeft s).confirming acf = some 1 := if_pos hbus
  have hphase : (confirm 1 (holdupLeft s)).phase ≠ phIdle := by
    rw [(confirm_starts _ hleft (by decide)).1]
    decide
  refine ⟨?_, hleft⟩
  rw [scoutIdle_eq, hfound]
  exact if_pos ⟨rfl, hphase⟩

/-! ### The samples and the predictors of an update (R234 to R239) -/

/-- What taking the samples in leaves alone: the finding on the bus, the commits, and every field outside SCT_AC_STAT. -/
structure GatherPart where
  busLow : Bool
  commits : List Group
  fields : Fld → Nat

def State.gatherPart (s : State) : GatherPart :=
  ⟨s.sct.busLow, s.commits, fun f => if f.addr = Fld.SCT_AC_STAT_RMS.addr then 0 else s.fg f⟩

section
variable {s} {t : State} (h : t.gatherPart = s.gatherPart)
include h

theorem busLow_of_gatherPart : t.sct.busLow = s.sct.busLow := congrArg GatherPart.busLow h

theorem commits_of_gatherPart : t.commits = s.commits := congrArg GatherPart.commits h

theorem fg_of_gatherPart {f : Fld} (hf : f.addr ≠ Fld.SCT_AC_STAT_RMS.addr) : t.fg f = s.fg f := by
  have hfield := congrFun (congrArg GatherPart.fields h) f
  simp only [State.gatherPart, if_neg hf] at hfield
  exact hfield

end

theorem setSct_gatherPart {v : Sct} (h : v.busLow = s.sct.busLow) : (s.setSct v).gatherPart = s.gatherPart := by
  simp only [State.gatherPart, setSct_sct, h, setSct_commits, setSct_fg]

theorem fs_gatherPart {f : Fld} (v : Nat) (h : f.addr = Fld.SCT_AC_STAT_RMS.addr) :
    (s.fs f v).gatherPart = s.gatherPart := by
  have hfields : ∀ g : Fld, (if g.addr = Fld.SCT_AC_STAT_RMS.addr then 0 else (s.fs f v).fg g) =
      if g.addr = Fld.SCT_AC_STAT_RMS.addr then 0 else s.fg g := fun g => by
    split
    · rfl
    · next hg => exact fg_fs_addr s f g v (h.symm ▸ hg)
  simp only [State.gatherPart, State.fs_sct, State.fs_commits, hfields]

/-- A sample joins those of one nominal cycle, and the last zero crossing lies `x` samples back. -/
def sampleIn (v : Int) (x : Option Rat) (s : State) : State :=
  s.setSct { s.sct with ac := (v :: s.sct.ac).take (2 * s.halfSamples), cross := x }

/-- R234: what one ACMON sample changes: the samples, the last zero crossing and the deviation of the frequency. -/
theorem acSample_form (v : Int) :
    ∃ x, acSample s v = sampleIn v x s ∨ ∃ d, acSample s v = (sampleIn v x s).fss Fld.SCT_AC_STAT_FDEV d := by
  unfold acSample
  extract_lets t ac
  clear_value t
  split
  · split
    · extract_lets x u
      split
      · split
        · exact ⟨some x, .inr ⟨_, rfl⟩⟩
        · exact ⟨some x, .inl rfl⟩
      · exact ⟨some x, .inl rfl⟩
    · exact ⟨_, .inl rfl⟩
  · exact ⟨_, .inl rfl⟩

theorem sampleIn_gatherPart (v : Int) (x : Option Rat) : (sampleIn v x s).gatherPart = s.gatherPart :=
  setSct_gatherPart s rfl

theorem acSample_gatherPart (v : Int) : (acSample s v).gatherPart = s.gatherPart := by
  obtain ⟨x, h | ⟨d, h⟩⟩ := acSample_form s v
  · rw [h, sampleIn_gatherPart]
  · rw [h, State.fss, fs_gatherPart _ (f := Fld.SCT_AC_STAT_FDEV) _ rfl, sampleIn_gatherPart]

theorem acSample_sct (v : Int) : (acSample s v).sct.acWatch = s.sct.acWatch ∧
    (acSample s v).sct.ac = (v :: s.sct.ac).take (2 * s.halfSamples) := by
  obtain ⟨x, h | ⟨d, h⟩⟩ := acSample_form s v
  · rw [h, sampleIn, setSct_sct]
    exact ⟨rfl, rfl⟩
  · rw [h, State.fss, State.fs_sct, sampleIn, setSct_sct]
    exact ⟨rfl, rfl⟩

theorem halfSamples_congr {s t : State} (hf60 : t.fg Fld.SCT_AC_CFG_F60 = s.fg Fld.SCT_AC_CFG_F60)
    (hwatch : t.sct.acWatch = s.sct.acWatch) : t.halfSamples = s.halfSamples := by
  simp only [State.halfSamples, fb_of_fg _ hf60, hwatch]

/-- R234: the samples of a millisecond join those of one nominal cycle. -/
theorem acSamples_ac (l : List Int) : (l.foldl acSample s).sct.ac =
    l.foldl (fun a v => (v :: a).take (2 * s.halfSamples)) s.sct.ac := by
  induction l generalizing s with
  | nil => rfl
  | cons v r ih =>
    obtain ⟨hwatch, hac⟩ := acSample_sct s v
    have hhalf : (acSample s v).halfSamples = s.halfSamples :=
      halfSamples_congr (fg_of_gatherPart (acSample_gatherPart s v) (by decide)) hwatch
    rw [List.foldl_cons, ih, hhalf, hac, List.foldl_cons]

theorem acFrontEnd_gatherPart : (acFrontEnd s).gatherPart = s.gatherPart := by
  unfold acFrontEnd
  extract_lets w
  split_ifs
  · rfl
  · exact setSct_gatherPart s rfl
  · exact setSct_gatherPart s rfl

theorem acFrontEnd_same (h : s.sct.acWatch = (s.powerState == 1)) : acFrontEnd s = s := if_pos h

/-- An update takes the samples in, and counts. -/
def acSampled (ac : List Int) (s : State) : State :=
  let t := ac.foldl acSample (acFrontEnd (s.setSct { s.sct with sinceP0 := s.sct.sinceP0 + 1 }))
  t.fsat Fld.SCT_AC_STAT_RMS t.acRms

theorem acSampled_gatherPart (ac : List Int) : (acSampled ac s).gatherPart = s.gatherPart := by
  unfold acSampled
  extract_lets c t
  have ht : t.gatherPart = s.gatherPart := (foldl_field State.gatherPart _ acSample_gatherPart _ _).trans
    ((acFrontEnd_gatherPart _).trans (setSct_gatherPart s rfl))
  rw [State.fsat, fs_gatherPart _ (f := Fld.SCT_AC_STAT_RMS) _ rfl, ht]

theorem acSampled_ac (ac : List Int) (h : s.sct.acWatch = (s.powerState == 1)) : (acSampled ac s).sct.ac =
    ac.foldl (fun l v => (v :: l).take (2 * s.halfSamples)) s.sct.ac := by
  have hsame := acFrontEnd_same (s.setSct { s.sct with sinceP0 := s.sct.sinceP0 + 1 }) h
  rw [acSampled, hsame]
  exact acSamples_ac (s.setSct { s.sct with sinceP0 := s.sct.sinceP0 + 1 }) ac

/-- An update takes the balls, the bus and SHARE in, and the predictors follow. -/
def scoutGathered (balls : List (Nat × Nat)) (share : Nat) (s : State) : State :=
  let b := busMean (ballStep balls s).1
  let d := shareStep share b.1
  predUpdate b.2 d.2 d.1

theorem ballStep_keeps (balls : List (Nat × Nat)) :
    (ballStep balls s).1.gatherPart = s.gatherPart ∧ (ballStep balls s).1.sct.ac = s.sct.ac :=
  ⟨setSct_gatherPart s rfl, rfl⟩

theorem busMean_keeps : (busMean s).1.gatherPart = s.gatherPart ∧ (busMean s).1.sct.ac = s.sct.ac := by
  unfold busMean
  extract_lets x c t m c'
  split
  · exact ⟨setSct_gatherPart s rfl, rfl⟩
  · exact ⟨(setSct_gatherPart t rfl).trans (setSct_gatherPart s rfl), rfl⟩

theorem shareStep_keeps (mv : Nat) : (shareStep mv s).1.gatherPart = s.gatherPart ∧ (shareStep mv s).1.sct.ac = s.sct.ac :=
  ⟨setSct_gatherPart s rfl, rfl⟩

theorem predUpdate_keeps (bus : Option Rat) (share : Rat) :
    (predUpdate bus share s).gatherPart = s.gatherPart ∧ (predUpdate bus share s).sct.ac = s.sct.ac := by
  constructor
  · refine foldl_field State.gatherPart _ (fun t e => ?_) _ _
    exact setSct_gatherPart t rfl
  · refine foldl_field (fun t : State => t.sct.ac) _ (fun t e => ?_) _ _
    rfl

theorem scoutGathered_keeps (balls : List (Nat × Nat)) (share : Nat) :
    (scoutGathered balls share s).gatherPart = s.gatherPart ∧ (scoutGathered balls share s).sct.ac = s.sct.ac := by
  unfold scoutGathered
  extract_lets b d
  obtain ⟨hballs, hballsAc⟩ := ballStep_keeps s balls
  obtain ⟨hbus, hbusAc⟩ := busMean_keeps (ballStep balls s).1
  obtain ⟨hshare, hshareAc⟩ := shareStep_keeps b.1 share
  obtain ⟨hpred, hpredAc⟩ := predUpdate_keeps d.1 b.2 d.2
  exact ⟨hpred.trans (hshare.trans (hbus.trans hballs)), hpredAc.trans (hshareAc.trans (hbusAc.trans hballsAc))⟩

/-- R243: H is shown anew; the rest is the converters' work. -/
theorem hUpdate_scoutPart : ∃ m, (hUpdate s).scoutPart = (s.fs Fld.SCT_STAT_H m).scoutPart := by
  unfold hUpdate
  extract_lets h old t u
  have hu : u.scoutPart = t.scoutPart := by
    refine foldl_field State.scoutPart _ (fun v n => ?_) _ _
    split
    · exact shadowLeave_scoutPart v _
    · rfl
  refine ⟨maskOf 8 h.contains, ?_⟩
  split
  · exact (shadowEnterAll_scoutPart u h).trans hu
  · exact hu

/-! ### An update of Scout -/

/-- R63: a commit of Scout's group that waits applies at the update. -/
def scoutCommitted (s : State) : State :=
  if s.cpend .sct then (s.applyStaged .sct).setCommits (s.commits.filter (fun g => !(g == .sct))) else s

/-- What Scout knows at an update. -/
def scoutInformed (ac : List Int) (balls : List (Nat × Nat)) (share : Nat) (s : State) : State :=
  hUpdate (scoutGathered balls share (acSampled ac s))

/-- R240: the confidence of an update, 0 with Scout disabled. -/
def State.confAfter (s : State) : Nat :=
  if s.fb Fld.SCT_CTL_EN then confNext (s.fg Fld.SCT_STAT_CONF) (s.fg Fld.SCT_CFG_DECAY) s.activeWeight else 0

/-- The confidence of the update stands. -/
def confShown (s : State) : State := s.fs Fld.SCT_STAT_CONF s.confAfter

/-- What an update does once its confidence stands: the work of IDLE, or a step of the episode. -/
def scoutActs (c acf : Nat) (s : State) : State :=
  if s.phase = phIdle then scoutIdle c acf s
  else stabilityStep (s.acStable (maskOf 6 (fun p => s.rtUsed p && (s.glitch (8 + p)).seen)))
    (holdupStops (holdupMeter (handoverStep s)))

/-- The end of an update: what the strobes found is used up, and the setpoints are published. -/
def scoutEnd (s : State) : State := publishHlim (publishVref (s.setSct { s.sct with busLow := false, conducts := false }))

theorem scoutUpdate_eq (ac : List Int) (balls : List (Nat × Nat)) (share : Nat) (h : s.powerState ≠ 0) :
    scoutUpdate ac balls share s =
      scoutEnd (scoutActs (scoutInformed ac balls share (scoutCommitted s)).confAfter
        (ballStep balls (acSampled ac (scoutCommitted s))).2 (confShown (scoutInformed ac balls share (scoutCommitted s)))) :=
  if_neg h

/-- What Scout knows leaves the finding on the bus, the commits, and its fields but H and SCT_AC_STAT as they were. -/
theorem scoutInformed_keeps (ac : List Int) (balls : List (Nat × Nat)) (share : Nat) :
    (scoutInformed ac balls share s).sct.ac = (acSampled ac s).sct.ac ∧
      (scoutInformed ac balls share s).sct.busLow = s.sct.busLow ∧
      (scoutInformed ac balls share s).commits = s.commits ∧ ∀ f, ScoutFld f → f.addr ≠ Fld.SCT_AC_STAT_RMS.addr →
        FldApart f Fld.SCT_STAT_H → (scoutInformed ac balls share s).fg f = s.fg f := by
  obtain ⟨hgather, hac⟩ := scoutGathered_keeps (acSampled ac s) balls share
  obtain ⟨m, hpart⟩ := hUpdate_scoutPart (scoutGathered balls share (acSampled ac s))
  have hkept := hgather.trans (acSampled_gatherPart s ac)
  have hsct := sct_of_scoutPart hpart
  refine ⟨?_, ?_, ?_, fun f hf hstat hh => ?_⟩
  · rw [scoutInformed, hsct, State.fs_sct, hac]
  · rw [scoutInformed, hsct, State.fs_sct, busLow_of_gatherPart hkept]
  · rw [scoutInformed, commits_of_scoutPart hpart, State.fs_commits, commits_of_gatherPart hkept]
  · rw [scoutInformed, fg_of_scoutPart hpart hf, fg_fs_other _ _ _ _ (by decide) hh, fg_of_gatherPart hkept hstat]

theorem scoutActs_inputs (c acf : Nat) : (scoutActs c acf s).scoutInputs = s.scoutInputs := by
  unfold scoutActs
  split
  · exact scoutIdle_inputs s c acf
  · rw [stabilityStep_inputs, holdupStops_inputs, holdupMeter_inputs, handoverStep_inputs]

theorem scoutEnd_scoutPart :
    (scoutEnd s).scoutPart = (s.setSct { s.sct with busLow := false, conducts := false }).scoutPart :=
  (publishHlim_scoutPart _).trans (publishVref_scoutPart _)

theorem scoutEnd_inputs : (scoutEnd s).scoutInputs = s.scoutInputs :=
  (inputs_of_scoutPart (scoutEnd_scoutPart s)).trans (setSct_inputs s rfl)

theorem scoutEnd_fg {f : Fld} (hf : ScoutFld f) : (scoutEnd s).fg f = s.fg f := fg_of_scoutPart (scoutEnd_scoutPart s) hf

/-- What an update leaves of its samples, its confidence and the commits. -/
theorem scoutUpdate_leaves (ac : List Int) (balls : List (Nat × Nat)) (share : Nat) (h : s.powerState ≠ 0) :
    (scoutUpdate ac balls share s).sct.ac = (acSampled ac (scoutCommitted s)).sct.ac ∧
      (scoutUpdate ac balls share s).commits = (scoutCommitted s).commits ∧
      (scoutUpdate ac balls share s).fg Fld.SCT_STAT_CONF =
        (scoutInformed ac balls share (scoutCommitted s)).confAfter % 2 ^ Fld.SCT_STAT_CONF.width := by
  obtain ⟨hac, -, hcommits, -⟩ := scoutInformed_keeps (scoutCommitted s) ac balls share
  have hinputs : (scoutUpdate ac balls share s).scoutInputs =
      (confShown (scoutInformed ac balls share (scoutCommitted s))).scoutInputs := by
    rw [scoutUpdate_eq s ac balls share h, scoutEnd_inputs, scoutActs_inputs]
  refine ⟨?_, ?_, ?_⟩
  · rw [ac_of_inputs hinputs, confShown, State.fs_sct, hac]
  · rw [commits_of_inputs hinputs, confShown, State.fs_commits, hcommits]
  · rw [conf_of_inputs hinputs, confShown, fg_fs_same _ _ _ (by decide)]

theorem scoutCommitted_idle (h : s.cpend .sct = false) : scoutCommitted s = s := if_neg (by simp [h])

theorem scoutCommitted_commits (h : s.cpend .sct = true) :
    (scoutCommitted s).commits = s.commits.filter (fun g => !(g == .sct)) := by
  rw [scoutCommitted, if_pos h, setCommits_commits]

theorem confAfter_disabled (h : s.fb Fld.SCT_CTL_EN = false) : s.confAfter = 0 := if_neg (by simp [h])

/-- R251, R252: a bus that was low on two strobes in a row starts the hand-over at the update. -/
theorem scoutUpdate_busLow (ac : List Int) (balls : List (Nat × Nat)) (share : Nat) (h : s.powerState ≠ 0)
    (hcommit : s.cpend .sct = false) (hidle : s.phase = phIdle) (hen : s.fb Fld.SCT_CFG_HU_EN = true)
    (hlow : s.sct.busLow = true) : (scoutUpdate ac balls share s).phase = phHandover ∧
      (scoutUpdate ac balls share s).fg Fld.SCT_CAUSE_CONF = 1 := by
  obtain ⟨-, hbus, -, hfg⟩ := scoutInformed_keeps s ac balls share
  obtain ⟨t, ht⟩ : ∃ t, t = confShown (scoutInformed ac balls share s) := ⟨_, rfl⟩
  have hkept : ∀ f, ScoutFld f → f.addr ≠ Fld.SCT_AC_STAT_RMS.addr → FldApart f Fld.SCT_STAT_H →
      FldApart f Fld.SCT_STAT_CONF → t.fg f = s.fg f := fun f hf hstat hh hconf => by
    rw [ht, confShown, fg_fs_other _ _ _ _ (by decide) hconf, hfg f hf hstat hh]
  have hphase : t.phase = phIdle := (hkept _ rfl (by decide) (by decide) (by decide)).trans hidle
  have hhold : t.fb Fld.SCT_CFG_HU_EN = true :=
    (fb_of_fg _ (hkept _ rfl (by decide) (by decide) (by decide))).trans hen
  have hfound : t.sct.busLow = true := by rw [ht, confShown, State.fs_sct, hbus, hlow]
  obtain ⟨hconfirm, hleft⟩ := scoutIdle_busLow t (scoutInformed ac balls share s).confAfter
    (ballStep balls (acSampled ac s)).2 hhold hfound
  rw [scoutUpdate_eq s ac balls share h, scoutCommitted_idle s hcommit, ← ht, State.phase, scoutEnd_fg _ rfl,
    scoutEnd_fg _ rfl, scoutActs, if_pos hphase, hconfirm]
  exact confirm_starts _ hleft (by decide)

theorem exec_scoutUpdate (ac : List Int) (balls : List (Nat × Nat)) (share : Nat) (hlive : Live s) :
    exec (.scoutUpdate ac balls share) s = .next (finish (scoutUpdate ac balls share s)) := done_next _ hlive

end Sys2Proof.Machine
end

section
/-!
PROOFS. The commands of Scout (R251 to R255, R261 to R267): requests of squashes, the hand-back, and the shadow plans.
-/
namespace Sys2Proof.Machine

variable (s : State)

/-! ### Timeouts, EN and host squashes (R253, R255) -/

theorem squashAsk_asks {n : Nat} (cause : Nat) (hidle : s.phase = phIdle) (hlevel : n < s.level) :
    squashAsk n cause s = s.setSct { s.sct with want := some (n, cause) } := if_neg (by omega)

theorem squashAsk_nothing {n : Nat} (cause : Nat) (h : s.phase ≠ phIdle ∨ s.level ≤ n) : squashAsk n cause s = s :=
  if_pos h

theorem squashAsk_fg (n cause : Nat) (f : Fld) : (squashAsk n cause s).fg f = s.fg f := by
  unfold squashAsk
  split
  · rfl
  · exact setSct_fg s _ f

theorem scoutTimeout_early (h : s.sct.sinceP0 < 100 * s.fg Fld.SCT_CFG_TMO) : scoutTimeout s = s := if_pos h

theorem scoutTimeout_due (h : 100 * s.fg Fld.SCT_CFG_TMO ≤ s.sct.sinceP0) : scoutTimeout s = squashAsk 0 2 s :=
  if_neg (not_lt.2 h)

theorem exec_scoutTimeout (hlive : Live s) : exec .scoutTimeout s = .next (finish (scoutTimeout s)) := done_next _ hlive

/-- R253: with EN cleared the confidence is 0, and an unconfirmed pre-position is to be squashed. -/
theorem scoutDisabled_leaves : (scoutEnable false s).fg Fld.SCT_CTL_EN = 0 ∧
    (scoutEnable false s).fg Fld.SCT_STAT_CONF = 0 ∧
    (s.phase = phIdle → s.level ≠ 0 → (scoutEnable false s).sct.want = some (0, 7)) := by
  have hform : scoutEnable false s = (squashAsk 0 7 (s.fs Fld.SCT_CTL_EN 0)).fs Fld.SCT_STAT_CONF 0 := rfl
  rw [hform]
  refine ⟨?_, fg_fs_of_lt _ _ _ (by decide) (by decide), fun hidle hlevel => ?_⟩
  · rw [fg_fs_addr _ _ _ _ (by decide), squashAsk_fg, fg_fs_of_lt _ _ _ (by decide) (by decide)]
  · have hphase : (s.fs Fld.SCT_CTL_EN 0).phase = phIdle := (fg_fs_addr _ _ _ _ (by decide)).trans hidle
    have hat : (s.fs Fld.SCT_CTL_EN 0).level = s.level := fg_fs_addr _ _ _ _ (by decide)
    rw [squashAsk_asks _ 7 hphase (by omega), State.fs_sct, setSct_sct]

theorem exec_scoutEnableWrite {p : Port} (en : Bool) (hreach : Reach p Reg.SCT_CTL s) : exec (.scoutEnableWrite p en) s =
    .next (finish (respond p stOk 0 (scoutEnable en s))) := done_asWrite s p _ _ hreach.1 hreach.2

theorem exec_scoutSquash {p : Port} (hreach : Reach p Reg.SCT_CTL s) : exec (.scoutSquash p) s =
    .next (finish (respond p stOk 0 (squashAsk 0 5 s))) := done_asWrite s p _ _ hreach.1 hreach.2

/-! ### The hand-back (R261 to R264) -/

theorem handbackStart_starts (h : s.mayHandBack = true) : handbackStart s =
    (trimRampAll (fun p => kvGet (fun _ => 0) s.sct.held p) (100 * s.fg Fld.SCT_HU_CFG_HBRAMP)
      (s.setSct { s.sct with lowN := 0, rampN := 0 })).fs Fld.SCT_STAT_PHASE phHandback := if_neg (by simp [h])

theorem exec_handbackStart (hlive : Live s) : exec .handbackStart s = .next (finish (handbackStart s)) := done_next _ hlive

/-- R264: Scout is idle, the AC is back, and the groups have left the bus. -/
def busReturned (lvl : Nat) (s : State) : State :=
  (s.sct.hold.filterMap s.strGroup).foldl (fun s g => handbackGroup lvl g s)
    ((s.fs Fld.SCT_STAT_PHASE phIdle).setOrd { s.ord with acOut := false })

/-- R264: the hold-up is forgotten, and the trims that were held are shared again. -/
def holdupForgotten (s : State) : State :=
  let s := s.setSct { s.sct with hold := [], stopped := [], b0 := [], f0 := [] }
  (s.setCnv { s.cnv with share := s.sct.held }).flowExit

theorem handbackComplete_ends (hphase : s.phase = phHandback) (hdone : 100 ≤ s.sct.lowN ∨ 1000 ≤ s.sct.rampN) :
    ∃ lvl, handbackComplete s = setLevel lvl (holdupForgotten (busReturned lvl s)) := by
  have hends : ¬ (s.phase ≠ phHandback ∨ (s.sct.lowN < 100 ∧ s.sct.rampN < 1000)) := by omega
  exact ⟨_, if_neg hends⟩

theorem busReturned_leaves (lvl : Nat) :
    (busReturned lvl s).phase = phIdle ∧ (busReturned lvl s).ord.acOut = false := by
  have hpart : (busReturned lvl s).scoutPart =
      ((s.fs Fld.SCT_STAT_PHASE phIdle).setOrd { s.ord with acOut := false }).scoutPart :=
    foldl_field State.scoutPart _ (fun v g => handbackGroup_scoutPart v lvl g) _ _
  rw [State.phase, fg_of_scoutPart hpart rfl, ord_of_scoutPart hpart, setOrd_ord]
  exact ⟨fg_fs_of_lt s _ _ (by decide) (by decide), rfl⟩

theorem holdupForgotten_leaves : (holdupForgotten s).phase = s.phase ∧ (holdupForgotten s).ord = s.ord ∧
    (holdupForgotten s).sct.hold = [] := by
  unfold holdupForgotten
  extract_lets c t
  have hpart : (t.setCnv { t.cnv with share := t.sct.held }).flowExit.scoutPart = t.scoutPart := flowExit_scoutPart _
  rw [State.phase, fg_of_scoutPart hpart rfl, ord_of_scoutPart hpart, sct_of_scoutPart hpart]
  exact ⟨rfl, rfl, rfl⟩

/-- R264: what the end of a hand-back leaves. -/
theorem handbackComplete_leaves (hphase : s.phase = phHandback) (hdone : 100 ≤ s.sct.lowN ∨ 1000 ≤ s.sct.rampN) :
    (handbackComplete s).phase = phIdle ∧ (handbackComplete s).ord.acOut = false ∧ (handbackComplete s).sct.hold = [] := by
  obtain ⟨lvl, hform⟩ := handbackComplete_ends s hphase hdone
  obtain ⟨hidle, hout⟩ := busReturned_leaves s lvl
  obtain ⟨t, ht⟩ : ∃ t, t = holdupForgotten (busReturned lvl s) := ⟨_, rfl⟩
  obtain ⟨hkept, hord, hhold⟩ := holdupForgotten_leaves (busReturned lvl s)
  have hpart := setLevel_levelPart t lvl
  rw [← ht] at hform hkept hord hhold
  rw [hform, ord_of_levelPart hpart, hold_of_levelPart hpart, State.phase, setLevel_fg _ rfl _ (by decide) (by decide), hord]
  exact ⟨hkept.trans hidle, hout, hhold⟩

theorem exec_handbackComplete (hlive : Live s) : exec .handbackComplete s = .next (finish (handbackComplete s)) :=
  done_next _ hlive

/-! ### Shadow plans (R265 to R267) -/

theorem maskOf_congr {n : Nat} {p q : Nat → Bool} (h : ∀ i < n, p i = q i) : maskOf n p = maskOf n q :=
  List.foldl_ext _ _ _ fun m i hi => by rw [h i (List.mem_range.1 hi)]

theorem kvGet_map_self {α : Type} (d : Nat → α) (f : Nat → α) {l : List Nat} {n : Nat} (h : n ∈ l) :
    kvGet d (l.map fun m => (m, f m)) n = f n := by
  induction l with
  | nil => exact absurd h List.not_mem_nil
  | cons m r ih =>
    rw [List.map_cons, kvGet]
    split
    · next heq => rw [heq]
    · next hne => exact ih ((List.mem_cons.1 h).resolve_left fun heq => hne heq.symm)

theorem mem_strings {n : Nat} (h : n < 8) : n ∈ s.strings ↔ s.strUsed n = true := by
  simp [State.strings, State.strUsed, h]

/-- The plan of one string as it is kept. -/
def planKept (s : State) (n : Nat) : Option ShadowPlan :=
  some ⟨s.ord.ver, (shadowPlan s n).1, (shadowPlan s n).2.map (fun o => (o.id, o.seq))⟩

/-- The plans stand, one for each string in use. -/
def plansKept (s : State) : State := s.setOrd { s.ord with plans := s.strings.map fun n => (n, planKept s n) }

/-- The strings with an order that no plan fits. -/
def gapMask (s : State) : Nat := maskOf 8 fun n => s.strUsed n && !(shadowPlan s n).2.isEmpty

theorem shadowPlans_eq : shadowPlans s = showPlans (maskOf 8 s.strUsed) (gapMask s) (plansKept s) := by
  unfold shadowPlans
  extract_lets ps o t
  have hplans : t = plansKept s := by
    simp only [t, o, ps, plansKept, List.map_map]
    rfl
  have hgap : maskOf 8 (fun n => ps.any fun x => x.1 == n && !x.2.2.isEmpty) = gapMask s := by
    refine maskOf_congr fun n hn => ?_
    rw [Bool.eq_iff_iff, Bool.and_eq_true, ← mem_strings s hn]
    simp [ps]
  rw [hplans, hgap]

theorem showPlans_shows {valid gap : Nat} (hvalid : valid < 2 ^ 8) (hgap : gap < 2 ^ 8) :
    (showPlans valid gap s).fg Fld.SCT_PLAN_VALID = valid ∧ (showPlans valid gap s).fg Fld.SCT_PLAN_GAP = gap := by
  unfold showPlans
  split
  · next hsame => exact ⟨hsame.1.symm, hsame.2.symm⟩
  · rw [raise_fg, raise_fg, fg_fs_other _ _ _ _ (by decide) (by decide), fg_fs_of_lt _ _ _ (by decide) hvalid,
      fg_fs_of_lt _ _ _ (by decide) hgap]
    exact ⟨rfl, rfl⟩

/-- R265: the strings in use show their plans, and those with a gap. -/
theorem shadowPlans_shows : (shadowPlans s).fg Fld.SCT_PLAN_VALID = maskOf 8 s.strUsed ∧
    (shadowPlans s).fg Fld.SCT_PLAN_GAP = gapMask s := by
  rw [shadowPlans_eq]
  exact showPlans_shows _ (maskOf_lt 8 _) (maskOf_lt 8 _)

/-- R265, R266: a string in use has the plan just computed, of the schedule in force. -/
theorem shadowPlans_plan {n : Nat} (h : n ∈ s.strings) : (shadowPlans s).shadowPlan n = planKept s n := by
  rw [shadowPlans_eq, State.shadowPlan, showPlans_ord, plansKept, setOrd_ord, kvGet_map_self _ _ h]
  simp [planKept]

theorem exec_shadowPlanRecompute (hlive : Live s) : exec .shadowPlanRecompute s = .next (finish (shadowPlans s)) :=
  done_next _ hlive

/-! ### The statement -/

/-- Settles O33: an update through what each of its steps keeps, every other command by its case. -/
theorem scoutMoves : Obligations.ScoutMoves := by
  refine ⟨?update, ?squash, ?early, ?start, ?complete, ?host, ?plans⟩
  case update =>
    intro ac balls share s hlive hpower
    obtain ⟨hac, hcommits, hconf⟩ := scoutUpdate_leaves s ac balls share hpower
    refine ⟨_, exec_scoutUpdate s ac balls share hlive, fun hcommit hwatch => ?_, fun hcommit hen => ?_, fun hcommit => ?_,
      fun hcommit hidle hen hlow => scoutUpdate_busLow s ac balls share hpower hcommit hidle hen hlow⟩
    · rw [hac, scoutCommitted_idle s hcommit, acSampled_ac s ac hwatch]
    · obtain ⟨-, -, -, hfg⟩ := scoutInformed_keeps s ac balls share
      have hoff : (scoutInformed ac balls share s).fb Fld.SCT_CTL_EN = false :=
        (fb_of_fg _ (hfg _ rfl (by decide) (by decide))).trans hen
      rw [hconf, scoutCommitted_idle s hcommit, confAfter_disabled _ hoff, Nat.zero_mod]
    · rw [hcommits, scoutCommitted_commits s hcommit]
  case squash =>
    intro s hlive hidle hlevel
    refine ⟨fun hdue => ?_, fun cause hwant => squashWanted_leaves s hidle hlevel hwant⟩
    rw [exec_scoutTimeout s hlive, scoutTimeout_due s hdue, squashAsk_asks s 2 hidle (Nat.pos_of_ne_zero hlevel)]
  case early =>
    intro s hlive hearly
    rw [exec_scoutTimeout s hlive, scoutTimeout_early s hearly]
  case start =>
    intro s hlive hmay
    rw [exec_handbackStart s hlive, handbackStart_starts s hmay]
  case complete =>
    intro s hlive hphase hdone
    exact ⟨_, exec_handbackComplete s hlive, handbackComplete_leaves s hphase hdone⟩
  case host =>
    intro p s hreach
    refine ⟨exec_scoutEnableWrite s true hreach, ⟨_, exec_scoutEnableWrite s false hreach, scoutDisabled_leaves s⟩,
      fun hidle hlevel => ?_, fun hnothing => ?_⟩
    · rw [exec_scoutSquash s hreach, squashAsk_asks s 5 hidle (Nat.pos_of_ne_zero hlevel)]
    · rw [exec_scoutSquash s hreach, squashAsk_nothing s 5 (hnothing.imp_right Nat.le_of_eq)]
  case plans =>
    intro s hlive
    obtain ⟨hvalid, hgap⟩ := shadowPlans_shows s
    exact ⟨_, exec_shadowPlanRecompute s hlive, hvalid, hgap, fun n hn => ⟨_, shadowPlans_plan s hn, rfl⟩⟩

end Sys2Proof.Machine
end

section
/-!
PROOFS. What the proofs about the converters share: the facts of a group that its image fixes, and what the updates of a
group's own data and of the published setpoints leave.
-/
namespace Sys2Proof.Machine

variable (s : State)

/-! ### What the image fixes (R77, R271) -/

section
variable {s} {t : State} (h : t.image = s.image)
include h

theorem sec_of_image (ty : Nat) : t.sec ty = s.sec ty := by
  unfold State.sec
  rw [h]

theorem grpType_of_image (g : Nat) : t.grpType g = s.grpType g := by
  unfold State.grpType
  rw [sec_of_image h]

theorem grpInner_of_image (g : Nat) : t.grpInner g = s.grpInner g := by
  unfold State.grpInner
  rw [sec_of_image h]

theorem grpPhRating_of_image (g : Nat) : t.grpPhRating g = s.grpPhRating g := by
  unfold State.grpPhRating
  rw [sec_of_image h]

theorem phases_of_image (g : Nat) : t.phases g = s.phases g := by
  unfold State.phases State.grpMask
  rw [sec_of_image h]

theorem rtUsed_of_image (p : Nat) : t.rtUsed p = s.rtUsed p := by
  unfold State.rtUsed
  rw [sec_of_image h]

end

/-! ### Groups and published setpoints -/

@[simp] theorem setCnv_fg (v : Cnv) (f : Fld) : (s.setCnv v).fg f = s.fg f := (rfl)
@[simp] theorem setGrp_fg (g : Nat) (v : Grp) (f : Fld) : (s.setGrp g v).fg f = s.fg f := (rfl)
@[simp] theorem setGrp_rd (g : Nat) (v : Grp) (a : Nat) : (s.setGrp g v).rd a = s.rd a := (rfl)
@[simp] theorem setGrp_image (g : Nat) (v : Grp) : (s.setGrp g v).image = s.image := (rfl)
@[simp] theorem pubSet_fg (i : Nat) (v : Int) (f : Fld) : (s.pubSet i v).fg f = s.fg f := (rfl)
@[simp] theorem fs_grp (f : Fld) (v g : Nat) : (s.fs f v).grp g = s.grp g := (rfl)
@[simp] theorem fs_pubGet (f : Fld) (v i : Nat) : (s.fs f v).pubGet i = s.pubGet i := (rfl)
@[simp] theorem wr_pubGet (a : Nat) (v : Word) (i : Nat) : (s.wr a v).pubGet i = s.pubGet i := (rfl)

theorem setGrp_regs (g : Nat) (v : Grp) : (s.setGrp g v).regs = s.regs := (rfl)
theorem pubSet_regs (i : Nat) (v : Int) : (s.pubSet i v).regs = s.regs := (rfl)
theorem pubSet_cnv (i : Nat) (v : Int) : (s.pubSet i v).cnv = s.cnv := (rfl)

theorem grp_setGrp (g j : Nat) (v : Grp) : (s.setGrp g v).grp j = if j = g then v else s.grp j := kvGet_set _ _ _ _ _

theorem pubGet_pubSet (i j : Nat) (v : Int) : (s.pubSet i v).pubGet j = if j = i then v else s.pubGet j :=
  kvGet_set _ _ _ _ _

@[simp] theorem removal_fg (r : Removal) (f : Fld) : (s.removal r).fg f = s.fg f := by
  unfold State.removal
  split <;> rfl

@[simp] theorem removal_cnv (r : Removal) : (s.removal r).cnv = s.cnv := by
  unfold State.removal
  split <;> rfl

/-! ### Folds that bring something about -/

/-- What one entry of the list brings about, and no other undoes, holds at the end. -/
theorem foldl_establishes {α β : Type} [DecidableEq α] (P Q : β → Prop) (f : β → α → β) {l : List α} {a : α}
    (ha : a ∈ l) (hkeep : ∀ b m, P b → P (f b m)) (hat : ∀ b, P b → Q (f b a))
    (hother : ∀ b m, m ≠ a → Q b → Q (f b m)) {b : β} (hb : P b) : Q (l.foldl f b) := by
  have hstays : ∀ (r : List α) (c : β), P c → Q c → Q (r.foldl f c) := by
    intro r
    induction r with
    | nil => exact fun c _ hc => hc
    | cons m r ih =>
      intro c hp hc
      refine ih _ (hkeep c m hp) ?_
      by_cases hm : m = a
      · exact hm ▸ hat c hp
      · exact hother c m hm hc
  induction l generalizing b with
  | nil => exact absurd ha List.not_mem_nil
  | cons m r ih =>
    rcases List.mem_cons.1 ha with heq | hr
    · subst heq
      exact hstays r _ (hkeep b a hb) (hat b hb)
    · exact ih hr (hkeep b m hb)

end Sys2Proof.Machine
end

section
/-!
PROOFS. A PWM period start (R271, R272): what the work of a period keeps of the words that its on-times are made of, and
what every phase latches from them.
-/
namespace Sys2Proof.Machine

variable (s : State)

/-! ### An on-time within its period (R272) -/

theorem ratRound_toNat_le {r : Rat} {p : Nat} (h0 : 0 ≤ r) (h : r ≤ p) : (ratRound r).toNat ≤ p := by
  have hnum : (r.num : Rat) ≤ r.den * p := by
    rw [← Rat.mul_den_eq_num, mul_comm]
    exact mul_le_mul_of_nonneg_left h (by positivity)
  have hnat : r.num ≤ r.den * p := by exact_mod_cast hnum
  have hpos : 0 ≤ r.num := Rat.num_nonneg.2 h0
  have hround : (ratRound r).natAbs ≤ p := divRound_bounds r.den_pos (by zify; rwa [abs_of_nonneg hpos])
  omega

theorem onTime_le (u t : Int) (dmin dmax p : Nat) : onTime u t dmin dmax p ≤ p := by
  unfold onTime
  extract_lets d x
  have hshare : max 0 (min 1 x) ≤ 1 := max_le zero_le_one (min_le_left _ _)
  exact ratRound_toNat_le (mul_nonneg (le_max_left _ _) p.cast_nonneg) (mul_le_of_le_one_left p.cast_nonneg hshare)

/-! ### What the work of a period keeps -/

/-- What the latched duties rest on beside trims and the period: the image, the group's duty limits and the tiles. -/
structure LatchPart where
  image : Option Image
  limits : Word
  duties : Nat → Word

def State.latchPart (s : State) (g : Nat) : LatchPart :=
  ⟨s.image, s.rd (Fld.CNV_CG_DLIM_DMIN g).addr, fun n => s.rd (Reg.CMB_T_OUT0 n)⟩

section
variable {s} {t : State} {g : Nat} (h : t.latchPart g = s.latchPart g)
include h

theorem image_of_latchPart : t.image = s.image := congrArg LatchPart.image h

theorem dmin_of_latchPart : t.fg (Fld.CNV_CG_DLIM_DMIN g) = s.fg (Fld.CNV_CG_DLIM_DMIN g) :=
  fg_of_rd (congrArg LatchPart.limits h)

theorem dmax_of_latchPart : t.fg (Fld.CNV_CG_DLIM_DMAX g) = s.fg (Fld.CNV_CG_DLIM_DMAX g) :=
  fg_of_rd (congrArg LatchPart.limits h)

theorem duty_of_latchPart (n : Nat) : t.rd (Reg.CMB_T_OUT0 n) = s.rd (Reg.CMB_T_OUT0 n) :=
  congrFun (congrArg LatchPart.duties h) n

end

/-- A word that the work of a period may change: one below the tiles, and not the group's duty limits. -/
def PeriodWord (g a : Nat) : Prop := a < 0x200000 ∧ a ≠ (Fld.CNV_CG_DLIM_DMIN g).addr

theorem wr_latchPart {g a : Nat} (v : Word) (h : PeriodWord g a) : (s.wr a v).latchPart g = s.latchPart g := by
  obtain ⟨hlow, hlim⟩ := h
  have hduty : ∀ n, (s.wr a v).rd (Reg.CMB_T_OUT0 n) = s.rd (Reg.CMB_T_OUT0 n) := fun n =>
    rd_wr_other _ _ _ _ (by unfold Reg.CMB_T_OUT0; omega)
  simp only [State.latchPart, hduty, rd_wr_other s a _ v hlim.symm, State.wr_image]

theorem setGrp_latchPart (g m : Nat) (v : Grp) : (s.setGrp m v).latchPart g = s.latchPart g := (rfl)
theorem setChgG_latchPart (g m : Nat) (v : ChgG) : (s.setChgG m v).latchPart g = s.latchPart g := (rfl)
theorem setSct_latchPart (g : Nat) (v : Sct) : (s.setSct v).latchPart g = s.latchPart g := (rfl)
theorem pubSet_latchPart (g i : Nat) (v : Int) : (s.pubSet i v).latchPart g = s.latchPart g := (rfl)

/-- The words of a group's state, flags and period are not its duty limits. -/
theorem periodWord_group {g : Nat} (hg : g < 12) {f : Fld} (h : f.addr = (Fld.CNV_CG_STAT_MODE g).addr ∨
    f.addr = (Fld.CNV_CG_FLAG_OCP g).addr ∨ f.addr = (Fld.CNV_CG_PER_P g).addr) : PeriodWord g f.addr := by
  simp only [Fld.CNV_CG_STAT_MODE, Fld.CNV_CG_FLAG_OCP, Fld.CNV_CG_PER_P] at h
  simp only [PeriodWord, Fld.CNV_CG_DLIM_DMIN]
  omega

/-- Nor are the words of a phase. -/
theorem periodWord_phase {g n : Nat} (hg : g < 12) (hn : n < 32) :
    PeriodWord g (Reg.CNV_PH_ON n) ∧ PeriodWord g (Reg.CNV_PH_OFS n) ∧ PeriodWord g (Reg.CNV_PH_TRIM n) ∧
      PeriodWord g (Reg.CNV_PH_ISNS n) := by
  simp only [PeriodWord, Reg.CNV_PH_ON, Reg.CNV_PH_OFS, Reg.CNV_PH_TRIM, Reg.CNV_PH_ISNS, Fld.CNV_CG_DLIM_DMIN]
  omega

theorem phases_getD_lt (g k : Nat) : (s.phases g).getD k 0 < 32 := by
  rw [List.getD_eq_getElem?_getD]
  cases hget : (s.phases g)[k]? with
  | none => decide
  | some n => exact List.mem_range.1 (List.mem_of_mem_filter (List.mem_of_getElem? hget))

theorem phases_getD_inj {g k m : Nat} (hk : k < (s.phases g).length) (hm : m < (s.phases g).length) (h : m ≠ k) :
    (s.phases g).getD m 0 ≠ (s.phases g).getD k 0 := by
  have hnodup : (s.phases g).Nodup := List.nodup_range.filter _
  rw [List.getD_eq_getElem _ _ hk, List.getD_eq_getElem _ _ hm]
  exact fun heq => h ((hnodup.getElem_inj_iff).1 heq)

section
variable {g : Nat} (hg : g < 12)
include hg

theorem fs_stat_latchPart {f : Fld} (v : Nat) (h : f.addr = (Fld.CNV_CG_STAT_MODE g).addr) :
    (s.fs f v).latchPart g = s.latchPart g := wr_latchPart s _ (periodWord_group hg (.inl h))

theorem fs_flag_latchPart {f : Fld} (v : Nat) (h : f.addr = (Fld.CNV_CG_FLAG_OCP g).addr) :
    (s.fs f v).latchPart g = s.latchPart g := wr_latchPart s _ (periodWord_group hg (.inr (.inl h)))

theorem fs_per_latchPart (v : Nat) : (s.fs (Fld.CNV_CG_PER_P g) v).latchPart g = s.latchPart g :=
  wr_latchPart s _ (periodWord_group hg (.inr (.inr rfl)))

theorem senseRegs_latchPart (means : List Int) : (senseRegs g means s).latchPart g = s.latchPart g := by
  unfold senseRegs
  extract_lets ph r t
  have ht : t.latchPart g = s.latchPart g := foldl_field (fun t : State => t.latchPart g) _ (fun t k => by
    obtain ⟨-, -, -, hisns⟩ := periodWord_phase hg (phases_getD_lt s g k)
    exact wr_latchPart t _ hisns) _ _
  rw [State.fss, fs_stat_latchPart t hg _ (by rfl), ht]

theorem envelopeStep_latchPart (p : Nat) : (envelopeStep g p s).latchPart g = s.latchPart g := by
  unfold envelopeStep
  extract_lets x ss env t
  have ht : t.latchPart g = s.latchPart g := by rw [pubSet_latchPart, pubSet_latchPart, setGrp_latchPart]
  split
  · rw [fs_stat_latchPart t hg 0 (by rfl), ht]
  · exact ht

theorem brakeEnd_latchPart (sum : Int) : (brakeEnd g sum s).latchPart g = s.latchPart g := by
  unfold brakeEnd
  extract_lets x n byMax
  split_ifs
  · rfl
  · rw [fs_stat_latchPart _ hg _ (by rfl), setGrp_latchPart]
  · rw [fs_flag_latchPart _ hg _ (by rfl), fs_stat_latchPart _ hg _ (by rfl), setGrp_latchPart]
  · exact setGrp_latchPart s _ _ _

theorem syncStep_latchPart (edges : List Nat) : (syncStep g edges s).latchPart g = s.latchPart g := by
  unfold syncStep
  extract_lets per p div x follow
  split
  · exact setGrp_latchPart s _ _ _
  · split
    · rw [setGrp_latchPart, fs_per_latchPart _ hg]
    · split
      · extract_lets n t
        have ht : t.latchPart g = s.latchPart g := by rw [setGrp_latchPart, fs_per_latchPart _ hg]
        split
        · rw [fs_stat_latchPart _ hg _ (by rfl), ht]
        · exact ht
      · rw [setGrp_latchPart, fs_per_latchPart _ hg, fs_flag_latchPart _ hg _ (by rfl)]

theorem balanceStep_latchPart (means : List Int) : (balanceStep g means s).latchPart g = s.latchPart g := by
  unfold balanceStep
  extract_lets ty ph legs old new x stayed balN t _ u
  have ht : t.latchPart g = s.latchPart g := foldl_field (fun t : State => t.latchPart g) _ (fun t k => by
    obtain ⟨-, -, htrim, -⟩ := periodWord_phase hg (phases_getD_lt s g k)
    exact wr_latchPart t _ htrim) _ _
  have hu : u.latchPart g = s.latchPart g := (setGrp_latchPart t g g _).trans ht
  split
  · rw [fs_flag_latchPart _ hg _ (by rfl), hu]
  · exact hu

end

theorem ovStep_latchPart (g : Nat) : (ovStep g s).latchPart g = s.latchPart g := by
  unfold ovStep
  split
  · rfl
  · exact setChgG_latchPart s g g _

theorem rampPref_latchPart (g p : Nat) : (rampPref g p s).latchPart g = s.latchPart g := by
  unfold rampPref
  extract_lets x
  split
  · rfl
  · rw [setGrp_latchPart, pubSet_latchPart]

/-! ### The duties are latched (R271, R272) -/

/-- The words that a phase latches: its on-time and its place in the period. -/
def State.latched (s : State) (n : Nat) : Word × Word := (s.rd (Reg.CNV_PH_ON n), s.rd (Reg.CNV_PH_OFS n))

/-- What phase number `k` of the group's phases `ph` latches for a period of `p` fine units. -/
def dutyOf (g p : Nat) (ph : List Nat) (k : Nat) (s : State) : Word × Word :=
  (BitVec.ofNat 32 (onTime (s.rd (Reg.CMB_T_OUT0 (s.grpInner g + k))).toInt (s.rd (Reg.CNV_PH_TRIM (ph.getD k 0))).toInt
    (s.fg (Fld.CNV_CG_DLIM_DMIN g)) (s.fg (Fld.CNV_CG_DLIM_DMAX g)) p),
   BitVec.ofNat 32 (phaseOffset (s.grpType g) ph.length k p))

/-- One phase latches its duty. -/
def latchPhase (g p : Nat) (ph : List Nat) (s : State) (k : Nat) : State :=
  (s.wr (Reg.CNV_PH_ON (ph.getD k 0)) (dutyOf g p ph k s).1).wr (Reg.CNV_PH_OFS (ph.getD k 0)) (dutyOf g p ph k s).2

theorem latchDuties_eq (g : Nat) : latchDuties g s =
    (List.range (s.phases g).length).foldl (latchPhase g (s.fg (Fld.CNV_CG_PER_P g)) (s.phases g)) s := rfl

theorem dutyOf_congr {s t : State} {g : Nat} (p : Nat) (ph : List Nat) (k : Nat) (h : t.latchPart g = s.latchPart g)
    (htrim : ∀ n, t.rd (Reg.CNV_PH_TRIM n) = s.rd (Reg.CNV_PH_TRIM n)) : dutyOf g p ph k t = dutyOf g p ph k s := by
  have himage := image_of_latchPart h
  simp only [dutyOf, grpInner_of_image himage, grpType_of_image himage, dmin_of_latchPart h,
    dmax_of_latchPart h, duty_of_latchPart h, htrim]

section
variable (g p k : Nat) (ph : List Nat)

theorem latchPhase_rd {a : Nat} (hon : a ≠ Reg.CNV_PH_ON (ph.getD k 0)) (hofs : a ≠ Reg.CNV_PH_OFS (ph.getD k 0)) :
    (latchPhase g p ph s k).rd a = s.rd a :=
  (rd_wr_other _ _ _ _ hofs).trans (rd_wr_other _ _ _ _ hon)

theorem latchPhase_same : (latchPhase g p ph s k).latched (ph.getD k 0) = dutyOf g p ph k s := by
  refine Prod.ext ?_ (rd_wr_same _ _ _)
  exact (rd_wr_other _ _ _ _ (by unfold Reg.CNV_PH_ON Reg.CNV_PH_OFS; omega)).trans (rd_wr_same _ _ _)

theorem latchPhase_other {n : Nat} (h : ph.getD k 0 ≠ n) : (latchPhase g p ph s k).latched n = s.latched n := by
  refine Prod.ext (latchPhase_rd s g p k ph ?_ ?_) (latchPhase_rd s g p k ph ?_ ?_) <;>
    simp only [Reg.CNV_PH_ON, Reg.CNV_PH_OFS] <;> omega

theorem latchPhase_trim (n : Nat) : (latchPhase g p ph s k).rd (Reg.CNV_PH_TRIM n) = s.rd (Reg.CNV_PH_TRIM n) := by
  apply latchPhase_rd <;> simp only [Reg.CNV_PH_TRIM, Reg.CNV_PH_ON, Reg.CNV_PH_OFS] <;> omega

theorem latchPhase_per (hg : g < 12) :
    (latchPhase g p ph s k).fg (Fld.CNV_CG_PER_P g) = s.fg (Fld.CNV_CG_PER_P g) := by
  have hper : (Fld.CNV_CG_PER_P g).addr < 0x140800 := by simp only [Fld.CNV_CG_PER_P]; omega
  exact fg_of_rd (latchPhase_rd s g p k ph (by unfold Reg.CNV_PH_ON; omega) (by unfold Reg.CNV_PH_OFS; omega))

theorem latchPhase_latchPart (t : State) (hg : g < 12) :
    (latchPhase g p (s.phases g) t k).latchPart g = t.latchPart g := by
  obtain ⟨hon, hofs, -, -⟩ := periodWord_phase hg (phases_getD_lt s g k)
  exact (wr_latchPart _ _ hofs).trans (wr_latchPart _ _ hon)

end

theorem latchDuties_trim (g n : Nat) : (latchDuties g s).rd (Reg.CNV_PH_TRIM n) = s.rd (Reg.CNV_PH_TRIM n) :=
  foldl_field (fun t : State => t.rd (Reg.CNV_PH_TRIM n)) _ (fun t k => latchPhase_trim t g _ k _ n) _ s

theorem latchDuties_per {g : Nat} (hg : g < 12) :
    (latchDuties g s).fg (Fld.CNV_CG_PER_P g) = s.fg (Fld.CNV_CG_PER_P g) :=
  foldl_field (fun t : State => t.fg (Fld.CNV_CG_PER_P g)) _ (fun t k => latchPhase_per t g _ k _ hg) _ s

/-- R271, R272: a phase's own step is the only one that changes what it latches, and the steps before leave what that
rests on. -/
theorem latchDuties_latched {g k : Nat} (hg : g < 12) (hk : k < (s.phases g).length) :
    (latchDuties g s).latched ((s.phases g).getD k 0) =
      dutyOf g (s.fg (Fld.CNV_CG_PER_P g)) (s.phases g) k s := by
  rw [latchDuties_eq, foldl_range_at (fun t : State => t.latched ((s.phases g).getD k 0)) _ hk fun t m hm hne =>
    latchPhase_other t g _ m _ (phases_getD_inj s hk hm hne), latchPhase_same]
  refine dutyOf_congr _ _ _ ?_ fun n => ?_
  · exact foldl_field (fun t : State => t.latchPart g) _ (fun t m => latchPhase_latchPart s g _ m t hg) _ s
  · exact foldl_field (fun t : State => t.rd (Reg.CNV_PH_TRIM n)) _ (fun t m => latchPhase_trim t g _ m _ n) _ s

/-! ### A period start that goes on (R272) -/

/-- R272: the duties are latched last, and the work before keeps what they rest on. -/
theorem periodStart_latches {g : Nat} (hg : g < 12) (cs : List (List Int)) (bus : Int) (edges : List Nat)
    (hcommit : s.cpend (.cnvGroup g) = false) (hmode : s.mode g ≠ 0) (hclk : s.sysclkOk = true)
    (hstop : (s.grp g).shadowStop = false) (hstage : (s.grp g).stage = 3) :
    ∃ t, periodStart g cs bus edges s = latchDuties g t ∧ t.latchPart g = s.latchPart g := by
  unfold periodStart
  extract_lets v x means first p tails zeroed begun y released sensed risen ramped braked synced balanced z low
    out n _ counted
  have hv : v = s := if_neg (by simp [hcommit])
  rw [if_neg (by simp [hv, hmode, hclk]), if_neg (by simp [x, hv, hstop]), if_neg (by simp [x, hv, hstage])]
  refine ⟨_, rfl, ?_⟩
  have hbegun : begun = s := (if_neg (by simp [first, x, hv, hstage])).trans hv
  have hreleased : released.latchPart g = s.latchPart g := by
    rw [← hbegun]
    unfold released
    split
    · exact setGrp_latchPart begun g g _
    · rfl
  have hsensed : sensed.latchPart g = s.latchPart g := by
    rw [ovStep_latchPart, senseRegs_latchPart _ hg, hreleased]
  have hrisen : risen.latchPart g = s.latchPart g := by
    unfold risen
    split
    · exact hsensed
    · rw [envelopeStep_latchPart _ hg, hsensed]
  have hsynced : synced.latchPart g = s.latchPart g := by
    rw [syncStep_latchPart _ hg, brakeEnd_latchPart _ hg, rampPref_latchPart, hrisen]
  have hbalanced : balanced.latchPart g = s.latchPart g := by
    unfold balanced
    split
    · exact hsynced
    · rw [balanceStep_latchPart _ hg, hsynced]
  have hcounted : counted.latchPart g = s.latchPart g := by
    rw [← hbalanced]
    unfold counted
    split
    · exact setSct_latchPart balanced g _
    · rfl
  rw [setGrp_latchPart, hcounted]

/-- Settles O35: the latch shows the duties of the state that it starts from, whose image, limits and tiles are still
those of the period's start. -/
theorem periodLatchesDuties : Obligations.PeriodLatchesDuties := by
  refine ⟨fun g cs bus edges s hlive hcommit hmode hclk hstop hstage => ?_, onTime_le⟩
  obtain ⟨t, hform, hpart⟩ := periodStart_latches s g.isLt cs bus edges hcommit hmode hclk hstop hstage
  have himage := image_of_latchPart hpart
  refine ⟨latchDuties g t, ?_, fun k hk => ?_⟩
  · rw [← hform]
    exact done_next _ hlive
  · rw [← phases_of_image himage] at hk ⊢
    have hlatched := latchDuties_latched t g.isLt hk
    obtain ⟨hon, hofs⟩ := Prod.ext_iff.1 hlatched
    dsimp only
    rw [latchDuties_trim, latchDuties_per t g.isLt, ← dmin_of_latchPart hpart, ← dmax_of_latchPart hpart,
      ← grpInner_of_image himage, ← grpType_of_image himage, ← duty_of_latchPart hpart]
    exact ⟨hon, hofs⟩

end Sys2Proof.Machine
end

section
/-!
PROOFS. Starts and stops of converter groups (R281, R283, R284, R287): what each command does in each of its cases, and
what a stop without a ramp leaves.
-/
namespace Sys2Proof.Machine

variable (s : State) {g : Nat}

/-! ### Start (R281, R287) -/

/-- R281 step 1: the group's driver is biased, in its owner's mode and with its period from the image. -/
def groupBegun (g m : Nat) (s : State) : State :=
  let s := ((s.setMode g m).setGrp g { grp0 with stage := 1 }).fs (Fld.CNV_CG_STAT_SOFT g) 1
  let s := s.fs (Fld.CNV_CG_PER_P g) (32 * s.fg (Fld.CNV_CG_CFG_PER g))
  if m = modeShadow then s else s.flowEnter

section
variable {s} {m : Nat} (hm : m ≠ modeCharge)
include hm

theorem groupStart_ignored (h : s.grpType g ≠ 1 ∨ s.mode g ≠ 0) : groupStart g m s = s := by
  refine if_pos ?_
  by_cases hpv : 2 ≤ s.grpType g
  · exact .inr (.inl (by simp [hpv, hm]))
  · exact h.elim (fun hty => .inl (by omega)) fun hmode => .inr (.inr hmode)

theorem groupStart_judged (hty : s.grpType g = 1) (hmode : s.mode g = 0) : groupStart g m s =
    if s.fb (Fld.CNV_CG_FLAG_OCP g) = true ∨ s.contactorConfirmed (s.grpTarget g) = false then s.removal (.group g)
    else groupBegun g m s := by
  have hmay : ¬ (s.grpType g = 0 ∨ ((2 ≤ s.grpType g) ≠ (m = modeCharge)) ∨ s.mode g ≠ modeOff) := by
    simp [hty, hm, hmode]
  have hrefused : (s.fb (Fld.CNV_CG_FLAG_OCP g) = true ∨
      s.grpType g = 1 ∧ (!s.contactorConfirmed (s.grpTarget g)) = true) ↔
        (s.fb (Fld.CNV_CG_FLAG_OCP g) = true ∨ s.contactorConfirmed (s.grpTarget g) = false) := by
    simp [hty]
  exact (if_neg hmay).trans (if_congr hrefused rfl rfl)

end

theorem exec_groupStart (hlive : Live s) (g : Fin 12) {m : Fin 5} (hoff : m ≠ 0) (hpv : m ≠ 4) :
    exec (.groupStart g m) s = .next (finish (groupStart g m s)) := by
  have hform : exec (.groupStart g m) s = done s (groupStart g m s) :=
    congrArg (done s) (if_neg (not_or.2 ⟨hoff, hpv⟩))
  rw [hform, done_next _ hlive]

theorem exec_groupStart_none (hlive : Live s) (g : Fin 12) {m : Fin 5} (h : m = 0 ∨ m = 4) :
    exec (.groupStart g m) s = .next (finish s) := by
  have hform : exec (.groupStart g m) s = done s s := congrArg (done s) (if_pos h)
  rw [hform, done_next _ hlive]

/-! ### The sense check (R281) -/

section
variable {s} {cs : List (List Int)} (hmode : s.mode g ≠ 0)
include hmode

theorem senseCheck_passes (hstage : (s.grp g).stage = 1) (h : ∀ l ∈ cs, (s.csMean g l).natAbs ≤ 53687091) :
    senseCheck g cs s = s.setGrp g { s.grp g with stage := 2 } := by
  have hok : s.senseOk g cs = true := by simpa [State.senseOk] using h
  rw [senseCheck, if_neg (by simp [hmode, hstage]), if_pos hok]

theorem senseCheck_fails (hstage : (s.grp g).stage = 1) (h : ∃ l ∈ cs, 53687091 < (s.csMean g l).natAbs) :
    senseCheck g cs s = ((groupHardStop g s).fs (Fld.CNV_CG_FLAG_CSERR g) 1).removal (.group g) := by
  have hbad : ¬ s.senseOk g cs = true := by simpa [State.senseOk] using h
  rw [senseCheck, if_neg (by simp [hmode, hstage]), if_neg hbad]

/-! ### Stops (R283, R287) -/

theorem groupStop_early (hstage : (s.grp g).stage < 3) : groupStop g s = groupHardStop g s := by
  unfold groupStop
  extract_lets x
  rw [if_neg hmode, if_pos hstage]

theorem groupStop_ramps (hstage : (s.grp g).stage = 3) :
    groupStop g s = s.setGrp g { s.grp g with stopping := true, ramp := s.newRamp g } := by
  unfold groupStop
  extract_lets x
  rw [if_neg hmode, if_neg (by simp [x, hstage])]

theorem stopComplete_stops {late : Bool} (hstop : (s.grp g).stopping = true) (hpref : s.pubGet (0x040 + g) = 0)
    (h : 8 ≤ (s.grp g).lowN ∨ late = true) : stopComplete g late s = backToShadow g (groupHardStop g s) := by
  unfold stopComplete
  extract_lets x
  exact if_pos ⟨hmode, hstop, hpref, h⟩

theorem phaseOvercurrent_trips {a b : Int} (ha : s.beyondOcp g a = true) (hb : s.beyondOcp g b = true) :
    phaseOvercurrent g a b s =
      (((groupHardStop g s).fs (Fld.CNV_CG_FLAG_OCP g) 1).driveLine 18).removal (.group g) := by
  rw [phaseOvercurrent, if_neg (by simp [hmode, ha, hb])]

end

theorem phaseOvercurrent_single {a b : Int} (h : s.beyondOcp g a = false ∨ s.beyondOcp g b = false) :
    phaseOvercurrent g a b s = s := by
  rw [phaseOvercurrent, if_pos (.inr (by rcases h with h | h <;> simp [h]))]

/-- R280, R283: a ramp under way goes on; else PREF falls from where it stands over STOPT. -/
theorem newRamp_eq (g : Nat) : s.newRamp g =
    some ((s.grp g).ramp.getD (s.pubGet (0x040 + g), s.fg (Fld.CNV_CG_TIME_STOPT g) * 12800000, 0)) := by
  unfold State.newRamp
  cases (s.grp g).ramp <;> rfl

/-! ### A stop without a ramp (R284) -/

theorem flowExit_fg {f : Fld} (h : f.addr ≠ Fld.SYS_PWR_STAT_STATE.addr) : s.flowExit.fg f = s.fg f := by
  unfold State.flowExit
  split
  · exact fg_fs_addr s _ f _ h
  · rfl

theorem flowExit_pubGet (i : Nat) : s.flowExit.pubGet i = s.pubGet i := by
  unfold State.flowExit
  split <;> rfl

theorem setMode_mode (g : Nat) {m : Nat} (hm : m < 8) : (s.setMode g m).mode g = m := by
  have hset : (s.fs (Fld.CNV_CG_STAT_MODE g) m).fg (Fld.CNV_CG_STAT_MODE g) = m :=
    fg_fs_of_lt s _ m (Nat.le_of_ble_eq_true rfl) hm
  unfold State.setMode State.mode
  extract_lets t u
  have hu : u.fg (Fld.CNV_CG_STAT_MODE g) = m := (pubSet_fg t _ _ _).trans hset
  split
  · exact hu
  · exact (pubSet_fg u _ _ _).trans hu

/-- The flags beside MODE in a group's state. -/
def statusFlags (g : Nat) : List Fld := [Fld.CNV_CG_STAT_SOFT g, Fld.CNV_CG_STAT_BRAKE g, Fld.CNV_CG_STAT_SYNCLOCK g]

theorem statusFlags_bits {f : Fld} (hf : f ∈ statusFlags g) :
    f.lo + f.width ≤ 32 ∧ (Fld.CNV_CG_STAT_MODE g).lo + (Fld.CNV_CG_STAT_MODE g).width ≤ f.lo := by
  simp only [statusFlags, List.mem_cons, List.not_mem_nil, or_false] at hf
  rcases hf with rfl | rfl | rfl <;> exact ⟨Nat.le_of_ble_eq_true rfl, Nat.le_of_ble_eq_true rfl⟩

theorem fs_flag_mode {f : Fld} (hf : f ∈ statusFlags g) (v : Nat) : (s.fs f v).mode g = s.mode g := by
  obtain ⟨hwidth, hbits⟩ := statusFlags_bits hf
  exact fg_fs_other s f _ v hwidth (.inr (.inl hbits))

/-- R284: the group is OFF with no power published, then its flags are cleared. -/
theorem groupHardStop_form (g : Nat) : ∃ u : State,
    groupHardStop g s = (((u.fs (Fld.CNV_CG_STAT_SOFT g) 0).fs (Fld.CNV_CG_STAT_BRAKE g) 0).fs
      (Fld.CNV_CG_STAT_SYNCLOCK g) 0).flowExit ∧ u.mode g = 0 ∧ u.pubGet (0x040 + g) = 0 := by
  unfold groupHardStop
  extract_lets t _ u v w
  have hmode : v.mode g = 0 := by
    simp only [v, u, State.mode, pubSet_fg, setGrp_fg]
    exact setMode_mode t g (by decide)
  refine ⟨v, rfl, hmode, ?_⟩
  rw [pubGet_pubSet, if_neg (by omega), pubGet_pubSet, if_neg (by omega), pubGet_pubSet, if_pos rfl]

theorem groupHardStop_leaves (hg : g < 12) : (groupHardStop g s).mode g = 0 ∧
    (groupHardStop g s).pubGet (0x040 + g) = 0 ∧ (groupHardStop g s).fg (Fld.CNV_CG_STAT_BRAKE g) = 0 := by
  have haddr : (Fld.CNV_CG_STAT_MODE g).addr ≠ Fld.SYS_PWR_STAT_STATE.addr := by
    simp only [Fld.CNV_CG_STAT_MODE, Fld.SYS_PWR_STAT_STATE]; omega
  have hsoft : Fld.CNV_CG_STAT_SOFT g ∈ statusFlags g := by simp [statusFlags]
  have hbrake : Fld.CNV_CG_STAT_BRAKE g ∈ statusFlags g := by simp [statusFlags]
  have hlock : Fld.CNV_CG_STAT_SYNCLOCK g ∈ statusFlags g := by simp [statusFlags]
  obtain ⟨u, hform, hmode, hpub⟩ := groupHardStop_form s g
  rw [hform]
  refine ⟨?_, ?_, ?_⟩
  · rw [State.mode, flowExit_fg _ haddr, ← State.mode, fs_flag_mode _ hlock, fs_flag_mode _ hbrake,
      fs_flag_mode _ hsoft, hmode]
  · rw [flowExit_pubGet, fs_pubGet, fs_pubGet, fs_pubGet, hpub]
  · rw [flowExit_fg _ (by exact haddr), fg_fs_other _ _ _ _ (statusFlags_bits hlock).1
      (.inr (.inl (Nat.le_of_ble_eq_true rfl))), fg_fs_of_lt _ _ _ (statusFlags_bits hbrake).1 (by exact zero_lt_two)]

/-! ### The statement -/

/-- Settles O34: each command by the case that its conditions name. -/
theorem groupsStartAndStop : Obligations.GroupsStartAndStop := by
  unfold Obligations.GroupsStartAndStop
  intro g s hlive
  refine ⟨fun m hm hty hmode => ?start, fun m h => ?ignored, fun cs hmode hstage => ?sense, fun hmode hstage => ?early,
    fun hmode hstage => ?ramp, fun late hmode hstop hpref h => ?complete, fun a b hmode => ?trip, ?hard⟩
  case start =>
    have hoff : m ≠ 0 := by rintro rfl; simp at hm
    have hpv : m ≠ 4 := by rintro rfl; simp at hm
    have hcharge : (m : Nat) ≠ modeCharge := fun h => hpv (Fin.ext h)
    rw [exec_groupStart s hlive g hoff hpv, groupStart_judged hcharge hty hmode]
    refine ⟨fun h => by rw [if_pos h], fun hocp hcon => ?_⟩
    rw [if_neg (by simp [hocp, hcon])]
    exact congrArg (fun u => Host.Outcome.next (finish u)) (if_congr (Fin.ext_iff (b := 3)).symm rfl rfl)
  case ignored =>
    by_cases hno : m = 0 ∨ m = 4
    · exact exec_groupStart_none s hlive g hno
    · obtain ⟨hoff, hpv⟩ := not_or.1 hno
      rw [exec_groupStart s hlive g hoff hpv, groupStart_ignored (fun h => hpv (Fin.ext h)) (by tauto)]
  case sense =>
    have hexec : exec (.senseCheck g cs) s = .next (finish (senseCheck g cs s)) := done_next _ hlive
    exact ⟨fun h => by rw [hexec, senseCheck_passes hmode hstage h],
      fun h => by rw [hexec, senseCheck_fails hmode hstage h]⟩
  case early =>
    have hexec : exec (.groupStop g) s = .next (finish (groupStop g s)) := done_next _ hlive
    rw [hexec, groupStop_early hmode hstage]
  case ramp =>
    have hexec : exec (.groupStop g) s = .next (finish (groupStop g s)) := done_next _ hlive
    rw [hexec, groupStop_ramps hmode hstage, newRamp_eq]
  case complete =>
    have hexec : exec (.groupStopComplete g late) s = .next (finish (stopComplete g late s)) := done_next _ hlive
    rw [hexec, stopComplete_stops hmode hstop hpref h]
  case trip =>
    have hexec : exec (.phaseOvercurrent g a b) s = .next (finish (phaseOvercurrent g a b s)) := done_next _ hlive
    exact ⟨fun ha hb => by rw [hexec, phaseOvercurrent_trips hmode ha hb],
      fun h => by rw [hexec, phaseOvercurrent_single s h]⟩
  case hard => exact groupHardStop_leaves s g.isLt

end Sys2Proof.Machine
end

section
/-!
PROOFS. Setpoints, braking and SYNC_IN (R280, R288 to R292): the ramp of a setpoint that is not renewed, what the start of
braking and the end of an overshoot leave of each group, and the loss of SYNC_IN.
-/
namespace Sys2Proof.Machine

variable (s : State)

/-! ### Setpoints that are not renewed (R280) -/

theorem prefTimeout_falls {s : State} {g : Nat} (hmode : s.mode g = 1 ∨ s.mode g = 2) (hramp : (s.grp g).ramp = none) :
    prefTimeout g s = s.setGrp g { s.grp g with
      ramp := some (s.pubGet (0x040 + g), s.fg (Fld.CNV_CG_TIME_STOPT g) * 12800000, 0) } := by
  have hnew : s.newRamp g = some (s.pubGet (0x040 + g), s.fg (Fld.CNV_CG_TIME_STOPT g) * 12800000, 0) := by
    rw [newRamp_eq, hramp, Option.getD_none]
  unfold prefTimeout
  extract_lets x
  rw [if_pos ⟨hmode, by rw [hramp]; rfl⟩, hnew]

/-! ### Braking (R291, R292) -/

/-- A group begins to brake where it qualifies. -/
def brakeGroup (s : State) (g : Nat) : State :=
  if s.brakes g then
    ((s.fs (Fld.CNV_CG_STAT_BRAKE g) 1).setGrp g { s.grp g with brakeN := 0, tails := [] }).finc (Fld.CNV_CG_PER_BRKCNT g)
  else s

theorem brakeStart_below {s : State} {mv : Int} (h : ¬ s.busPlus Fld.CNV_BRK_BRK_ON < 1000 * mv) : brakeStart mv s = s :=
  if_pos (not_lt.1 h)

theorem brakeStart_above {s : State} {mv : Int} (h : s.busPlus Fld.CNV_BRK_BRK_ON < 1000 * mv) :
    brakeStart mv s = (List.range 12).foldl brakeGroup (s.setCnv { s.cnv with overshoot := true }) :=
  if_neg (not_le.2 h)

theorem setGrp_overshoot (g : Nat) (v : Grp) : (s.setGrp g v).cnv.overshoot = s.cnv.overshoot := (rfl)

/-- What decides whether a group qualifies for braking. -/
structure BrakePart where
  image : Option Image
  control : Word
  status : Word
  currents : Nat → Word
  grp : Grp

def State.brakePart (s : State) (g : Nat) : BrakePart :=
  ⟨s.image, s.rd (Reg.CNV_CG_CTL g), s.rd (Fld.CNV_CG_STAT_MODE g).addr, fun n => s.rd (Reg.CNV_PH_ISNS n), s.grp g⟩

section
variable {s} {t : State} {g : Nat} (h : t.brakePart g = s.brakePart g)
include h

theorem grp_of_brakePart : t.grp g = s.grp g := congrArg BrakePart.grp h

theorem status_of_brakePart {f : Fld} (hf : f.addr = (Fld.CNV_CG_STAT_MODE g).addr) : t.fg f = s.fg f := by
  refine fg_of_rd ?_
  rw [hf]
  exact congrArg BrakePart.status h

theorem brakes_of_brakePart : t.brakes g = s.brakes g := by
  have himage : t.image = s.image := congrArg BrakePart.image h
  have hctl : t.fg (Fld.CNV_CG_CTL_BRK_EN g) = s.fg (Fld.CNV_CG_CTL_BRK_EN g) := fg_of_rd (congrArg BrakePart.control h)
  have hmode : t.mode g = s.mode g := status_of_brakePart h rfl
  have hbrake := status_of_brakePart h (f := Fld.CNV_CG_STAT_BRAKE g) rfl
  have hcur : ∀ n, t.rd (Reg.CNV_PH_ISNS n) = s.rd (Reg.CNV_PH_ISNS n) := congrFun (congrArg BrakePart.currents h)
  simp only [State.brakes, grpType_of_image himage, fb_of_fg _ hctl, hmode, fb_of_fg _ hbrake, grp_of_brakePart h,
    phases_of_image himage, grpPhRating_of_image himage, hcur]

end

theorem overshootSeen_brakePart (g : Nat) :
    (s.setCnv { s.cnv with overshoot := true }).brakePart g = s.brakePart g := (rfl)

/-- The braking of another group leaves what decides over this one. -/
theorem brakeGroup_other {g m : Nat} (hm : m < 12) (h : m ≠ g) :
    (brakeGroup s m).brakePart g = s.brakePart g := by
  unfold brakeGroup
  split
  · have hctl : Reg.CNV_CG_CTL g ≠ (Fld.CNV_CG_STAT_BRAKE m).addr ∧
        Reg.CNV_CG_CTL g ≠ (Fld.CNV_CG_PER_BRKCNT m).addr := by
      simp only [Reg.CNV_CG_CTL, Fld.CNV_CG_STAT_BRAKE, Fld.CNV_CG_PER_BRKCNT]
      omega
    have hstat : (Fld.CNV_CG_STAT_MODE g).addr ≠ (Fld.CNV_CG_STAT_BRAKE m).addr ∧
        (Fld.CNV_CG_STAT_MODE g).addr ≠ (Fld.CNV_CG_PER_BRKCNT m).addr := by
      simp only [Fld.CNV_CG_STAT_MODE, Fld.CNV_CG_STAT_BRAKE, Fld.CNV_CG_PER_BRKCNT]
      omega
    have hcur : ∀ n, Reg.CNV_PH_ISNS n ≠ (Fld.CNV_CG_STAT_BRAKE m).addr ∧
        Reg.CNV_PH_ISNS n ≠ (Fld.CNV_CG_PER_BRKCNT m).addr := by
      simp only [Reg.CNV_PH_ISNS, Fld.CNV_CG_STAT_BRAKE, Fld.CNV_CG_PER_BRKCNT]
      omega
    simp only [State.brakePart, State.finc, State.fsat, rd_fs_other _ _ _ _ hctl.1, rd_fs_other _ _ _ _ hctl.2,
      rd_fs_other _ _ _ _ hstat.1, rd_fs_other _ _ _ _ hstat.2, rd_fs_other _ _ _ _ (hcur _).1,
      rd_fs_other _ _ _ _ (hcur _).2, setGrp_rd, setGrp_image, State.fs_image, fs_grp, grp_setGrp, if_neg h.symm]
  · rfl

theorem brakeGroup_overshoot (g : Nat) : (brakeGroup s g).cnv.overshoot = s.cnv.overshoot := by
  unfold brakeGroup
  split
  · rw [State.finc, State.fsat, State.fs_cnv, setGrp_overshoot, State.fs_cnv]
  · rfl

theorem brakeGroup_starts {s : State} {g : Nat} (h : s.brakes g = true) :
    (brakeGroup s g).fg (Fld.CNV_CG_STAT_BRAKE g) = 1 ∧ ((brakeGroup s g).grp g).brakeN = 0 := by
  have hper : (Fld.CNV_CG_STAT_BRAKE g).addr ≠ (Fld.CNV_CG_PER_BRKCNT g).addr := by
    simp only [Fld.CNV_CG_STAT_BRAKE, Fld.CNV_CG_PER_BRKCNT]; omega
  rw [brakeGroup, if_pos h, State.finc, State.fsat]
  constructor
  · rw [fg_fs_addr _ _ _ _ hper, setGrp_fg, fg_fs_of_lt _ _ _ (Nat.le_of_ble_eq_true rfl) (by exact one_lt_two)]
  · rw [fs_grp, grp_setGrp, if_pos rfl]

/-- R292: each group that qualifies brakes, and no other begins to. -/
theorem brakeStart_leaves {s : State} {mv : Int} (h : s.busPlus Fld.CNV_BRK_BRK_ON < 1000 * mv) :
    (brakeStart mv s).cnv.overshoot = true ∧
    (∀ g < 12, s.brakes g = true → (brakeStart mv s).fg (Fld.CNV_CG_STAT_BRAKE g) = 1 ∧
      ((brakeStart mv s).grp g).brakeN = 0) ∧
    (∀ g < 12, s.brakes g = false →
      (brakeStart mv s).fg (Fld.CNV_CG_STAT_BRAKE g) = s.fg (Fld.CNV_CG_STAT_BRAKE g)) := by
  rw [brakeStart_above h]
  obtain ⟨v, hv⟩ : ∃ v, v = s.setCnv { s.cnv with overshoot := true } := ⟨_, rfl⟩
  have hseen : v.cnv.overshoot = true := by rw [hv, setCnv_cnv]
  have hpart : ∀ g, v.brakePart g = s.brakePart g := fun g => by rw [hv, overshootSeen_brakePart]
  rw [← hv]
  have hstep : ∀ g < 12, ∃ t : State, t.brakePart g = s.brakePart g ∧
      ((List.range 12).foldl brakeGroup v).brakePart g = (brakeGroup t g).brakePart g := by
    intro g hg
    have hkeep : ∀ (b : State), ∀ m < 12, m ≠ g → (brakeGroup b m).brakePart g = b.brakePart g :=
      fun b m hm hne => brakeGroup_other b hm hne
    exact ⟨_, (foldl_range_before (fun t : State => t.brakePart g) brakeGroup hg hkeep v).trans (hpart g),
      foldl_range_at (fun t : State => t.brakePart g) brakeGroup hg hkeep v⟩
  refine ⟨?_, fun g hg hq => ?_, fun g hg hq => ?_⟩
  · exact (foldl_field (fun t : State => t.cnv.overshoot) brakeGroup brakeGroup_overshoot _ v).trans hseen
  · obtain ⟨t, ht, hend⟩ := hstep g hg
    obtain ⟨hbrake, hcount⟩ := brakeGroup_starts ((brakes_of_brakePart ht).trans hq)
    rw [status_of_brakePart hend (by rfl), grp_of_brakePart hend]
    exact ⟨hbrake, hcount⟩
  · obtain ⟨t, ht, hend⟩ := hstep g hg
    have hidle : brakeGroup t g = t := if_neg (by rw [brakes_of_brakePart ht, hq]; decide)
    rw [hidle] at hend
    exact status_of_brakePart (hend.trans ht) rfl

/-! ### The end of an overshoot (R291, R292) -/

theorem overshootEnd_high {s : State} {mv : Int} (h : s.busPlus Fld.CNV_BRK_BRK_OFF ≤ 1000 * mv) :
    overshootEnd mv s = s := if_pos h

theorem overshootEnd_leaves {s : State} {mv : Int} (h : 1000 * mv < s.busPlus Fld.CNV_BRK_BRK_OFF) :
    (overshootEnd mv s).cnv.overshoot = false ∧ (overshootEnd mv s).regs = s.regs ∧
      ∀ g < 12, ((overshootEnd mv s).grp g).brakeBlocked = false := by
  rw [overshootEnd, if_neg (not_le.2 h)]
  refine ⟨?_, ?_, fun g hg => ?_⟩
  · rw [foldl_field (fun t : State => t.cnv.overshoot) _ (fun t m => setGrp_overshoot t m _), setCnv_cnv]
  · rw [foldl_field State.regs _ (fun t m => setGrp_regs t m _), setCnv_regs]
  · rw [foldl_range_at (fun t : State => (t.grp g).brakeBlocked) _ hg (fun t m _ hne => by
      rw [grp_setGrp, if_neg hne.symm]), grp_setGrp, if_pos rfl]

/-! ### SYNC_IN (R290) -/

section
variable {s} {g : Nat} (hfollows : s.follows g = true) (hruns : s.groupRuns g = true)
include hfollows hruns

theorem syncLoss_flags (habsent : (s.grp g).absent = false) : syncLoss g s =
    ((s.setGrp g { s.grp g with lost := true, absent := true, syncN := 0 }).fs (Fld.CNV_CG_FLAG_SYNCLOSS g) 1).fs
      (Fld.CNV_CG_STAT_SYNCLOCK g) 0 := if_pos ⟨hfollows, hruns, by rw [habsent]; rfl⟩

theorem syncReacquire_locks : syncReacquire g s =
    s.setGrp g { s.grp g with lost := false, absent := false, syncN := 0 } := if_pos ⟨hfollows, hruns⟩

end

end Sys2Proof.Machine
end

section
/-!
PROOFS. Rectifier sharing and the spare-capacity limit (R294 to R298): where sharing starts, what an update works out, how
a trim code moves, and when the limit comes and goes.
-/
namespace Sys2Proof.Machine

variable (s : State)

/-! ### Sharing starts (R296) -/

theorem setShare_share (p j v : Nat) : kvGet (fun _ => 0) (s.setShare p v).cnv.share j =
    if j = p then v else kvGet (fun _ => 0) s.cnv.share j := by
  rw [State.setShare, setCnv_cnv]
  split
  · next h => rw [h, kvGet_insert_same]
  · next h => rw [kvGet_insert_other _ _ _ _ _ h]

theorem setShare_regs (p v : Nat) : (s.setShare p v).regs = s.regs := (rfl)

/-- Sharing on a port starts from its nominal code. -/
abbrev StartsNominal (code p : Nat) (s : State) : Prop :=
  kvGet (fun _ => 0) s.cnv.share p = code ∧ p ∈ s.cnv.fromNom

theorem shareFromNominal_regs (p : Nat) : (shareFromNominal p s).regs = s.regs := (rfl)

theorem shareFromNominal_share (p j : Nat) : kvGet (fun _ => 0) (shareFromNominal p s).cnv.share j =
    if j = p then s.fg (Fld.CNV_RT_TNOM_TNOM p) else kvGet (fun _ => 0) s.cnv.share j :=
  setShare_share s p j _

theorem shareFromNominal_fromNom (p : Nat) :
    (shareFromNominal p s).cnv.fromNom = s.cnv.fromNom.filter (· != p) ++ [p] := (rfl)

theorem shareFromNominal_same (p : Nat) : StartsNominal (s.fg (Fld.CNV_RT_TNOM_TNOM p)) p (shareFromNominal p s) := by
  refine ⟨by rw [shareFromNominal_share, if_pos rfl], ?_⟩
  rw [shareFromNominal_fromNom]
  exact List.mem_append_right _ List.mem_cons_self

theorem shareFromNominal_other {s : State} {c p m : Nat} (h : m ≠ p) (hs : StartsNominal c p s) :
    StartsNominal c p (shareFromNominal m s) := by
  obtain ⟨hcode, hmem⟩ := hs
  refine ⟨by rw [shareFromNominal_share, if_neg h.symm, hcode], ?_⟩
  rw [shareFromNominal_fromNom]
  exact List.mem_append_left _ (List.mem_filter.2 ⟨hmem, by simpa using h.symm⟩)

theorem shareBegin_starts {which : Nat → Bool} {p : Nat} (hen : s.fb Fld.CNV_CTL_SHARE_EN = true) (hp : p < 6)
    (hused : s.rtUsed p = true) (hwhich : which p = true) :
    StartsNominal (s.fg (Fld.CNV_RT_TNOM_TNOM p)) p (shareBegin which s) := by
  rw [shareBegin, if_pos hen]
  refine foldl_establishes (fun t : State => t.regs = s.regs) _ _ (a := p) (by simp [hp, hused, hwhich]) ?_ ?_ ?_ rfl
  · exact fun t m ht => (shareFromNominal_regs t m).trans ht
  · intro t ht
    rw [← fg_congr ht]
    exact shareFromNominal_same t p
  · exact fun t m hne ht => shareFromNominal_other hne ht

theorem shareBegin_fg (which : Nat → Bool) (f : Fld) : (shareBegin which s).fg f = s.fg f := by
  unfold shareBegin
  split
  · exact foldl_field (fun t : State => t.fg f) _ (fun t p => fg_congr (shareFromNominal_regs t p) f) _ s
  · rfl

theorem shareEnable_again (h : s.fb Fld.CNV_CTL_SHARE_EN = true) : shareEnable s = (stOk, s) := if_pos h

theorem shareEnable_begins (h : s.fb Fld.CNV_CTL_SHARE_EN = false) :
    shareEnable s = (stOk, shareBegin (fun _ => true) (s.fs Fld.CNV_CTL_SHARE_EN 1)) :=
  if_neg (by rw [h]; decide)

/-- R296: enabled, every port in use starts from its nominal code. -/
theorem shareEnabled_starts :
    (shareBegin (fun _ => true) (s.fs Fld.CNV_CTL_SHARE_EN 1)).fg Fld.CNV_CTL_SHARE_EN = 1 ∧
    ∀ p < 6, s.rtUsed p = true → StartsNominal (s.fg (Fld.CNV_RT_TNOM_TNOM p)) p
      (shareBegin (fun _ => true) (s.fs Fld.CNV_CTL_SHARE_EN 1)) := by
  have hset : (s.fs Fld.CNV_CTL_SHARE_EN 1).fg Fld.CNV_CTL_SHARE_EN = 1 := fg_fs_of_lt s _ 1 (by decide) (by decide)
  refine ⟨(shareBegin_fg _ _ _).trans hset, fun p hp hused => ?_⟩
  have hnom : (s.fs Fld.CNV_CTL_SHARE_EN 1).fg (Fld.CNV_RT_TNOM_TNOM p) = s.fg (Fld.CNV_RT_TNOM_TNOM p) :=
    fg_fs_addr s _ _ 1 (by simp only [Fld.CNV_RT_TNOM_TNOM, Fld.CNV_CTL_SHARE_EN]; omega)
  rw [← hnom]
  exact shareBegin_starts _ (by rw [State.fb, hset]; rfl) hp ((rtUsed_of_image (State.fs_image s _ _) p).trans hused) rfl

/-! ### A sharing update (R294, R296, R297) -/

theorem sampleImon_fg (imon : List Int) {f : Fld} (h : f.addr < 0x140C00) : (sampleImon imon s).fg f = s.fg f := by
  refine foldl_field (fun t : State => t.fg f) _ (fun t p => ?_) _ s
  have hflag : f.addr ≠ (Fld.CNV_RT_FLAG_IMERR p).addr := by simp only [Fld.CNV_RT_FLAG_IMERR]; omega
  have hmon : f.addr ≠ Reg.CNV_RT_IMON p := by unfold Reg.CNV_RT_IMON; omega
  dsimp only
  split
  · rw [setCnv_fg, fg_fs_addr _ _ _ _ hflag]
  · rw [setCnv_fg, fg_wr_other _ _ _ _ hmon]

/-- The samples are taken and the level on SHARE is driven. -/
def shareSampled (imon : List Int) (s : State) : State :=
  let v := sampleImon imon s
  let mv := if v.fb Fld.CNV_CTL_SHARE_DRV = true ∧ v.ratedTot ≠ 0 then (ratRound (2500 * v.iTot / v.ratedTot)).toNat
    else 0
  v.setCnv { v.cnv with shareOut := mv }

/-- The code that sharing works out for a port, within its limits. -/
def State.shareTarget (s : State) (p : Nat) : Nat :=
  (clampI (s.shareCode p) (s.fg (Fld.CNV_RT_TMIN_TMIN p)) (s.fg (Fld.CNV_RT_TMAX_TMAX p))).toNat

theorem shareUpdate_eq (imon : List Int) : shareUpdate imon s =
    let w := shareSampled imon s
    if w.sharing then
      (w.sharePorts.filter fun p => !w.cnv.fromNom.contains p).foldl (fun t p => t.setShare p (w.shareTarget p)) w
    else w := rfl

theorem sharing_iff : s.sharing = true ↔ s.phase = phIdle ∧ s.fb Fld.CNV_CTL_SHARE_EN = true := by
  simp [State.sharing]

theorem shareSampled_sharing (imon : List Int) : (shareSampled imon s).sharing = s.sharing := by
  have hphase : (shareSampled imon s).phase = s.phase := sampleImon_fg s imon (by decide)
  have hen : (shareSampled imon s).fg Fld.CNV_CTL_SHARE_EN = s.fg Fld.CNV_CTL_SHARE_EN := sampleImon_fg s imon (by decide)
  rw [State.sharing, State.sharing, hphase, fb_of_fg _ hen]

theorem shareUpdate_idle (imon : List Int) (h : s.sharing = false) : shareUpdate imon s = shareSampled imon s := by
  rw [shareUpdate_eq]
  exact if_neg (by rw [shareSampled_sharing, h]; decide)

theorem shareUpdate_leaves (imon : List Int) (h : s.sharing = true) :
    (shareUpdate imon s).regs = (shareSampled imon s).regs ∧
    ∀ p ∈ (shareSampled imon s).sharePorts, p ∉ (shareSampled imon s).cnv.fromNom →
      kvGet (fun _ => 0) (shareUpdate imon s).cnv.share p = (shareSampled imon s).shareTarget p := by
  have hruns : (shareSampled imon s).sharing = true := (shareSampled_sharing s imon).trans h
  rw [shareUpdate_eq]
  generalize shareSampled imon s = w at hruns
  dsimp only
  rw [if_pos hruns]
  refine ⟨foldl_field State.regs _ (fun t p => setShare_regs t p _) _ w, fun p hp hfree => ?_⟩
  refine foldl_establishes (fun _ => True) (fun t : State => kvGet (fun _ => 0) t.cnv.share p = w.shareTarget p) _
    (a := p) (by simpa [hfree] using hp) (fun _ _ _ => trivial) ?_ ?_ trivial
  · exact fun t _ => (setShare_share t p p _).trans (if_pos rfl)
  · exact fun t m hne ht => ((setShare_share t m p _).trans (if_neg hne.symm)).trans ht

/-! ### One step of a trim code (R295) -/

/-- The code towards which a port's trim moves while no hand-over ramp runs. -/
def State.trimAim (s : State) (p : Nat) : Nat :=
  let c := s.trimCode p
  let aim := if s.phase = phIdle ∧ s.fb Fld.CNV_CTL_SHARE_EN = true then kvGet (fun _ => c) s.cnv.share p else c
  (clampI aim (s.fg (Fld.CNV_RT_TMIN_TMIN p)) (s.fg (Fld.CNV_RT_TMAX_TMAX p))).toNat

/-- One slew step of a code `c` towards `t`. -/
def slewStep (c t slew : Nat) : Nat := if c ≤ t then min t (c + slew) else max t (c - slew)

theorem trimTick_slews {p : Nat} (hused : s.rtUsed p = true) (hramp : kvGet (fun _ => none) s.cnv.trim p = none) :
    trimTick p s =
      let v := slewStep (s.trimCode p) (s.trimAim p) (s.fg Fld.CNV_SHARE_TSLEW)
      let u := s.fs (Fld.CNV_RT_TRIM_TRIM p) v
      if v = s.trimAim p then u.setCnv { u.cnv with fromNom := u.cnv.fromNom.filter (· != p) } else u := by
  have haim : (if s.sharing = true then kvGet (fun _ => s.trimCode p) s.cnv.share p else s.trimCode p) =
      if s.phase = phIdle ∧ s.fb Fld.CNV_CTL_SHARE_EN = true then kvGet (fun _ => s.trimCode p) s.cnv.share p
      else s.trimCode p := if_congr (sharing_iff s) rfl rfl
  rw [trimTick, if_pos hused, trimStep, hramp]
  dsimp only
  rw [haim]
  rfl

/-! ### The spare capacity (R298) -/

/-- The spare capacity, 0.1 A. -/
def State.spare (s : State) : Rat := s.ratedTot * (s.fg Fld.CNV_SHARE_ACLOAD : Rat) / 100 - s.iTot

section
variable {v : Word}

theorem drawShown_sharePorts : (s.wr Reg.CNV_ACDRAW v).sharePorts = s.sharePorts := (rfl)

theorem drawShown_iTot : (s.wr Reg.CNV_ACDRAW v).iTot = s.iTot := by
  have hport : ∀ p, (s.wr Reg.CNV_ACDRAW v).portI p = s.portI p := fun p =>
    congrArg BitVec.toInt (rd_wr_other _ _ _ _ (by unfold Reg.CNV_RT_IMON Reg.CNV_ACDRAW; omega))
  simp only [State.iTot, hport, drawShown_sharePorts]

theorem drawShown_ratedTot : (s.wr Reg.CNV_ACDRAW v).ratedTot = s.ratedTot := (rfl)

theorem drawShown_spare : (s.wr Reg.CNV_ACDRAW v).spare = s.spare := by
  rw [State.spare, State.spare, drawShown_iTot, drawShown_ratedTot, fg_wr_other _ _ _ _ (by decide)]

theorem drawShown_busCharging : (s.wr Reg.CNV_ACDRAW v).busCharging = s.busCharging := by
  have hmode : ∀ g, (s.wr Reg.CNV_ACDRAW v).mode g = s.mode g := fun g =>
    fg_wr_other _ _ _ _ (by simp only [Fld.CNV_CG_STAT_MODE, Reg.CNV_ACDRAW]; omega)
  have htype : ∀ g, (s.wr Reg.CNV_ACDRAW v).grpType g = s.grpType g := grpType_of_image (State.wr_image s _ _)
  simp only [State.busCharging, hmode, htype, wr_pubGet]

end

/-- A tenth of the way to the reduced power changes setpoints, and the limit stays. -/
theorem acLimitStep_leaves : (acLimitStep s).regs = s.regs ∧ (acLimitStep s).cnv.acLim.isSome = s.cnv.acLim.isSome := by
  unfold acLimitStep
  split
  · exact ⟨rfl, rfl⟩
  · next cur fin step h =>
    extract_lets next _ t
    have hkept : t.regs = s.regs ∧ t.cnv.acLim.isSome = s.cnv.acLim.isSome := ⟨rfl, by rw [h, setCnv_cnv]; rfl⟩
    split
    · exact hkept
    · rw [foldl_field State.regs _ (fun u g => pubSet_regs u _ _), foldl_field State.cnv _ (fun u g => pubSet_cnv u _ _)]
      exact hkept

theorem acLimitStep_fg (f : Fld) : (acLimitStep s).fg f = s.fg f := fg_congr (acLimitStep_leaves s).1 f

/-- R298: ten checks in a row without spare capacity limit the draw. -/
theorem spareCheck_limits (hspare : s.spare < 0) (hcharging : s.busCharging ≠ []) (hcount : 9 ≤ s.cnv.deficitN)
    (hlim : s.cnv.acLim = none) : (spareCheck s).fg Fld.CNV_STAT_ACLIM = 1 ∧
      (spareCheck s).fg Fld.CNV_STAT_ACLIMS = 1 ∧ (spareCheck s).cnv.acLim.isSome = true := by
  unfold spareCheck
  extract_lets bus shown spare charging n m _ counted total fin _ lowered
  have hn : n = 10 := by
    have hdue : spare < 0 ∧ (!charging.isEmpty) = true := by
      refine ⟨(drawShown_spare s).trans_lt hspare, ?_⟩
      have heq : charging = s.busCharging := drawShown_busCharging s
      rw [heq]
      simpa using hcharging
    exact (if_pos hdue).trans (min_eq_left (Nat.succ_le_succ hcount))
  have hnone : counted.cnv.acLim = none := hlim
  rw [if_pos ⟨hn.ge, by rw [hnone]; rfl⟩]
  refine ⟨?_, ?_, ?_⟩
  · rw [acLimitStep_fg, removal_fg, fg_fs_other _ _ _ _ (by decide) (by decide),
      fg_fs_of_lt _ _ _ (by decide) (by decide)]
  · rw [acLimitStep_fg, removal_fg, fg_fs_of_lt _ _ _ (by decide) (by decide)]
  · rw [(acLimitStep_leaves _).2, removal_cnv, State.fs_cnv, State.fs_cnv, setCnv_cnv]
    rfl

/-- R298: a thousand checks in a row with ample capacity lift the limit. -/
theorem spareCheck_lifts (hspare : (s.ratedTot : Rat) * 5 / 100 ≤ s.spare) (hcount : 999 ≤ s.cnv.ampleN)
    (hlim : s.cnv.acLim.isSome = true) :
    (spareCheck s).fg Fld.CNV_STAT_ACLIM = 0 ∧ (spareCheck s).cnv.acLim = none := by
  unfold spareCheck
  extract_lets bus shown spare charging n m _ counted total fin _ lowered
  have heq : spare = s.spare := drawShown_spare s
  have hn : n = 0 := by
    have hpos : 0 ≤ spare := heq ▸ le_trans (by positivity) hspare
    exact if_neg fun h => not_lt.2 hpos h.1
  have hm : m = 1000 := by
    have hample : (shown.ratedTot : Rat) * 5 / 100 ≤ spare := heq ▸ hspare
    exact (if_pos hample).trans (min_eq_left (Nat.succ_le_succ hcount))
  have hsome : counted.cnv.acLim.isSome = true := hlim
  rw [if_neg (by rw [hn]; exact fun h => absurd h.1 (by decide)), if_pos ⟨hm.ge, hsome⟩]
  exact ⟨fg_fs_of_lt _ _ _ (by decide) (by decide), by rw [State.fs_cnv, setCnv_cnv]⟩

/-! ### The statement -/

/-- Settles O36: each command by the case that its conditions name; what a pass over groups or ports leaves of one of
them is what that one's own step leaves. -/
theorem setpointsAndSharing : Obligations.SetpointsAndSharing := by
  unfold Obligations.SetpointsAndSharing
  refine ⟨⟨?timeout, ?brake, ?sync⟩, ?enable, ?update, ?trim, ?spare⟩
  case timeout =>
    intro g s hlive hmode hramp
    have hexec : exec (.prefRenewalTimeout g) s = .next (finish (prefTimeout g s)) := done_next _ hlive
    rw [hexec, prefTimeout_falls hmode hramp]
  case brake =>
    intro mv s hlive above
    have hstart : exec (.brakeStart mv) s = .next (finish (brakeStart mv s)) := done_next _ hlive
    have hend : exec (.overshootEnd mv) s = .next (finish (overshootEnd mv s)) := done_next _ hlive
    exact ⟨fun h => ⟨_, hstart, brakeStart_leaves h⟩, fun h => by rw [hstart, brakeStart_below h],
      fun h => ⟨_, hend, overshootEnd_leaves h⟩, fun h => by rw [hend, overshootEnd_high h]⟩
  case sync =>
    intro g s hlive hfollows hruns
    have hloss : exec (.syncInLoss g) s = .next (finish (syncLoss g s)) := done_next _ hlive
    have hback : exec (.syncInReacquire g) s = .next (finish (syncReacquire g s)) := done_next _ hlive
    exact ⟨fun habsent => by rw [hloss, syncLoss_flags hfollows hruns habsent],
      by rw [hback, syncReacquire_locks hfollows hruns]⟩
  case enable =>
    intro p s hreach
    have hexec : exec (.shareEnable p) s = .next (finish (respond p (shareEnable s).1 0 (shareEnable s).2)) :=
      done_asWrite s p _ _ hreach.1 hreach.2
    refine ⟨fun hen => by rw [hexec, shareEnable_again s hen], fun hen => ?_⟩
    exact ⟨_, by rw [hexec, shareEnable_begins s hen], shareEnabled_starts s⟩
  case update =>
    intro imon s hlive v mv w
    have hexec : exec (.shareUpdate imon) s = .next (finish (shareUpdate imon s)) := done_next _ hlive
    refine ⟨fun h => ?_, fun hphase hen => ⟨_, hexec, shareUpdate_leaves s imon ((sharing_iff s).2 ⟨hphase, hen⟩)⟩⟩
    have hoff : s.sharing = false := by
      rw [← Bool.not_eq_true, sharing_iff, not_and_or, Bool.not_eq_true]
      exact h
    rw [hexec, shareUpdate_idle s imon hoff]
    rfl
  case trim =>
    intro p s hlive hused hramp
    have hexec : exec (.trimStep p) s = .next (finish (trimTick p s)) := done_next _ hlive
    rw [hexec, trimTick_slews s hused hramp]
    rfl
  case spare =>
    intro s hlive spare
    have hexec : exec .spareCapacityCheck s = .next (finish (spareCheck s)) := done_next _ hlive
    exact ⟨fun hneg hcharging hcount hlim => ⟨_, hexec, spareCheck_limits s hneg hcharging hcount hlim⟩,
      fun hample hcount hlim => ⟨_, hexec, spareCheck_lifts s hample hcount hlim⟩⟩

end Sys2Proof.Machine
end

section
/-!
PROOFS. What the proofs about charging share: a bit set in a field, the charger's own data of a PV group, the words that the
stop of a group leaves alone, and the latch of a fault.
-/
namespace Sys2Proof.Machine

variable (s : State)

/-! ### One bit of a field -/

theorem fs_setBit_bit {f : Fld} {i : Nat} (b : Bool) (hf : f.lo + f.width ≤ 32) (hi : i < f.width) :
    bitOf ((s.fs f (setBit (s.fg f) i b)).fg f) i = b := by
  have hfit : s.fg f < 2 ^ 32 := (fldOf_lt _ _ _).trans_le (Nat.pow_le_pow_right zero_lt_two (by omega))
  have hi32 : i < 32 := by omega
  have hword := bitOf_setBit (BitVec.ofNat 32 (s.fg f)) i i b hi32
  rw [if_pos rfl, BitVec.toNat_ofNat, BitVec.toNat_ofNat, Nat.mod_eq_of_lt hfit, bitOf_eq_testBit,
    Nat.testBit_mod_two_pow, decide_eq_true hi32, Bool.true_and] at hword
  rw [fg_fs_same _ _ _ hf, bitOf_eq_testBit, Nat.testBit_mod_two_pow, decide_eq_true hi, Bool.true_and, hword]

/-! ### The charger's data of a PV group -/

theorem chgG_setChgG (g j : Nat) (v : ChgG) : (s.setChgG g v).chgG j = if j = g then v else s.chgG j :=
  kvGet_set _ _ _ _ _

@[simp] theorem setChgG_fg (g : Nat) (v : ChgG) (f : Fld) : (s.setChgG g v).fg f = s.fg f := (rfl)
@[simp] theorem setChgS_fg (n : Nat) (v : ChgS) (f : Fld) : (s.setChgS n v).fg f = s.fg f := (rfl)
@[simp] theorem driveLine_fg (n : Nat) (f : Fld) : (s.driveLine n).fg f = s.fg f := (rfl)
@[simp] theorem logEvent_fg (c x y : Nat) (m : Bool) (f : Fld) : (s.logEvent c x y m).fg f = s.fg f := (rfl)
@[simp] theorem fs_chgG (f : Fld) (v g : Nat) : (s.fs f v).chgG g = s.chgG g := (rfl)
@[simp] theorem pubSet_chgG (i : Nat) (v : Int) (g : Nat) : (s.pubSet i v).chgG g = s.chgG g := (rfl)

@[simp] theorem setChgS_chgG (n : Nat) (v : ChgS) (g : Nat) : (s.setChgS n v).chgG g = s.chgG g := (rfl)
@[simp] theorem setChgS_grp (n : Nat) (v : ChgS) (g : Nat) : (s.setChgS n v).grp g = s.grp g := (rfl)

theorem chgG_of_chg {s t : State} (h : t.chg = s.chg) (g : Nat) : t.chgG g = s.chgG g := by
  unfold State.chgG
  rw [h]

theorem chgS_of_chg {s t : State} (h : t.chg = s.chg) (n : Nat) : t.chgS n = s.chgS n := by
  unfold State.chgS
  rw [h]

theorem grp_of_cnv {s t : State} (h : t.cnv = s.cnv) (g : Nat) : t.grp g = s.grp g := by
  unfold State.grp
  rw [h]

/-! ### Removals -/

theorem removal_mem (r : Removal) : r ∈ (s.removal r).removals := by
  unfold State.removal
  split
  · next h => exact List.contains_iff_mem.1 h
  · rw [setRemovals_removals]
    exact List.mem_append_right _ List.mem_cons_self

@[simp] theorem removal_chg (r : Removal) : (s.removal r).chg = s.chg := by
  unfold State.removal
  split <;> rfl

/-! ### What the stop of a group leaves (R283, R284) -/

/-- A field that no start or stop of group `g` changes: neither the group's states nor the power state. -/
def ApartFromGroup (g : Nat) (f : Fld) : Prop :=
  f.addr ≠ (Fld.CNV_CG_STAT_MODE g).addr ∧ f.addr ≠ (Fld.CHG_CG_STAT_STATE g).addr ∧
    f.addr ≠ Fld.SYS_PWR_STAT_STATE.addr

/-- A field of the charger that is no PV group's: its faults and its states and limits by string. -/
def StringFld (f : Fld) : Prop := 0x180000 ≤ f.addr ∧ f.addr < 0x180400

theorem StringFld.apartFromGroup {f : Fld} (h : StringFld f) {g : Nat} (hg : g < 12) : ApartFromGroup g f := by
  obtain ⟨hlo, hhi⟩ := h
  simp only [ApartFromGroup, Fld.CNV_CG_STAT_MODE, Fld.CHG_CG_STAT_STATE, Fld.SYS_PWR_STAT_STATE]
  omega

theorem setMode_fg {g : Nat} {f : Fld} (h : f.addr ≠ (Fld.CNV_CG_STAT_MODE g).addr) (m : Nat) :
    (s.setMode g m).fg f = s.fg f := by
  unfold State.setMode
  extract_lets t u
  have hu : u.fg f = s.fg f := fg_fs_addr s _ f m h
  split <;> exact hu

section
variable {g : Nat} {f : Fld} (h : ApartFromGroup g f)
include h

theorem groupHardStop_fg : (groupHardStop g s).fg f = s.fg f := by
  obtain ⟨hmode, hstate, hpower⟩ := h
  unfold groupHardStop
  rw [flowExit_fg _ hpower, fg_fs_addr _ _ _ _ (by exact hmode), fg_fs_addr _ _ _ _ (by exact hmode),
    fg_fs_addr _ _ _ _ (by exact hmode), pubSet_fg, pubSet_fg, pubSet_fg, setGrp_fg, setMode_fg _ hmode]
  split
  · exact fg_fs_addr s _ f _ hstate
  · rfl

theorem groupStop_fg : (groupStop g s).fg f = s.fg f := by
  unfold groupStop
  extract_lets x
  split_ifs
  · rfl
  · exact groupHardStop_fg s h
  · rfl

theorem pvStop_fg : (pvStop g s).fg f = s.fg f := by
  unfold pvStop
  split
  · rfl
  · rw [setPv, fg_fs_addr _ _ _ _ h.2.1, groupStop_fg _ h, setChgG_fg]

end

theorem chargers_lt {n g : Nat} (h : g ∈ s.chargers n) : g < 12 := List.mem_range.1 (List.mem_filter.1 h).1

theorem chargeStop_fg {f : Fld} (h : StringFld f) (n : Nat) : (chargeStop n s).fg f = s.fg f := by
  refine foldl_field_mem (fun t : State => t.fg f) _ _ (fun t g hg => ?_) s
  dsimp only
  split
  · exact pvStop_fg t (h.apartFromGroup (chargers_lt s hg))
  · rfl

theorem setMode_flt (g m : Nat) : (s.setMode g m).flt = s.flt := by
  unfold State.setMode
  extract_lets t u
  split <;> rfl

theorem flowExit_flt : s.flowExit.flt = s.flt := by
  unfold State.flowExit
  split <;> rfl

theorem pubSet_flt (i : Nat) (v : Int) : (s.pubSet i v).flt = s.flt := (rfl)

theorem setGrp_flt (g : Nat) (v : Grp) : (s.setGrp g v).flt = s.flt := (rfl)

theorem groupHardStop_flt (g : Nat) : (groupHardStop g s).flt = s.flt := by
  unfold groupHardStop
  simp only [flowExit_flt, State.fs_flt, pubSet_flt, setGrp_flt, setMode_flt]
  split <;> rfl

/-! ### The latch of a fault (R321) -/

section
variable {f : Fld} {i : Nat}

theorem latchChg_fg {f' : Fld} (hf : f.lo + f.width ≤ 32)
    (h : f'.addr ≠ f.addr ∨ f'.lo + f'.width ≤ f.lo ∨ f.lo + f.width ≤ f'.lo) :
    (latchChg f i s).fg f' = s.fg f' := by
  unfold latchChg
  rw [driveLine_fg, fg_fs_other _ _ _ _ hf h]
  split
  · rfl
  · exact raise_fg s 160 f'

theorem latchChg_bit (hf : f.lo + f.width ≤ 32) (hi : i < f.width) : bitOf ((latchChg f i s).fg f) i = true := by
  unfold latchChg
  rw [driveLine_fg]
  exact fs_setBit_bit _ true hf hi

theorem latchChg_lines : (latchChg f i s).flt.lines = s.flt.lines ++ [19] := by
  unfold latchChg
  rw [State.driveLine_lines, State.fs_flt]
  split
  · rfl
  · rw [State.raise_flt]

theorem latchChg_chg : (latchChg f i s).chg = s.chg := by
  unfold latchChg
  rw [State.driveLine_chg, State.fs_chg]
  split
  · rfl
  · rw [State.raise_chg]

theorem latchChg_cnv : (latchChg f i s).cnv = s.cnv := by
  unfold latchChg
  rw [State.driveLine_cnv, State.fs_cnv]
  split
  · rfl
  · rw [State.raise_cnv]

end

end Sys2Proof.Machine
end

section
/-!
PROOFS. PV groups (R304 to R310): the start, the stops, a step of tracking and a step of a scan, each by its case.
-/
namespace Sys2Proof.Machine

variable (s : State) {g : Nat}

/-! ### The reference of a group (R308) -/

theorem setVref_chgG (g : Nat) (v : Rat) : (setVref g v s).chgG g = { s.chgG g with vref := v } := by
  unfold setVref
  rw [fs_chgG, pubSet_chgG, chgG_setChgG, if_pos rfl]

theorem setVref_pvState (g : Nat) (v : Rat) : (setVref g v s).pvState g = s.pvState g :=
  fg_fs_other _ _ (Fld.CHG_CG_STAT_STATE g) _ (Nat.le_of_ble_eq_true rfl) (.inr (.inl (Nat.le_of_ble_eq_true rfl)))

/-- The word of a group's mode is none of the charger's words that its start and stops write, nor the power state's. -/
theorem mode_addr_ne (hg : g < 12) : (Fld.CNV_CG_STAT_MODE g).addr ≠ (Fld.CHG_CG_STAT_STATE g).addr ∧
    (Fld.CNV_CG_STAT_MODE g).addr ≠ (Fld.CHG_CG_VOC_VOC g).addr ∧
    (Fld.CNV_CG_STAT_MODE g).addr ≠ Fld.CHG_PVFLT_OUT_OV.addr ∧
    (Fld.CNV_CG_STAT_MODE g).addr ≠ Fld.SYS_PWR_STAT_STATE.addr := by
  simp only [Fld.CNV_CG_STAT_MODE, Fld.CHG_CG_STAT_STATE, Fld.CHG_CG_VOC_VOC, Fld.CHG_PVFLT_OUT_OV,
    Fld.SYS_PWR_STAT_STATE]
  omega

theorem setVref_mode (hg : g < 12) (v : Rat) : (setVref g v s).mode g = s.mode g :=
  fg_fs_addr _ _ (Fld.CNV_CG_STAT_MODE g) _ (mode_addr_ne hg).1

theorem setPv_pvState (g : Nat) {st : Nat} (h : st < 8) : (setPv g st s).pvState g = st :=
  fg_fs_of_lt s (Fld.CHG_CG_STAT_STATE g) st (Nat.le_of_ble_eq_true rfl) h

theorem setPv_mode (hg : g < 12) (st : Nat) : (setPv g st s).mode g = s.mode g :=
  fg_fs_addr s _ (Fld.CNV_CG_STAT_MODE g) st (mode_addr_ne hg).1

theorem setPv_chgG (st j : Nat) : (setPv g st s).chgG j = s.chgG j := (rfl)

/-! ### Start (R305) -/

theorem groupBegun_mode (hg : g < 12) {m : Nat} (hm : m < 8) : (groupBegun g m s).mode g = m := by
  have hper : (Fld.CNV_CG_STAT_MODE g).addr ≠ (Fld.CNV_CG_PER_P g).addr := by
    simp only [Fld.CNV_CG_STAT_MODE, Fld.CNV_CG_PER_P]
    omega
  have hsoft : Fld.CNV_CG_STAT_SOFT g ∈ statusFlags g := by simp [statusFlags]
  unfold groupBegun
  extract_lets _ t u
  have hu : u.mode g = m := by
    have ht : t.mode g = m := (fs_flag_mode _ hsoft 1).trans (setMode_mode s g hm)
    exact (fg_fs_addr t _ _ _ hper).trans ht
  split
  · exact hu
  · unfold State.flowEnter
    split
    · exact (fg_fs_addr u _ _ _ (mode_addr_ne hg).2.2.2).trans hu
    · exact hu

/-- R281 for a PV group without a latched overcurrent. -/
theorem groupStart_pv (hpv : s.isPv g = true) (hmode : s.mode g = 0) (hocp : s.fb (Fld.CNV_CG_FLAG_OCP g) = false) :
    groupStart g modeCharge s = groupBegun g modeCharge s := by
  have hty : 2 ≤ s.grpType g := of_decide_eq_true hpv
  have hmay : ¬ (s.grpType g = 0 ∨ ((2 ≤ s.grpType g) ≠ (modeCharge = modeCharge)) ∨ s.mode g ≠ modeOff) := by
    simp [hty, hmode]
    omega
  have hready : ¬ (s.fb (Fld.CNV_CG_FLAG_OCP g) = true ∨
      (s.grpType g = 1 ∧ (!s.contactorConfirmed (s.grpTarget g)) = true)) := by
    simp [hocp]
    omega
  exact (if_neg hmay).trans (if_neg hready)

/-- The group as R305 starts it: in CHARGE, with what MC18 has shown as its open-circuit voltage. -/
def pvBegun (g : Nat) (s : State) : State :=
  let v := s.vocMean
  let t := groupBegun g modeCharge (s.fs (Fld.CHG_CG_VOC_VOC g) (u16Of (10 * v)))
  setVref g (95 / 100 * v) (setPv g pvTrack (t.setChgG g { chgG0 with
    voc := v, vPrev := v, clamp := (t.chgG g).clamp, base := t.mtr.pv }))

/-- The conditions of R305 beside the time above VSTART. -/
structure PvReady (s : State) (g : Nat) : Prop where
  isPv : s.isPv g = true
  waits : s.pvState g = 1
  window : s.fg (Fld.CHG_CG_VWIN_VMIN g) < s.fg (Fld.CHG_CG_VWIN_VSTART g)
  off : s.mode g = 0
  noOv : bitOf (s.fg Fld.CHG_PVFLT_OUT_OV) g = false
  noRev : bitOf (s.fg Fld.CHG_PVFLT_PV_REV) g = false
  noOcp : s.fb (Fld.CNV_CG_FLAG_OCP g) = false

theorem pvStart_early (h : (s.chgG g).upMs < 10000) : pvStart g s = s :=
  if_pos (.inr (.inr (.inr (.inr (.inr (.inl h))))))

theorem pvStart_starts (hg : g < 12) (hready : PvReady s g) (hup : 10000 ≤ (s.chgG g).upMs) :
    pvStart g s = pvBegun g s := by
  obtain ⟨hpv, hwaits, hwindow, hoff, hov, hrev, hocp⟩ := hready
  have hflag : (Fld.CNV_CG_FLAG_OCP g).addr ≠ (Fld.CHG_CG_VOC_VOC g).addr := by
    simp only [Fld.CNV_CG_FLAG_OCP, Fld.CHG_CG_VOC_VOC]
    omega
  have hstart : ∀ v, groupStart g modeCharge (s.fs (Fld.CHG_CG_VOC_VOC g) v) =
      groupBegun g modeCharge (s.fs (Fld.CHG_CG_VOC_VOC g) v) := fun v =>
    groupStart_pv _ hpv ((fg_fs_addr s _ _ v (mode_addr_ne hg).2.1).trans hoff)
      ((fb_of_fg _ (fg_fs_addr s _ _ v hflag)).trans hocp)
  unfold pvStart
  extract_lets vmin vstart v t
  rw [if_neg (by simp [hpv, hwaits, hoff, hov, hrev]; omega)]
  have ht : t = groupBegun g modeCharge (s.fs (Fld.CHG_CG_VOC_VOC g) (u16Of (10 * v))) := hstart _
  rw [if_neg (not_not.2 (by rw [ht]; exact groupBegun_mode _ hg (by decide))), ht]
  rfl

theorem pvBegun_leaves (hg : g < 12) : (pvBegun g s).mode g = 4 ∧ (pvBegun g s).pvState g = 2 ∧
    ((pvBegun g s).chgG g).vref = 95 / 100 * s.vocMean ∧ ((pvBegun g s).chgG g).voc = s.vocMean := by
  unfold pvBegun
  extract_lets v t
  refine ⟨?_, ?_, ?_, ?_⟩
  · rw [setVref_mode _ hg, setPv_mode _ hg]
    exact groupBegun_mode _ hg (by decide)
  · rw [setVref_pvState, setPv_pvState _ _ (by decide)]
  · rw [setVref_chgG]
  · rw [setVref_chgG, setPv_chgG, chgG_setChgG, if_pos rfl]

/-! ### Stops (R306, R307) -/

theorem pvStop_stops (hpv : s.isPv g = true) (hruns : 2 ≤ s.pvState g) : pvStop g s =
    setPv g (if s.pvDemand g = true then 1 else 0)
      (groupStop g (s.setChgG g { s.chgG g with scan := none, scanAge := none })) :=
  if_neg (by simp [hpv]; omega)

theorem pvStopDue_due (h : s.pvDemand g = false ∨ 60000 ≤ (s.chgG g).lowMs) : pvStopDue g s = pvStop g s :=
  if_pos (by simpa using h)

theorem pvStopDue_runs (hdemand : s.pvDemand g = true) (hlow : (s.chgG g).lowMs < 60000) : pvStopDue g s = s :=
  if_neg (by simp [hdemand, hlow])

/-- The fault that `PV_GROUP_FAULT` latches. -/
def pvFaultFld (rev : Bool) : Fld := if rev then Fld.CHG_PVFLT_PV_REV else Fld.CHG_PVFLT_OUT_OV

theorem pvFaultFld_bits (rev : Bool) : (pvFaultFld rev).lo + (pvFaultFld rev).width ≤ 32 ∧
    (pvFaultFld rev).width = 12 ∧ (pvFaultFld rev).addr = Fld.CHG_PVFLT_OUT_OV.addr := by
  cases rev <;> decide

theorem pvFault_stops {rev : Bool} (hpv : s.isPv g = true) (hmode : s.mode g ≠ 0)
    (hlasts : if rev = true then 10 ≤ (s.chgG g).revMs else 2 ≤ (s.chgG g).ovN) : pvFault g rev s =
      latchChg (pvFaultFld rev) g (setPv g pvOff
        (groupHardStop g (s.setChgG g { s.chgG g with scan := none, scanAge := none }))) := by
  unfold pvFault
  extract_lets x t
  have hdue : (if rev = true then decide (10 ≤ x.revMs) else decide (2 ≤ x.ovN)) = true := by
    cases rev <;> simpa using hlasts
  have ht : t = groupHardStop g (s.setChgG g { s.chgG g with scan := none, scanAge := none }) := if_neg hmode
  rw [if_neg (by simp [hpv, hmode, hdue]), ht]
  rfl

theorem pvFault_leaves {rev : Bool} (hg : g < 12) (hpv : s.isPv g = true) (hmode : s.mode g ≠ 0)
    (hlasts : if rev = true then 10 ≤ (s.chgG g).revMs else 2 ≤ (s.chgG g).ovN) :
    (pvFault g rev s).mode g = 0 ∧ (pvFault g rev s).pvState g = 0 ∧
      bitOf ((pvFault g rev s).fg (pvFaultFld rev)) g = true ∧ (pvFault g rev s).flt.lines = s.flt.lines ++ [19] := by
  obtain ⟨hwidth, h12, haddr⟩ := pvFaultFld_bits rev
  have hstate : (Fld.CHG_CG_STAT_STATE g).addr ≠ (pvFaultFld rev).addr := by
    rw [haddr]
    simp only [Fld.CHG_CG_STAT_STATE, Fld.CHG_PVFLT_OUT_OV]
    omega
  have hmodeAddr : (Fld.CNV_CG_STAT_MODE g).addr ≠ (pvFaultFld rev).addr := haddr ▸ (mode_addr_ne hg).2.2.1
  rw [pvFault_stops s hpv hmode hlasts]
  refine ⟨?_, ?_, latchChg_bit _ hwidth (h12 ▸ hg), ?_⟩
  · rw [State.mode, latchChg_fg _ hwidth (.inl hmodeAddr), ← State.mode, setPv_mode _ hg, (groupHardStop_leaves _ hg).1]
  · rw [State.pvState, latchChg_fg _ hwidth (.inl hstate), ← State.pvState, setPv_pvState _ _ (by decide)]
  · rw [latchChg_lines, setPv, State.fs_flt, groupHardStop_flt]
    rfl

/-! ### Tracking (R309) -/

/-- R310: a full scan is due. -/
def State.scanDue (s : State) (g : Nat) : Prop := (s.chgG g).scanAge = none ∨
  ∃ a, (s.chgG g).scanAge = some a ∧ 60000 * s.fg (Fld.CHG_CG_MPPT_SCANIVL g) ≤ a

/-- R310: a scan that is due has to wait. -/
def State.scanDeferred (s : State) (g : Nat) : Prop := s.pvState g = 3 ∨ (s.onBus g = true ∧ s.phase ≠ phIdle)

/-- R309, R310: every TSTEP a group that tracks begins the scan that is due and need not wait, or else tracks. -/
theorem mpptStep_cases (hpv : s.isPv g = true) (hmode : s.mode g = 4) (htracks : s.pvState g = 2 ∨ s.pvState g = 3) :
    let t := s.setChgG g { s.chgG g with base := s.mtr.pv }
    let m := s.pvMeans (s.chgG g).base s.mtr.pv
    (s.scanDue g → ¬ s.scanDeferred g → mpptStep g s = scanBegin g t) ∧
    (¬ s.scanDue g ∨ s.scanDeferred g → mpptStep g s = trackStep g m.1 m.2.1 t) := by
  intro t m
  have hruns : ¬ ((!s.isPv g) = true ∨ s.mode g ≠ modeCharge ∨ (s.pvState g ≠ pvTrack ∧ s.pvState g ≠ pvLimit)) := by
    rintro (hother | hoff | ⟨htrack, hlimit⟩)
    · simp [hpv] at hother
    · exact hoff hmode
    · exact htracks.elim htrack hlimit
  unfold mpptStep
  rw [if_neg hruns]
  extract_lets x _ u due
  have hdue : due = true ↔ s.scanDue g := by
    unfold State.scanDue
    cases hage : (s.chgG g).scanAge with
    | none => simp [due, x, hage]
    | some a => simp [due, x, u, hage]
  have hwaits : (t.pvState g != pvLimit && !(t.onBus g && t.phase != phIdle)) = true ↔ ¬ s.scanDeferred g := by
    have hphase : t.phase = s.phase := rfl
    have hbus : t.onBus g = s.onBus g := rfl
    have hstate : t.pvState g = s.pvState g := rfl
    rw [hphase, hbus, hstate]
    rw [State.scanDeferred]
    cases s.onBus g <;> simp
  refine ⟨fun h hfree => if_pos ?_, fun h => if_neg ?_⟩
  · rw [Bool.and_assoc, Bool.and_eq_true]
    exact ⟨hdue.2 h, hwaits.2 hfree⟩
  · rw [Bool.and_assoc, Bool.and_eq_true, hdue, hwaits]
    tauto

/-- R309: whatever the step works out, the reference is kept within its limits. -/
theorem trackStep_vref (v i : Rat) : ∃ r : Rat, ((trackStep g v i s).chgG g).vref =
    max ((s.fg (Fld.CHG_CG_VWIN_VMIN g) : Rat) / 10) (min (95 / 100 * (s.chgG g).voc) r) := by
  unfold trackStep
  extract_lets x step dv di vmin limit c gc vref t
  exact ⟨vref, by rw [setVref_chgG]⟩

/-! ### Scan steps (R310) -/

/-- The best power and its reference so far, once a step of power `w` at reference `v` has ended. -/
def scanBest (best : Option (Rat × Rat)) (w v : Rat) : Rat × Rat :=
  match best with
  | some (b, r) => if b < w then (w, v) else (b, r)
  | none => (w, v)

section
variable {s} {k : Nat} {best : Option (Rat × Rat)} (hmode : s.mode g = 4) (hstate : s.pvState g = 4)
  (hscan : (s.chgG g).scan = some (k, best))
include hmode hstate hscan

theorem scanStep_eq : scanStep g s =
    let x := s.chgG g
    let top := scanBest best (s.pvMeans (x.mid.getD x.base) s.mtr.pv).2.2 x.vref
    let x' := { x with base := s.mtr.pv, mid := none }
    if k < 63 then setVref g (scanRef x.voc ((s.fg (Fld.CHG_CG_VWIN_VMIN g) : Rat) / 10) (k + 1))
      (s.setChgG g { x' with scan := some (k + 1, some top) })
    else (setVref g top.2 (setPv g pvTrack ((s.setChgG g { x' with scan := none }).raise 162))).fs
      (Fld.CHG_CG_VOC_LASTMPP g) (u16Of (10 * top.2)) := by
  unfold scanStep
  extract_lets x
  have hruns : (if s.mode g = modeCharge ∧ s.pvState g = pvScan then x.scan else none) = some (k, best) :=
    (if_pos ⟨hmode, hstate⟩).trans hscan
  rw [hruns]
  rfl

theorem scanStep_goesOn (hk : k < 63) : ((scanStep g s).chgG g).vref =
      scanRef (s.chgG g).voc ((s.fg (Fld.CHG_CG_VWIN_VMIN g) : Rat) / 10) (k + 1) ∧
    ((scanStep g s).chgG g).scan = some (k + 1,
      some (scanBest best (s.pvMeans ((s.chgG g).mid.getD (s.chgG g).base) s.mtr.pv).2.2 (s.chgG g).vref)) := by
  rw [scanStep_eq hmode hstate hscan]
  dsimp only
  rw [if_pos hk, setVref_chgG, chgG_setChgG, if_pos rfl]
  exact ⟨rfl, rfl⟩

theorem scanStep_ends (hk : 63 ≤ k) : ((scanStep g s).chgG g).vref =
      (scanBest best (s.pvMeans ((s.chgG g).mid.getD (s.chgG g).base) s.mtr.pv).2.2 (s.chgG g).vref).2 ∧
    ((scanStep g s).chgG g).scan = none ∧ (scanStep g s).pvState g = 2 := by
  have hvoc : (Fld.CHG_CG_STAT_STATE g).addr ≠ (Fld.CHG_CG_VOC_LASTMPP g).addr := by
    simp only [Fld.CHG_CG_STAT_STATE, Fld.CHG_CG_VOC_LASTMPP]
    omega
  rw [scanStep_eq hmode hstate hscan]
  dsimp only
  rw [if_neg (not_lt.2 hk), fs_chgG, setVref_chgG, setPv_chgG, chgG_of_chg (State.raise_chg _ _), chgG_setChgG,
    if_pos rfl, State.pvState, fg_fs_addr _ _ _ _ hvoc, ← State.pvState, setVref_pvState, setPv_pvState _ _ (by decide)]
  exact ⟨rfl, rfl, rfl⟩

end

end Sys2Proof.Machine
end

section
/-!
PROOFS. Charge episodes (R312 to R317) and the loss of a string that charges (R319, R322).
-/
namespace Sys2Proof.Machine

variable (s : State) {n : Nat}

/-! ### The end of an episode (R316) -/

theorem episodeEnd_phase {phase : Nat} (h : phase < 4) : (episodeEnd n phase s).chgPhase n = phase := by
  have htimer : (Fld.CHG_S_STAT_PHASE n).addr ≠ (Fld.CHG_S_TIMER_ELAPSED n).addr := by
    simp only [Fld.CHG_S_STAT_PHASE, Fld.CHG_S_TIMER_ELAPSED]
    omega
  unfold episodeEnd State.chgPhase
  rw [fg_fs_addr _ _ _ _ (by exact htimer), fg_fs_addr _ _ _ _ htimer, setChgS_fg,
    fg_fs_of_lt _ _ _ (Nat.le_of_ble_eq_true rfl) (by exact h)]

theorem episodeEnd_elapsed (phase : Nat) : (episodeEnd n phase s).fg (Fld.CHG_S_TIMER_ELAPSED n) = 0 := by
  unfold episodeEnd
  rw [fg_fs_other _ _ _ _ (Nat.le_of_ble_eq_true rfl) (.inr (.inl (Nat.le_of_ble_eq_true rfl))),
    fg_fs_same _ _ _ (Nat.le_of_ble_eq_true rfl), Nat.zero_mod]

/-- The words that all strings share lie below the ones of a string. -/
theorem episodeEnd_fg {f : Fld} (h : f.addr < 0x180100) (phase : Nat) : (episodeEnd n phase s).fg f = s.fg f := by
  have hstat : f.addr ≠ (Fld.CHG_S_STAT_PHASE n).addr := by
    simp only [Fld.CHG_S_STAT_PHASE]
    omega
  have htimer : f.addr ≠ (Fld.CHG_S_TIMER_ELAPSED n).addr := by
    simp only [Fld.CHG_S_TIMER_ELAPSED]
    omega
  unfold episodeEnd
  rw [fg_fs_addr _ _ _ _ (by exact htimer), fg_fs_addr _ _ _ _ htimer, setChgS_fg, fg_fs_addr _ _ _ _ hstat]

theorem stringFld_stat (hn : n < 8) : StringFld (Fld.CHG_S_STAT_PHASE n) := by
  simp only [StringFld, Fld.CHG_S_STAT_PHASE]
  omega

theorem stringFld_timer (hn : n < 8) : StringFld (Fld.CHG_S_TIMER_ELAPSED n) := by
  simp only [StringFld, Fld.CHG_S_TIMER_ELAPSED]
  omega

/-! ### Return to CC, termination and held power (R312 to R314) -/

theorem ccReturn_returns (hphase : s.chgPhase n = 2) (h : 10000 ≤ (s.chgS n).ccMs) :
    ccReturn n s = s.fs (Fld.CHG_S_STAT_PHASE n) 1 := if_pos ⟨hphase, h⟩

theorem ccReturn_stays (h : (s.chgS n).ccMs < 10000) : ccReturn n s = s := if_neg fun hdue => absurd hdue.2 (not_le.2 h)

theorem nvTrigger_fg {f : Fld} (h : f.addr ≠ Fld.EST_NV_WRITING.addr) : (nvTrigger s).fg f = s.fg f := by
  unfold nvTrigger
  split
  · extract_lets _ t
    split
    · exact fg_fs_addr t _ f 1 h
    · rfl
  · rfl

/-- FULL shows the string, and CHARGING no longer does. -/
def fullShown (n : Nat) (s : State) : State :=
  (s.fs Fld.CHG_STAT_FULL (setBit (s.fg Fld.CHG_STAT_FULL) n true)).fs Fld.CHG_STAT_CHARGING
    (setBit (s.fg Fld.CHG_STAT_CHARGING) n false)

/-- A bit of CHARGING that is set or cleared beside another field of the same word. -/
theorem charging_setBit {f : Fld} (hf : f.lo + f.width ≤ 32) (hafter : 8 ≤ f.lo) (v : Nat) (b : Bool) (hn : n < 8) :
    bitOf (((s.fs f v).fs Fld.CHG_STAT_CHARGING (setBit (s.fg Fld.CHG_STAT_CHARGING) n b)).fg
      Fld.CHG_STAT_CHARGING) n = b := by
  have hkept : (s.fs f v).fg Fld.CHG_STAT_CHARGING = s.fg Fld.CHG_STAT_CHARGING :=
    fg_fs_other s f _ v hf (.inr (.inl hafter))
  rw [← hkept]
  exact fs_setBit_bit _ b (by decide) hn

theorem fullShown_leaves (hn : n < 8) : bitOf ((fullShown n s).fg Fld.CHG_STAT_FULL) n = true ∧
    bitOf ((fullShown n s).fg Fld.CHG_STAT_CHARGING) n = false := by
  refine ⟨?_, charging_setBit s (by decide) (by decide) _ false hn⟩
  rw [fullShown, fg_fs_other _ _ _ _ (by decide) (by decide)]
  exact fs_setBit_bit s true (by decide) hn

theorem fullShown_phase : (fullShown n s).chgPhase n = s.chgPhase n := by
  have hstat : (Fld.CHG_S_STAT_PHASE n).addr ≠ Fld.CHG_STAT_FULL.addr := by
    simp only [Fld.CHG_S_STAT_PHASE, Fld.CHG_STAT_FULL]
    omega
  unfold fullShown State.chgPhase
  rw [fg_fs_addr _ _ _ _ (by exact hstat), fg_fs_addr _ _ _ _ hstat]

theorem chargeTermination_completes (hphase : s.chgPhase n = 2) (hiterm : s.fg (Fld.CHG_S_LIM_ITERM n) ≠ 0)
    (hdue : 10000 * s.fg Fld.CHG_CFG_TTERM ≤ (s.chgS n).termMs) : chargeTermination n s =
      nvTrigger (((fullShown n (chargeStop n (episodeEnd n epFull s))).raise 161).removal (.full n)) :=
  if_neg (by simp [hphase, hiterm, hdue])

theorem chargeTermination_early
    (h : s.fg (Fld.CHG_S_LIM_ITERM n) = 0 ∨ (s.chgS n).termMs < 10000 * s.fg Fld.CHG_CFG_TTERM) :
    chargeTermination n s = s := if_pos (.inr h)

theorem chargeTermination_leaves (hn : n < 8) (hphase : s.chgPhase n = 2) (hiterm : s.fg (Fld.CHG_S_LIM_ITERM n) ≠ 0)
    (hdue : 10000 * s.fg Fld.CHG_CFG_TTERM ≤ (s.chgS n).termMs) : (chargeTermination n s).chgPhase n = 3 ∧
      bitOf ((chargeTermination n s).fg Fld.CHG_STAT_FULL) n = true ∧
      bitOf ((chargeTermination n s).fg Fld.CHG_STAT_CHARGING) n = false := by
  have hstat : (Fld.CHG_S_STAT_PHASE n).addr ≠ Fld.EST_NV_WRITING.addr := by
    simp only [Fld.CHG_S_STAT_PHASE, Fld.EST_NV_WRITING]
    omega
  rw [chargeTermination_completes s hphase hiterm hdue]
  refine ⟨?_, ?_⟩
  · rw [State.chgPhase, nvTrigger_fg _ hstat, removal_fg, raise_fg, ← State.chgPhase, fullShown_phase, State.chgPhase,
      chargeStop_fg _ (stringFld_stat hn), ← State.chgPhase, episodeEnd_phase _ (by decide)]
  · rw [nvTrigger_fg _ (by decide), nvTrigger_fg _ (by decide), removal_fg, removal_fg, raise_fg, raise_fg]
    exact fullShown_leaves _ hn

theorem powerHeld_reports {w : Rat} (hep : s.inEpisode n = true) (hheld : 10000 ≤ (s.chgS n).heldMs)
    (hpower : s.heldPower n = some w) : powerHeld n s =
      (s.setChgS n { s.chgS n with held := some w.floor.toNat, heldMs := 0 }).removal (.charge n w.floor.toNat) := by
  unfold powerHeld
  rw [if_pos ⟨hep, hheld⟩, hpower]

theorem powerHeld_early (h : (s.chgS n).heldMs < 10000) : powerHeld n s = s := by
  unfold powerHeld
  rw [if_neg fun hdue => absurd hdue.2 (not_le.2 h)]

/-! ### The faults of a string (R315, R317) -/

theorem cellOv_latches (h : 1000 ≤ (s.chgS n).ovMs) : cellOv n s = chargeStop n (latchChg Fld.CHG_FAULT_CELL_OV n s) :=
  if_neg (not_lt.2 h)

theorem cellOv_early (h : (s.chgS n).ovMs < 1000) : cellOv n s = s := if_pos h

theorem timerOut_iff : s.timerOut n = true ↔
    s.inEpisode n = true ∧ 7200000 * s.fg Fld.CHG_CFG_TSAFE ≤ (s.chgS n).half := by
  simp [State.timerOut]

theorem timerExpiry_early (h : (s.chgS n).half < 7200000 * s.fg Fld.CHG_CFG_TSAFE) : timerExpiry n s = s := by
  refine if_pos ?_
  rw [Bool.not_eq_true', ← Bool.not_eq_true, timerOut_iff]
  exact fun hdue => absurd hdue.2 (not_le.2 h)

theorem timerExpiry_leaves (hn : n < 8) (hout : s.timerOut n = true) : (timerExpiry n s).chgPhase n = 0 ∧
    bitOf ((timerExpiry n s).fg Fld.CHG_FAULT_TMR_EXP) n = true ∧
    (timerExpiry n s).fg (Fld.CHG_S_TIMER_ELAPSED n) = 0 ∧ Removal.charge n 0 ∈ (timerExpiry n s).removals := by
  have hform : timerExpiry n s =
      (chargeStop n (episodeEnd n epIdle (latchChg Fld.CHG_FAULT_TMR_EXP n s))).removal (.charge n 0) :=
    if_neg (by rw [hout]; decide)
  have hfault : StringFld Fld.CHG_FAULT_TMR_EXP := ⟨by decide, by decide⟩
  rw [hform]
  refine ⟨?_, ?_, ?_, removal_mem _ _⟩
  · rw [State.chgPhase, removal_fg, chargeStop_fg _ (stringFld_stat hn), ← State.chgPhase,
      episodeEnd_phase _ (by decide)]
  · rw [removal_fg, chargeStop_fg _ hfault, episodeEnd_fg _ (by decide)]
    exact latchChg_bit s (by decide) hn
  · rw [removal_fg, chargeStop_fg _ (stringFld_timer hn), episodeEnd_elapsed]

/-! ### A lost string: its groups are clamped (R319 step 1) -/

/-- Zero duty and the clamp on one group of a lost string. -/
def clampGroup (s : State) (g : Nat) : State :=
  let s := s.setGrp g { s.grp g with released := false, shadowStop := true }
  let s := s.setChgG g { s.chgG g with clamp := true, scan := none, scanAge := none }
  if s.isPv g then setPv g pvOff s else s.pubSet (0x040 + g) 0

/-- A group whose outputs are off under its clamp. -/
def Clamped (g : Nat) (s : State) : Prop := (s.chgG g).clamp = true ∧ (s.grp g).released = false

theorem clampGroup_chg (g : Nat) : (clampGroup s g).chg =
    (s.setChgG g { s.chgG g with clamp := true, scan := none, scanAge := none }).chg := by
  unfold clampGroup
  extract_lets
  split <;> rfl

theorem clampGroup_cnv (g : Nat) : (clampGroup s g).cnv =
    (s.setGrp g { s.grp g with released := false, shadowStop := true }).cnv := by
  unfold clampGroup
  extract_lets
  split <;> rfl

theorem clampGroup_chgG (g j : Nat) : (clampGroup s g).chgG j =
    if j = g then { s.chgG g with clamp := true, scan := none, scanAge := none } else s.chgG j :=
  (chgG_of_chg (clampGroup_chg s g) j).trans (chgG_setChgG s g j _)

theorem clampGroup_grp (g j : Nat) : (clampGroup s g).grp j =
    if j = g then { s.grp g with released := false, shadowStop := true } else s.grp j :=
  (grp_of_cnv (clampGroup_cnv s g) j).trans (grp_setGrp s g j _)

theorem clampGroup_clamps (g : Nat) : Clamped g (clampGroup s g) := by
  rw [Clamped, clampGroup_chgG, clampGroup_grp, if_pos rfl, if_pos rfl]
  exact ⟨rfl, rfl⟩

theorem clampGroup_other {g j : Nat} (h : g ≠ j) (hj : Clamped j s) : Clamped j (clampGroup s g) := by
  rwa [Clamped, clampGroup_chgG, clampGroup_grp, if_neg h.symm, if_neg h.symm]

theorem clampGroup_chgS (g n : Nat) : (clampGroup s g).chgS n = s.chgS n := by
  unfold clampGroup
  extract_lets
  split <;> rfl

theorem clampGroup_fg {f : Fld} (h : StringFld f) {g : Nat} (hg : g < 12) : (clampGroup s g).fg f = s.fg f := by
  obtain ⟨-, hstate, -⟩ := h.apartFromGroup hg
  unfold clampGroup
  extract_lets t u
  split
  · exact fg_fs_addr u _ f _ hstate
  · rfl

/-- Every group that charges the string is clamped. -/
def chargersClamped (n : Nat) (s : State) : State := (s.chargers n).foldl clampGroup s

theorem chargersClamped_clamps {g : Nat} (h : g ∈ s.chargers n) : Clamped g (chargersClamped n s) :=
  foldl_establishes (fun _ => True) (Clamped g) clampGroup h (fun _ _ _ => trivial)
    (fun t _ => clampGroup_clamps t g) (fun t _ hne ht => clampGroup_other t hne ht) trivial

theorem chargersClamped_timerOut (hn : n < 8) : (chargersClamped n s).timerOut n = s.timerOut n := by
  have hfg : ∀ f : Fld, StringFld f → (chargersClamped n s).fg f = s.fg f := fun f hf =>
    foldl_field_mem (fun t : State => t.fg f) _ _ (fun t _ hg => clampGroup_fg t hf (chargers_lt s hg)) s
  have hchgS : (chargersClamped n s).chgS n = s.chgS n :=
    foldl_field (fun t : State => t.chgS n) _ (fun t g => clampGroup_chgS t g n) _ s
  unfold State.timerOut State.inEpisode State.chgPhase
  rw [hfg _ (stringFld_stat hn), hfg _ ⟨by decide, by decide⟩, hchgS]

/-! ### A lost string: its faults latch and it is reported (R319 steps 2 and 3, R322) -/

/-- BATT_LOST, with TMR_EXP where the safety timer has run out as well, and the end of the episode. -/
def lostLatched (n : Nat) (s : State) : State :=
  episodeEnd n epIdle (latchChg Fld.CHG_FAULT_BATT_LOST n
    (if s.timerOut n then latchChg Fld.CHG_FAULT_TMR_EXP n s else s))

theorem lostLatched_battLost (hn : n < 8) : bitOf ((lostLatched n s).fg Fld.CHG_FAULT_BATT_LOST) n = true := by
  rw [lostLatched, episodeEnd_fg _ (by decide)]
  exact latchChg_bit _ (by decide) hn

theorem lostLatched_expired (hn : n < 8) (h : s.timerOut n = true) :
    bitOf ((lostLatched n s).fg Fld.CHG_FAULT_TMR_EXP) n = true := by
  rw [lostLatched, episodeEnd_fg _ (by decide), latchChg_fg _ (by decide) (by decide), if_pos h]
  exact latchChg_bit s (by decide) hn

theorem episodeEnd_groups (phase g : Nat) : (episodeEnd n phase s).chgG g = s.chgG g ∧
    (episodeEnd n phase s).grp g = s.grp g := by
  unfold episodeEnd
  rw [fs_chgG, fs_chgG, setChgS_chgG, fs_chgG, fs_grp, fs_grp, setChgS_grp, fs_grp]
  exact ⟨rfl, rfl⟩

theorem lostLatched_groups (g : Nat) : (lostLatched n s).chgG g = s.chgG g ∧ (lostLatched n s).grp g = s.grp g := by
  unfold lostLatched
  rw [(episodeEnd_groups _ _ g).1, (episodeEnd_groups _ _ g).2, chgG_of_chg (latchChg_chg _), grp_of_cnv (latchChg_cnv _)]
  split
  · exact ⟨chgG_of_chg (latchChg_chg s) g, grp_of_cnv (latchChg_cnv s) g⟩
  · exact ⟨rfl, rfl⟩

/-- The string is marked lost, and its module data stale. -/
def lostMarked (n : Nat) (s : State) : State :=
  staleNow n ((s.fs Fld.CHG_STAT_LOST (setBit (s.fg Fld.CHG_STAT_LOST) n true)).fs Fld.CHG_STAT_CHARGING
    (setBit (s.fg Fld.CHG_STAT_CHARGING) n false))

theorem staleNow_fg {f : Fld} (h : f.addr < 0x190000) : (staleNow n s).fg f = s.fg f := by
  have hstring : f.addr ≠ (Fld.EST_S_STAT_STALE n).addr := by
    simp only [Fld.EST_S_STAT_STALE]
    omega
  have hall : f.addr ≠ Fld.EST_STAT_STALE.addr := by
    simp only [Fld.EST_STAT_STALE]
    omega
  unfold staleNow
  rw [fg_fs_addr _ _ _ _ hall, fg_fs_addr _ _ _ _ hstring]
  refine foldl_field (fun t : State => t.fg f) _ (fun t m => fg_fs_addr t _ f 1 ?_) _ s
  simp only [Fld.EST_M_FLAG_STALE]
  omega

theorem staleNow_stale : (staleNow n s).fg (Fld.EST_S_STAT_STALE n) = 1 := by
  have hall : (Fld.EST_S_STAT_STALE n).addr ≠ Fld.EST_STAT_STALE.addr := by
    simp only [Fld.EST_S_STAT_STALE, Fld.EST_STAT_STALE]
    omega
  unfold staleNow
  rw [fg_fs_addr _ _ _ _ hall, fg_fs_of_lt _ _ _ (Nat.le_of_ble_eq_true rfl) (by exact one_lt_two)]

theorem staleNow_data : (staleNow n s).chg = s.chg ∧ (staleNow n s).cnv = s.cnv :=
  ⟨foldl_field State.chg _ (fun t _ => State.fs_chg t _ _) _ s,
    foldl_field State.cnv _ (fun t _ => State.fs_cnv t _ _) _ s⟩

theorem lostMarked_fg {f : Fld} (h : f.addr < 0x190000) (hstat : f.addr ≠ Fld.CHG_STAT_LOST.addr) :
    (lostMarked n s).fg f = s.fg f := by
  rw [lostMarked, staleNow_fg _ h, fg_fs_addr _ _ _ _ (by exact hstat), fg_fs_addr _ _ _ _ hstat]

theorem lostMarked_leaves (hn : n < 8) : bitOf ((lostMarked n s).fg Fld.CHG_STAT_LOST) n = true ∧
    (lostMarked n s).fg (Fld.EST_S_STAT_STALE n) = 1 := by
  refine ⟨?_, staleNow_stale _⟩
  rw [lostMarked, staleNow_fg _ (by decide), fg_fs_other _ _ _ _ (by decide) (by decide)]
  exact fs_setBit_bit s true (by decide) hn

theorem lostMarked_data : (lostMarked n s).chg = s.chg ∧ (lostMarked n s).cnv = s.cnv := staleNow_data _

/-- The loss is reported: as a removal, in the log and to the waveform trigger. -/
def lossReported (n : Nat) (s : State) : State := ((s.removal (.string n)).logEvent 0x07 n 0 false).waveTrigger 3 n

/-- A waveform trigger changes the log's state and shows a capture in PRP_STAT. -/
theorem waveTrigger_keeps (trig arg : Nat) : (s.waveTrigger trig arg).chg = s.chg ∧ (s.waveTrigger trig arg).cnv = s.cnv ∧
    (s.waveTrigger trig arg).removals = s.removals ∧
    ∀ f : Fld, f.addr ≠ Fld.PRP_STAT_SLOT.addr → (s.waveTrigger trig arg).fg f = s.fg f := by
  unfold State.waveTrigger
  split
  · exact ⟨rfl, rfl, rfl, fun _ _ => rfl⟩
  · split
    · exact ⟨rfl, rfl, rfl, fun _ _ => rfl⟩
    · split
      · exact ⟨rfl, rfl, rfl, fun _ _ => rfl⟩
      · simp only [State.logEvent_chg, State.logEvent_cnv, State.logEvent_removals, State.fs_chg, State.fs_cnv,
          State.fs_removals, setPrp_chg, setPrp_cnv, setPrp_removals, true_and]
        intro f hf
        rw [logEvent_fg, fg_fs_addr _ _ _ _ hf, fg_fs_addr _ _ _ _ (by exact hf), setPrp_fg]

theorem lossReported_keeps : (lossReported n s).chg = s.chg ∧ (lossReported n s).cnv = s.cnv ∧
    Removal.string n ∈ (lossReported n s).removals ∧
    ∀ f : Fld, f.addr ≠ Fld.PRP_STAT_SLOT.addr → (lossReported n s).fg f = s.fg f := by
  obtain ⟨hchg, hcnv, hremovals, hfg⟩ := waveTrigger_keeps ((s.removal (.string n)).logEvent 0x07 n 0 false) 3 n
  refine ⟨hchg.trans (removal_chg s _), hcnv.trans (removal_cnv s _), ?_, fun f hf => (hfg f hf).trans (removal_fg s _ f)⟩
  rw [lossReported, hremovals]
  exact removal_mem s _

theorem stringLost_eq (h : s.chargers n ≠ []) :
    stringLost n s = lossReported n (lostMarked n (lostLatched n (chargersClamped n s))) :=
  if_neg (by simpa using h)

theorem stringLost_leaves (hn : n < 8) (h : s.chargers n ≠ []) :
    bitOf ((stringLost n s).fg Fld.CHG_FAULT_BATT_LOST) n = true ∧
    (s.timerOut n = true → bitOf ((stringLost n s).fg Fld.CHG_FAULT_TMR_EXP) n = true) ∧
    bitOf ((stringLost n s).fg Fld.CHG_STAT_LOST) n = true ∧ (stringLost n s).fg (Fld.EST_S_STAT_STALE n) = 1 ∧
    Removal.string n ∈ (stringLost n s).removals ∧
    ∀ g ∈ s.chargers n, ((stringLost n s).chgG g).clamp = true ∧ ((stringLost n s).grp g).released = false := by
  have hstale : (Fld.EST_S_STAT_STALE n).addr ≠ Fld.PRP_STAT_SLOT.addr := by
    simp only [Fld.EST_S_STAT_STALE, Fld.PRP_STAT_SLOT]
    omega
  rw [stringLost_eq s h]
  obtain ⟨hchg, hcnv, hremoval, hfg⟩ := lossReported_keeps (n := n) (lostMarked n (lostLatched n (chargersClamped n s)))
  obtain ⟨hlost, hmodules⟩ := lostMarked_leaves (lostLatched n (chargersClamped n s)) hn
  have hfault : ∀ f : Fld, f.addr = Reg.CHG_FAULT →
      (lossReported n (lostMarked n (lostLatched n (chargersClamped n s)))).fg f =
        (lostLatched n (chargersClamped n s)).fg f := fun f hf =>
    (hfg f (by rw [hf]; decide)).trans (lostMarked_fg _ (by rw [hf]; decide) (by rw [hf]; decide))
  refine ⟨?_, fun hout => ?_, ?_, ?_, hremoval, fun g hg => ?_⟩
  · rw [hfault _ rfl]
    exact lostLatched_battLost _ hn
  · rw [hfault _ rfl]
    exact lostLatched_expired _ hn ((chargersClamped_timerOut s hn).trans hout)
  · rw [hfg _ (by decide), hlost]
  · rw [hfg _ hstale, hmodules]
  · obtain ⟨hmarkedChg, hmarkedCnv⟩ := lostMarked_data (n := n) (lostLatched n (chargersClamped n s))
    obtain ⟨hlatchedG, hlatchedC⟩ := lostLatched_groups (n := n) (chargersClamped n s) g
    rw [chgG_of_chg (hchg.trans hmarkedChg), grp_of_cnv (hcnv.trans hmarkedCnv), hlatchedG, hlatchedC]
    exact chargersClamped_clamps s hg

/-! ### The release of the clamp (R319 step 5) -/

theorem clampRelease_off {g : Nat} (h : s.mode g = 0) :
    clampRelease g s = s.setChgG g { s.chgG g with clamp := false } := if_pos h

theorem clampRelease_runs {g : Nat} (h : s.mode g ≠ 0) : clampRelease g s = s := if_neg h

/-! ### The statement -/

/-- Settles O37: each command by the case that its conditions name, and what the changed state then shows. -/
theorem chargingRuns : Obligations.ChargingRuns := by
  unfold Obligations.ChargingRuns
  refine ⟨fun g s hlive hpv => ⟨?start, ?stop, ?fault, ?step, ?scan, ?bounds⟩,
    ?phases, ?episodes, ?cell, ?lost, ?clamp⟩
  case start =>
    intro hwaits hwindow hoff hov hrev hocp
    have hexec : exec (.pvGroupStart g) s = .next (finish (pvStart g s)) := done_next _ hlive
    have hready : PvReady s g := ⟨hpv, hwaits, hwindow, hoff, hov, hrev, hocp⟩
    exact ⟨fun hup => ⟨pvBegun g s, by rw [hexec, pvStart_starts s g.isLt hready hup], pvBegun_leaves s g.isLt⟩,
      fun hup => by rw [hexec, pvStart_early s hup]⟩
  case stop =>
    intro hruns
    have hexec : exec (.pvGroupStop g) s = .next (finish (pvStopDue g s)) := done_next _ hlive
    exact ⟨fun hdue => by rw [hexec, pvStopDue_due s hdue, pvStop_stops s hpv hruns],
      fun hdemand hlow => by rw [hexec, pvStopDue_runs s hdemand hlow]⟩
  case fault =>
    intro rev hmode hlasts
    exact ⟨pvFault g rev s, done_next _ hlive, pvFault_leaves s g.isLt hpv hmode hlasts⟩
  case step =>
    intro hmode htracks m t due held
    have hexec : exec (.mpptStep g) s = .next (finish (mpptStep g s)) := done_next _ hlive
    obtain ⟨hscan, htrack⟩ := mpptStep_cases s hpv hmode htracks
    exact ⟨fun hdue hfree => by rw [hexec, hscan hdue hfree], fun h => by rw [hexec, htrack h]⟩
  case scan =>
    intro k best hmode hstate hscan w top
    have hexec : exec (.mpptScanStep g) s = .next (finish (scanStep g s)) := done_next _ hlive
    exact ⟨fun hk => ⟨_, hexec, scanStep_goesOn hmode hstate hscan hk⟩,
      fun hk => ⟨_, hexec, scanStep_ends hmode hstate hscan hk⟩⟩
  case bounds =>
    intro v i x vmin
    obtain ⟨r, hx⟩ := trackStep_vref s (g := g) v i
    have hx : x = max vmin (min (95 / 100 * (s.chgG g).voc) r) := hx
    rw [hx]
    exact ⟨le_max_left _ _, fun hwin => max_le hwin (min_le_left _ _)⟩
  case phases =>
    intro n s hlive hphase
    have hreturn : exec (.ccReturn n) s = .next (finish (ccReturn n s)) := done_next _ hlive
    have hend : exec (.chargeTermination n) s = .next (finish (chargeTermination n s)) := done_next _ hlive
    exact ⟨fun h => by rw [hreturn, ccReturn_returns s hphase h], fun h => by rw [hreturn, ccReturn_stays s h],
      fun hiterm hdue => ⟨_, hend, chargeTermination_leaves s n.isLt hphase hiterm hdue⟩,
      fun h => by rw [hend, chargeTermination_early s h]⟩
  case episodes =>
    intro n s hlive hep
    have hpower : exec (.chargePowerHeld n) s = .next (finish (powerHeld n s)) := done_next _ hlive
    have htimer : exec (.safetyTimerExpiry n) s = .next (finish (timerExpiry n s)) := done_next _ hlive
    exact ⟨fun w hheld hw => by rw [hpower, powerHeld_reports s hep hheld hw],
      fun h => by rw [hpower, powerHeld_early s h],
      fun hdue => ⟨_, htimer, timerExpiry_leaves s n.isLt ((timerOut_iff s).2 ⟨hep, hdue⟩)⟩,
      fun h => by rw [htimer, timerExpiry_early s h]⟩
  case cell =>
    intro n s hlive
    have hexec : exec (.cellOv n) s = .next (finish (cellOv n s)) := done_next _ hlive
    exact ⟨fun h => ⟨_, by rw [hexec, cellOv_latches s h], latchChg_bit s (by decide) n.isLt, latchChg_lines s⟩,
      fun h => by rw [hexec, cellOv_early s h]⟩
  case lost =>
    intro n s hlive hcharged
    exact ⟨_, done_next _ hlive, stringLost_leaves s n.isLt hcharged⟩
  case clamp =>
    intro g s hlive
    have hexec : exec (.clampRelease g) s = .next (finish (clampRelease g s)) := done_next _ hlive
    exact ⟨fun h => by rw [hexec, clampRelease_off s h], fun h => by rw [hexec, clampRelease_runs s h]⟩

end Sys2Proof.Machine
end

section
/-!
PROOFS. The CAN controllers (R323 to R326): EN, the error state that the counters give, polls, and bursts in WATCH.
-/
namespace Sys2Proof.Machine

variable (s : State) {c : Nat}

/-! ### Enabling (R324) -/

theorem canEnable_illegal (h : s.canTiming c = false) : canEnable c true s = (stDecodeErr, s) := by
  rw [canEnable, h]
  rfl

theorem canEnable_legal (h : s.canTiming c = true) : canEnable c true s = (stOk, s.fs (Fld.CAN_C_CFG_EN c) 1) := by
  rw [canEnable, h]
  rfl

theorem canEnable_off : canEnable c false s =
    (stOk, (s.setCan { s.can with due := s.can.due.filter (fun p => p.1 % 2 != c) }).fs (Fld.CAN_C_CFG_EN c) 0) := rfl

theorem exec_canEnable {p : Port} {c : Fin 2} (en : Bool) (hreach : Reach p (Reg.CAN_C_CFG c) s) :
    exec (.canEnable p c en) s = .next (finish (respond p (canEnable c en s).1 0 (canEnable c en s).2)) :=
  done_asWrite s p _ _ hreach.1 hreach.2

/-! ### The error state (R323) -/

/-- The error state that the counters give. -/
def canLevel (tec rec : Nat) : Nat := if 255 < tec then 2 else if 127 < tec ∨ 127 < rec then 1 else 0

/-- The counters and the state that they give are shown. -/
def canCounted (c tec rec : Nat) (s : State) : State :=
  ((s.fs (Fld.CAN_C_STAT_TEC c) (min 255 tec)).fs (Fld.CAN_C_STAT_REC c) (min 255 rec)).fs (Fld.CAN_C_STAT_ESTATE c)
    (canLevel tec rec)

/-- EV184 or EV185 marks a change of the state. -/
def canMarked (c tec rec : Nat) (s : State) : State :=
  if s.canState c ≠ canLevel tec rec then (canCounted c tec rec s).raise (184 + c) else canCounted c tec rec s

theorem canErrorState_eq (t r : Nat) : canErrorState c t r s =
    if canLevel t r = 2 ∧ s.canState c ≠ 2 then ((canMarked c t r s).fs (Fld.CAN_C_STAT_BOFF c) 1).driveLine 21
    else canMarked c t r s := rfl

theorem canLevel_lt (t r : Nat) : canLevel t r < 4 := by
  unfold canLevel
  split_ifs <;> decide

theorem canLevel_busOff {t : Nat} (r : Nat) (h : 255 < t) : canLevel t r = 2 := if_pos h

theorem canMarked_regs (t r : Nat) : (canMarked c t r s).regs = (canCounted c t r s).regs := by
  unfold canMarked
  split
  · exact State.raise_regs _ _
  · rfl

theorem canMarked_beside (t r : Nat) : (canMarked c t r s).can = s.can ∧ (canMarked c t r s).est = s.est ∧
    (canMarked c t r s).image = s.image ∧ (canMarked c t r s).flt = s.flt := by
  unfold canMarked
  split
  · exact ⟨State.raise_can _ _, State.raise_est _ _, State.raise_image _ _, State.raise_flt _ _⟩
  · exact ⟨rfl, rfl, rfl, rfl⟩

theorem canErrorState_beside (t r : Nat) : (canErrorState c t r s).can = s.can ∧ (canErrorState c t r s).est = s.est ∧
    (canErrorState c t r s).image = s.image := by
  obtain ⟨hcan, hest, himage, -⟩ := canMarked_beside s (c := c) t r
  rw [canErrorState_eq]
  split
  · rw [State.driveLine_can, State.driveLine_est, State.driveLine_image, State.fs_can, State.fs_est, State.fs_image]
    exact ⟨hcan, hest, himage⟩
  · exact ⟨hcan, hest, himage⟩

/-- BOFF is the last field of its word. -/
theorem canErrorState_fg (t r : Nat) {f : Fld} (h : f.lo + f.width ≤ 18) :
    (canErrorState c t r s).fg f = (canCounted c t r s).fg f := by
  rw [canErrorState_eq]
  split
  · rw [driveLine_fg, fg_fs_other _ (Fld.CAN_C_STAT_BOFF c) f 1 (Nat.le_of_ble_eq_true rfl) (.inr (.inl h)),
      fg_congr (canMarked_regs s t r)]
  · exact fg_congr (canMarked_regs s t r) f

/-- Of the words only the controller's status changes. -/
theorem canErrorState_rd (t r : Nat) {a : Nat} (h : a ≠ 0x0D000C + 256 * c) :
    (canErrorState c t r s).rd a = s.rd a := by
  have hcounted : (canMarked c t r s).rd a = s.rd a := by
    rw [rd_congr (canMarked_regs s t r), canCounted, rd_fs_other _ _ _ _ h, rd_fs_other _ _ _ _ h, rd_fs_other _ _ _ _ h]
  rw [canErrorState_eq]
  split
  · rw [rd_congr (State.driveLine_regs _ 21), rd_fs_other _ (Fld.CAN_C_STAT_BOFF c) 1 a h, hcounted]
  · exact hcounted

theorem canErrorState_canState (t r : Nat) : (canErrorState c t r s).canState c = canLevel t r := by
  rw [State.canState, canErrorState_fg _ _ _ (Nat.le_of_ble_eq_true rfl), canCounted,
    fg_fs_of_lt _ _ _ (by exact Nat.le_of_ble_eq_true rfl) (canLevel_lt t r)]

theorem canErrorState_tec (t r : Nat) : (canErrorState c t r s).fg (Fld.CAN_C_STAT_TEC c) = min 255 t := by
  rw [canErrorState_fg _ _ _ (Nat.le_of_ble_eq_true rfl), canCounted,
    fg_fs_other _ _ _ _ (Nat.le_of_ble_eq_true rfl) (.inr (.inl (Nat.le_of_ble_eq_true rfl))),
    fg_fs_other _ _ _ _ (Nat.le_of_ble_eq_true rfl) (.inr (.inl (Nat.le_of_ble_eq_true rfl))),
    fg_fs_of_lt _ _ _ (Nat.le_of_ble_eq_true rfl) (Nat.lt_succ_of_le (min_le_left 255 t))]

theorem canErrorState_rec (t r : Nat) : (canErrorState c t r s).fg (Fld.CAN_C_STAT_REC c) = min 255 r := by
  rw [canErrorState_fg _ _ _ (Nat.le_of_ble_eq_true rfl), canCounted,
    fg_fs_other _ _ _ _ (Nat.le_of_ble_eq_true rfl) (.inr (.inl (Nat.le_of_ble_eq_true rfl))),
    fg_fs_of_lt _ _ _ (Nat.le_of_ble_eq_true rfl) (Nat.lt_succ_of_le (min_le_left 255 r))]

theorem canErrorState_busOff {t : Nat} (r : Nat) (ht : 255 < t) (hstate : s.canState c ≠ 2) :
    (canErrorState c t r s).fg (Fld.CAN_C_STAT_BOFF c) = 1 ∧ (canErrorState c t r s).flt.lines = s.flt.lines ++ [21] := by
  obtain ⟨-, -, -, hflt⟩ := canMarked_beside s (c := c) t r
  rw [canErrorState_eq, if_pos ⟨canLevel_busOff r ht, hstate⟩]
  refine ⟨?_, ?_⟩
  · rw [driveLine_fg, fg_fs_of_lt _ _ _ (Nat.le_of_ble_eq_true rfl) (by exact one_lt_two)]
  · rw [State.driveLine_lines, State.fs_flt, hflt]

theorem canError_counts {kind : Fin 3} (hlistens : s.canListens c = true) (hlisten : s.fb (Fld.CAN_C_CFG_LISTEN c) = false) :
    canError c kind s =
      if kind = 0 then canErrorState c (s.fg (Fld.CAN_C_STAT_TEC c) + 8) (s.fg (Fld.CAN_C_STAT_REC c)) s
      else canErrorState c (s.fg (Fld.CAN_C_STAT_TEC c))
        (min 255 (s.fg (Fld.CAN_C_STAT_REC c) + (if kind = 1 then 1 else 8))) s := by
  rw [canError, if_neg (by simp [hlistens, hlisten])]
  match kind with
  | 0 => rfl
  | 1 => rfl
  | 2 => rfl

/-! ### Sending a poll (R326) -/

theorem pollDue_setPollDue (i : Nat) (f : Option (Nat × List Byte)) (j m : Nat) :
    (setPollDue i c f s).pollDue j m = if 2 * j + m = 2 * i + c then f else s.pollDue j m := kvGet_set _ _ _ _ _

theorem sendPoll_eq (f : Nat × List Byte) : sendPoll c f s =
    canErrorState c (s.fg (Fld.CAN_C_STAT_TEC c) - 1) (s.fg (Fld.CAN_C_STAT_REC c))
      (s.setCan { s.can with tx := kvSet (fun _ => none) s.can.tx c (some f) }) := rfl

theorem sendPoll_can (f : Nat × List Byte) :
    (sendPoll c f s).can = { s.can with tx := kvSet (fun _ => none) s.can.tx c (some f) } :=
  (canErrorState_beside _ _ _).1

theorem sendPoll_est (f : Nat × List Byte) : (sendPoll c f s).est = s.est := (canErrorState_beside _ _ _).2.1

theorem sendPoll_rd (f : Nat × List Byte) {a : Nat} (h : a ≠ 0x0D000C + 256 * c) : (sendPoll c f s).rd a = s.rd a :=
  canErrorState_rd _ _ _ h

theorem trySend_cases (i c : Nat) :
    trySend i c s = s ∨ ∃ f, trySend i c s = sendPoll c f (setPollDue i c none s) := by
  unfold trySend
  split
  · exact .inl rfl
  · next f _ =>
    split
    · exact .inr ⟨f, rfl⟩
    · exact .inl rfl

theorem trySend_sends {i : Nat} {f : Nat × List Byte} (hdue : s.pollDue i c = some f) (hlistens : s.canListens c = true)
    (hlisten : s.fb (Fld.CAN_C_CFG_LISTEN c) = false) : trySend i c s = sendPoll c f (setPollDue i c none s) := by
  rw [trySend, hdue]
  exact if_pos (by simp [hlistens, hlisten])

theorem trySend_waits (i : Nat) (h : s.canListens c = false) : trySend i c s = s := by
  unfold trySend
  split
  · rfl
  · exact if_neg (by simp [h])

/-! ### A poll on the buses of its mask (R326) -/

/-- The frame of a format entry's poll. -/
def pollFrame (e : List Byte) : Nat × List Byte := (u32At e 20, (e.drop 28).take (byteAt e 24))

/-- The poll of entry `i`, with bytes `e`, falls due on bus `c`. -/
def pollBus (i : Nat) (e : List Byte) (s : State) (c : Nat) : State :=
  if bitOf (byteAt e 8) c && s.fb (Fld.CAN_C_CFG_EN c) && !s.fb (Fld.CAN_C_CFG_LISTEN c) then
    trySend i c (setPollDue i c (some (pollFrame e)) s)
  else s

/-- What a poll of entry `i` on bus `c` shows and depends on. -/
def busSeen (i c : Nat) (s : State) : Option (Nat × List Byte) × Option (Nat × List Byte) × Word × Word × Word × Est :=
  (kvGet (fun _ => none) s.can.tx c, s.pollDue i c, s.rd (0x0D0000 + 256 * c), s.rd (0x0D000C + 256 * c),
    s.rd Reg.SYS_PWR_STAT, s.est)

theorem canPoll_polls {i : Nat} (hcount : i < s.fmtCount) (hperiod : u16At (s.fmt i) 18 ≠ 0)
    (hon : s.awake = true ∨ (s.powerState = 1 ∧ s.est.burst = true)) :
    canPoll i s = (List.range 2).foldl (pollBus i (s.fmt i)) s := by
  have hruns : (s.awake || (s.powerState == 1 && s.est.burst)) = true := by simpa using hon
  refine if_neg ?_
  simp [hperiod, hruns, hcount]

theorem busSeen_trySend_other (i : Nat) {m : Nat} (h : m ≠ c) : busSeen i c (trySend i m s) = busSeen i c s := by
  have hpwr : Reg.SYS_PWR_STAT ≠ 0x0D000C + 256 * m := by
    unfold Reg.SYS_PWR_STAT
    omega
  rcases trySend_cases s i m with hs | ⟨f, hs⟩
  · rw [hs]
  · have hcan := sendPoll_can (setPollDue i m none s) (c := m) f
    have htx : kvGet (fun _ => none) (sendPoll m f (setPollDue i m none s)).can.tx c = kvGet (fun _ => none) s.can.tx c := by
      rw [hcan]
      exact kvGet_set_other (fun _ => none) s.can.tx m c (some f) h.symm
    have hdue : (sendPoll m f (setPollDue i m none s)).pollDue i c = s.pollDue i c := by
      rw [State.pollDue, hcan]
      exact kvGet_set_other (fun _ => none) s.can.due (2 * i + m) (2 * i + c) none (by omega)
    rw [hs, busSeen, htx, hdue, sendPoll_rd _ _ (by omega), sendPoll_rd _ _ (by omega), sendPoll_rd _ _ hpwr, sendPoll_est]
    rfl

theorem busSeen_pollBus_other (i : Nat) (e : List Byte) {m : Nat} (h : m ≠ c) :
    busSeen i c (pollBus i e s m) = busSeen i c s := by
  unfold pollBus
  split
  · rw [busSeen_trySend_other _ i h, busSeen, pollDue_setPollDue, if_neg (by omega)]
    rfl
  · rfl

section
variable {s} {t : State} {i : Nat} (h : busSeen i c t = busSeen i c s)
include h

theorem busSeen_tx : kvGet (fun _ => none) t.can.tx c = kvGet (fun _ => none) s.can.tx c := congrArg (·.1) h

theorem busSeen_pollDue : t.pollDue i c = s.pollDue i c := congrArg (·.2.1) h

theorem busSeen_config {f : Fld} (hf : f.addr = 0x0D0000 + 256 * c) : t.fb f = s.fb f :=
  fb_of_fg f (fg_of_rd (by rw [hf]; exact congrArg (·.2.2.1) h))

theorem busSeen_canListens : t.canListens c = s.canListens c := by
  have hstat : t.canState c = s.canState c := fg_of_rd (congrArg (·.2.2.2.1) h)
  have hpower : t.powerState = s.powerState := fg_of_rd (congrArg (·.2.2.2.2.1) h)
  have hest : t.est = s.est := congrArg (·.2.2.2.2.2) h
  have hawake : t.awake = s.awake := congrArg (fun n => decide (2 ≤ n)) hpower
  rw [State.canListens, State.canListens, busSeen_config h rfl, hstat, hawake, hpower, hest]

end

section
variable {i : Nat} {e : List Byte} (hmask : bitOf (byteAt e 8) c = true) (hlisten : s.fb (Fld.CAN_C_CFG_LISTEN c) = false)
include hmask hlisten

theorem pollBus_takes (hen : s.fb (Fld.CAN_C_CFG_EN c) = true) :
    pollBus i e s c = trySend i c (setPollDue i c (some (pollFrame e)) s) :=
  if_pos (by simp [hmask, hen, hlisten])

theorem pollBus_sends (hlistens : s.canListens c = true) :
    kvGet (fun _ => none) (pollBus i e s c).can.tx c = some (pollFrame e) := by
  have hen : s.fb (Fld.CAN_C_CFG_EN c) = true := by
    simp only [State.canListens, Bool.and_eq_true] at hlistens
    exact hlistens.1.1
  have hdue : (setPollDue i c (some (pollFrame e)) s).pollDue i c = some (pollFrame e) := by
    rw [pollDue_setPollDue, if_pos rfl]
  rw [pollBus_takes s hmask hlisten hen, trySend_sends _ hdue hlistens hlisten, sendPoll_can]
  exact kvGet_set_same (fun _ => none) _ c (some (pollFrame e))

theorem pollBus_waits (hen : s.fb (Fld.CAN_C_CFG_EN c) = true) (hlistens : s.canListens c = false) :
    (pollBus i e s c).pollDue i c = some (pollFrame e) := by
  rw [pollBus_takes s hmask hlisten hen, trySend_waits (setPollDue i c (some (pollFrame e)) s) i hlistens, pollDue_setPollDue, if_pos rfl]

end

/-- A bus sees the poll as it would if no other bus polled. -/
theorem canPoll_leaves {i : Nat} (hcount : i < s.fmtCount) (hperiod : u16At (s.fmt i) 18 ≠ 0)
    (hon : s.awake = true ∨ (s.powerState = 1 ∧ s.est.burst = true)) (hc : c < 2)
    (hmask : bitOf (byteAt (s.fmt i) 8) c = true) (hlisten : s.fb (Fld.CAN_C_CFG_LISTEN c) = false) :
    (s.canListens c = true → kvGet (fun _ => none) (canPoll i s).can.tx c = some (pollFrame (s.fmt i))) ∧
    (s.fb (Fld.CAN_C_CFG_EN c) = true → s.canListens c = false →
      (canPoll i s).pollDue i c = some (pollFrame (s.fmt i))) := by
  have hother : ∀ t m, m < 2 → m ≠ c → busSeen i c (pollBus i (s.fmt i) t m) = busSeen i c t :=
    fun t m _ hm => busSeen_pollBus_other t i _ hm
  have hbefore := foldl_range_before (busSeen i c) (pollBus i (s.fmt i)) hc hother s
  have hat := foldl_range_at (busSeen i c) (pollBus i (s.fmt i)) hc hother s
  have hsilent := (busSeen_config hbefore rfl).trans hlisten
  rw [canPoll_polls s hcount hperiod hon]
  refine ⟨fun hlistens => ?_, fun hen hdeaf => ?_⟩
  · rw [busSeen_tx hat]
    exact pollBus_sends _ hmask hsilent ((busSeen_canListens hbefore).trans hlistens)
  · rw [busSeen_pollDue hat]
    exact pollBus_waits _ hmask hsilent ((busSeen_config hbefore rfl).trans hen) ((busSeen_canListens hbefore).trans hdeaf)

/-! ### Recovery from bus-off (R323) -/

/-- Error-active with both counters at 0. -/
def CanCleared (c : Nat) (s : State) : Prop :=
  s.canState c = 0 ∧ s.fg (Fld.CAN_C_STAT_TEC c) = 0 ∧ s.fg (Fld.CAN_C_STAT_REC c) = 0

theorem canErrorState_cleared : CanCleared c (canErrorState c 0 0 s) :=
  ⟨canErrorState_canState s 0 0, canErrorState_tec s 0 0, canErrorState_rec s 0 0⟩

/-- A success takes nothing from a TEC of 0. -/
theorem trySend_cleared (i : Nat) {s : State} (h : CanCleared c s) : CanCleared c (trySend i c s) := by
  have ⟨_, htec, hrec⟩ := h
  rcases trySend_cases s i c with hs | ⟨f, hs⟩
  · rwa [hs]
  · have htec' : (setPollDue i c none s).fg (Fld.CAN_C_STAT_TEC c) = 0 := htec
    have hrec' : (setPollDue i c none s).fg (Fld.CAN_C_STAT_REC c) = 0 := hrec
    rw [hs, sendPoll_eq, htec', hrec']
    exact canErrorState_cleared _

theorem busOffEnd_cleared (h : s.canState c = 2) : CanCleared c (busOffEnd c s) := by
  rw [busOffEnd, if_pos h]
  exact List.foldlRecOn _ _ (canErrorState_cleared s) fun _ ht i _ => trySend_cleared i ht

/-! ### Bursts in WATCH (R325) -/

theorem watchBurst_begins (hwatch : s.powerState = 1) (hidle : s.est.burst = false) : watchBurst s = burstBegin s := by
  rw [watchBurst, if_neg (not_not.2 hwatch), if_neg (by simp [hidle])]

theorem watchBurst_waits (hwatch : s.powerState = 1) (hburst : s.est.burst = true) :
    watchBurst s = s.setEst { s.est with burstDue := true } := by
  rw [watchBurst, if_neg (not_not.2 hwatch), if_pos hburst]

end Sys2Proof.Machine
end

section
/-!
PROOFS. Received CAN frames (R331 to R335): what a frame counts, and that decoding and delivery leave the counts alone.
-/
namespace Sys2Proof.Machine

variable (s : State) {c : Nat}

/-! ### The error counters at a frame (R323) -/

theorem canReceived_cases (c : Nat) : canReceived c s = s ∨ ∃ t r k, canReceived c s = canErrorState c t r (s.setFree k) := by
  unfold canReceived
  extract_lets r t
  split
  · exact .inl rfl
  · split
    · exact .inr ⟨t, r - 1, s.free, rfl⟩
    · exact .inr ⟨t, _, _, rfl⟩

theorem canReceived_rd {a : Nat} (h : a ≠ 0x0D000C + 256 * c) : (canReceived c s).rd a = s.rd a := by
  rcases canReceived_cases s c with hs | ⟨t, r, k, hs⟩
  · rw [hs]
  · rw [hs, canErrorState_rd _ _ _ h]
    rfl

theorem canReceived_image (c : Nat) : (canReceived c s).image = s.image := by
  rcases canReceived_cases s c with hs | ⟨t, r, k, hs⟩
  · rw [hs]
  · rw [hs, (canErrorState_beside _ _ _).2.2]
    rfl

/-! ### What a frame counts (R331) -/

/-- The entries that match the frame. -/
def frameHits (c frame : Nat) (s : State) : List Nat :=
  (List.range s.fmtCount).filter (fun i => fmtMatches (s.fmt i) c frame)

/-- The frame is counted, and counted again where an entry matches. -/
def frameCounted (c : Nat) (hits : List Nat) (s : State) : State :=
  let s := s.fs (Fld.CAN_C_CNT_RX c) (s.fg (Fld.CAN_C_CNT_RX c) + 1)
  if hits.isEmpty then s else s.fs (Fld.CAN_C_CNT_MATCH c) (s.fg (Fld.CAN_C_CNT_MATCH c) + 1)

/-- The entries of `hits` decode the frame; the first module decoded. -/
def frameDecoded (c frame : Nat) (d : List Byte) (hits : List Nat) (s : State) : Option (Option Nat) × State :=
  hits.foldl (fun (a : Option (Option Nat) × State) i =>
    let x := decodeEntry c (s.fmt i) d (frame % 2 ^ 29) a.2
    (some (a.1.getD x.1), x.2)) (none, s)

/-- The frame is decoded and goes to the receive queue that an entry or the controller names. -/
def frameRouted (c frame : Nat) (esi : Bool) (d : List Byte) (hits : List Nat) (s : State) : State :=
  let r := frameDecoded c frame d hits s
  let module := (r.1.getD none).getD 0xFF
  let entry := hits.headD 0xFF
  match hits.find? (fun i => byteAt (s.fmt i) 16 != 0xFF) with
  | some i => mqDeliver (byteAt (s.fmt i) 16) c frame entry module esi d r.2
  | none => if s.fb (Fld.CAN_C_CFG_DEFEN c) then mqDeliver (s.fg (Fld.CAN_C_CFG_DEFMQ c)) c frame entry module esi d r.2
      else r.2

theorem frameHits_of_image {s t : State} (h : t.image = s.image) (c frame : Nat) : frameHits c frame t = frameHits c frame s := by
  unfold frameHits State.fmtCount State.fmt
  rw [sec_of_image h]

theorem frameReceived_deaf {sub : Nat} (h : (aclkTo sub s).canListens c = false) (frame : Nat) (esi remote : Bool)
    (data : List Byte) : frameReceived c frame esi remote data sub s = aclkTo sub s := if_pos (.inl (by simp [h]))

section
variable {frame : Nat} {sub : Nat} (hlistens : (aclkTo sub s).canListens c = true) (hclassic : bitOf frame 30 = false)
include hlistens hclassic

theorem frameReceived_remote (esi : Bool) (data : List Byte) :
    frameReceived c frame esi true data sub s = canReceived c (aclkTo sub s) := by
  unfold frameReceived
  rw [if_neg (by simp [hlistens, hclassic])]
  rfl

theorem frameReceived_data (esi : Bool) (data : List Byte) :
    frameReceived c frame esi false data sub s =
      frameRouted c frame esi (data.take 64) (frameHits c frame (aclkTo sub s))
        (frameCounted c (frameHits c frame (aclkTo sub s)) (canReceived c (aclkTo sub s))) := by
  rw [← frameHits_of_image (canReceived_image (aclkTo sub s) c)]
  unfold frameReceived
  rw [if_neg (by simp [hlistens, hclassic])]
  rfl

end

theorem frameHits_isEmpty {frame : Nat} :
    (frameHits c frame s).isEmpty = true ↔ ∀ i < s.fmtCount, fmtMatches (s.fmt i) c frame = false := by
  simp [frameHits, List.filter_eq_nil_iff]

theorem frameCounted_rx (hits : List Nat) : (frameCounted c hits s).fg (Fld.CAN_C_CNT_RX c) =
    (s.fg (Fld.CAN_C_CNT_RX c) + 1) % 2 ^ (Fld.CAN_C_CNT_RX c).width := by
  unfold frameCounted
  extract_lets t
  have hrx : t.fg (Fld.CAN_C_CNT_RX c) = (s.fg (Fld.CAN_C_CNT_RX c) + 1) % 2 ^ (Fld.CAN_C_CNT_RX c).width :=
    fg_fs_same _ _ _ (Nat.le_of_ble_eq_true rfl)
  split
  · exact hrx
  · rw [fg_fs_other _ _ _ _ (Nat.le_of_ble_eq_true rfl) (.inr (.inl (Nat.le_of_ble_eq_true rfl))), hrx]

theorem frameCounted_match (hits : List Nat) : (frameCounted c hits s).fg (Fld.CAN_C_CNT_MATCH c) =
    if hits.isEmpty then s.fg (Fld.CAN_C_CNT_MATCH c)
    else (s.fg (Fld.CAN_C_CNT_MATCH c) + 1) % 2 ^ (Fld.CAN_C_CNT_MATCH c).width := by
  unfold frameCounted
  extract_lets t
  have hmatch : t.fg (Fld.CAN_C_CNT_MATCH c) = s.fg (Fld.CAN_C_CNT_MATCH c) :=
    fg_fs_other _ _ _ _ (Nat.le_of_ble_eq_true rfl) (.inr (.inr (Nat.le_of_ble_eq_true rfl)))
  split
  · exact hmatch
  · rw [fg_fs_same _ _ _ (Nat.le_of_ble_eq_true rfl), hmatch]

/-! ### Decoding and delivery leave the counts alone (R332 to R336) -/

/-- A count of frames: neither a word of the queues nor one that decoding writes. -/
def CountWord (a : Nat) : Prop := a = 0x0D0010 ∨ a = 0x0D0110

theorem countWord_cnt (hc : c < 2) : CountWord (0x0D0010 + 256 * c) := by
  unfold CountWord
  omega

variable {a : Nat}

theorem finc_rd_other {f : Fld} (h : a ≠ f.addr) : (s.finc f).rd a = s.rd a := rd_fs_other _ _ _ _ h

theorem setEMod_rd (m : Nat) (v : EMod) : (s.setEMod m v).rd a = s.rd a := (rfl)

theorem keepValue_rd (m k : Nat) (v : Int) (pres : Nat) : (keepValue m k v pres s).rd a = s.rd a := (rfl)

section
variable (ha : CountWord a)
include ha

theorem decodeField_rd (m base pres : Nat) (d f : List Byte) : (decodeField m base pres d f s).rd a = s.rd a := by
  have hflag : a ≠ (modFlag m 6).addr := by
    simp only [CountWord] at ha
    simp only [modFlag, Reg.EST_M_FLAG]
    omega
  unfold decodeField
  extract_lets q v t
  split
  · rfl
  · split
    · refine foldl_field (fun t : State => t.rd a) _ (fun t r => ?_) _ s
      dsimp only
      split
      · exact keepValue_rd _ _ _ _ _
      · rfl
    · split
      · exact keepValue_rd _ _ _ _ _
      · split
        · exact rd_fs_other _ _ _ _ hflag
        · rfl

theorem decodeEntry_rd (e d : List Byte) (id : Nat) : (decodeEntry c e d id s).2.rd a = s.rd a := by
  have herr : a ≠ 0x0D0014 + 256 * c := by
    simp only [CountWord] at ha
    omega
  unfold decodeEntry
  extract_lets m pres base t x u
  split
  · exact finc_rd_other s herr
  · split
    · exact finc_rd_other s herr
    · have ht : t.rd a = s.rd a := foldl_field (fun t : State => t.rd a) _ (fun t f => decodeField_rd t ha _ _ _ _ f) _ s
      have hpres : a ≠ (presFld m).addr := by
        simp only [CountWord] at ha
        simp only [presFld, Reg.CAN_PRES]
        omega
      show u.rd a = s.rd a
      rw [← ht]
      unfold u
      split
      · rfl
      · rw [setEMod_rd, rd_fs_other _ _ _ _ hpres]

theorem frameDecoded_rd (frame : Nat) (d : List Byte) (hits : List Nat) :
    (frameDecoded c frame d hits s).2.rd a = s.rd a :=
  foldl_field (fun x : Option (Option Nat) × State => x.2.rd a) _ (fun x _ => decodeEntry_rd x.2 ha _ d _) hits (none, s)

theorem mqDeliver_rd {q : Nat} (hq : q < 256) (frame entry module : Nat) (esi : Bool) (d : List Byte) :
    (mqDeliver q c frame entry module esi d s).rd a = s.rd a := by
  have hlast : 48 + q < 304 := Nat.add_lt_add_left hq 48
  have hqueue : ∀ k < 16, a ≠ 0x001000 + k + 32 * (48 + q) := by
    simp only [CountWord] at ha
    omega
  unfold mqDeliver
  extract_lets n t
  split
  · have hdrop : (s.finc (Fld.SYS_Q_STAT_DROP n)).rd a = s.rd a := finc_rd_other s (hqueue 12 (by decide))
    split
    · exact (rd_fs_other _ _ _ _ (hqueue 12 (by decide))).trans hdrop
    · exact hdrop
  · unfold qPush
    extract_lets k t
    rw [rd_fs_other _ _ _ _ (by exact hqueue 4 (by decide))]
    exact setSramBytes_field s (fun t : State => t.rd a) (fun _ _ _ => rfl) _ _

theorem frameRouted_rd (frame : Nat) (esi : Bool) (d : List Byte) (hits : List Nat) :
    (frameRouted c frame esi d hits s).rd a = s.rd a := by
  have hdecoded := frameDecoded_rd s ha (c := c) frame d hits
  unfold frameRouted
  extract_lets r module entry
  split
  · rw [mqDeliver_rd _ ha (byteAt_lt _ _), hdecoded]
  · have hqueue : s.fg (Fld.CAN_C_CFG_DEFMQ c) < 256 := (fldOf_lt _ 4 3).trans (by decide)
    split
    · rw [mqDeliver_rd _ ha hqueue, hdecoded]
    · exact hdecoded

end

/-- R331: a frame that is heard counts, once more where an entry matches. -/
theorem frameReceived_counts {frame sub : Nat} (hc : c < 2) (hlistens : (aclkTo sub s).canListens c = true)
    (hclassic : bitOf frame 30 = false) (esi : Bool) (data : List Byte) :
    (frameReceived c frame esi false data sub s).fg (Fld.CAN_C_CNT_RX c) =
      ((aclkTo sub s).fg (Fld.CAN_C_CNT_RX c) + 1) % 2 ^ (Fld.CAN_C_CNT_RX c).width ∧
    (frameReceived c frame esi false data sub s).fg (Fld.CAN_C_CNT_MATCH c) =
      if (frameHits c frame (aclkTo sub s)).isEmpty then (aclkTo sub s).fg (Fld.CAN_C_CNT_MATCH c)
      else ((aclkTo sub s).fg (Fld.CAN_C_CNT_MATCH c) + 1) % 2 ^ (Fld.CAN_C_CNT_MATCH c).width := by
  have hword := countWord_cnt hc
  have hcount : (canReceived c (aclkTo sub s)).rd (0x0D0010 + 256 * c) = (aclkTo sub s).rd (0x0D0010 + 256 * c) :=
    canReceived_rd _ (by omega)
  rw [frameReceived_data s hlistens hclassic]
  refine ⟨?_, ?_⟩
  · rw [fg_of_rd (by exact frameRouted_rd _ hword _ _ _ _), frameCounted_rx, fg_of_rd (by exact hcount)]
  · rw [fg_of_rd (by exact frameRouted_rd _ hword _ _ _ _), frameCounted_match, fg_of_rd (by exact hcount)]

/-! ### The statement -/

/-- Settles O38: a controller's commands by the case that their conditions name; a poll by what its bus shows before and
after. -/
theorem canControllersCount : Obligations.CanControllersCount := by
  unfold Obligations.CanControllersCount
  refine ⟨?enable, ?frame, ?poll, ?burst, ?recovery, ?error, ?level, ?presence⟩
  case enable =>
    intro p c s hreach
    exact ⟨fun h => by rw [exec_canEnable s true hreach, canEnable_illegal s h],
      fun h => by rw [exec_canEnable s true hreach, canEnable_legal s h],
      by rw [exec_canEnable s false hreach, canEnable_off]⟩
  case frame =>
    intro c frame esi data sub s hlive v
    have hexec : ∀ remote, exec (.canFrameReceived c frame esi remote data sub) s =
        .next (finish (frameReceived c frame.toNat esi remote data sub s)) := fun _ => done_next _ hlive
    refine ⟨fun hdeaf remote => by rw [hexec, frameReceived_deaf s hdeaf], fun hlistens hclassic => ⟨?_, _, hexec false, ?_⟩⟩
    · rw [hexec, frameReceived_remote s hlistens hclassic]
    · obtain ⟨hrx, hmatch⟩ := frameReceived_counts s c.isLt hlistens hclassic esi data
      refine ⟨hrx, fun hnone => ?_, fun ⟨i, hi, hhit⟩ => ?_⟩
      · rw [hmatch, if_pos ((frameHits_isEmpty _).2 hnone)]
      · rw [hmatch, if_neg fun hempty => ?_]
        exact Bool.false_ne_true (((frameHits_isEmpty _).1 hempty i hi).symm.trans hhit)
  case poll =>
    intro i s hlive hcount hperiod hon f
    exact ⟨canPoll i s, done_next _ hlive, fun c hc hmask hlisten => canPoll_leaves s hcount hperiod hon hc hmask hlisten⟩
  case burst =>
    intro s hlive hwatch
    have hexec : exec .canWatchBurst s = .next (finish (watchBurst s)) := done_next _ hlive
    exact ⟨fun h => by rw [hexec, watchBurst_begins s hwatch h]; rfl, fun h => by rw [hexec, watchBurst_waits s hwatch h]⟩
  case recovery =>
    intro c s hlive hbusOff
    exact ⟨busOffEnd c s, done_next _ hlive, busOffEnd_cleared s hbusOff⟩
  case error =>
    intro c kind s hlive hlistens hlisten t r
    have hexec : exec (.canBusError c kind) s = .next (finish (canError c kind s)) := done_next _ hlive
    rw [hexec, canError_counts s hlistens hlisten]
  case level =>
    intro c t r s u
    exact ⟨canErrorState_tec s t r, canErrorState_rec s t r, canErrorState_canState s t r, canErrorState_busOff s r⟩
  case presence =>
    intro m s hlive hawake
    have hexec : exec (.presenceTimeout m) s = .next (finish (presenceTimeout m s)) := done_next _ hlive
    rw [hexec, presenceTimeout, if_pos hawake]

end Sys2Proof.Machine
end

section
/-!
PROOFS. The estimator's updates (R337, R345 to R356): what evaluating strings and modules and showing the results leave
alone.
-/
namespace Sys2Proof.Machine

/-! ### What the estimator's steps leave alone -/

/-- A field of the estimator's registers other than RUN and the count of updates. -/
abbrev EstFld (f : Fld) : Prop :=
  0x190000 ≤ f.addr ∧ f.addr ≠ Reg.EST_UPDCNT ∧ f.lo + f.width ≤ 32 ∧ (f.addr ≠ Fld.EST_STAT_RUN.addr ∨ 1 ≤ f.lo)

/-- `t` differs from `s` in no more than the estimator's modules and strings, a request to persist them, and registers of
the estimator other than RUN and the count of updates. -/
structure EstKeeps (s t : State) : Prop where
  rtc : t.rtc = s.rtc
  est : t.est = { s.est with mods := t.est.mods, strs := t.est.strs, nvReq := t.est.nvReq }
  rd : ∀ a, a < 0x190000 ∨ a = Reg.EST_UPDCNT → t.rd a = s.rd a
  run : t.fg Fld.EST_STAT_RUN = s.fg Fld.EST_STAT_RUN

namespace EstKeeps

variable {s t u : State}

theorem unchanged (s : State) : EstKeeps s s := ⟨rfl, rfl, fun _ _ => rfl, rfl⟩

theorem trans (h : EstKeeps s t) (h' : EstKeeps t u) : EstKeeps s u :=
  ⟨h'.rtc.trans h.rtc, by rw [h'.est, h.est], fun a ha => (h'.rd a ha).trans (h.rd a ha), h'.run.trans h.run⟩

theorem setEMod (h : EstKeeps s t) (m : Nat) (v : EMod) : EstKeeps s (t.setEMod m v) :=
  h.trans ⟨rfl, rfl, fun _ _ => rfl, rfl⟩

theorem setEStr (h : EstKeeps s t) (n : Nat) (v : EStr) : EstKeeps s (t.setEStr n v) :=
  h.trans ⟨rfl, rfl, fun _ _ => rfl, rfl⟩

theorem raise (h : EstKeeps s t) (ev : Nat) : EstKeeps s (t.raise ev) :=
  h.trans ⟨State.raise_rtc t ev, by rw [State.raise_est], fun a _ => raise_rd t ev a, raise_fg t ev _⟩

theorem fs {f : Fld} (h : EstKeeps s t) (v : Nat) (hf : EstFld f) : EstKeeps s (t.fs f v) := by
  obtain ⟨hlow, hcount, hfit, hrun⟩ := hf
  refine h.trans ⟨rfl, rfl, fun a ha => rd_fs_other t f v a ?_, fg_fs_other t f _ v hfit ?_⟩
  · rcases ha with ha | rfl
    · exact (ha.trans_le hlow).ne
    · exact hcount.symm
  · exact hrun.imp Ne.symm .inl

/-- A field of entry `m` of one of the tables of strings and modules. -/
theorem fs_item {a lo width m : Nat} (h : EstKeeps s t) (v : Nat) (hf : 0x190100 ≤ a ∧ lo + width ≤ 32 := by decide) :
    EstKeeps s (t.fs ⟨a + 32 * m, lo, width⟩ v) := by
  refine h.fs v ⟨?_, ?_, hf.2, .inl ?_⟩
  · dsimp only
    omega
  · simp only [Reg.EST_UPDCNT]
    omega
  · simp only [Fld.EST_STAT_RUN]
    omega

theorem wr_item {a m : Nat} (h : EstKeeps s t) (v : Word) (ha : 0x190100 ≤ a := by decide) :
    EstKeeps s (t.wr (a + 32 * m) v) := by
  refine h.trans ⟨rfl, rfl, fun b hb => rd_wr_other t _ b v ?_, fg_wr_other t _ v _ ?_⟩
  · simp only [Reg.EST_UPDCNT] at hb
    omega
  · simp only [Fld.EST_STAT_RUN]
    omega

theorem foldl {α : Type} {f : State → α → State} (h : EstKeeps s t) (l : List α) (hf : ∀ u x, EstKeeps u (f u x)) :
    EstKeeps s (l.foldl f t) :=
  List.foldlRecOn l f h fun u hu x _ => hu.trans (hf u x)

end EstKeeps

open EstKeeps (unchanged)

variable (s : State)

/-! ### One module at one update (R339, R346 to R353) -/

theorem disagree_keeps (m : Nat) : EstKeeps s (disagree m s) :=
  (((unchanged s).fs_item 1).fs_item 1).fs _ (by decide)

theorem identity_keeps (m : Nat) : EstKeeps s (identity m s) := by
  unfold identity
  extract_lets x
  split
  · extract_lets v
    split
    · exact (unchanged s).setEMod m _
    · split
      · exact unchanged s
      · exact (((unchanged s).setEMod m _).fs_item 1).raise 165
  · exact unchanged s

theorem learn_keeps (m : Nat) (sp c : Span) : EstKeeps s (learn m sp c s) := by
  unfold learn
  extract_lets x
  split
  · extract_lets
    split
    · exact unchanged s
    · split
      · exact ((((unchanged s).setEMod m _).fs_item 0).fs_item 1).raise 164
      · exact (unchanged s).fs_item _
  · exact unchanged s

theorem modUpdate_keeps (u : Upd) (m : Nat) : EstKeeps s (modUpdate u m s) := by
  unfold modUpdate
  extract_lets swapped t x reading t'
  have hnoted : EstKeeps s t' := (identity_keeps s m).fs_item _
  clear_value t' reading
  split
  · split
    · exact hnoted
    · exact hnoted.setEMod m _
  · split
    extract_lets soc y v
    split
    · exact (hnoted.setEMod m _).trans (disagree_keeps _ m)
    · exact hnoted.setEMod m _

theorem resist_keeps (i : Rat) (m : Nat) : EstKeeps s (resist i m s) := by
  unfold resist
  extract_lets x
  split
  · exact unchanged s
  · exact (unchanged s).setEMod m _

/-! ### Persistence that falls due (R358) -/

theorem nvTrigger_keeps : EstKeeps s (nvTrigger s) := by
  have hasked : EstKeeps s (s.setEst { s.est with nvReq := true }) := ⟨rfl, rfl, fun _ _ => rfl, rfl⟩
  unfold nvTrigger
  split
  · extract_lets _ t
    split
    · exact hasked.fs 1 (by decide)
    · exact hasked
  · exact unchanged s

theorem nvDue_keeps : EstKeeps s (nvDue s) := by
  unfold nvDue
  split
  · exact (unchanged s).fs 1 (by decide)
  · exact unchanged s

/-! ### A string at one update, and host values (R345, R351, R356) -/

theorem stringUpdate_keeps (ms : Rat) (n : Nat) : EstKeeps s (stringUpdate ms n s) := by
  unfold stringUpdate
  extract_lets x q dq inom i quiet restMs rest was entry u mods t1 t2 step base span t3 ih t4 cand t5 t6
  have h1 : EstKeeps s t1 := by
    unfold t1
    split
    · exact (unchanged s).foldl _ fun t m => learn_keeps t m _ _
    · exact unchanged s
  have h2 : EstKeeps s t2 := by
    unfold t2
    split
    · exact h1.foldl _ fun t m => (unchanged t).setEMod m _
    · exact unchanged s
  have h3 : EstKeeps s t3 := h2.foldl _ fun t m => modUpdate_keeps t u m
  have h4 : EstKeeps s t4 := by
    unfold t4
    split
    · exact h3.foldl _ fun t m => resist_keeps t _ m
    · exact h3
  have h5 : EstKeeps s t5 := h4.setEStr n _
  have h6 : EstKeeps s t6 := (h5.fs _ (by decide)).fs_item _
  split
  · exact h6.trans (nvTrigger_keeps t6)
  · exact h6

theorem hostValue_keeps (w : Nat × Word) : EstKeeps s (hostValue w s) := by
  unfold hostValue
  extract_lets m x
  split
  · exact (unchanged s).setEMod m _
  · exact (unchanged s).setEMod m _

/-! ### The registers (R354, R355) -/

theorem moduleRegs_keeps (m : Nat) : EstKeeps s (moduleRegs m s) := by
  unfold moduleRegs
  extract_lets x low high c s1 s2 s3 s4 t s5 s6 s7
  have h1 : EstKeeps s s1 := ((unchanged s).fs_item _).fs_item _
  have h2 : EstKeeps s s2 := (h1.fs_item _).fs_item _
  have h3 : EstKeeps s s3 := (h2.fs_item _).fs_item _
  have h4 : EstKeeps s s4 := (h3.fs_item _).fs_item _
  have h5 : EstKeeps s s5 := (h4.fs_item _).fs_item _
  have h6 : EstKeeps s s6 := h5.wr_item _
  have h7 : EstKeeps s s7 := (h6.fs_item _).fs_item _
  exact h7.fs_item _

theorem stringRegs_keeps (n : Nat) : EstKeeps s (stringRegs n s) := by
  unfold stringRegs
  extract_lets ms stale v g s1 s2 s3 s4 s5 s6 reps lo s7 s8
  have h1 : EstKeeps s s1 := (unchanged s).wr_item _
  have h2 : EstKeeps s s2 := h1.wr_item _
  have h3 : EstKeeps s s3 := h2.wr_item _
  have h4 : EstKeeps s s4 := h3.wr_item _
  have h5 : EstKeeps s s5 := (h4.fs_item _).fs_item _
  have h6 : EstKeeps s s6 := (h5.fs_item _).fs_item _
  have h7 : EstKeeps s s7 := (h6.fs_item _).fs_item _
  have h8 : EstKeeps s s8 := (h7.fs_item _).fs _ (by decide)
  exact h8.fs_item _

end Sys2Proof.Machine
end

section
/-!
PROOFS. The estimator's commands (R325, R346, R350, R356 to R358): its start, its updates and the end of a burst in WATCH,
the write of learned values, and host values.
-/
namespace Sys2Proof.Machine

open EstKeeps (unchanged)

variable (s : State)

/-- The registers of every module and string show the estimates. -/
def estShown (s : State) : State :=
  let s := s.modules.foldl (fun s m => moduleRegs m s) s
  s.strings.foldl (fun s n => stringRegs n s) s

theorem estShown_keeps : EstKeeps s (estShown s) :=
  ((unchanged s).foldl _ fun t m => moduleRegs_keeps t m).foldl _ fun t n => stringRegs_keeps t n

/-! ### The start (R337, R350, R359) -/

/-- No module is present. -/
def presenceCleared (s : State) : State := (List.range 4).foldl (fun s i => s.wr (Reg.CAN_PRES i) 0) s

/-- Every module begins as its nameplate says, and every string from its present charge; where values are persisted, a
valid slot restores the modules. -/
def estPrepared (s : State) : State :=
  let s := s.modules.foldl (fun s m => s.setEMod m { emod0 with
    cap := s.nameplate m, sigC := 2 / 10, r := curveRcell (s.modCurveB m), dec := (s.emod m).dec }) s
  let a := s.estSlotSeq 0
  let b := s.estSlotSeq 1
  let k := if a < b then 1 else 0
  let s := if s.fb Fld.EST_CFG_PERS ∧ 0 < max a b then
      let s := s.modules.foldl (fun s m => restoreModule (estSlotAt k) m s) s
      ((s.fs Fld.EST_STAT_RESTORED 1).fs Fld.EST_NV_SEQ (max a b)).fs Fld.EST_NV_SLOT k
    else s
  s.strings.foldl (fun s n => s.setEStr n { estr0 with q := s.netCharge n, worst := s.setClass n }) s

/-- RUN is set, with no update counted. -/
def estRunning (s : State) : State :=
  ((s.setEst { s.est with last := s.aclk, nvReq := false, nvNow := false }).fs Fld.EST_STAT_RUN 1).wr Reg.EST_UPDCNT 0

theorem estStart_starts (hstopped : s.fb Fld.EST_STAT_RUN = false) (himage : s.image.isSome = true)
    (hfirmware : s.rst.firmware = true) : estStart s = estShown (estRunning (estPrepared (presenceCleared s))) := by
  unfold estStart
  rw [if_neg (by simp [hstopped, hfirmware, Option.isSome_iff_ne_none.1 himage])]
  rfl

theorem presenceCleared_rd {i : Nat} (hi : i < 4) : (presenceCleared s).rd (Reg.CAN_PRES i) = 0 := by
  have hother : ∀ (t : State), ∀ m < 4, m ≠ i → (t.wr (Reg.CAN_PRES m) 0).rd (Reg.CAN_PRES i) = t.rd (Reg.CAN_PRES i) := by
    refine fun t m _ hm => rd_wr_other t _ _ 0 ?_
    unfold Reg.CAN_PRES
    omega
  exact (foldl_range_at (fun t : State => t.rd (Reg.CAN_PRES i)) _ hi hother s).trans (rd_wr_same _ _ _)

theorem presenceCleared_beside : (presenceCleared s).est = s.est ∧ (presenceCleared s).rtc = s.rtc :=
  ⟨foldl_field State.est _ (fun t i => State.wr_est t (Reg.CAN_PRES i) 0) _ s,
    foldl_field State.rtc _ (fun t i => State.wr_rtc t (Reg.CAN_PRES i) 0) _ s⟩

theorem restoreModule_keeps (a m : Nat) : EstKeeps s (restoreModule a m s) := by
  unfold restoreModule
  extract_lets b time mins g x t
  split
  · exact unchanged s
  · exact ((unchanged s).setEMod m _).fs_item _

theorem estPrepared_keeps : EstKeeps s (estPrepared s) := by
  unfold estPrepared
  extract_lets x t a b k t' t''
  have hnameplate : EstKeeps s t := (unchanged s).foldl _ fun u m => (unchanged u).setEMod m _
  have hrestored : EstKeeps s t'' := by
    unfold t''
    split
    · have hmodules : EstKeeps s t' := hnameplate.foldl _ fun u m => restoreModule_keeps u _ m
      exact ((hmodules.fs _ (by decide)).fs _ (by decide)).fs _ (by decide)
    · exact hnameplate
  exact hrestored.foldl _ fun u n => (unchanged u).setEStr n _

theorem estRunning_run : (estRunning s).fg Fld.EST_STAT_RUN = 1 := by
  rw [estRunning, fg_wr_other _ _ _ _ (by decide), fg_fs_of_lt _ _ _ (by decide) (by decide)]

theorem estRunning_rd {a : Nat} (h : a < 0x190000) : (estRunning s).rd a = s.rd a := by
  have hcount : a ≠ Reg.EST_UPDCNT := by
    unfold Reg.EST_UPDCNT
    omega
  have hrun : a ≠ Fld.EST_STAT_RUN.addr := by
    simp only [Fld.EST_STAT_RUN]
    omega
  rw [estRunning, rd_wr_other _ _ _ _ hcount, rd_fs_other _ _ _ _ hrun]
  rfl

theorem estStart_leaves (hstopped : s.fb Fld.EST_STAT_RUN = false) (himage : s.image.isSome = true)
    (hfirmware : s.rst.firmware = true) :
    (estStart s).fg Fld.EST_STAT_RUN = 1 ∧ (estStart s).rd Reg.EST_UPDCNT = 0 ∧ (estStart s).est.last = s.aclk ∧
    (estStart s).est.host = s.est.host ∧ ∀ i < 4, (estStart s).rd (Reg.CAN_PRES i) = 0 := by
  have hprepared := estPrepared_keeps (presenceCleared s)
  have hshown := estShown_keeps (estRunning (estPrepared (presenceCleared s)))
  obtain ⟨hest, hrtc⟩ := presenceCleared_beside s
  rw [estStart_starts s hstopped himage hfirmware]
  refine ⟨hshown.run.trans (estRunning_run _), (hshown.rd _ (.inr rfl)).trans (rd_wr_same _ _ _), ?_, ?_, fun i hi => ?_⟩
  · rw [hshown.est]
    exact congrArg Rtc.cycles (hprepared.rtc.trans hrtc)
  · rw [hshown.est]
    exact (congrArg Est.host hprepared.est).trans (congrArg Est.host hest :)
  · have hpres : Reg.CAN_PRES i < 0x190000 := by
      unfold Reg.CAN_PRES
      omega
    rw [hshown.rd _ (.inl hpres), estRunning_rd _ hpres, hprepared.rd _ (.inl hpres), presenceCleared_rd s hi]

/-! ### An update (R346, R355, R356) -/

/-- In WATCH the burst that ends counts towards each module's absence (R337). -/
def estAbsence (s : State) : State :=
  if s.powerState = 1 then s.modules.foldl (fun s m => burstEnd m s) s else s

/-- The strings' own estimates, and the host's values after them. -/
def estEvaluated (ms : Rat) (s : State) : State :=
  let s := s.strings.foldl (fun s n => stringUpdate ms n s) s
  s.est.host.foldl (fun s w => hostValue w s) s

/-- The host's values have been taken in, and the update counts. -/
def estCounted (s : State) : State :=
  let s := nvDue (s.setEst { s.est with last := s.aclk, host := [] })
  s.wr Reg.EST_UPDCNT (s.rd Reg.EST_UPDCNT + 1)

/-- The time since the last update, ms. -/
def estElapsed (s : State) : Rat := ((s.aclk - s.est.last : Nat) : Rat) * 1000 / 32768

theorem estUpdate_runs {sub : Nat} (hrun : (aclkTo sub s).fb Fld.EST_STAT_RUN = true)
    (hon : ((aclkTo sub s).awake || ((aclkTo sub s).powerState == 1 && (aclkTo sub s).est.burst)) = true) :
    estUpdate sub s =
      estCounted (estShown (estEvaluated (estElapsed (aclkTo sub s)) (estAbsence (aclkTo sub s)))) := by
  unfold estUpdate estCounted estShown estEvaluated estElapsed estAbsence
  rw [if_neg (by simp [hrun, hon])]

theorem estUpdate_stopped {sub : Nat} (h : (aclkTo sub s).fb Fld.EST_STAT_RUN = false) : estUpdate sub s = aclkTo sub s :=
  if_pos (.inl (by simp [h]))

theorem estUpdate_off {sub : Nat}
    (h : ((aclkTo sub s).awake || ((aclkTo sub s).powerState == 1 && (aclkTo sub s).est.burst)) = false) :
    estUpdate sub s = aclkTo sub s := if_pos (.inr (by rw [h]; rfl))

theorem estEvaluated_keeps (ms : Rat) : EstKeeps s (estEvaluated ms s) :=
  ((unchanged s).foldl _ fun t n => stringUpdate_keeps t ms n).foldl _ fun t w => hostValue_keeps t w

theorem estCounted_count : (estCounted s).rd Reg.EST_UPDCNT = s.rd Reg.EST_UPDCNT + 1 := by
  have hdue := nvDue_keeps (s.setEst { s.est with last := s.aclk, host := [] })
  unfold estCounted
  extract_lets t
  rw [rd_wr_same, hdue.rd _ (.inr rfl)]
  rfl

theorem estCounted_est : (estCounted s).est = { s.est with last := s.aclk, host := [], nvReq := (estCounted s).est.nvReq } := by
  unfold estCounted nvDue
  split <;> rfl

theorem estCounted_last : (estCounted s).est.last = s.aclk := by rw [estCounted_est]

theorem estCounted_host : (estCounted s).est.host = [] := by rw [estCounted_est]

theorem estCounted_rd {a : Nat} (h : a < 0x190000) : (estCounted s).rd a = s.rd a := by
  have hdue := nvDue_keeps (s.setEst { s.est with last := s.aclk, host := [] })
  have hcount : a ≠ Reg.EST_UPDCNT := by
    unfold Reg.EST_UPDCNT
    omega
  unfold estCounted
  extract_lets t
  rw [rd_wr_other _ _ _ _ hcount, hdue.rd _ (.inl h)]
  rfl

/-- What the end of a burst goes by. -/
def burstSeen (s : State) : Nat × Bool × Bool := (s.powerState, s.est.burst, s.est.burstDue)

theorem burstSeen_burstEnd (m : Nat) : burstSeen (burstEnd m s) = burstSeen s := by
  have hpwr : Fld.SYS_PWR_STAT_STATE.addr ≠ (presFld m).addr := by
    simp only [Fld.SYS_PWR_STAT_STATE, presFld, Reg.CAN_PRES]
    omega
  unfold burstEnd
  extract_lets x miss t
  split
  · rw [burstSeen, State.powerState, fg_fs_addr _ _ _ _ hpwr]
    rfl
  · rfl

theorem burstSeen_estAbsence : burstSeen (estAbsence s) = burstSeen s := by
  unfold estAbsence
  split
  · exact foldl_field burstSeen _ burstSeen_burstEnd _ s
  · rfl

theorem EstKeeps.burstSeen {s t : State} (h : EstKeeps s t) : burstSeen t = burstSeen s := by
  have hpower : t.powerState = s.powerState := fg_of_rd (h.rd _ (.inl (by decide)))
  rw [Machine.burstSeen, hpower, h.est]
  rfl

theorem burstSeen_estCounted : burstSeen (estCounted s) = burstSeen s := by
  have hpower : (estCounted s).powerState = s.powerState := fg_of_rd (estCounted_rd s (by decide))
  rw [burstSeen, hpower, estCounted_est]
  rfl

theorem burstSeen_estUpdate (sub : Nat) : burstSeen (estUpdate sub s) = burstSeen (aclkTo sub s) := by
  by_cases hrun : (aclkTo sub s).fb Fld.EST_STAT_RUN = true
  · by_cases hon : ((aclkTo sub s).awake || ((aclkTo sub s).powerState == 1 && (aclkTo sub s).est.burst)) = true
    · rw [estUpdate_runs s hrun hon, burstSeen_estCounted, (estShown_keeps _).burstSeen, (estEvaluated_keeps _ _).burstSeen,
        burstSeen_estAbsence]
    · rw [estUpdate_off s (Bool.eq_false_iff.2 hon)]
  · rw [estUpdate_stopped s (Bool.eq_false_iff.2 hrun)]

/-! ### The end of a burst (R325) -/

theorem watch_of_awake {s : State} (h : s.awake = true) : s.powerState ≠ 1 := by
  have hready : 2 ≤ s.powerState := of_decide_eq_true h
  omega

theorem burstOver_idle (h : s.powerState ≠ 1) : burstOver s = s := if_pos (.inl h)

theorem burstOver_ends (hwatch : s.powerState = 1) (hburst : s.est.burst = true) (hdue : s.est.burstDue = false) :
    burstOver s = burstClocks false (s.setEst { s.est with burst := false }) := by
  have hlater : (burstClocks false (s.setEst { s.est with burst := false })).est.burstDue = false := hdue
  unfold burstOver
  rw [if_neg (by simp [hwatch, hburst])]
  exact if_neg (by simp [hlater])

theorem burstClocks_pll (on : Bool) : (burstClocks on s).fg Fld.CLK_STAT_PLL_LOCK = boolNat on := by
  have hbit : boolNat on < 2 := by cases on <;> decide
  unfold burstClocks
  rw [fg_fs_other _ _ _ _ (by decide) (by decide), fg_fs_of_lt _ _ _ (by decide) hbit]

theorem estimatorUpdate_awake {sub : Nat} (h : (aclkTo sub s).awake = true) :
    estimatorUpdate sub s = estUpdate sub s := by
  have hpower : (estUpdate sub s).powerState = (aclkTo sub s).powerState := congrArg (·.1) (burstSeen_estUpdate s sub)
  exact burstOver_idle _ (hpower ▸ watch_of_awake h)

theorem estimatorUpdate_counts {sub : Nat} (hrun : (aclkTo sub s).fb Fld.EST_STAT_RUN = true)
    (hawake : (aclkTo sub s).awake = true) :
    (estimatorUpdate sub s).rd Reg.EST_UPDCNT = (aclkTo sub s).rd Reg.EST_UPDCNT + 1 ∧
    (estimatorUpdate sub s).est.last = (aclkTo sub s).aclk ∧ (estimatorUpdate sub s).est.host = [] := by
  have hkeeps := (estEvaluated_keeps (aclkTo sub s) (estElapsed (aclkTo sub s))).trans (estShown_keeps _)
  rw [estimatorUpdate_awake s hawake, estUpdate_runs s hrun (by rw [hawake]; rfl), estAbsence,
    if_neg (watch_of_awake hawake)]
  have haclk : (estShown (estEvaluated (estElapsed (aclkTo sub s)) (aclkTo sub s))).aclk = (aclkTo sub s).aclk :=
    congrArg Rtc.cycles hkeeps.rtc
  exact ⟨by rw [estCounted_count, hkeeps.rd _ (.inr rfl)], (estCounted_last _).trans haclk, estCounted_host _⟩

theorem estimatorUpdate_ends {sub : Nat} (hwatch : (aclkTo sub s).powerState = 1)
    (hburst : (aclkTo sub s).est.burst = true) (hdue : (aclkTo sub s).est.burstDue = false) :
    (estimatorUpdate sub s).est.burst = false ∧ (estimatorUpdate sub s).fg Fld.CLK_STAT_PLL_LOCK = 0 := by
  have hseen := burstSeen_estUpdate s sub
  have hpower : (estUpdate sub s).powerState = 1 := (congrArg (·.1) hseen).trans hwatch
  have hlistens : (estUpdate sub s).est.burst = true := (congrArg (·.2.1) hseen).trans hburst
  have hlast : (estUpdate sub s).est.burstDue = false := (congrArg (·.2.2) hseen).trans hdue
  rw [estimatorUpdate, burstOver_ends _ hpower hlistens hlast]
  exact ⟨rfl, burstClocks_pll _ false⟩

/-! ### The write of learned values (R357, R358) -/

theorem estWords_last : (estWords s).getLast? =
    some (estSlotAt s.estTarget + 0x1024, BitVec.ofNat 32 (0xC3000000 + s.estNextSeq)) := by
  unfold estWords
  extract_lets t
  rw [List.getLast?_append]
  rfl

theorem estNvBegin_issues (hpers : s.fb Fld.EST_CFG_PERS = true) (hrun : s.fb Fld.EST_STAT_RUN = true)
    (hseq : s.estNextSeq ≤ 0xFFFFFF) : estNvBegin s = nvIssue wLearned (estWords s)
      (((s.setEst { s.est with nvReq := false, nvNow := false }).fs Fld.EST_NV_WRITING 0).fs Fld.EST_NV_WRITING 1) := by
  unfold estNvBegin
  rw [if_neg (by simp [hpers, hrun]), if_neg (not_lt.2 hseq)]

@[simp] theorem nvIssue_fg (w : Nat) (ws : List (Nat × Word)) (f : Fld) : (nvIssue w ws s).fg f = s.fg f := (rfl)
theorem nvIssue_words (w : Nat) (ws : List (Nat × Word)) :
    (nvIssue w ws s).nvm.words = s.nvm.words ++ ws.map (fun x => (w, x.1, x.2)) := (rfl)
theorem nvIssue_est (w : Nat) (ws : List (Nat × Word)) : (nvIssue w ws s).est = s.est := (rfl)
@[simp] theorem nvEnd_fg (w : Nat) (f : Fld) : (nvEnd w s).fg f = s.fg f := (rfl)

theorem estNvBegin_leaves (hpers : s.fb Fld.EST_CFG_PERS = true) (hrun : s.fb Fld.EST_STAT_RUN = true)
    (hseq : s.estNextSeq ≤ 0xFFFFFF) : (estNvBegin s).fg Fld.EST_NV_WRITING = 1 ∧
    (estNvBegin s).nvm.words = s.nvm.words ++ (estWords s).map (fun x => (wLearned, x.1, x.2)) ∧
    (estNvBegin s).est.nvReq = false := by
  rw [estNvBegin_issues s hpers hrun hseq, nvIssue_fg, fg_fs_of_lt _ _ _ (by decide) (by decide), nvIssue_words,
    nvIssue_est, State.fs_nvm, State.fs_nvm, State.fs_est, State.fs_est, setEst_nvm, setEst_est]
  exact ⟨rfl, rfl, rfl⟩

theorem estSlotSeq_of_mram {s t : State} (h : t.mram = s.mram) (k : Nat) : t.estSlotSeq k = s.estSlotSeq k := by
  unfold State.estSlotSeq State.mramWord State.mramBytes State.mramByte
  rw [h]

/-- The slot that holds the newest values. -/
theorem estSlotSeq_newest : s.estSlotSeq (if s.estSlotSeq 0 < s.estSlotSeq 1 then 1 else 0) =
    max (s.estSlotSeq 0) (s.estSlotSeq 1) := by
  split
  · next h => rw [max_eq_right h.le]
  · next h => rw [max_eq_left (not_lt.1 h)]

/-- SEQ and SLOT show slot `k`, and the next triggers of rest or of FULL are deferred. -/
def estNvShown (k : Nat) (s : State) : State :=
  ((s.fs Fld.EST_NV_SEQ (s.estSlotSeq k)).fs Fld.EST_NV_SLOT k).setEst { s.est with lastNv := s.aclk + 300 * 32768 }

theorem estNvShown_nvm (k : Nat) : (estNvShown k s).nvm = s.nvm := by
  rw [estNvShown, setEst_nvm, State.fs_nvm, State.fs_nvm]

theorem estNvShown_seq (k : Nat) :
    (estNvShown k s).fg Fld.EST_NV_SEQ = s.estSlotSeq k % 2 ^ Fld.EST_NV_SEQ.width := by
  rw [estNvShown, setEst_fg, fg_fs_other _ _ _ _ (by decide) (by decide), fg_fs_same _ _ _ (by decide)]

theorem estNvShown_slot {k : Nat} (h : k < 2) : (estNvShown k s).fg Fld.EST_NV_SLOT = k := by
  rw [estNvShown, setEst_fg, fg_fs_of_lt _ _ _ (by decide) h]

theorem estNvShown_lastNv (k : Nat) : (estNvShown k s).est.lastNv = s.aclk + 300 * 32768 := by
  rw [estNvShown, setEst_est]

theorem estNvDone_shows (hpers : s.fb Fld.EST_CFG_PERS = true) :
    estNvDone s = estNvShown (if s.estSlotSeq 0 < s.estSlotSeq 1 then 1 else 0)
      (s.fs Fld.EST_NV_WRITING (boolNat s.est.nvNow)) := by
  have hpers' : (s.fs Fld.EST_NV_WRITING (boolNat s.est.nvNow)).fb Fld.EST_CFG_PERS = true :=
    (fb_of_fg _ (fg_fs_addr _ _ _ _ (by decide))).trans hpers
  unfold estNvDone estNvShown
  rw [if_neg (by simp [hpers'])]

theorem estNvDone_leaves (hpers : s.fb Fld.EST_CFG_PERS = true) : (estNvDone s).nvm = s.nvm ∧
    (estNvDone s).fg Fld.EST_NV_SEQ = max (s.estSlotSeq 0) (s.estSlotSeq 1) % 2 ^ Fld.EST_NV_SEQ.width ∧
    (estNvDone s).fg Fld.EST_NV_SLOT = (if s.estSlotSeq 0 < s.estSlotSeq 1 then 1 else 0) ∧
    (estNvDone s).est.lastNv = s.aclk + 300 * 32768 := by
  have hslot : (if s.estSlotSeq 0 < s.estSlotSeq 1 then 1 else 0) < 2 := by split <;> decide
  have hmram : (s.fs Fld.EST_NV_WRITING (boolNat s.est.nvNow)).mram = s.mram := State.fs_mram s _ _
  have haclk : (s.fs Fld.EST_NV_WRITING (boolNat s.est.nvNow)).aclk = s.aclk := congrArg Rtc.cycles (State.fs_rtc s _ _)
  rw [estNvDone_shows s hpers, estNvShown_seq, estNvShown_slot _ hslot, estNvShown_nvm, State.fs_nvm,
    estSlotSeq_of_mram hmram, estSlotSeq_newest, estNvShown_lastNv, haclk]
  exact ⟨rfl, rfl, rfl, rfl⟩

/-! ### PERS cleared (R356) -/

theorem persVolatile_leaves : (persVolatile s).fg Fld.EST_CFG_PERS = 0 ∧ (persVolatile s).est.nvReq = false ∧
    (persVolatile s).nvm.words =
      s.nvm.words ++ [(wLearned, estSlotAt 0 + 0x1024, 0), (wLearned, estSlotAt 1 + 0x1024, 0)] := by
  refine ⟨?_, rfl, rfl⟩
  rw [persVolatile, setEst_fg, nvIssue_fg, fg_fs_of_lt _ _ _ (by decide) (by decide)]

/-! ### Host values (R356) -/

/-- A capacity and its σ are within the range of the module's nameplate. -/
def CapacityFits (s : State) (m : Nat) (v : Word) : Prop :=
  s.modUsed m = true ∧ s.modCells m ≠ 0 ∧ 300 * s.modCapacity m ≤ 10 * fldOf v 0 24 ∧
    10 * fldOf v 0 24 ≤ 1200 * s.modCapacity m ∧ 5 ≤ fldOf v 24 8 ∧ fldOf v 24 8 ≤ 200

section
variable {s} {m : Nat} {v : Word}

theorem moduleWrite_capacity (h : CapacityFits s m v) :
    moduleWrite m false v s = (stOk, s.setEst { s.est with host := s.est.host ++ [(Reg.EST_M_LCAP m, v)] }) := by
  obtain ⟨hused, hcells, hlow, hhigh, hsigLow, hsigHigh⟩ := h
  unfold moduleWrite
  extract_lets a cap sig r rc np
  rw [if_neg (by simp [hused, hcells]), if_neg Bool.false_ne_true, if_neg (by omega)]
  rfl

theorem moduleWrite_refused (h : ¬ CapacityFits s m v) : moduleWrite m false v s = (stDecodeErr, s) := by
  unfold moduleWrite
  extract_lets a cap sig r rc np
  split
  · rfl
  · next hmodule =>
    simp only [Bool.not_eq_true', not_or, Bool.not_eq_false] at hmodule
    rw [if_neg Bool.false_ne_true]
    refine if_pos ?_
    by_contra hrange
    exact h ⟨hmodule.1, hmodule.2, by omega, by omega, by omega, by omega⟩

theorem moduleWrite_resistance (hused : s.modUsed m = true) (hcells : s.modCells m ≠ 0)
    (hlow : curveRcell (s.modCurveB m) ≤ 4 * fldOf v 16 16) (hhigh : fldOf v 16 16 ≤ 4 * curveRcell (s.modCurveB m)) :
    moduleWrite m true v s = (stOk, s.setEst { s.est with host := s.est.host ++ [(Reg.EST_M_HLTH m, v)] }) := by
  unfold moduleWrite
  extract_lets a cap sig r rc np
  rw [if_neg (by simp [hused, hcells]), if_pos rfl, if_neg (by omega)]
  rfl

end

/-! ### The statement -/

theorem exec_estimatorNvWrite (hlive : Live s) :
    exec .estimatorNvWrite s = .next (finish (nvRun wLearned estNvBegin estNvDone s)) := done_next _ hlive

theorem exec_moduleCapacityWrite {p : Port} {m : Fin 128} (v : Word) (hreach : Reach p (Reg.EST_M_LCAP m) s) :
    exec (.moduleValueWrite p m false v) s =
      .next (finish (respond p (moduleWrite m false v s).1 0 (moduleWrite m false v s).2)) :=
  done_asWrite s p _ _ hreach.1 hreach.2

theorem exec_moduleHealthWrite {p : Port} {m : Fin 128} (v : Word) (hreach : Reach p (Reg.EST_M_HLTH m) s) :
    exec (.moduleValueWrite p m true v) s =
      .next (finish (respond p (moduleWrite m true v s).1 0 (moduleWrite m true v s).2)) :=
  done_asWrite s p _ _ hreach.1 hreach.2

/-- Settles O39: the start and an update by what their steps keep (`EstKeeps`); a write of learned values as one write of
its writer (`nvRun`); a host value by the range that it is judged against. -/
theorem estimatorUpdatesAndPersists : Obligations.EstimatorUpdatesAndPersists := by
  unfold Obligations.EstimatorUpdatesAndPersists
  refine ⟨?start, ?update, ?write, ?save, ?volatile, ?capacity, ?health⟩
  case start =>
    intro s hlive hstopped himage hfirmware
    exact ⟨estStart s, done_next _ hlive, estStart_leaves s hstopped himage hfirmware⟩
  case update =>
    intro sub s hlive v
    have hexec : exec (.estimatorUpdate sub) s = .next (finish (estimatorUpdate sub s)) := done_next _ hlive
    exact ⟨fun hrun hawake => ⟨_, hexec, estimatorUpdate_counts s hrun hawake⟩,
      fun hstopped hawake => by rw [hexec, estimatorUpdate_awake s hawake, estUpdate_stopped s hstopped],
      fun hwatch hburst hdue => ⟨_, hexec, estimatorUpdate_ends s hwatch hburst hdue⟩⟩
  case write =>
    intro s hlive seq k
    have hexec := exec_estimatorNvWrite s hlive
    refine ⟨estWords_last s, fun hwaits => by rw [hexec, nvRun_waits hwaits], fun hwaits hidle hpers hrun hseq => ?_,
      fun hwaits hbusy hpers => ?_⟩
    · rw [hexec, nvRun_issues hwaits hidle]
      exact ⟨_, rfl, estNvBegin_leaves s hpers hrun hseq⟩
    · obtain ⟨hnvm, hshown⟩ := estNvDone_leaves (nvEnd wLearned s) hpers
      rw [hexec, nvRun_completes hwaits hbusy]
      exact ⟨_, rfl, (nvBusy_congr hnvm wLearned).trans (nvEnd_idle s wLearned), hshown⟩
  case save =>
    intro p s hreach
    exact done_asWrite s p _ _ hreach.1 hreach.2
  case volatile =>
    intro p s hreach
    exact ⟨persVolatile s, done_asWrite s p _ _ hreach.1 hreach.2, persVolatile_leaves s⟩
  case capacity =>
    intro p m v s hreach cap sig ok
    exact ⟨fun h => by rw [exec_moduleCapacityWrite s v hreach, moduleWrite_capacity h],
      fun h => by rw [exec_moduleCapacityWrite s v hreach, moduleWrite_refused h]⟩
  case health =>
    intro p m v s hreach hused hcells hlow hhigh
    rw [exec_moduleHealthWrite s v hreach, moduleWrite_resistance hused hcells hlow hhigh]

end Sys2Proof.Machine
end

section
/-!
PROOFS. Every step (R424, R433, R434, R485, R488, R490, R491, R493): what a step is, which commands act in reset, and what
the event controller shows after a step.
-/
namespace Sys2Proof.Machine

variable (s : State)

/-! ### A step -/

/-- Settles O1: a step matches on the queue. -/
theorem stepTakesFrontCommand : Obligations.StepTakesFrontCommand :=
  ⟨fun _ _ _ => rfl, fun s h => by rw [step, h]⟩

theorem done_next_exists (old : State) : ∃ t, done old s = .next t := by
  cases h : old.rst.asserted with
  | false => exact ⟨_, done_next s h⟩
  | true => exact ⟨_, done_reset s h⟩

/-- Settles O2: a command ends with `done` or `doneRst`, and both answer a next state. -/
theorem everyCommandAnswersNext : Obligations.EveryCommandAnswersNext := by
  intro c s
  obtain ⟨t, h | h⟩ := exec_form c s
  · rw [h]
    exact done_next_exists t s
  · exact ⟨_, h⟩

/-- R433, R434: a command that does not act in reset ends with `done`. -/
theorem exec_done (c : Instr) (h : ActsInReset c = false) : ∃ t, exec c s = done s t := by
  cases c <;> first | exact ⟨_, rfl⟩ | exact absurd h Bool.noConfusion

/-- Settles O3: `done` answers the state before while reset is asserted. -/
theorem resetHoldsTheBlock : Obligations.ResetHoldsTheBlock := by
  intro c s hrst hacts
  obtain ⟨t, h⟩ := exec_done s c hacts
  rw [h, done_reset t hrst]

/-- A step idles, drops a command that reset holds back, or ends with the collector and the event controller's pass. -/
theorem step_cases {t : State} (h : step s = .next t) : (∃ rest, t = s.setPending rest) ∨ ∃ u, t = finish u := by
  unfold step at h
  split at h
  · next hq =>
    cases h
    exact .inl ⟨[], by rw [← hq]; rfl⟩
  · next c rest hq =>
    change exec c (s.setPending rest) = .next t at h
    obtain ⟨u, hu | hu⟩ := exec_form c (s.setPending rest)
    · rw [hu] at h
      cases hrst : (s.setPending rest).rst.asserted with
      | false =>
        rw [done_next u hrst] at h
        exact .inr ⟨u, (Host.Outcome.next.inj h).symm⟩
      | true =>
        rw [done_reset u hrst] at h
        exact .inl ⟨rest, (Host.Outcome.next.inj h).symm⟩
    · rw [hu] at h
      exact .inr ⟨u, (Host.Outcome.next.inj h).symm⟩

/-! ### What the event controller shows (R485, R491, R493) -/

theorem foldl_congr_mem {α β : Type} {f g : β → α → β} {l : List α} (h : ∀ x ∈ l, ∀ b, f b x = g b x) (b : β) :
    l.foldl f b = l.foldl g b := by
  induction l generalizing b with
  | nil => rfl
  | cons x r ih =>
    rw [List.foldl_cons, List.foldl_cons, h x List.mem_cons_self, ih fun y hy => h y (List.mem_cons_of_mem _ hy)]

theorem any_congr_mem {α : Type} {p q : α → Bool} {l : List α} (h : ∀ x ∈ l, p x = q x) : l.any p = l.any q := by
  induction l with
  | nil => rfl
  | cons x r ih =>
    rw [List.any_cons, List.any_cons, h x List.mem_cons_self, ih fun y hy => h y (List.mem_cons_of_mem _ hy)]

section
variable {s} {t : State} (hrd : ∀ a, a ≠ Reg.SYS_PWR_STAT → a ≠ Reg.MTR_STAT → t.rd a = s.rd a)
include hrd

theorem fb_of_rd_other {f : Fld} (hpwr : f.addr ≠ Reg.SYS_PWR_STAT) (hmtr : f.addr ≠ Reg.MTR_STAT) : t.fb f = s.fb f := by
  unfold State.fb State.fg
  rw [hrd _ hpwr hmtr]

theorem qCount_of_rd {q : Nat} (hq : q < 64) : t.qCount q = s.qCount q := by
  have hcfg : t.rd (Fld.SYS_Q_CFG_DEPTHLOG q).addr = s.rd (Fld.SYS_Q_CFG_DEPTHLOG q).addr := by
    apply hrd <;> simp only [Fld.SYS_Q_CFG_DEPTHLOG, Reg.SYS_PWR_STAT, Reg.MTR_STAT] <;> omega
  have hptr : t.rd (Fld.SYS_Q_PTR_TAIL q).addr = s.rd (Fld.SYS_Q_PTR_TAIL q).addr := by
    apply hrd <;> simp only [Fld.SYS_Q_PTR_TAIL, Reg.SYS_PWR_STAT, Reg.MTR_STAT] <;> omega
  have hhead : t.rd (Fld.SYS_Q_PTR_HEAD q).addr = s.rd (Fld.SYS_Q_PTR_HEAD q).addr := hptr
  unfold State.qCount State.qDepth State.fg
  rw [hcfg, hptr, hhead]

theorem anyQueue_of_rd : (List.range 64).any (fun q => t.fb (Fld.SYS_Q_STAT_OVF q)) =
    (List.range 64).any (fun q => s.fb (Fld.SYS_Q_STAT_OVF q)) := by
  refine any_congr_mem fun q hq => fb_of_rd_other hrd ?_ ?_ <;> have := List.mem_range.1 hq <;>
    simp only [Fld.SYS_Q_STAT_OVF, Reg.SYS_PWR_STAT, Reg.MTR_STAT] <;> omega

/-- The flags of a group lie in the converters' slot. -/
theorem groupFlag_of_rd {f : Nat → Fld} (hf : ∀ g, (f g).addr = 0x140118 + 64 * g) (g : Nat) : t.fb (f g) = s.fb (f g) := by
  refine fb_of_rd_other hrd ?_ ?_ <;> rw [hf] <;> simp only [Reg.SYS_PWR_STAT, Reg.MTR_STAT] <;> omega

/-- The level conditions do not depend on whether a way into WATCH goes on: no source of R487 shows it. -/
theorem levelCond_congr (hsnap : t.fb Fld.MTR_STAT_SNAPRDY = s.fb Fld.MTR_STAT_SNAPRDY) (himage : t.image = s.image)
    (hball : t.irq.evinLevel = s.irq.evinLevel) (ev : Nat) : levelCond t ev = levelCond s ev := by
  unfold levelCond
  split_ifs with hqueue htimer hpin
  · rw [qCount_of_rd hrd (by omega)]
  · rw [hrd _ (by simp only [Reg.TMR_TM_FLAG, Reg.SYS_PWR_STAT]; omega) (by simp only [Reg.TMR_TM_FLAG, Reg.MTR_STAT]; omega)]
  · unfold State.ballOf State.sec State.evinMode
    rw [himage, hball, hrd _ (by decide) (by decide)]
  · split <;> simp (disch := decide) only [anyQueue_of_rd hrd, fb_of_rd_other hrd, hsnap, hrd,
      groupFlag_of_rd hrd (f := Fld.CNV_CG_FLAG_OCP) fun _ => rfl, groupFlag_of_rd hrd (f := Fld.CNV_CG_FLAG_SYNCLOSS) fun _ => rfl,
      groupFlag_of_rd hrd (f := Fld.CNV_CG_FLAG_SYNCERR) fun _ => rfl, groupFlag_of_rd hrd (f := Fld.CNV_CG_FLAG_CSERR) fun _ => rfl,
      groupFlag_of_rd hrd (f := Fld.CNV_CG_FLAG_BRKLIM) fun _ => rfl, groupFlag_of_rd hrd (f := Fld.CNV_CG_FLAG_BALLIM) fun _ => rfl]

theorem levelMask_congr (hsnap : t.fb Fld.MTR_STAT_SNAPRDY = s.fb Fld.MTR_STAT_SNAPRDY) (himage : t.image = s.image)
    (hball : t.irq.evinLevel = s.irq.evinLevel) : levelMask t = levelMask s := by
  unfold levelMask
  simp only [levelCond_congr hrd hsnap himage hball]

end

theorem abandonWatch_snap : (abandonWatch s).fb Fld.MTR_STAT_SNAPRDY = s.fb Fld.MTR_STAT_SNAPRDY := by
  unfold abandonWatch
  split
  · simp (disch := decide) only [State.fb, fg_fs_other]
  · rfl

theorem levelMask_abandonWatch : levelMask (abandonWatch s) = levelMask s :=
  levelMask_congr (abandonWatch_rd s) (abandonWatch_snap s) (abandonWatch_image s)
    (congrArg Irq.evinLevel (abandonWatch_irq s))

/-! ### A pass out of reset and out of DORMANT -/

/-- The edges of balls, taken in before the level conditions are sampled (R486). -/
def ballEdges (s : State) : State :=
  if s.irq.evinLevel = s.irq.evinSeen then s
  else ((List.range 8).filter s.evinEdge).foldl (fun s n => s.raise (128 + n)) s

theorem senseEvents_eq : senseEvents s = (ballEdges s).setIrq
    { (ballEdges s).irq with level := levelMask (ballEdges s), evinSeen := (ballEdges s).irq.evinLevel } := rfl

theorem senseEvents_level : (senseEvents s).irq.level = levelMask (senseEvents s) := by
  rw [senseEvents_eq]
  exact (levelMask_congr (fun _ _ _ => rfl) rfl rfl rfl).symm

/-- The targets are not touched while the sources are sampled. -/
theorem senseEvents_targets : (senseEvents s).irq.t0 = s.irq.t0 ∧ (senseEvents s).irq.t1 = s.irq.t1 := by
  have hedges : ((ballEdges s).irq.t0, (ballEdges s).irq.t1) = (s.irq.t0, s.irq.t1) := by
    unfold ballEdges
    split
    · rfl
    · refine foldl_field (fun t : State => (t.irq.t0, t.irq.t1)) _ (fun t n => ?_) _ s
      simp only [State.raise_latch]
  exact ⟨congrArg Prod.fst hedges, congrArg Prod.snd hedges⟩

/-- R492: does the pass meet a WATCH wake condition? -/
def wakesNow (s : State) : Bool :=
  (newlyIn s.irq.sig0 ((senseEvents s).signalledAt 0) ++ newlyIn s.irq.sig1 ((senseEvents s).signalledAt 1)).any
    (senseEvents s).wakes

/-- The targets after the pass (R490, R491). -/
def settledIrq (s : State) : Irq :=
  let t := senseEvents s
  { t.irq with
    sig0 := t.signalledAt 0, sig1 := t.signalledAt 1,
    t0 := targetAfter t.irq.t0 (t.fg (Fld.INTC_COAL_H_COUNT 0)) s.irq.sig0 (t.signalledAt 0) t.urgent,
    t1 := targetAfter t.irq.t1 (t.fg (Fld.INTC_COAL_H_COUNT 1)) s.irq.sig1 (t.signalledAt 1) t.urgent,
    wake := t.irq.wake || (wakesNow s && t.fg Fld.SYS_PWR_STAT_STATE == 1) }

theorem settle_held (h : s.rst.asserted = true) :
    settle s = s.setIrq { s.irq with t0 := ⟨0, false⟩, t1 := ⟨0, false⟩ } := if_pos h

theorem settle_awake (hlive : Live s) (h : s.fg Fld.SYS_PWR_STAT_STATE ≠ 0) :
    settle s = (abandonIf (wakesNow s) (senseEvents s)).setIrq (settledIrq s) :=
  (if_neg (by rw [hlive]; decide)).trans (if_neg h)

theorem levelMask_abandonIf (wake : Bool) : levelMask (abandonIf wake s) = levelMask s := by
  unfold abandonIf
  split
  · exact levelMask_abandonWatch s
  · rfl

theorem abandonIf_irq (wake : Bool) : (abandonIf wake s).irq = s.irq := by
  unfold abandonIf
  split
  · exact abandonWatch_irq s
  · rfl

/-- A pass shows the level conditions and releases both balls in reset, whatever the state before it. -/
theorem settle_shows : EventsShown (settle s) := by
  unfold EventsShown
  rw [settle_rst, settle_state]
  refine ⟨fun hrst => ?_, fun hlive hawake => ?_⟩
  · rw [settle_held s hrst]
    exact ⟨rfl, rfl⟩
  · have hsame : levelMask ((abandonIf (wakesNow s) (senseEvents s)).setIrq (settledIrq s)) =
        levelMask (abandonIf (wakesNow s) (senseEvents s)) :=
      levelMask_congr (fun _ _ _ => rfl) rfl rfl (congrArg Irq.evinLevel (abandonIf_irq (senseEvents s) _)).symm
    rw [settle_awake s hlive hawake, hsame, levelMask_abandonIf]
    exact senseEvents_level s

theorem setPending_shows (rest : List Instr) (h : EventsShown s) : EventsShown (s.setPending rest) := by
  have hsame : levelMask (s.setPending rest) = levelMask s := levelMask_congr (fun _ _ _ => rfl) rfl rfl rfl
  exact ⟨h.1, fun hlive hawake => (h.2 hlive hawake).trans hsame.symm⟩

/-- Settles O4: what a step leaves is the state before with another queue, or the event controller has passed over it. -/
theorem stepKeepsEventsShown : Obligations.StepKeepsEventsShown := by
  intro s t hshown hstep
  obtain ⟨rest, rfl⟩ | ⟨u, rfl⟩ := step_cases s hstep
  · exact setPending_shows s rest hshown
  · exact settle_shows (collect u)

/-- Settles O5: EV106 pends, since OSF is set after a first power-up (R430), and no other level source does. -/
theorem resetShowsEvents : Obligations.ResetShowsEvents :=
  ⟨fun h => Bool.noConfusion h, fun _ _ => by decide⟩

/-! ### What a pass leaves (R485, R488, R490, R491) -/

section
variable {s} {t : State} (hrd : ∀ a, a ≠ Reg.SYS_PWR_STAT → a ≠ Reg.MTR_STAT → t.rd a = s.rd a)
include hrd

/-- The words of the event controller lie below both. -/
theorem rd_intc {a : Nat} (hlo : 0x040000 ≤ a) (hhi : a < 0x050000) : t.rd a = s.rd a :=
  hrd a (by simp only [Reg.SYS_PWR_STAT]; omega) (by simp only [Reg.MTR_STAT]; omega)

/-- What is signalled depends on the latches, the sampled levels and the controller's own words. -/
theorem signalledAt_congr (hpend : t.pendMask = s.pendMask) (h : Nat) : t.signalledAt h = s.signalledAt h := by
  have hmasks : t.maskWords = s.maskWords := foldl_congr_mem (fun i hi m => by
    have hlt := List.mem_range.1 hi
    rw [rd_intc hrd (by simp only [Reg.INTC_MASK_SET]; omega) (by simp only [Reg.INTC_MASK_SET]; omega)]) 0
  have hroutes : t.routeMask h = s.routeMask h := foldl_congr_mem (fun i hi m => by
    have hlt : ∀ i ∈ [2, 3, 4, 5, 6], i < 8 := by decide
    have := hlt i hi
    rw [rd_intc hrd (by simp only [Reg.INTC_ROUTE]; omega) (by simp only [Reg.INTC_ROUTE]; omega)]) _
  rw [State.signalledAt, State.signalledAt, hpend, hmasks, hroutes]

theorem urgent_congr {ev : Nat} (h : ev < 256) : t.urgent ev = s.urgent ev := by
  unfold State.urgent
  rw [rd_intc hrd (by simp only [Reg.INTC_URG]; omega) (by simp only [Reg.INTC_URG]; omega)]

end

theorem lt_of_mem_newlyIn {old new ev : Nat} (h : ev ∈ newlyIn old new) : ev < 256 := by
  unfold newlyIn sourcesOf at h
  split at h
  · exact absurd h List.not_mem_nil
  · exact List.mem_range.1 (List.mem_filter.1 h).1

theorem targetAfter_none (t : IrqTarget) (count old : Nat) (urgent : Nat → Bool) :
    targetAfter t count old 0 urgent = ⟨0, false⟩ := by
  unfold targetAfter
  rw [if_pos rfl]

/-- R490, R491: the ball of a target at which sources are signalled. -/
theorem targetAfter_ball {t : IrqTarget} {count old new : Nat} {urgent : Nat → Bool} (h : new ≠ 0) :
    (t.ball = true → (targetAfter t count old new urgent).ball = true) ∧
    (t.ball = false → ((targetAfter t count old new urgent).ball = true ↔
      (newlyIn old new ≠ [] ∧ count ≤ min 255 (t.n + (newlyIn old new).length)) ∨ ∃ ev ∈ newlyIn old new, urgent ev = true)) := by
  unfold targetAfter
  rw [if_neg h]
  refine ⟨fun hball => by simp [hball], fun hball => ?_⟩
  simp [hball, and_comm]

/-- The registers and the pending sources after a pass, as the targets were judged by. -/
theorem settle_sensed (hlive : Live s) (hawake : s.fg Fld.SYS_PWR_STAT_STATE ≠ 0) :
    (settle s).irq = settledIrq s ∧ (settle s).pendMask = (senseEvents s).pendMask ∧
    ∀ a, a ≠ Reg.SYS_PWR_STAT → a ≠ Reg.MTR_STAT → (settle s).rd a = (senseEvents s).rd a := by
  refine ⟨?_, ?_, fun a h1 h2 => (settle_rd s a h1 h2).trans (senseEvents_rd s a).symm⟩
  · rw [settle_awake s hlive hawake, setIrq_irq]
  · unfold State.pendMask
    rw [settle_awake s hlive hawake, setIrq_irq]
    rfl

/-- Settles O55: the pass judges both targets by the sources that it leaves pending. -/
theorem targetsFollowSignals : Obligations.TargetsFollowSignals := by
  intro s hlive hawake u new0
  obtain ⟨hirq, hpend, hrd⟩ := settle_sensed s hlive hawake
  obtain ⟨ht0, ht1⟩ := senseEvents_targets s
  have hsig : ∀ h, u.signalledAt h = (senseEvents s).signalledAt h := signalledAt_congr hrd hpend
  have hcount : u.fg (Fld.INTC_COAL_H_COUNT 0) = (senseEvents s).fg (Fld.INTC_COAL_H_COUNT 0) := by
    unfold State.fg
    rw [hrd _ (by decide) (by decide)]
  have hurgent : ∀ ev ∈ new0, u.urgent ev = (senseEvents s).urgent ev := fun ev hev =>
    urgent_congr hrd (lt_of_mem_newlyIn hev)
  have h0 : u.irq.t0 = targetAfter s.irq.t0 (u.fg (Fld.INTC_COAL_H_COUNT 0)) s.irq.sig0 (u.signalledAt 0)
      (senseEvents s).urgent := by
    rw [hsig, hcount, ← ht0]
    exact congrArg Irq.t0 hirq
  refine ⟨?_, ?_, fun hnone => ?_, fun hnone => ?_, fun hsome hball => ?_, fun hsome hball => ?_⟩
  · rw [hsig]
    exact congrArg Irq.sig0 hirq
  · rw [hsig]
    exact congrArg Irq.sig1 hirq
  · rw [h0, hnone, targetAfter_none]
  · rw [show u.irq.t1 = _ from congrArg Irq.t1 hirq, settledIrq]
    dsimp only
    rw [← hsig, hnone, targetAfter_none]
  · rw [h0]
    exact (targetAfter_ball hsome).1 hball
  · rw [h0, (targetAfter_ball hsome).2 hball]
    refine or_congr Iff.rfl (exists_congr fun ev => and_congr_right fun hev => ?_)
    rw [hurgent ev hev]

end Sys2Proof.Machine
end

section
/-!
PROOFS. What a fault's actions leave alone (R421 to R428): a squash, a discard, the hard stop of groups and the opening of
contactors, told once for every observation that they cannot change; and the collector's queue (R424).
-/
namespace Sys2Proof.Machine

variable (s : State)

/-! ### Groups that stop and contactors that open -/

/-- An observation that no stop of a group and no move of a contactor can change: it sees neither registers nor published
values nor the data of groups and contactors. -/
structure BlindToStops {γ : Type} (o : State → γ) : Prop where
  regs : ∀ t v, o (t.setRegs v) = o t
  pub : ∀ t v, o (t.setPub v) = o t
  cnv : ∀ t v, o (t.setCnv v) = o t
  prot : ∀ t v, o (t.setProt v) = o t

namespace BlindToStops

variable {s} {γ : Type} {o : State → γ} (h : BlindToStops o)
include h

theorem fs (s : State) (f : Fld) (v : Nat) : o (s.fs f v) = o s := h.regs s _

theorem pubSet (s : State) (i : Nat) (v : Int) : o (s.pubSet i v) = o s := h.pub s _

theorem setGrp (s : State) (g : Nat) (v : Grp) : o (s.setGrp g v) = o s := h.cnv s _

theorem setMode (s : State) (g m : Nat) : o (s.setMode g m) = o s := by
  unfold State.setMode
  extract_lets t u
  have hu : o u = o s := (h.pubSet t _ _).trans (h.fs s _ _)
  split
  · exact hu
  · exact (h.pubSet u _ _).trans hu

theorem flowExit (s : State) : o s.flowExit = o s := by
  unfold State.flowExit
  split
  · exact h.fs s _ _
  · rfl

theorem groupHardStop (s : State) (g : Nat) : o (groupHardStop g s) = o s := by
  unfold Machine.groupHardStop
  rw [h.flowExit, h.fs, h.fs, h.fs, h.pubSet, h.pubSet, h.pubSet, h.setGrp, h.setMode]
  split
  · exact h.fs s _ _
  · rfl

theorem groupHardStopIf (s : State) (g : Nat) : o (groupHardStopIf g s) = o s := by
  unfold Machine.groupHardStopIf
  split
  · rfl
  · exact h.groupHardStop s g

theorem groupStop (s : State) (g : Nat) : o (groupStop g s) = o s := by
  unfold Machine.groupStop
  extract_lets x
  split_ifs
  · rfl
  · exact h.groupHardStop s g
  · exact h.setGrp s g _

theorem stopStringGroup (s : State) (n : Nat) : o (stopStringGroup n s) = o s := by
  refine (foldl_field o _ (fun t g => h.groupHardStopIf t g) _ _).trans ?_
  split
  · exact h.groupHardStopIf s _
  · rfl

theorem setK (s : State) (n st km kp : Nat) : o (setK n st km kp s) = o s := by
  unfold Machine.setK
  rw [h.fs, h.fs, h.fs, h.prot]

theorem contactorOpen (s : State) (n : Nat) : o (contactorOpen n s) = o s := by
  unfold Machine.contactorOpen
  split
  · rw [h.stopStringGroup, h.fs, h.setK]
  · rfl

theorem allContactorsOpen (s : State) : o (allContactorsOpen s) = o s :=
  foldl_field o _ (fun t n => h.contactorOpen t n) _ s

theorem allGroupsHardStop (s : State) : o (allGroupsHardStop s) = o s :=
  foldl_field o _ (fun t g => h.groupHardStopIf t g) _ s

theorem fatalActions (s : State) : o (fatalActions s) = o s := by
  rw [Machine.fatalActions, h.fs, h.allContactorsOpen, h.allGroupsHardStop]

end BlindToStops

/-! ### A squash and a discard -/

/-- An observation that nothing on the way of a declared fault can change, but for the classes that wait for READY and the
lines whose wake is quiet. -/
structure BlindToFaults {γ : Type} (o : State → γ) : Prop extends BlindToStops o where
  irq : ∀ t v, o (t.setIrq v) = o t
  sct : ∀ t v, o (t.setSct v) = o t
  ord : ∀ t v, o (t.setOrd v) = o t
  wgl : ∀ t v, o (t.setWgl v) = o t
  pwr : ∀ t v, o (t.setPwr v) = o t
  prp : ∀ t v, o (t.setPrp v) = o t
  removals : ∀ t v, o (t.setRemovals v) = o t
  waiting : ∀ t : State, ∀ v, o (t.setFlt { t.flt with waiting := v }) = o t
  quiet : ∀ t : State, ∀ v, o (t.setFlt { t.flt with quiet := v }) = o t

namespace BlindToFaults

variable {s} {γ : Type} {o : State → γ} (h : BlindToFaults o)
include h

theorem raise (s : State) (ev : Nat) : o (s.raise ev) = o s := by
  unfold State.raise
  split
  · rfl
  · exact h.irq s _

theorem logEvent (s : State) (code x y : Nat) (merged : Bool) : o (s.logEvent code x y merged) = o s := h.prp s _

theorem waveTrigger (s : State) (trig arg : Nat) : o (s.waveTrigger trig arg) = o s := by
  unfold State.waveTrigger
  split
  · rfl
  · split
    · rw [h.logEvent, h.prp]
    · split
      · exact h.logEvent s _ _ _ _
      · rw [h.logEvent, h.fs, h.fs, h.prp]

theorem removal (s : State) (r : Removal) : o (s.removal r) = o s := by
  unfold State.removal
  split
  · rfl
  · exact h.removals s _

theorem abandonWatch (s : State) : o (abandonWatch s) = o s := by
  unfold Machine.abandonWatch
  split
  · rw [h.fs, h.fs, h.fs]
  · rfl

theorem wakeWatch (s : State) : o s.wakeWatch = o s := by
  unfold State.wakeWatch
  split
  · exact h.pwr s _
  · exact h.abandonWatch s

theorem wakeDormant (s : State) : o s.wakeDormant = o s := by
  unfold State.wakeDormant
  split_ifs
  · exact h.pwr s _
  · rw [h.pwr, h.fs, h.fs]
  · rfl

theorem flowEnter (s : State) : o s.flowEnter = o s := by
  unfold State.flowEnter
  split
  · exact h.fs s _ _
  · rfl

theorem groupStart (s : State) (g m : Nat) : o (groupStart g m s) = o s := by
  unfold Machine.groupStart
  extract_lets ty x t u
  have hu : o u = o s := (h.fs t _ _).trans ((h.fs _ _ _).trans ((h.setGrp _ _ _).trans (h.setMode s g m)))
  split_ifs
  · rfl
  · exact h.removal s _
  · exact hu
  · exact (h.flowEnter u).trans hu

theorem shadowEnter (s : State) (n : Nat) : o (shadowEnter n s) = o s := by
  unfold Machine.shadowEnter
  split
  · split
    · exact h.groupStart s _ _
    · rfl
  · rfl

theorem shadowLeave (s : State) (g : Nat) : o (shadowLeave g s) = o s := by
  unfold Machine.shadowLeave
  split
  · exact h.setGrp s _ _
  · rfl

theorem setLevel (s : State) (n : Nat) : o (setLevel n s) = o s := by
  have hshown : ∀ t, o (levelShown n t) = o t := fun t => by
    unfold levelShown
    split
    · rfl
    · rw [h.raise, h.fs]
  have hleft : ∀ t, o (levelLeft s.level n t) = o t := fun t => by
    unfold levelLeft vrefSet
    split
    · rw [h.wakeWatch, h.sct, h.sct]
    · rfl
  have hunlocked : ∀ t, o (levelUnlocked n t) = o t := fun t => by
    unfold levelUnlocked
    split
    · rw [h.sct, h.fs]
    · rfl
  have hgroups : ∀ t, o (levelGroups n t) = o t := fun t => by
    unfold levelGroups
    extract_lets u
    split_ifs
    · rfl
    · exact (foldl_field o _ (fun u m => h.shadowEnter u m) _ _).trans (h.sct t _)
    · exact foldl_field o _ (fun u g => h.shadowLeave u g) _ t
  rw [setLevel_eq, hgroups, hunlocked, hleft, hshown]

theorem squashTo (s : State) (n cause : Nat) : o (squashTo n cause s) = o s := by
  obtain hcase | hcase := squashTo_cases s n cause
  · rw [hcase]
  · rw [hcase, h.setLevel, squashShown, h.fs, h.fs, showPlans]
    split
    · exact h.ord s _
    · rw [h.raise, h.fs, h.fs, h.ord]

theorem discardBegin (s : State) : o (discardBegin s) = o s := by
  unfold Machine.discardBegin
  split
  · rfl
  · refine (foldl_field o _ (fun t g => ?_) _ _).trans ((foldl_field o _ (fun t x => h.wgl t _) _ _).trans ?_)
    · split
      · exact h.groupStop t g
      · rfl
    · rw [h.raise, h.fs]

theorem faultActionsOrWait (s : State) (cls : Nat) : o (faultActionsOrWait cls s) = o s := by
  unfold Machine.faultActionsOrWait faultActions
  extract_lets t
  have ht : o t = o s := (h.squashTo _ _ _).trans (h.discardBegin s)
  split_ifs
  · exact (h.fatalActions t).trans ht
  · exact ht
  · rw [h.wakeDormant, h.wakeWatch, h.waiting]

theorem declareFault (s : State) (n cls : Nat) : o (declareFault n cls s) = o s := by
  unfold Machine.declareFault
  extract_lets t merged fatal first told
  have ht : o t = o s := h.raise s 100
  have hmerged : o merged = o s := (h.logEvent _ _ _ _ _).trans ((h.fs t _ _).trans ht)
  split_ifs
  · rw [h.fatalActions, h.fs, hmerged]
  · rw [h.waiting, h.fs, hmerged]
  · exact hmerged
  · rw [h.faultActionsOrWait, h.waveTrigger, h.logEvent, h.fs, h.fs, h.fs, h.fs, ht]

theorem assertLine (s : State) (n : Nat) : o (assertLine n s) = o s := by
  unfold Machine.assertLine
  extract_lets old t u cls
  have ht : o t = o s := h.regs s _
  have hu : o u = o s := by
    unfold u
    split
    · exact (h.wakeWatch t).trans ht
    · exact (h.wakeDormant _).trans ((h.wakeWatch t).trans ht)
  split_ifs
  · rfl
  · exact hu
  · rw [h.logEvent, h.raise, hu]
  · rw [h.declareFault, hu]

/-- All that the collector changes beside is its own queue. -/
theorem collect (hlines : ∀ t : State, ∀ v, o (t.setFlt { t.flt with lines := v }) = o t) (s : State) :
    o (collect s) = o s := by
  unfold Machine.collect
  extract_lets l flt t order u
  split
  · rfl
  · exact (h.quiet u _).trans ((foldl_field o _ (fun t n => h.assertLine t n) order t).trans (hlines s _))

end BlindToFaults

/-! ### The collector's queue (R424) -/

theorem blindToFaults_lines : BlindToFaults fun t : State => t.flt.lines where
  regs _ _ := rfl
  pub _ _ := rfl
  cnv _ _ := rfl
  prot _ _ := rfl
  irq _ _ := rfl
  sct _ _ := rfl
  ord _ _ := rfl
  wgl _ _ := rfl
  pwr _ _ := rfl
  prp _ _ := rfl
  removals _ _ := rfl
  waiting _ _ := rfl
  quiet _ _ := rfl

theorem collect_lines : (collect s).flt.lines = [] := by
  unfold collect
  extract_lets l flt t order u
  split
  · next h => exact List.isEmpty_iff.1 h
  · exact foldl_field (fun t : State => t.flt.lines) _ (fun t n => blindToFaults_lines.assertLine t n) order t

/-- Settles O6: a command's end collects every line, and what the collector does drives none. -/
theorem stepCollectsErrorLines : Obligations.StepCollectsErrorLines := by
  intro s t hlines hstep
  obtain ⟨rest, rfl⟩ | ⟨u, rfl⟩ := step_cases s hstep
  · exact hlines
  · rw [finish, settle_flt, collect_lines]

end Sys2Proof.Machine
end

section
/-!
PROOFS. The derating curve and the throttle's count (R500, R502).
-/
namespace Sys2Proof.Machine

/-! ### The derating curve (R500) -/

theorem deratingAt_before {p q : Int × Nat} {r : List (Int × Nat)} {t : Int} (h : t ≤ p.1) :
    deratingAt (p :: q :: r) t = p.2 := if_pos h

theorem deratingAt_beyond {p q : Int × Nat} {r : List (Int × Nat)} {t : Int} (hpq : p.1 < q.1) (h : q.1 ≤ t) :
    deratingAt (p :: q :: r) t = deratingAt (q :: r) t :=
  (if_neg (not_le.2 (hpq.trans_le h))).trans (if_neg (not_lt.2 h))

/-- The points of a curve rise, so that its first one is the lowest. -/
theorem head_le_of_rising {q : Int × Nat} {r : List (Int × Nat)} (h : (q :: r).Pairwise (fun a b => a.1 < b.1))
    {p : Int × Nat} (hp : p ∈ q :: r) : q.1 ≤ p.1 := by
  obtain rfl | hp := List.mem_cons.1 hp
  · exact le_rfl
  · exact (List.rel_of_pairwise_cons h hp).le

theorem deratingAt_first {p : Int × Nat} {r : List (Int × Nat)} {t : Int} (h : t ≤ p.1) : deratingAt (p :: r) t = p.2 := by
  cases r with
  | nil => rfl
  | cons q r => exact deratingAt_before h

theorem deratingAt_point {pts : List (Int × Nat)} (h : pts.Pairwise (fun a b => a.1 < b.1)) :
    ∀ p ∈ pts, deratingAt pts p.1 = p.2 := by
  induction pts with
  | nil => exact fun p hp => absurd hp List.not_mem_nil
  | cons p0 r ih =>
    intro p hp
    obtain rfl | hp := List.mem_cons.1 hp
    · exact deratingAt_first le_rfl
    · cases r with
      | nil => exact absurd hp List.not_mem_nil
      | cons q r =>
        rw [deratingAt_beyond (List.rel_of_pairwise_cons h List.mem_cons_self) (head_le_of_rising h.of_cons hp)]
        exact ih h.of_cons p hp

theorem deratingAt_last {pts : List (Int × Nat)} (h : pts.Pairwise (fun a b => a.1 < b.1)) (hne : pts ≠ []) {t : Int}
    (ht : (pts.getLast hne).1 ≤ t) : deratingAt pts t = (pts.getLast hne).2 := by
  induction pts with
  | nil => exact absurd rfl hne
  | cons p r ih =>
    cases r with
    | nil => rfl
    | cons q r =>
      rw [List.getLast_cons (List.cons_ne_nil q r)] at ht ⊢
      have hq : q.1 ≤ t := (head_le_of_rising h.of_cons (List.getLast_mem _)).trans ht
      rw [deratingAt_beyond (List.rel_of_pairwise_cons h List.mem_cons_self) hq]
      exact ih h.of_cons (List.cons_ne_nil q r) ht

/-! ### Hot results (R502) -/

theorem throttleStep_count {thr : Nat} (hthr : thr ≠ 0) (n : Nat) (t : Int) (req enf : Bool) :
    (throttleStep thr t req n enf).2.1 = if (thr : Int) ≤ t then min 3 (n + 1) else 0 := by
  unfold throttleStep
  rw [if_neg hthr]
  dsimp only
  split_ifs <;> rfl

/-- The count that a result leaves is three exactly for the third hot one in a row. -/
theorem third_hot {thr n : Nat} {t : Int} : 3 ≤ (if (thr : Int) ≤ t then min 3 (n + 1) else 0) ↔ (thr : Int) ≤ t ∧ 2 ≤ n := by
  split <;> omega

theorem throttleStep_idle {thr : Nat} (hthr : thr ≠ 0) (n : Nat) (t : Int) (enf : Bool) :
    ((throttleStep thr t false n enf).1 = true ↔ (thr : Int) ≤ t ∧ 2 ≤ n) ∧
    ((throttleStep thr t false n enf).2.2 = true ↔ (thr : Int) ≤ t ∧ 2 ≤ n) := by
  rw [← third_hot]
  unfold throttleStep
  rw [if_neg hthr]
  dsimp only
  generalize (if (thr : Int) ≤ t then min 3 (n + 1) else 0) = m
  by_cases h : 3 ≤ m <;> simp [h]

theorem throttleStep_requested {thr : Nat} (hthr : thr ≠ 0) (n : Nat) (t : Int) (enf : Bool) :
    ((throttleStep thr t true n enf).1 = false ↔ enf = false ∧ t < (thr : Int) - 50) ∧
    (throttleStep thr t true n enf).2.2 = false := by
  unfold throttleStep
  rw [if_neg hthr]
  cases enf with
  | true => simp
  | false =>
    by_cases h : t < (thr : Int) - 50
    · simp [h]
    · simp only [h]
      simp

/-- Settles O56: the curve by induction over its points, the throttle by whether it is requested already. -/
theorem deratingAndThrottle : Obligations.DeratingAndThrottle := by
  refine ⟨fun pts hrise => ⟨deratingAt_point hrise, fun t hne => ⟨fun ht => ?_, deratingAt_last hrise hne⟩⟩,
    fun thr n t req enf hthr _ => ?_⟩
  · obtain ⟨p, r, rfl⟩ := List.exists_cons_of_ne_nil hne
    exact deratingAt_first ht
  · cases req with
    | false =>
      obtain ⟨hreq, hnew⟩ := throttleStep_idle hthr n t enf
      exact ⟨fun _ => hreq, by simpa using hnew, fun h => Bool.noConfusion h, throttleStep_count hthr n t false enf⟩
    | true =>
      obtain ⟨hreq, hnew⟩ := throttleStep_requested hthr n t enf
      exact ⟨fun h => Bool.noConfusion h, by simp [hnew], fun _ => hreq, throttleStep_count hthr n t true enf⟩

end Sys2Proof.Machine
end

section
/-!
PROOFS. How a command that acts ends, said once for what it leaves: out of reset, and as a host access that reaches its block.
-/
namespace Sys2Proof.Machine

theorem done_eq {old s t : State} (hlive : Live old) (h : s = t) : done old s = .next (finish t) := by
  rw [h, done_next _ hlive]

theorem write_eq {p : Port} {a st : Nat} {f : State → Nat × State} {s t : State} (hreach : Reach p a s)
    (h : f s = (st, t)) : done s (asWrite p a f s) = .next (finish (respond p st 0 t)) := by
  rw [done_asWrite s p a f hreach.1 hreach.2, h]

end Sys2Proof.Machine
end

section
/-!
PROOFS. The event controller's registers, balls and coalescing timers (R484 to R486, R488 to R490).
-/
namespace Sys2Proof.Machine

variable (s : State)

theorem intcWord_closed {i : Nat} (f : State → State) (h : i = 0 ∨ i = 7) : intcWord i f s = (stDecodeErr, s) :=
  if_pos (by omega)

theorem intcWord_open {i : Nat} (f : State → State) (hlo : 1 ≤ i) (hhi : i ≤ 6) : intcWord i f s = (stOk, f s) :=
  if_neg (by omega)

/-! ### Masks (R488) -/

theorem ofNat_toNat_or (a v : Word) : BitVec.ofNat 32 (a.toNat ||| v.toNat) = a ||| v := by
  rw [← BitVec.toNat_or, BitVec.ofNat_toNat, BitVec.setWidth_eq]

theorem ofNat_toNat_andNot (a v : Word) : BitVec.ofNat 32 (a.toNat &&& (2 ^ 32 - 1 - v.toNat)) = a &&& ~~~v := by
  rw [← BitVec.toNat_not, ← BitVec.toNat_and, BitVec.ofNat_toNat, BitVec.setWidth_eq]

theorem maskSet_eq (i : Nat) (v : Word) :
    maskSet i v.toNat s = s.wr (Reg.INTC_MASK_SET i) (s.rd (Reg.INTC_MASK_SET i) ||| v) := by
  rw [maskSet, ofNat_toNat_or]

theorem maskClr_eq (i : Nat) (v : Word) :
    maskClr i v.toNat s = s.wr (Reg.INTC_MASK_SET i) (s.rd (Reg.INTC_MASK_SET i) &&& ~~~v) := by
  rw [maskClr, ofNat_toNat_andNot]

/-! ### Latches (R485) -/

/-- The latches after sources were set pending. -/
def latchedBy (evs : List Nat) (latch : Nat) : Nat :=
  evs.foldl (fun m ev => if eventReserved ev then m else m ||| 2 ^ ev) latch

theorem raiseAll_eq (evs : List Nat) :
    evs.foldl State.raise s = s.setIrq { s.irq with latch := latchedBy evs s.irq.latch } := by
  induction evs generalizing s with
  | nil => rfl
  | cons ev r ih =>
    rw [List.foldl_cons, ih, State.raise]
    unfold latchedBy
    rw [List.foldl_cons]
    split <;> rfl

theorem testBit_latchedBy (evs : List Nat) (latch k : Nat) :
    (latchedBy evs latch).testBit k = (latch.testBit k || (evs.contains k && !eventReserved k)) := by
  induction evs generalizing latch with
  | nil => simp [latchedBy]
  | cons ev r ih =>
    have hcons : latchedBy (ev :: r) latch = latchedBy r (if eventReserved ev then latch else latch ||| 2 ^ ev) := rfl
    rw [hcons, ih, List.contains_cons]
    by_cases hk : k = ev
    · subst hk
      cases eventReserved k <;> simp [Nat.testBit_or]
    · have hne : ev ≠ k := fun h => hk h.symm
      have hbeq : (k == ev) = false := beq_false_of_ne hk
      cases eventReserved ev <;> simp [Nat.testBit_or, hne, hbeq]

/-- The sources that a word of PEND_SET names. -/
def namedSources (i : Nat) (v : Word) : List Nat := (bitsOf 32 v.toNat).map (32 * i + ·)

theorem pendSet_eq (i : Nat) (v : Word) :
    pendSet i v.toNat s = s.setIrq { s.irq with latch := latchedBy (namedSources i v) s.irq.latch } := by
  rw [← raiseAll_eq, namedSources, List.foldl_map]
  rfl

theorem mem_namedSources {i : Nat} {v : Word} {ev : Nat} :
    ev ∈ namedSources i v ↔ ev / 32 = i ∧ v.getLsbD (ev % 32) = true := by
  have hbit : ∀ b, bitOf v.toNat b = v.getLsbD b := fun b => bitOf_eq_testBit _ _
  simp only [namedSources, bitsOf, List.mem_map, List.mem_filter, List.mem_range, hbit]
  constructor
  · rintro ⟨b, ⟨hb, hv⟩, rfl⟩
    rw [show (32 * i + b) / 32 = i by omega, show (32 * i + b) % 32 = b by omega]
    exact ⟨rfl, hv⟩
  · rintro ⟨rfl, hv⟩
    exact ⟨ev % 32, ⟨Nat.mod_lt _ (by decide), hv⟩, by omega⟩

theorem testBit_pendSet (i : Nat) (v : Word) (latch ev : Nat) : (latchedBy (namedSources i v) latch).testBit ev =
    (latch.testBit ev || (decide (ev / 32 = i) && v.getLsbD (ev % 32) && !eventReserved ev)) := by
  have hnamed : (namedSources i v).contains ev = (decide (ev / 32 = i) && v.getLsbD (ev % 32)) := by
    rw [Bool.eq_iff_iff, List.contains_iff_mem, mem_namedSources, Bool.and_eq_true, decide_eq_true_iff]
  rw [testBit_latchedBy, hnamed]

/-- A word of latches lies at bit `32 * i` of their mask. -/
theorem testBit_wordAt {i ev : Nat} (v : Word) :
    (v.toNat * 2 ^ (32 * i)).testBit ev = (decide (ev / 32 = i) && v.getLsbD (ev % 32)) := by
  rw [Nat.testBit_mul_two_pow]
  obtain hlow | hhere | hhigh := lt_trichotomy (ev / 32) i
  · rw [decide_eq_false (by omega), decide_eq_false hlow.ne, Bool.false_and, Bool.false_and]
  · rw [decide_eq_true (by omega), decide_eq_true hhere, show ev - 32 * i = ev % 32 by omega]
    rfl
  · have hout : v.toNat.testBit (ev - 32 * i) = false :=
      Nat.testBit_lt_two_pow (v.isLt.trans_le (Nat.pow_le_pow_right zero_lt_two (by omega)))
    rw [hout, decide_eq_false hhigh.ne', Bool.and_false, Bool.false_and]

theorem testBit_pendClr {i ev : Nat} (v : Word) (latch : Nat) (hi : i ≤ 6) (hev : ev < 256) :
    (latch &&& (2 ^ 256 - 1 - v.toNat * 2 ^ (32 * i))).testBit ev =
      (latch.testBit ev && !(decide (ev / 32 = i) && v.getLsbD (ev % 32))) := by
  have hlt : v.toNat * 2 ^ (32 * i) < 2 ^ 256 := calc
    v.toNat * 2 ^ (32 * i) < 2 ^ 32 * 2 ^ (32 * i) := Nat.mul_lt_mul_of_pos_right v.isLt (Nat.two_pow_pos _)
    _ = 2 ^ (32 + 32 * i) := (pow_add 2 32 _).symm
    _ ≤ 2 ^ 256 := Nat.pow_le_pow_right zero_lt_two (by omega)
  rw [Nat.testBit_and, Nat.sub_sub, Nat.add_comm 1, Nat.testBit_two_pow_sub_succ hlt, decide_eq_true hev, testBit_wordAt]
  simp

/-! ### Routes and coalescing timers (R489, R490) -/

theorem routeWrite_fixed {i : Nat} (v : Word) (h : i < 2 ∨ i = 7) : routeWrite i v s = (stDecodeErr, s) :=
  if_pos (by omega)

theorem routeWrite_sets {i : Nat} (v : Word) (hlo : 2 ≤ i) (hhi : i < 7) :
    routeWrite i v s = (stOk, s.wr (Reg.INTC_ROUTE i) v) := if_neg (by omega)

/-- The time of a coalescing timer fills the upper half of its word. -/
theorem coalTime_eq (h : Nat) : fldOf (s.rd (Reg.INTC_COAL_H h)) 16 16 = (s.rd (Reg.INTC_COAL_H h)).toNat / 65536 := by
  have hlt := (s.rd (Reg.INTC_COAL_H h)).isLt
  unfold fldOf
  omega

/-- A target with its ball asserted. -/
theorem coalesceTimeout_first (hawake : s.powerState ≠ 0) (hn : s.irq.t0.n ≠ 0)
    (htime : (s.rd (Reg.INTC_COAL_H 0)).toNat / 65536 ≠ 0) :
    coalesceTimeout 0 s = s.setIrq { s.irq with t0 := { s.irq.t0 with ball := true } } := by
  have hruns : ¬ (s.irq.t0.n = 0 ∨ fldOf (s.rd (Reg.INTC_COAL_H 0)) 16 16 = 0 ∨ s.fg Fld.SYS_PWR_STAT_STATE = 0) := by
    rw [coalTime_eq]
    exact fun h => h.elim hn fun h => h.elim htime hawake
  unfold coalesceTimeout
  rw [if_pos rfl]
  dsimp only
  rw [if_neg hruns]

theorem coalesceTimeout_second (hawake : s.powerState ≠ 0) (hn : s.irq.t1.n ≠ 0)
    (htime : (s.rd (Reg.INTC_COAL_H 1)).toNat / 65536 ≠ 0) :
    coalesceTimeout 1 s = s.setIrq { s.irq with t1 := { s.irq.t1 with ball := true } } := by
  have hruns : ¬ (s.irq.t1.n = 0 ∨ fldOf (s.rd (Reg.INTC_COAL_H 1)) 16 16 = 0 ∨ s.fg Fld.SYS_PWR_STAT_STATE = 0) := by
    rw [coalTime_eq]
    exact fun h => h.elim hn fun h => h.elim htime hawake
  unfold coalesceTimeout
  rw [if_neg one_ne_zero]
  dsimp only
  rw [if_neg hruns]

theorem coalesceTimeout_idle (h : s.irq.t0.n = 0 ∨ (s.rd (Reg.INTC_COAL_H 0)).toNat / 65536 = 0) :
    coalesceTimeout 0 s = s := by
  unfold coalesceTimeout
  rw [if_pos rfl, coalTime_eq]
  dsimp only
  rw [if_pos (h.imp_right .inl)]
  rfl

/-! ### The statement -/

/-- Settles O54: each register by the word that the write names, each timer by whether it runs. -/
theorem eventRegistersAct : Obligations.EventRegistersAct := by
  refine ⟨fun p i v s hclosed => ?closed, fun p i v s hlo hhi => ?host, fun p i v s hreach => ?route,
    fun n level s => rfl, fun s hlive hawake => ?coal⟩
  case closed =>
    exact ⟨fun h => write_eq h (intcWord_closed s _ hclosed), fun h => write_eq h (intcWord_closed s _ hclosed),
      fun h => write_eq h (intcWord_closed s _ hclosed), fun h => write_eq h (intcWord_closed s _ hclosed)⟩
  case host =>
    refine ⟨fun h => write_eq h ?_, fun h => write_eq h ?_, fun h => ⟨_, write_eq h ?_, fun ev _ => testBit_pendSet i v _ ev⟩,
      fun h => ⟨_, write_eq h (intcWord_open s _ hlo hhi), fun ev hev => testBit_pendClr v s.irq.latch hhi hev⟩⟩
    · rw [intcWord_open s _ hlo hhi, maskSet_eq]
    · rw [intcWord_open s _ hlo hhi, maskClr_eq]
    · rw [intcWord_open s _ hlo hhi, pendSet_eq]
  case route =>
    exact ⟨fun h => write_eq hreach (routeWrite_fixed s v (h.imp_left id)),
      fun hlo hne => write_eq hreach (routeWrite_sets s v hlo (by omega))⟩
  case coal =>
    exact ⟨fun hn htime => done_eq hlive (coalesceTimeout_first s hawake hn htime),
      fun hn htime => done_eq hlive (coalesceTimeout_second s hawake hn htime),
      fun h => done_eq hlive (coalesceTimeout_idle s h)⟩

end Sys2Proof.Machine
end

section
/-!
PROOFS. The start of a timer (R470): it loads the working copies in two writes of the timer's data.
-/
namespace Sys2Proof.Machine

/-- After the boot, with CMP0 of timer 0 at 1 and the timer's working data listed twice: the copies of reset with a
prescaler at 5, and other data behind them, which no read of the map reaches. -/
def timerListedTwice : State :=
  ((State.reset.setRst { State.reset.rst with firmware := true }).wr (Reg.TMR_TM_CMP0 0) 1).setTmr
    [(0, ⟨0xFFFFFFFF, 0, 0, 5⟩), (0, ⟨1, 0, 0, 0⟩)]

theorem timerListedTwice_reach : Reach .tw0 Reg.TMR_START timerListedTwice := by decide +kernel

theorem timerListedTwice_idle : timerListedTwice.tmRuns 0 = false ∧ timerListedTwice.tmArmed 0 = false ∧
    timerListedTwice.tmLoops 0 16 0 = false := by decide +kernel

/-- R470: the start takes the prescaler to 0 and then loads PERIOD, CMP0 and CMP1; the first write leaves the data of reset,
so that it takes every entry of the timer out of the map. -/
theorem tmrStart_timerListedTwice : (tmrStart (1#16 <<< 0).toNat timerListedTwice).1 = stOk ∧
    (tmrStart (1#16 <<< 0).toNat timerListedTwice).2.tmr = [(0, ⟨0xFFFFFFFF, 1, 0, 0⟩)] ∧
    (tmrStart (1#16 <<< 0).toNat timerListedTwice).2.flt.lines = [] := by decide +kernel

/-- Refutes O52: its clause on START writes the timer's data once, where the model writes them twice. In
`timerListedTwice`, whose map of timer data is not canonical, the one write keeps the second entry and the two do not. -/
theorem not_timersCount : ¬ Obligations.TimersCount := by
  unfold Obligations.TimersCount
  rintro ⟨hstart, -⟩
  obtain ⟨hruns, harmed, hloops⟩ := timerListedTwice_idle
  obtain ⟨hok, htmr, hlines⟩ := tmrStart_timerListedTwice
  have hclaim := (hstart .tw0 0 timerListedTwice timerListedTwice_reach).2.2 hruns harmed hloops
  have hexec : exec (.tmrStart .tw0 (1#16 <<< 0)) timerListedTwice =
      .next (finish (respond .tw0 stOk 0 (tmrStart (1#16 <<< 0).toNat timerListedTwice).2)) :=
    write_eq timerListedTwice_reach (Prod.ext hok rfl)
  have hdata := congrArg (fun t : State => t.tmr) (Host.Outcome.next.inj (hexec.symm.trans hclaim))
  rw [finish_quiet _ (by rw [respond_flt, hlines]), finish_quiet _ (by rw [respond_flt]; split <;> rfl), settle_tmr, settle_tmr,
    respond_tmr, respond_tmr, htmr] at hdata
  revert hdata
  decide +kernel

end Sys2Proof.Machine
end

section
/-!
PROOFS. Watchdogs (R473 to R480): WD_H's enable and service, the opening of a window, an expiry and a lost clock.
-/
namespace Sys2Proof.Machine

variable (s : State)

/-! ### The start of a period (R474, R476) -/

/-- A watchdog that starts its period, its window not judged yet. -/
def wdRestarted (w t : Nat) (s : State) : State := (s.fs (wdOpenFld w) 0).setWdg (kvSet (fun _ => 0) s.wdg w t)

theorem wdOpenFld_addr (w : Nat) : 0x070000 ≤ (wdOpenFld w).addr := by
  unfold wdOpenFld
  split
  · decide
  · simp only [Fld.WDG_K_STAT_OPEN]
    omega

/-- The window fraction is fused, or comes with COMPAT: below the watchdogs' words. -/
theorem wdRestarted_fraction (w t : Nat) : (wdRestarted w t s).wdFraction w = s.wdFraction w := by
  have hfg : ∀ f : Fld, f.addr < 0x070000 → (wdRestarted w t s).fg f = s.fg f := fun f hf =>
    fg_fs_addr s _ f 0 (by have := wdOpenFld_addr w; omega)
  unfold State.wdFraction State.fb
  rw [hfg _ (by decide), hfg _ (by decide)]

theorem wdStart_later {w : Nat} (t : Nat) (h : s.wdFraction w ≠ 0) : wdStart w t s = wdRestarted w t s :=
  if_neg (by rwa [← wdRestarted_fraction s w t] at h)

theorem wdStart_atOnce {w : Nat} (t : Nat) (h : s.wdFraction w = 0) : wdStart w t s = wdOpen w (wdRestarted w t s) :=
  if_pos (by rwa [← wdRestarted_fraction s w t] at h)

/-! ### The enable of WD_H (R478) -/

theorem wdgCtlWrite_on (en : Bool) (h : s.fb Fld.WDG_H_CTL_EN = true) :
    wdgCtlWrite en s = (if en then stOk else stLocked, s) := if_pos h

theorem wdgCtlWrite_off (h : s.fb Fld.WDG_H_CTL_EN = false) : wdgCtlWrite false s = (stOk, s) :=
  (if_neg (by rw [h]; decide)).trans (if_pos rfl)

/-- WD_H enabled with its period begun. -/
def wdHStarted (s : State) : State := wdStart 0 s.aclk (s.fs Fld.WDG_H_CTL_EN 1)

/-- An HFRC watchdog keeps HFRC running (R480). -/
def wdHEnabled (s : State) : State :=
  if (wdHStarted s).fb Fld.WDG_H_CFG_CLKSEL then (wdHStarted s).fs Fld.CLK_STAT_HFRC_ON 1 else wdHStarted s

theorem wdgCtlWrite_enables (h : s.fb Fld.WDG_H_CTL_EN = false) : wdgCtlWrite true s = (stOk, wdHEnabled s) :=
  (if_neg (by rw [h]; decide)).trans (if_neg (by decide))

theorem wdOpen_wdg (w : Nat) : (wdOpen w s).wdg = s.wdg := by
  unfold wdOpen
  split_ifs
  · rfl
  · exact State.raise_wdg _ 107
  · rfl

theorem wdStart_wdg (w t : Nat) : kvGet (fun _ => 0) (wdStart w t s).wdg w = t := by
  unfold wdStart
  extract_lets u
  have hu : kvGet (fun _ => 0) u.wdg w = t := kvGet_set_same _ _ _ _
  split
  · rw [wdOpen_wdg, hu]
  · exact hu

theorem wdStart_open (t : Nat) (h : s.fb Fld.WDG_H_CTL_EN = true) :
    (wdStart 0 t s).fg Fld.WDG_H_STAT_OPEN = if s.wdFraction 0 = 0 then 1 else 0 := by
  have hshut : (wdRestarted 0 t s).fg Fld.WDG_H_STAT_OPEN = 0 := fg_fs_of_lt s _ 0 (by decide) (by decide)
  have hen : (wdRestarted 0 t s).wdEnabled 0 = true := by
    rw [← h]
    exact fb_of_fg _ (fg_fs_addr s _ _ 0 (by decide))
  split
  · next hf =>
    rw [wdStart_atOnce s t hf]
    unfold wdOpen
    have hopen : (wdRestarted 0 t s).fb (wdOpenFld 0) = false := by
      unfold State.fb
      rw [show wdOpenFld 0 = Fld.WDG_H_STAT_OPEN from rfl, hshut]
      rfl
    rw [hen, hopen, if_neg (by decide)]
    dsimp only
    rw [if_pos rfl, raise_fg]
    exact fg_fs_of_lt _ _ 1 (by decide) (by decide)
  · next hf => rw [wdStart_later s t hf, hshut]

theorem wdHEnabled_cases : wdHEnabled s = wdHStarted s ∨ wdHEnabled s = (wdHStarted s).fs Fld.CLK_STAT_HFRC_ON 1 := by
  unfold wdHEnabled
  split
  · exact .inr rfl
  · exact .inl rfl

theorem wdHEnabled_leaves : (wdHEnabled s).fg Fld.WDG_H_CTL_EN = 1 ∧ kvGet (fun _ => 0) (wdHEnabled s).wdg 0 = s.aclk ∧
    (wdHEnabled s).fg Fld.WDG_H_STAT_OPEN = if s.wdFraction 0 = 0 then 1 else 0 := by
  have hset : (s.fs Fld.WDG_H_CTL_EN 1).fg Fld.WDG_H_CTL_EN = 1 := fg_fs_of_lt s _ 1 (by decide) (by decide)
  have hen : (wdHStarted s).fg Fld.WDG_H_CTL_EN = 1 := (wdStart_fg _ 0 _ (by decide)).trans hset
  have hopen : (wdHStarted s).fg Fld.WDG_H_STAT_OPEN = if s.wdFraction 0 = 0 then 1 else 0 := by
    have hfraction : (s.fs Fld.WDG_H_CTL_EN 1).wdFraction 0 = s.wdFraction 0 := by
      unfold State.wdFraction State.fb
      rw [fg_fs_addr _ _ _ _ (by decide), fg_fs_addr _ _ _ _ (by decide)]
    rw [wdHStarted, wdStart_open _ _ (by rw [State.fb, hset]; rfl), hfraction]
  obtain h | h := wdHEnabled_cases s
  · rw [h]
    exact ⟨hen, wdStart_wdg _ 0 _, hopen⟩
  · rw [h, fg_fs_addr _ _ _ _ (by decide), fg_fs_addr _ _ _ _ (by decide)]
    exact ⟨hen, wdStart_wdg _ 0 _, hopen⟩

/-! ### Service (R475 to R477) -/

theorem serviceKey_eq (v : Word) : fldOf v 0 16 = v.toNat % 65536 := by
  unfold fldOf
  rw [pow_zero, Nat.div_one, show 2 ^ 16 = 65536 from rfl]

theorem wdgService_wrongKey {v : Word} (stamp : Nat) (h : v.toNat % 65536 ≠ 0x5C3A) :
    wdgService v stamp s = (stOk, deviceReset 0x008 s) := if_pos (by rwa [serviceKey_eq])

section
variable {s} {v : Word} (hkey : v.toNat % 65536 = 0x5C3A)
include hkey

theorem wdgService_off (stamp : Nat) (h : s.fb Fld.WDG_H_CTL_EN = false) : wdgService v stamp s = (stOk, s) :=
  (if_neg (by rw [serviceKey_eq, hkey]; decide)).trans (if_pos (by rw [h]; decide))

theorem wdgService_on (stamp : Nat) (h : s.fb Fld.WDG_H_CTL_EN = true) : wdgService v stamp s =
    if stamp < s.wdOpens ∨ s.wdCycles ≤ stamp then (stOk, deviceReset causeWdH s)
    else (stOk, wdStart 0 (if s.fb Fld.WDG_H_CFG_CLKSEL then s.aclk else kvGet (fun _ => 0) s.wdg 0 + stamp) s) :=
  (if_neg (by rw [serviceKey_eq, hkey]; decide)).trans (if_neg (by rw [h]; decide))

end

/-! ### Windows, expiries and lost clocks (R474, R479, R480) -/

theorem wdgWindow_idle {w : Nat} (h : s.powerState = 0 ∨ s.wdEnabled w = false) : wdgWindow w s = s := by
  unfold wdgWindow wdOpen
  split
  · rfl
  · next hawake => rw [h.resolve_left hawake, if_pos (by simp)]

theorem wdgWindow_opens {w : Nat} (hawake : s.powerState ≠ 0) (hen : s.wdEnabled w = true)
    (hopen : s.fb (wdOpenFld w) = false) :
    wdgWindow w s = if w = 0 then (s.fs (wdOpenFld w) 1).raise 107 else s.fs (wdOpenFld w) 1 := by
  unfold wdgWindow wdOpen
  rw [if_neg hawake, hen, hopen, if_neg (by decide)]

theorem wdgExpiry_idle {w : Nat} (h : s.powerState = 0 ∨ s.wdEnabled w = false) : wdgExpiry w s = s :=
  if_pos (h.imp_right fun h => by rw [h]; rfl)

theorem wdgExpiry_resets {w : Nat} (hawake : s.powerState ≠ 0) (hen : s.wdEnabled w = true) :
    wdgExpiry w s = deviceReset (2 ^ (3 + w)) s := if_neg (by simp [hawake, hen])

theorem anyWatchdog_iff : [0, 1, 2].any s.wdEnabled = true ↔ ∃ w < 3, s.wdEnabled w = true := by
  rw [List.any_eq_true]
  refine exists_congr fun w => and_congr_left fun _ => ?_
  simp only [List.mem_cons, List.not_mem_nil, or_false]
  omega

theorem wdgClockTrip_idle (h : s.powerState = 0 ∨ ∀ w < 3, s.wdEnabled w = false) : wdgClockTrip s = s := by
  refine if_neg fun htrips => ?_
  rw [Bool.and_eq_true, bne_iff_ne, anyWatchdog_iff] at htrips
  obtain ⟨hawake, w, hw, hen⟩ := htrips
  exact absurd (h.resolve_left hawake w hw) (by rw [hen]; decide)

theorem wdgClockTrip_resets (hawake : s.powerState ≠ 0) (h : ∃ w < 3, s.wdEnabled w = true) :
    wdgClockTrip s = deviceReset 0x400 s := by
  refine if_pos ?_
  rw [Bool.and_eq_true, bne_iff_ne, anyWatchdog_iff]
  exact ⟨hawake, h⟩

/-- Settles O53: each access by whether WD_H is enabled, the key and the time, each instant by whether the watchdog runs. -/
theorem watchdogsReset : Obligations.WatchdogsReset := by
  refine ⟨fun p s hreach => ?enable, fun p v stamp s hreach => ?service, fun w s hlive => ?window,
    fun s hlive => ?clock⟩
  case enable =>
    refine ⟨fun hon => ⟨write_eq hreach (wdgCtlWrite_on s true hon), write_eq hreach (wdgCtlWrite_on s false hon)⟩,
      fun hoff => ⟨write_eq hreach (wdgCtlWrite_off s hoff), _, write_eq hreach (wdgCtlWrite_enables s hoff),
        wdHEnabled_leaves s⟩⟩
  case service =>
    intro ends
    refine ⟨fun hkey => write_eq hreach (wdgService_wrongKey s stamp hkey),
      fun hkey hoff => write_eq hreach (wdgService_off hkey stamp hoff), fun hkey hon => ⟨fun hout => ?_, fun hlo hhi hf => ?_⟩⟩
    · exact write_eq hreach ((wdgService_on hkey stamp hon).trans (if_pos hout))
    · have hin : ¬ (stamp < s.wdOpens ∨ s.wdCycles ≤ stamp) := fun hout => hout.elim (not_lt.2 hlo) (not_le.2 hhi)
      refine write_eq hreach ?_
      rw [wdgService_on hkey stamp hon, if_neg hin, wdStart_later s _ hf]
      rfl
  case window =>
    exact ⟨fun hidle => ⟨done_eq hlive (wdgWindow_idle s hidle), done_eq hlive (wdgExpiry_idle s hidle)⟩,
      fun hawake hen => ⟨done_eq hlive (wdgExpiry_resets s hawake hen),
        fun hopen => done_eq hlive (wdgWindow_opens s hawake hen hopen)⟩⟩
  case clock =>
    exact ⟨fun hidle => done_eq hlive (wdgClockTrip_idle s hidle),
      fun hawake hen => done_eq hlive (wdgClockTrip_resets s hawake hen)⟩

end Sys2Proof.Machine
end

section
/-!
PROOFS. Bank operations and the MRAM controller's words (R514 to R516, R522).
-/
namespace Sys2Proof.Machine

variable (s : State)

/-! ### The words of an operation (R522) -/

section
variable {s} {t : State}

theorem keySlot_congr (hotp : t.otpWord = s.otpWord) (base rev : Nat) (key : List Byte) :
    t.keySlot base rev key = s.keySlot base rev key := by
  unfold State.keySlot State.liveDigests State.digest
  rw [hotp]

theorem fwCheck_congr (h : t.otp = s.otp) (b : List Byte) : t.fwCheck b = s.fwCheck b := by
  have hotp : t.otpWord = s.otpWord := funext fun w => by rw [State.otpWord, State.otpWord, h]
  unfold State.fwCheck State.rollback
  rw [hotp]
  simp only [keySlot_congr hotp]

theorem mramByte_congr (h : t.mram = s.mram) (a : Nat) : t.mramByte a = s.mramByte a := by
  unfold State.mramByte
  rw [h]

theorem mramBytes_congr (h : t.mram = s.mram) (a n : Nat) : t.mramBytes a n = s.mramBytes a n := by
  unfold State.mramBytes State.mramByte
  rw [h]

theorem mramWord_congr (h : t.mram = s.mram) (a : Nat) : t.mramWord a = s.mramWord a := by
  unfold State.mramWord
  rw [mramBytes_congr h]

theorem bankImage_congr (h : t.mram = s.mram) (k : Nat) : t.bankImage k = s.bankImage k := by
  simp only [State.bankImage, mramWord_congr h, mramBytes_congr h]

theorem bankSeq_congr (h : t.mram = s.mram) (k : Nat) : t.bankSeq k = s.bankSeq k := by
  have hvalid : t.bankValid k = s.bankValid k := by
    unfold State.bankValid State.recordOk
    simp only [mramBytes_congr h]
  rw [State.bankSeq, State.bankSeq, hvalid, mramWord_congr h]

end

/-- The words come from memory and from the operation's arguments, not from NVC_CTL. -/
theorem nvcWords_fs_op (op v k : Nat) : nvcWords op k (s.fs Fld.NVC_CTL_OP v) = nvcWords op k s := by
  have hlen : (s.fs Fld.NVC_CTL_OP v).rd Reg.NVC_LEN = s.rd Reg.NVC_LEN := rd_fs_other _ _ _ _ (by decide)
  have hofs : (s.fs Fld.NVC_CTL_OP v).fg Fld.NVC_ARG_OFS = s.fg Fld.NVC_ARG_OFS := fg_fs_addr _ _ _ _ (by decide)
  unfold nvcWords
  split
  · dsimp only
    rw [hlen, hofs, mramWord_congr (State.fs_mram s _ _), sramBytes_congr (State.fs_sram s _ _)]
  · rw [bankImage_congr (State.fs_mram s _ _), bankSeq_congr (State.fs_mram s _ _)]
  · rfl

/-! ### The start of an operation (R522) -/

/-- An operation `op` begun with the words `ws`; `res` is what it will end with. -/
def nvcBegun (op res : Nat) (ws : List (Nat × Nat × Word)) (s : State) : State :=
  ((s.fs Fld.NVC_CTL_OP op).fs Fld.NVC_STAT_BUSY 1).setNvm { s.nvm with words := s.nvm.words ++ ws, res := res }

theorem nvcCtl_held (op : Nat) (h : s.opRuns = true ∨ s.fg Fld.NVC_ARG_BANK = s.runBank) :
    nvcCtl op true s = (stHeld, s) := if_pos (by simpa using h)

section
variable {s} (h : ¬ (s.opRuns = true ∨ s.fg Fld.NVC_ARG_BANK = s.runBank))
include h

theorem nvcCtl_outOfRange (hrange : s.nvcRange = false) :
    nvcCtl 0 true s = (stHeld, s.fs Fld.NVC_STAT_RESULT 5) :=
  (if_neg (by simpa using h)).trans (if_pos (by simp [hrange]))

theorem nvcCtl_starts {op : Nat} (hop : op < 3) (hrange : op = 0 → s.nvcRange = true) :
    nvcCtl op true s = (stOk, nvcBegun op (if op = 1 then s.fwCheck (s.bankImage (s.fg Fld.NVC_ARG_BANK)) else 0)
      (if (if op = 1 then s.fwCheck (s.bankImage (s.fg Fld.NVC_ARG_BANK)) else 0) = 0 then
        nvcWords op (s.fg Fld.NVC_ARG_BANK) s else []) s) := by
  have hcheck : (s.fs Fld.NVC_CTL_OP op).fwCheck ((s.fs Fld.NVC_CTL_OP op).bankImage (s.fg Fld.NVC_ARG_BANK)) =
      s.fwCheck (s.bankImage (s.fg Fld.NVC_ARG_BANK)) := by
    rw [fwCheck_congr (State.fs_otp s _ _), bankImage_congr (State.fs_mram s _ _)]
  unfold nvcCtl
  extract_lets k t r ws
  have hr : r = if op = 1 then s.fwCheck (s.bankImage k) else 0 := by
    unfold r
    rw [hcheck]
  have hws : ws = if r = 0 then nvcWords op k s else [] := by
    unfold ws
    rw [nvcWords_fs_op]
  rw [if_neg (by simpa using h), if_neg (by simpa using hrange), if_neg (by omega), if_neg (by decide), hws, hr]
  rfl

theorem nvcCtl_write (hrange : s.nvcRange = true) : nvcCtl 0 true s =
    (stOk, nvcBegun 0 0 (nvcWords 0 (s.fg Fld.NVC_ARG_BANK) s) s) := by
  rw [nvcCtl_starts h (by decide) fun _ => hrange, if_neg (by decide), if_pos rfl]

theorem nvcCtl_commit : nvcCtl 1 true s = (stOk, nvcBegun 1 (s.fwCheck (s.bankImage (s.fg Fld.NVC_ARG_BANK)))
    (if s.fwCheck (s.bankImage (s.fg Fld.NVC_ARG_BANK)) = 0 then nvcWords 1 (s.fg Fld.NVC_ARG_BANK) s else []) s) := by
  rw [nvcCtl_starts h (by decide) fun h => absurd h (by decide), if_pos rfl]

theorem nvcCtl_clear : nvcCtl 2 true s = (stOk, nvcBegun 2 0 (nvcWords 2 (s.fg Fld.NVC_ARG_BANK) s) s) := by
  rw [nvcCtl_starts h (by decide) fun h => absurd h (by decide), if_neg (by decide), if_pos rfl]

end

theorem setMramBytes_field {γ : Type} (g : State → γ) (h : ∀ (t : State) (v : KV Byte), g (t.setMram v) = g t) (a : Nat)
    (b : List Byte) : g (s.setMramBytes a b) = g s := by
  induction b generalizing s a with
  | nil => rfl
  | cons x r ih => exact (ih _ _).trans (h s _)

/-! ### The end of an operation, and words in turn (R514 to R516) -/

theorem nvcEnd_waits (h : s.fb Fld.NVC_STAT_BUSY = false ∨ ∃ x ∈ s.nvm.words, x.1 = wHost) : nvcEnd s = s := by
  refine if_pos ?_
  rw [Bool.or_eq_true, Bool.not_eq_true', List.any_eq_true]
  simpa using h

theorem nvcEnd_ends (hbusy : s.fb Fld.NVC_STAT_BUSY = true) (h : ∀ x ∈ s.nvm.words, x.1 ≠ wHost) :
    nvcEnd s = ((s.fs Fld.NVC_STAT_BUSY 0).fs Fld.NVC_STAT_RESULT s.nvm.res).raise 193 := by
  refine if_neg ?_
  rw [Bool.or_eq_true, Bool.not_eq_true', List.any_eq_true, hbusy]
  rintro (hfalse | ⟨x, hx, hw⟩)
  · cases hfalse
  · exact h x hx (beq_iff_eq.1 hw)

theorem nextWriter_none (aged : List Nat) (h : s.nvm.words = []) : s.nextWriter aged = none := by
  have hwaits : (List.range 8).filter (fun w => s.nvm.words.any (fun x => x.1 == w)) = [] := by
    simp [h]
  unfold State.nextWriter
  rw [hwaits]
  rfl

section
variable {s} {w a : Nat} {v : Word} {rest : List (Nat × Nat × Word)} (hwords : s.nvm.words = (w, a, v) :: rest)
include hwords

/-- R516: a writer that waits alone is served, however long it has waited. -/
theorem nextWriter_alone (aged : List Nat) (hrest : ∀ x ∈ rest, x.1 = w) (hw : w < 8) : s.nextWriter aged = some w := by
  have hone : ∀ w < 8, (List.range 8).filter (fun i => w == i) = [w] := by decide
  have hany : (fun i => s.nvm.words.any (fun x => x.1 == i)) = fun i => w == i := funext fun i => by
    rw [hwords, List.any_cons, Bool.eq_iff_iff, Bool.or_eq_true, List.any_eq_true]
    exact ⟨fun h => h.elim id fun ⟨x, hx, hxi⟩ => hrest x hx ▸ hxi, .inl⟩
  unfold State.nextWriter
  rw [hany, hone w hw]
  dsimp only
  rw [List.find?_cons, List.find?_nil]
  cases aged.contains w <;> rfl

theorem wordWrite_served (aged : List Nat) (fail : Bool) (hrest : ∀ x ∈ rest, x.1 = w) (hw : w < 8) :
    wordWrite aged fail s = if fail then wordRefused w a s
      else
        let t := (s.setMramWord a v).setNvm { s.nvm with words := rest }
        if w = wProgram && !rest.any (fun x => x.1 == wProgram) then programStep t else t := by
  have hfind : s.nvm.words.find? (fun x => x.1 == w) = some (w, a, v) := by
    rw [hwords]
    exact List.find?_cons_of_pos (beq_self_eq_true w)
  have hnvm : (s.setMramWord a v).nvm = s.nvm := setMramBytes_field s State.nvm (fun _ _ => rfl) a _
  unfold wordWrite
  rw [nextWriter_alone hwords aged hrest hw]
  dsimp only
  rw [hfind]
  dsimp only
  rw [hnvm, hwords, List.erase_cons_head]
  rfl

theorem wordWrite_writes (aged : List Nat) (hrest : ∀ x ∈ rest, x.1 = w) (hw : w < 8) (h : w ≠ wProgram ∨ rest ≠ []) :
    wordWrite aged false s = (s.setMramWord a v).setNvm { s.nvm with words := rest } := by
  rw [wordWrite_served hwords aged false hrest hw]
  dsimp only
  refine (if_neg (by decide)).trans (if_neg fun hlast => ?_)
  rw [Bool.and_eq_true, decide_eq_true_eq, Bool.not_eq_true', List.any_eq_false] at hlast
  obtain ⟨hprogram, hnone⟩ := hlast
  obtain ⟨x, r, rfl⟩ := List.exists_cons_of_ne_nil (h.resolve_left (fun hne => hne hprogram))
  exact hnone x List.mem_cons_self (beq_iff_eq.2 ((hrest x List.mem_cons_self).trans hprogram))

end

/-! ### A refused word (R514) -/

theorem finc_fg {f : Fld} (hf : f.lo + f.width ≤ 32) : (s.finc f).fg f = min (s.fg f + 1) (2 ^ f.width - 1) :=
  fg_fs_of_lt s f _ hf ((Nat.min_le_right _ _).trans_lt (Nat.sub_lt (Nat.two_pow_pos _) one_pos))

/-- The word with the content that the refused write left, counted and on the collector's line. -/
def refusedHere (a : Nat) (s : State) : State :=
  ((s.fresh.2.setMramWord a (BitVec.ofNat 32 s.fresh.1)).finc Fld.NVC_ERR_REFUSED).driveLine 10

theorem refusedHere_nvm (a : Nat) : (refusedHere a s).nvm = s.nvm :=
  setMramBytes_field s.fresh.2 State.nvm (fun _ _ => rfl) a _

theorem refusedHere_count (a : Nat) : (refusedHere a s).fg Fld.NVC_ERR_REFUSED =
    min (s.fg Fld.NVC_ERR_REFUSED + 1) (2 ^ Fld.NVC_ERR_REFUSED.width - 1) := by
  have hword : (s.fresh.2.setMramWord a (BitVec.ofNat 32 s.fresh.1)).fg Fld.NVC_ERR_REFUSED = s.fg Fld.NVC_ERR_REFUSED :=
    setMramBytes_field s.fresh.2 (fun t => t.fg Fld.NVC_ERR_REFUSED) (fun _ _ => rfl) a _
  rw [refusedHere, driveLine_fg, finc_fg _ (by decide), hword]

theorem refusedHere_lines (a : Nat) : (refusedHere a s).flt.lines = s.flt.lines ++ [10] := by
  have hword : (s.fresh.2.setMramWord a (BitVec.ofNat 32 s.fresh.1)).flt = s.flt :=
    setMramBytes_field s.fresh.2 State.flt (fun _ _ => rfl) a _
  rw [refusedHere, State.driveLine_lines, State.finc, State.fsat, State.fs_flt, hword]

/-- The host's write ended by a refused word, which its result shows. -/
def hostEnded (t : State) : State := (nvDrop wHost t).setNvm { (nvDrop wHost t).nvm with res := 6 }

theorem hostEnded_keeps (t : State) : (∀ f, (hostEnded t).fg f = t.fg f) ∧ (hostEnded t).flt = t.flt ∧
    (hostEnded t).mram = t.mram := ⟨fun f => fg_congr (s := t) rfl f, rfl, rfl⟩

theorem hostEnded_nvm (t : State) : (hostEnded t).nvm.words = t.nvm.words.filter (fun x => x.1 != wHost) ∧
    (hostEnded t).nvm.res = 6 := ⟨rfl, rfl⟩

theorem wordRefused_host (a : Nat) : wordRefused wHost a s = hostEnded (refusedHere a s) := rfl

theorem refusedHere_mramByte {a b : Nat} (h : b < a ∨ a + 4 ≤ b) : (refusedHere a s).mramByte b = s.mramByte b := by
  have hmram : (refusedHere a s).mram = (s.fresh.2.setMramWord a (BitVec.ofNat 32 s.fresh.1)).mram := by
    rw [refusedHere, State.driveLine_mram, State.finc, State.fsat, State.fs_mram]
  rw [mramByte_congr hmram, mramByte_setWord_other s.fresh.2 _ h]
  rfl

theorem wordRefused_host_leaves {a : Nat} (h : ∀ x ∈ s.nvm.words, x.1 = wHost) :
    (wordRefused wHost a s).nvm.words = [] ∧ (wordRefused wHost a s).nvm.res = 6 ∧
    (wordRefused wHost a s).fg Fld.NVC_ERR_REFUSED =
      min (s.fg Fld.NVC_ERR_REFUSED + 1) (2 ^ Fld.NVC_ERR_REFUSED.width - 1) ∧
    (wordRefused wHost a s).flt.lines = s.flt.lines ++ [10] ∧
    ∀ b, b < a ∨ a + 4 ≤ b → (wordRefused wHost a s).mramByte b = s.mramByte b := by
  obtain ⟨hfg, hflt, hmram⟩ := hostEnded_keeps (refusedHere a s)
  obtain ⟨hwords, hres⟩ := hostEnded_nvm (refusedHere a s)
  have hnone : s.nvm.words.filter (fun x => x.1 != wHost) = [] := by
    rw [List.filter_eq_nil_iff]
    exact fun x hx => by simp [h x hx]
  rw [wordRefused_host, hfg, hflt, hwords, hres, refusedHere_nvm, refusedHere_count, refusedHere_lines]
  exact ⟨hnone, rfl, rfl, rfl, fun b hb => (mramByte_congr hmram b).trans (refusedHere_mramByte s hb)⟩

/-! ### The statement -/

/-- Settles O59: a GO by the refusals of R522 in their order, a word by the writer that waits alone. -/
theorem bankUpdatesRun : Obligations.BankUpdatesRun := by
  refine ⟨fun p s hreach => ?go, fun s hlive => ?done, fun aged s hlive hnone => ?idle,
    fun aged w a v rest s hlive hwords hrest hw => ?word⟩
  case go =>
    intro k held start
    exact ⟨fun h => ⟨write_eq hreach (nvcCtl_held s 0 h), write_eq hreach (nvcCtl_held s 1 h),
      write_eq hreach (nvcCtl_held s 2 h)⟩, fun h hrange => write_eq hreach (nvcCtl_outOfRange h hrange),
      fun h hrange => write_eq hreach (nvcCtl_write h hrange), fun h => write_eq hreach (nvcCtl_commit h),
      fun h => write_eq hreach (nvcCtl_clear h)⟩
  case done =>
    exact ⟨fun h => done_eq hlive (nvcEnd_waits s h), fun hbusy h => done_eq hlive (nvcEnd_ends s hbusy h)⟩
  case idle =>
    refine done_eq hlive ?_
    rw [wordWrite, nextWriter_none s aged hnone]
  case word =>
    refine ⟨fun h => done_eq hlive (wordWrite_writes hwords aged hrest hw h), ?_⟩
    rintro rfl
    refine ⟨_, done_eq hlive (wordWrite_served hwords aged true hrest hw), ?_⟩
    refine wordRefused_host_leaves s fun x hx => ?_
    rw [hwords] at hx
    obtain rfl | hx := List.mem_cons.1 hx
    · rfl
    · exact hrest x hx

end Sys2Proof.Machine
end

section
/-!
PROOFS. Fuses (R509, R510, R512, R513): what a read answers, when a GO is refused, and what an operation leaves blown.
-/
namespace Sys2Proof.Machine

variable (s : State)

/-! ### Reads (R509, R510) -/

theorem otpRead_reach {p : Port} {w : Nat} (bad : Bool) (h : Reach p (0x081000 + 4 * w) s) : otpRead p w bad s =
    respondRead p [(s.otpAnswer w bad).2] (s.otpAnswer w bad).1 (otpReadEffect w bad s) := by
  obtain ⟨hruns, hiso⟩ := h
  unfold otpRead
  rw [hruns, hiso]
  rfl

theorem deviceKeyWord_iff {w : Nat} : deviceKeyWord w = true ↔ 0x100 ≤ w ∧ w ≤ 0x107 := decide_eq_true_iff

theorem otpRead_key {p : Port} {w : Nat} (bad : Bool) (h : Reach p (0x081000 + 4 * w) s) (hkey : 0x100 ≤ w ∧ w ≤ 0x107) :
    otpRead p w bad s = respondRead p [0] stLocked s := by
  rw [otpRead_reach s bad h, State.otpAnswer, otpReadEffect, deviceKeyWord_iff.2 hkey, Bool.not_true, Bool.and_false]
  rfl

theorem otpRead_word {p : Port} {w : Nat} (bad : Bool) (h : Reach p (0x081000 + 4 * w) s)
    (hkey : ¬ (0x100 ≤ w ∧ w ≤ 0x107)) : otpRead p w bad s =
      if bad then respondRead p [0] stDecodeErr ((s.fs Fld.OTP_STAT_RDERR 1).driveLine 11)
      else respondRead p [s.otpWord w] stOk s := by
  have hopen : deviceKeyWord w = false := by
    rw [← Bool.not_eq_true, deviceKeyWord_iff]
    exact hkey
  rw [otpRead_reach s bad h, State.otpAnswer, otpReadEffect, hopen, Bool.not_false, Bool.and_true]
  cases bad <;> rfl

/-! ### A GO (R512, R554) -/

@[simp] theorem setNvm_fg (v : Nvm) (f : Fld) : (s.setNvm v).fg f = s.fg f := (rfl)
@[simp] theorem setNvm_otpWord (v : Nvm) (w : Nat) : (s.setNvm v).otpWord w = s.otpWord w := (rfl)

theorem vpp_busy (vpp : Nat) : (s.fs Fld.OTP_STAT_VPPOK vpp).fb Fld.OTP_STAT_BUSY = s.fb Fld.OTP_STAT_BUSY :=
  fb_of_fg _ (fg_fs_other s _ _ vpp (by decide) (by decide))

/-- The refusals in the order of R554; `bad` says that a value is not accepted. -/
theorem write_otpStart {p : Port} {f : State → Nat × State} {locked ok vpp : Bool} {words : List (Nat × Nat)} {bad : Prop}
    [Decidable bad] {s : State} (hreach : Reach p Reg.OTP_PCTL s) (hgo : f s = otpStart locked ok words vpp s)
    (hbad : ok = false ↔ bad) : done s (asWrite p Reg.OTP_PCTL f s) = .next (finish
      (let v := s.fs Fld.OTP_STAT_VPPOK (if vpp = true then 1 else 0)
       if locked = true then respond p stLocked 0 v else if s.fb Fld.OTP_STAT_BUSY = true then respond p stBusy 0 v
       else if vpp = false then respond p stHeld 0 (v.fs Fld.OTP_STAT_VPPERR 1)
       else if bad then respond p stDecodeErr 0 v
       else respond p stOk 0 ((v.fs Fld.OTP_STAT_BUSY 1).setNvm { v.nvm with otp := words }))) := by
  rw [write_eq hreach (hgo.trans Prod.mk.eta.symm)]
  congr 2
  unfold otpStart boolNat
  extract_lets v
  rw [show v.fb Fld.OTP_STAT_BUSY = s.fb Fld.OTP_STAT_BUSY from vpp_busy s _, ← if_congr hbad rfl rfl]
  cases locked <;> cases s.fb Fld.OTP_STAT_BUSY <;> cases vpp <;> cases ok <;> rfl

/-- R512: the words that a PROGRAM does not reach. -/
theorem otpGo_program (vpp : Bool) : otpGo 0 true vpp s = otpStart
    (decide (s.fg Fld.OTP_PADDR_WORD < 0x180) && s.life || decide (s.fg Fld.OTP_PADDR_WORD = 0xFF ∨
      s.fg Fld.OTP_PADDR_WORD = 0x17F ∨ s.fg Fld.OTP_PADDR_WORD = 0x180 ∨ s.fg Fld.OTP_PADDR_WORD = 0x181 ∨
      (0x184 ≤ s.fg Fld.OTP_PADDR_WORD ∧ s.fg Fld.OTP_PADDR_WORD ≤ 0x187))) true
    [(s.fg Fld.OTP_PADDR_WORD, (s.rd Reg.OTP_PDATA).toNat)] vpp s := by
  have hlocked : ∀ w, s.otpLocked w = (decide (w < 0x180) && s.life ||
      decide (w = 0xFF ∨ w = 0x17F ∨ w = 0x180 ∨ w = 0x181 ∨ (0x184 ≤ w ∧ w ≤ 0x187))) := fun w => by
    simp only [State.otpLocked, Bool.decide_or, Bool.or_assoc, beq_eq_decide]
  rw [← hlocked]
  rfl

/-- An operation begun with the bits that it is to set. -/
def otpBegun (words : List (Nat × Nat)) (s : State) : State :=
  ((s.fs Fld.OTP_STAT_VPPOK 1).fs Fld.OTP_STAT_BUSY 1).setNvm { s.nvm with otp := words }

theorem otpStart_begins {locked ok : Bool} (words : List (Nat × Nat)) (hbusy : s.fb Fld.OTP_STAT_BUSY = false)
    (hlocked : locked = false) (hok : ok = true) : otpStart locked ok words true s = (stOk, otpBegun words s) := by
  subst hlocked hok
  unfold otpStart
  extract_lets v
  rw [show v.fb Fld.OTP_STAT_BUSY = s.fb Fld.OTP_STAT_BUSY from vpp_busy s _, hbusy]
  rfl

/-! ### Blown fuses (R513) -/

/-- Every fuse that is blown before is blown after. -/
def KeepsBlown (s t : State) : Prop := ∀ w b, (s.otpWord w).getLsbD b = true → (t.otpWord w).getLsbD b = true

theorem otpBurn_otpWord (x : Nat × Nat) (w : Nat) : (otpBurn x s).otpWord w =
    if w = x.1 then BitVec.ofNat 32 ((s.otpWord x.1).toNat ||| x.2) else s.otpWord w := otpWord_set s _ _ _

theorem otpBurn_keepsBlown (x : Nat × Nat) : KeepsBlown s (otpBurn x s) := by
  intro w b hb
  rw [otpBurn_otpWord]
  split
  · next hw =>
    subst hw
    have hlt := BitVec.lt_of_getLsbD hb
    rw [BitVec.getLsbD_ofNat, Nat.testBit_or, decide_eq_true hlt, Bool.true_and]
    exact Bool.or_eq_true_iff.2 (.inl hb)
  · exact hb

theorem otpBurnAll_keepsBlown (ws : List (Nat × Nat)) : KeepsBlown s (ws.foldl (fun s w => otpBurn w s) s) := by
  induction ws generalizing s with
  | nil => exact fun _ _ h => h
  | cons x r ih => exact fun w b hb => ih _ w b (otpBurn_keepsBlown s x w b hb)

theorem otpBurnAll_other {ws : List (Nat × Nat)} {w : Nat} (h : ∀ x ∈ ws, x.1 ≠ w) :
    (ws.foldl (fun s w => otpBurn w s) s).otpWord w = s.otpWord w :=
  foldl_field_mem (fun t : State => t.otpWord w) _ ws (fun t x hx => by
    rw [otpBurn_otpWord, if_neg (h x hx).symm]) s

/-- A whole operation has set every bit that it was to set. -/
theorem otpBurnAll_sets {ws : List (Nat × Nat)} {x : Nat × Nat} (hx : x ∈ ws) :
    BitVec.ofNat 32 x.2 &&& ~~~((ws.foldl (fun s w => otpBurn w s) s).otpWord x.1) = 0 := by
  obtain ⟨before, after, rfl⟩ := List.append_of_mem hx
  rw [List.foldl_append, List.foldl_cons]
  generalize before.foldl (fun s w => otpBurn w s) s = t
  refine BitVec.eq_of_getLsbD_eq fun b hb => ?_
  rw [BitVec.getLsbD_and, BitVec.getLsbD_not, BitVec.getLsbD_ofNat, decide_eq_true hb, Bool.true_and, Bool.true_and]
  cases hbit : x.2.testBit b with
  | false => simp
  | true =>
    have hset : ((otpBurn x t).otpWord x.1).getLsbD b = true := by
      rw [otpBurn_otpWord, if_pos rfl, BitVec.getLsbD_ofNat, Nat.testBit_or, decide_eq_true hb, hbit]
      simp
    simp [otpBurnAll_keepsBlown _ after x.1 b hset]

/-- The fuses after an operation: whole, or up to word `n` and a part of its bits. -/
def otpBlown (n part res : Nat) (s : State) : State :=
  if res = 0 then s.nvm.otp.foldl (fun s w => otpBurn w s) s
  else
    let t := (s.nvm.otp.take n).foldl (fun s w => otpBurn w s) s
    match s.nvm.otp[n]? with
    | some w => otpBurn (w.1, w.2 &&& part) t
    | none => t

theorem otpBlown_keepsBlown (n part res : Nat) : KeepsBlown s (otpBlown n part res s) := by
  unfold otpBlown
  split
  · exact otpBurnAll_keepsBlown s _
  · extract_lets t
    split
    · exact fun w b hb => otpBurn_keepsBlown t _ w b (otpBurnAll_keepsBlown s _ w b hb)
    · exact otpBurnAll_keepsBlown s _

theorem otpBlown_other (n part res : Nat) {w : Nat} (h : ∀ x ∈ s.nvm.otp, x.1 ≠ w) :
    (otpBlown n part res s).otpWord w = s.otpWord w := by
  have hsome : ((s.nvm.otp.take n).foldl (fun s w => otpBurn w s) s).otpWord w = s.otpWord w :=
    otpBurnAll_other s fun x hx => h x (List.mem_of_mem_take hx)
  unfold otpBlown
  split
  · exact otpBurnAll_other s h
  · extract_lets t
    split
    · next x hx => rw [otpBurn_otpWord, if_neg (h x (List.mem_of_getElem? hx)).symm, hsome]
    · exact hsome

/-- The result code of an operation's end: success, VPP or VERIFY. -/
def otpResult (res : Nat) : Nat := match res with
  | 0 => 0
  | 1 => 7
  | _ => 8

/-- What an operation leaves, but for its event. -/
def otpEnded (n part res : Nat) (s : State) : State :=
  let t := ((otpBlown n part res s).fs Fld.OTP_STAT_BUSY 0).fs Fld.OTP_STAT_RESULT (otpResult res)
  t.setNvm { t.nvm with otp := [] }

theorem otpEnd_idle (n part res : Nat) (h : s.fb Fld.OTP_STAT_BUSY = false) : otpEnd n part res s = s :=
  if_pos (by rw [h]; rfl)

theorem otpEnd_ends (n part res : Nat) (h : s.fb Fld.OTP_STAT_BUSY = true) :
    otpEnd n part res s = (otpEnded n part res s).raise 194 := if_neg (by rw [h]; decide)

theorem otpEnded_otpWord (n part res w : Nat) : (otpEnded n part res s).otpWord w = (otpBlown n part res s).otpWord w :=
  (setNvm_otpWord _ _ _).trans ((fs_otpWord _ _ _ _).trans (fs_otpWord _ _ _ _))

theorem otpEnded_status (n part : Nat) (res : Fin 3) : (otpEnded n part res s).fg Fld.OTP_STAT_BUSY = 0 ∧
    (otpEnded n part res s).fg Fld.OTP_STAT_RESULT = [0, 7, 8].getD res 0 := by
  have hresult : ∀ r : Fin 3, otpResult r = [0, 7, 8].getD r 0 ∧ otpResult r < 2 ^ Fld.OTP_STAT_RESULT.width := by decide
  obtain ⟨hcode, hlt⟩ := hresult res
  unfold otpEnded
  rw [setNvm_fg, setNvm_fg, fg_fs_other _ _ _ _ (by decide) (by decide), fg_fs_of_lt _ _ _ (by decide) (by decide),
    fg_fs_of_lt _ _ _ (by decide) hlt]
  exact ⟨rfl, hcode⟩

/-! ### The statement -/

/-- Settles O58: reads by the key and the error, a GO by the refusals in their order, and an operation's end by what it has
burned: setting bits keeps the blown ones. -/
theorem fusesAreBlown : Obligations.FusesAreBlown := by
  refine ⟨fun p w bad s hreach => ?read, fun p vpp op s hreach => ?refused, fun p s hreach hbusy => ?begun,
    fun n part res s hlive => ?ended⟩
  case read =>
    have hlive := portRuns_live s hreach.1
    exact ⟨fun hkey => done_eq hlive (otpRead_key s bad hreach hkey),
      fun hkey => done_eq hlive (otpRead_word s false hreach hkey),
      fun hkey => done_eq hlive (otpRead_word s true hreach hkey)⟩
  case refused =>
    intro c w d locked words v
    fin_cases op
    · exact write_otpStart hreach (otpGo_program s vpp) ⟨fun h => Bool.noConfusion h, fun h => absurd h.1 (by decide)⟩
    · exact write_otpStart hreach (ok := true) rfl ⟨fun h => Bool.noConfusion h, fun h => absurd h.1 (by decide)⟩
    · exact write_otpStart hreach rfl (by simp [d])
    · exact write_otpStart hreach (ok := true) rfl ⟨fun h => Bool.noConfusion h, fun h => absurd h.1 (by decide)⟩
  case begun =>
    refine ⟨fun hlocked => write_eq hreach (otpStart_begins s _ hbusy hlocked rfl),
      fun hlife => write_eq hreach (otpStart_begins s _ hbusy hlife rfl), fun hkey hlocked => ?_, fun hsvn => ?_⟩
    · refine write_eq hreach (otpStart_begins s _ hbusy ?_ ?_)
      · rw [hlocked, Bool.and_false]
      · rw [decide_eq_true hkey, Bool.and_true]
    · exact write_eq hreach (otpStart_begins s _ hbusy (decide_eq_false (not_lt.2 hsvn)) rfl)
  case ended =>
    refine ⟨fun hidle => done_eq hlive (otpEnd_idle s n _ res hidle), fun hruns => ⟨otpEnded n part.toNat res s,
      done_eq hlive (otpEnd_ends s n _ res hruns), (otpEnded_status s n _ res).1, (otpEnded_status s n _ res).2, rfl,
      fun w b hb => ?_, fun w hw => ?_, fun hres x hx => ?_⟩⟩
    · rw [otpEnded_otpWord]
      exact otpBlown_keepsBlown s n _ res w b hb
    · rw [otpEnded_otpWord, otpBlown_other s n _ res hw]
    · rw [otpEnded_otpWord, otpBlown, if_pos hres]
      exact otpBurnAll_sets s hx

end Sys2Proof.Machine
end

section
/-!
PROOFS. Device-wide reset: what each source clears, and what the balls show while it is asserted (R429 to R434, R437, R491).
-/
namespace Sys2Proof.Machine

variable {s : State}

/-! ### Sources (R430, R431, R549) -/

theorem exec_resetCause {c : Instr} {bits : Nat} (h : resetCause c = some bits) (s : State) :
    exec c s = .next (finish (deviceReset bits s)) := by
  unfold resetCause at h
  split at h <;> cases h <;> rfl

theorem resetPin_absorbed (h : s.rst.asserted = true ∧ s.rst.power = true) : resetPin s = s :=
  if_pos (by simp [h])

theorem resetPin_resets (h : s.rst.asserted = false ∨ s.rst.power = false) : resetPin s = deviceReset causePin s :=
  if_neg (by rcases h with h | h <;> simp [h])

theorem rstKey_eq (v : Word) : fldOf v 16 16 = v.toNat / 65536 :=
  Nat.mod_eq_of_lt (Nat.div_lt_of_lt_mul v.isLt)

theorem rstCtlWrite_badKey (s : State) {v : Word} (h : v.toNat / 65536 ≠ 0xC0DE) : rstCtlWrite v s = (stDecodeErr, s) :=
  if_pos (by rwa [rstKey_eq])

theorem rstCtlWrite_resets (s : State) {v : Word} (hkey : v.toNat / 65536 = 0xC0DE) (hbit : v.getLsbD 0 = true) :
    rstCtlWrite v s = (stOk, deviceReset causeSw s) := by
  have hset : bitOf v.toNat 0 = true := by rw [bitOf_eq_testBit]; exact hbit
  rw [rstCtlWrite, rstKey_eq, if_neg (not_not.2 hkey), if_pos hset]

/-- R419: the frame addresses this rack and this rack accepts it. -/
abbrev ResetFrameHits (mask code : BitVec 16) (s : State) : Prop :=
  s.fb Fld.WGL_CFG_EN = true ∧ s.fb Fld.WGL_CFG_RRST_EN = true ∧ s.swarmPos ≠ 0 ∧ code = 0x5AA5 ∧
    bitOf mask.toNat s.swarmPos = true

theorem resetFrame_eq (mask code : BitVec 16) [Decidable (ResetFrameHits mask code s)] :
    resetFrame mask.toNat code.toNat s = if ResetFrameHits mask code s then deviceReset causeQueen s else s := by
  have hcode : code.toNat = 0x5AA5 ↔ code = 0x5AA5 := BitVec.toNat_inj (y := 0x5AA5)
  rw [resetFrame]
  congr 1
  simp only [Bool.and_eq_true, bne_iff_ne, beq_iff_eq, hcode, and_assoc]

/-! ### What a reset clears (R432 to R434) -/

theorem deviceReset_again {bits : Nat} (hrst : s.rst.asserted = true) (hpor : bitOf bits 0 = false)
    (hao : bitOf bits 1 = false) : deviceReset bits s = addCause bits s := by
  have hheld : (addCause bits s).rst.asserted = true := hrst
  simp only [deviceReset, hpor, hao, Bool.or_false, Bool.false_eq_true, if_false, hheld, Bool.not_false, Bool.and_true,
    if_true]

theorem deviceReset_clears {bits : Nat} (h : s.rst.asserted = false ∨ bitOf bits 0 = true) (hao : bitOf bits 1 = false) :
    deviceReset bits s =
      (keptState (bitOf bits 0) (addCause bits s)).wr Reg.RST_LAST (BitVec.ofNat 32 s.rtc.sec) := by
  have hgo : ((addCause bits s).rst.asserted && !bitOf bits 0) = false := by
    rw [addCause_rst]; rcases h with h | h <;> simp [h]
  simp only [deviceReset, hao, Bool.or_false, Bool.false_eq_true, if_false, hgo]
  rfl

theorem deviceReset_aoPor (s : State) : deviceReset 0x002 s =
    (keptState true (addCause 3 (aoClear (s.setRst { s.rst with aoLost := false })))).wr Reg.RST_LAST 0 := by
  have hao : bitOf 0x002 1 = true := by decide
  simp only [deviceReset, hao, Bool.or_true, if_true, Bool.not_true, Bool.and_false, Bool.false_eq_true, if_false]
  rfl

/-- R434: a word outside the AO domain returns to its reset value. -/
theorem keptState_rd_gone (power : Bool) {a : Nat} (h : aoAddr a = false) : (keptState power s).rd a = resetWord a :=
  kvGet_filter_gone resetWord s.regs _ a (fun _ => h)

theorem addCause_rd_other (bits : Nat) {a : Nat} (h : a ≠ Reg.RST_CAUSE) : (addCause bits s).rd a = s.rd a :=
  rd_wr_other s _ _ _ h

/-- R434: what a reset leaves of a word other than the two it writes. -/
theorem keptState_addCause_rd (power : Bool) (bits : Nat) {a : Nat} (hcause : a ≠ Reg.RST_CAUSE)
    (hlast : a ≠ Reg.RST_LAST) : (keptState power (addCause bits s)).rd a =
      if 0x060000 ≤ a ∧ a < 0x070000 then s.rd a else resetWord a := by
  split
  · next hrtc => rw [keptState_rd _ _ (decide_eq_true (.inr (.inr hrtc))), addCause_rd_other _ hcause]
  · next hrtc => exact keptState_rd_gone _ (decide_eq_false (by tauto))

theorem keptState_addCause_cause (power : Bool) (bits : Nat) : (keptState power (addCause bits s)).rd Reg.RST_CAUSE =
    BitVec.ofNat 32 ((s.rd Reg.RST_CAUSE).toNat ||| bits) := by
  rw [keptState_rd _ _ (by decide), addCause, rd_wr_same]

theorem deviceReset_aoPor_cause (s : State) : (deviceReset 0x002 s).rd Reg.RST_CAUSE = 3 := by
  have hzero : resetWord Reg.RST_CAUSE = 0 := by decide
  rw [deviceReset_aoPor, rd_wr_other _ _ _ _ (by decide), keptState_addCause_cause, aoClear_rd, if_pos (by decide), hzero]
  rfl

theorem deviceReset_aoPor_rd (s : State) {a : Nat} (hcause : a ≠ Reg.RST_CAUSE) :
    (deviceReset 0x002 s).rd a = resetWord a := by
  rw [deviceReset_aoPor]
  by_cases hlast : a = Reg.RST_LAST
  · rw [hlast, rd_wr_same]; decide
  · rw [rd_wr_other _ _ _ _ hlast, keptState_addCause_rd _ _ hcause hlast, aoClear_rd]
    split
    · next hrtc => exact if_pos (decide_eq_true (.inr (.inr hrtc)))
    · rfl

/-! ### Balls (R429, R437, R491, R532) -/

theorem ball_inReset (b : Nat) (h : s.rst.asserted = true) : s.ball b = s.otpBall b := if_pos h

theorem fault_and_irq_inReset (h : s.rst.asserted = true) :
    s.faultLow = true ∧ s.irqLow 0 = false ∧ s.irqLow 1 = false := by
  simp [State.faultLow, State.irqLow, h]

theorem ballState_plain {attr : Nat} (v : Bool) (hdrain : bitOf attr 2 = false) (hinv : bitOf attr 3 = false) :
    ballState attr (some v) = if v then .high else .low := by
  cases v <;> simp [ballState, hdrain, hinv]

theorem fb_bit (s : State) {f : Fld} (h : f.width = 1) : s.fb f = decide (s.fg f = 1) := by
  have hlt : s.fg f < 2 := by
    have := Nat.mod_lt ((s.rd f.addr).toNat / 2 ^ f.lo) (Nat.two_pow_pos f.width)
    simpa [State.fg, fldOf, h] using this
  unfold State.fb
  interval_cases s.fg f <;> rfl

theorem outFunction_drive (s : State) {n : Nat} (hn : n < 8) :
    s.outFunction (0x10 + n) = some (s.fb (Fld.EFU_S_KSTAT_KM n)) := by
  simp only [State.outFunction]
  rw [if_pos (by omega), Nat.add_sub_cancel_left]

theorem ball_drive {b n attr : Nat} (hlive : s.rst.asserted = false) (hpin : s.pinEntry b = some (0x10 + n, attr))
    (hn : n < 8) (hdrain : bitOf attr 2 = false) (hinv : bitOf attr 3 = false) :
    s.ball b = if s.fg (Fld.EFU_S_KSTAT_KM n) = 1 then .high else .low := by
  have hseq : ¬ (0x90 ≤ 0x10 + n ∧ 0x10 + n ≤ 0xA3) := by omega
  simp only [State.ball, hlive, Bool.false_eq_true, if_false, hpin, hseq, decide_false, Bool.and_false,
    outFunction_drive s hn, ballState_plain _ hdrain hinv, fb_bit s (f := Fld.EFU_S_KSTAT_KM n) rfl, decide_eq_true_eq]

/-- Settles O45, source by source; what a reset clears is said once, in `deviceReset_clears`. -/
theorem deviceResetClears : Obligations.DeviceResetClears := by
  unfold Obligations.DeviceResetClears
  refine ⟨fun s => ⟨rfl, rfl, rfl, fun _ => rfl⟩, fun c bits s h => exec_resetCause h s, fun s => ⟨fun h => ?_, fun h => ?_⟩,
    fun p v s hreach => ⟨fun hkey => write_eq hreach (rstCtlWrite_badKey s hkey),
      fun hkey hbit => write_eq hreach (rstCtlWrite_resets s hkey hbit)⟩, fun mask code s hlive => ⟨fun h => ?_, fun h => ?_⟩,
    fun bits s hrst hpor hao => deviceReset_again hrst hpor hao, fun bits s h hao => ?_, fun s => ?_,
    fun b s h => ⟨ball_inReset b h, fault_and_irq_inReset h⟩,
    fun b n attr s hlive hpin hn hdrain hinv => ball_drive hlive hpin hn hdrain hinv⟩
  · exact congrArg doneRst (resetPin_absorbed h)
  · exact congrArg doneRst (resetPin_resets h)
  · exact done_eq hlive (by classical rw [resetFrame_eq, if_pos h])
  · exact done_eq hlive (by classical rw [resetFrame_eq, if_neg h])
  · intro t
    have ht : t = _ := deviceReset_clears h hao
    rw [ht]
    refine ⟨rfl, rfl, rfl, rfl, rfl, rfl, rfl, rfl, rfl, rfl, rfl, rfl, rfl, ?_, rd_wr_same _ _ _, fun a hcause hlast => ?_⟩
    · rw [rd_wr_other _ _ _ _ (by decide), keptState_addCause_cause]
    · rw [rd_wr_other _ _ _ _ hlast, keptState_addCause_rd _ _ hcause hlast]
  · intro t
    have ht : t = _ := deviceReset_aoPor s
    refine ⟨?_, ?_, ?_, ?_, ?_, deviceReset_aoPor_cause s, fun a h => deviceReset_aoPor_rd s h⟩ <;> rw [ht] <;> rfl

end Sys2Proof.Machine
end

section
/-!
PROOFS. What the stops of groups and the openings of contactors leave in a field (R284, R379).
-/
namespace Sys2Proof.Machine

variable (s : State)

/-! ### Groups that stop hard (R284) -/

theorem strGroup_lt {n g : Nat} (h : s.strGroup n = some g) : g < 12 := List.mem_range.1 (List.mem_of_find?_eq_some h)

/-- A field that no group's stop changes. -/
def ApartFromGroups (f : Fld) : Prop := ∀ g < 12, ApartFromGroup g f

theorem groupHardStopIf_fg {f : Fld} {g : Nat} (h : ApartFromGroup g f) : (groupHardStopIf g s).fg f = s.fg f := by
  unfold groupHardStopIf
  split
  · rfl
  · exact groupHardStop_fg s h

/-- What no group's stop changes, the stop of a string's groups leaves. -/
theorem stopStringGroup_keeps {γ : Type} (o : State → γ) (h : ∀ g < 12, ∀ t, o (groupHardStopIf g t) = o t) (n : Nat) :
    o (stopStringGroup n s) = o s := by
  unfold stopStringGroup
  extract_lets t
  have ht : o t = o s := by
    simp only [t]
    split
    · next g hg => exact h g (strGroup_lt s hg) s
    · rfl
  exact (foldl_field_mem o _ _ (fun b g hg => h g (chargers_lt t hg) b) t).trans ht

theorem stopStringGroup_fg {f : Fld} (h : ApartFromGroups f) (n : Nat) : (stopStringGroup n s).fg f = s.fg f :=
  stopStringGroup_keeps s (fun t => t.fg f) (fun g hg t => groupHardStopIf_fg t (h g hg)) n

theorem allGroupsHardStop_fg {f : Fld} (h : ApartFromGroups f) : (allGroupsHardStop s).fg f = s.fg f :=
  foldl_field_mem (fun t : State => t.fg f) _ _ (fun t g hg => groupHardStopIf_fg t (h g (List.mem_range.1 hg))) s

theorem mode_apart {g h : Nat} (_hg : g < 12) (hh : h < 12) (hne : g ≠ h) : ApartFromGroup g (Fld.CNV_CG_STAT_MODE h) := by
  simp only [ApartFromGroup, Fld.CNV_CG_STAT_MODE, Fld.CHG_CG_STAT_STATE, Fld.SYS_PWR_STAT_STATE]
  omega

theorem groupHardStopIf_mode (g : Nat) (hg : g < 12) : (groupHardStopIf g s).mode g = 0 := by
  unfold groupHardStopIf
  split
  · assumption
  · exact (groupHardStop_leaves s hg).1

/-- A group that is off stays off while others stop. -/
theorem groupHardStopIf_off {g h : Nat} (hg : g < 12) (hh : h < 12) (hoff : s.mode h = 0) :
    (groupHardStopIf g s).mode h = 0 := by
  by_cases hne : g = h
  · exact hne ▸ groupHardStopIf_mode s g hg
  · exact (groupHardStopIf_fg s (mode_apart hg hh hne)).trans hoff

theorem allGroupsHardStop_mode {h : Nat} (hh : h < 12) : (allGroupsHardStop s).mode h = 0 :=
  (foldl_range_at (fun t : State => t.mode h) _ hh
    (fun t _ hg hne => groupHardStopIf_fg t (mode_apart hg hh hne)) s).trans (groupHardStopIf_mode _ h hh)

theorem stopStringGroup_off {h : Nat} (hh : h < 12) (n : Nat) (hoff : s.mode h = 0) :
    (stopStringGroup n s).mode h = 0 := by
  unfold stopStringGroup
  extract_lets t
  have ht : t.mode h = 0 := by
    simp only [t]
    split
    · next g hg => exact groupHardStopIf_off s (strGroup_lt s hg) hh hoff
    · exact hoff
  exact List.foldlRecOn (motive := fun u : State => u.mode h = 0) _ _ ht
    (fun u hu g hg => groupHardStopIf_off u (chargers_lt t hg) hh hu)

/-! ### Contactors that open (R376, R379) -/

/-- A field of the contactors' registers. -/
def ContactorFld (f : Fld) : Prop := 0x170600 ≤ f.addr ∧ f.addr < 0x170680

theorem ContactorFld.apart {f : Fld} (h : ContactorFld f) : ApartFromGroups f := by
  intro g hg
  obtain ⟨hlo, hhi⟩ := h
  simp only [ApartFromGroup, Fld.CNV_CG_STAT_MODE, Fld.CHG_CG_STAT_STATE, Fld.SYS_PWR_STAT_STATE]
  omega

theorem contactorFld_state {n : Nat} (hn : n < 8) : ContactorFld (Fld.EFU_S_KSTAT_STATE n) := by
  simp only [ContactorFld, Fld.EFU_S_KSTAT_STATE]; omega

theorem setK_fg {n : Nat} {f : Fld} (h : f.addr ≠ (Fld.EFU_S_KSTAT_STATE n).addr) (st km kp : Nat) :
    (setK n st km kp s).fg f = s.fg f := by
  unfold setK
  extract_lets t
  rw [fg_fs_addr _ _ _ _ (by exact h), fg_fs_addr _ _ _ _ (by exact h), fg_fs_addr _ _ _ _ (by exact h)]
  rfl

theorem setK_kState (n : Nat) {st : Nat} (hst : st < 8) (km kp : Nat) : (setK n st km kp s).kState n = st := by
  unfold setK State.kState
  rw [fg_fs_other _ _ _ _ (Nat.le_of_ble_eq_true rfl) (.inr (.inl (Nat.le_of_ble_eq_true rfl))),
    fg_fs_other _ _ _ _ (Nat.le_of_ble_eq_true rfl) (.inr (.inl (Nat.le_of_ble_eq_true rfl)))]
  exact fg_fs_of_lt _ _ _ (Nat.le_of_ble_eq_true rfl) hst

/-- An opening before its string's groups stop. -/
theorem contactorOpen_fg {n : Nat} {f : Fld} (hf : ApartFromGroups f) (hstate : f.addr ≠ (Fld.EFU_S_KSTAT_STATE n).addr)
    (hreq : f.addr ≠ (Fld.EFU_S_KCTL_REQ n).addr) : (contactorOpen n s).fg f = s.fg f := by
  unfold contactorOpen
  split
  · rw [stopStringGroup_fg _ hf, fg_fs_addr _ _ _ _ hreq, setK_fg _ hstate]
  · rfl

theorem contactorOpen_opens {n : Nat} (hn : n < 8) (h : s.kState n = 1 ∨ s.kState n = 2 ∨ s.kState n = 3) :
    (contactorOpen n s).kState n = 4 := by
  have hreq : (Fld.EFU_S_KSTAT_STATE n).addr ≠ (Fld.EFU_S_KCTL_REQ n).addr := by
    simp only [Fld.EFU_S_KSTAT_STATE, Fld.EFU_S_KCTL_REQ]; omega
  rw [contactorOpen, if_pos h, State.kState, stopStringGroup_fg _ (contactorFld_state hn).apart, fg_fs_addr _ _ _ _ hreq]
  exact setK_kState s n (by decide) 0 0

theorem contactorOpen_kState_other {n m : Nat} (hn : n < 8) (hne : m ≠ n) :
    (contactorOpen m s).kState n = s.kState n :=
  contactorOpen_fg s (contactorFld_state hn).apart (by simp only [Fld.EFU_S_KSTAT_STATE]; omega)
    (by simp only [Fld.EFU_S_KSTAT_STATE, Fld.EFU_S_KCTL_REQ]; omega)

theorem contactorOpen_off {h : Nat} (hh : h < 12) (n : Nat) (_hn : n < 8) (hoff : s.mode h = 0) :
    (contactorOpen n s).mode h = 0 := by
  unfold contactorOpen
  split
  · refine stopStringGroup_off _ hh n ?_
    rw [State.mode, fg_fs_addr _ _ _ _ (by simp only [Fld.CNV_CG_STAT_MODE, Fld.EFU_S_KCTL_REQ]; omega),
      setK_fg _ (by simp only [Fld.CNV_CG_STAT_MODE, Fld.EFU_S_KSTAT_STATE]; omega)]
    exact hoff
  · exact hoff

theorem allContactorsOpen_opens {n : Nat} (hn : n < 8) (h : s.kState n = 1 ∨ s.kState n = 2 ∨ s.kState n = 3) :
    (allContactorsOpen s).kState n = 4 := by
  refine (foldl_range_at (fun t : State => t.kState n) _ hn
    (fun t m _ hne => contactorOpen_kState_other t hn hne) s).trans (contactorOpen_opens _ hn ?_)
  have hbefore := foldl_field_mem (fun t : State => t.kState n) (fun t m => contactorOpen m t) (List.range n)
    (fun t m hm => contactorOpen_kState_other t hn (List.mem_range.1 hm).ne) s
  rw [hbefore]
  exact h

theorem allContactorsOpen_off {h : Nat} (hh : h < 12) (hoff : s.mode h = 0) : (allContactorsOpen s).mode h = 0 :=
  List.foldlRecOn (motive := fun u : State => u.mode h = 0) _ _ hoff
    (fun u hu n hn => contactorOpen_off u hh n (List.mem_range.1 hn) hu)

end Sys2Proof.Machine
end

section
/-!
PROOFS. Error lines (R421, R423 to R429): the latch of a rising edge, what it declares, and the actions of a fatal fault.
-/
namespace Sys2Proof.Machine

variable (s : State)

/-! ### The edge of a line (R423) -/

theorem setBit_true_word (w : Word) {i : Nat} (hi : i < 32) :
    BitVec.ofNat 32 (setBit w.toNat i true) = w ||| 1#32 <<< i := by
  refine BitVec.eq_of_getLsbD_eq fun j hj => ?_
  rw [← bitOf_toNat _ j hj, bitOf_setBit w i j true hi, bitOf_toNat w j hj]
  simp only [BitVec.getLsbD_or, BitVec.getLsbD_shiftLeft, BitVec.getLsbD_one, hj, decide_true, Bool.true_and]
  split_ifs with h
  · simp [h]
  · have : ¬ j < i → ¬ j - i = 0 := by omega
    by_cases hlt : j < i <;> simp_all

/-- R423: the state in which a line's latch stands and the device wakes for it. -/
def lineLatched (n : Nat) (s : State) : State :=
  let v := (s.wr Reg.FLT_STAT_LO (s.rd Reg.FLT_STAT_LO ||| 1#32 <<< n)).wakeWatch
  if n ∈ s.flt.quiet then v else v.wakeDormant

theorem assertLine_eq {n : Nat} (hn : n < 32) : assertLine n s =
    if (lineLatched n s).faultClass n = clsCorrected then
      if (s.rd Reg.FLT_STAT_LO).getLsbD n = true then lineLatched n s
      else ((lineLatched n s).raise 101).logEvent 0x01 n clsCorrected false
    else declareFault n ((lineLatched n s).faultClass n) (lineLatched n s) := by
  rw [assertLine, if_neg (by omega)]
  extract_lets old v t cls
  have hlatch : t = lineLatched n s := by
    simp only [t, v, old, lineLatched, setBit_true_word _ hn, State.wr_flt, List.contains_eq_mem, decide_eq_true_eq]
  simp only [cls, old, hlatch, bitOf_toNat _ _ hn]
  split_ifs with hcls
  · rfl
  · rw [hcls]
  · rfl

theorem assertLine_none {n : Nat} (hn : 32 ≤ n) : assertLine n s = s := if_pos hn

theorem injectWrite_eq (src : Nat) : injectWrite src true s =
    if s.fb Fld.ID_FUSE_LIFE = true then (stLocked, s) else (stOk, s.driveLine src) := rfl

/-! ### Declared faults (R424 to R426) -/

theorem declareFault_merges {n cls : Nat} (hhandling : s.fb Fld.FLT_HSTAT_HANDLING = true) (hcls : cls = clsContained) :
    declareFault n cls s = ((s.raise 100).finc Fld.FLT_HSTAT_MERGED).logEvent 0x01 n cls true := by
  have hraised : (s.raise 100).fb Fld.FLT_HSTAT_HANDLING = true :=
    (fb_of_fg _ (raise_fg s 100 _)).trans hhandling
  rw [declareFault]
  dsimp only
  rw [if_pos hraised, if_neg (by simp [hcls])]

/-- R426: a fault that finds none in handling, up to its actions. -/
def faultDeclared (n cls : Nat) (s : State) : State :=
  let t := ((((s.raise 100).fs Fld.FLT_HSTAT_HANDLING 1).fs Fld.FLT_HSTAT_FATAL (if cls = clsFatal then 1 else 0)).fs
    Fld.FLT_HSTAT_FIRST n).fs Fld.FLT_PIN_PULSE 1
  (t.logEvent 0x01 n cls false).waveTrigger 0 n

theorem declareFault_first {n cls : Nat} (hidle : s.fb Fld.FLT_HSTAT_HANDLING = false) :
    declareFault n cls s = faultActionsOrWait cls (faultDeclared n cls s) := by
  have hraised : ¬ (s.raise 100).fb Fld.FLT_HSTAT_HANDLING = true := by
    rw [fb_of_fg _ (raise_fg s 100 _), hidle]; decide
  have hfatal : boolNat (cls == clsFatal) = if cls = clsFatal then 1 else 0 := by
    rw [boolNat]; exact if_congr beq_iff_eq rfl rfl
  rw [declareFault]
  dsimp only
  rw [if_neg hraised, hfatal]
  rfl

theorem faultActionsOrWait_awake (cls : Nat) (h : s.awake = true) : faultActionsOrWait cls s =
    if cls = clsFatal then fatalActions (squashTo 0 6 (discardBegin s)) else squashTo 0 6 (discardBegin s) :=
  if_pos h

theorem faultActionsOrWait_waits (cls : Nat) (h : s.awake = false) : faultActionsOrWait cls s =
    ((s.setFlt { s.flt with waiting := s.flt.waiting ++ [cls] }).wakeWatch).wakeDormant :=
  if_neg (by rw [h]; decide)

/-! ### Fatal faults (R427) -/

theorem fatalActions_admit : (fatalActions s).fg Fld.ORD_CTL_ADMIT = 0 := fg_fs_same _ _ 0 (by decide)

theorem fatalActions_mode {g : Nat} (hg : g < 12) : (fatalActions s).mode g = 0 := by
  have haddr : (Fld.CNV_CG_STAT_MODE g).addr ≠ Fld.ORD_CTL_ADMIT.addr := by
    simp only [Fld.CNV_CG_STAT_MODE, Fld.ORD_CTL_ADMIT]; omega
  exact (fg_fs_addr _ _ _ _ haddr).trans (allContactorsOpen_off _ hg (allGroupsHardStop_mode s hg))

theorem fatalActions_kState {n : Nat} (hn : n < 8) (h : s.kState n = 1 ∨ s.kState n = 2 ∨ s.kState n = 3) :
    (fatalActions s).kState n = 4 := by
  have haddr : (Fld.EFU_S_KSTAT_STATE n).addr ≠ Fld.ORD_CTL_ADMIT.addr := by
    simp only [Fld.EFU_S_KSTAT_STATE, Fld.ORD_CTL_ADMIT]; omega
  have hstays : (allGroupsHardStop s).kState n = s.kState n := allGroupsHardStop_fg s (contactorFld_state hn).apart
  exact (fg_fs_addr _ _ _ _ haddr).trans (allContactorsOpen_opens _ hn (by rwa [hstays]))

/-- Settles O48: the commands, the edge by its class, the fault by what is in handling, and the fatal actions. -/
theorem linesDeclareFaults : Obligations.LinesDeclareFaults := by
  unfold Obligations.LinesDeclareFaults
  refine ⟨fun src s hlive => done_eq hlive rfl, fun s hlive => done_eq hlive rfl, fun p src s hreach => ?inject,
    fun n s => ⟨assertLine_none s, fun hn => ?edge⟩, fun n cls s => ⟨declareFault_merges s, fun hidle => ?first⟩,
    fun s => ⟨fatalActions_admit s, fun g hg => fatalActions_mode s hg, fun n hn h => fatalActions_kState s hn h⟩⟩
  case inject =>
    split
    · next h => exact write_eq hreach (by rw [injectWrite_eq, if_pos h])
    · next h => exact write_eq hreach (by rw [injectWrite_eq, if_neg h])
  case edge =>
    intro v t
    have ht : t = lineLatched n s := rfl
    rw [assertLine_eq s hn, ht]
    exact ⟨fun hcls hset => by rw [if_pos hcls, if_pos hset],
      fun hcls hnew => by rw [if_pos hcls, if_neg (by rw [hnew]; decide)], fun hcls => if_neg hcls⟩
  case first =>
    intro t u
    rw [declareFault_first s hidle]
    exact ⟨fun h => faultActionsOrWait_awake u cls h, fun h => faultActionsOrWait_waits u cls h⟩

end Sys2Proof.Machine
end

section
/-!
PROOFS. The time that applies (R463) and the ledger's close before it (R176), which puts a waiting contract assignment in force.
-/
namespace Sys2Proof.Machine

theorem blindToFaults_rtc : BlindToFaults fun t : State => t.rtc where
  regs _ _ := rfl
  pub _ _ := rfl
  cnv _ _ := rfl
  prot _ _ := rfl
  irq _ _ := rfl
  sct _ _ := rfl
  ord _ _ := rfl
  wgl _ _ := rfl
  pwr _ _ := rfl
  prp _ _ := rfl
  removals _ _ := rfl
  waiting _ _ := rfl
  quiet _ _ := rfl

theorem finish_rtc (s : State) : (finish s).rtc = s.rtc :=
  (settle_rtc (collect s)).trans (blindToFaults_rtc.collect (fun _ _ => rfl) s)

/-- In READY with the ledger running: the time and the contract assignment are committed, no time is staged, and an entry of
the assignment names the low word of RTC_SET. -/
def assignmentNamesTime : State :=
  (((State.reset.fs Fld.SYS_PWR_STAT_STATE 2).fs Fld.LDG_STAT_RUN 1).setStaging
    [⟨.ldgAssign, Reg.RTC_SET_LO, 0xFFFFFFFF, 5⟩]).setCommits [.rtc, .ldgAssign]

/-- The time staged at the apply is 0; the ledger's close puts the assignment in force first, so that it applies as 5. -/
theorem timeApply_assignmentNamesTime : assignmentNamesTime.cpend .rtc = true ∧
    assignmentNamesTime.rst.aoLost = false ∧ assignmentNamesTime.rtcStaged = 0 ∧
    (timeApply 0 assignmentNamesTime).rtc.sec = 5 := by decide +kernel

/-- Refutes O51: its clause on the apply takes the time that is staged before the ledger's close at that instant. In
`assignmentNamesTime` the close changes it, since the assignment's staging names a word of the time's group. -/
theorem not_calendarCounts : ¬ Obligations.CalendarCounts := by
  unfold Obligations.CalendarCounts
  rintro ⟨-, -, -, -, -, -, happly, -⟩
  obtain ⟨hpend, hao, hstaged, hsec⟩ := timeApply_assignmentNamesTime
  obtain ⟨u, hexec, hclaim, -⟩ := happly 0 assignmentNamesTime hpend hao
  have hfinish : finish (timeApply 0 assignmentNamesTime) = finish u := Host.Outcome.next.inj hexec
  have hrtc : (timeApply 0 assignmentNamesTime).rtc = u.rtc := by
    rw [← finish_rtc, hfinish, finish_rtc]
  rw [hrtc, hclaim, hstaged] at hsec
  exact absurd hsec (by decide)

end Sys2Proof.Machine
end

section
/-!
PROOFS. HFXO, the PLL and the crystal of ACLK (R448 to R459, R556): what a loss, a confirmation, a start and a stop leave.
-/
namespace Sys2Proof.Machine

variable {s : State}

/-! ### Fields one bit wide -/

theorem fg_of_fb {f : Fld} (hwidth : f.width = 1) (h : s.fb f = true) : s.fg f = 1 := by
  simpa [fb_bit s hwidth] using h

theorem fg_of_not_fb {f : Fld} (h : s.fb f = false) : s.fg f = 0 := by
  simpa [State.fb] using h

/-! ### The modulator clock (R166, R169) -/

theorem timeBase_fg {f : Fld} (hf : f.addr ≠ Fld.MTR_STAT_TB.addr) (hfxo loss : Bool) :
    (timeBase hfxo loss s).fg f = s.fg f := by
  unfold timeBase
  extract_lets tb t
  split_ifs
  · rfl
  · rfl
  · exact fg_fs_addr s _ f _ hf

theorem timeBase_clk (hfxo loss : Bool) : (timeBase hfxo loss s).clk = s.clk := by
  unfold timeBase
  extract_lets tb t
  split_ifs <;> rfl

theorem timeBase_flt (hfxo loss : Bool) : (timeBase hfxo loss s).flt = s.flt := by
  unfold timeBase
  extract_lets tb t
  split_ifs <;> rfl

theorem timeBase_idle (hfull : s.fb Fld.MTR_STAT_FULL = false) (hfxo loss : Bool) : timeBase hfxo loss s = s :=
  if_pos (by rw [State.fullRate, hfull]; rfl)

theorem timeBase_runs (hfull : s.fb Fld.MTR_STAT_FULL = true) (hfxo loss : Bool) :
    (timeBase hfxo loss s).fg Fld.MTR_STAT_TB = if hfxo then 2 else 1 := by
  unfold timeBase
  extract_lets tb t
  have htb : tb < 2 ^ Fld.MTR_STAT_TB.width := by unfold tb; cases hfxo <;> decide
  rw [if_neg (by rw [State.fullRate, hfull]; decide)]
  change _ = tb
  split
  · assumption
  · exact fg_fs_of_lt s _ _ (by decide) htb

/-! ### HFXO (R450 to R452, R556) -/

theorem pllReference_lost (h : s.fb Fld.CLK_STAT_HFXO_OK = false) : pllReference s = s.fs Fld.CLK_STAT_PLL_REF 0 := by
  rw [pllReference, h]; rfl

/-- The status after the loss of HFXO, before the modulator clock moves. -/
def hfxoLostShown (s : State) : State :=
  ((((s.fs Fld.CLK_STAT_HFXO_OK 0).fs Fld.CLK_STAT_HFXO_FAIL 1).setClk { s.clk with okN := 0 }).driveLine 12).fs
    Fld.CLK_STAT_PLL_REF 0

theorem driveLine_fs (f : Fld) (v n : Nat) : (s.fs f v).driveLine n = (s.driveLine n).fs f v := (rfl)

theorem setOk_fs (f g : Fld) (v w n : Nat) :
    ((s.fs f v).fs g w).setOk n = ((s.fs f v).fs g w).setClk { s.clk with okN := n } := (rfl)

theorem hfxoLoss_eq (hon : s.fb Fld.CLK_STAT_HFXO_ON = true) : hfxoLoss s = timeBase false true (hfxoLostShown s) := by
  have hlost : (((s.fs Fld.CLK_STAT_HFXO_OK 0).fs Fld.CLK_STAT_HFXO_FAIL 1).setOk 0).fb Fld.CLK_STAT_HFXO_OK = false := by
    simp (disch := decide) only [State.fb, State.setOk, setClk_fg, fg_fs_other, fg_fs_of_lt]
    rfl
  rw [hfxoLoss, hon, if_neg (by decide)]
  dsimp only
  rw [pllReference_lost hlost, driveLine_fs, setOk_fs, hfxoLostShown]

theorem hfxoLoss_leaves (hon : s.fb Fld.CLK_STAT_HFXO_ON = true) : (hfxoLoss s).fg Fld.CLK_STAT_HFXO_OK = 0 ∧
    (hfxoLoss s).fg Fld.CLK_STAT_HFXO_FAIL = 1 ∧ (hfxoLoss s).fg Fld.CLK_STAT_PLL_REF = 0 ∧ (hfxoLoss s).clk.okN = 0 ∧
    (hfxoLoss s).flt.lines = s.flt.lines ++ [12] := by
  rw [hfxoLoss_eq hon, timeBase_clk, timeBase_flt, timeBase_fg (by decide), timeBase_fg (by decide), timeBase_fg (by decide),
    hfxoLostShown]
  refine ⟨?_, ?_, ?_, rfl, rfl⟩ <;>
    simp (disch := decide) only [driveLine_fg, setClk_fg, fg_fs_other, fg_fs_of_lt]

theorem hfxoConfirm_leaves : (hfxoConfirm s).fg Fld.CLK_STAT_HFXO_OK = 1 ∧ (hfxoConfirm s).clk.okN = 0 ∧
    (s.fb Fld.CLK_CFG_PLLREF = false → (hfxoConfirm s).fg Fld.CLK_STAT_PLL_REF = 1) ∧
    (s.fb Fld.MTR_STAT_FULL = true → (hfxoConfirm s).fg Fld.MTR_STAT_TB = 2) := by
  unfold hfxoConfirm
  refine ⟨?_, ?_, fun hsel => ?_, fun hfull => timeBase_runs ?_ true false⟩
  · rw [timeBase_fg (by decide), pllReference, fg_fs_other _ _ _ _ (by decide) (by decide), State.setOk, setClk_fg,
      fg_fs_of_lt _ _ _ (by decide) (by decide)]
  · rw [timeBase_clk]; rfl
  · have hcfg : ((s.fs Fld.CLK_STAT_HFXO_OK 1).setOk 0).fb Fld.CLK_CFG_PLLREF = false :=
      (fb_of_fg _ (by simp (disch := decide) only [State.setOk, setClk_fg, fg_fs_other])).trans hsel
    have hok : ((s.fs Fld.CLK_STAT_HFXO_OK 1).setOk 0).fb Fld.CLK_STAT_HFXO_OK = true := by
      rw [State.fb, State.setOk, setClk_fg, fg_fs_of_lt _ _ _ (by decide) (by decide)]
      rfl
    rw [timeBase_fg (by decide), pllReference, hcfg, hok]
    exact fg_fs_of_lt _ _ _ (by decide) (by decide)
  · refine (fb_of_fg _ ?_).trans hfull
    rw [pllReference, fg_fs_addr _ _ _ _ (by decide), State.setOk, setClk_fg, fg_fs_addr _ _ _ _ (by decide)]

/-- A check window's count as HFXO_CHK shows it. -/
abbrev countShown (count : Nat) (s : State) : State :=
  s.fs Fld.CLK_HFXO_CHK_COUNT (min count (2 ^ Fld.CLK_HFXO_CHK_COUNT.width - 1))

theorem countShown_fb (count : Nat) {f : Fld} (hf : f.addr ≠ Fld.CLK_HFXO_CHK_COUNT.addr) :
    (countShown count s).fb f = s.fb f := fb_of_fg _ (fg_fs_addr s _ f _ hf)

section
variable {count : Nat} {amp : Bool}

theorem checkWindow_off (h : s.fb Fld.CLK_STAT_HFXO_ON = false) : checkWindow count amp s = s :=
  if_pos (by rw [h]; rfl)

theorem checkWindow_bad (hon : s.fb Fld.CLK_STAT_HFXO_ON = true) (hbad : count < 767232 ∨ 768768 < count) :
    checkWindow count amp s = hfxoLoss (countShown count s) := by
  rw [checkWindow, hon]
  exact if_pos hbad

theorem checkWindow_good (hon : s.fb Fld.CLK_STAT_HFXO_ON = true) (hok : s.fb Fld.CLK_STAT_HFXO_OK = false)
    (hamp : amp = true) (hsrc : s.fb Fld.CLK_STAT_ACLK_SRC = false) (hlo : 767923 ≤ count) (hhi : count ≤ 768077) :
    checkWindow count amp s = if 7 ≤ s.clk.okN then hfxoConfirm (countShown count s)
      else (countShown count s).setOk (s.clk.okN + 1) := by
  have hwithin : ¬ (count < 767232 ∨ 768768 < count) := by omega
  rw [checkWindow, hon, if_neg (by decide)]
  dsimp only
  rw [if_neg hwithin, State.fsat, countShown_fb count (by decide), countShown_fb count (by decide), hok, hsrc,
    if_neg (by decide), if_pos ⟨hamp, rfl, hlo, hhi⟩]
  rfl

end

theorem hfxoTimeout_fails (hon : s.fb Fld.CLK_STAT_HFXO_ON = true) (hok : s.fb Fld.CLK_STAT_HFXO_OK = false) :
    hfxoTimeout s = (((s.fs Fld.CLK_STAT_HFXO_FAIL 1).fs Fld.CLK_STAT_HFXO_ON 0).driveLine 12).setClk
      { s.clk with okN := 0, waiting := true } := by
  rw [hfxoTimeout, hon, hok]; rfl

theorem hfxoBegin_starts (hawake : s.awake = true) (hen : s.fb Fld.CLK_CFG_HFXO_EN = true)
    (hoff : s.fb Fld.CLK_STAT_HFXO_ON = false) :
    hfxoBegin s = (s.fs Fld.CLK_STAT_HFXO_ON 1).setClk { s.clk with okN := 0, waiting := false } := by
  rw [hfxoBegin, hawake, hen, hoff]; rfl

theorem hfxoBegin_on (hawake : s.awake = true) (hen : s.fb Fld.CLK_CFG_HFXO_EN = true) :
    (hfxoBegin s).fg Fld.CLK_STAT_HFXO_ON = 1 := by
  unfold hfxoBegin
  split
  · rw [setClk_fg]
    exact fg_fs_of_lt s _ _ (by decide) (by decide)
  · next h =>
    refine fg_of_fb rfl ?_
    simpa [hawake, hen] using h

theorem hfxoBegin_fg {f : Fld} (hf : f.addr ≠ Fld.CLK_STAT_HFXO_ON.addr) : (hfxoBegin s).fg f = s.fg f := by
  unfold hfxoBegin
  split
  · rw [setClk_fg]
    exact fg_fs_addr s _ f _ hf
  · rfl

/-! ### Writes of CLK_CFG (R556) -/

/-- CLK_CFG written with another HFXO_EN. -/
def clkCfgSet (en : Bool) (s : State) : State := s.wr Reg.CLK_CFG (BitVec.ofNat 32 ((s.clkCfgWith en).toNat % 16))

theorem clkCfgSet_en (en : Bool) : (clkCfgSet en s).fb Fld.CLK_CFG_HFXO_EN = en := by
  have hbit : (s.clkCfgWith en).toNat % 2 = boolNat en := by
    have hword : bitOf (s.clkCfgWith en).toNat 0 = en := by rw [State.clkCfgWith, bitOf_setBit _ _ _ _ (by decide)]; rfl
    rw [bitOf, pow_zero, Nat.div_one] at hword
    have hlt := Nat.mod_lt (s.clkCfgWith en).toNat two_pos
    generalize (s.clkCfgWith en).toNat % 2 = r at hword hlt
    interval_cases r <;> rw [← hword] <;> rfl
  have hsmall : (s.clkCfgWith en).toNat % 16 < 2 ^ 32 := (Nat.mod_lt _ (by decide)).trans (by decide)
  have hfg : (clkCfgSet en s).fg Fld.CLK_CFG_HFXO_EN = boolNat en := by
    change fldOf ((s.wr Reg.CLK_CFG _).rd Reg.CLK_CFG) 0 1 = _
    rw [← hbit, rd_wr_same, fldOf, BitVec.toNat_ofNat, Nat.mod_eq_of_lt hsmall]
    omega
  rw [State.fb, hfg]
  cases en <;> rfl

theorem clkCfgSet_fg (en : Bool) {f : Fld} (hf : f.addr ≠ Reg.CLK_CFG) : (clkCfgSet en s).fg f = s.fg f := by
  rw [State.fg, clkCfgSet, rd_wr_other _ _ _ _ hf]; rfl

theorem clkCfgWrite_stops (hen : s.fb Fld.CLK_CFG_HFXO_EN = true) :
    clkCfgWrite (s.clkCfgWith false) s = (stOk, pllReference (hfxoStop (clkCfgSet false s))) := by
  have hnew : (s.wr Reg.CLK_CFG (BitVec.ofNat 32 ((s.clkCfgWith false).toNat % 16))).fb Fld.CLK_CFG_HFXO_EN = false :=
    clkCfgSet_en false
  rw [clkCfgWrite, hen, hnew]
  rfl

theorem clkCfgWrite_starts (hen : s.fb Fld.CLK_CFG_HFXO_EN = false) :
    clkCfgWrite (s.clkCfgWith true) s = (stOk, pllReference (hfxoBegin (clkCfgSet true s))) := by
  have hnew : (s.wr Reg.CLK_CFG (BitVec.ofNat 32 ((s.clkCfgWith true).toNat % 16))).fb Fld.CLK_CFG_HFXO_EN = true :=
    clkCfgSet_en true
  rw [clkCfgWrite, hen, hnew]
  rfl

theorem hfxoStop_fg {f : Fld} (hmtr : f.addr ≠ Fld.MTR_STAT_TB.addr) : (hfxoStop s).fg f =
    (pllReference ((s.fs Fld.CLK_STAT_HFXO_OK 0).fs Fld.CLK_STAT_HFXO_ON 0)).fg f := by
  rw [hfxoStop, setClk_fg, timeBase_fg hmtr]

theorem hfxoStop_status : (hfxoStop s).fg Fld.CLK_STAT_HFXO_ON = 0 ∧ (hfxoStop s).fg Fld.CLK_STAT_HFXO_OK = 0 ∧
    (hfxoStop s).fg Fld.CLK_STAT_HFXO_FAIL = s.fg Fld.CLK_STAT_HFXO_FAIL ∧
    (hfxoStop s).fg Fld.CLK_CFG_HFXO_EN = s.fg Fld.CLK_CFG_HFXO_EN := by
  rw [hfxoStop_fg (by decide), hfxoStop_fg (by decide), hfxoStop_fg (by decide), hfxoStop_fg (by decide), pllReference]
  refine ⟨?_, ?_, ?_, ?_⟩ <;> simp (disch := decide) only [fg_fs_other, fg_fs_of_lt]

theorem hfxoStop_flt : (hfxoStop s).flt = s.flt := timeBase_flt false false

theorem clkCfgWrite_stop_leaves : ∃ u, u = pllReference (hfxoStop (clkCfgSet false s)) ∧
    u.fg Fld.CLK_CFG_HFXO_EN = 0 ∧ u.fg Fld.CLK_STAT_HFXO_ON = 0 ∧ u.fg Fld.CLK_STAT_HFXO_OK = 0 ∧
    u.fg Fld.CLK_STAT_PLL_REF = 0 ∧ u.fg Fld.CLK_STAT_HFXO_FAIL = s.fg Fld.CLK_STAT_HFXO_FAIL ∧ u.flt = s.flt := by
  obtain ⟨hon, hok, hfail, hen⟩ := hfxoStop_status (s := clkCfgSet false s)
  have hlost : (hfxoStop (clkCfgSet false s)).fb Fld.CLK_STAT_HFXO_OK = false := by rw [State.fb, hok]; rfl
  refine ⟨_, rfl, ?_⟩
  rw [pllReference_lost hlost]
  simp (disch := decide) only [fg_fs_other, fg_fs_of_lt, hon, hok, hfail, hen, clkCfgSet_fg, true_and]
  exact ⟨fg_of_not_fb (clkCfgSet_en false), hfxoStop_flt⟩

theorem clkCfgWrite_start_leaves (hawake : s.awake = true) : ∃ u, u = pllReference (hfxoBegin (clkCfgSet true s)) ∧
    u.fg Fld.CLK_CFG_HFXO_EN = 1 ∧ u.fg Fld.CLK_STAT_HFXO_ON = 1 := by
  have hstate : (clkCfgSet true s).awake = true := by rw [← hawake, State.awake, clkCfgSet_fg _ (by decide)]; rfl
  refine ⟨_, rfl, ?_, ?_⟩
  · rw [pllReference, fg_fs_addr _ _ _ _ (by decide), hfxoBegin_fg (by decide)]
    exact fg_of_fb rfl (clkCfgSet_en true)
  · rw [pllReference, fg_fs_other _ _ _ _ (by decide) (by decide)]
    exact hfxoBegin_on hstate (clkCfgSet_en true)

/-! ### PLL and system clock (R449, R453, R454) -/

/-- The removal of each group that ran. -/
abbrev groupsRemoved (gs : List Nat) (s : State) : State := gs.foldl (fun s g => s.removal (.group g)) s

theorem groupsRemoved_fg (gs : List Nat) (f : Fld) : (groupsRemoved gs s).fg f = s.fg f :=
  foldl_field (fun t : State => t.fg f) _ (fun t g => removal_fg t (.group g) f) gs s

theorem removal_flt (r : Removal) : (s.removal r).flt = s.flt := by
  unfold State.removal
  split <;> rfl

theorem groupsRemoved_flt (gs : List Nat) : (groupsRemoved gs s).flt = s.flt :=
  foldl_field (fun t : State => t.flt) _ (fun t g => removal_flt (s := t) (.group g)) gs s

theorem removal_mono {r : Removal} (h : r ∈ s.removals) (x : Removal) : r ∈ (s.removal x).removals := by
  unfold State.removal
  split
  · exact h
  · rw [setRemovals_removals]; exact List.mem_append_left _ h

theorem groupsRemoved_mem {gs : List Nat} {g : Nat} (hg : g ∈ gs) : Removal.group g ∈ (groupsRemoved gs s).removals :=
  foldl_establishes (fun _ : State => True) (fun t => Removal.group g ∈ t.removals) _ hg (fun _ _ _ => trivial)
    (fun t _ => removal_mem t (.group g)) (fun _ _ _ h => removal_mono h _) trivial

theorem blindToStops_flt : BlindToStops fun t : State => t.flt where
  regs _ _ := rfl
  pub _ _ := rfl
  cnv _ _ := rfl
  prot _ _ := rfl

theorem blindToStops_removals : BlindToStops fun t : State => t.removals where
  regs _ _ := rfl
  pub _ _ := rfl
  cnv _ _ := rfl
  prot _ _ := rfl

/-- The status at a loss of lock. -/
abbrev lockLost (s : State) : State :=
  ((s.fs Fld.CLK_STAT_PLL_LOCK 0).fs Fld.CLK_STAT_SYSCLK 0).fs Fld.CLK_STAT_PLL_LOL 1

theorem lockLost_mode {g : Nat} : (lockLost s).mode g = s.mode g := by
  have haddr : (Fld.CNV_CG_STAT_MODE g).addr ≠ 0x030004 := by simp only [Fld.CNV_CG_STAT_MODE]; omega
  rw [State.mode, fg_fs_addr _ _ _ _ (by exact haddr), fg_fs_addr _ _ _ _ (by exact haddr),
    fg_fs_addr _ _ _ _ (by exact haddr)]
  rfl

theorem pllLoss_eq (hlock : s.fb Fld.CLK_STAT_PLL_LOCK = true) : pllLoss s =
    ((allGroupsHardStop (groupsRemoved ((List.range 12).filter (lockLost s).groupRunning) (lockLost s))).driveLine 12).setClk
      { (allGroupsHardStop (groupsRemoved ((List.range 12).filter (lockLost s).groupRunning) (lockLost s))).clk with
        tilesHeld := true } := by
  rw [pllLoss, hlock]; rfl

theorem clkStatus_apart : ∀ f : Fld, f.addr = 0x030004 → ApartFromGroups f := by
  intro f hf g hg
  simp only [ApartFromGroup, hf, Fld.CNV_CG_STAT_MODE, Fld.CHG_CG_STAT_STATE, Fld.SYS_PWR_STAT_STATE]
  omega

theorem pllLoss_status (hlock : s.fb Fld.CLK_STAT_PLL_LOCK = true) {f : Fld} (hf : f.addr = 0x030004) :
    (pllLoss s).fg f = (lockLost s).fg f := by
  rw [pllLoss_eq hlock, setClk_fg, driveLine_fg, allGroupsHardStop_fg _ (clkStatus_apart f hf), groupsRemoved_fg]

theorem pllLoss_leaves (hlock : s.fb Fld.CLK_STAT_PLL_LOCK = true) : (pllLoss s).fg Fld.CLK_STAT_PLL_LOCK = 0 ∧
    (pllLoss s).fg Fld.CLK_STAT_SYSCLK = 0 ∧ (pllLoss s).fg Fld.CLK_STAT_PLL_LOL = 1 ∧ (pllLoss s).clk.tilesHeld = true ∧
    (pllLoss s).flt.lines = s.flt.lines ++ [12] ∧
    ∀ g < 12, (pllLoss s).mode g = 0 ∧ (s.groupRunning g = true → Removal.group g ∈ (pllLoss s).removals) := by
  rw [pllLoss_status hlock rfl, pllLoss_status hlock rfl, pllLoss_status hlock rfl]
  refine ⟨?_, ?_, ?_, ?_, ?_, fun g hg => ⟨?_, fun hran => ?_⟩⟩
  · simp (disch := decide) only [fg_fs_other, fg_fs_of_lt]
  · simp (disch := decide) only [fg_fs_other, fg_fs_of_lt]
  · exact fg_fs_of_lt _ _ _ (by decide) (by decide)
  · rw [pllLoss_eq hlock, setClk_clk]
  · rw [pllLoss_eq hlock]
    have hflt := (blindToStops_flt.allGroupsHardStop
      (groupsRemoved ((List.range 12).filter (lockLost s).groupRunning) (lockLost s))).trans (groupsRemoved_flt _)
    rw [setClk_flt, State.driveLine_lines, hflt, State.fs_flt, State.fs_flt, State.fs_flt]
  · rw [pllLoss_eq hlock]
    rw [State.mode, setClk_fg, driveLine_fg]
    exact allGroupsHardStop_mode _ hg
  · have hmem : g ∈ (List.range 12).filter (lockLost s).groupRunning := by
      refine List.mem_filter.2 ⟨List.mem_range.2 hg, ?_⟩
      simp only [State.groupRunning, lockLost_mode]
      exact hran
    have hkept := blindToStops_removals.allGroupsHardStop
      (groupsRemoved ((List.range 12).filter (lockLost s).groupRunning) (lockLost s))
    rw [pllLoss_eq hlock, setClk_removals, State.driveLine_removals, hkept]
    exact groupsRemoved_mem hmem

theorem pllRelock_locks (h : s.clk.tilesHeld = true) : pllRelock s =
    ((s.fs Fld.CLK_STAT_PLL_LOCK 1).fs Fld.CLK_STAT_SYSCLK 1).setClk { s.clk with tilesHeld := false } := by
  rw [pllRelock, h]; rfl

theorem pllRelock_idle (h : s.clk.tilesHeld = false) : pllRelock s = s := by
  rw [pllRelock, h]; rfl

/-! ### ACLK and crossings (R448, R455, R457 to R459) -/

theorem crystalFail_fails (hlive : Live s) (hsrc : s.fb Fld.CLK_STAT_ACLK_SRC = false) : crystalFail s =
    ((((s.fs Fld.CLK_STAT_ACLK_SRC 1).fs Fld.CLK_STAT_XT32_FAIL 1).fs Fld.RTC_STAT_OSF 1).setLdg
      { s.ldg with osf := true }).driveLine 13 := by
  have hrst : ((((s.fs Fld.CLK_STAT_ACLK_SRC 1).fs Fld.CLK_STAT_XT32_FAIL 1).fs Fld.RTC_STAT_OSF 1)).rst.asserted = false :=
    hlive
  rw [crystalFail, if_neg (by rw [hlive]; decide), if_neg (by rw [hsrc]; decide), osfSet]
  dsimp only
  rw [if_neg (by rw [hrst]; decide)]
  rfl

theorem crystalFail_failed (hlive : Live s) (hsrc : s.fb Fld.CLK_STAT_ACLK_SRC = true) : crystalFail s = s := by
  rw [crystalFail, if_neg (by rw [hlive]; decide), if_pos hsrc]

theorem hfrcTrim_frozen (h : s.fb Fld.CLK_STAT_ACLK_SRC = true ∨ s.fb Fld.CLK_STAT_HFRC_ON = false) (trim : Nat) (err : Int) :
    hfrcTrim trim err s = s :=
  if_pos (by rcases h with h | h <;> simp [h])

theorem hfrcTrim_sets (hsrc : s.fb Fld.CLK_STAT_ACLK_SRC = false) (hon : s.fb Fld.CLK_STAT_HFRC_ON = true) (trim : Nat)
    (err : Int) : hfrcTrim trim err s =
      (s.fs Fld.CLK_HFRC_TRIM_TRIM trim).fss Fld.CLK_HFRC_TRIM_ERR (max (-32768) (min err 32767)) :=
  if_neg (by simp [hsrc, hon])

theorem setBit_true_or {m i : Nat} (hm : m < 256) (hi : i < 8) : setBit m i true = m ||| 1 <<< i := by
  have hword := setBit_true_word (BitVec.ofNat 32 m) (hi.trans (by decide : 8 < 32))
  have hpow : 2 ^ i ≤ 2 ^ 7 := Nat.pow_le_pow_right (by decide) (by omega)
  have hm' : (BitVec.ofNat 32 m).toNat = m := by rw [BitVec.toNat_ofNat]; exact Nat.mod_eq_of_lt (by omega)
  have hlt : setBit m i true < 2 ^ 32 := by
    simp only [setBit, if_true]
    split <;> omega
  have hone : 1 <<< i < 2 ^ 32 := by rw [Nat.one_shiftLeft]; omega
  have htoNat := congrArg BitVec.toNat hword
  rwa [hm', BitVec.toNat_ofNat, Nat.mod_eq_of_lt hlt, BitVec.toNat_or, hm', BitVec.toNat_shiftLeft, BitVec.toNat_ofNat,
    Nat.mod_eq_of_lt (by decide : 1 < 2 ^ 32), Nat.mod_eq_of_lt hone] at htoNat

theorem cdcTimeout_overrun (g : Fin 8) : cdcTimeout g true s =
    (s.fs Fld.CLK_CDC_OVR (s.fg Fld.CLK_CDC_OVR ||| 1 <<< (g : Nat))).driveLine 31 := by
  have hlt : s.fg Fld.CLK_CDC_OVR < 256 := fldOf_lt _ _ _
  rw [← setBit_true_or hlt g.isLt]
  rfl

/-- Settles O50: HFXO, CLK_CFG and the PLL first, then ACLK, the trim and the crossings. -/
theorem clocksAreWatched : Obligations.ClocksAreWatched := by
  unfold Obligations.ClocksAreWatched
  refine ⟨⟨fun count amp s hlive => ?window, fun s hlive => ?hfxo, fun p s hreach => ?config, fun s hlive => ?pll⟩,
    fun s hlive => ?crystal, fun trim err s hlive => ⟨fun h => done_eq hlive (hfrcTrim_frozen h _ _),
      fun hsrc hon => done_eq hlive (hfrcTrim_sets hsrc hon _ _)⟩,
    fun g s hlive => ⟨done_eq hlive (cdcTimeout_overrun g), done_eq hlive rfl⟩⟩
  case window =>
    intro v
    refine ⟨fun hoff => done_eq hlive (checkWindow_off hoff), fun hon hbad => ?_, fun hon hok hamp hsrc hlo hhi =>
      ⟨fun hfew => ?_, fun hall => ?_⟩⟩
    · exact ⟨_, done_eq hlive (checkWindow_bad hon hbad), hfxoLoss_leaves ((countShown_fb count (by decide)).trans hon)⟩
    · exact done_eq hlive (by rw [checkWindow_good hon hok hamp hsrc hlo hhi, if_neg (by omega)]; rfl)
    · obtain ⟨hshown, hn, href, htb⟩ := hfxoConfirm_leaves (s := countShown count s)
      rw [countShown_fb count (by decide)] at href htb
      exact ⟨_, done_eq hlive (by rw [checkWindow_good hon hok hamp hsrc hlo hhi, if_pos hall]), hshown, hn, href, htb⟩
  case hfxo =>
    refine ⟨fun hon hok => done_eq hlive (hfxoTimeout_fails hon hok), fun hwait hawake hen hoff => done_eq hlive ?_,
      fun hon hfull => done_eq hlive ?_⟩
    · rw [hfxoRestart, if_pos hwait, hfxoBegin_starts hawake hen hoff]
    · have hslow : (hfxoLostShown s).fb Fld.MTR_STAT_FULL = false :=
        (fb_of_fg _ (by simp (disch := decide) only [hfxoLostShown, driveLine_fg, setClk_fg, fg_fs_other])).trans hfull
      rw [hfxoLoss_eq hon, timeBase_idle hslow, hfxoLostShown]
  case config =>
    refine ⟨fun hen => ?_, fun hen hawake => ?_⟩
    · obtain ⟨u, hu, hleaves⟩ := clkCfgWrite_stop_leaves (s := s)
      exact ⟨u, write_eq hreach (hu ▸ clkCfgWrite_stops hen), hleaves⟩
    · obtain ⟨u, hu, hleaves⟩ := clkCfgWrite_start_leaves hawake
      exact ⟨u, write_eq hreach (hu ▸ clkCfgWrite_starts hen), hleaves⟩
  case pll =>
    refine ⟨fun hlock => ⟨_, done_eq hlive rfl, pllLoss_leaves hlock⟩,
      fun hheld => ⟨done_eq hlive (pllRelock_locks hheld), done_eq hlive (if_pos hheld)⟩,
      fun hfree => ⟨done_eq hlive (pllRelock_idle hfree), done_eq hlive (if_neg (by rw [hfree]; decide))⟩,
      fun h => done_eq hlive (if_neg h), fun h => done_eq hlive (if_pos h)⟩
  case crystal =>
    refine ⟨fun h => congrArg doneRst (crystalFail_failed hlive h), fun h => congrArg doneRst (crystalFail_fails hlive h),
      congrArg doneRst (if_neg (by rw [hlive]; decide))⟩

end Sys2Proof.Machine
end

section
/-!
PROOFS. A round of remote conversions (R496, R500): what a zone's waiting points put in force before the zone is judged.
-/
namespace Sys2Proof.Machine

/-- The collector forgets the lines whose wake is quiet as soon as it collects: where they stand after it, it had none. -/
theorem lines_of_quiet {t u : State} (hlines : t.flt.lines = []) (hquiet : t.flt.quiet ≠ []) (h : finish t = finish u) :
    u.flt.lines = [] := by
  have hcollected : (collect u).flt.quiet = t.flt.quiet := by
    rw [← settle_flt t, ← finish_quiet t hlines, h, finish, settle_flt]
  unfold collect at hcollected
  extract_lets l flt v order w at hcollected
  split at hcollected
  · next hempty => exact List.isEmpty_iff.1 hempty
  · exact absurd hcollected.symm hquiet

theorem fg_of_quiet {t u : State} (hlines : t.flt.lines = []) (hquiet : t.flt.quiet ≠ []) (h : finish t = finish u)
    {f : Fld} (hpwr : f.addr ≠ Reg.SYS_PWR_STAT) (hmtr : f.addr ≠ Reg.MTR_STAT) : u.fg f = t.fg f := by
  have hpass : (settle t).fg f = (settle u).fg f := by
    rw [← finish_quiet t hlines, h, finish_quiet u (lines_of_quiet hlines hquiet h)]
  rw [← settle_fg u f hpwr hmtr, ← hpass, settle_fg t f hpwr hmtr]

/-- One shelf whose zone holds remote input 0, and no string. -/
def shelfOfInput0 : Image := ⟨0, 0, 1, 0, [(secTopology, (List.replicate 134 0).set 1 1 ++ [1])]⟩

/-- In READY with remote input 0 as a diode: the points of its zone are committed, and an entry of theirs names the input's
reading. -/
def pointsNameReading : State :=
  (((((State.reset.setImage (some shelfOfInput0)).fs Fld.SYS_PWR_STAT_STATE 2).fs (Fld.THM_TS_CFG_TYPE 0) 1).setStaging
    [⟨.zone 0, (Fld.THM_TS_TEMP_TEMP 0).addr, 0xFFFF, 0⟩]).setCommits [.zone 0]).setFlt
    { State.reset.flt with quiet := [22] }

theorem pointsNameReading_live : Live pointsNameReading ∧ pointsNameReading.powerState ≠ 0 ∧
    kvGet (fun _ => none) pointsNameReading.thm.off 0 = none ∧ pointsNameReading.tsOn 0 = true ∧
    pointsNameReading.fg (Fld.THM_TS_CFG_TYPE 0) = 1 := by decide +kernel

/-- The input converts to 10.0 °C at 500 mV, and then its zone's points overwrite the reading with 0. -/
theorem remoteRound_pointsNameReading : (remoteRound [(500, 100)] pointsNameReading).tsTemp 0 = 0 ∧
    (remoteRound [(500, 100)] pointsNameReading).flt.lines = [] ∧
    (remoteRound [(500, 100)] pointsNameReading).flt.quiet ≠ [] := by decide +kernel

/-- Refutes O57: its clause on remote conversions holds an input's reading to the conversion. In `pointsNameReading` the
points of the input's zone, which apply in the same round, name the word of the reading. -/
theorem not_temperaturesAct : ¬ Obligations.TemperaturesAct := by
  unfold Obligations.TemperaturesAct
  rintro ⟨-, -, hremote, -⟩
  obtain ⟨hlive, hstate, hoff, hon, hdiode⟩ := pointsNameReading_live
  obtain ⟨htemp, hlines, hquiet⟩ := remoteRound_pointsNameReading
  obtain ⟨u, hexec, hclaim⟩ := (hremote [(500, 100)] pointsNameReading hlive).2 hstate
  have hfinish : finish (remoteRound [(500, 100)] pointsNameReading) = finish u :=
    Host.Outcome.next.inj ((done_eq hlive rfl).symm.trans hexec)
  have hkept : u.tsTemp 0 = (remoteRound [(500, 100)] pointsNameReading).tsTemp 0 := by
    rw [State.tsTemp, State.fgs, fg_of_quiet hlines hquiet hfinish (by decide) (by decide)]
    rfl
  have hshown := (hclaim 0 (by decide) hoff hon).1
  simp only [hdiode, if_true] at hshown
  rw [hkept, htemp] at hshown
  exact absurd (hshown (by decide) (by decide) (by decide) (by decide)) (by decide)

end Sys2Proof.Machine
end

section
/-!
PROOFS. A contactor that welds (R378, R379) while its string's group is the last one that runs (R25, R29).
-/
namespace Sys2Proof.Machine

/-- One converter group, of type 1, on string 0. -/
def groupOfString0 : Image := ⟨0, 0, 1, 0, [(secConverter, [1])]⟩

/-- In FLOW with group 0 in POWER as the one group that runs, the contactor of its string OPEN, and a request of DORMANT on
its way. -/
def weldInFlow : State :=
  ((((State.reset.setImage (some groupOfString0)).fs Fld.SYS_PWR_STAT_STATE 3).fs Fld.SYS_PWR_STAT_TRANS 1).fs
    Fld.SYS_PWR_REQ_REQ 2).fs (Fld.CNV_CG_STAT_MODE 0) modePower

theorem weldInFlow_meets : Live weldInFlow ∧ weldInFlow.kState 0 = 0 ∧ weldInFlow.entersDormant = false := by
  decide +kernel

/-- The stop of the group leaves FLOW, so that the line of the weld finds the device on its way into DORMANT and does not
hold it back; driven without that mark, it does. -/
theorem finish_weldInFlow : (finish (kfWeld 0 weldInFlow)).fg Fld.SYS_PWR_STAT_TRANS = 1 ∧
    (finish (contactorFail 0 3 (weldInFlow.fs (Fld.EFU_S_KSTAT_KF 0) 1))).fg Fld.SYS_PWR_STAT_TRANS = 0 := by
  decide +kernel

/-- Refutes O41: its clause on a weld asks before the command whether the device enters DORMANT, where the model asks once
the string's group has stopped. In `weldInFlow` that stop takes the device from FLOW to READY in between. -/
theorem not_contactorsMove : ¬ Obligations.ContactorsMove := by
  unfold Obligations.ContactorsMove
  rintro ⟨⟨-, hmove, -⟩, -⟩
  obtain ⟨hlive, hopen, hstays⟩ := weldInFlow_meets
  obtain ⟨-, -, -, -, -, -, hweld, -⟩ := hmove 0 weldInFlow hlive
  have hclaim := (hweld (.inl hopen)).1 hstays
  have hexec : exec (.kfWeld 0) weldInFlow = .next (finish (kfWeld 0 weldInFlow)) := done_eq hlive rfl
  have hfinish := Host.Outcome.next.inj (hexec.symm.trans hclaim)
  obtain ⟨hmodel, hstated⟩ := finish_weldInFlow
  have hsame : (1 : Nat) = 0 := by
    rw [← hmodel, hfinish]
    exact hstated
  exact absurd hsame (by decide)

end Sys2Proof.Machine
end

section
/-!
PROOFS. What the sequencer and the rails' supervision leave (R384 to R403): the fields they write, and what stays beside them.
-/
namespace Sys2Proof.Machine

variable {s : State}

/-! ### Words whose bits are set one by one -/

theorem wr_setBit (a i : Nat) (b : Bool) :
    s.wr a (BitVec.ofNat 32 (setBit (s.rd a).toNat i b)) = s.fs ⟨a, i, 1⟩ (boolNat b) := by
  rw [setBit_word, State.fs]

theorem wr_eq_fs (a : Nat) (v : Word) : s.wr a v = s.fs ⟨a, 0, 32⟩ v.toNat := by
  have hput : fldPut (s.rd a) 0 32 v.toNat = v := by
    have hold : fldOf (s.rd a) 0 32 = (s.rd a).toNat := by
      rw [fldOf, pow_zero, Nat.div_one, Nat.mod_eq_of_lt (s.rd a).isLt]
    have hnew : v.toNat % 2 ^ 32 = v.toNat := Nat.mod_eq_of_lt v.isLt
    rw [fldPut, hold, hnew, pow_zero, Nat.mul_one, Nat.mul_one, Nat.sub_self, Nat.zero_add, BitVec.ofNat_toNat,
      BitVec.setWidth_eq]
  rw [State.fs, hput]

/-! ### What the sequencer changes -/

/-- The fields that the sequencer and the supervision write, but for the voltages that a tick shows. -/
def SequencerFld (f : Fld) : Prop :=
  f.lo + f.width ≤ 32 ∧ (f.addr < 0x160800 ∨ 0x160C00 ≤ f.addr ∨ f.lo + f.width ≤ 16)

/-- An observation that the sequencer leaves, apart from its tick. -/
structure BlindToSequencer {γ : Type} (o : State → γ) : Prop where
  fs : ∀ t f v, SequencerFld f → o (t.fs f v) = o t
  irq : ∀ t v, o (t.setIrq v) = o t
  flt : ∀ t v, o (t.setFlt v) = o t
  est : ∀ t v, o (t.setEst v) = o t
  nvm : ∀ t v, o (t.setNvm v) = o t
  seqr : ∀ (t : State) v, v.msN = t.seqr.msN → o (t.setSeqr v) = o t

namespace BlindToSequencer

variable {γ : Type} {o : State → γ} (h : BlindToSequencer o)
include h

theorem low (s : State) (f : Fld) (v : Nat) (hf : f.lo + f.width ≤ 16) : o (s.fs f v) = o s :=
  h.fs s f v ⟨hf.trans (by decide), .inr (.inr hf)⟩

theorem raise (s : State) (ev : Nat) : o (s.raise ev) = o s := by
  unfold State.raise
  split
  · rfl
  · exact h.irq s _

theorem rstoUpdate (s : State) : o (rstoUpdate s) = o s := by
  refine foldl_field o _ (fun t n => ?_) _ s
  split_ifs
  · rw [h.low _ _ _ (Nat.le_of_ble_eq_true rfl), h.low _ _ _ (Nat.le_of_ble_eq_true rfl)]
  · rw [h.low _ _ _ (Nat.le_of_ble_eq_true rfl), h.low _ _ _ (Nat.le_of_ble_eq_true rfl)]
    exact h.seqr t _ (by rfl)
  · exact h.low _ _ _ (Nat.le_of_ble_eq_true rfl)
  · rfl

theorem nvNow (s : State) : o (nvNow s) = o s := by
  unfold Machine.nvNow
  split
  · rw [h.fs _ _ _ ⟨by decide, .inr (.inl (by decide))⟩, h.est]
  · rfl

theorem nvDrop (s : State) (w : Nat) : o (nvDrop w s) = o s := (h.nvm _ _).trans (h.nvm s _)

theorem upStart (s : State) : o (upStart s) = o s := by
  unfold Machine.upStart
  extract_lets t
  have ht : o t = o s := by
    simp only [t]
    rw [h.low _ _ _ (by decide), h.low _ _ _ (by decide), h.low _ _ _ (by decide)]
  exact (h.rstoUpdate _).trans ((h.seqr _ _ (by rfl)).trans ((h.low _ _ _ (by decide)).trans ht))

theorem downStart (s : State) : o (downStart s) = o s := by
  unfold Machine.downStart
  split
  · rfl
  · extract_lets t u v
    have ht : o t = o s := by
      simp only [t]
      rw [h.low _ _ _ (by decide), h.low _ _ _ (by decide), h.low _ _ _ (by decide)]
    have hu : o u = o t := foldl_field o _ (fun w k => by
      rw [h.low _ _ _ (Nat.le_of_ble_eq_true rfl), h.low _ _ _ (Nat.le_of_ble_eq_true rfl)]) _ t
    exact (h.seqr v _ (by rfl)).trans ((h.nvNow u).trans (hu.trans ht))

theorem reup (s : State) : o (reup s) = o s := by
  unfold Machine.reup
  split
  · exact h.upStart s
  · rfl

theorem railSwitchOn (s : State) (k : Nat) : o (railSwitchOn k s) = o s := by
  unfold Machine.railSwitchOn
  rw [h.low _ _ _ (by decide), h.low _ _ _ (Nat.le_of_ble_eq_true rfl), h.low _ _ _ (Nat.le_of_ble_eq_true rfl)]
  exact h.seqr s _ (by rfl)

theorem railSwitchOff (s : State) {k : Nat} (hk : k < 8) : o (railSwitchOff k s) = o s := by
  have haddr : Reg.RGL_R_STAT k < 0x160800 := by simp only [Reg.RGL_R_STAT]; omega
  unfold Machine.railSwitchOff
  rw [h.low _ _ _ (by decide), wr_eq_fs, h.fs _ _ _ ⟨Nat.le_of_ble_eq_true rfl, .inl haddr⟩]
  exact h.seqr s _ (by rfl)

theorem allRailsOff (s : State) : o (allRailsOff s) = o s :=
  foldl_field_mem o _ _ (fun t _ hk => h.railSwitchOff t (List.mem_range.1 hk)) s

theorem upTarget (s : State) (t : Nat) : o (upTarget t s) = o s := by
  unfold Machine.upTarget
  split_ifs
  · exact h.railSwitchOn s t
  · exact h.fs _ _ _ ⟨by decide, .inl (by decide)⟩
  · exact (h.rstoUpdate _).trans (h.seqr s _ (by rfl))
  · rfl

theorem downTarget (s : State) (t : Nat) : o (downTarget t s) = o s := by
  unfold Machine.downTarget
  split_ifs with hrail
  · exact h.railSwitchOff s hrail
  · exact h.fs _ _ _ ⟨by decide, .inl (by decide)⟩
  · exact (h.rstoUpdate _).trans (h.seqr s _ (by rfl))
  · rfl

theorem seqDone (s : State) : o (seqDone s) = o s := by
  unfold Machine.seqDone
  extract_lets t q u
  split
  · have ht : o t = o s := (h.fs _ _ _ ⟨by decide, .inl (by decide)⟩).trans (h.allRailsOff s)
    have hu : o u = o t := (h.rstoUpdate _).trans (h.seqr t _ (by rfl))
    rw [h.reup, h.raise, h.low _ _ _ (by decide), h.low _ _ _ (by decide), h.low _ _ _ (by decide), hu, ht]
  · rw [h.raise, h.low _ _ _ (by decide), h.low _ _ _ (by decide)]

theorem stepComplete (s : State) : o (stepComplete s) = o s := by
  unfold Machine.stepComplete
  split
  · rfl
  · extract_lets q t
    have ht : o t = o s := h.seqr s _ (by rfl)
    split
    · rw [h.low _ _ _ (Nat.le_of_ble_eq_true rfl), h.low _ _ _ (Nat.le_of_ble_eq_true rfl), ht]
    · exact ht

theorem stepAct (s : State) : o (stepAct s) = o s := by
  unfold Machine.stepAct
  split_ifs
  · rfl
  · exact h.seqDone s
  · extract_lets t q u rsto
    have ht : o t = o s := h.downTarget s _
    have hu : o u = o s := (h.seqr t _ (by rfl)).trans ht
    split
    · exact (h.stepComplete u).trans hu
    · exact hu
  · extract_lets t q u rsto
    have ht : o t = o s := h.upTarget s _
    have hu : o u = o s := (h.seqr t _ (by rfl)).trans ht
    split
    · exact (h.stepComplete u).trans hu
    · exact hu

theorem stepTick (s : State) (mv : List Nat) : o (stepTick mv s) = o s := by
  unfold Machine.stepTick
  split
  · rfl
  · split
    · rfl
    · extract_lets v ok n q t soft
      have ht : o t = o s := h.seqr s _ (by rfl)
      split
      · exact (h.stepComplete t).trans ht
      · exact ht

theorem inputCollapse (s : State) : o (inputCollapse s) = o s := by
  unfold Machine.inputCollapse
  split
  · rfl
  · extract_lets t u q v r
    have ht : o t = o s := (h.low _ _ _ (by decide)).trans (h.low _ _ _ (by decide))
    split_ifs
    · exact ht
    · have hu : o u = o t := (h.fs _ _ _ ⟨by decide, .inl (by decide)⟩).trans (h.allRailsOff t)
      exact (h.rstoUpdate _).trans ((h.seqr _ _ (by rfl)).trans ((h.low _ _ _ (by decide)).trans (hu.trans ht)))
    · have hv : o v = o t := (h.nvDrop _ _).trans ((h.nvDrop _ _).trans (h.downStart t))
      exact (h.seqr v _ (by rfl)).trans (hv.trans ht)

theorem railSet (s : State) (k : Nat) {bit : Nat} (hbit : bit < 4) : o (railSet k bit s) = o s := by
  have hlow : bit + 1 ≤ 16 := by omega
  unfold Machine.railSet
  extract_lets f t u fault v
  have ht : o t = o s := by simp only [t]; rw [wr_setBit, h.low _ _ _ hlow]
  have hflag : f = (t.rd (Reg.SEQ_R_FLAG k)).toNat := by
    simp only [f, t]
    rw [rd_wr_other _ _ _ _ (by simp only [Reg.SEQ_R_FLAG, Reg.SEQ_R_STAT]; omega)]
  have hu : o u = o t := by simp only [u]; rw [hflag, wr_setBit, h.low _ _ _ hlow]
  have hv : o v = o u := by
    simp only [v]
    split
    · rfl
    · exact h.raise u _
  split
  · rw [h.low _ _ _ (Nat.le_of_ble_eq_true rfl), hv, hu, ht]
  · rw [hv, hu, ht]

theorem railClear (s : State) (k : Nat) {bit : Nat} (hbit : bit < 4) : o (railClear k bit s) = o s := by
  unfold Machine.railClear
  rw [h.low _ _ _ (Nat.le_of_ble_eq_true rfl), wr_setBit, h.low _ _ _ (Nat.succ_le_of_lt (hbit.trans (by decide)))]

theorem railFault (s : State) (k : Nat) {bit : Nat} (hbit : bit < 4) : o (railFault k bit s) = o s := by
  unfold Machine.railFault
  extract_lets down t u
  have ht : o t = o s := h.railSet s k hbit
  have hu : o u = o s := (h.flt t _).trans ht
  split
  · exact ht
  · split
    · exact (h.rstoUpdate u).trans hu
    · exact (h.downStart u).trans hu
    · exact hu

/-- R390: the four levels of a rail, once its voltage is shown. -/
theorem railTick (s : State) (k v : Nat) :
    o (railTick k v s) = o (if s.seqr.msN = 0 then s.fs (Fld.SEQ_R_STAT_MV k) v else s) := by
  unfold Machine.railTick
  extract_lets t
  refine foldl_field_mem o _ _ (fun u bit hbit => ?_) t
  have hlt := List.mem_range.1 hbit
  extract_lets c uv
  generalize levelTick (if bit % 2 = 1 then 3 else 10) (railLevel u k bit) v uv _ _ _ = counted
  obtain ⟨b, i, sets⟩ := counted
  dsimp -zeta only
  extract_lets w now
  have hw : o w = o u := h.seqr u _ (by rfl)
  rcases sets with _ | _ | _
  · exact hw
  · dsimp only
    split
    · exact (h.rstoUpdate _).trans ((h.railClear w k hlt).trans hw)
    · exact hw
  · dsimp only
    split_ifs
    · exact hw
    · exact (h.railFault w k hlt).trans hw
    · exact (h.railSet w k hlt).trans hw

end BlindToSequencer

theorem blindToSequencer_msN : BlindToSequencer fun t : State => t.seqr.msN where
  fs _ _ _ _ := rfl
  irq _ _ := rfl
  flt _ _ := rfl
  est _ _ := rfl
  nvm _ _ := rfl
  seqr _ _ h := h

theorem blindToSequencer_mv {k : Nat} (hk : k < 32) : BlindToSequencer fun t : State => t.fg (Fld.SEQ_R_STAT_MV k) where
  fs t f v hf := by
    obtain ⟨hwidth, hplace⟩ := hf
    refine fg_fs_other t f _ v hwidth ?_
    simp only [Fld.SEQ_R_STAT_MV]
    omega
  irq _ _ := rfl
  flt _ _ := rfl
  est _ _ := rfl
  nvm _ _ := rfl
  seqr _ _ _ := rfl

/-! ### The tick (R386, R389) -/

theorem railRamp_msN (k : Nat) (ilim : Bool) : (railRamp k ilim s).seqr.msN = s.seqr.msN := by
  unfold railRamp
  extract_lets at' t n u v
  have hv : v.seqr.msN = s.seqr.msN := by
    simp only [v]
    split <;> rfl
  exact hv

theorem seqTimes_msN (vsys : Nat) :
    (seqTimes vsys s).seqr.msN = if 99 ≤ s.seqr.msN then 0 else s.seqr.msN + 1 := rfl

/-- A tick before the rails' voltages are judged. -/
def tickBegun (vsys ilim : Nat) (s : State) : State :=
  let t := seqTimes vsys ((List.range 8).foldl (fun s k => railRamp k (bitOf ilim k) s) s)
  if 3 ≤ t.seqr.lowN then inputCollapse t else t

theorem seqTick_eq (mv : List Nat) (vsys ilim : Nat) : seqTick mv vsys ilim s =
    stepAct (stepTick mv ((List.range 32).foldl (fun s k => railTick k (mv.getD k 0) s) (tickBegun vsys ilim s))) := rfl

theorem tickBegun_msN (vsys ilim : Nat) :
    (tickBegun vsys ilim s).seqr.msN = if 99 ≤ s.seqr.msN then 0 else s.seqr.msN + 1 := by
  have hramps : ((List.range 8).foldl (fun s k => railRamp k (bitOf ilim k) s) s).seqr.msN = s.seqr.msN :=
    foldl_field (fun t : State => t.seqr.msN) _ (fun t k => railRamp_msN k _) _ s
  unfold tickBegun
  extract_lets t
  have ht : t.seqr.msN = if 99 ≤ s.seqr.msN then 0 else s.seqr.msN + 1 := by
    simp only [t]
    rw [seqTimes_msN, hramps]
  split
  · exact (blindToSequencer_msN.inputCollapse t).trans ht
  · exact ht

theorem railTick_msN (k v : Nat) : (railTick k v s).seqr.msN = s.seqr.msN := by
  have hlevels : (railTick k v s).seqr.msN = (if s.seqr.msN = 0 then s.fs (Fld.SEQ_R_STAT_MV k) v else s).seqr.msN :=
    blindToSequencer_msN.railTick s k v
  rw [hlevels]
  split
  · rw [State.fs_seqr]
  · rfl

theorem railTick_mv_other {j k : Nat} (hj : j < 32) (hne : k ≠ j) (v : Nat) :
    (railTick k v s).fg (Fld.SEQ_R_STAT_MV j) = s.fg (Fld.SEQ_R_STAT_MV j) := by
  refine ((blindToSequencer_mv hj).railTick s k v).trans ?_
  split
  · exact fg_fs_addr s _ _ v (by simp only [Fld.SEQ_R_STAT_MV]; omega)
  · rfl

theorem seqTick_msN (mv : List Nat) (vsys ilim : Nat) :
    (seqTick mv vsys ilim s).seqr.msN = if 99 ≤ s.seqr.msN then 0 else s.seqr.msN + 1 := by
  rw [seqTick_eq, ← tickBegun_msN vsys ilim]
  exact (blindToSequencer_msN.stepAct _).trans ((blindToSequencer_msN.stepTick _ mv).trans
    (foldl_field (fun t : State => t.seqr.msN) _ (fun t k => railTick_msN k _) _ _))

theorem seqTick_shows (mv : List Nat) (vsys ilim : Nat) (hms : 99 ≤ s.seqr.msN) {k : Nat} (hk : k < 32) :
    (seqTick mv vsys ilim s).fg (Fld.SEQ_R_STAT_MV k) = mv.getD k 0 % 2 ^ (Fld.SEQ_R_STAT_MV k).width := by
  have hmv := blindToSequencer_mv hk
  have hzero : (tickBegun vsys ilim s).seqr.msN = 0 := by rw [tickBegun_msN, if_pos hms]
  rw [seqTick_eq, hmv.stepAct, hmv.stepTick, foldl_range_at (fun t : State => t.fg (Fld.SEQ_R_STAT_MV k)) _ hk
    (fun t j _ hne => railTick_mv_other hk hne _), hmv.railTick]
  have hkept := (foldl_field (fun t : State => t.seqr.msN) (fun t j => Machine.railTick j (mv.getD j 0) t)
    (fun t j => railTick_msN j _) (List.range k) (tickBegun vsys ilim s)).trans hzero
  rw [if_pos hkept, fg_fs_same _ _ _ (Nat.le_of_ble_eq_true rfl)]

end Sys2Proof.Machine
end

section
/-!
PROOFS. Rail supervision (R386, R387, R389 to R392): the levels of a tick, and what a rail's fault does.
-/
namespace Sys2Proof.Machine

variable {s : State}

@[simp] theorem setSeqr_fg (v : Seqr) (f : Fld) : (s.setSeqr v).fg f = s.fg f := (rfl)
@[simp] theorem setSeqr_fb (v : Seqr) (f : Fld) : (s.setSeqr v).fb f = s.fb f := (rfl)

/-! ### A rail's tick (R386, R387) -/

theorem railRamp_times (k : Nat) (ilim : Bool) : (railRamp k ilim s).railTimes k =
    (if s.fb (Fld.RGL_R_STAT_SOFT k) then (s.railTimes k).1 + 1 else (s.railTimes k).1,
      if ilim = true ∧ s.railOn k = true then (s.railTimes k).2 + 1 else 0) := by
  unfold railRamp
  extract_lets at' t n u v
  have hat : (at' = true) = (ilim = true ∧ s.railOn k = true) := by simp only [at', Bool.and_eq_true]
  have hu : u.railTimes k = (n, if at' then t.2 + 1 else 0) := by
    simp only [u, setRailTimes, State.railTimes]
    exact kvGet_set_same _ _ _ _
  have hv : v.railTimes k = u.railTimes k := by
    simp only [v]
    split <;> rfl
  rw [State.railTimes, State.fs_seqr, ← State.railTimes, hv, hu]
  simp only [hat, n, t]

theorem railRamp_status (k : Nat) (ilim : Bool) :
    (railRamp k ilim s).fg (Fld.RGL_R_STAT_ILIM k) = (if ilim = true ∧ s.railOn k = true then 1 else 0) ∧
    (s.fb (Fld.RGL_R_STAT_SOFT k) = true → 10 * s.fg (Fld.RGL_R_CFG_SST k) ≤ (s.railTimes k).1 + 1 →
      (railRamp k ilim s).fg (Fld.RGL_R_STAT_SOFT k) = 0) := by
  unfold railRamp
  extract_lets at' t n u v
  refine ⟨?_, fun hsoft hend => ?_⟩
  · have hlt : boolNat at' < 2 ^ (Fld.RGL_R_STAT_ILIM k).width := by
      generalize at' = b
      cases b
      · exact Nat.two_pow_pos _
      · exact Nat.one_lt_two_pow one_ne_zero
    rw [fg_fs_of_lt _ _ _ (Nat.le_of_ble_eq_true rfl) hlt, boolNat]
    simp only [at', Bool.and_eq_true]
  · have hn : n = (s.railTimes k).1 + 1 := if_pos hsoft
    have hv : v = u.fs (Fld.RGL_R_STAT_SOFT k) 0 := if_pos ⟨hsoft, by rw [hn]; exact hend⟩
    rw [fg_fs_other _ _ _ _ (Nat.le_of_ble_eq_true rfl) (.inr (.inl (Nat.le_of_ble_eq_true rfl))), hv]
    exact fg_fs_same _ _ 0 (Nat.le_of_ble_eq_true rfl)

/-! ### Levels (R390) -/

section
variable {setN lvl v beyond inside : Nat} {uv : Bool}

/-- What a tick beyond a level, or within its hysteresis, decides. -/
theorem levelTick_judges (hlvl : 0 < lvl) : (levelTick setN lvl v uv true beyond inside).2.2 =
    let out := if uv then decide (v < lvl) else decide (lvl < v)
    let inn := if uv then decide (101 * lvl ≤ 100 * v) else decide (100 * v ≤ 99 * lvl)
    if setN ≤ (if out then min setN (beyond + 1) else 0) then some true
    else if 10 ≤ (if inn then min 10 (inside + 1) else 0) then some false else none := by
  have hcounts : ¬ (lvl = 0 ∨ (!true) = true) := by simp; omega
  rw [levelTick, if_neg hcounts]

theorem levelTick_sets (hset : 0 < setN) (hlvl : 0 < lvl) : (levelTick setN lvl v uv true beyond inside).2.2 = some true ↔
    (if uv = true then v < lvl else lvl < v) ∧ setN ≤ beyond + 1 := by
  rw [levelTick_judges hlvl]
  cases uv
  · by_cases hout : lvl < v <;> simp [hout]
    omega
  · by_cases hout : v < lvl <;> simp [hout]
    omega

theorem levelTick_clears (hset : 0 < setN) (hlvl : 0 < lvl) : (levelTick setN lvl v uv true beyond inside).2.2 = some false ↔
    (if uv = true then 101 * lvl ≤ 100 * v else 100 * v ≤ 99 * lvl) ∧ 10 ≤ inside + 1 := by
  rw [levelTick_judges hlvl]
  cases uv
  · by_cases hinn : 100 * v ≤ 99 * lvl
    · have hout : ¬ lvl < v := by omega
      simp [hinn, hout, hset.ne']
    · by_cases hout : lvl < v <;> simp [hinn, hout]
  · by_cases hinn : 101 * lvl ≤ 100 * v
    · have hout : ¬ v < lvl := by omega
      simp [hinn, hout, hset.ne']
    · by_cases hout : v < lvl <;> simp [hinn, hout]

end

/-! ### A level that sets (R390, R392) -/

theorem rd_wr_setBit (a i : Nat) (b : Bool) (hi : i < 32) :
    bitOf ((s.wr a (BitVec.ofNat 32 (setBit (s.rd a).toNat i b))).rd a).toNat i = b := by
  rw [rd_wr_same, bitOf_setBit _ _ _ _ hi, if_pos rfl]

theorem bitOf_rd_fs {f : Fld} {i : Nat} (v : Nat) (hf : f.lo + f.width ≤ 32) (hi : i < f.lo) :
    bitOf ((s.fs f v).rd f.addr).toNat i = bitOf (s.rd f.addr).toNat i := by
  have hfld := fg_fs_other s f ⟨f.addr, i, 1⟩ v hf (.inr (.inl hi))
  rw [bitOf_fldOf, bitOf_fldOf]
  exact congrArg (· == 1) hfld

theorem statFlag_ne (j k : Nat) : Reg.SEQ_R_STAT j ≠ Reg.SEQ_R_FLAG k := by
  simp only [Reg.SEQ_R_STAT, Reg.SEQ_R_FLAG]; omega

/-- A level's bits before PG follows them. -/
def railMarked (k bit : Nat) (s : State) : State :=
  let f := (s.rd (Reg.SEQ_R_FLAG k)).toNat
  let t := (s.wr (Reg.SEQ_R_STAT k) (BitVec.ofNat 32 (setBit (s.rd (Reg.SEQ_R_STAT k)).toNat bit true))).wr (Reg.SEQ_R_FLAG k)
    (BitVec.ofNat 32 (setBit f bit true))
  if bitOf f bit then t else t.raise (if bit == 1 || bit == 3 then 177 else 176)

theorem railSet_eq (k bit : Nat) : railSet k bit s =
    if bit == 1 || bit == 3 then (railMarked k bit s).fs (Fld.SEQ_R_STAT_PG k) 0 else railMarked k bit s := rfl

theorem railMarked_regs (k bit : Nat) (a : Nat) : (railMarked k bit s).rd a =
    ((s.wr (Reg.SEQ_R_STAT k) (BitVec.ofNat 32 (setBit (s.rd (Reg.SEQ_R_STAT k)).toNat bit true))).wr (Reg.SEQ_R_FLAG k)
      (BitVec.ofNat 32 (setBit (s.rd (Reg.SEQ_R_FLAG k)).toNat bit true))).rd a := by
  unfold railMarked
  extract_lets f t
  split
  · rfl
  · exact rd_congr (State.raise_regs t _) a

theorem railSet_bits (k : Nat) {bit : Nat} (hbit : bit < 4) : bitOf ((railSet k bit s).rd (Reg.SEQ_R_FLAG k)).toNat bit = true ∧
    bitOf ((railSet k bit s).rd (Reg.SEQ_R_STAT k)).toNat bit = true := by
  have hflag : bitOf ((railMarked k bit s).rd (Reg.SEQ_R_FLAG k)).toNat bit = true := by
    rw [railMarked_regs, rd_wr_same, bitOf_setBit _ _ _ _ (by omega), if_pos rfl]
  have hstat : bitOf ((railMarked k bit s).rd (Reg.SEQ_R_STAT k)).toNat bit = true := by
    rw [railMarked_regs, rd_wr_other _ _ _ _ (statFlag_ne k k), rd_wr_setBit _ _ _ (by omega)]
  rw [railSet_eq]
  split
  · refine ⟨?_, ?_⟩
    · rw [rd_fs_other _ _ _ _ (statFlag_ne k k).symm, hflag]
    · exact (bitOf_rd_fs 0 (Nat.le_of_ble_eq_true rfl) hbit).trans hstat
  · exact ⟨hflag, hstat⟩

theorem railSet_fg (k bit : Nat) {f : Fld} (hstat : f.addr ≠ Reg.SEQ_R_STAT k) (hflag : f.addr ≠ Reg.SEQ_R_FLAG k) :
    (railSet k bit s).fg f = s.fg f := by
  have hmarked : (railMarked k bit s).fg f = s.fg f := by
    rw [State.fg, railMarked_regs, rd_wr_other _ _ _ _ hflag, rd_wr_other _ _ _ _ hstat, State.fg]
  rw [railSet_eq]
  split
  · rw [fg_fs_addr _ _ _ _ hstat, hmarked]
  · exact hmarked

theorem railFault_inDown (k bit : Nat) (h : s.goingDown = true) : railFault k bit s = railSet k bit s := if_pos h

theorem railFault_acts (k bit : Nat) (h : s.goingDown = false) : railFault k bit s =
    match s.fg (Fld.SEQ_R_ACT_ACT k) with
    | 1 => rstoUpdate ((railSet k bit s).driveLine 24)
    | 2 => downStart ((railSet k bit s).driveLine 24)
    | _ => (railSet k bit s).driveLine 24 := by
  have hact : ((railSet k bit s).driveLine 24).fg (Fld.SEQ_R_ACT_ACT k) = s.fg (Fld.SEQ_R_ACT_ACT k) := by
    rw [driveLine_fg, railSet_fg]
    · simp only [Fld.SEQ_R_ACT_ACT, Reg.SEQ_R_STAT]; omega
    · simp only [Fld.SEQ_R_ACT_ACT, Reg.SEQ_R_FLAG]; omega
  rw [railFault, h, ← hact]
  rfl

/-! ### Reset outputs and the way down -/

theorem rstoUpdate_fg {f : Fld} (hf : f.addr < 0x160C04) : (rstoUpdate s).fg f = s.fg f := by
  refine foldl_field (fun t : State => t.fg f) _ (fun t n => ?_) _ s
  have haddr : f.addr ≠ (Fld.SEQ_RSTO_STAT_ASSERTED n).addr := by simp only [Fld.SEQ_RSTO_STAT_ASSERTED]; omega
  have haddr' : f.addr ≠ (Fld.SEQ_RSTO_STAT_STRETCHING n).addr := haddr
  split_ifs
  · rw [fg_fs_addr _ _ _ _ haddr', fg_fs_addr _ _ _ _ haddr]
  · rw [fg_fs_addr _ _ _ _ haddr', fg_fs_addr _ _ _ _ haddr, setStretch, setSeqr_fg]
  · exact fg_fs_addr _ _ _ _ haddr'
  · rfl

theorem nvNow_fg {f : Fld} (hf : f.addr ≠ Fld.EST_NV_WRITING.addr) : (nvNow s).fg f = s.fg f := by
  unfold nvNow
  split
  · rw [fg_fs_addr _ _ _ _ hf, setEst_fg]
  · rfl

/-- R397: every rail is no longer expected up. -/
def railsReleased (s : State) : State :=
  (List.range 32).foldl (fun s k => (s.fs (Fld.SEQ_R_STAT_EXP k) 0).fs (Fld.SEQ_R_STAT_PG k) 0) s

theorem railsReleased_fg {f : Fld} (hf : f.addr < 0x160800) : (railsReleased s).fg f = s.fg f := by
  refine foldl_field (fun t : State => t.fg f) _ (fun t k => ?_) _ s
  have hexp : f.addr ≠ (Fld.SEQ_R_STAT_EXP k).addr := by simp only [Fld.SEQ_R_STAT_EXP]; omega
  rw [fg_fs_addr _ _ _ _ (by exact hexp), fg_fs_addr _ _ _ _ hexp]

theorem railsReleased_rail {k : Nat} (hk : k < 32) : (railsReleased s).fg (Fld.SEQ_R_STAT_EXP k) = 0 ∧
    (railsReleased s).fg (Fld.SEQ_R_STAT_PG k) = 0 := by
  have hother : ∀ f : Fld, f.addr = Reg.SEQ_R_STAT k → ∀ t : State, ∀ j < 32, j ≠ k →
      ((t.fs (Fld.SEQ_R_STAT_EXP j) 0).fs (Fld.SEQ_R_STAT_PG j) 0).fg f = t.fg f := by
    intro f hf t j _ hne
    have haddr : f.addr ≠ (Fld.SEQ_R_STAT_EXP j).addr := by
      rw [hf]; simp only [Reg.SEQ_R_STAT, Fld.SEQ_R_STAT_EXP]; omega
    rw [fg_fs_addr _ _ _ _ (by exact haddr), fg_fs_addr _ _ _ _ haddr]
  refine ⟨(foldl_range_at (fun t : State => t.fg (Fld.SEQ_R_STAT_EXP k)) _ hk (hother _ rfl) s).trans ?_,
    (foldl_range_at (fun t : State => t.fg (Fld.SEQ_R_STAT_PG k)) _ hk (hother _ rfl) s).trans ?_⟩
  · rw [fg_fs_other _ _ _ _ (Nat.le_of_ble_eq_true rfl) (.inr (.inr (Nat.le_of_ble_eq_true rfl)))]
    exact fg_fs_same _ _ 0 (Nat.le_of_ble_eq_true rfl)
  · exact fg_fs_same _ _ 0 (Nat.le_of_ble_eq_true rfl)

/-- R397: the status as a power-down starts. -/
def downBegun (s : State) : State := ((s.fs Fld.SEQ_STAT_RUN 1).fs Fld.SEQ_STAT_DIR 1).fs Fld.SEQ_STAT_STEP 0

theorem downStart_fg_begun (h : s.goingDown = false) {f : Fld} (hf : f.addr ≠ Fld.EST_NV_WRITING.addr) :
    (downStart s).fg f = (railsReleased (downBegun s)).fg f := by
  rw [downStart, if_neg (by rw [h]; decide)]
  dsimp only
  rw [setSeqr_fg, nvNow_fg hf]
  rfl

theorem downStart_fg {f : Fld} (hf : f.addr < 0x160004) : (downStart s).fg f = s.fg f := by
  cases h : s.goingDown
  · rw [downStart_fg_begun h (by simp only [Fld.EST_NV_WRITING]; omega), railsReleased_fg (by omega), downBegun]
    have haddr : f.addr ≠ 0x160004 := by omega
    rw [fg_fs_addr _ _ _ _ (by exact haddr), fg_fs_addr _ _ _ _ (by exact haddr), fg_fs_addr _ _ _ _ (by exact haddr)]
  · rw [downStart, if_pos h]

theorem downStart_begins (h : s.goingDown = false) : (downStart s).goingDown = true ∧ (downStart s).stepNo = 0 ∧
    ∀ k < 32, (downStart s).fg (Fld.SEQ_R_STAT_EXP k) = 0 ∧ (downStart s).fg (Fld.SEQ_R_STAT_PG k) = 0 := by
  have hrun : (downStart s).fg Fld.SEQ_STAT_RUN = 1 := by
    rw [downStart_fg_begun h (by decide), railsReleased_fg (by decide), downBegun]
    simp (disch := decide) only [fg_fs_other, fg_fs_of_lt]
  have hdir : (downStart s).fg Fld.SEQ_STAT_DIR = 1 := by
    rw [downStart_fg_begun h (by decide), railsReleased_fg (by decide), downBegun]
    simp (disch := decide) only [fg_fs_other, fg_fs_of_lt]
  refine ⟨?_, ?_, fun k hk => ?_⟩
  · rw [State.goingDown, State.fb, State.fb, hrun, hdir]; rfl
  · rw [State.stepNo, downStart_fg_begun h (by decide), railsReleased_fg (by decide), downBegun]
    exact fg_fs_of_lt _ _ _ (by decide) (by decide)
  · have haddr : Reg.SEQ_R_STAT k ≠ Fld.EST_NV_WRITING.addr := by
      simp only [Reg.SEQ_R_STAT, Fld.EST_NV_WRITING]; omega
    rw [downStart_fg_begun h (by exact haddr), downStart_fg_begun h (by exact haddr)]
    exact railsReleased_rail hk

/-! ### Integrated rails (R387, R388) -/

theorem railFault_fg (k bit : Nat) {f : Fld} (hf : f.addr < 0x160004) : (railFault k bit s).fg f = s.fg f := by
  have hset : (railSet k bit s).fg f = s.fg f :=
    railSet_fg k bit (by simp only [Reg.SEQ_R_STAT]; omega) (by simp only [Reg.SEQ_R_FLAG]; omega)
  cases h : s.goingDown
  · rw [railFault_acts k bit h]
    split
    · rw [rstoUpdate_fg (by omega), driveLine_fg, hset]
    · rw [downStart_fg hf, driveLine_fg, hset]
    · rw [driveLine_fg, hset]
  · rw [railFault_inDown k bit h, hset]

theorem railSwitchOff_on {k : Nat} (hk : k < 8) : (railSwitchOff k s).railOn k = false := by
  have haddr : (Fld.RGL_R_STAT_ON k).addr ≠ Fld.RGL_STAT_ON.addr := by
    simp only [Fld.RGL_R_STAT_ON, Fld.RGL_STAT_ON]; omega
  have hzero : (railSwitchOff k s).fg (Fld.RGL_R_STAT_ON k) = 0 := by
    unfold railSwitchOff
    extract_lets t
    rw [fg_fs_addr _ _ _ _ haddr]
    change fldOf ((t.wr (Reg.RGL_R_STAT k) 0).rd (Reg.RGL_R_STAT k)) 0 1 = 0
    rw [rd_wr_same]
    rfl
  rw [State.railOn, State.fb, hzero]
  rfl

theorem railSwitchOff_on_other {j k : Nat} (hne : j ≠ k) (hk : k < 8) :
    (railSwitchOff j s).fg (Fld.RGL_R_STAT_ON k) = s.fg (Fld.RGL_R_STAT_ON k) := by
  have haddr : (Fld.RGL_R_STAT_ON k).addr ≠ Fld.RGL_STAT_ON.addr := by
    simp only [Fld.RGL_R_STAT_ON, Fld.RGL_STAT_ON]; omega
  have hstat : (Fld.RGL_R_STAT_ON k).addr ≠ Reg.RGL_R_STAT j := by
    simp only [Fld.RGL_R_STAT_ON, Reg.RGL_R_STAT]; omega
  unfold railSwitchOff
  extract_lets t
  rw [fg_fs_addr _ _ _ _ haddr, State.fg, rd_wr_other _ _ _ _ hstat]
  rfl

theorem allRailsOff_on {k : Nat} (hk : k < 8) : (allRailsOff s).railOn k = false := by
  have hlast := foldl_range_at (fun t : State => t.fg (Fld.RGL_R_STAT_ON k)) (fun t j => railSwitchOff j t) hk
    (fun t j _ hne => railSwitchOff_on_other hne hk) s
  have hoff := railSwitchOff_on (s := (List.range k).foldl (fun t j => railSwitchOff j t) s) hk
  rw [State.railOn, State.fb] at hoff ⊢
  exact (congrArg (· != 0) hlast).trans hoff

theorem railOvercurrent_trips {k : Nat} (hk : k < 8) (hon : s.railOn k = true) (htime : 100 ≤ (s.railTimes k).2) :
    (railOvercurrent k s).railOn k = false ∧ (railOvercurrent k s).fg (Fld.RGL_R_FLAG_OC k) = 1 := by
  have hlow : (Fld.RGL_R_STAT_ON k).addr < 0x160004 := by simp only [Fld.RGL_R_STAT_ON]; omega
  have hlow' : (Fld.RGL_R_FLAG_OC k).addr < 0x160004 := by simp only [Fld.RGL_R_FLAG_OC]; omega
  have hne : (Fld.RGL_R_STAT_ON k).addr ≠ (Fld.RGL_R_FLAG_OC k).addr := by
    simp only [Fld.RGL_R_STAT_ON, Fld.RGL_R_FLAG_OC]; omega
  have htrip : railOvercurrent k s =
      railFault k 1 ((((railSwitchOff k s).fs (Fld.RGL_R_FLAG_OC k) 1).raise 173).driveLine 23) :=
    if_neg (by simp [hon]; omega)
  rw [htrip]
  refine ⟨?_, ?_⟩
  · have hoff := railSwitchOff_on (s := s) hk
    rw [State.railOn, State.fb] at hoff ⊢
    rw [railFault_fg k 1 hlow, driveLine_fg, raise_fg, fg_fs_addr _ _ _ _ hne]
    exact hoff
  · rw [railFault_fg k 1 hlow', driveLine_fg, raise_fg]
    exact fg_fs_of_lt _ _ _ (Nat.le_of_ble_eq_true rfl) (Nat.one_lt_two_pow one_ne_zero)

theorem railOvercurrent_early {k : Nat} (htime : (s.railTimes k).2 < 100) : railOvercurrent k s = s :=
  if_pos (.inr htime)

end Sys2Proof.Machine
end

section
/-!
PROOFS. The power sequences (R394 to R399, R402, R403): how they start, go on from step to step, time out and end.
-/
namespace Sys2Proof.Machine

variable {s : State}

/-! ### Starts (R394, R397, R402) -/

theorem upWrite_runs (h : s.seqRuns = true) : upWrite s = (stBusy, s) := if_pos h

theorem upWrite_noImage (hrun : s.seqRuns = false) (h : s.image = none) : upWrite s = (stHeld, s) := by
  rw [upWrite, hrun, h]; rfl

theorem upWrite_starts (hrun : s.seqRuns = false) (h : s.image.isSome = true) : upWrite s = (stOk, upStart s) := by
  have hsome : s.image.isNone = false := by
    obtain ⟨image, himage⟩ := Option.isSome_iff_exists.1 h
    rw [himage]; rfl
  rw [upWrite, hrun, hsome]; rfl

theorem rstoUpdate_pwr (s : State) : (rstoUpdate s).pwr = s.pwr := by
  refine foldl_field (fun t : State => t.pwr) _ (fun t n => ?_) _ s
  split_ifs <;> rfl

theorem rstoUpdate_ended (s : State) : (rstoUpdate s).seqr.ended = s.seqr.ended := by
  refine foldl_field (fun t : State => t.seqr.ended) _ (fun t n => ?_) _ s
  split_ifs <;> rfl

/-- R394: the status as a power-up starts. -/
def upBegun (s : State) : State :=
  (((s.fs Fld.SEQ_STAT_RUN 1).fs Fld.SEQ_STAT_DIR 0).fs Fld.SEQ_STAT_STEP 0).fs Fld.SEQ_STAT_DNDONE 0

theorem upStart_fg {f : Fld} (hf : f.addr < 0x160C04) : (upStart s).fg f = (upBegun s).fg f := by
  unfold upStart
  extract_lets t
  rw [rstoUpdate_fg hf, setSeqr_fg]
  rfl

theorem upStart_pwr (s : State) : (upStart s).pwr = s.pwr := by
  unfold upStart
  extract_lets t
  rw [rstoUpdate_pwr]
  rfl

theorem upStart_begins : (upStart s).fg Fld.SEQ_STAT_RUN = 1 ∧ (upStart s).fg Fld.SEQ_STAT_DIR = 0 ∧
    (upStart s).stepNo = 0 := by
  rw [State.stepNo, upStart_fg (by decide), upStart_fg (by decide), upStart_fg (by decide), upBegun]
  refine ⟨?_, ?_, ?_⟩ <;> simp (disch := decide) only [fg_fs_other, fg_fs_of_lt]

theorem upAuto_starts (hdue : s.pwr.upDue = true) (hcol : s.fb Fld.SEQ_STAT_COLLAPSE = false) (hrun : s.seqRuns = false)
    (himage : s.image.isSome = true) (hup : 10000 ≤ s.seqr.okN) :
    upAuto s = (upStart s).setPwr { (upStart s).pwr with upDue := false } := by
  rw [upAuto, if_pos ⟨hdue, by rw [hcol]; rfl, hup⟩, upWrite_starts hrun himage, upStart_pwr]

theorem upAuto_waits (hup : s.seqr.okN < 10000) : upAuto s = s := if_neg (by omega)

/-! ### Steps (R391, R395 to R398) -/

/-- The step is complete and its DELAY runs. -/
def stepDone (s : State) : State := s.setSeqr { s.seqr with stage := 2, stepN := 0 }

theorem stepComplete_eq (hrun : s.seqRuns = true) (hstage : s.seqr.stage = 1) : stepComplete s =
    match railOfCheck s.stepCheck, s.fb Fld.SEQ_STAT_DIR with
    | some k, false => ((stepDone s).fs (Fld.SEQ_R_STAT_EXP k) 1).fs (Fld.SEQ_R_STAT_PG k) 1
    | _, _ => stepDone s := by
  have hgo : ¬ ((!s.seqRuns) = true ∨ s.seqr.stage ≠ 1) := by simp [hrun, hstage]
  rw [stepComplete, if_neg hgo]
  rfl

theorem stepComplete_rail (hrun : s.seqRuns = true) (hstage : s.seqr.stage = 1) {k : Nat}
    (hrail : railOfCheck s.stepCheck = some k) (hdir : s.fb Fld.SEQ_STAT_DIR = false) :
    stepComplete s = ((stepDone s).fs (Fld.SEQ_R_STAT_EXP k) 1).fs (Fld.SEQ_R_STAT_PG k) 1 := by
  rw [stepComplete_eq hrun hstage, hrail, hdir]

theorem stepComplete_plain (hrun : s.seqRuns = true) (hstage : s.seqr.stage = 1)
    (h : railOfCheck s.stepCheck = none ∨ s.fb Fld.SEQ_STAT_DIR = true) : stepComplete s = stepDone s := by
  rw [stepComplete_eq hrun hstage]
  rcases h with hnone | hdown
  · rw [hnone]
  · rw [hdown]
    cases railOfCheck s.stepCheck <;> rfl

theorem upTimeout_early (h : s.seqr.stepN < 100 * s.stepTimeout) : upTimeout s = s :=
  if_pos (.inr (.inr (.inr (.inr h))))

theorem downTimeout_early (h : s.seqr.stepN < 100 * s.stepTimeout) : downTimeout s = s := if_pos (.inr (.inr h))

theorem upTimeout_turns (hrun : s.seqRuns = true) (hstage : s.seqr.stage = 1) (hdir : s.fb Fld.SEQ_STAT_DIR = false)
    (htarget : s.stepTarget < 0x20) (htime : 100 * s.stepTimeout ≤ s.seqr.stepN) :
    upTimeout s = downStart ((s.fs Fld.SEQ_STAT_SEQ_PUF 1).driveLine 24) :=
  if_neg (by simp [hrun, hstage, hdir]; omega)

theorem downTimeout_goesOn (hrun : s.seqRuns = true) (hstage : s.seqr.stage = 1) (hdir : s.fb Fld.SEQ_STAT_DIR = true)
    (htime : 100 * s.stepTimeout ≤ s.seqr.stepN) : (downTimeout s).fg Fld.SEQ_STAT_SEQ_PDF = 1 ∧
    (downTimeout s).seqr.stage = 2 ∧ (downTimeout s).flt.lines = s.flt.lines ++ [5] := by
  have hgo : ¬ ((!s.goingDown) = true ∨ s.seqr.stage ≠ 1 ∨ s.seqr.stepN < 100 * s.stepTimeout) := by
    have hdown : s.goingDown = true := by rw [State.goingDown, hdir, ← State.seqRuns, hrun]; rfl
    simp [hdown, hstage]; omega
  unfold downTimeout
  rw [if_neg hgo]
  extract_lets t q
  have hflt : t.flt = s.flt := by
    simp only [t]
    split <;> rfl
  refine ⟨?_, rfl, ?_⟩
  · rw [setSeqr_fg, driveLine_fg]
    exact fg_fs_of_lt _ _ _ (by decide) (by decide)
  · rw [setSeqr_flt, State.driveLine_lines, State.fs_flt, hflt]

/-! ### The end of a step and of a sequence (R395, R397) -/

theorem stepNext_waits (h : s.seqr.stepN < 100 * s.stepDelay) : stepNext s = s := if_pos (.inr (.inr h))

section
variable (hrun : s.seqRuns = true) (hstage : s.seqr.stage = 2) (htime : 100 * s.stepDelay ≤ s.seqr.stepN)
include hrun hstage htime

theorem stepNext_steps (h : s.stepNo + 1 < s.stepCount) : stepNext s =
    (s.fs Fld.SEQ_STAT_STEP (s.stepNo + 1)).setSeqr { s.seqr with stage := 0, checkN := 0 } := by
  rw [stepNext, if_neg (by simp [hrun, hstage]; omega), if_pos h]

theorem stepNext_ends (h : s.stepCount ≤ s.stepNo + 1) : stepNext s = seqDone s := by
  rw [stepNext, if_neg (by simp [hrun, hstage]; omega), if_neg (by omega)]

end

theorem seqDone_up (hdir : s.fb Fld.SEQ_STAT_DIR = false) :
    seqDone s = ((s.fs Fld.SEQ_STAT_RUN 0).fs Fld.SEQ_STAT_UPDONE 1).raise 174 := by
  rw [seqDone, hdir]; rfl

theorem reup_idle (h : s.seqr.ended = false) : reup s = s := if_neg (by simp [h])

theorem railSwitchOff_ended (s : State) (k : Nat) : (railSwitchOff k s).seqr.ended = s.seqr.ended := rfl

theorem allRailsOff_ended (s : State) : (allRailsOff s).seqr.ended = s.seqr.ended :=
  foldl_field (fun t : State => t.seqr.ended) _ (fun t k => railSwitchOff_ended t k) _ s

/-- R397: the outputs as a power-down leaves them. -/
def downLeft (s : State) : State :=
  let t := (allRailsOff s).fs Fld.SEQ_OUT_SQE 0
  rstoUpdate (t.setSeqr { t.seqr with down := 15, inProgress := false, noLog := false })

theorem downLeft_ended (s : State) : (downLeft s).seqr.ended = s.seqr.ended := by
  unfold downLeft
  extract_lets t q
  have ht : t.seqr = (allRailsOff s).seqr := State.fs_seqr _ _ _
  rw [rstoUpdate_ended, setSeqr_seqr]
  exact (congrArg Seqr.ended ht).trans (allRailsOff_ended s)

theorem downLeft_fg {f : Fld} (hf : f.addr < 0x160C04) :
    (downLeft s).fg f = ((allRailsOff s).fs Fld.SEQ_OUT_SQE 0).fg f := by
  unfold downLeft
  extract_lets t q
  rw [rstoUpdate_fg hf, setSeqr_fg]

theorem seqDone_down (hdir : s.fb Fld.SEQ_STAT_DIR = true) (hended : s.seqr.ended = false) : seqDone s =
    ((((downLeft s).fs Fld.SEQ_STAT_RUN 0).fs Fld.SEQ_STAT_DNDONE 1).fs Fld.SEQ_STAT_UPDONE 0).raise 174 := by
  have hidle : ((((((downLeft s).fs Fld.SEQ_STAT_RUN 0).fs Fld.SEQ_STAT_DNDONE 1).fs Fld.SEQ_STAT_UPDONE 0)).raise
      174).seqr.ended = false := by
    rw [State.raise_seqr, State.fs_seqr, State.fs_seqr, State.fs_seqr, downLeft_ended, hended]
  rw [seqDone, if_pos hdir]
  exact reup_idle hidle

theorem seqDone_down_leaves (hdir : s.fb Fld.SEQ_STAT_DIR = true) (hended : s.seqr.ended = false) :
    (seqDone s).seqRuns = false ∧ (seqDone s).fg Fld.SEQ_STAT_DNDONE = 1 ∧ (seqDone s).fg Fld.SEQ_STAT_UPDONE = 0 ∧
    (seqDone s).fg Fld.SEQ_OUT_SQE = 0 ∧ ∀ k < 8, (seqDone s).railOn k = false := by
  rw [seqDone_down hdir hended]
  refine ⟨?_, ?_, ?_, ?_, fun k hk => ?_⟩
  · rw [State.seqRuns, State.fb, raise_fg]
    simp (disch := decide) only [fg_fs_other, fg_fs_of_lt]
    rfl
  · rw [raise_fg]; simp (disch := decide) only [fg_fs_other, fg_fs_of_lt]
  · rw [raise_fg]; exact fg_fs_of_lt _ _ _ (by decide) (by decide)
  · rw [raise_fg]
    simp (disch := decide) only [fg_fs_other]
    rw [downLeft_fg (by decide)]
    exact fg_fs_of_lt _ _ _ (by decide) (by decide)
  · have hstat : (Fld.RGL_R_STAT_ON k).addr ≠ 0x160004 := by simp only [Fld.RGL_R_STAT_ON]; omega
    have hout : (Fld.RGL_R_STAT_ON k).addr ≠ Fld.SEQ_OUT_SQE.addr := by
      simp only [Fld.RGL_R_STAT_ON, Fld.SEQ_OUT_SQE]; omega
    have hlow : (Fld.RGL_R_STAT_ON k).addr < 0x160C04 := by simp only [Fld.RGL_R_STAT_ON]; omega
    have hoff := allRailsOff_on (s := s) hk
    rw [State.railOn, State.fb] at hoff ⊢
    rw [raise_fg, fg_fs_addr _ _ _ _ (by exact hstat), fg_fs_addr _ _ _ _ (by exact hstat),
      fg_fs_addr _ _ _ _ (by exact hstat), downLeft_fg hlow, fg_fs_addr _ _ _ _ hout]
    exact hoff

/-! ### Reset outputs and the input (R393, R399, R402, R403) -/

theorem stretchOver_idle (n : Nat) (hrun : s.seqRuns = false) : stretchOver n s = stretchEnd n s := by
  have hstays : (stretchEnd n s).seqRuns = false := by
    have haddr : Fld.SEQ_STAT_RUN.addr ≠ (Fld.SEQ_RSTO_STAT_ASSERTED n).addr := by
      simp only [Fld.SEQ_STAT_RUN, Fld.SEQ_RSTO_STAT_ASSERTED]; omega
    refine (fb_of_fg _ ?_).trans hrun
    unfold stretchEnd
    split
    · rw [fg_fs_addr _ _ _ _ (by exact haddr), fg_fs_addr _ _ _ _ haddr]
    · rfl
  exact if_neg (by simp [hstays])

theorem stretchEnd_ends {n : Nat} (hstretch : s.fb (Fld.SEQ_RSTO_STAT_STRETCHING n) = true) (hcause : s.rstoCause n = false)
    (htime : 100 * s.fg (Fld.SEQ_RSTO_CFG_STRETCH n) ≤ s.stretchOf n) : stretchEnd n s =
      (s.fs (Fld.SEQ_RSTO_STAT_ASSERTED n) 0).fs (Fld.SEQ_RSTO_STAT_STRETCHING n) 0 :=
  if_pos ⟨hstretch, by rw [hcause]; rfl, htime⟩

theorem stretchEnd_early {n : Nat} (htime : s.stretchOf n < 100 * s.fg (Fld.SEQ_RSTO_CFG_STRETCH n)) : stretchEnd n s = s :=
  if_neg (by omega)

/-- The collapse as the status shows it. -/
def collapseShown (s : State) : State := (s.fs Fld.SEQ_STAT_COLLAPSE 1).fs Fld.SEQ_STAT_COLLS 1

theorem inputCollapse_new (hnew : s.fb Fld.SEQ_STAT_COLLAPSE = false)
    (hplain : s.seqr.inProgress = true → (collapseShown s).fb Fld.SYS_PWR_STAT_COMPAT = false) : inputCollapse s =
      if s.seqr.inProgress then (nvDrop wWave (nvDrop wLog (downStart (collapseShown s)))).setSeqr
        { (nvDrop wWave (nvDrop wLog (downStart (collapseShown s)))).seqr with ended := true, noLog := true }
      else collapseShown s := by
  have hprog : (collapseShown s).seqr.inProgress = s.seqr.inProgress := rfl
  rw [inputCollapse, if_neg (by rw [hnew]; decide), ← collapseShown]
  dsimp only
  rw [hprog]
  cases h : s.seqr.inProgress
  · rfl
  · rw [hplain h]
    rfl

theorem inputCollapse_outside (hnew : s.fb Fld.SEQ_STAT_COLLAPSE = false) (hprog : s.seqr.inProgress = false) :
    inputCollapse s = collapseShown s := by
  rw [inputCollapse_new hnew (fun h => absurd h (by rw [hprog]; decide)), hprog]
  rfl

theorem inputCollapse_leadsDown (hnew : s.fb Fld.SEQ_STAT_COLLAPSE = false) (hprog : s.seqr.inProgress = true)
    (hcompat : s.fb Fld.SYS_PWR_STAT_COMPAT = false) :
    inputCollapse s = (nvDrop wWave (nvDrop wLog (downStart (collapseShown s)))).setSeqr
      { (nvDrop wWave (nvDrop wLog (downStart (collapseShown s)))).seqr with ended := true, noLog := true } := by
  have hplain : (collapseShown s).fb Fld.SYS_PWR_STAT_COMPAT = false :=
    (fb_of_fg _ (by simp (disch := decide) only [collapseShown, fg_fs_other])).trans hcompat
  rw [inputCollapse_new hnew (fun _ => hplain), if_pos hprog]

theorem inputRecover_ends (hcol : s.fb Fld.SEQ_STAT_COLLAPSE = true) (hreup : s.fb Fld.SEQ_CFG_REUP = false)
    (htime : 10000 ≤ s.seqr.recN) : inputRecover s = s.fs Fld.SEQ_STAT_COLLAPSE 0 := by
  have hstays : (s.fs Fld.SEQ_STAT_COLLAPSE 0).fb Fld.SEQ_CFG_REUP = false :=
    (fb_of_fg _ (fg_fs_addr s _ _ _ (by decide))).trans hreup
  rw [inputRecover, if_pos ⟨hcol, htime⟩]
  exact if_neg (by simp [hstays])

theorem inputRecover_early (htime : s.seqr.recN < 10000) : inputRecover s = s := if_neg (by omega)

/-- Settles O42: the supervision of rails, then the sequences clause by clause. -/
theorem railsAndSequences : Obligations.RailsAndSequences := by
  unfold Obligations.RailsAndSequences
  refine ⟨⟨fun mv vsys ilim s hlive => ⟨_, done_eq hlive rfl, seqTick_msN mv vsys ilim,
      fun hms k hk => seqTick_shows mv vsys ilim hms hk⟩, fun k ilim s => ?ramp,
      fun setN lvl v beyond inside uv hset hlvl => ⟨levelTick_sets hset hlvl, levelTick_clears hset hlvl⟩,
      fun k ov s hlive => ?fault, fun k bit s => railSet_bits k bit.isLt, fun k s hlive hon => ?limit⟩,
    fun p s hreach => ⟨fun h => write_eq hreach (upWrite_runs h), fun hrun h => write_eq hreach (upWrite_noImage hrun h),
      fun hrun h => write_eq hreach (upWrite_starts hrun h), write_eq hreach rfl⟩,
    fun s hlive hdue hcol hrun himage => ⟨fun hup => done_eq hlive (upAuto_starts hdue hcol hrun himage hup),
      fun hlow => done_eq hlive (upAuto_waits hlow)⟩,
    fun s hlive => done_eq hlive rfl, fun s => ⟨upStart_begins, downStart_begins⟩,
    fun s hlive hrun hstage => ?step, fun s hlive _ _ htime => done_eq hlive (stepNext_waits htime),
    fun s hlive hrun hstage htime => ⟨fun h => done_eq hlive (stepNext_steps hrun hstage htime h), fun h hdir => ?_,
      fun h hdir hended => ⟨_, done_eq hlive (stepNext_ends hrun hstage htime h), seqDone_down_leaves hdir hended⟩⟩,
    fun n s hlive hstretch hcause hrun => ⟨fun htime => ?_, fun htime => ?_⟩, fun s hlive hnew => ?collapse,
    fun s hlive hcol hreup => ⟨fun htime => done_eq hlive (inputRecover_ends hcol hreup htime),
      fun htime => done_eq hlive (inputRecover_early htime)⟩⟩
  case ramp =>
    intro u
    obtain ⟨hilim, hsoft⟩ := railRamp_status (s := s) k ilim
    exact ⟨congrArg Prod.snd (railRamp_times k ilim), hilim, hsoft⟩
  case fault =>
    intro bit
    refine ⟨fun hset => done_eq hlive (if_pos hset), fun hnew hdown => done_eq hlive ?_, fun hnew hup hact => done_eq hlive ?_,
      fun hnew hup hact => done_eq hlive ?_, done_eq hlive rfl⟩
    · exact (if_neg (by rw [hnew]; decide)).trans (railFault_inDown k _ hdown)
    · refine (if_neg (by rw [hnew]; decide)).trans ((railFault_acts k _ hup).trans ?_)
      rw [hact]
      rfl
    · refine (if_neg (by rw [hnew]; decide)).trans ((railFault_acts k _ hup).trans ?_)
      rw [hact]
      rfl
  case limit =>
    exact ⟨fun htime => ⟨_, done_eq hlive rfl, railOvercurrent_trips k.isLt hon htime⟩,
      fun htime => done_eq hlive (railOvercurrent_early htime)⟩
  case step =>
    intro v
    exact ⟨fun k hrail hdir => done_eq hlive (stepComplete_rail hrun hstage hrail hdir),
      fun h => done_eq hlive (stepComplete_plain hrun hstage h),
      fun htime => ⟨done_eq hlive (upTimeout_early htime), done_eq hlive (downTimeout_early htime)⟩,
      fun hdir htarget htime => done_eq hlive (upTimeout_turns hrun hstage hdir htarget htime),
      fun hdir htime => ⟨_, done_eq hlive rfl, downTimeout_goesOn hrun hstage hdir htime⟩⟩
  · exact done_eq hlive ((stepNext_ends hrun hstage htime h).trans (seqDone_up hdir))
  · exact done_eq hlive ((stretchOver_idle n hrun).trans (stretchEnd_ends hstretch hcause htime))
  · exact done_eq hlive ((stretchOver_idle n hrun).trans (stretchEnd_early htime))
  case collapse =>
    exact ⟨fun hprog => done_eq hlive (inputCollapse_outside hnew hprog),
      fun hprog hcompat => done_eq hlive (inputCollapse_leadsDown hnew hprog hcompat)⟩

end Sys2Proof.Machine
end

section
/-!
PROOFS. A cycle of the queen (R406, R415, R418): the check of a part's start can end an order, which queues commands itself.
-/
namespace Sys2Proof.Machine

/-- A swarm order that still waits for the quotes of rack 1. -/
def quotedOrder : Order where
  id := 7
  ty := 0
  prio := 0
  flags := 0
  smask := 1
  dmask := 0
  contract := 0
  scope := 1
  racks := 2
  energy := 0
  pmax := 0
  pmin := 0
  start := 0
  deadline := 0
  htag := 0
  holdId := 0
  clean := true
  cq := 0
  state := 2
  ending := none
  outFlags := 0
  plan := []
  owed := []
  credit := []
  reserve := []
  reached := false
  seq := 1
  since := 0
  prof := 0

/-- A queen in READY whose link is up and has no command waiting. A PART_START of the id of `quotedOrder` is due in the cycle
after the next, has moved three times and is not acknowledged. -/
def startOfQuotedOrder : State :=
  ((((((State.reset.setImage (some ⟨0, 0, 1, 0, []⟩)).fs Fld.SYS_PWR_STAT_STATE 2).fs Fld.WGL_CFG_EN 1).fs
    Fld.WGL_STAT_JOINED 1).setOrd { State.reset.ord with
      orders := [quotedOrder], parts := [(7, [⟨1, none, 0, 0, 0, 0, []⟩])] }).setWgl
    { State.reset.wgl with bars := [⟨5, 1, 0, 2, 7, 3⟩] }).setFlt { State.reset.flt with quiet := [22] }

theorem startOfQuotedOrder_meets : Live startOfQuotedOrder ∧ startOfQuotedOrder.queen = true ∧
    startOfQuotedOrder.linkUp = true ∧ startOfQuotedOrder.wgl.cmds = [] := by decide +kernel

/-- The order ends, and the WITHDRAW of its part goes out in the command window of the same cycle. -/
theorem linkCycle_startOfQuotedOrder : (linkCycle (slotMiss 0 startOfQuotedOrder)).wgl.out.length = 2 ∧
    (linkCycle (slotMiss 0 startOfQuotedOrder)).flt.lines = [] ∧
    (linkCycle (slotMiss 0 startOfQuotedOrder)).flt.quiet ≠ [] := by decide +kernel

theorem wgl_of_quiet {t u : State} (hlines : t.flt.lines = []) (hquiet : t.flt.quiet ≠ []) (h : finish t = finish u) :
    u.wgl = t.wgl := by
  have hpass : (settle t).wgl = (settle u).wgl := by
    rw [← finish_quiet t hlines, h, finish_quiet u (lines_of_quiet hlines hquiet h)]
  rw [← settle_wgl u, ← hpass, settle_wgl]

/-- Refutes O43: its clause on a cycle counts the command frames that waited before the cycle. In `startOfQuotedOrder` none
waits, but the check of the part's start ends an order, whose WITHDRAW is sent in that cycle. -/
theorem not_linkJoinsAndCounts : ¬ Obligations.LinkJoinsAndCounts := by
  unfold Obligations.LinkJoinsAndCounts
  rintro ⟨-, -, hcycle, -⟩
  obtain ⟨hlive, hqueen, hup, hcmds⟩ := startOfQuotedOrder_meets
  obtain ⟨hout, hlines, hquiet⟩ := linkCycle_startOfQuotedOrder
  obtain ⟨u, hexec, -, -, hclaim⟩ := hcycle 0 startOfQuotedOrder hlive hqueen hup
  have hstep : exec (.linkCycle 0) startOfQuotedOrder = .next (finish (linkCycle (slotMiss 0 startOfQuotedOrder))) :=
    done_eq hlive (by rw [hqueen, hup]; rfl)
  have hwgl := wgl_of_quiet hlines hquiet (Host.Outcome.next.inj (hstep.symm.trans hexec))
  rw [hwgl, hout, hcmds] at hclaim
  exact absurd hclaim (by decide)

end Sys2Proof.Machine
end

section
/-!
PROOFS. E-fuse channels (R362 to R369): what a start, a trip and a change of the enable leave.
-/
namespace Sys2Proof.Machine

variable {s : State} {c : Nat}

/-! ### A channel's data and its registers -/

theorem setEfu_efu (v : Efu) : (s.setEfu c v).efu c = v := kvGet_set_same _ _ _ _

@[simp] theorem setEfu_fg (v : Efu) (f : Fld) : (s.setEfu c v).fg f = s.fg f := (rfl)
@[simp] theorem setEfu_eState (v : Efu) (d : Nat) : (s.setEfu c v).eState d = s.eState d := (rfl)
@[simp] theorem setEfu_image (v : Efu) : (s.setEfu c v).image = s.image := (rfl)
@[simp] theorem setFeedStep_fg (f v : Nat) (x : Fld) : (s.setFeedStep f v).fg x = s.fg x := (rfl)
@[simp] theorem setFeedStep_efu (f v d : Nat) : (s.setFeedStep f v).efu d = s.efu d := (rfl)
@[simp] theorem setEState_efu (st d : Nat) : (s.setEState c st).efu d = s.efu d := (rfl)
@[simp] theorem fs_efu (f : Fld) (v d : Nat) : (s.fs f v).efu d = s.efu d := (rfl)
@[simp] theorem wr_efu (a : Nat) (v : Word) (d : Nat) : (s.wr a v).efu d = s.efu d := (rfl)
@[simp] theorem dischargeGate_fg (f : Fld) : (dischargeGate c s).fg f = s.fg f := (rfl)

theorem dischargeGate_efu : (dischargeGate c s).efu c = { s.efu c with gateOff := false } := setEfu_efu _

theorem stateAddr_ne (c : Nat) : (Fld.EFU_CH_STAT_STATE c).addr ≠ 0x170000 := by
  simp only [Fld.EFU_CH_STAT_STATE]; omega

theorem setEState_fg {f : Fld} (hstate : f.addr ≠ (Fld.EFU_CH_STAT_STATE c).addr) (hstat : f.addr ≠ 0x170000) (st : Nat) :
    (s.setEState c st).fg f = s.fg f := by
  unfold State.setEState
  rw [fg_fs_addr _ _ _ _ hstat, fg_fs_addr _ _ _ _ hstate]

theorem setEState_eState {st : Nat} (hst : st < 8) : (s.setEState c st).eState c = st := by
  unfold State.setEState State.eState
  rw [fg_fs_addr _ _ _ _ (stateAddr_ne c)]
  exact fg_fs_of_lt _ _ _ (Nat.le_of_ble_eq_true rfl) hst

theorem setEState_tripped (hc : c < 8) : bitOf ((s.setEState c eTripped).fg Fld.EFU_STAT_TRIPPED) c = true := by
  have hkept : (s.fs (Fld.EFU_CH_STAT_STATE c) eTripped).fg Fld.EFU_STAT_TRIPPED = s.fg Fld.EFU_STAT_TRIPPED :=
    fg_fs_addr _ _ _ _ (stateAddr_ne c).symm
  unfold State.setEState
  rw [← hkept]
  exact fs_setBit_bit _ _ (by decide) hc

/-! ### A start (R365) -/

theorem efuseStart_fg {f : Fld} (hstate : f.addr ≠ (Fld.EFU_CH_STAT_STATE c).addr) (hstat : f.addr ≠ 0x170000)
    (hsoax : f.addr ≠ Reg.EFU_CH_SOAX c) : (efuseStart c s).fg f = s.fg f := by
  unfold efuseStart
  rw [State.fg, rd_wr_other _ _ _ _ hsoax, ← State.fg, setEState_fg hstate hstat, setEfu_fg]

theorem efuseStart_leaves : (efuseStart c s).eState c = 2 ∧ ((efuseStart c s).efu c).ft = 0 ∧
    ((efuseStart c s).efu c).x = 0 ∧ (efuseStart c s).rd (Reg.EFU_CH_SOAX c) = 0 := by
  have hsoax : (Fld.EFU_CH_STAT_STATE c).addr ≠ Reg.EFU_CH_SOAX c := by
    simp only [Fld.EFU_CH_STAT_STATE, Reg.EFU_CH_SOAX]; omega
  have hefu : (efuseStart c s).efu c = { s.efu c with ft := 0, x := 0, gateOff := false } := by
    unfold efuseStart
    rw [wr_efu, setEState_efu, setEfu_efu]
  refine ⟨?_, by rw [hefu], by rw [hefu], ?_⟩
  · unfold efuseStart State.eState
    rw [State.fg, rd_wr_other _ _ _ _ hsoax, ← State.fg, ← State.eState]
    exact setEState_eState (by decide)
  · unfold efuseStart
    exact rd_wr_same _ _ _

/-! ### A trip (R367) -/

/-- The block of the e-fuse channels and the feeds. -/
def EfuseFld (f : Fld) : Prop := 0x170000 ≤ f.addr ∧ f.addr < 0x170600

theorem wakeDormant_fg {f : Fld} (hstat : f.addr ≠ Fld.SYS_PWR_STAT_TRANS.addr) (hreq : f.addr ≠ Fld.SYS_PWR_REQ_REQ.addr) :
    s.wakeDormant.fg f = s.fg f := by
  unfold State.wakeDormant
  split_ifs
  · rfl
  · rw [setPwr_fg, fg_fs_addr _ _ _ _ hreq, fg_fs_addr _ _ _ _ hstat]
  · rfl

theorem wakeDormant_prot : s.wakeDormant.prot = s.prot := by
  unfold State.wakeDormant
  split_ifs <;> rfl

theorem waveTrigger_prot (trig arg : Nat) : (s.waveTrigger trig arg).prot = s.prot := by
  unfold State.waveTrigger
  split
  · rfl
  · split
    · rfl
    · split
      · rfl
      · rw [State.logEvent_prot, State.fs_prot, State.fs_prot, setPrp_prot]

/-- A trip as the channel shows it. -/
def tripShown (c cause : Nat) (s : State) : State :=
  ((dischargeGate c s).setEState c eTripped).fs (Fld.EFU_CH_FLAG_CAUSE c) cause

/-- A trip as the device reports it. -/
def tripReported (c cause : Nat) (s : State) : State :=
  (((s.driveLine 22).logEvent 0x05 c cause false).waveTrigger 4 c).wakeDormant

/-- R371: the trip of the selected member while it starts. -/
def tripFollowed (c : Nat) (s : State) : State :=
  match s.feedOf c with
  | some f => if s.feedStep f = 3 ∧ s.selected f = some c then s.setFeedStep f 1 else s
  | none => s

theorem efuseTrip_eq (cause : Nat) : efuseTrip c cause s = tripFollowed c (tripReported c cause (tripShown c cause s)) := rfl

theorem tripReported_fg {f : Fld} (hf : EfuseFld f) (cause : Nat) : (tripReported c cause s).fg f = s.fg f := by
  obtain ⟨hlo, hhi⟩ := hf
  unfold tripReported
  rw [wakeDormant_fg (by simp only [Fld.SYS_PWR_STAT_TRANS]; omega) (by simp only [Fld.SYS_PWR_REQ_REQ]; omega),
    (waveTrigger_keeps _ 4 c).2.2.2 f (by simp only [Fld.PRP_STAT_SLOT]; omega), logEvent_fg, driveLine_fg]

theorem tripReported_efu (cause d : Nat) : (tripReported c cause s).efu d = s.efu d := by
  unfold tripReported State.efu
  rw [wakeDormant_prot, waveTrigger_prot, State.logEvent_prot, State.driveLine_prot]

theorem tripFollowed_fg (f : Fld) : (tripFollowed c s).fg f = s.fg f := by
  unfold tripFollowed
  split
  · split <;> rfl
  · rfl

theorem tripFollowed_efu (d : Nat) : (tripFollowed c s).efu d = s.efu d := by
  unfold tripFollowed
  split
  · split <;> rfl
  · rfl

theorem efuseTrip_fg {f : Fld} (hf : EfuseFld f) (cause : Nat) : (efuseTrip c cause s).fg f = (tripShown c cause s).fg f := by
  rw [efuseTrip_eq, tripFollowed_fg, tripReported_fg hf]

theorem efuseTrip_leaves (hc : c < 8) {cause : Nat} (hcause : cause < 4) : (efuseTrip c cause s).eState c = 5 ∧
    (efuseTrip c cause s).fg (Fld.EFU_CH_FLAG_CAUSE c) = cause ∧ ((efuseTrip c cause s).efu c).gateOff = false ∧
    bitOf ((efuseTrip c cause s).fg Fld.EFU_STAT_TRIPPED) c = true := by
  have hstate : EfuseFld (Fld.EFU_CH_STAT_STATE c) := by simp only [EfuseFld, Fld.EFU_CH_STAT_STATE]; omega
  have hflag : EfuseFld (Fld.EFU_CH_FLAG_CAUSE c) := by simp only [EfuseFld, Fld.EFU_CH_FLAG_CAUSE]; omega
  have hapart : (Fld.EFU_CH_STAT_STATE c).addr ≠ (Fld.EFU_CH_FLAG_CAUSE c).addr := by
    simp only [Fld.EFU_CH_STAT_STATE, Fld.EFU_CH_FLAG_CAUSE]; omega
  have hstat : Fld.EFU_STAT_TRIPPED.addr ≠ (Fld.EFU_CH_FLAG_CAUSE c).addr := by
    simp only [Fld.EFU_STAT_TRIPPED, Fld.EFU_CH_FLAG_CAUSE]; omega
  refine ⟨?_, ?_, ?_, ?_⟩
  · rw [State.eState, efuseTrip_fg hstate, tripShown, fg_fs_addr _ _ _ _ hapart, ← State.eState]
    exact setEState_eState (by decide)
  · rw [efuseTrip_fg hflag, tripShown]
    exact fg_fs_of_lt _ _ _ (Nat.le_of_ble_eq_true rfl) hcause
  · rw [efuseTrip_eq, tripFollowed_efu, tripReported_efu, tripShown, fs_efu, setEState_efu, dischargeGate_efu]
  · rw [efuseTrip_fg (f := Fld.EFU_STAT_TRIPPED) ⟨by decide, by decide⟩, tripShown, fg_fs_addr _ _ _ _ hstat]
    exact setEState_tripped hc

/-! ### The combined enable (R363, R367) -/

theorem enableChanged_same (h : s.efuEnabled c = b) : enableChanged c b s = s := if_pos h

theorem enableChanged_rises (h : s.efuEnabled c = true) : enableChanged c false s =
    if (s.efu c).gateOff then s.setEState c eStandby else s.setEfu c { s.efu c with rise := true } :=
  (if_neg (by rw [h]; decide)).trans (if_neg (by decide))

theorem enableChanged_falls (h : s.efuEnabled c = false) :
    (enableChanged c true s).eState c = 0 ∧ ((enableChanged c true s).efu c).vOk = false := by
  unfold enableChanged
  rw [if_neg (by rw [h]; decide), if_pos rfl]
  extract_lets on t e u
  have hstate : u.eState c = 0 := by
    simp only [u]
    rw [setEfu_eState]
    exact setEState_eState (by decide)
  have hefu : u.efu c = { t.efu c with rise := false, okFor := 0, vOk := false, healthFor := 0 } := setEfu_efu _
  split
  · exact ⟨by rw [dischargeGate, setEfu_eState, hstate], by rw [dischargeGate_efu, hefu]⟩
  · exact ⟨hstate, by rw [hefu]⟩

theorem fs_en_efuEnabled (c : Nat) (en : Bool) :
    (s.fs (Fld.EFU_CH_EN_EN c) (boolNat en)).efuEnabled c = (en && (s.efu c).ball) := by
  have hfg : (s.fs (Fld.EFU_CH_EN_EN c) (boolNat en)).fg (Fld.EFU_CH_EN_EN c) = boolNat en :=
    fg_fs_of_lt _ _ _ (Nat.le_of_ble_eq_true rfl) (by cases en <;> exact Nat.le_of_ble_eq_true rfl)
  rw [State.efuEnabled, State.fb, hfg, fs_efu]
  cases en <;> rfl

theorem efuseEnable_refused (h : s.fg (Fld.EFU_CH_LIM_ILIM c) * s.fg (Fld.EFU_CH_RSNS_RSNS c) < 500000 ∨
    10000000 < s.fg (Fld.EFU_CH_LIM_ILIM c) * s.fg (Fld.EFU_CH_RSNS_RSNS c)) : efuseEnable c true s = (stDecodeErr, s) :=
  if_pos ⟨rfl, .inr h⟩

theorem efuseEnable_enables (hlo : 500000 ≤ s.fg (Fld.EFU_CH_LIM_ILIM c) * s.fg (Fld.EFU_CH_RSNS_RSNS c))
    (hhi : s.fg (Fld.EFU_CH_LIM_ILIM c) * s.fg (Fld.EFU_CH_RSNS_RSNS c) ≤ 10000000) : efuseEnable c true s =
      (stOk, enableChanged c (s.efuEnabled c) (s.fs (Fld.EFU_CH_EN_EN c) 1)) := by
  have hsense : s.fg (Fld.EFU_CH_RSNS_RSNS c) ≠ 0 := fun hzero => by simp [hzero] at hlo
  refine if_neg ?_
  rintro ⟨-, h | h | h⟩
  · exact hsense h
  · omega
  · omega

theorem efuseEnable_disables : efuseEnable c false s =
    (stOk, enableChanged c (s.efuEnabled c) (s.fs (Fld.EFU_CH_EN_EN c) 0)) := by
  rw [efuseEnable]
  exact (if_neg (fun h => absurd h.1 (by decide))).trans rfl

theorem fs_disabled : (s.fs (Fld.EFU_CH_EN_EN c) 0).efuEnabled c = false := fs_en_efuEnabled c false

/-! ### The check of a gate (R367) -/

theorem gateVerified_leaves : ((gateVerified c s).efu c).gateOff = true ∧
    ((s.efu c).rise = true → s.efuEnabled c = true → (gateVerified c s).eState c = 1) := by
  unfold gateVerified
  extract_lets e t u v
  have hreported : t.regs = s.regs := by
    simp only [t]
    split
    · unfold State.removal
      split <;> rfl
    · rfl
  have hu : u.efu c = { e with gateOff := true, rise := false } := setEfu_efu _
  have hv : (v.efu c).gateOff = true := by
    have : v.efu c = u.efu c := by simp only [v]; split <;> rfl
    rw [this, hu]
  have hstate : (s.efu c).rise = true → s.efuEnabled c = true → v.eState c = 1 := by
    intro hrise hen
    have henabled : u.efuEnabled c = true := by
      rw [← hen, State.efuEnabled, State.efuEnabled, hu, fb_of_fg (s := s) (t := u) _ (fg_congr hreported _)]
    have hboth : (e.rise && u.efuEnabled c) = true := by rw [henabled, Bool.and_true]; exact hrise
    have hgo : v = u.setEState c eStandby := if_pos hboth
    rw [hgo]
    exact setEState_eState (by decide)
  split
  · split
    · exact ⟨hv, hstate⟩
    · exact ⟨hv, hstate⟩
  · exact ⟨hv, hstate⟩

theorem gateCheck_driven (mv : Int) (h : s.gateOn c = true) : gateCheck c mv s = s := if_pos h

theorem gateCheck_off {mv : Int} (h : s.gateOn c = false) (hmv : mv < 1000) : gateCheck c mv s = gateVerified c s :=
  (if_neg (by rw [h]; decide)).trans (if_pos hmv)

theorem gateCheck_high {mv : Int} (h : s.gateOn c = false) (hmv : 1000 ≤ mv) : gateCheck c mv s = gateFailed c s :=
  (if_neg (by rw [h]; decide)).trans (if_neg (by omega))

end Sys2Proof.Machine
end

section
/-!
PROOFS. Feeds (R370 to R373): a changeover, a loss and a return.
-/
namespace Sys2Proof.Machine

variable {s : State} {f : Nat}

/-! ### A feed that is lost (R373) -/

theorem EfuseFld.apart {x : Fld} (h : EfuseFld x) : ApartFromGroups x := by
  intro g hg
  obtain ⟨hlo, hhi⟩ := h
  simp only [ApartFromGroup, Fld.CNV_CG_STAT_MODE, Fld.CHG_CG_STAT_STATE, Fld.SYS_PWR_STAT_STATE]
  omega

theorem latchK_fg {x : Fld} {n : Nat} (hx : x.addr ≠ Reg.EFU_S_KFLAG n) (bit : Nat) : (latchK n bit s).fg x = s.fg x := by
  unfold latchK
  extract_lets w t
  have ht : t.fg x = s.fg x := by
    simp only [t]
    rw [State.fg, rd_wr_other _ _ _ _ hx, ← State.fg]
  rw [logEvent_fg]
  split
  · exact ht
  · rw [raise_fg, ht]

/-- R373: the feed's own status as it is lost. -/
def feedShown (f : Nat) (s : State) : State :=
  let t := ((((s.fs (Fld.EFU_F_STAT_LOST f) 1).fs (Fld.EFU_F_FLAG_FEEDLOST f) 1).fs (Fld.EFU_F_STAT_SEL f) 3).fs
    (Fld.EFU_F_STAT_CHG f) 0).setFeedStep f 0
  (t.fs Fld.EFU_STAT_FEEDLOST (setBit (t.fg Fld.EFU_STAT_FEEDLOST) f true)).driveLine 22

/-- A string of a lost feed opens. -/
def stringUnfed (s : State) (n : Nat) : State :=
  if s.kState n != kOpen then latchK n 5 (contactorOpen n (s.removal (.string n)))
  else contactorOpen n (s.removal (.string n))

theorem feedLost_eq : feedLost f s =
    (((feedShown f s).strings.filter (fun n => (feedShown f s).shelfFeed ((feedShown f s).strShelf n) == f)).foldl
      stringUnfed (feedShown f s)).wakeDormant := rfl

theorem stringUnfed_fg {x : Fld} (hx : EfuseFld x) (n : Nat) : (stringUnfed s n).fg x = s.fg x := by
  have hhi := hx.2
  have hopen : (contactorOpen n (s.removal (.string n))).fg x = s.fg x := by
    rw [contactorOpen_fg _ hx.apart (by simp only [Fld.EFU_S_KSTAT_STATE]; omega)
      (by simp only [Fld.EFU_S_KCTL_REQ]; omega), removal_fg]
  unfold stringUnfed
  split
  · rw [latchK_fg (by simp only [Reg.EFU_S_KFLAG]; omega), hopen]
  · exact hopen

theorem feedLost_fg {x : Fld} (hx : EfuseFld x) : (feedLost f s).fg x = (feedShown f s).fg x := by
  obtain ⟨hlo, hhi⟩ := id hx
  rw [feedLost_eq, wakeDormant_fg (by simp only [Fld.SYS_PWR_STAT_TRANS]; omega)
    (by simp only [Fld.SYS_PWR_REQ_REQ]; omega)]
  exact foldl_field (fun t : State => t.fg x) _ (fun t n => stringUnfed_fg hx n) _ _

theorem feedLost_leaves (hf : f < 3) : (feedLost f s).fg (Fld.EFU_F_STAT_LOST f) = 1 ∧
    (feedLost f s).fg (Fld.EFU_F_STAT_SEL f) = 3 ∧ (feedLost f s).fg (Fld.EFU_F_FLAG_FEEDLOST f) = 1 := by
  have hstat : EfuseFld (Fld.EFU_F_STAT_LOST f) := by simp only [EfuseFld, Fld.EFU_F_STAT_LOST]; omega
  have hsel : EfuseFld (Fld.EFU_F_STAT_SEL f) := hstat
  have hflag : EfuseFld (Fld.EFU_F_FLAG_FEEDLOST f) := by simp only [EfuseFld, Fld.EFU_F_FLAG_FEEDLOST]; omega
  have hall : (Fld.EFU_F_STAT_LOST f).addr ≠ Fld.EFU_STAT_FEEDLOST.addr := by
    simp only [Fld.EFU_F_STAT_LOST, Fld.EFU_STAT_FEEDLOST]; omega
  have hall' : (Fld.EFU_F_FLAG_FEEDLOST f).addr ≠ Fld.EFU_STAT_FEEDLOST.addr := by
    simp only [Fld.EFU_F_FLAG_FEEDLOST, Fld.EFU_STAT_FEEDLOST]; omega
  have hapart : (Fld.EFU_F_STAT_LOST f).addr ≠ (Fld.EFU_F_FLAG_FEEDLOST f).addr := by
    simp only [Fld.EFU_F_STAT_LOST, Fld.EFU_F_FLAG_FEEDLOST]; omega
  rw [feedLost_fg hstat, feedLost_fg hsel, feedLost_fg hflag]
  unfold feedShown
  extract_lets t
  refine ⟨?_, ?_, ?_⟩
  · rw [driveLine_fg, fg_fs_addr _ _ _ _ hall, setFeedStep_fg,
      fg_fs_other _ _ _ _ (Nat.le_of_ble_eq_true rfl) (.inr (.inl (Nat.le_of_ble_eq_true rfl))),
      fg_fs_other _ _ _ _ (Nat.le_of_ble_eq_true rfl) (.inr (.inr (Nat.le_of_ble_eq_true rfl))),
      fg_fs_addr _ _ _ _ hapart]
    exact fg_fs_of_lt _ _ _ (Nat.le_of_ble_eq_true rfl) (Nat.le_of_ble_eq_true rfl)
  · rw [driveLine_fg, fg_fs_addr _ _ _ _ (by exact hall), setFeedStep_fg,
      fg_fs_other _ _ _ _ (Nat.le_of_ble_eq_true rfl) (.inr (.inl (Nat.le_of_ble_eq_true rfl)))]
    exact fg_fs_of_lt _ _ _ (Nat.le_of_ble_eq_true rfl) (Nat.le_of_ble_eq_true rfl)
  · rw [driveLine_fg, fg_fs_addr _ _ _ _ hall', setFeedStep_fg, fg_fs_addr _ _ _ _ (by exact hapart.symm),
      fg_fs_addr _ _ _ _ (by exact hapart.symm)]
    exact fg_fs_of_lt _ _ _ (Nat.le_of_ble_eq_true rfl) (Nat.le_of_ble_eq_true rfl)

/-- A field of a channel is none of the feeds'. -/
theorem feedShown_fg {x : Fld} (hchannel : x.addr < 0x170400) (hall : x.addr ≠ 0x170000) :
    (feedShown f s).fg x = s.fg x := by
  have hstat : x.addr ≠ (Fld.EFU_F_STAT_LOST f).addr := by simp only [Fld.EFU_F_STAT_LOST]; omega
  have hflag : x.addr ≠ (Fld.EFU_F_FLAG_FEEDLOST f).addr := by simp only [Fld.EFU_F_FLAG_FEEDLOST]; omega
  unfold feedShown
  extract_lets t
  rw [driveLine_fg, fg_fs_addr _ _ _ _ (by exact hall), setFeedStep_fg, fg_fs_addr _ _ _ _ (by exact hstat),
    fg_fs_addr _ _ _ _ (by exact hstat), fg_fs_addr _ _ _ _ hflag, fg_fs_addr _ _ _ _ hstat]

/-! ### A gate that stays high (R367, R373) -/

theorem gateFailed_flag {c : Nat} (hc : c < 8) : (gateFailed c s).fg (Fld.EFU_CH_FLAG_GOFF c) = 1 := by
  have hefu : EfuseFld (Fld.EFU_CH_FLAG_GOFF c) := by simp only [EfuseFld, Fld.EFU_CH_FLAG_GOFF]; omega
  have hflag : (s.fs (Fld.EFU_CH_FLAG_GOFF c) 1).fg (Fld.EFU_CH_FLAG_GOFF c) = 1 :=
    fg_fs_of_lt _ _ _ (Nat.le_of_ble_eq_true rfl) (Nat.le_of_ble_eq_true rfl)
  unfold gateFailed
  extract_lets t
  split
  · split
    · rw [feedLost_fg hefu, feedShown_fg (by simp only [Fld.EFU_CH_FLAG_GOFF]; omega)
        (by simp only [Fld.EFU_CH_FLAG_GOFF]; omega),
        fg_fs_addr _ _ _ _ (by simp only [Fld.EFU_CH_FLAG_GOFF, Fld.EFU_F_FLAG_GOFF]; omega)]
      exact hflag
    · exact hflag
  · exact hflag

/-! ### Changeovers (R371, R373) -/

theorem changeoverStart_shown (hf : f < 3) : (changeoverStart f s).fg (Fld.EFU_F_STAT_CHG f) = 1 := by
  have hchg : (s.fs (Fld.EFU_F_STAT_CHG f) 1).fg (Fld.EFU_F_STAT_CHG f) = 1 :=
    fg_fs_of_lt _ _ _ (Nat.le_of_ble_eq_true rfl) (Nat.le_of_ble_eq_true rfl)
  unfold changeoverStart
  extract_lets t
  split
  · split
    · rw [setFeedStep_fg, setEState_fg (by simp only [Fld.EFU_F_STAT_CHG, Fld.EFU_CH_STAT_STATE]; omega)
        (by simp only [Fld.EFU_F_STAT_CHG]; omega), dischargeGate_fg]
      exact hchg
    · rw [setFeedStep_fg]
      exact hchg
  · rw [setFeedStep_fg]
    exact hchg

/-- Is the selected member of a feed no longer healthy, or none selected? -/
def State.memberFailed (s : State) (f : Nat) : Bool :=
  match s.selected f with
  | some c => !s.healthy c
  | none => true

theorem memberFailed_of (h : ∀ c, s.selected f = some c → s.healthy c = false) : s.memberFailed f = true := by
  unfold State.memberFailed
  split
  · next c hc => rw [h c hc]; rfl
  · rfl

theorem feedChangeover_eq (hcount : s.feedCount f ≠ 0) (hstep : s.feedStep f = 0) (hfailed : s.memberFailed f = true) :
    feedChangeover f s = match s.bestMember f with
      | some _ => changeoverStart f s
      | none => if s.fb (Fld.EFU_F_STAT_LOST f) then s
        else feedLost f (match s.selected f with
          | some c => if s.gateOn c then (dischargeGate c s).setEState c eStandby else s
          | none => s) := by
  have hgo : ¬ (s.feedCount f = 0 ∨ s.feedStep f ≠ 0 ∨ (!s.memberFailed f) = true) := by
    simp [hcount, hstep, hfailed]
  exact if_neg hgo

theorem feedChangeover_starts (hcount : s.feedCount f ≠ 0) (hstep : s.feedStep f = 0) {i : Nat}
    (hbest : s.bestMember f = some i) (h : ∀ c, s.selected f = some c → s.healthy c = false) :
    feedChangeover f s = changeoverStart f s := by
  rw [feedChangeover_eq hcount hstep (memberFailed_of h), hbest]

theorem feedChangeover_loses (hcount : s.feedCount f ≠ 0) (hstep : s.feedStep f = 0) (hbest : s.bestMember f = none)
    (hlost : s.fb (Fld.EFU_F_STAT_LOST f) = false) (h : ∀ c, s.selected f = some c → s.healthy c = false) :
    feedChangeover f s = feedLost f (match s.selected f with
      | some c => if s.gateOn c then (dischargeGate c s).setEState c eStandby else s
      | none => s) := by
  rw [feedChangeover_eq hcount hstep (memberFailed_of h), hbest]
  exact if_neg (by rw [hlost]; decide)

theorem feedChangeover_stays (h : s.feedCount f = 0 ∨ s.feedStep f ≠ 0 ∨
    ∃ c, s.selected f = some c ∧ s.healthy c = true) : feedChangeover f s = s := by
  have hstays : s.feedCount f = 0 ∨ s.feedStep f ≠ 0 ∨ (!s.memberFailed f) = true := by
    refine h.imp_right (Or.imp_right ?_)
    rintro ⟨c, hc, hhealthy⟩
    rw [State.memberFailed, hc]
    simp [hhealthy]
  exact if_pos hstays

theorem feedReturn_starts (hstep : s.feedStep f = 0) (h : s.mayReturn f = true) : feedReturn f s = changeoverStart f s :=
  if_pos ⟨hstep, h⟩

theorem feedReturn_stays (h : s.mayReturn f = false) : feedReturn f s = s := if_neg (by simp [h])

theorem deadTime_selects (hstep : s.feedStep f = 2) {i : Nat} (hbest : s.bestMember f = some i) : deadTime f s =
    efuseStart ((s.feedMembers f).getD i 0) ((s.fs (Fld.EFU_F_STAT_SEL f) i).setFeedStep f 3) := by
  rw [deadTime, if_pos hstep, deadTimeElapsed, hbest]
  rfl

theorem deadTime_loses (hstep : s.feedStep f = 2) (hbest : s.bestMember f = none) : deadTime f s = feedLost f s := by
  rw [deadTime, if_pos hstep, deadTimeElapsed, hbest]

end Sys2Proof.Machine
end

section
/-!
PROOFS. The e-fuse tick (R362 to R366, R369): what a tick shows and measures, and then what the channel does.
-/
namespace Sys2Proof.Machine

variable {s : State} {c : Nat}

/-! ### What a tick measures -/

/-- The measurements of a tick as the channel's words show them. -/
def tickShown (c : Nat) (uv : Int) (vi vo : Nat) (s : State) : State :=
  ((s.fs (Fld.EFU_CH_STAT_I c) (clampI (ratRound (100 * s.efuAmps c uv)) 0 65535).toNat).fs (Fld.EFU_CH_VMON_VI c) vi).fs
    (Fld.EFU_CH_VMON_VO c) vo

/-- The input lies in its window. -/
def State.inWindow (s : State) (c vi : Nat) : Bool :=
  decide (10 * s.fg (Fld.EFU_CH_VWIN_UVIN c) ≤ vi ∧ vi ≤ 10 * s.fg (Fld.EFU_CH_VWIN_OVIN c))

/-- R364, R370: the qualification time of a channel. -/
def State.qualTime (s : State) (c : Nat) : Rat :=
  match s.feedOf c with
  | some f => (1000 * s.fg (Fld.EFU_F_CFG_QUAL f) : Nat)
  | none => 50000

/-- A tick's window, its health and its mean current. -/
def tickTimed (c : Nat) (i tick : Rat) (vi : Nat) (s : State) : State :=
  let t := s.setEfu c (windowStep (s.efu c) (s.inWindow c vi) tick (s.qualTime c))
  let e := t.efu c
  let u := t.setEfu c { e with healthFor := if t.healthy c then e.healthFor + tick else 0 }
  u.setEfu c (meanStep i tick (u.efu c))

/-- A tick up to what the channel does in it. -/
def tickMeasured (c : Nat) (uv : Int) (vi vo : Nat) (s : State) : State :=
  capStep c s.efuTick (tickTimed c (s.efuAmps c uv) s.efuTick vi (tickShown c uv vi vo s))

/-- R364 to R366: what a channel does in a tick. -/
def tickActs (c : Nat) (i : Rat) (vi vo : Nat) (tick : Rat) (s : State) : State :=
  let mayStart := match s.feedOf c with
    | some f => s.selected f == some c && s.feedStep f == 0
    | none => true
  if s.eState c = eStandby then (if (s.efu c).vOk && mayStart then efuseStart c s else s)
  else if !s.gateOn c then s
  else if s.feedOf c = none ∧ 10 ≤ (s.efu c).outN then (dischargeGate c s).setEState c eStandby
  else efuseActive c i vi vo tick s

theorem efuseTick_eq (c : Nat) (uv : Int) (vi vo : Nat) (s : State) : efuseTick c uv vi vo s =
    tickActs c (s.efuAmps c uv) vi vo s.efuTick (tickMeasured c uv vi vo s) := rfl

/-- What R364 and R365 hold of a channel beside its gate. -/
def Efu.timers (e : Efu) : Rat × Rat × Rat × Nat × Bool := (e.ft, e.x, e.okFor, e.outN, e.vOk)

theorem meanStep_timers (i tick : Rat) (e : Efu) : (meanStep i tick e).timers = e.timers := by
  unfold meanStep
  extract_lets p
  split <;> rfl

theorem capStep_timers (tick : Rat) : ((capStep c tick s).efu c).timers = (s.efu c).timers := by
  unfold capStep
  extract_lets cap e
  split
  · rw [fs_efu, fs_efu, setEfu_efu]; rfl
  · rw [fs_efu, setEfu_efu]; rfl

theorem tickTimed_timers (i tick : Rat) (vi : Nat) : ((tickTimed c i tick vi s).efu c).timers =
    (windowStep (s.efu c) (s.inWindow c vi) tick (s.qualTime c)).timers := by
  unfold tickTimed
  extract_lets t e u
  rw [setEfu_efu, meanStep_timers]
  simp only [u, e, t, setEfu_efu]
  rfl

theorem tickTimed_fg (i tick : Rat) (vi : Nat) (f : Fld) : (tickTimed c i tick vi s).fg f = s.fg f := by
  unfold tickTimed
  extract_lets t e u
  rw [setEfu_fg, setEfu_fg, setEfu_fg]

theorem tickTimed_image (i tick : Rat) (vi : Nat) : (tickTimed c i tick vi s).image = s.image := by
  unfold tickTimed
  extract_lets t e u
  rw [setEfu_image, setEfu_image, setEfu_image]

theorem capStep_fg {f : Fld} (hf : f.addr ≠ 0x170004) (tick : Rat) : (capStep c tick s).fg f = s.fg f := by
  unfold capStep
  extract_lets cap e
  split
  · rw [fg_fs_addr _ _ _ _ (by exact hf), fg_fs_addr _ _ _ _ (by exact hf), setEfu_fg]
  · rw [fg_fs_addr _ _ _ _ (by exact hf), setEfu_fg]

theorem tickShown_fg (uv : Int) (vi vo : Nat) {f : Fld} (hstat : f.addr ≠ 0x17011C + 64 * c ∨ f.lo + f.width ≤ 16)
    (hvmon : f.addr ≠ 0x170120 + 64 * c) : (tickShown c uv vi vo s).fg f = s.fg f := by
  unfold tickShown
  rw [fg_fs_addr _ _ _ _ (by exact hvmon), fg_fs_addr _ _ _ _ (by exact hvmon)]
  exact fg_fs_other _ _ _ _ (Nat.le_of_ble_eq_true rfl) (hstat.imp id .inl)

theorem tickShown_efu (uv : Int) (vi vo d : Nat) : (tickShown c uv vi vo s).efu d = s.efu d := by
  rw [tickShown, fs_efu, fs_efu, fs_efu]

theorem tickShown_image (uv : Int) (vi vo : Nat) : (tickShown c uv vi vo s).image = s.image := by
  rw [tickShown, State.fs_image, State.fs_image, State.fs_image]

theorem tickMeasured_fg (uv : Int) (vi vo : Nat) {f : Fld} (hstat : f.addr ≠ 0x17011C + 64 * c ∨ f.lo + f.width ≤ 16)
    (hvmon : f.addr ≠ 0x170120 + 64 * c) (hthr : f.addr ≠ 0x170004) : (tickMeasured c uv vi vo s).fg f = s.fg f := by
  rw [tickMeasured, capStep_fg hthr, tickTimed_fg, tickShown_fg uv vi vo hstat hvmon]

theorem tickMeasured_vmon (uv : Int) (vi vo : Nat) :
    (tickMeasured c uv vi vo s).fg (Fld.EFU_CH_VMON_VI c) = vi % 2 ^ (Fld.EFU_CH_VMON_VI c).width ∧
    (tickMeasured c uv vi vo s).fg (Fld.EFU_CH_VMON_VO c) = vo % 2 ^ (Fld.EFU_CH_VMON_VO c).width := by
  have hthr : (Fld.EFU_CH_VMON_VI c).addr ≠ 0x170004 := by simp only [Fld.EFU_CH_VMON_VI]; omega
  have hthr' : (Fld.EFU_CH_VMON_VO c).addr ≠ 0x170004 := hthr
  rw [tickMeasured, capStep_fg hthr, capStep_fg hthr', tickTimed_fg, tickTimed_fg, tickShown]
  refine ⟨?_, fg_fs_same _ _ _ (Nat.le_of_ble_eq_true rfl)⟩
  rw [fg_fs_other _ _ _ _ (Nat.le_of_ble_eq_true rfl) (.inr (.inl (Nat.le_of_ble_eq_true rfl)))]
  exact fg_fs_same _ _ _ (Nat.le_of_ble_eq_true rfl)

theorem tickMeasured_eState (uv : Int) (vi vo : Nat) : (tickMeasured c uv vi vo s).eState c = s.eState c :=
  tickMeasured_fg uv vi vo (.inr (Nat.le_of_ble_eq_true rfl)) (by simp only [Fld.EFU_CH_STAT_STATE]; omega)
    (by simp only [Fld.EFU_CH_STAT_STATE]; omega)

theorem capStep_image (tick : Rat) : (capStep c tick s).image = s.image := by
  unfold capStep
  extract_lets cap e
  split
  · rw [State.fs_image, State.fs_image, setEfu_image]
  · rw [State.fs_image, setEfu_image]

theorem tickMeasured_image (uv : Int) (vi vo : Nat) : (tickMeasured c uv vi vo s).image = s.image := by
  rw [tickMeasured, capStep_image, tickTimed_image, tickShown_image]

theorem feedOf_of_image {t u : State} (h : t.image = u.image) (d : Nat) : t.feedOf d = u.feedOf d := by
  have hsec : ∀ ty, t.sec ty = u.sec ty := fun ty => by rw [State.sec, h, State.sec]
  unfold State.feedOf State.feedMembers State.feedCount
  simp only [hsec]

theorem tickMeasured_feedOf (uv : Int) (vi vo : Nat) (d : Nat) : (tickMeasured c uv vi vo s).feedOf d = s.feedOf d :=
  feedOf_of_image (tickMeasured_image uv vi vo) d

/-- The window of an input within it, without a feed (R364). -/
theorem tickMeasured_timers (uv : Int) {vi : Nat} (vo : Nat) (hfeed : s.feedOf c = none)
    (hlo : 10 * s.fg (Fld.EFU_CH_VWIN_UVIN c) ≤ vi) (hhi : vi ≤ 10 * s.fg (Fld.EFU_CH_VWIN_OVIN c)) :
    ((tickMeasured c uv vi vo s).efu c).timers = ((s.efu c).ft, (s.efu c).x, (s.efu c).okFor + s.efuTick, 0,
      (s.efu c).vOk || decide (50000 ≤ (s.efu c).okFor + s.efuTick)) := by
  have hstat : (Fld.EFU_CH_VWIN_UVIN c).addr ≠ 0x17011C + 64 * c := by simp only [Fld.EFU_CH_VWIN_UVIN]; omega
  have hvmon : (Fld.EFU_CH_VWIN_UVIN c).addr ≠ 0x170120 + 64 * c := by simp only [Fld.EFU_CH_VWIN_UVIN]; omega
  have hinside : (tickShown c uv vi vo s).inWindow c vi = true := by
    rw [State.inWindow, tickShown_fg uv vi vo (.inl hstat) hvmon,
      tickShown_fg (f := Fld.EFU_CH_VWIN_OVIN c) uv vi vo (.inl hstat) hvmon]
    exact decide_eq_true ⟨hlo, hhi⟩
  have hnone : (tickShown c uv vi vo s).feedOf c = none := (feedOf_of_image (tickShown_image uv vi vo) c).trans hfeed
  have hqual : (tickShown c uv vi vo s).qualTime c = 50000 := by rw [State.qualTime, hnone]
  rw [tickMeasured, capStep_timers, tickTimed_timers, hinside, hqual, tickShown_efu]
  simp only [windowStep, if_true, Efu.timers]

/-! ### What the channel does (R364 to R366) -/

theorem gateOn_eq : s.gateOn c = decide (2 ≤ s.eState c ∧ s.eState c ≤ 4) := rfl

theorem memberOn_fg {f : Fld} (hstat : f.addr ≠ 0x170000) (hfeed : ∀ n, f.addr ≠ 0x17040C + 32 * n) :
    (memberOn c s).fg f = s.fg f := by
  unfold memberOn
  split
  · rfl
  · next n hn =>
    extract_lets t
    have ht : t.fg f = s.fg f := by
      simp only [t]
      split
      · rw [fg_fs_addr _ _ _ _ (by exact hfeed n), fg_fs_addr _ _ _ _ (by exact hfeed n), setFeedStep_fg]
      · rfl
    rw [fg_fs_addr _ _ _ _ (by exact hstat), fg_fs_addr _ _ _ _ (by exact hfeed n), ht]

/-- The state that a driven channel takes (R365). -/
def State.nextState (s : State) (c : Nat) (i : Rat) (vi vo : Nat) : Nat :=
  let lim : Rat := (s.limEff c : Rat) / 100
  if lim ≤ i then eLimit
  else if s.eState c = eLimit then (if 20 * i < 19 * lim then eOn else eLimit)
  else if s.eState c = eStart then (if 97 * vi ≤ 100 * vo then eOn else eStart) else eOn

/-- The fault timer after a tick in which the channel took a state (R365). -/
def timerAfter (st : Nat) (ft tick : Rat) : Rat := if st = eLimit then ft + tick else max 0 (ft - tick / 8)

/-- R365: the SOA budget after a tick. -/
def State.budgetAfter (s : State) (c : Nat) (i : Rat) (vi vo : Nat) (tick : Rat) : Rat :=
  if s.fg (Fld.EFU_CH_SOA_SOA c) ≠ 0 then
    max 0 ((s.efu c).x + (((vi : Int) - vo : Int) * i / 100 - (s.fg (Fld.EFU_CH_PWR_PLEAK c) : Rat) / 10) * tick)
  else (s.efu c).x

/-- A driven channel with its timer, its budget and its state, before a trip. -/
def activeShown (c : Nat) (i : Rat) (vi vo : Nat) (tick : Rat) (s : State) : State :=
  let st' := s.nextState c i vi vo
  let x := s.budgetAfter c i vi vo tick
  let t := (s.setEfu c { s.efu c with ft := timerAfter st' (s.efu c).ft tick, x := x }).wr (Reg.EFU_CH_SOAX c)
    (BitVec.ofNat 32 x.floor.toNat)
  if st' = eOn ∧ s.eState c ≠ eOn then memberOn c (t.setEState c st') else t.setEState c st'

theorem efuseActive_eq (i : Rat) (vi vo : Nat) (tick : Rat) : efuseActive c i vi vo tick s =
    if s.fg (Fld.EFU_CH_SOA_SOA c) ≠ 0 ∧ (s.fg (Fld.EFU_CH_SOA_SOA c) : Rat) ≤ s.budgetAfter c i vi vo tick then
      efuseTrip c 2 (activeShown c i vi vo tick s)
    else if (((activeShown c i vi vo tick s).fg (Fld.EFU_CH_LIM_FT c) * 100 : Nat) : Rat) ≤
        timerAfter (s.nextState c i vi vo) (s.efu c).ft tick then efuseTrip c 1 (activeShown c i vi vo tick s)
    else activeShown c i vi vo tick s := rfl

theorem activeShown_fg {f : Fld} (hstate : f.addr ≠ (Fld.EFU_CH_STAT_STATE c).addr) (hstat : f.addr ≠ 0x170000)
    (hsoax : f.addr ≠ Reg.EFU_CH_SOAX c) (hfeed : ∀ n, f.addr ≠ 0x17040C + 32 * n) (i : Rat) (vi vo : Nat) (tick : Rat) :
    (activeShown c i vi vo tick s).fg f = s.fg f := by
  unfold activeShown
  extract_lets st' x e t
  have ht : t.fg f = s.fg f := by
    simp only [t]
    rw [State.fg, rd_wr_other _ _ _ _ hsoax, ← State.fg, setEfu_fg]
  split
  · rw [memberOn_fg hstat hfeed, setEState_fg hstate hstat, ht]
  · rw [setEState_fg hstate hstat, ht]

theorem tripShown_fg {f : Fld} (hstate : f.addr ≠ (Fld.EFU_CH_STAT_STATE c).addr) (hstat : f.addr ≠ 0x170000)
    (hflag : f.addr ≠ (Fld.EFU_CH_FLAG_CAUSE c).addr) (cause : Nat) : (tripShown c cause s).fg f = s.fg f := by
  rw [tripShown, fg_fs_addr _ _ _ _ hflag, setEState_fg hstate hstat, dischargeGate_fg]

/-- The voltages shown by a tick stand, whatever the channel does. -/
theorem tickActs_vmon (hc : c < 8) {f : Fld} (hf : f.addr = 0x170120 + 64 * c) (i : Rat) (vi vo : Nat) (tick : Rat) :
    (tickActs c i vi vo tick s).fg f = s.fg f := by
  have hstate : f.addr ≠ (Fld.EFU_CH_STAT_STATE c).addr := by rw [hf]; simp only [Fld.EFU_CH_STAT_STATE]; omega
  have hstat : f.addr ≠ 0x170000 := by omega
  have hsoax : f.addr ≠ Reg.EFU_CH_SOAX c := by rw [hf]; simp only [Reg.EFU_CH_SOAX]; omega
  have hflag : f.addr ≠ (Fld.EFU_CH_FLAG_CAUSE c).addr := by rw [hf]; simp only [Fld.EFU_CH_FLAG_CAUSE]; omega
  have hfeed : ∀ n, f.addr ≠ 0x17040C + 32 * n := by intro n; omega
  have hefu : EfuseFld f := ⟨by omega, by omega⟩
  have hshown := activeShown_fg (s := s) hstate hstat hsoax hfeed i vi vo tick
  unfold tickActs
  extract_lets mayStart
  split_ifs
  · exact efuseStart_fg hstate hstat hsoax
  · rfl
  · rfl
  · rw [setEState_fg hstate hstat, dischargeGate_fg]
  · rw [efuseActive_eq]
    split_ifs
    · rw [efuseTrip_fg hefu, tripShown_fg hstate hstat hflag, hshown]
    · rw [efuseTrip_fg hefu, tripShown_fg hstate hstat hflag, hshown]
    · exact hshown

theorem tickActs_rests (i : Rat) (vi vo : Nat) (tick : Rat) (h : s.eState c = 0 ∨ s.eState c = 5) :
    tickActs c i vi vo tick s = s := by
  have hstandby : ¬ s.eState c = eStandby := by rcases h with h | h <;> rw [h] <;> decide
  have hgate : s.gateOn c = false := by rw [gateOn_eq]; rcases h with h | h <;> rw [h] <;> decide
  unfold tickActs
  extract_lets mayStart
  rw [if_neg hstandby, if_pos (by rw [hgate]; rfl)]

theorem tickActs_starts (i : Rat) (vi vo : Nat) (tick : Rat) (hfeed : s.feedOf c = none) (h : s.eState c = 1)
    (hok : (s.efu c).vOk = true) : tickActs c i vi vo tick s = efuseStart c s := by
  unfold tickActs
  rw [hfeed]
  extract_lets mayStart
  rw [if_pos h, hok]
  rfl

theorem tickActs_waits (i : Rat) (vi vo : Nat) (tick : Rat) (h : s.eState c = 1) (hok : (s.efu c).vOk = false) :
    tickActs c i vi vo tick s = s := by
  unfold tickActs
  extract_lets mayStart
  rw [if_pos h, hok]
  rfl

theorem tickActs_active (i : Rat) (vi vo : Nat) (tick : Rat) (hlo : 2 ≤ s.eState c) (hhi : s.eState c ≤ 4)
    (hin : (s.efu c).outN = 0) : tickActs c i vi vo tick s = efuseActive c i vi vo tick s := by
  have hstandby : ¬ s.eState c = eStandby := by unfold eStandby; omega
  have hgate : s.gateOn c = true := decide_eq_true ⟨hlo, hhi⟩
  unfold tickActs
  extract_lets mayStart
  rw [if_neg hstandby, if_neg (by rw [hgate]; decide), if_neg (by rw [hin]; omega)]

section
variable (hsoa : s.fg (Fld.EFU_CH_SOA_SOA c) = 0) (i : Rat) (vi vo : Nat) (tick : Rat)
include hsoa

/-- R365 without an SOA budget: the fault timer alone trips. -/
theorem efuseActive_timer (hc : c < 8) : efuseActive c i vi vo tick s =
    if ((s.fg (Fld.EFU_CH_LIM_FT c) * 100 : Nat) : Rat) ≤ timerAfter (s.nextState c i vi vo) (s.efu c).ft tick then
      efuseTrip c 1 (activeShown c i vi vo tick s)
    else activeShown c i vi vo tick s := by
  have hft : (activeShown c i vi vo tick s).fg (Fld.EFU_CH_LIM_FT c) = s.fg (Fld.EFU_CH_LIM_FT c) :=
    activeShown_fg (by simp only [Fld.EFU_CH_LIM_FT, Fld.EFU_CH_STAT_STATE]; omega)
      (by simp only [Fld.EFU_CH_LIM_FT]; omega) (by simp only [Fld.EFU_CH_LIM_FT, Reg.EFU_CH_SOAX]; omega)
      (by intro n; simp only [Fld.EFU_CH_LIM_FT]; omega) i vi vo tick
  rw [efuseActive_eq, if_neg (by rw [hsoa]; exact fun h => h.1 rfl), hft]

end

theorem activeShown_leaves (i : Rat) (vi vo : Nat) (tick : Rat) (hnext : s.nextState c i vi vo < 8) :
    (activeShown c i vi vo tick s).eState c = s.nextState c i vi vo ∧
    ((activeShown c i vi vo tick s).efu c).ft = timerAfter (s.nextState c i vi vo) (s.efu c).ft tick := by
  have hmember : ∀ t : State, (memberOn c t).eState c = t.eState c ∧ (memberOn c t).efu c = t.efu c := by
    intro t
    refine ⟨memberOn_fg (stateAddr_ne c) (by intro n; simp only [Fld.EFU_CH_STAT_STATE]; omega), ?_⟩
    unfold memberOn
    split
    · rfl
    · extract_lets v
      have hv : v.efu c = t.efu c := by
        simp only [v]
        split
        · rw [fs_efu, fs_efu, setFeedStep_efu]
        · rfl
      rw [fs_efu, fs_efu, hv]
  unfold activeShown
  extract_lets st' x e t
  have hstate : (t.setEState c st').eState c = st' := setEState_eState hnext
  have hefu : (t.setEState c st').efu c = { s.efu c with ft := timerAfter st' (s.efu c).ft tick, x := x } := by
    simp only [t]
    rw [setEState_efu, wr_efu, setEfu_efu]
  split
  · obtain ⟨hm, he⟩ := hmember (t.setEState c st')
    exact ⟨hm.trans hstate, by rw [he, hefu]⟩
  · exact ⟨hstate, by rw [hefu]⟩

end Sys2Proof.Machine
end

section
/-!
PROOFS. E-fuse channels and feeds settled (R362 to R373): a tick by what it measures, then the statement clause by clause.
-/
namespace Sys2Proof.Machine

variable {s : State} {c : Nat}

/-! ### The limit in force (R365, R369) -/

theorem capStep_limEff (hc : c < 8) (hcap : s.fg (Fld.EFU_CH_CAP_CAP c) = 0xFFFF) (tick : Rat) :
    (capStep c tick s).limEff c = s.fg (Fld.EFU_CH_LIM_ILIM c) := by
  have hlim : (Fld.EFU_CH_LIM_ILIM c).addr ≠ 0x170004 := by simp only [Fld.EFU_CH_LIM_ILIM]; omega
  have henf : bitOf ((capStep c tick s).fg Fld.EFU_THR_ENF) c = false := by
    unfold capStep
    extract_lets cap e
    rw [if_pos (.inl hcap)]
    have hkept : ((s.setEfu c { e with reqFor := 0 }).fs Fld.EFU_THR_REQ (setBit (s.fg Fld.EFU_THR_REQ) c false)).fg
        Fld.EFU_THR_ENF = s.fg Fld.EFU_THR_ENF := by
      rw [fg_fs_other _ _ _ _ (by decide) (by decide), setEfu_fg]
    rw [← hkept]
    exact fs_setBit_bit _ _ (by decide) hc
  rw [State.limEff, henf, capStep_fg hlim]
  rfl

/-- A field of a channel's configuration, which no tick writes. -/
def TickKeeps (c : Nat) (f : Fld) : Prop := f.addr ≠ 0x17011C + 64 * c ∧ f.addr ≠ 0x170120 + 64 * c ∧ f.addr ≠ 0x170004

theorem tickMeasured_keeps (uv : Int) (vi vo : Nat) {f : Fld} (hf : TickKeeps c f) :
    (tickMeasured c uv vi vo s).fg f = s.fg f := by
  obtain ⟨hstat, hvmon, hthr⟩ := hf
  exact tickMeasured_fg uv vi vo (.inl hstat) hvmon hthr

theorem tickMeasured_limEff (hc : c < 8) (hcap : s.fg (Fld.EFU_CH_CAP_CAP c) = 0xFFFF) (uv : Int) (vi vo : Nat) :
    (tickMeasured c uv vi vo s).limEff c = s.fg (Fld.EFU_CH_LIM_ILIM c) := by
  have hstat : (Fld.EFU_CH_CAP_CAP c).addr ≠ 0x17011C + 64 * c := by simp only [Fld.EFU_CH_CAP_CAP]; omega
  have hvmon : (Fld.EFU_CH_CAP_CAP c).addr ≠ 0x170120 + 64 * c := by simp only [Fld.EFU_CH_CAP_CAP]; omega
  have hstat' : (Fld.EFU_CH_LIM_ILIM c).addr ≠ 0x17011C + 64 * c := by simp only [Fld.EFU_CH_LIM_ILIM]; omega
  have hvmon' : (Fld.EFU_CH_LIM_ILIM c).addr ≠ 0x170120 + 64 * c := by simp only [Fld.EFU_CH_LIM_ILIM]; omega
  rw [tickMeasured, capStep_limEff hc (by rw [tickTimed_fg, tickShown_fg uv vi vo (.inl hstat) hvmon]; exact hcap),
    tickTimed_fg, tickShown_fg uv vi vo (.inl hstat') hvmon']

theorem nextState_limits {i : Rat} (vi vo : Nat) (h : (s.limEff c : Rat) / 100 ≤ i) : s.nextState c i vi vo = 4 := if_pos h

theorem nextState_stays {i : Rat} (vi vo : Nat) (h : i < (s.limEff c : Rat) / 100) (hon : s.eState c = 3) :
    s.nextState c i vi vo = 3 := by
  unfold State.nextState
  extract_lets lim
  rw [if_neg (not_le.2 h), if_neg (by rw [hon]; decide), if_neg (by rw [hon]; decide)]

/-! ### A tick (R362, R364, R365) -/

theorem efuseTick_vmon (hc : c < 8) (uv : Int) (vi vo : Nat) :
    (efuseTick c uv vi vo s).fg (Fld.EFU_CH_VMON_VI c) = vi % 2 ^ (Fld.EFU_CH_VMON_VI c).width ∧
    (efuseTick c uv vi vo s).fg (Fld.EFU_CH_VMON_VO c) = vo % 2 ^ (Fld.EFU_CH_VMON_VO c).width := by
  obtain ⟨hvi, hvo⟩ := tickMeasured_vmon (s := s) (c := c) uv vi vo
  have haddr : (Fld.EFU_CH_VMON_VI c).addr = 0x170120 + 64 * c := rfl
  rw [efuseTick_eq, tickActs_vmon hc haddr, tickActs_vmon hc (by exact haddr)]
  exact ⟨hvi, hvo⟩

theorem efuseTick_rests (h : s.eState c = 0 ∨ s.eState c = 5) (uv : Int) (vi vo : Nat) :
    (efuseTick c uv vi vo s).eState c = s.eState c := by
  have hrests : (tickMeasured c uv vi vo s).eState c = 0 ∨ (tickMeasured c uv vi vo s).eState c = 5 := by
    rwa [tickMeasured_eState]
  rw [efuseTick_eq, tickActs_rests _ _ _ _ hrests, tickMeasured_eState]

theorem Efu.timers_iff {e : Efu} {ft x okFor : Rat} {outN : Nat} {vOk : Bool} : e.timers = (ft, x, okFor, outN, vOk) ↔
    e.ft = ft ∧ e.x = x ∧ e.okFor = okFor ∧ e.outN = outN ∧ e.vOk = vOk := by
  simp only [Efu.timers, Prod.mk.injEq]

section
variable (uv : Int) {vi : Nat} (vo : Nat) (hfeed : s.feedOf c = none)
  (hlo : 10 * s.fg (Fld.EFU_CH_VWIN_UVIN c) ≤ vi) (hhi : vi ≤ 10 * s.fg (Fld.EFU_CH_VWIN_OVIN c))
include hfeed hlo hhi

theorem efuseTick_starts (h : s.eState c = 1) (hok : (s.efu c).vOk = true ∨ 50000 ≤ (s.efu c).okFor + s.efuTick) :
    efuseTick c uv vi vo s = efuseStart c (tickMeasured c uv vi vo s) := by
  obtain ⟨-, -, -, -, hvok⟩ := Efu.timers_iff.1 (tickMeasured_timers uv vo hfeed hlo hhi)
  rw [efuseTick_eq]
  refine tickActs_starts _ _ _ _ (by rw [tickMeasured_feedOf, hfeed]) (by rw [tickMeasured_eState, h]) ?_
  rw [hvok, Bool.or_eq_true, decide_eq_true_eq]
  exact hok

theorem efuseTick_waits (h : s.eState c = 1) (hok : (s.efu c).vOk = false) (hqual : (s.efu c).okFor + s.efuTick < 50000) :
    (efuseTick c uv vi vo s).eState c = 1 ∧ ((efuseTick c uv vi vo s).efu c).okFor = (s.efu c).okFor + s.efuTick := by
  obtain ⟨-, -, hokFor, -, hvok⟩ := Efu.timers_iff.1 (tickMeasured_timers uv vo hfeed hlo hhi)
  have hwaits : ((tickMeasured c uv vi vo s).efu c).vOk = false := by
    rw [hvok, hok, Bool.false_or, decide_eq_false (not_le.2 hqual)]
  rw [efuseTick_eq, tickActs_waits _ _ _ _ (by rw [tickMeasured_eState, h]) hwaits]
  exact ⟨by rw [tickMeasured_eState, h], hokFor⟩

/-- R365 for a channel whose gate is on, without a cap and without an SOA budget. -/
theorem efuseTick_active (hc : c < 8) (hon : 2 ≤ s.eState c) (hon' : s.eState c ≤ 4)
    (hsoa : s.fg (Fld.EFU_CH_SOA_SOA c) = 0) {st : Nat}
    (hnext : (tickMeasured c uv vi vo s).nextState c (s.efuAmps c uv) vi vo = st) : efuseTick c uv vi vo s =
      if ((100 * s.fg (Fld.EFU_CH_LIM_FT c) : Nat) : Rat) ≤ timerAfter st (s.efu c).ft s.efuTick then
        efuseTrip c 1 (activeShown c (s.efuAmps c uv) vi vo s.efuTick (tickMeasured c uv vi vo s))
      else activeShown c (s.efuAmps c uv) vi vo s.efuTick (tickMeasured c uv vi vo s) := by
  obtain ⟨hft, -, -, hin, -⟩ := Efu.timers_iff.1 (tickMeasured_timers uv vo hfeed hlo hhi)
  have hsoaKept : TickKeeps c (Fld.EFU_CH_SOA_SOA c) := by simp only [TickKeeps, Fld.EFU_CH_SOA_SOA]; omega
  have hlimKept : TickKeeps c (Fld.EFU_CH_LIM_FT c) := by simp only [TickKeeps, Fld.EFU_CH_LIM_FT]; omega
  rw [efuseTick_eq, tickActs_active _ _ _ _ (by rwa [tickMeasured_eState]) (by rwa [tickMeasured_eState]) hin,
    efuseActive_timer (by rw [tickMeasured_keeps _ _ _ hsoaKept, hsoa]) _ _ _ _ hc, hnext, hft,
    tickMeasured_keeps _ _ _ hlimKept, Nat.mul_comm]

/-- A driven channel that takes a state in a tick, and whose fault timer does not end. -/
theorem efuseTick_takes (hc : c < 8) (hon : 2 ≤ s.eState c) (hon' : s.eState c ≤ 4)
    (hsoa : s.fg (Fld.EFU_CH_SOA_SOA c) = 0) {st : Nat} (hst : st < 8)
    (hnext : (tickMeasured c uv vi vo s).nextState c (s.efuAmps c uv) vi vo = st)
    (htime : timerAfter st (s.efu c).ft s.efuTick < (100 * s.fg (Fld.EFU_CH_LIM_FT c) : Nat)) :
    (efuseTick c uv vi vo s).eState c = st ∧
    ((efuseTick c uv vi vo s).efu c).ft = timerAfter st (s.efu c).ft s.efuTick := by
  obtain ⟨hft, -, -, -, -⟩ := Efu.timers_iff.1 (tickMeasured_timers uv vo hfeed hlo hhi)
  rw [efuseTick_active uv vo hfeed hlo hhi hc hon hon' hsoa hnext, if_neg (not_le.2 htime)]
  have hleaves := activeShown_leaves (s := tickMeasured c uv vi vo s) (s.efuAmps c uv) vi vo s.efuTick (by rwa [hnext])
  rwa [hnext, hft] at hleaves

theorem efuseTick_trips (hc : c < 8) (hon : 2 ≤ s.eState c) (hon' : s.eState c ≤ 4)
    (hsoa : s.fg (Fld.EFU_CH_SOA_SOA c) = 0) {st : Nat}
    (hnext : (tickMeasured c uv vi vo s).nextState c (s.efuAmps c uv) vi vo = st)
    (htime : ((100 * s.fg (Fld.EFU_CH_LIM_FT c) : Nat) : Rat) ≤ timerAfter st (s.efu c).ft s.efuTick) :
    (efuseTick c uv vi vo s).eState c = 5 ∧ (efuseTick c uv vi vo s).fg (Fld.EFU_CH_FLAG_CAUSE c) = 1 ∧
    ((efuseTick c uv vi vo s).efu c).gateOff = false := by
  rw [efuseTick_active uv vo hfeed hlo hhi hc hon hon' hsoa hnext, if_pos htime]
  obtain ⟨hstate, hcause, hgate, -⟩ := efuseTrip_leaves (cause := 1)
    (s := activeShown c (s.efuAmps c uv) vi vo s.efuTick (tickMeasured c uv vi vo s)) hc (by decide)
  exact ⟨hstate, hcause, hgate⟩

end

/-! ### A short, a gate check and a cap (R366, R367, R369) -/

theorem hardShort_trips {uv : Int} (hon : s.gateOn c = true)
    (hover : ((3 * s.fg (Fld.EFU_CH_LIM_ILIM c) : Nat) : Rat) < 100 * s.efuAmps c uv) : hardShort c uv s = efuseTrip c 3 s :=
  if_pos ⟨hon, hover⟩

theorem hardShort_idle {uv : Int}
    (h : s.gateOn c = false ∨ 100 * s.efuAmps c uv ≤ ((3 * s.fg (Fld.EFU_CH_LIM_ILIM c) : Nat) : Rat)) :
    hardShort c uv s = s := by
  refine if_neg ?_
  rintro ⟨hon, hover⟩
  rcases h with h | h
  · rw [h] at hon; exact absurd hon (by decide)
  · exact not_le.2 hover h

theorem capGrace_enforces (hreq : bitOf (s.fg Fld.EFU_THR_REQ) c = true)
    (htime : ((100000 * s.fg Fld.EFU_THR_GRACE : Nat) : Rat) ≤ (s.efu c).reqFor) :
    capGrace c s = s.fs Fld.EFU_THR_ENF (setBit (s.fg Fld.EFU_THR_ENF) c true) := if_pos ⟨hreq, htime⟩

theorem capGrace_idle (h : bitOf (s.fg Fld.EFU_THR_REQ) c = false ∨
    (s.efu c).reqFor < ((100000 * s.fg Fld.EFU_THR_GRACE : Nat) : Rat)) : capGrace c s = s := by
  refine if_neg ?_
  rintro ⟨hreq, htime⟩
  rcases h with h | h
  · rw [h] at hreq; exact absurd hreq (by decide)
  · exact not_le.2 h htime

theorem enableChanged_toStandby (hen : s.efuEnabled c = true) (hoff : (s.efu c).gateOff = true) :
    (enableChanged c false s).eState c = 1 := by
  rw [enableChanged_rises hen, if_pos hoff]
  exact setEState_eState (by decide)

theorem enableChanged_notesRise (hen : s.efuEnabled c = true) (hoff : (s.efu c).gateOff = false) :
    ((enableChanged c false s).efu c).rise = true := by
  rw [enableChanged_rises hen, if_neg (by rw [hoff]; decide), setEfu_efu]

theorem deadTime_idle {f : Nat} (h : s.feedStep f ≠ 2) : deadTime f s = s := if_neg h

/-- Settles O40: a channel's tick, its gate and its enable, then the feeds clause by clause. -/
theorem efusesAndFeeds : Obligations.EfusesAndFeeds := by
  unfold Obligations.EfusesAndFeeds
  refine ⟨⟨fun c uv vi vo s hlive => ⟨?tick, fun hfeed hlo hhi => ⟨fun hstate => ?standby,
      fun hon hon' hcap hsoa => ?active⟩⟩, fun c s hlive => ?gate, fun p c s hreach => ?enable,
      fun c s => ⟨enableChanged_toStandby, enableChanged_notesRise, fun h => (enableChanged_falls h).1⟩⟩,
    fun f s hlive => ⟨fun i hcount hstep hbest h => done_eq hlive (feedChangeover_starts hcount hstep hbest h),
      fun hcount hstep hbest hsel hlost => done_eq hlive ?lostBare,
      fun hcount hstep hbest hlost c hsel hhealthy => done_eq hlive ?lostMember,
      fun h => done_eq hlive (feedChangeover_stays h), fun hstep h => done_eq hlive (feedReturn_starts hstep h),
      fun h => done_eq hlive (feedReturn_stays h), fun i hstep hbest => done_eq hlive (deadTime_selects hstep hbest),
      fun hstep hbest => done_eq hlive (deadTime_loses hstep hbest), fun hstep => done_eq hlive (deadTime_idle hstep),
      changeoverStart_shown f.isLt, feedLost_leaves f.isLt⟩⟩
  case tick =>
    obtain ⟨hvi, hvo⟩ := efuseTick_vmon (s := s) c.isLt uv vi vo
    exact ⟨_, done_eq hlive rfl, hvi, hvo, fun h => efuseTick_rests h uv vi vo⟩
  case standby =>
    exact ⟨fun hok => ⟨_, done_eq hlive (efuseTick_starts uv vo hfeed hlo hhi hstate hok), efuseStart_leaves⟩,
      fun hok hqual => ⟨_, done_eq hlive rfl, efuseTick_waits uv vo hfeed hlo hhi hstate hok hqual⟩⟩
  case active =>
    have hlim := tickMeasured_limEff (s := s) c.isLt hcap uv vi vo
    refine ⟨fun hover => ?_, fun hunder hthree htime => ?_⟩
    · have hnext := nextState_limits (s := tickMeasured c uv vi vo s) (c := c) (i := s.efuAmps c uv) vi vo
        (by rwa [hlim])
      exact ⟨fun htime => ⟨_, done_eq hlive rfl,
          efuseTick_takes uv vo hfeed hlo hhi c.isLt hon hon' hsoa (by decide) hnext htime⟩,
        fun htime => ⟨_, done_eq hlive rfl, efuseTick_trips uv vo hfeed hlo hhi c.isLt hon hon' hsoa hnext htime⟩⟩
    · have hnext := nextState_stays (s := tickMeasured c uv vi vo s) (c := c) vi vo (by rwa [hlim])
        (by rw [tickMeasured_eState, hthree])
      exact ⟨_, done_eq hlive rfl, efuseTick_takes uv vo hfeed hlo hhi c.isLt hon hon' hsoa (by decide) hnext htime⟩
  case gate =>
    refine ⟨fun uv hon hover => ⟨_, done_eq hlive (hardShort_trips hon hover), efuseTrip_leaves c.isLt (by decide)⟩,
      fun uv h => done_eq hlive (hardShort_idle h), fun mv hoff => ⟨fun hmv => ?_, fun hmv => ?_⟩,
      fun mv hon => done_eq hlive (gateCheck_driven mv hon), fun level => done_eq hlive rfl,
      fun hreq htime => done_eq hlive (capGrace_enforces hreq htime), fun h => done_eq hlive (capGrace_idle h)⟩
    · exact ⟨_, done_eq hlive (gateCheck_off hoff hmv), gateVerified_leaves⟩
    · exact ⟨_, done_eq hlive (gateCheck_high hoff hmv), gateFailed_flag c.isLt⟩
  case enable =>
    intro v
    refine ⟨fun h => write_eq hreach (efuseEnable_refused h), fun hlo hhi => write_eq hreach (efuseEnable_enables hlo hhi),
      fun hen => ⟨_, write_eq hreach efuseEnable_disables, ?_⟩, fun hen => write_eq hreach ?_⟩
    · rw [hen]
      exact enableChanged_falls fs_disabled
    · rw [efuseEnable_disables, hen, enableChanged_same fs_disabled]
  case lostBare =>
    refine (feedChangeover_loses hcount hstep hbest hlost (fun c hc => ?_)).trans (by rw [hsel])
    rw [hsel] at hc
    cases hc
  case lostMember =>
    refine (feedChangeover_loses hcount hstep hbest hlost (fun d hd => ?_)).trans (by rw [hsel])
    rw [hsel] at hd
    cases hd
    exact hhealthy

end Sys2Proof.Machine
end
